-- ==== Sys2Proof/Word.lean ====
section
/-! DEFINITION. The word types of the model: bytes, register words, the three masters of R410, and the access and
persistence classes of R9 and R15. -/
namespace Sys2Proof

/-- A byte of memory, of a frame or of a message. -/
abbrev Byte := BitVec 8

/-- A 32-bit register word (R296). -/
abbrev Word := BitVec 32

/-- The three sources of register accesses; the codes are those of PG_ERR_CAPT2.MASTER (R410). -/
inductive Master where
  | host | sideband | firmware
deriving DecidableEq, Repr

/-- The master code of R410. -/
def Master.code : Master → Nat
  | .host => 0
  | .sideband => 1
  | .firmware => 2

/-- The access types of R9; `const` is a field whose Keep column reads "—" (R413). -/
inductive Access where
  | ro | rw | w1c | w1s | rc | wo | rwd
deriving DecidableEq, Repr

/-- The persistence classes of R15; `C` is a constant (R413). -/
inductive Keep where
  | H | T | L | V | C
deriving DecidableEq, Repr

/-- The reset kinds of R14. -/
inductive ResetKind where
  | por | supply | pin | wdog | soft
deriving DecidableEq, Repr

/-- One register field: its first page, how many pages carry it (one per instance), the byte offset of element 0,
the distance between elements, how many elements there are, the lowest bit, the width, the access type, the reset
value, the persistence class, and whether each master has a copy of its own (R412).  `resets` overrides the reset
value of the first elements where the table gives one per element. -/
structure Fld where
  page : Nat
  pages : Nat
  off : Nat
  stride : Nat
  count : Nat
  lo : Nat
  width : Nat
  access : Access
  reset : Nat
  keep : Keep
  perMaster : Bool
  resets : List Nat
deriving DecidableEq, Repr

end Sys2Proof
end

