-- ==== Sys2Proof/Machine/Map.lean ====
section
/-! DEFINITION. Sparse maps in one canonical form, as every memory and register bank of the model keeps them: a list
of (key, value) pairs, keys strictly rising, no entry equal to what an unlisted key reads as.  The default is a
function of the key, so that an identity map is the empty list. -/
namespace Sys2Proof.Machine

/-- A sparse map from numbers. -/
abbrev AMap (V : Type) := List (Nat × V)

variable {V : Type}

/-- The entry of a key, if the map lists one. -/
def AMap.find (m : AMap V) (k : Nat) : Option V :=
  match m with
  | [] => none
  | (a, v) :: r => if k = a then some v else AMap.find r k

/-- What a key reads as. -/
def AMap.get (d : Nat → V) (m : AMap V) (k : Nat) : V := (AMap.find m k).getD (d k)

/-- List a key with a value, in its place. -/
def AMap.ins (m : AMap V) (k : Nat) (v : V) : AMap V :=
  match m with
  | [] => [(k, v)]
  | (a, x) :: r =>
    if k < a then (k, v) :: (a, x) :: r
    else if k = a then (k, v) :: r
    else (a, x) :: AMap.ins r k v

/-- Unlist a key. -/
def AMap.del (m : AMap V) (k : Nat) : AMap V := m.filter (fun c => c.1 != k)

/-- Write a key: a value equal to the default unlists it. -/
def AMap.set [DecidableEq V] (d : Nat → V) (m : AMap V) (k : Nat) (v : V) : AMap V :=
  if v = d k then AMap.del m k else AMap.ins m k v

/-- The keys rise strictly. -/
abbrev AMap.Sorted (m : AMap V) : Prop := m.Pairwise (fun a b => a.1 < b.1)

/-- The canonical form. -/
abbrev AMap.Wf (d : Nat → V) (m : AMap V) : Prop := AMap.Sorted m ∧ ∀ c ∈ m, c.2 ≠ d c.1

/-- Bits [lo+w-1 : lo] of a number. -/
def bits (v lo w : Nat) : Nat := v / 2 ^ lo % 2 ^ w

/-- Bit n of a number as a Bool. -/
def bit (v n : Nat) : Bool := v / 2 ^ n % 2 == 1

/-- A Bool as a one-bit number. -/
def b2n (b : Bool) : Nat := if b then 1 else 0

/-- A number with bit n set to b. -/
def setBit (v n : Nat) (b : Bool) : Nat :=
  if bit v n = b then v else if b then v + 2 ^ n else v - 2 ^ n

/-- A number of width w read as two's complement. -/
def toSigned (w v : Nat) : Int := if v < 2 ^ (w - 1) then (v : Int) else (v : Int) - 2 ^ w

/-- An integer as a two's complement field of width w. -/
def ofSigned (w : Nat) (x : Int) : Nat := (x % (2 ^ w : Int)).toNat

/-- Clamp to [lo, hi]. -/
def clampNat (lo hi v : Nat) : Nat := max lo (min hi v)

/-- Clamp an integer to [lo, hi]. -/
def clampInt (lo hi v : Int) : Int := max lo (min hi v)

/-- ⌈a / b⌉. -/
def ceilDiv (a b : Nat) : Nat := (a + b - 1) / b

/-- Bytes, least significant first, as a number (R44). -/
def leNat (bs : List Byte) : Nat :=
  match bs with
  | [] => 0
  | b :: r => b.toNat + 256 * leNat r

/-- Bytes, most significant first, as a number (network order). -/
def beNat (bs : List Byte) : Nat := leNat bs.reverse

/-- A number as n bytes, least significant first. -/
def leBytes (n v : Nat) : List Byte :=
  match n with
  | 0 => []
  | n + 1 => BitVec.ofNat 8 v :: leBytes n (v / 256)

/-- A number as n bytes, most significant first. -/
def beBytes (n v : Nat) : List Byte := (leBytes n v).reverse

/-- The bytes [off, off + n) of a list. -/
def sub (bs : List Byte) (off n : Nat) : List Byte := (bs.drop off).take n

/-- Zero-extend (or cut) a list of bytes to n bytes. -/
def padTo (n : Nat) (bs : List Byte) : List Byte := bs.take n ++ List.replicate (n - bs.length) 0

end Sys2Proof.Machine
end

