-- ==== Sys2Proof/Machine/Records.lean ====
section
/-! DEFINITION. The records State is made of, block by block: the Last memory, the frames in flight and their copies,
the meters, the schedulers, Lace, the MACs, and the rest.  All of them are plain data. -/
namespace Sys2Proof.Machine

/-- The register cells, one map per persistence class of R15 that is stored; a cell holds the exclusive-or of the
field's value with its reset value, so that an unlisted cell reads its reset value (see State.get). -/
structure RegFile where
  h : AMap Nat
  t : AMap Nat
  v : AMap Nat
deriving DecidableEq, Repr

/-- One section of the applied Last (R46). -/
structure Section where
  type : Nat
  live : Bool
  prio : Bool
  first : Nat
  pages : Nat
  bytes : Nat
deriving DecidableEq, Repr

/-- Last memory, its indirection table and the change set (R43–R70). -/
structure Lst where
  /-- Last memory by physical byte address; an unlisted byte reads 0 (assumption log 6). -/
  mem : AMap Byte
  /-- The indirection table: logical page to physical page; unlisted pages map to themselves. -/
  ind : AMap Nat
  /-- Free spare pages given back since the mapping was last the identity. -/
  freed : List Nat
  /-- Spare pages from here to 65,535 have not been used since then. -/
  fresh : Nat
  /-- The staged pages of the open or pending set: logical page to physical page. -/
  staged : AMap Nat
  /-- The pages held for the previous epoch: logical page to physical page. -/
  held : AMap Nat
  /-- The change-set list region, 65,536 bytes. -/
  list : AMap Byte
  /-- The section table of the applied image, its LENGTH, and the moment it was applied (elapsed time, R186). -/
  secs : List Section
  length : Nat
  appliedAt : Nat
  /-- A reload in progress takes its image from the host (true) or from flash. -/
  fromHost : Bool
  /-- A reload's image has passed its checks and is being applied. -/
  applying : Bool
  /-- The draw of the undefined bytes of a host reload (R50), and the addresses that the host has written since. -/
  undef : Option Nat
  written : AMap Bool
  /-- A boot has applied the priority sections and not yet the rest (R386 step 4). -/
  prio : Bool
  /-- The moment of the last flip, and whether the drain limit has passed since (R65). -/
  flipAt : Nat
  purged : Bool
  /-- While a reload runs: the port modes and PTP_CFG of the Last that it replaces, which stay in effect until the new one is
  applied (R69 step 3). -/
  apart : Option (Option (List Byte) × Option (List Byte))
deriving DecidableEq, Repr

/-- The fault concentrator's working state (R321–R327). -/
structure Flt where
  /-- One 16-bit counter for each fault code. -/
  codes : AMap Nat
  /-- When the reports of the last 10 µs arrived. -/
  recent : List Nat
  /-- When a primary was last recorded. -/
  lastRec : Option Nat
  /-- The storm may still record its first primary (R326). -/
  stormTake : Bool
  /-- Reports in the present 100 µs storm period. -/
  period : Nat
  /-- When each page last reported a primary, plus 1. -/
  lastPrimary : AMap Nat
deriving DecidableEq, Repr

/-- A header kind of R77, as the parse graph names it. -/
inductive HdrKind where
  | eth | vlan | llc | snap | rtag | sectag | ipv4 | ipv6
  | ext (t : Nat) | esp | udp | tcp | gre | vxlan | avtp | acf | opq
deriving DecidableEq, Repr

/-- A length check that waits for the end of the frame (R90, R91): a claimed extent from an offset; `eq` when it must
be exact and has no padding rule (SecTAG SL), `le` when it may only not be greater (AVTP, ACF); `sec` when the extent
ends before an ICV. -/
structure LateCheck where
  off : Nat
  claim : Nat
  eq : Bool
  le : Bool
  sec : Bool
deriving DecidableEq, Repr

/-- What selects the header that follows the last one parsed (R77): the start of the frame or of an inner Ethernet frame,
an EtherType or 802.3 length, an IP protocol or next header, a UDP destination port, the subtype of an AVTP header; or the
parse ends after a terminal node (R78). -/
inductive Sel where
  | start | ether (v : Nat) | proto (v : Nat) | udp (port : Nat) | subtype (v : Nat) | stop
deriving DecidableEq, Repr

/-- The parse state of a frame in a Clicker context. -/
structure Parse where
  depth : Nat
  hdrs : List HdrKind
  /-- Offset at which each header begins, behind the type field that selects it. -/
  offs : List Nat
  /-- The nodes of the parse graph passed: a code of each header and of what selected it. -/
  path : List Nat
  sel : Sel
  /-- Parse steps of 16 bytes executed (R75). -/
  steps : Nat
  /-- The end offset of the innermost extent that a header's length field gives. -/
  extent : Option Nat
  /-- The length of the inner Ethernet frame, for the padding rule of R92. -/
  inner : Option Nat
  late : List LateCheck
  ended : Bool
  outcome : Option Nat
deriving DecidableEq, Repr

/-- Where a frame is on the path of R20: waiting for dispatch, in a Clicker context, ready in its reorder slot, or
released to the fabric. -/
inductive Stage where
  | waiting
  | clicker (c k : Nat)
  | ready
  | out
deriving DecidableEq, Repr

/-- What the stages before enqueue decided of a frame. -/
inductive Fate where
  | none
  | drop
  | punt (reason : Nat)
  | permit (mask : Nat)
  | direct (port queue : Nat)
deriving DecidableEq, Repr

/-- A pool of the Sole (R146): the minimum of service 8p + s, the express reserve, or the shared pool. -/
inductive Pool where
  | min (svc : Nat)
  | reserve
  | shared
deriving DecidableEq, Repr

/-- A frame record (R19), with the frame's bytes and its progress on the path. -/
structure Frame where
  id : Nat
  port : Nat
  /-- DA through FCS, as received (decrypted where Toecap decrypts at ingress). -/
  bytes : List Byte
  /-- Frame bytes as received at the MAC (R116). -/
  rxLen : Nat
  /-- Elapsed time at its timestamp point, and its timestamp in domains 0 and 1, in ns (R189). -/
  at_ : Nat
  t0 : Nat
  t1 : Nat
  epoch : Nat
  whole : Bool
  /-- Bytes of the receive FIFO it holds. -/
  fifo : Nat
  stage : Stage
  slot : Bool
  timer : Option Nat
  parse : Parse
  fate : Fate
  /-- The reason of a drop by the port default that its end will count (R88, R89). -/
  pdrop : Option Nat
  handle : Option Nat
  yellow : Bool
  /-- The DEI mark of its meter (R115). -/
  markDei : Bool
  /-- Sessions that have made or been refused their copy: bit n of session n. -/
  mirrored : Nat
  /-- Sessions whose copy is made when the frame is released. -/
  mirrorDue : List Nat
  puntCode : Nat
  srcBus : Option Nat
  /-- The ingress port has counted POISONED for it. -/
  poisoned : Bool
  /-- Toecap decrypted or authenticated it at ingress: bytes of SecTAG to strip, and the ICV behind the data. -/
  secTag : Option Nat
  /-- The receive SA slot of a MACsec frame whose ICV verdict is due, with the packet number recovered. -/
  rxSa : Option (Nat × Nat)
  icvOk : Bool
  /-- The frame check sequence of the bytes as received is right. -/
  fcsOk : Bool
  /-- The chain of cells that it holds (R144), and the bytes of it whose writes have been asked of the fabric (R126). -/
  cells : List Nat
  stored : Nat
  /-- Pool of the first admitted copy. -/
  pool : Option Pool
  /-- Copies enqueued, for FAB_REP. -/
  enqueued : Nat
  /-- An Awl route the frame is handed to. -/
  route : Option Nat
  /-- It has been dropped while it arrives, and whether its MAC has counted it already: the rest of it is received and goes
  nowhere. -/
  lost : Option Bool
  /-- A Toecap receive check that the frame failed before the Clickers (R278): the count of TCA_PORT_SEL's list, and the
  code and binding of R288 where it is a failure of that rule. -/
  toecap : Option (Nat × Option (Nat × Nat))
deriving DecidableEq, Repr

/-- The state of one copy. -/
inductive CopySt where
  | queued | chosen | sending | preempted
deriving DecidableEq, Repr

/-- A copy of a frame, from its enqueue until it has left (R148). -/
structure Copy where
  id : Nat
  frame : Nat
  port : Nat
  svc : Nat
  queue : Nat
  epoch : Nat
  ct : Bool
  st : CopySt
  /-- Mirror session, 0 for none. -/
  mirror : Nat
  /-- Cells of its own: one for a truncated mirror copy (R151). -/
  own : List Nat
  /-- Its bytes where they differ from the frame's own: mirror copies of a rewritten frame, truncated copies. -/
  data : Option (List Byte)
  /-- Bytes charged so far (R176), and whether in the excess round. -/
  charged : Nat
  excess : Bool
  /-- MACsec: SA slot and packet number of a protected copy whose transmission has begun. -/
  sa : Option Nat
  pn : Nat
  /-- Its service was express when it was admitted (R150). -/
  express : Bool
  /-- A TAG_FAIL report that takes the place of a cancelled HP copy (R281). -/
  tagFail : Bool
  /-- Bytes of it that have been asked of the Sole (R126). -/
  asked : Nat
  /-- Elapsed time at which it began or resumed its transmission, and the bytes that it had sent before (R129). -/
  runAt : Nat
  sent : Nat
deriving DecidableEq, Repr

/-- A meter's buckets, in 1/65,536 of a unit, and its counts (R112, R113). -/
structure Meter where
  tc : Nat
  tp : Nat
  last : Nat
  green : Nat
  yellow : Nat
  red : Nat
deriving DecidableEq, Repr

/-- A token bucket in 1/65,536 of a unit, and the moment of its last refill. -/
structure Bucket where
  level : Int
  last : Nat
deriving DecidableEq, Repr

/-- A subscriber's state (R172–R175). -/
structure Sub where
  f : Nat
  /-- Virtual time of its queues. -/
  v : Nat
  c : Bucket
  p : Bucket
  bytes : Nat
deriving DecidableEq, Repr

/-- The schedulers' working state (R167–R182). -/
structure Sched where
  subs : AMap Sub
  /-- Queue tags. -/
  qtags : AMap Nat
  /-- Virtual time of service 8p + s. -/
  vts : AMap Nat
  /-- Subscriber that the commit round of service 8p + s served last, plus 1; the first turn is subscriber 0's (assumption log 18). -/
  rr : AMap Nat
  /-- CB credit of service 8p + s. -/
  credits : AMap Bucket
  /-- Port buckets. -/
  ports : AMap Bucket
  /-- Deferred changes: a queue's old subscriber; a subscriber's old place 8p + s. -/
  qOld : AMap Nat
  sOld : AMap Nat
  /-- Subscribers that took part in the last excess choice of service 8p + s, and queues in the last choice of a subscriber: their
  tags are kept, the others re-enter at the virtual time (R173, R174). -/
  took : AMap (List Nat)
  qTook : AMap (List Nat)
deriving DecidableEq, Repr

/-- The Sole's accounts that no frame carries (R147, R160, R165). -/
structure Sole where
  /-- Per-service drop counts, key 4(8p + s) + kind: 0 full, 1 aged, 2 flushed, 3 epoch. -/
  drops : AMap Nat
  /-- The cells off the free list, each with the pool it is charged to (R147, R165). -/
  taken : AMap Pool
  /-- The 8-bit allocation tag of each cell (R165). -/
  tags : AMap Nat
  /-- Suspect marks of the Cobbler: cell and tag. -/
  marks : List (Nat × Nat)
  /-- The forwarding policy's minimums act as 0 (R153). -/
  minZero : Bool
  /-- Services whose minimum a flip has lowered below the cells charged to it, and that admit nothing through it yet (R153). -/
  barred : List Nat
  /-- Frames of an ingress port counted as FLUSHED; no register shows this count. -/
  rxFlushed : AMap Nat
  /-- Ports whose link has returned during the present flush: HELDS counts a flush once. -/
  held : List Nat
deriving DecidableEq, Repr

/-- The three classes of transfers, in the order in which a slice serves them (R129): reads of cut-through copies and of
express services, all other reads, writes and link passes. -/
inductive XferClass where
  | first | read | write
deriving DecidableEq, Repr

/-- What a transfer carries (R126): bytes of frame f into the Sole, a link pass of frame f, or bytes of copy c to its egress. -/
inductive XferOf where
  | write (f : Nat) | link (f : Nat) | read (c : Nat)
deriving DecidableEq, Repr

def XferOf.isRead (x : XferOf) : Bool := match x with
  | .read _ => true
  | _ => false
def XferOf.isWrite (x : XferOf) : Bool := match x with
  | .write _ => true
  | _ => false

/-- A transfer, with the bytes of it that have not been carried. -/
structure Xfer where
  of : XferOf
  bytes : Nat
deriving DecidableEq, Repr

/-- A fabric slice's transfers waiting, in the three classes of R129 and the order requested; the elapsed time to which they
have been served, the part of a handshake that is under way then (in 1/1000), whether the slice has reported a pace since it
entered service, and the handshakes completed in the present 1 ms window. -/
structure Slice where
  first : List Xfer
  reads : List Xfer
  writes : List Xfer
  servedTo : Nat
  part : Nat
  reported : Bool
  shakes : Nat
deriving DecidableEq, Repr

/-- The fabric's and the governor's working state (R126–R143). -/
structure Fab where
  slices : AMap Slice
  /-- Transfers that wait for a slice to be in service. -/
  undealt : List (XferClass × Xfer)
  /-- Slice n rejoined at, plus 1. -/
  rejoinAt : AMap Nat
  /-- Slices stalled and waiting for their rejoin. -/
  stalled : List Nat
  /-- The present 1 ms window: cells written, copies of them enqueued, frame bytes written and read. -/
  cells : Nat
  copies : Nat
  written : Nat
  read : Nat
  /-- The demand of the last complete window, in bits. -/
  demand : Nat
  /-- The lowest pace of the slices in service since the governor last acted. -/
  lowest : Option Nat
  /-- The governor's PMBus transactions due, oldest first: 0 VOUT_MODE, 1 VOUT_COMMAND, 2 READ_VOUT. -/
  bus : List Nat
  /-- A failed PMBus transaction is being retried. -/
  retry : Bool
  /-- GOV_LIMIT has been raised for the present limit. -/
  limited : Bool
  /-- When the last supply warning ended or began. -/
  warnAt : Option Nat
deriving DecidableEq, Repr

/-- Dispatch, reorder and punt state of the Clickers (R94–R100). -/
structure Clr where
  frames : List Frame
  copies : List Copy
  nextId : Nat
  /-- Port whose turn is next, Clicker whose turn is next. -/
  rrPort : Nat
  rrClk : Nat
  /-- A Clicker's last rejoin, plus 1. -/
  rejoinAt : AMap Nat
  /-- Clickers out of rotation after a stall, waiting to rejoin. -/
  stalled : List Nat
  /-- The punt bucket in 1/10⁹ token, and its last refill. -/
  tokens : Nat
  puntLast : Nat
  /-- Step-engine time that each Clicker has reserved in the present 1 ms window, in quarters of a step time (R76). -/
  reserved : AMap Nat
  /-- Meters that differ from their start, and when the meters were last started (R113). -/
  meters : AMap Meter
  metersAt : Nat
  /-- Per-flow frame and byte counters, by handle. -/
  fcFrames : AMap Nat
  fcBytes : AMap Nat
deriving DecidableEq, Repr

/-- An armed trigger output (R210): its settings, its next edge in domain ns, when its last pulse rose (elapsed time),
and its level in mode 2. -/
structure Trg where
  mode : Nat
  domain : Nat
  width : Nat
  period : Nat
  next : Option Nat
  pulseAt : Option Nat
  level : Bool
deriving DecidableEq, Repr

/-- The time base (R184–R210).  Clocks are counts of 2⁻³² ns. -/
structure Tim where
  /-- Elapsed time on domain 0's rate-adjusted ticks, which no step moves (R186). -/
  elapsed : Nat
  /-- The domain clocks. -/
  clk0 : Nat
  clk1 : Nat
  /-- Successive Sync messages within LOCK_THR, by domain (R187). -/
  good0 : Nat
  good1 : Nat
  /-- The SYNC_IN follower: offset, target of an accepted edge, periods missed, and the settings taken at EN. -/
  syncO : Int
  syncTarget : Option Int
  syncMissed : Nat
  /-- The part of the last change of the offset that the 1 ns limit held back (R207). -/
  syncRest : Int
  syncDomain : Nat
  syncPol : Nat
  syncPeriod : Nat
  /-- Captures of EVT_IN[i], oldest first: input, domain time in ns, rising. -/
  evt : List (Nat × Nat × Bool)
  /-- Armed trigger outputs. -/
  trg : AMap Trg
  /-- When PPS_OUT last rose (elapsed time). -/
  ppsAt : Option Nat
  /-- Transmit timestamps in domains 0 and 1, in ns: the last frame sent by Ethernet port p, and at 64 + c by CAN channel c (R189). -/
  sent : AMap (Nat × Nat)
deriving DecidableEq, Repr

/-- A gate control list (R192, R193): header fields, and entries as (interval, gates, op). -/
structure GateList where
  base : Nat
  cycle : Nat
  ext : Nat
  len : Nat
  domain : Nat
  syncEn : Bool
  guard : Bool
  preempt : Bool
  verifyDis : Bool
  express : Nat
  addFrag : Nat
  holdAdv : Nat
  relAdv : Nat
  entries : List (Nat × Nat × Nat)
deriving DecidableEq, Repr

/-- The Lace of one port (R194–R203). -/
structure Lace where
  oper : GateList
  admin : Option GateList
  /-- Config change time of a pending swap, ns of the admin domain (R198). -/
  cct : Nat
  /-- Domain time at which the present cycle and the present entry began. -/
  cycleAt : Nat
  entryAt : Nat
  /-- The last entry's gates hold until the next boundary. -/
  tail : Bool
  hold : Bool
  /-- Verification of IEEE 802.3br: attempts made, and success (R202). -/
  attempts : Nat
  verified : Bool
deriving DecidableEq, Repr

/-- A MAC's working state (R211–R224). -/
structure Mac where
  /-- The mode, and 16 times the FEC, with which it linked. -/
  mode : Nat
  /-- When the transmitter came to be held by pause (R224). -/
  heldAt : Option Nat
  /-- Held time, in ns, that TX_PAUSED_US does not show yet (R226). -/
  heldNs : Nat
  /-- The MAC has sent XOFF and not yet XON (R223). -/
  xoff : Bool
  /-- Attempts of the copy in collision (R231). -/
  attempts : Nat
  /-- The last frame that the port has sent, DA through FCS, as it was on the wire. -/
  sent : List Byte
  /-- A keep-alive that waits for the line, and one in transmission (R366). -/
  ka : Option (List Byte)
  kaTx : Option (List Byte)
deriving DecidableEq, Repr

/-- Why a link condition fails (R214), as LINK_DOWN reports it. -/
inductive LinkFail where
  | blockLock | hiBer | localFault | remoteFault | signal | cdr | inBandWord
deriving DecidableEq, Repr

/-- The 64-bit counters whose low word clears them on a read (R227): frames classified by a Clicker, bytes moved by a
slice, a count of a MAC, messages of an Awl engine. -/
inductive Counter64 where
  | clrFrames (c : Fin 24) | fabXfer (k : Fin 4) | macCnt (p : Fin 32) (k : Fin 40) | awlMsgs (e : Fin 16)
deriving DecidableEq, Repr

/-- What the line brought with a received frame, since the frame before it (R226): whether a PCS error character lies inside it,
errored blocks or code violations, FEC codewords corrected and not correctable, the additional fragments in which it came,
and whether its reassembly failed. -/
structure RxLine where
  symErr : Bool
  errBlocks : Nat
  corrected : Nat
  uncorrected : Nat
  frags : Nat
  mmErr : Bool
deriving DecidableEq, Repr

/-- A frame that came whole over a clean line. -/
def RxLine.clean : RxLine := ⟨false, 0, 0, 0, 0, false⟩

/-- A write of a test register (R225). -/
inductive TestReg where
  | mac (loop : Nat)
  | sds (loop prbsTx prbsRx : Nat)
deriving DecidableEq, Repr

/-- A condition of cautious forwarding with a hold time (R34). -/
inductive HoldCause where
  | supply | pace | fault | portFault (p : Nat)
deriving DecidableEq, Repr

/-- An MDIO transaction: bus, requester, C45, op, PHY, register, data (R233). -/
structure MdioReq where
  bus : Nat
  master : Nat
  c45 : Bool
  op : Nat
  phy : Nat
  reg : Nat
  data : Nat
deriving DecidableEq, Repr

/-- A loaded key (R270–R274). -/
structure KeySlot where
  long : Bool
  plain : Bool
  key : List Byte
deriving DecidableEq, Repr

/-- The packet-number state of an SA slot (R274, R283): suite, direction, SSCI, salt, next or lowest acceptable PN, the
last PN used where the SA is exhausted, and its counts. -/
structure SaState where
  suite : Nat
  tx : Bool
  ssci : Nat
  salt : List Byte
  pn : Nat
  threshold : Bool
  exhausted : Bool
  ok : Nat
  bad : Nat
deriving DecidableEq, Repr

/-- Toecap (R266–R292).  Keys are listed by class × 4096 + index: class 0 KW, 1 SA, 2 PDU. -/
structure Toecap where
  keys : AMap KeySlot
  /-- The retention store, which KW0 wraps (R274). -/
  kept : AMap KeySlot
  sas : AMap SaState
  /-- Freshness counters, and those that have passed their threshold or been exhausted. -/
  fv : AMap Nat
  fvThresh : List Nat
  fvExhausted : List Nat
  /-- The event FIFO, oldest first: index, type. -/
  evt : List (Nat × Nat)
  /-- TCA_EVT has been read empty since the last EVENT (R292). -/
  evtArmed : Bool
  /-- Port counts, key port × 16 + position in the snapshot list. -/
  counts : AMap Nat
  /-- The load or erase in progress: operation 1 or 2, 0 none. -/
  op : Nat
  /-- An alarm has locked Toecap (R291): it outlives PD18 and a BLOCK reset. -/
  locked : Bool
deriving DecidableEq, Repr

/-- Formats of R244, with the codes of R256. -/
inductive BusFmt where
  | classic | fd | xl | lin
deriving DecidableEq, Repr

/-- A bus message (R244, R256).  A remote frame has as many zero bytes as its DLC says. -/
structure Msg where
  bus : Nat
  fmt : BusFmt
  id : Nat
  ide : Bool
  rtr : Bool
  brs : Bool
  esi : Bool
  sec : Bool
  sdt : Nat
  vcid : Nat
  af : Nat
  data : List Byte
  epoch : Nat
  /-- Elapsed time from which its age counts (R240). -/
  at_ : Nat
  /-- Start-of-frame time in domains 0 and 1, ns. -/
  sof0 : Nat
  sof1 : Nat
  /-- Verified at step 4 of R247. -/
  auth : Bool
deriving DecidableEq, Repr

/-- A frame on the channel that the fall-back trim measures (R347): this device sends it, it ends in an error, and the
spacings of its successive recessive-to-dominant edges in the nominal phase, in protocol-clock cycles. -/
structure TrimFrame where
  own : Bool
  bad : Bool
  gaps : List Nat
deriving DecidableEq, Repr

/-- A PLCA cycle that the fall-back trim sees (R348): whether no node transmitted in it, and its BEACON period in ns. -/
structure PlcaCycle where
  empty : Bool
  ns : Nat
deriving DecidableEq, Repr

/-- A CAN frame as its bus carries it (CAN_FRAME_RX). -/
structure CanWire where
  fmt : BusFmt
  id : Nat
  ide : Bool
  rtr : Bool
  brs : Bool
  esi : Bool
  sec : Bool
  sdt : Nat
  vcid : Nat
  af : Nat
  data : List Byte
deriving DecidableEq, Repr

/-- What a CAN controller transmits. -/
inductive CanTx where
  | idle | buffer | slot (n : Nat) (m : Msg) | keepAlive
  /-- A priority frame whose buffer a BLOCK reset has emptied: it goes on, and is not sent again. -/
  | lone (m : Msg)
deriving DecidableEq, Repr

/-- How a CAN transmission ended (CAN_TX_DONE). -/
inductive CanEnd where
  | ok | lostArbitration | error
deriving DecidableEq, Repr

/-- How a LIN response ended (LIN_RESPONSE_RX). -/
inductive LinEnd where
  | ok (data : List Byte) | checksum | bitError | collision
deriving DecidableEq, Repr

/-- A CAN channel (R238–R242, R257–R259).  A buffered frame in transmission stays at the head of `tx`; a slot's frame has left its slot for `sending`. -/
structure Can where
  rx : List Msg
  tx : List Msg
  slots : AMap Msg
  /-- Slots whose WINDOW is open. -/
  windows : List Nat
  sending : CanTx
  /-- Bus-off recovery is under way, or waits for REC_DELAY. -/
  recovering : Bool
  waiting : Bool
  /-- The transceiver's hold on the controller (R242): 0 normal, 1 restricted, 2 off. -/
  hold : Nat
  /-- A keep-alive waits to be sent ahead of queued copies (R366). -/
  ka : Option Msg
  /-- New CAN_SCHED entries wait for the end of the frame in progress (R242). -/
  due : Bool
deriving DecidableEq, Repr

/-- A publish buffer (R262): bytes, the epoch it holds until it is sent, and whether written since last sent. -/
structure Publish where
  data : List Byte
  epoch : Option Nat
  fresh : Bool
deriving DecidableEq, Repr

/-- A LIN channel (R260–R263). -/
structure Lin where
  rx : List Msg
  pub : AMap Publish
  /-- A header is out and its response is awaited: frame ID. -/
  expect : Option Nat
  /-- The present header is that of an event-triggered entry with this ALT table. -/
  event : Option Nat
  /-- Tables and entries to go back to after each ALT table has run once, the innermost first. -/
  back : List (Nat × Nat)
  /-- The next entry to start. -/
  next : Nat
  /-- Wake pulses sent and not yet answered. -/
  wakes : Nat
  /-- A table that LIN_CTRL.TABLE asked for and that has not begun. -/
  req : Option Nat
deriving DecidableEq, Repr

/-- An Ethernet frame in an AP input queue: bytes without FCS, with its epoch, timestamp and route, and DEI of its outer tag as
received (R114). -/
structure ApFrame where
  bytes : List Byte
  rxLen : Nat
  epoch : Nat
  at_ : Nat
  route : Nat
  dei : Bool
deriving DecidableEq, Repr

/-- An encapsulation stream's open frame and counters (R254, R255). -/
structure AwlStream where
  msgs : List Msg
  seq : Nat
deriving DecidableEq, Repr

/-- The Awl engines, CAN and LIN channels. -/
structure Awl where
  /-- The AP input queues, by engine, oldest first. -/
  ap : AMap (List ApFrame)
  /-- Whose turn it is: 0–3 CAN, 4 LIN, 5 the AP queue. -/
  turn : AMap Nat
  can : AMap Can
  lin : AMap Lin
  streams : AMap AwlStream
  hits : AMap Nat
  drops : AMap Nat
  /-- Routes that each engine has executed in the present 1 ms window. -/
  routed : AMap Nat
  /-- The last bundle SEQUENCE seen on a virtual bus. -/
  seen : AMap Nat
  /-- The CAN_SCHED and LIN_SCHED entries that a channel still runs by after a flip, until its next cycle (R62). -/
  canOld : AMap (List Byte)
  linOld : AMap (List Byte)
deriving DecidableEq, Repr

/-- A managed transceiver (R377): its state, whether its last sequence failed, the sequences still to run (START indices),
whether a TXM_CMD asked for them, whether the present one is being run again, the bytes that its last run sent, and the state
for which its cluster or PD16 last asked. -/
structure Txm where
  state : Nat
  err : Bool
  todo : List Nat
  target : Nat
  cmd : Bool
  again : Bool
  sent : List Byte
  want : Nat
deriving DecidableEq, Repr

/-- What may be a keep-alive (R366): an error-free CAN frame by channel and identifier, an error-free LIN header, an error-free LIN
response from another node by frame ID, a good frame of a port from DA onward. -/
inductive KaRx where
  | can (c id : Nat) (ide : Bool) | linHeader (l : Nat) | linResponse (l fid : Nat) | frame (p : Nat) (bytes : List Byte)
deriving DecidableEq, Repr

/-- The wake clusters and their latches (R365–R375). -/
structure Wak where
  /-- When a cluster's running timer began. -/
  timer : AMap Nat
  /-- When a route last sent a copy to a cluster that it holds. -/
  routeAt : AMap Nat
  wakes : AMap Nat
  falses : AMap Nat
  /-- Pins active now, by WAKE_IN index. -/
  pins : AMap Bool
  /-- Latches set, oldest first: KIND and INDEX of WAK_CAUSE. -/
  latched : List (Nat × Nat)
  /-- The last wake (true) or sleep request made to a port's PHY by TC10 or TC14 (R368). -/
  phyReq : AMap Bool
  txm : AMap Txm
  /-- The channel whose sequence each TXM controller is running (R377). -/
  txmRun : AMap Nat
  /-- WAK_TIMER is counting. -/
  timing : Bool
  /-- The latches armed at step 1 of the last descent (R370, R371): KIND and INDEX of WAK_CAUSE. -/
  armed : List (Nat × Nat)
  /-- Clusters' states are to be set up when the Last is applied: 0 keep, 1 all WOKEN, 2 as R369 for a wake. -/
  setup : Nat
deriving DecidableEq, Repr

/-- One write that waits in the Welt, or that a log entry describes (R300–R302). -/
structure HostWrite where
  addr : Nat
  be : Nat
  data : List Byte
  seq : Nat
  confirmed : Bool
deriving DecidableEq, Repr

/-- An entry of the posted-error log (R302). -/
structure PErr where
  addr : Nat
  be : Nat
  code : Nat
  confirmed : Bool
  dwords : Nat
  seq : Nat
  time : Nat
deriving DecidableEq, Repr

/-- The last sideband response (R317): status, words done, data words. -/
structure SbResp where
  status : Nat
  done : Nat
  data : List Nat
deriving DecidableEq, Repr

/-- A sideband request for words (R318). -/
inductive SbReq where
  | write (addr : Nat) (ws : List Nat) | read (peek : Bool) (addr n : Nat)
deriving DecidableEq, Repr

/-- A transmit descriptor as HDM reads it (R311). -/
structure TxDesc where
  len : Nat
  first : Bool
  last : Bool
  directed : Bool
  dport : Nat
  qsel : Nat
  handle : Nat
deriving DecidableEq, Repr

/-- How the flash ended an operation: done, failed or too late, or a read-back after a supply dip that did not match. -/
inductive FlashEnd where
  | done | failed | mismatch
deriving DecidableEq, Repr

/-- A clock source. -/
inductive Clock where
  | lrc | hrc | xtal | sdsref
deriving DecidableEq, Repr

/-- The straps as sampled at the release of a reset (R421): BOOT_MODE, SB_EN, IO_VSEL. -/
structure Straps where
  bootMode : Fin 4
  sbEn : Bool
  ioVsel : Bool
deriving DecidableEq, Repr

/-- HDM (R308–R314).  Rings are numbered 0–7 for RX0–RX7 and 8–15 for TX0–TX7. -/
structure Hdm where
  /-- Descriptors that a ring has written back since its interrupt bit was last cleared. -/
  wb : AMap Nat
  /-- The transmit ring that has its turn next. -/
  turn : Nat
  /-- What the device has written to host memory, by byte address. -/
  mem : AMap Byte
deriving DecidableEq, Repr

/-- The mailbox buffers (R320). -/
structure Mbx where
  req : AMap Byte
  rsp : AMap Byte
deriving DecidableEq, Repr

/-- A host request that the Welt has forwarded to the crossbar, or that it withholds (R298, R301).  A read has its tag
once it is forwarded. -/
inductive HostReq where
  | read (tag addr len : Nat)
  | write (w : HostWrite)
deriving DecidableEq, Repr

/-- The Welt's requests in flight and withheld, each in arrival order, and the last completion: its tag, its data, and
the code of a completer abort. -/
structure Wlt where
  flight : List HostReq
  held : List HostReq
  cplTag : Nat
  cplData : List Byte
  cplAbort : Nat
deriving DecidableEq, Repr

/-- The watchdogs' timers (R330, R332): when the firmware watchdog's present period began, where it runs, and when the host
heartbeat's did. -/
structure Wdg where
  fwAt : Option Nat
  hbAt : Option Nat
  /-- A write of DEV_RESET has asked for the SOFT reset that begins when it is complete (R414). -/
  resetDue : Bool
deriving DecidableEq, Repr

/-- The switched domains and the supplies (R352–R363). -/
structure Pwr where
  /-- Bit d: PDd is powered. -/
  powered : Nat
  /-- Bit d: PDd is powered and has passed its self-test since. -/
  tested : Nat
  /-- Bit d: PDd is being powered and has not reported power-good. -/
  rising : Nat
  /-- Bit d: PDd gave no power-good, and is not tried again before it has been released; bit 8: PD8 did not drain. -/
  failed : Nat
  /-- PD8 drains (R356). -/
  drain : Bool
  /-- Pages of the blocks that failed self-test (R333). -/
  bist : List Nat
  /-- The supplies below their warning levels: bit 0 VDD_CORE, bit 1 VDD_IO33 (R357). -/
  low : Nat
  /-- When each supply fell below its warning level (elapsed time). -/
  dipAt : AMap Nat
  /-- A supply is below its reset level: the SUPPLY reset is held; and which, bit 0 VDD_CORE, bit 1 VDD_IO33. -/
  down : Bool
  gone : Nat
  /-- The domains that the present descent has switched off, and the mode before it (R372). -/
  cut : Nat
  before : Nat
  /-- The domains that the Last used when it was last applied (R355). -/
  used : Nat
deriving DecidableEq, Repr

/-- The trim loops and the start of the clocks (R338, R346–R350). -/
structure Cgu where
  /-- AUTO of the HRC and of the LRC. -/
  auto : Int
  lauto : Int
  /-- The 20 ms of step 7 of R338 run. -/
  starting : Bool
  /-- The crystal amplifier is enabled (R426). -/
  amp : Bool
deriving DecidableEq, Repr

/-- Where the boot engine stands (R386): nothing to do, due, the record being written, each part in turn, the wait for the
check of PD10, the priority sections after a failed check, a load mode (0 sideband, 1 PCIe, 2 both, after BOOT_FAIL), and done. -/
inductive BootStage where
  | due | record | manifest | fw | ucode | prio | sds | t1s | reprio | last | check | load | done
deriving DecidableEq, Repr

/-- A boot record (R384). -/
structure BootRec where
  gen : Nat
  active : Nat
  state : Nat
  prev : Nat
  reason : Nat
  failSlot : Nat
  failPart : Nat
deriving DecidableEq, Repr

/-- What a boot-record write is for (R385). -/
inductive RecFor where
  | trial | fallback | restart | confirm | close
deriving DecidableEq, Repr

/-- The boot engine, the flash and the update services (R380–R400). -/
structure Upd where
  /-- The flash, by byte address; an unlisted byte is erased, 0xFF. -/
  flash : AMap Byte
  /-- Regions of flash whose contents an interrupted or failed operation leaves undefined: address, length, draw. -/
  wild : List (Nat × Nat × Nat)
  /-- Fuses: the key hash, the owner key, and the burnt bits of the lock field. -/
  keyHash : Option (List Byte)
  ownerKey : Option (List Byte)
  burnt : Nat
  stage : BootStage
  /-- The slot that boots or runs, and the one that ran before the reset. -/
  slot : Nat
  ran : Nat
  /-- The present boot has fallen back; it uses the Last memory kept across its reset (R387). -/
  fell : Bool
  kept : Bool
  /-- The record being written, what for, and the attempts left. -/
  write : Option (BootRec × RecFor × Nat)
  /-- The UPD_CMD operation in progress: operation, address, the bytes of a PROGRAM, and whether a supply warning has
  interrupted it. -/
  op : Option (Nat × Nat × List Byte × Bool)
  /-- A BLOCK reset of the UPD page waits for the operation to end (R406). -/
  reset : Bool
  /-- The image of a load mode, and the offset of the page expected next. -/
  image : AMap Byte
  next : Nat
  /-- When the trial timer began, and its seconds. -/
  trialAt : Option Nat
  trialSecs : Nat
  /-- The level of VMOVE_IN. -/
  vmove : Bool
  /-- The last value of the speed signal since a reset (R392). -/
  speed : Nat
  /-- Where the present boot's image comes from, coded as UPD_STAT.SOURCE (R399). -/
  source : Nat
  /-- When the present boot began: FL_RESET_N is low for 10 µs from then (R380). -/
  bootAt : Option Nat
  /-- The flash starts in 8D-8D-8D mode by its non-volatile configuration (R430). -/
  octal : Bool
deriving DecidableEq, Repr

end Sys2Proof.Machine
end

