-- ==== Sys2Proof/Syntax.lean ====
section
/-! DEFINITION. The commands of the LN6425: one constructor for each row of the table of operations and events.  A command that a
master gives, a register write or read for example, names its master; an event names where it happens and what the world
brings to it.  The rows with operands come first and those without follow, each in the order of the table. -/
namespace Sys2Proof
open Machine

/-- A command. -/
inductive Instr where
  /-- CS_OPEN (R55): master. -/
  | csOpen (m : Master)
  /-- CS_ABORT (R58): master. -/
  | csAbort (m : Master)
  /-- STAGING_WRITE (R51): byte offset in the window, bytes. -/
  | stagingWrite (m : Master) (off : Nat) (bs : List Byte)
  /-- CHANGE_SET_LIST_WRITE (R54): byte offset in the list region, bytes. -/
  | changeSetListWrite (m : Master) (off : Nat) (bs : List Byte)
  /-- COMMIT_GO (R56): master. -/
  | commitGo (m : Master)
  /-- RELOAD_FLASH (R69): master. -/
  | reloadFlash (m : Master)
  /-- RELOAD_HOST (R69): master. -/
  | reloadHost (m : Master)
  /-- RELOAD_GO (R69): master. -/
  | reloadGo (m : Master)
  /-- RELOAD_IMAGE_READ_DONE (R70): the image could be read. -/
  | reloadImageReadDone (readOk : Bool)
  /-- ETH_FRAME_ARRIVAL (R94): port, bytes DA through FCS. -/
  | ethFrameArrival (p : Fin 32) (bytes : List Byte)
  /-- PARSE_STEP (R75): Clicker, context. -/
  | parseStep (c : Fin 24) (k : Fin 4)
  /-- FLOW_LOOKUP (R98): Clicker, context. -/
  | flowLookup (c : Fin 24) (k : Fin 4)
  /-- INGRESS_FRAME_END (R217): port, what the line brought with the frame. -/
  | ingressFrameEnd (p : Fin 32) (l : RxLine)
  /-- REORDER_RELEASE (R94): port. -/
  | reorderRelease (p : Fin 37)
  /-- REORDER_TIMEOUT (R95): port, whether the rules stage and not the Clicker holds the frame. -/
  | reorderTimeout (p : Fin 37) (inRules : Bool)
  /-- CLICKER_REJOIN (R96): Clicker, repairs, whether its memory check passed. -/
  | clickerRejoin (c : Fin 24) (repairs : Nat) (ok : Bool)
  /-- CUT_THROUGH_START (R155): port. -/
  | cutThroughStart (p : Fin 37)
  /-- SCHEDULER_CHOOSE (R171): port. -/
  | schedulerChoose (p : Fin 37)
  /-- COPY_TX_DONE (R19): port. -/
  | copyTxDone (p : Fin 32)
  /-- REPARENT (R170): a queue or else a subscriber, its number. -/
  | reparent (isQueue : Bool) (n : Fin 8192)
  /-- PACE_WINDOW_END (R132): slice, the pace measured. -/
  | paceWindowEnd (n : Fin 4) (measured : Nat)
  /-- FABRIC_STALL (R142): slice. -/
  | fabricStall (n : Fin 4)
  /-- SLICE_REJOIN (R143): slice, repairs, whether its memory check passed. -/
  | sliceRejoin (n : Fin 4) (repairs : Nat) (ok : Bool)
  /-- PMBUS_TRANSACTION_DONE (R141): whether it succeeded, the reading in mV. -/
  | pmbusTransactionDone (ok : Bool) (mv : Fin 65536)
  /-- GOVERNOR_ENABLE (R141): master, EN, PEC, ADDR, STEP, INTERVAL. -/
  | governorEnable (m : Master) (en pec : Bool) (addr : Fin 128) (step : Fin 16) (interval : Fin 256)
  /-- LINK_UP (R214): port, in-band rate code. -/
  | linkUp (p : Fin 32) (inBand : Fin 8)
  /-- LINK_DOWN (R214): port, the condition that fails. -/
  | linkDown (p : Fin 32) (why : LinkFail)
  /-- FLUSH_COMPLETE (R164): port. -/
  | flushComplete (p : Fin 37)
  /-- PORT_RETURN_END (R161): port. -/
  | portReturnEnd (p : Fin 37)
  /-- CAUTIOUS_CONDITION_END (R34): the condition. -/
  | cautiousConditionEnd (c : HoldCause)
  /-- COBBLER_PASS_END (R165): duration. -/
  | cobblerPassEnd (dur : Nat)
  /-- COBBLER_ENABLE (R166): master, EN. -/
  | cobblerEnable (m : Master) (en : Bool)
  /-- INBAND_RATE_CHANGE (R212): port, rate code. -/
  | inbandRateChange (p : Fin 32) (rate : Fin 8)
  /-- PLL_LOST (R234): lane. -/
  | pllLost (l : Fin 24)
  /-- PAUSE_FRAME_RX (R221): port, bytes DA through FCS, whether a PCS error character lay inside. -/
  | pauseFrameRx (p : Fin 32) (b : List Byte) (symErr : Bool)
  /-- PAUSE_EXPIRY (R222): port, PFC class or none for an 802.3x pause. -/
  | pauseExpiry (p : Fin 32) (cls : Option (Fin 8))
  /-- TX_PAUSE_SEND (R223): port. -/
  | txPauseSend (p : Fin 32)
  /-- TX_PAUSE_REPEAT (R223): port. -/
  | txPauseRepeat (p : Fin 32)
  /-- PAUSE_WATCHDOG_EXPIRY (R224): port. -/
  | pauseWatchdogExpiry (p : Fin 32)
  /-- PAUSE_IGNORE_END (R224): port. -/
  | pauseIgnoreEnd (p : Fin 32)
  /-- TEST_MODE_SET (R225): master, port, the register and its fields. -/
  | testModeSet (m : Master) (p : Fin 32) (t : TestReg)
  /-- COUNTER_LOW_READ (R227): master, counter. -/
  | counterLowRead (m : Master) (c : Counter64)
  /-- T1S_STATE_REQUEST (R228): master, port TP(24 + t), REQ. -/
  | t1sStateRequest (m : Master) (t : Fin 8) (st : Fin 4)
  /-- T1S_STATE_REACHED (R229): TP port 24 + t. -/
  | t1sStateReached (t : Fin 8)
  /-- PLCA_BEACON_TIMEOUT (R230): TP port 24 + t. -/
  | plcaBeaconTimeout (t : Fin 8)
  /-- PLCA_BEACON_RX (R230): TP port 24 + t. -/
  | plcaBeaconRx (t : Fin 8)
  /-- T1S_COLLISION (R231): TP port 24 + t. -/
  | t1sCollision (t : Fin 8)
  /-- CABLE_GO (R232): master, TP port 24 + t. -/
  | cableGo (m : Master) (t : Fin 8)
  /-- CABLE_CHECK_DONE (R232): port TP(24 + t), result code. -/
  | cableCheckDone (t result : Fin 8)
  /-- MDIO_CMD (R233): master, bus, C45, OP, PHY, register, data. -/
  | mdioCmd (m : Master) (b : Fin 4) (c45 : Bool) (op : Fin 4) (phy reg : Fin 32) (data : Fin 65536)
  /-- MDIO_DONE (R233): bus, data read. -/
  | mdioDone (b : Fin 4) (data : Fin 65536)
  /-- CAN_FRAME_RX (R239): channel, the frame, ns since its start-of-frame edge. -/
  | canFrameRx (c : Fin 64) (w : CanWire) (ago : Nat)
  /-- AWL_ACCEPT (R237): Awl engine. -/
  | awlAccept (e : Fin 16)
  /-- AP_FRAME_TO_AWL (R237): AP port 33 + a. -/
  | apFrameToAwl (a : Fin 4)
  /-- CAN_TX_START (R240): CAN channel. -/
  | canTxStart (c : Fin 64)
  /-- CAN_TX_DONE (R240): channel, how it ended. -/
  | canTxDone (c : Fin 64) (e : CanEnd)
  /-- CAN_BUS_OFF (R241): CAN channel. -/
  | canBusOff (c : Fin 64)
  /-- REC_DELAY_EXPIRY (R241): CAN channel. -/
  | recDelayExpiry (c : Fin 64)
  /-- CAN_RECOVER (R241): master, CAN channel. -/
  | canRecover (m : Master) (c : Fin 64)
  /-- CAN_RECOVERED (R241): CAN channel. -/
  | canRecovered (c : Fin 64)
  /-- CAN_SLOT_START (R259): channel, slot. -/
  | canSlotStart (c : Fin 64) (n : Fin 256)
  /-- CAN_SLOT_WINDOW_CLOSE (R259): channel, slot. -/
  | canSlotWindowClose (c : Fin 64) (n : Fin 256)
  /-- LIN_ENTRY_START (R261): channel, whether its transmission met a bit error. -/
  | linEntryStart (l : Fin 16) (bitErr : Bool)
  /-- LIN_HEADER_RX (R261): channel, frame ID, bit rate, bit error. -/
  | linHeaderRx (l : Fin 16) (fid : Fin 64) (rate : Nat) (bitErr : Bool)
  /-- LIN_RESPONSE_RX (R262): channel, how it ended. -/
  | linResponseRx (l : Fin 16) (e : LinEnd)
  /-- LIN_TABLE_WRITE (R261): master, channel, TABLE. -/
  | linTableWrite (m : Master) (l : Fin 16) (t : Fin 8)
  /-- LIN_WAKE_TX (R263): master, LIN channel. -/
  | linWakeTx (m : Master) (l : Fin 16)
  /-- LIN_WAKE_REPEAT (R263): LIN channel. -/
  | linWakeRepeat (l : Fin 16)
  /-- LIN_WAKE_RX (R263): LIN channel. -/
  | linWakeRx (l : Fin 16)
  /-- STREAM_HOLD_EXPIRY (R254): stream. -/
  | streamHoldExpiry (k : Fin 512)
  /-- AWL_WATCHDOG (R265): Awl engine. -/
  | awlWatchdog (e : Fin 16)
  /-- CAN_FIFO_ERROR (R265): channel, position in its receive FIFO. -/
  | canFifoError (c : Fin 64) (k : Nat)
  /-- KEY_LOAD (R271): master, INDEX, CLASS, KLEN, PLAIN, WRAP. -/
  | keyLoad (m : Master) (idx : Fin 2048) (cls : Fin 4) (klen plain : Bool) (wrap : Fin 16)
  /-- KEY_ERASE (R272): master, INDEX, CLASS. -/
  | keyErase (m : Master) (idx : Fin 2048) (cls : Fin 4)
  /-- TKM_LOCK (R271): master. -/
  | tkmLock (m : Master)
  /-- DRBG_RESEED (R269): whether it succeeded. -/
  | drbgReseed (ok : Bool)
  /-- TOECAP_ALARM (R290): the sources of R289, one bit each. -/
  | toecapAlarm (causes : Fin 64)
  /-- TCA_EVT_READ (R292): master. -/
  | tcaEvtRead (m : Master)
  /-- FV_READ (R287): master. -/
  | fvRead (m : Master)
  /-- FV_WRITE (R287): master. -/
  | fvWrite (m : Master)
  /-- PCIE_READ (R298): BAR0 offset, bytes. -/
  | pcieRead (addr n : Nat)
  /-- READ_ANSWER (R298): tag, whether the target had an uncorrectable error. -/
  | readAnswer (tag : Fin 64) (target : Bool)
  /-- READ_TIMEOUT (R299): tag. -/
  | readTimeout (tag : Fin 64)
  /-- PCIE_WRITE_POSTED (R301): BAR0 offset, bytes. -/
  | pcieWritePosted (addr : Nat) (bs : List Byte)
  /-- PCIE_WRITE_CONFIRMED (R301): BAR0 offset, bytes. -/
  | pcieWriteConfirmed (addr : Nat) (bs : List Byte)
  /-- WRITE_ACK (R301): sequence number, whether the target had an uncorrectable error. -/
  | writeAck (seq : Nat) (target : Bool)
  /-- WRITE_TIMEOUT (R301): sequence number. -/
  | writeTimeout (seq : Nat)
  /-- PERR_ACK (R302): master, N. -/
  | perrAck (m : Master) (n : Fin 32)
  /-- PCIE_LINK_UP (R294): width code, speed code, Bus Master Enable. -/
  | pcieLinkUp (width speed : Fin 8) (bme : Bool)
  /-- OWNER_WRITE (R304): master, word. -/
  | ownerWrite (m : Master) (v : Word)
  /-- RING_ENABLE (R308): master, transmit, ring, EN, KIND, SIZE_LOG2, BUF. -/
  | ringEnable (m : Master) (tx : Bool) (r : Fin 8) (en kind : Bool) (size : Fin 32) (buf : Fin 128)
  /-- TAIL_WRITE (R308): master, transmit, ring, TAIL. -/
  | tailWrite (m : Master) (tx : Bool) (r : Fin 8) (t : Fin 65536)
  /-- HDM_RX_DELIVER (R309): buffer addresses of the descriptors. -/
  | hdmRxDeliver (bufs : List Nat)
  /-- HDM_TX_FRAME (R311): descriptors, frame bytes. -/
  | hdmTxFrame (ds : List TxDesc) (data : List Byte)
  /-- DMA_ERROR (R313): transmit, ring, descriptors of the frame in progress. -/
  | dmaError (tx : Bool) (r : Fin 8) (n : Nat)
  /-- MODERATION_TIMER (R314): transmit, ring. -/
  | moderationTimer (tx : Bool) (r : Fin 8)
  /-- SB_WRITE (R318): ADDRESS, words, the word, if any, that meets an uncorrectable error at its target. -/
  | sbWrite (addr : Word) (ws : List Word) (bad : Option Nat)
  /-- SB_READ (R318): ADDRESS, LENGTH, the word, if any, that meets an uncorrectable error at its target. -/
  | sbRead (addr : Word) (n : Fin 65536) (bad : Option Nat)
  /-- SB_PEEK (R318): ADDRESS, LENGTH, the word, if any, that meets an uncorrectable error at its target. -/
  | sbPeek (addr : Word) (n : Fin 65536) (bad : Option Nat)
  /-- SB_STATUS (R318): ADDRESS, LENGTH. -/
  | sbStatus (addr : Word) (n : Fin 65536)
  /-- SB_IDENT (R318): ADDRESS, LENGTH. -/
  | sbIdent (addr : Word) (n : Fin 65536)
  /-- SB_POWER (R318): ADDRESS, LENGTH, data word. -/
  | sbPower (addr : Word) (n : Fin 65536) (w : Word)
  /-- SB_CRC_ERR (R319): the request as received. -/
  | sbCrcErr (b : List Byte)
  /-- SB_RESPONSE_TIMEOUT (R317): the request, the words answered before. -/
  | sbResponseTimeout (q : SbReq) (k : Nat)
  /-- MBX_GO (R320): master, LEN. -/
  | mbxGo (m : Master) (len : Fin 2048)
  /-- MBX_RESPONSE (R320): RESULT, body. -/
  | mbxResponse (result : Fin 256) (body : List Byte)
  /-- LOOPBACK_TEST (R335): good and bad frames that came back. -/
  | loopbackTest (good bad : Nat)
  /-- FAULT_REPORT (R321): page, code. -/
  | faultReport (page : Fin 4096) (code : Fin 65536)
  /-- FLT_CLEAR (R324): master. -/
  | fltClear (m : Master)
  /-- FAULT_COUNT_SNAPSHOT (R324): master, code. -/
  | faultCountSnapshot (m : Master) (code : Fin 65536)
  /-- FAULT_COUNT_CLEAR (R324): master, code. -/
  | faultCountClear (m : Master) (code : Fin 65536)
  /-- NMI_CLEAR (R329): master, bits written 1. -/
  | nmiClear (m : Master) (ones : Fin 32)
  /-- FW_KICK (R330): master, value. -/
  | fwKick (m : Master) (v : Fin 65536)
  /-- LOCKSTEP_MISMATCH (R331): management pair. -/
  | lockstepMismatch (pair : Fin 2)
  /-- HB_KICK (R332): master. -/
  | hbKick (m : Master)
  /-- HB_ENABLE (R332): master, EN, TIMEOUT. -/
  | hbEnable (m : Master) (en : Bool) (timeout : Fin 65536)
  /-- SELF_TEST_DONE (R333): domain, repairs, pages of the instances that failed, result of the page check of PD10. -/
  | selfTestDone (d : Fin 19) (repairs : Nat) (failed : List Nat) (pagesOk : Bool)
  /-- HRC_QUALIFY_DONE (R338): whether the own-cycle count was reached, cycles in 32 LRC cycles. -/
  | hrcQualifyDone (counted : Bool) (cycles : Nat)
  /-- XTAL_QUALIFY_DONE (R338): cycles in 10,000 HRC cycles. -/
  | xtalQualifyDone (cycles : Nat)
  /-- SDSREF_QUALIFY_DONE (R338): cycles in 25,000 XTAL cycles. -/
  | sdsrefQualifyDone (cycles : Nat)
  /-- MONITOR_WINDOW_END (R340): cycles of XTAL, HRC and SDS_REFCLK in their windows. -/
  | monitorWindowEnd (xtalCycles hrcCycles sdsCycles : Nat)
  /-- CLOCK_STOP_DETECT (R340): source. -/
  | clockStopDetect (c : Clock)
  /-- AUTO_RETURN_WRITE (R342): master, AUTO_RETURN. -/
  | autoReturnWrite (m : Master) (on : Bool)
  /-- HRC_TRIM_WINDOW (R346): HRC cycles in 25,000 XTAL cycles. -/
  | hrcTrimWindow (cycles : Nat)
  /-- CAN_TRIM_WINDOW (R347): the frames of the window. -/
  | canTrimWindow (frames : List TrimFrame)
  /-- BEACON_TRIM_WINDOW (R348): the PLCA cycles of the window: no node transmitted, period in ns. -/
  | beaconTrimWindow (cycles : List PlcaCycle)
  /-- LRC_TRIM_WINDOW (R349): error in ppm. -/
  | lrcTrimWindow (err : Int)
  /-- DOMAIN_REQUEST (R353): master, domain, on or off, whether through POWER_REQ. -/
  | domainRequest (m : Master) (d : Fin 19) (on viaPage : Bool)
  /-- DOMAIN_POWER_GOOD (R353): domain. -/
  | domainPowerGood (d : Fin 19)
  /-- DOMAIN_POWER_TIMEOUT (R353): domain. -/
  | domainPowerTimeout (d : Fin 19)
  /-- SUPPLY_WARNING (R362): 0 VDD_CORE, 1 VDD_IO33. -/
  | supplyWarning (n : Fin 2)
  /-- SUPPLY_RECOVER (R362): supply, minimum in mV. -/
  | supplyRecover (n : Fin 2) (mv : Fin 8192)
  /-- POR (R14): straps. -/
  | por (x : Straps)
  /-- PIN_RESET (R433): straps. -/
  | pinReset (x : Straps)
  /-- SOFT_RESET (R414): master, KEY. -/
  | softReset (m : Master) (key : Fin 65536)
  /-- BLOCK_RESET (R406): master, page. -/
  | blockReset (m : Master) (page : Fin 4096)
  /-- BLOCK_RESET_END (R406): page. -/
  | blockResetEnd (page : Fin 4096)
  /-- PAGE_ENABLE_WRITE (R405): master, page, ENABLE. -/
  | pageEnableWrite (m : Master) (page : Fin 4096) (on : Bool)
  /-- IRQ_FORCE (R409): master, page, word. -/
  | irqForce (m : Master) (page : Fin 4096) (w : Word)
  /-- IRQ_STAT_CLEAR (R9): master, page, word. -/
  | irqStatClear (m : Master) (page : Fin 4096) (w : Word)
  /-- PAGE_LOCK (R411): master, page. -/
  | pageLock (m : Master) (page : Fin 4096)
  /-- CLEAR_ON_READ (R9): master, page, byte offset. -/
  | clearOnRead (m : Master) (page off : Fin 4096)
  /-- REGISTER_WRITE (R9): master, page, byte offset, word. -/
  | registerWrite (m : Master) (page off : Fin 4096) (w : Word)
  /-- FLOW_COUNTER_SNAPSHOT (R118): master, handle. -/
  | flowCounterSnapshot (m : Master) (h : Fin 65536)
  /-- FLOW_COUNTER_CLEAR (R118): master, handle. -/
  | flowCounterClear (m : Master) (h : Fin 65536)
  /-- METER_SNAPSHOT (R118): master, meter. -/
  | meterSnapshot (m : Master) (n : Fin 16384)
  /-- METER_CLEAR (R118): master, meter. -/
  | meterClear (m : Master) (n : Fin 16384)
  /-- METER_FILL (R118): master, meter. -/
  | meterFill (m : Master) (n : Fin 16384)
  /-- SERVICE_SNAPSHOT (R118): master, port, service. -/
  | serviceSnapshot (m : Master) (p : Fin 64) (v : Fin 8)
  /-- SERVICE_DROPS_CLEAR (R118): master, port, service. -/
  | serviceDropsClear (m : Master) (p : Fin 64) (v : Fin 8)
  /-- SUBSCRIBER_SNAPSHOT (R118): master, port page, SUB. -/
  | subscriberSnapshot (m : Master) (p : Fin 37) (u : Fin 2048)
  /-- QUEUE_SNAPSHOT (R118): master, port page, Q. -/
  | queueSnapshot (m : Master) (p : Fin 37) (q : Fin 8192)
  /-- ROUTE_SNAPSHOT (R118): master, engine, ROUTE. -/
  | routeSnapshot (m : Master) (e : Fin 16) (r : Fin 16384)
  /-- ROUTE_COUNTS_CLEAR (R118): master, engine, ROUTE. -/
  | routeCountsClear (m : Master) (e : Fin 16) (r : Fin 16384)
  /-- TCA_PORT_SNAPSHOT (R118): master, port. -/
  | tcaPortSnapshot (m : Master) (port : Fin 32)
  /-- TCA_PORT_CLEAR (R118): master, port. -/
  | tcaPortClear (m : Master) (port : Fin 32)
  /-- KEY_SLOT_SNAPSHOT (R274): master, INDEX, CLASS. -/
  | keySlotSnapshot (m : Master) (idx : Fin 2048) (cls : Fin 4)
  /-- CLUSTER_SNAPSHOT (R118): master, cluster. -/
  | clusterSnapshot (m : Master) (n : Fin 32)
  /-- TXM_CHANNEL_SNAPSHOT (R118): master, channel. -/
  | txmChannelSnapshot (m : Master) (c : Fin 64)
  /-- TIME_SNAPSHOT (R118): master. -/
  | timeSnapshot (m : Master)
  /-- DOMAIN_STEP (R185): domain, the new time in ns. -/
  | domainStep (d : Fin 2) (ns : Nat)
  /-- RATE_ADJUST (R185): domain, rate. -/
  | rateAdjust (d : Fin 2) (rate : Int)
  /-- SYNC_RX (R187): domain, offset in ns. -/
  | syncRx (d : Fin 2) (offset : Int)
  /-- SYNC_RECEIPT_TIMEOUT (R187): domain. -/
  | syncReceiptTimeout (d : Fin 2)
  /-- HOLDOVER_EXPIRY (R187): domain. -/
  | holdoverExpiry (d : Fin 2)
  /-- LACE_START (R195): port. -/
  | laceStart (p : Fin 32)
  /-- LACE_CYCLE_BOUNDARY (R194): port. -/
  | laceCycleBoundary (p : Fin 32)
  /-- GATE_ENTRY_END (R194): port. -/
  | gateEntryEnd (p : Fin 32)
  /-- HOLD_ADV_REQUEST (R194): port, entry. -/
  | holdAdvRequest (p : Fin 32) (e : Nat)
  /-- LACE_SWAP (R198): port. -/
  | laceSwap (p : Fin 32)
  /-- PREEMPT_VERIFY (R202): port, whether an earlier verify mPacket was answered. -/
  | preemptVerify (p : Fin 32) (answered : Bool)
  /-- SYNC_IN_EDGE (R206): rising. -/
  | syncInEdge (rising : Bool)
  /-- SYNC_ENABLE (R206): master, EN. -/
  | syncEnable (m : Master) (en : Bool)
  /-- EVT_IN_EDGE (R209): input, rising, width in ns. -/
  | evtInEdge (k : Fin 4) (rising : Bool) (width : Nat)
  /-- EVT_READ (R209): master, input. -/
  | evtRead (m : Master) (k : Fin 4)
  /-- TRG_ARM (R210): master, output, EN. -/
  | trgArm (m : Master) (k : Fin 4) (en : Bool)
  /-- TRG_EDGE (R210): output. -/
  | trgEdge (k : Fin 4)
  /-- KEEPALIVE_RX (R366): what was received. -/
  | keepaliveRx (e : KaRx)
  /-- KEEPALIVE_PERIOD (R368): cluster. -/
  | keepalivePeriod (n : Fin 32)
  /-- READY_TIMER_EXPIRY (R368): cluster. -/
  | readyTimerExpiry (n : Fin 32)
  /-- PREPARE_TIMER_EXPIRY (R368): cluster. -/
  | prepareTimerExpiry (n : Fin 32)
  /-- WAKE_TIMEOUT (R368): cluster. -/
  | wakeTimeout (n : Fin 32)
  /-- WAKE_REQUEST_HOST (R367): master, word. -/
  | wakeRequestHost (m : Master) (v : Word)
  /-- WAKE_REQUEST_SB (R367): master, word. -/
  | wakeRequestSb (m : Master) (v : Word)
  /-- WAKE_PIN_CHANGE (R367): pin, active. -/
  | wakePinChange (k : Fin 4) (active : Bool)
  /-- ROUTE_HOLD_EXPIRY (R367): cluster. -/
  | routeHoldExpiry (n : Fin 32)
  /-- LIN_GOTOSLEEP_RX (R368): LIN channel. -/
  | linGotosleepRx (l : Fin 16)
  /-- WAKE_LATCH (R373): KIND and INDEX of WAK_CAUSE. -/
  | wakeLatch (kind index : Nat)
  /-- CONVERTER_UPDATE (R363): the six averages. -/
  | converterUpdate (vs : List (Fin 65536))
  /-- TXM_CMD (R377): master, channel, STATE. -/
  | txmCmd (m : Master) (c : Fin 64) (st : Fin 4)
  /-- TXM_SEQUENCE_DONE (R377): channel, the last byte received by each READ_CHECK run. -/
  | txmSequenceDone (c : Fin 64) (rx : List Byte)
  /-- BOOT_PART_CHECKED (R386): the part could be read. -/
  | bootPartChecked (readOk : Bool)
  /-- BOOT_RECORD_WRITE_DONE (R385): the read-back matched. -/
  | bootRecordWriteDone (ok : Bool)
  /-- UPD_OPEN (R390): master. -/
  | updOpen (m : Master)
  /-- UPD_ERASE (R390): master. -/
  | updErase (m : Master)
  /-- UPD_PROGRAM (R390): master. -/
  | updProgram (m : Master)
  /-- UPD_READ (R390): master. -/
  | updRead (m : Master)
  /-- UPD_CLOSE (R390): master. -/
  | updClose (m : Master)
  /-- UPD_LOAD_PAGE (R399): master. -/
  | updLoadPage (m : Master)
  /-- UPD_LOAD_DONE (R399): master. -/
  | updLoadDone (m : Master)
  /-- UPD_OP_DONE (R391): how it ended. -/
  | updOpDone (r : FlashEnd)
  /-- UPD_ARM (R393): master. -/
  | updArm (m : Master)
  /-- UPD_DISARM (R393): master. -/
  | updDisarm (m : Master)
  /-- UPD_RESTART (R394): master. -/
  | updRestart (m : Master)
  /-- UPD_CONFIRM (R395): master. -/
  | updConfirm (m : Master)
  /-- SPEED_FRAME_RX (R392): channel, identifier, IDE, data. -/
  | speedFrameRx (chan : Fin 64) (id : Nat) (ide : Bool) (data : List Byte)
  /-- NONCE_REQ (R397): master. -/
  | nonceReq (m : Master)
  /-- OWNER_LOCK (R397): master. -/
  | ownerLock (m : Master)
  /-- OWNER_UNLOCK (R398): master. -/
  | ownerUnlock (m : Master)
  /-- OWNER_PROVISION (R397): master. -/
  | ownerProvision (m : Master)
  /-- SUPPLY_RESET_RELEASE (R361): straps. -/
  | supplyResetRelease (x : Straps)
  /-- CLOCK_EDGES_RETURN (R340): source. -/
  | clockEdgesReturn (c : Clock)
  /-- RX_FIFO_MEMORY_ERROR (R234): port, position among its frames. -/
  | rxFifoMemoryError (p : Fin 32) (k : Nat)
  /-- PHY_INTERNAL_FAULT (R234): TP port 24 + t. -/
  | phyInternalFault (t : Fin 8)
  /-- GRANDMASTER_CHANGE (R187): domain, grandmaster, port-less. -/
  | grandmasterChange (d : Fin 2) (gm portless : Bool)
  /-- PRBS_ERROR (R225): lane. -/
  | prbsError (l : Fin 24)
  /-- VMOVE_IN_CHANGE (R392): level. -/
  | vmoveInChange (high : Bool)
  /-- COMMIT_VALIDATED (R57). -/
  | commitValidated
  /-- FLIP (R56). -/
  | flip
  /-- EPOCH_DRAIN_END (R64). -/
  | epochDrainEnd
  /-- DRAIN_LIMIT_EXPIRY (R65). -/
  | drainLimitExpiry
  /-- HOST_LOAD_TIMEOUT (R69). -/
  | hostLoadTimeout
  /-- RELOAD_DONE (R69). -/
  | reloadDone
  /-- CLICKER_DISPATCH (R94). -/
  | clickerDispatch
  /-- DEMAND_WINDOW_END (R130). -/
  | demandWindowEnd
  /-- GOVERNOR_INTERVAL (R139). -/
  | governorInterval
  /-- TOECAP_START (R270). -/
  | toecapStart
  /-- KEY_RESTORE_DONE (R274). -/
  | keyRestoreDone
  /-- KEY_LOAD_DONE (R272). -/
  | keyLoadDone
  /-- PCIE_LINK_DOWN (R294). -/
  | pcieLinkDown
  /-- SB_SHORT (R319). -/
  | sbShort
  /-- STORM_PERIOD_END (R326). -/
  | stormPeriodEnd
  /-- FW_WATCHDOG_WARN (R330). -/
  | fwWatchdogWarn
  /-- FW_WATCHDOG_EXPIRY (R330). -/
  | fwWatchdogExpiry
  /-- HB_EXPIRY (R332). -/
  | hbExpiry
  /-- LRC_COUNT_DONE (R338). -/
  | lrcCountDone
  /-- LRC_COUNT_TIMEOUT (R338). -/
  | lrcCountTimeout
  /-- XTAL_START_TIMEOUT (R338). -/
  | xtalStartTimeout
  /-- DWELL_END (R342). -/
  | dwellEnd
  /-- PD8_DRAINED (R356). -/
  | pd8Drained
  /-- PD8_DRAIN_TIMEOUT (R356). -/
  | pd8DrainTimeout
  /-- SUPPLY_RESET (R361): the supply that falls, 0 VDD_CORE, 1 VDD_IO33. -/
  | supplyReset (n : Fin 2)
  /-- TIME_BASE_TICK (R184). -/
  | timeBaseTick
  /-- SYNC_PERIOD_BOUNDARY (R206). -/
  | syncPeriodBoundary
  /-- PPS_PULSE (R208). -/
  | ppsPulse
  /-- DESCENT_START (R371). -/
  | descentStart
  /-- DESCENT_COMMIT (R371). -/
  | descentCommit
  /-- DESCENT_STANDBY (R371). -/
  | descentStandby
  /-- DESCENT_SLEEP (R371). -/
  | descentSleep
  /-- WAK_TIMER_EXPIRY (R373). -/
  | wakTimerExpiry
  /-- BOOT_START (R386). -/
  | bootStart
  /-- TRIAL_EXPIRY (R395). -/
  | trialExpiry
  /-- SPEED_STALE (R392). -/
  | speedStale
  /-- NONCE_EXPIRY (R397). -/
  | nonceExpiry
  /-- VSTBY_BELOW_POR (R432). -/
  | vstbyBelowPor
deriving DecidableEq, Repr

end Sys2Proof
end

