-- ==== Sys2Proof/Decode.lean ====
section
/-! DEFINITION. The commands that a word spells by the table's bits.  The table of operations and events gives no row any
bits: a command reaches the device as an access, an edge or a frame, never as a word. -/
namespace Sys2Proof

/-- The command spelt by a word of so many bits: none, as no row of the table has bits. -/
def decodeTableWord (_nbits _w : Nat) : Option Instr := none

end Sys2Proof
end

