-- ==== Sys2Proof/Machine/Digest.lean ====
section
/-! DEFINITION. SHA-256 (FIPS 180-4) and the verification of an ECDSA signature over the curve P-256 (FIPS 186-5), which the
manifest checks of R382 and R383 use.  The spec names the standards, and the functions are theirs (assumption log 4). -/
namespace Sys2Proof.Machine

/-! ### SHA-256 -/

/-- The round constants. -/
def shaK : List Word :=
  [0x428a2f98, 0x71374491, 0xb5c0fbcf, 0xe9b5dba5, 0x3956c25b, 0x59f111f1, 0x923f82a4, 0xab1c5ed5] ++
  [0xd807aa98, 0x12835b01, 0x243185be, 0x550c7dc3, 0x72be5d74, 0x80deb1fe, 0x9bdc06a7, 0xc19bf174] ++
  [0xe49b69c1, 0xefbe4786, 0x0fc19dc6, 0x240ca1cc, 0x2de92c6f, 0x4a7484aa, 0x5cb0a9dc, 0x76f988da] ++
  [0x983e5152, 0xa831c66d, 0xb00327c8, 0xbf597fc7, 0xc6e00bf3, 0xd5a79147, 0x06ca6351, 0x14292967] ++
  [0x27b70a85, 0x2e1b2138, 0x4d2c6dfc, 0x53380d13, 0x650a7354, 0x766a0abb, 0x81c2c92e, 0x92722c85] ++
  [0xa2bfe8a1, 0xa81a664b, 0xc24b8b70, 0xc76c51a3, 0xd192e819, 0xd6990624, 0xf40e3585, 0x106aa070] ++
  [0x19a4c116, 0x1e376c08, 0x2748774c, 0x34b0bcb5, 0x391c0cb3, 0x4ed8aa4a, 0x5b9cca4f, 0x682e6ff3] ++
  [0x748f82ee, 0x78a5636f, 0x84c87814, 0x8cc70208, 0x90befffa, 0xa4506ceb, 0xbef9a3f7, 0xc67178f2]

/-- The initial hash value. -/
def shaInit : List Word :=
  [0x6a09e667, 0xbb67ae85, 0x3c6ef372, 0xa54ff53a, 0x510e527f, 0x9b05688c, 0x1f83d9ab, 0x5be0cd19]

/-- A word of a list, 0 beyond its end. -/
def wordAt (w : List Word) (k : Nat) : Word := w.getD k 0

/-- The message schedule: n more words behind those given. -/
def shaSchedule (n : Nat) (w : List Word) : List Word :=
  match n with
  | 0 => w
  | n + 1 =>
    let i := w.length
    let a := wordAt w (i - 15)
    let b := wordAt w (i - 2)
    let s0 := a.rotateRight 7 ^^^ a.rotateRight 18 ^^^ (a >>> 3)
    let s1 := b.rotateRight 17 ^^^ b.rotateRight 19 ^^^ (b >>> 10)
    shaSchedule n (w ++ [wordAt w (i - 16) + s0 + wordAt w (i - 7) + s1])

/-- One round on the eight working words. -/
def shaRound (x : List Word) (kw : Word) : List Word :=
  match x with
  | [a, b, c, d, e, f, g, h] =>
    let s1 := e.rotateRight 6 ^^^ e.rotateRight 11 ^^^ e.rotateRight 25
    let t1 := h + s1 + ((e &&& f) ^^^ (~~~e &&& g)) + kw
    let s0 := a.rotateRight 2 ^^^ a.rotateRight 13 ^^^ a.rotateRight 22
    let t2 := s0 + ((a &&& b) ^^^ (a &&& c) ^^^ (b &&& c))
    [t1 + t2, a, b, c, d + t1, e, f, g]
  | _ => x

/-- One block of 64 bytes. -/
def shaBlock (h : List Word) (b : List Byte) : List Word :=
  let w := shaSchedule 48 ((List.range 16).map (fun k => BitVec.ofNat 32 (beNat (sub b (4 * k) 4))))
  let r := (List.zipWith (fun k x => k + x) shaK w).foldl shaRound h
  List.zipWith (fun a b => a + b) h r

/-- SHA-256 of bytes. -/
def sha256 (m : List Byte) : List Byte :=
  let n := ceilDiv (m.length + 9) 64
  let p := m ++ [0x80] ++ List.replicate (64 * n - m.length - 9) 0 ++ beBytes 8 (8 * m.length)
  ((List.range n).foldl (fun h k => shaBlock h (sub p (64 * k) 64)) shaInit).flatMap (fun w => beBytes 4 w.toNat)

/-! ### ECDSA over P-256 -/

/-- The prime, the order, the coefficient b and the base point of P-256. -/
def p256p : Nat := 2 ^ 256 - 2 ^ 224 + 2 ^ 192 + 2 ^ 96 - 1
def p256n : Nat := 0xFFFFFFFF00000000FFFFFFFFFFFFFFFFBCE6FAADA7179E84F3B9CAC2FC632551
def p256b : Nat := 0x5AC635D8AA3A93E7B3EBBD55769886BC651D06B0CC53B0F63BCE3C3E27D2604B
def p256g : Nat × Nat :=
  (0x6B17D1F2E12C4247F8BCE6E563A440F277037D812DEB33A0F4A13945D898C296,
   0x4FE342E2FE1A7F9B8EE7EB4A7C0F9E162BCE33576B315ECECBB6406837BF51F5)

/-- a to the power e modulo m, e below 2²⁵⁶. -/
def powMod (a e m : Nat) : Nat :=
  ((List.range 256).foldl (fun (c : Nat × Nat) k => (if bit e k then c.1 * c.2 % m else c.1, c.2 * c.2 % m)) (1, a % m)).1

/-- The inverse modulo a prime. -/
def invMod (a m : Nat) : Nat := powMod a (m - 2) m

/-- Addition of points of the curve; none is the point at infinity. -/
def ecAdd (a b : Option (Nat × Nat)) : Option (Nat × Nat) :=
  let p := p256p
  match a, b with
  | none, q => q
  | q, none => q
  | some (x, y), some (u, v) =>
    if x = u && (y + v) % p = 0 then none
    else
      let l := if x = u then (3 * x * x + p - 3) * invMod (2 * y) p % p else (v + p - y) * invMod (u + p - x) p % p
      let r := (l * l + 2 * p - x - u) % p
      some (r, (l * (x + p - r) + p - y) % p)

/-- A multiple of a point, by the bits of k below 2²⁵⁶. -/
def ecMul (k : Nat) (q : Nat × Nat) : Option (Nat × Nat) :=
  (List.range 256).foldl (fun a j => let d := ecAdd a a; if bit k (255 - j) then ecAdd d (some q) else d) none

/-- The signature r ‖ s over a digest is that of the key X ‖ Y, all big-endian. -/
def ecdsaOk (key digest sig : List Byte) : Bool :=
  let q := (beNat (key.take 32), beNat (sub key 32 32))
  let r := beNat (sig.take 32)
  let s := beNat (sub sig 32 32)
  let onCurve := decide (q.1 < p256p) && decide (q.2 < p256p) &&
    q.2 * q.2 % p256p == (q.1 * q.1 * q.1 + (p256p - 3) * q.1 + p256b) % p256p
  let w := invMod s p256n
  let sum := ecAdd (ecMul (beNat digest * w % p256n) p256g) (ecMul (r * w % p256n) q)
  onCurve && decide (0 < r) && decide (r < p256n) && decide (0 < s) && decide (s < p256n) &&
  (match sum with
    | some (x, _) => x % p256n == r
    | none => false)

end Sys2Proof.Machine
end

