-- ==== Sys2Proof/Machine/Crc.lean ====
section
/-! DEFINITION. The two checksums the spec gives as code: CRC-32C (R55) over Last pages, lists, headers and match
keys, and CRC-8 (R316) over sideband requests and responses; and the frame check sequence of IEEE 802.3. -/
namespace Sys2Proof.Machine

/-- One bit of a reflected CRC with polynomial p. -/
def crcBitR (p c : Nat) : Nat := if c % 2 = 1 then Nat.xor (c / 2) p else c / 2

/-- Eight bits of a reflected CRC. -/
def crcByteR (p c : Nat) (b : Byte) : Nat :=
  let f := crcBitR p
  f (f (f (f (f (f (f (f (Nat.xor c b.toNat))))))))

/-- The routine crc32c of R55. -/
def crc32c (seed : Nat) (bs : List Byte) : Nat :=
  Nat.xor (bs.foldl (crcByteR 0x82F63B78) seed) 0xFFFFFFFF

/-- The standard CRC-32C, as page, list, header and section CRCs use it (R55). -/
def crc32cStd (bs : List Byte) : Nat := crc32c 0xFFFFFFFF bs

/-- The frame check sequence of IEEE 802.3: CRC-32, polynomial 0x04C11DB7 reflected. -/
def crc32Eth (bs : List Byte) : Nat :=
  Nat.xor (bs.foldl (crcByteR 0xEDB88320) 0xFFFFFFFF) 0xFFFFFFFF

/-- One bit of the CRC-8 of R316. -/
def crc8Bit (c : Nat) : Nat := if 128 ≤ c then Nat.xor (c * 2 % 256) 0x1D else c * 2 % 256

/-- The routine crc8 of R316. -/
def crc8 (bs : List Byte) : Nat :=
  bs.foldl (fun c b =>
    let f := crc8Bit
    f (f (f (f (f (f (f (f (Nat.xor c b.toNat))))))))) 0xFF

end Sys2Proof.Machine
end

