-- ==== Sys2Proof/Config.lean ====
section
/-! DEFINITION. What an implementation fixes and what the spec leaves free: constants without a body, so that nothing
in Lean can evaluate them or prove a value of them.  The free values (assumption log 3) are applied to the model's own
counter State.freeCtr; the DRBG and the device root (assumption log 4) are secrets of each device; the rest reads the
sections that only the compiler Skotil and the device can read, for the spec does not give their encoding (assumption
log 5). -/
namespace Sys2Proof

/-- Where a field of a match key comes from (R81): a header of the parse by its number, from a bit offset that counts from
the type field in front of it; the ingress port, the path taken, or the fragment and SecTAG-present flags. -/
inductive KeySrc where
  | header (n bitOff : Nat) | port | path | flags
deriving DecidableEq, Repr

/-- A field of a key profile: its source, its width, and the bit of the key at which it lies, from the first bit of byte 0. -/
structure KeyField where
  src : KeySrc
  width : Nat
  pos : Nat
deriving DecidableEq, Repr

namespace Config

/-- A free number: what the spec leaves undefined, one per draw of State.freeCtr. -/
opaque freeNat (draw : Nat) : Nat

/-- A free byte of undefined memory: draw, address (R50 for HOST_LOAD). -/
opaque freeByte (draw addr : Nat) : Byte

/-- The DRBG's output (SP 800-90A): draw, byte index. -/
opaque drbgByte (draw i : Nat) : Byte

/-- The 256-bit device root, fused at manufacture and readable by no master (R270). -/
opaque deviceRoot : List Byte

/-- The default drop mask of an ingress port (R102), from the bytes of a PARSE_GRAPH section. -/
opaque dfltDrop (graph : List Byte) (port : Nat) : Nat

/-- The further TPIDs that a parse graph names, of which two act, and VXLAN's other UDP port (R77). -/
opaque graphTpids (graph : List Byte) : List Nat
opaque graphVxlan (graph : List Byte) : Option Nat

/-- An opaque header that a parse graph names by an EtherType (space 0), a protocol (1) or a UDP port (2): its bytes, and the
offset of its 16-bit next-type field (R77). -/
opaque graphOpaque (graph : List Byte) (space v : Nat) : Option (Nat × Nat)

/-- A port's start node in a parse graph, and the node to which a node's branch for the next header leads, if it has one; nodes
are numbered, and there are 512 (R77). -/
opaque graphStart (graph : List Byte) (port : Nat) : Nat
opaque graphStep (graph : List Byte) (node next : Nat) : Option Nat

/-- The number of the parse path taken, and the key profile that a node selects (R81). -/
opaque graphPath (graph : List Byte) (port : Nat) (path : List Nat) : Nat
opaque graphProfile (graph : List Byte) (node : Nat) : Nat

/-- The fields of a key profile (R81). -/
opaque graphKey (graph : List Byte) (profile : Nat) : List KeyField

/-- The leaf bucket to which the nodes of a RULE_TREE section lead a key of a profile, none where they lead to none (R98). -/
opaque treeBucket (nodes : List Byte) (profile : Nat) (key : List Byte) : Option Nat

/-- A field of the 802.1AS domain configuration, from the bytes of a PTP_CFG section: field 0 EN, 1 NUMBER, 2 LOCK_THR,
3 HOLDOVER, 4 STEP_THR, 5 the mask of gPTP ports, 6 whether the common mean link delay service is used, and for port p the ingress correction 32 + p and the egress
correction 64 + p, two's complement of 32 bits. -/
opaque ptpField (cfg : List Byte) (domain field : Nat) : Nat

/-- Whether the flash is two devices of 32 MiB, one on each select (R380). -/
opaque flashPair : Bool

/-- The byte that a transceiver op of channel c takes from offset k of PARAM, beyond its 16 bytes (R376). -/
opaque txmPastParam (c k : Nat) : Byte

/-- The worst-case duration of a CAN frame in ns with stuff bits (ISO 11898-1, which R259 rests on): nominal timing, data
timing, format code, IDE, whether the data phase is switched (BRS), payload bytes. -/
opaque canWorst (nominal dataTiming format : Nat) (ide brs : Bool) (bytes : Nat) : Nat

end Config

end Sys2Proof
end

