-- ==== Sys2Proof/Machine/Regs.lean ====
section
/-! DEFINITION. Every register field the spec gives the device, one definition each, written from the register tables
of chapters 01 to 17 and from R403 to R415: first page, pages, offset of element 0, stride, elements, lowest bit,
width, access, reset value, Keep class, one copy per master.  A field NAME of register REG is `REG_NAME`; the bits of
PG_IRQ_STAT of block BLK are `BLK_IRQ_NAME`.  The last four definitions are the whole 64-bit counts behind the LO and
HI words of R227, which the spec describes but gives no register of their own.  Fused and strapped values are the
model's choice, assumption log 2.  The policy fields of SOL_SVC_POLICY and SOL_SVC_AGE are results of a snapshot, and are kept as
such (R436, assumption log 77). -/
namespace Sys2Proof.Machine.Reg

/-- The constructor used by the table below: a field with one reset value. -/
abbrev fld (page pages off stride count lo width : Nat) (a : Access) (reset : Nat) (k : Keep) (m : Bool) : Fld :=
  ⟨page, pages, off, stride, count, lo, width, a, reset, k, m, []⟩

def DEV_CAUTIOUS_STARTUP : Fld := fld 0x000 1 0x0C0 4 1 0 1 .ro 1 .V false
def DEV_CAUTIOUS_TEST : Fld := fld 0x000 1 0x0C0 4 1 1 1 .ro 0 .V false
def DEV_CAUTIOUS_SUPPLY : Fld := fld 0x000 1 0x0C0 4 1 2 1 .ro 0 .V false
def DEV_CAUTIOUS_PACE : Fld := fld 0x000 1 0x0C0 4 1 3 1 .ro 0 .V false
def DEV_CAUTIOUS_FAULT : Fld := fld 0x000 1 0x0C0 4 1 4 1 .ro 0 .V false
def DEV_CAUTIOUS_CLOCK : Fld := fld 0x000 1 0x0C0 4 1 5 1 .ro 0 .V false
def DEV_CAUTIOUS_ENTRIES : Fld := fld 0x000 1 0x0C0 4 1 16 16 .ro 0 .T false
def LST_IRQ_FLIPPED : Fld := fld 0x030 1 0x010 4 1 0 1 .w1c 0 .V false
def LST_IRQ_REFUSED : Fld := fld 0x030 1 0x010 4 1 1 1 .w1c 0 .V false
def LST_IRQ_DRAINED : Fld := fld 0x030 1 0x010 4 1 2 1 .w1c 0 .V false
def LST_IRQ_DRAIN_LIMIT : Fld := fld 0x030 1 0x010 4 1 3 1 .w1c 0 .V false
def LST_IRQ_RELOAD_DONE : Fld := fld 0x030 1 0x010 4 1 4 1 .w1c 0 .V false
def LST_IRQ_RELOAD_FAIL : Fld := fld 0x030 1 0x010 4 1 5 1 .w1c 0 .V false
def LST_STAT_STATE : Fld := fld 0x030 1 0x080 4 1 0 3 .ro 6 .V false
def LST_STAT_PENDING : Fld := fld 0x030 1 0x080 4 1 3 1 .ro 0 .V false
def LST_STAT_DRAINING : Fld := fld 0x030 1 0x080 4 1 4 1 .ro 0 .V false
def LST_STAT_NO_SPARE : Fld := fld 0x030 1 0x080 4 1 5 1 .ro 0 .V false
def LST_STAT_LOADED : Fld := fld 0x030 1 0x080 4 1 6 1 .ro 0 .V false
def LST_STAT_PRIO_LARGE : Fld := fld 0x030 1 0x080 4 1 7 1 .ro 0 .V false
def LST_STAT_ERR : Fld := fld 0x030 1 0x080 4 1 8 8 .ro 0 .V false
def LST_STAT_LIVE : Fld := fld 0x030 1 0x080 4 1 16 1 .ro 0 .T false
def LST_EPOCH_CUR : Fld := fld 0x030 1 0x084 4 1 0 2 .ro 0 .V false
def LST_EPOCH_PREV : Fld := fld 0x030 1 0x084 4 1 2 2 .ro 0 .V false
def LST_GEN_GEN : Fld := fld 0x030 1 0x088 4 1 0 32 .ro 0 .T false
def LST_SPARE_FREE : Fld := fld 0x030 1 0x08C 4 1 0 16 .ro 8192 .V false
def LST_SPARE_HELD : Fld := fld 0x030 1 0x08C 4 1 16 16 .ro 0 .V false
def LST_CS_CTRL_OPEN : Fld := fld 0x030 1 0x090 4 1 0 1 .wo 0 .V false
def LST_CS_CTRL_ABORT : Fld := fld 0x030 1 0x090 4 1 1 1 .wo 0 .V false
def LST_CS_COUNT_COUNT : Fld := fld 0x030 1 0x094 4 1 0 14 .rw 0 .V false
def LST_CS_CRC_CRC : Fld := fld 0x030 1 0x098 4 1 0 32 .rw 0 .V false
def LST_CS_BASE_GEN_BASE : Fld := fld 0x030 1 0x09C 4 1 0 32 .rw 0 .V false
def LST_COMMIT_GO : Fld := fld 0x030 1 0x0A0 4 1 0 1 .wo 0 .V false
def LST_DRAIN_LIMIT_LIMIT : Fld := fld 0x030 1 0x0A4 4 1 0 20 .rw 10000 .T false
def LST_RELOAD_FLASH : Fld := fld 0x030 1 0x0A8 4 1 0 1 .wo 0 .V false
def LST_RELOAD_HOST : Fld := fld 0x030 1 0x0A8 4 1 1 1 .wo 0 .V false
def LST_RELOAD_GO : Fld := fld 0x030 1 0x0A8 4 1 2 1 .wo 0 .V false
def LST_ERR_PAGE_LPAGE : Fld := fld 0x030 1 0x0AC 4 1 0 16 .ro 0 .V false
def LST_DRAINED_COUNT : Fld := fld 0x030 1 0x0B0 4 1 0 32 .rc 0 .V false
def LST_BUILD_LO_ID_LO : Fld := fld 0x030 1 0x0B4 4 1 0 32 .ro 0 .V false
def LST_BUILD_HI_ID_HI : Fld := fld 0x030 1 0x0B8 4 1 0 32 .ro 0 .V false
def LST_FLIP_TIME_NS : Fld := fld 0x030 1 0x0BC 4 1 0 32 .ro 0 .V false
def LST_STAGED_PAGES : Fld := fld 0x030 1 0x0C0 4 1 0 14 .ro 0 .V false
def CLR_IRQ_STALL : Fld := fld 0x040 24 0x010 4 1 0 1 .w1c 0 .V false
def CLR_IRQ_RETIRED : Fld := fld 0x040 24 0x010 4 1 1 1 .w1c 0 .V false
def CLR_IRQ_REJOINED : Fld := fld 0x040 24 0x010 4 1 2 1 .w1c 0 .V false
def CLR_IRQ_OVERBUDGET : Fld := fld 0x040 1 0x010 4 1 8 1 .w1c 0 .V false
def CLR_IRQ_PUNT_LIMITED : Fld := fld 0x040 1 0x010 4 1 9 1 .w1c 0 .V false
def CLR_STAT_ROTATION : Fld := fld 0x040 24 0x080 4 1 0 1 .ro 0 .V false
def CLR_STAT_RETIRED : Fld := fld 0x040 24 0x080 4 1 1 1 .ro 0 .V false
def CLR_STAT_CTX : Fld := fld 0x040 24 0x080 4 1 2 3 .ro 0 .V false
def CLR_STAT_STALLS : Fld := fld 0x040 24 0x080 4 1 8 8 .ro 0 .T false
def CLR_FRAMES_LO_LO : Fld := fld 0x040 24 0x084 4 1 0 32 .rc 0 .V false
def CLR_FRAMES_HI_HI : Fld := fld 0x040 24 0x088 4 1 0 32 .ro 0 .V true
def CLR_UTIL_UTIL : Fld := fld 0x040 24 0x08C 4 1 0 11 .ro 0 .V false
def CLR_CTRL_AUTO_REJOIN : Fld := fld 0x040 1 0x100 4 1 0 1 .rw 1 .T false
def CLR_CHECK_PAD_ANY : Fld := fld 0x040 1 0x104 4 1 0 1 .ro 0 .L false
def CLR_PUNT_RATE_RATE : Fld := fld 0x040 1 0x108 4 1 0 20 .ro 20000 .L false
def CLR_PUNT_BURST_BURST : Fld := fld 0x040 1 0x10C 4 1 0 13 .ro 64 .L false
def CLR_PUNT_LEVEL_TOKENS : Fld := fld 0x040 1 0x110 4 1 0 13 .ro 64 .V false
def CLR_BUDGET_DEMAND : Fld := fld 0x040 1 0x114 4 1 0 16 .ro 0 .V false
def CLR_BUDGET_OVER : Fld := fld 0x040 1 0x114 4 1 16 1 .ro 0 .V false
def CLR_BUDGET_IN_ROT : Fld := fld 0x040 1 0x114 4 1 24 5 .ro 0 .V false
def CLR_PUNTED_COUNT : Fld := fld 0x040 1 0x140 4 8 0 32 .rc 0 .V false
def CLR_PLIMITED_COUNT : Fld := fld 0x040 1 0x160 4 8 0 32 .rc 0 .V false
def CLR_PDROP_COUNT : Fld := fld 0x040 1 0x180 4 5 0 32 .rc 0 .V false
def CLR_DEPTH_BYTES : Fld := fld 0x040 1 0x200 4 37 0 9 .ro 96 .L false
def CLR_DEPTH_HDRS : Fld := fld 0x040 1 0x200 4 37 16 5 .ro 16 .L false
def CLR_DEPTH_DFLT_DROP : Fld := fld 0x040 1 0x200 4 37 24 5 .ro 31 .L false
def CLR_RO_OCC_OCC : Fld := fld 0x040 1 0x300 4 37 0 7 .ro 0 .V false
def CLR_RO_TIMEOUT_COUNT : Fld := fld 0x040 1 0x400 4 37 0 32 .rc 0 .V false
def RUL_IRQ_STALL : Fld := fld 0x058 1 0x010 4 1 0 1 .w1c 0 .V false
def RUL_FC_SEL_HANDLE : Fld := fld 0x058 1 0x080 4 1 0 16 .rw 0 .V true
def RUL_FC_SEL_CLEAR : Fld := fld 0x058 1 0x080 4 1 16 1 .wo 0 .V true
def RUL_FC_FRAMES_LO_LO : Fld := fld 0x058 1 0x084 4 1 0 32 .ro 0 .V true
def RUL_FC_FRAMES_HI_HI : Fld := fld 0x058 1 0x088 4 1 0 32 .ro 0 .V true
def RUL_FC_BYTES_LO_LO : Fld := fld 0x058 1 0x08C 4 1 0 32 .ro 0 .V true
def RUL_FC_BYTES_HI_HI : Fld := fld 0x058 1 0x090 4 1 0 32 .ro 0 .V true
def RUL_DROPPED_COUNT : Fld := fld 0x058 1 0x0A0 4 1 0 32 .rc 0 .V false
def RUL_NULL_PERMIT_COUNT : Fld := fld 0x058 1 0x0A4 4 1 0 32 .rc 0 .V false
def RUL_REWRITE_NOP_COUNT : Fld := fld 0x058 1 0x0A8 4 1 0 32 .rc 0 .V false
def MTR_SEL_METER : Fld := fld 0x059 1 0x080 4 1 0 14 .rw 0 .V true
def MTR_SEL_CLEAR : Fld := fld 0x059 1 0x080 4 1 16 1 .wo 0 .V true
def MTR_SEL_FILL : Fld := fld 0x059 1 0x080 4 1 17 1 .wo 0 .V true
def MTR_GREEN_COUNT : Fld := fld 0x059 1 0x084 4 1 0 32 .ro 0 .V true
def MTR_YELLOW_COUNT : Fld := fld 0x059 1 0x088 4 1 0 32 .ro 0 .V true
def MTR_RED_COUNT : Fld := fld 0x059 1 0x08C 4 1 0 32 .ro 0 .V true
def MTR_TC_LEVEL : Fld := fld 0x059 1 0x090 4 1 0 32 .ro 0 .V true
def MTR_TP_LEVEL : Fld := fld 0x059 1 0x094 4 1 0 32 .ro 0 .V true
def MIR_IRQ_DROP : Fld := fld 0x06A 1 0x010 4 1 0 4 .w1c 0 .V false
def MIR_COPIES_COUNT : Fld := fld 0x06A 1 0x080 4 4 0 32 .rc 0 .V false
def MIR_DROPPED_COUNT : Fld := fld 0x06A 1 0x090 4 4 0 32 .rc 0 .V false
def MIR_BAD_COUNT : Fld := fld 0x06A 1 0x0A0 4 4 0 32 .rc 0 .V false
def MIR_PROTECTED_COUNT : Fld := fld 0x06A 1 0x0B0 4 4 0 32 .rc 0 .V false
def MIR_MARGIN_CELLS : Fld := fld 0x06A 1 0x0C0 4 1 0 18 .ro 8192 .L false
def FAB_IRQ_STALL : Fld := fld 0x060 4 0x010 4 1 0 1 .w1c 0 .V false
def FAB_IRQ_RETIRED : Fld := fld 0x060 4 0x010 4 1 1 1 .w1c 0 .V false
def FAB_IRQ_REJOINED : Fld := fld 0x060 4 0x010 4 1 2 1 .w1c 0 .V false
def FAB_IRQ_BELOW_FLOOR : Fld := fld 0x060 4 0x010 4 1 3 1 .w1c 0 .V false
def FAB_IRQ_OVERLOAD : Fld := fld 0x060 1 0x010 4 1 4 1 .w1c 0 .V false
def FAB_IRQ_GOV_FAIL : Fld := fld 0x060 1 0x010 4 1 5 1 .w1c 0 .V false
def FAB_IRQ_GOV_LIMIT : Fld := fld 0x060 1 0x010 4 1 6 1 .w1c 0 .V false
def FAB_STAT_IN_SERVICE : Fld := fld 0x060 4 0x080 4 1 0 1 .ro 0 .V false
def FAB_STAT_RETIRED : Fld := fld 0x060 4 0x080 4 1 1 1 .ro 0 .V false
def FAB_STAT_STALLS : Fld := fld 0x060 4 0x080 4 1 8 8 .ro 0 .T false
def FAB_PACE_PACE : Fld := fld 0x060 4 0x084 4 1 0 12 .ro 0 .V false
def FAB_PACE_VALID : Fld := fld 0x060 4 0x084 4 1 12 1 .ro 0 .V false
def FAB_PACE_HRC : Fld := fld 0x060 4 0x084 4 1 13 1 .ro 0 .V false
def FAB_PACE_MIN_PACE : Fld := fld 0x060 4 0x088 4 1 0 12 .rc 4095 .V false
def FAB_PACE_MAX_PACE : Fld := fld 0x060 4 0x08C 4 1 0 12 .rc 0 .V false
def FAB_LOAD_LOAD : Fld := fld 0x060 4 0x090 4 1 0 11 .ro 0 .V false
def FAB_XFER_LO_LO : Fld := fld 0x060 4 0x094 4 1 0 32 .rc 0 .V false
def FAB_XFER_HI_HI : Fld := fld 0x060 4 0x098 4 1 0 32 .ro 0 .V true
def FAB_ABANDONED_COUNT : Fld := fld 0x060 4 0x09C 4 1 0 32 .rc 0 .V false
def FAB_CTRL_AUTO_REJOIN : Fld := fld 0x060 1 0x100 4 1 0 1 .rw 1 .T false
def FAB_STALL_LIMIT : Fld := fld 0x060 1 0x104 4 1 0 16 .rw 1000 .T false
def FAB_REP_REP : Fld := fld 0x060 1 0x108 4 1 0 16 .ro 256 .V false
def FAB_DEMAND_DEMAND : Fld := fld 0x060 1 0x10C 4 1 0 16 .ro 0 .V false
def FAB_DEMAND_OVER : Fld := fld 0x060 1 0x10C 4 1 16 1 .ro 0 .V false
def FAB_GOV_CTRL_EN : Fld := fld 0x060 1 0x110 4 1 0 1 .rw 0 .T false
def FAB_GOV_CTRL_PEC : Fld := fld 0x060 1 0x110 4 1 1 1 .rw 0 .T false
def FAB_GOV_CTRL_ADDR : Fld := fld 0x060 1 0x110 4 1 8 7 .rw 64 .T false
def FAB_GOV_CTRL_STEP : Fld := fld 0x060 1 0x110 4 1 16 4 .rw 5 .T false
def FAB_GOV_CTRL_INTERVAL : Fld := fld 0x060 1 0x110 4 1 24 8 .rw 1 .T false
def FAB_GOV_TARGET_TARGET : Fld := fld 0x060 1 0x114 4 1 0 12 .rw 600 .T false
def FAB_GOV_TARGET_HYST : Fld := fld 0x060 1 0x114 4 1 16 12 .rw 60 .T false
def FAB_GOV_VLIM_VMIN : Fld := fld 0x060 1 0x118 4 1 0 10 .rw 700 .T false
def FAB_GOV_VLIM_VMAX : Fld := fld 0x060 1 0x118 4 1 16 10 .rw 850 .T false
def FAB_GOV_STAT_VREQ : Fld := fld 0x060 1 0x11C 4 1 0 10 .ro 0 .T false
def FAB_GOV_STAT_VREAD : Fld := fld 0x060 1 0x11C 4 1 16 10 .ro 0 .V false
def FAB_GOV_STAT_STATE : Fld := fld 0x060 1 0x11C 4 1 28 2 .ro 0 .V false
def SOL_IRQ_SOLE_FULL : Fld := fld 0x068 1 0x010 4 1 0 1 .w1c 0 .V false
def SOL_IRQ_RESERVE : Fld := fld 0x068 1 0x010 4 1 1 1 .w1c 0 .V false
def SOL_IRQ_FLUSH_DONE : Fld := fld 0x068 1 0x010 4 1 2 1 .w1c 0 .V false
def SOL_IRQ_POLICY_BAD : Fld := fld 0x068 1 0x010 4 1 3 1 .w1c 0 .V false
def SOL_IRQ_POISON : Fld := fld 0x068 1 0x010 4 1 4 1 .w1c 0 .V false
def SOL_FREE_CELLS : Fld := fld 0x068 1 0x080 4 1 0 18 .ro 131072 .V false
def SOL_SHARED_F : Fld := fld 0x068 1 0x084 4 1 0 18 .ro 0 .V false
def SOL_SIZE_S : Fld := fld 0x068 1 0x088 4 1 0 18 .ro 0 .L false
def SOL_RESERVE_X : Fld := fld 0x068 1 0x08C 4 1 0 13 .ro 0 .V false
def SOL_PORT_STATE_STATE : Fld := fld 0x068 1 0x100 4 37 0 3 .ro 4 .V false
def SOL_PORT_STATE_FLUSHES : Fld := fld 0x068 1 0x100 4 37 8 8 .ro 0 .T false
def SOL_PORT_STATE_HELDS : Fld := fld 0x068 1 0x100 4 37 16 8 .ro 0 .T false
def SOL_CT_MAP_CT : Fld := fld 0x068 1 0x200 4 32 0 8 .ro 0 .L false
def SOL_SVC_SEL_PORT : Fld := fld 0x068 1 0x300 4 1 0 6 .rw 0 .V true
def SOL_SVC_SEL_SVC : Fld := fld 0x068 1 0x300 4 1 8 3 .rw 0 .V true
def SOL_SVC_SEL_CLEAR : Fld := fld 0x068 1 0x300 4 1 16 1 .wo 0 .V true
def SOL_SVC_POLICY_MIN : Fld := fld 0x068 1 0x304 4 1 0 16 .ro 0 .V true
def SOL_SVC_POLICY_ALPHA : Fld := fld 0x068 1 0x304 4 1 16 4 .ro 6 .V true
def SOL_SVC_POLICY_YEL : Fld := fld 0x068 1 0x304 4 1 20 2 .ro 1 .V true
def SOL_SVC_POLICY_CT : Fld := fld 0x068 1 0x304 4 1 22 1 .ro 0 .V true
def SOL_SVC_POLICY_EXPRESS : Fld := fld 0x068 1 0x304 4 1 23 1 .ro 0 .V true
def SOL_SVC_AGE_AGE : Fld := fld 0x068 1 0x308 4 1 0 20 .ro 8000 .V true
def SOL_SVC_OCC_Q : Fld := fld 0x068 1 0x30C 4 1 0 18 .ro 0 .V true
def SOL_SVC_THR_T : Fld := fld 0x068 1 0x310 4 1 0 18 .ro 0 .V true
def SOL_SVC_FULL_COUNT : Fld := fld 0x068 1 0x314 4 1 0 32 .ro 0 .V true
def SOL_SVC_AGED_COUNT : Fld := fld 0x068 1 0x318 4 1 0 32 .ro 0 .V true
def SOL_SVC_FLUSHED_COUNT : Fld := fld 0x068 1 0x31C 4 1 0 32 .ro 0 .V true
def SOL_SVC_EPOCH_COUNT : Fld := fld 0x068 1 0x320 4 1 0 32 .ro 0 .V true
def SOL_POISON_COUNT : Fld := fld 0x068 1 0x400 4 11 0 32 .rc 0 .V false
def CBR_IRQ_LEAK : Fld := fld 0x069 1 0x010 4 1 0 1 .w1c 0 .V false
def CBR_IRQ_LEAK_RATE : Fld := fld 0x069 1 0x010 4 1 1 1 .w1c 0 .V false
def CBR_IRQ_DOUBLE : Fld := fld 0x069 1 0x010 4 1 2 1 .w1c 0 .V false
def CBR_CTRL_EN : Fld := fld 0x069 1 0x080 4 1 0 1 .rw 1 .T false
def CBR_LIMIT_LIMIT : Fld := fld 0x069 1 0x084 4 1 0 16 .rw 8 .T false
def CBR_PASSES_COUNT : Fld := fld 0x069 1 0x088 4 1 0 32 .ro 0 .V false
def CBR_LAST_DURATION : Fld := fld 0x069 1 0x08C 4 1 0 16 .ro 0 .V false
def CBR_LAST_SUSPECT : Fld := fld 0x069 1 0x08C 4 1 16 16 .ro 0 .V false
def CBR_RECLAIMED_COUNT : Fld := fld 0x069 1 0x090 4 1 0 32 .rc 0 .V false
def CBR_DOUBLE_COUNT : Fld := fld 0x069 1 0x094 4 1 0 32 .rc 0 .V false
def SCH_IRQ_QMAP_BAD : Fld := fld 0x070 37 0x010 4 1 0 1 .w1c 0 .V false
def SCH_IRQ_REPARENT : Fld := fld 0x070 37 0x010 4 1 1 1 .w1c 0 .V false
def SCH_STAT_ACTIVE : Fld := fld 0x070 37 0x080 4 1 0 8 .ro 0 .V false
def SCH_STAT_ELIGIBLE : Fld := fld 0x070 37 0x080 4 1 8 8 .ro 0 .V false
def SCH_STAT_GATE : Fld := fld 0x070 37 0x080 4 1 16 8 .ro 255 .V false
def SCH_STAT_PS_NEG : Fld := fld 0x070 37 0x080 4 1 24 1 .ro 0 .V false
def SCH_STAT_PREEMPTED : Fld := fld 0x070 37 0x080 4 1 25 1 .ro 0 .V false
def SCH_PORT_RATE_PRATE : Fld := fld 0x070 37 0x084 4 1 0 32 .ro 0 .L false
def SCH_PORT_BURST_PBURST : Fld := fld 0x070 37 0x088 4 1 0 32 .ro 0 .L false
def SCH_PORT_LEVEL_LEVEL : Fld := fld 0x070 37 0x08C 4 1 0 32 .ro 0 .V false
def SCH_SVC_CFG_MODE : Fld := fld 0x070 37 0x090 4 1 0 8 .ro 0 .L false
def SCH_SVC_CFG_EXEMPT : Fld := fld 0x070 37 0x090 4 1 8 8 .ro 0 .L false
def SCH_DFLT_DFLT_Q : Fld := fld 0x070 37 0x094 4 1 0 13 .ro 0 .L false
def SCH_DFLT_PUNT_Q : Fld := fld 0x070 37 0x094 4 1 16 13 .ro 0 .L false
def SCH_QMAP_BAD_COUNT : Fld := fld 0x070 37 0x098 4 1 0 32 .rc 0 .V false
def SCH_PENDING_COUNT : Fld := fld 0x070 37 0x09C 4 1 0 13 .ro 0 .V false
def SCH_CREDIT_CREDIT : Fld := fld 0x070 37 0x0A0 4 8 0 32 .ro 0 .V false
def SCH_SVC_FRAMES_COUNT : Fld := fld 0x070 37 0x0C0 4 8 0 32 .rc 0 .V false
def SCH_SUB_SEL_SUB : Fld := fld 0x070 37 0x100 4 1 0 11 .rw 0 .V true
def SCH_SUB_STAT_SVC : Fld := fld 0x070 37 0x104 4 1 0 3 .ro 0 .V true
def SCH_SUB_STAT_ACTIVE : Fld := fld 0x070 37 0x104 4 1 3 1 .ro 0 .V true
def SCH_SUB_STAT_ROUND : Fld := fld 0x070 37 0x104 4 1 4 2 .ro 0 .V true
def SCH_SUB_STAT_PENDING : Fld := fld 0x070 37 0x104 4 1 6 1 .ro 0 .V true
def SCH_SUB_STAT_QUEUED : Fld := fld 0x070 37 0x104 4 1 16 16 .ro 0 .V true
def SCH_SUB_TAG_LO_F_LO : Fld := fld 0x070 37 0x108 4 1 0 32 .ro 0 .V true
def SCH_SUB_TAG_HI_F_HI : Fld := fld 0x070 37 0x10C 4 1 0 16 .ro 0 .V true
def SCH_SVC_VT_LO_V_LO : Fld := fld 0x070 37 0x110 4 1 0 32 .ro 0 .V true
def SCH_SVC_VT_HI_V_HI : Fld := fld 0x070 37 0x114 4 1 0 16 .ro 0 .V true
def SCH_SUB_CLEVEL_LEVEL : Fld := fld 0x070 37 0x118 4 1 0 32 .ro 0 .V true
def SCH_SUB_PLEVEL_LEVEL : Fld := fld 0x070 37 0x11C 4 1 0 32 .ro 0 .V true
def SCH_SUB_BYTES_LO_LO : Fld := fld 0x070 37 0x120 4 1 0 32 .ro 0 .V true
def SCH_SUB_BYTES_HI_HI : Fld := fld 0x070 37 0x124 4 1 0 32 .ro 0 .V true
def SCH_Q_SEL_Q : Fld := fld 0x070 37 0x140 4 1 0 13 .rw 0 .V true
def SCH_Q_STAT_FRAMES : Fld := fld 0x070 37 0x144 4 1 0 16 .ro 0 .V true
def SCH_Q_STAT_SUB : Fld := fld 0x070 37 0x144 4 1 16 11 .ro 0 .V true
def SCH_Q_STAT_PENDING : Fld := fld 0x070 37 0x144 4 1 27 1 .ro 0 .V true
def TIM_IRQ_LOCK_CHG : Fld := fld 0x0A0 1 0x010 4 1 0 2 .w1c 0 .V false
def TIM_IRQ_STEP : Fld := fld 0x0A0 1 0x010 4 1 2 2 .w1c 0 .V false
def TIM_IRQ_SYNC_LOST : Fld := fld 0x0A0 1 0x010 4 1 4 1 .w1c 0 .V false
def TIM_IRQ_EVT : Fld := fld 0x0A0 1 0x010 4 1 5 4 .w1c 0 .V false
def TIM_IRQ_EVT_OVF : Fld := fld 0x0A0 1 0x010 4 1 9 1 .w1c 0 .V false
def TIM_IRQ_TRG : Fld := fld 0x0A0 1 0x010 4 1 10 4 .w1c 0 .V false
def TIM_SNAP_SNAP : Fld := fld 0x0A0 1 0x080 4 1 0 1 .wo 0 .V true
def TIM_T_SEC_LO_SEC : Fld := fld 0x0A0 1 0x084 12 2 0 32 .ro 0 .V true
def TIM_T_SEC_HI_SEC : Fld := fld 0x0A0 1 0x088 12 2 0 16 .ro 0 .V true
def TIM_T_NS_NS : Fld := fld 0x0A0 1 0x08C 12 2 0 30 .ro 0 .V true
def TIM_DOM_STAT_STATE : Fld := fld 0x0A0 1 0x0A0 4 2 0 2 .ro 0 .V false
def TIM_DOM_STAT_GM : Fld := fld 0x0A0 1 0x0A0 4 2 2 1 .ro 0 .V false
def TIM_DOM_STAT_HRC : Fld := fld 0x0A0 1 0x0A0 4 2 3 1 .ro 0 .V false
def TIM_DOM_STAT_STEPS : Fld := fld 0x0A0 1 0x0A0 4 2 8 8 .ro 0 .T false
def TIM_RATE_RATE : Fld := fld 0x0A0 1 0x0A8 4 2 0 32 .ro 0 .V false
def TIM_OFFSET_OFFSET : Fld := fld 0x0A0 1 0x0B0 4 2 0 32 .ro 0 .V false
def TIM_DOM_CFG_EN : Fld := fld 0x0A0 1 0x0B8 4 2 0 1 .ro 0 .L false
def TIM_DOM_CFG_NUMBER : Fld := fld 0x0A0 1 0x0B8 4 2 8 7 .ro 0 .L false
def TIM_DOM_CFG_LOCK_THR : Fld := fld 0x0A0 1 0x0B8 4 2 16 16 .ro 100 .L false
def TIM_DOM_LIM_HOLDOVER : Fld := fld 0x0A0 1 0x0C0 4 2 0 16 .ro 1000 .L false
def TIM_DOM_LIM_STEP_THR : Fld := fld 0x0A0 1 0x0C0 4 2 16 16 .ro 1 .L false
def TIM_PPS_EN : Fld := fld 0x0A0 1 0x0C8 4 1 0 1 .rw 0 .T false
def TIM_PPS_DOMAIN : Fld := fld 0x0A0 1 0x0C8 4 1 1 1 .rw 0 .T false
def TIM_PPS_WIDTH : Fld := fld 0x0A0 1 0x0C8 4 1 4 12 .rw 100 .T false
def TIM_SYNC_CFG_EN : Fld := fld 0x0A0 1 0x0CC 4 1 0 1 .rw 0 .T false
def TIM_SYNC_CFG_DOMAIN : Fld := fld 0x0A0 1 0x0CC 4 1 1 1 .rw 0 .T false
def TIM_SYNC_CFG_POL : Fld := fld 0x0A0 1 0x0CC 4 1 2 1 .rw 0 .T false
def TIM_SYNC_CFG_MISS : Fld := fld 0x0A0 1 0x0CC 4 1 8 4 .rw 8 .T false
def TIM_SYNC_PERIOD_PERIOD : Fld := fld 0x0A0 1 0x0D0 4 1 0 32 .rw 1000000 .T false
def TIM_SYNC_DELAY_DELAY : Fld := fld 0x0A0 1 0x0D4 4 1 0 16 .rw 0 .T false
def TIM_SYNC_STAT_STATE : Fld := fld 0x0A0 1 0x0D8 4 1 0 3 .ro 0 .V false
def TIM_SYNC_OFFSET_O : Fld := fld 0x0A0 1 0x0DC 4 1 0 32 .ro 0 .V false
def TIM_SYNC_IGNORED_COUNT : Fld := fld 0x0A0 1 0x0E0 4 1 0 32 .rc 0 .V false
def TIM_EVT_CFG_EN : Fld := fld 0x0A0 1 0x0F0 4 4 0 1 .rw 0 .T false
def TIM_EVT_CFG_EDGE : Fld := fld 0x0A0 1 0x0F0 4 4 1 2 .rw 1 .T false
def TIM_EVT_CFG_DOMAIN : Fld := fld 0x0A0 1 0x0F0 4 4 3 1 .rw 0 .T false
def TIM_EVT_CFG_FILTER : Fld := fld 0x0A0 1 0x0F0 4 4 4 4 .rw 0 .T false
def TIM_EVT_NS_NS : Fld := fld 0x0A0 1 0x100 16 4 0 30 .rc 0 .V false
def TIM_EVT_NS_RISING : Fld := fld 0x0A0 1 0x100 16 4 30 1 .rc 0 .V false
def TIM_EVT_NS_VALID : Fld := fld 0x0A0 1 0x100 16 4 31 1 .rc 0 .V false
def TIM_EVT_SEC_LO_SEC : Fld := fld 0x0A0 1 0x104 16 4 0 32 .ro 0 .V false
def TIM_EVT_SEC_HI_SEC : Fld := fld 0x0A0 1 0x108 16 4 0 16 .ro 0 .V false
def TIM_EVT_SEC_HI_LEVEL : Fld := fld 0x0A0 1 0x108 16 4 16 5 .ro 0 .V false
def TIM_EVT_LOST_COUNT : Fld := fld 0x0A0 1 0x10C 16 4 0 32 .rc 0 .V false
def TIM_TRG_CFG_EN : Fld := fld 0x0A0 1 0x140 16 4 0 1 .rw 0 .T false
def TIM_TRG_CFG_MODE : Fld := fld 0x0A0 1 0x140 16 4 1 2 .rw 0 .T false
def TIM_TRG_CFG_DOMAIN : Fld := fld 0x0A0 1 0x140 16 4 3 1 .rw 0 .T false
def TIM_TRG_CFG_LATE : Fld := fld 0x0A0 1 0x140 16 4 4 1 .ro 0 .V false
def TIM_TRG_CFG_WIDTH : Fld := fld 0x0A0 1 0x140 16 4 8 24 .rw 100 .T false
def TIM_TRG_START_SEC_SEC : Fld := fld 0x0A0 1 0x144 16 4 0 32 .rw 0 .T false
def TIM_TRG_START_NS_NS : Fld := fld 0x0A0 1 0x148 16 4 0 30 .rw 0 .T false
def TIM_TRG_PERIOD_PERIOD : Fld := fld 0x0A0 1 0x14C 16 4 0 32 .rw 1000000 .T false
def LCE_IRQ_SWAPPED : Fld := fld 0x0A8 32 0x010 4 1 0 1 .w1c 0 .V false
def LCE_IRQ_CONFIG_ERR : Fld := fld 0x0A8 32 0x010 4 1 1 1 .w1c 0 .V false
def LCE_IRQ_LOCKED : Fld := fld 0x0A8 32 0x010 4 1 2 1 .w1c 0 .V false
def LCE_IRQ_LOCK_LOST : Fld := fld 0x0A8 32 0x010 4 1 3 1 .w1c 0 .V false
def LCE_IRQ_NOFIT : Fld := fld 0x0A8 32 0x010 4 1 4 1 .w1c 0 .V false
def LCE_IRQ_VERIFY_FAIL : Fld := fld 0x0A8 32 0x010 4 1 5 1 .w1c 0 .V false
def LCE_STAT_STATE : Fld := fld 0x0A8 32 0x080 4 1 0 2 .ro 0 .V false
def LCE_STAT_PENDING : Fld := fld 0x0A8 32 0x080 4 1 2 1 .ro 0 .V false
def LCE_STAT_PREEMPT_ACTIVE : Fld := fld 0x0A8 32 0x080 4 1 3 1 .ro 0 .V false
def LCE_STAT_SYNC_FOLLOW : Fld := fld 0x0A8 32 0x080 4 1 4 1 .ro 0 .V false
def LCE_STAT_GATES : Fld := fld 0x0A8 32 0x080 4 1 8 8 .ro 255 .V false
def LCE_STAT_ENTRY : Fld := fld 0x0A8 32 0x080 4 1 16 10 .ro 0 .V false
def LCE_STAT_ERR : Fld := fld 0x0A8 32 0x080 4 1 26 3 .ro 0 .V false
def LCE_CHANGE_SEC_LO_SEC : Fld := fld 0x0A8 32 0x084 4 1 0 32 .ro 0 .V false
def LCE_CHANGE_SEC_HI_SEC : Fld := fld 0x0A8 32 0x088 4 1 0 16 .ro 0 .V false
def LCE_CHANGE_NS_NS : Fld := fld 0x0A8 32 0x08C 4 1 0 30 .ro 0 .V false
def LCE_OPER_CYCLE_CYCLE : Fld := fld 0x0A8 32 0x090 4 1 0 32 .ro 0 .V false
def LCE_OPER_CFG_EXPRESS : Fld := fld 0x0A8 32 0x094 4 1 0 8 .ro 0 .V false
def LCE_OPER_CFG_DOMAIN : Fld := fld 0x0A8 32 0x094 4 1 8 1 .ro 0 .V false
def LCE_OPER_CFG_SYNC_EN : Fld := fld 0x0A8 32 0x094 4 1 9 1 .ro 0 .V false
def LCE_OPER_CFG_GUARD : Fld := fld 0x0A8 32 0x094 4 1 10 1 .ro 0 .V false
def LCE_OPER_CFG_PREEMPT : Fld := fld 0x0A8 32 0x094 4 1 11 1 .ro 0 .V false
def LCE_OPER_CFG_ADD_FRAG : Fld := fld 0x0A8 32 0x094 4 1 12 2 .ro 0 .V false
def LCE_CYCLES_COUNT : Fld := fld 0x0A8 32 0x098 4 1 0 32 .ro 0 .V false
def LCE_NOFIT_COUNT : Fld := fld 0x0A8 32 0x09C 4 1 0 32 .rc 0 .V false
def LCE_LOCKS_LOST : Fld := fld 0x0A8 32 0x0A0 4 1 0 16 .ro 0 .T false
def MAC_IRQ_LINK_UP : Fld := fld 0x0D0 32 0x010 4 1 0 1 .w1c 0 .V false
def MAC_IRQ_LINK_DOWN : Fld := fld 0x0D0 32 0x010 4 1 1 1 .w1c 0 .V false
def MAC_IRQ_PAUSE_WD : Fld := fld 0x0D0 32 0x010 4 1 2 1 .w1c 0 .V false
def MAC_IRQ_RATE_UNSUP : Fld := fld 0x0D0 32 0x010 4 1 3 1 .w1c 0 .V false
def MAC_IRQ_CFG_ERR : Fld := fld 0x0D0 32 0x010 4 1 4 1 .w1c 0 .V false
def MAC_CFG_MODE : Fld := fld 0x0D0 32 0x080 4 1 0 4 .ro 0 .L false
def MAC_CFG_FEC : Fld := fld 0x0D0 32 0x080 4 1 4 2 .ro 0 .L false
def MAC_CFG_RX_PAUSE : Fld := fld 0x0D0 32 0x080 4 1 8 1 .ro 0 .L false
def MAC_CFG_TX_PAUSE : Fld := fld 0x0D0 32 0x080 4 1 9 1 .ro 0 .L false
def MAC_CFG_PFC : Fld := fld 0x0D0 32 0x080 4 1 10 1 .ro 0 .L false
def MAC_CFG_XOFF : Fld := fld 0x0D0 32 0x080 4 1 16 4 .ro 12 .L false
def MAC_CFG_XON : Fld := fld 0x0D0 32 0x080 4 1 20 4 .ro 8 .L false
def MAC_MAX_FRAME_MAX : Fld := fld 0x0D0 32 0x084 4 1 0 14 .ro 1522 .L false
def MAC_LINK_UP : Fld := fld 0x0D0 32 0x088 4 1 0 1 .ro 0 .V false
def MAC_LINK_RATE : Fld := fld 0x0D0 32 0x088 4 1 1 3 .ro 0 .V false
def MAC_LINK_LF : Fld := fld 0x0D0 32 0x088 4 1 4 1 .ro 0 .V false
def MAC_LINK_RF : Fld := fld 0x0D0 32 0x088 4 1 5 1 .ro 0 .V false
def MAC_LINK_HI_BER : Fld := fld 0x0D0 32 0x088 4 1 6 1 .ro 0 .V false
def MAC_LINK_RATE_UNSUP : Fld := fld 0x0D0 32 0x088 4 1 7 1 .ro 0 .V false
def MAC_LINK_DOWNS : Fld := fld 0x0D0 32 0x088 4 1 16 16 .ro 0 .T false
def MAC_CAUTIOUS_DEVICE : Fld := fld 0x0D0 32 0x08C 4 1 0 1 .ro 1 .V false
def MAC_CAUTIOUS_TEST : Fld := fld 0x0D0 32 0x08C 4 1 1 1 .ro 0 .V false
def MAC_CAUTIOUS_FAULT : Fld := fld 0x0D0 32 0x08C 4 1 2 1 .ro 0 .V false
def MAC_CAUTIOUS_LACE : Fld := fld 0x0D0 32 0x08C 4 1 3 1 .ro 1 .V false
def MAC_CAUTIOUS_RETURN : Fld := fld 0x0D0 32 0x08C 4 1 4 1 .ro 0 .V false
def MAC_CAUTIOUS_ENTRIES : Fld := fld 0x0D0 32 0x08C 4 1 16 16 .ro 0 .T false
def MAC_PAUSE_WD_WD : Fld := fld 0x0D0 32 0x090 4 1 0 16 .rw 50 .T false
def MAC_PAUSE_WD_IGNORE : Fld := fld 0x0D0 32 0x090 4 1 16 16 .rw 10 .T false
def MAC_PAUSE_STAT_PAUSED : Fld := fld 0x0D0 32 0x094 4 1 0 1 .ro 0 .V false
def MAC_PAUSE_STAT_CLASSES : Fld := fld 0x0D0 32 0x094 4 1 8 8 .ro 0 .V false
def MAC_PAUSE_STAT_IGNORING : Fld := fld 0x0D0 32 0x094 4 1 16 1 .ro 0 .V false
def MAC_TEST_LOOP : Fld := fld 0x0D0 32 0x098 4 1 0 2 .rw 0 .V false
def MAC_ADDR_LO_ADDR : Fld := fld 0x0D0 32 0x09C 4 1 0 32 .ro 0 .L false
def MAC_ADDR_HI_ADDR : Fld := fld 0x0D0 32 0x0A0 4 1 0 16 .ro 0 .L false
def MAC_LATENCY_TX : Fld := fld 0x0D0 32 0x0A4 4 1 0 16 .ro 0 .V false
def MAC_LATENCY_RX : Fld := fld 0x0D0 32 0x0A4 4 1 16 16 .ro 0 .V false
def MAC_CNT_LO_LO : Fld := fld 0x0D0 32 0x200 8 40 0 32 .rc 0 .V false
def MAC_CNT_HI_HI : Fld := fld 0x0D0 32 0x204 8 40 0 32 .ro 0 .V true
def MDIO_CFG_DIV : Fld := fld 0x0D0 1 0x400 16 4 0 4 .rw 4 .T false
def MDIO_CFG_NO_PRE : Fld := fld 0x0D0 1 0x400 16 4 8 1 .rw 0 .T false
def MDIO_CMD_DATA : Fld := fld 0x0D0 1 0x404 16 4 0 16 .wo 0 .V true
def MDIO_CMD_REG : Fld := fld 0x0D0 1 0x404 16 4 16 5 .wo 0 .V true
def MDIO_CMD_PHY : Fld := fld 0x0D0 1 0x404 16 4 21 5 .wo 0 .V true
def MDIO_CMD_OP : Fld := fld 0x0D0 1 0x404 16 4 26 2 .wo 0 .V true
def MDIO_CMD_C45 : Fld := fld 0x0D0 1 0x404 16 4 28 1 .wo 0 .V true
def MDIO_STAT_RDATA : Fld := fld 0x0D0 1 0x408 16 4 0 16 .ro 0 .V true
def MDIO_STAT_BUSY : Fld := fld 0x0D0 1 0x408 16 4 16 1 .ro 0 .V true
def SDS_IRQ_SIGNAL_LOST : Fld := fld 0x0F0 24 0x010 4 1 0 1 .w1c 0 .V false
def SDS_IRQ_CDR_LOST : Fld := fld 0x0F0 24 0x010 4 1 1 1 .w1c 0 .V false
def SDS_IRQ_PLL_LOST : Fld := fld 0x0F0 24 0x010 4 1 2 1 .w1c 0 .V false
def SDS_IRQ_PRBS_ERR : Fld := fld 0x0F0 24 0x010 4 1 3 1 .w1c 0 .V false
def SDS_STAT_SIGNAL : Fld := fld 0x0F0 24 0x080 4 1 0 1 .ro 0 .V false
def SDS_STAT_CDR_LOCK : Fld := fld 0x0F0 24 0x080 4 1 1 1 .ro 0 .V false
def SDS_STAT_PLL_LOCK : Fld := fld 0x0F0 24 0x080 4 1 2 1 .ro 0 .V false
def SDS_STAT_EQ_VALID : Fld := fld 0x0F0 24 0x080 4 1 3 1 .ro 0 .T false
def SDS_STAT_BAUD : Fld := fld 0x0F0 24 0x080 4 1 4 3 .ro 0 .V false
def SDS_TEST_LOOP : Fld := fld 0x0F0 24 0x084 4 1 0 2 .rw 0 .V false
def SDS_TEST_PRBS_TX : Fld := fld 0x0F0 24 0x084 4 1 4 3 .rw 0 .V false
def SDS_TEST_PRBS_RX : Fld := fld 0x0F0 24 0x084 4 1 8 3 .rw 0 .V false
def SDS_PRBS_ERR_COUNT : Fld := fld 0x0F0 24 0x088 4 1 0 32 .rc 0 .V false
def SDS_EQ_KEEP : Fld := fld 0x0F0 24 0x08C 4 1 0 1 .rw 1 .T false
def SDS_EQ_TX_AMP : Fld := fld 0x0F0 24 0x08C 4 1 8 8 .ro 0 .L false
def SDS_EQ_TX_PRE : Fld := fld 0x0F0 24 0x08C 4 1 16 4 .ro 0 .L false
def SDS_EQ_TX_POST : Fld := fld 0x0F0 24 0x08C 4 1 20 4 .ro 0 .L false
def T1S_IRQ_STATE_CHG : Fld := fld 0x108 8 0x010 4 1 0 1 .w1c 0 .V false
def T1S_IRQ_PLCA_LOST : Fld := fld 0x108 8 0x010 4 1 1 1 .w1c 0 .V false
def T1S_IRQ_PLCA_BACK : Fld := fld 0x108 8 0x010 4 1 2 1 .w1c 0 .V false
def T1S_IRQ_CABLE_DONE : Fld := fld 0x108 8 0x010 4 1 3 1 .w1c 0 .V false
def T1S_IRQ_XCOLL : Fld := fld 0x108 8 0x010 4 1 4 1 .w1c 0 .V false
def T1S_CTRL_REQ : Fld := fld 0x108 8 0x080 4 1 0 2 .rw 0 .V false
def T1S_CTRL_CABLE_GO : Fld := fld 0x108 8 0x080 4 1 2 1 .wo 0 .V false
def T1S_STAT_STATE : Fld := fld 0x108 8 0x084 4 1 0 2 .ro 3 .V false
def T1S_STAT_PLCA_ACTIVE : Fld := fld 0x108 8 0x084 4 1 2 1 .ro 0 .V false
def T1S_STAT_COORD : Fld := fld 0x108 8 0x084 4 1 3 1 .ro 0 .V false
def T1S_STAT_PLCA_CFG_ERR : Fld := fld 0x108 8 0x084 4 1 4 1 .ro 0 .V false
def T1S_STAT_CABLE : Fld := fld 0x108 8 0x084 4 1 8 3 .ro 0 .V false
def T1S_PLCA_CFG_EN : Fld := fld 0x108 8 0x088 4 1 0 1 .ro 0 .L false
def T1S_PLCA_CFG_NODE_ID : Fld := fld 0x108 8 0x088 4 1 8 8 .ro 0 .L false
def T1S_PLCA_CFG_NODE_COUNT : Fld := fld 0x108 8 0x088 4 1 16 8 .ro 8 .L false
def T1S_PLCA_CFG_TO_TIMER : Fld := fld 0x108 8 0x088 4 1 24 8 .ro 32 .L false
def T1S_BURST_MAX_BURST : Fld := fld 0x108 8 0x08C 4 1 0 8 .ro 0 .L false
def T1S_BURST_BURST_TIMER : Fld := fld 0x108 8 0x08C 4 1 8 16 .ro 128 .L false
def T1S_BEACONS_COUNT : Fld := fld 0x108 8 0x090 4 1 0 32 .rc 0 .V false
def T1S_COLL_COUNT : Fld := fld 0x108 8 0x094 4 1 0 32 .rc 0 .V false
def T1S_XCOLL_COUNT : Fld := fld 0x108 8 0x098 4 1 0 32 .rc 0 .V false
def AWL_IRQ_OVERLOAD : Fld := fld 0x110 16 0x010 4 1 0 1 .w1c 0 .V false
def AWL_IRQ_NO_ROUTE : Fld := fld 0x110 16 0x010 4 1 1 1 .w1c 0 .V false
def AWL_IRQ_DECAP_ERR : Fld := fld 0x110 16 0x010 4 1 2 1 .w1c 0 .V false
def AWL_IRQ_FORMAT : Fld := fld 0x110 16 0x010 4 1 3 1 .w1c 0 .V false
def AWL_IRQ_VERIFY_FAIL : Fld := fld 0x110 16 0x010 4 1 4 1 .w1c 0 .V false
def AWL_IRQ_WDOG : Fld := fld 0x110 16 0x010 4 1 5 1 .w1c 0 .V false
def AWL_STAT_RUNNING : Fld := fld 0x110 16 0x080 4 1 0 1 .ro 0 .V false
def AWL_STAT_QUEUE : Fld := fld 0x110 16 0x080 4 1 8 9 .ro 0 .V false
def AWL_STAT_WDOGS : Fld := fld 0x110 16 0x080 4 1 24 8 .ro 0 .T false
def AWL_MSGS_LO_LO : Fld := fld 0x110 16 0x084 4 1 0 32 .rc 0 .V false
def AWL_MSGS_HI_HI : Fld := fld 0x110 16 0x088 4 1 0 32 .ro 0 .V true
def AWL_LOAD_LOAD : Fld := fld 0x110 16 0x08C 4 1 0 11 .ro 0 .V false
def AWL_NO_ROUTE_COUNT : Fld := fld 0x110 16 0x090 4 1 0 32 .rc 0 .V false
def AWL_DENIED_COUNT : Fld := fld 0x110 16 0x094 4 1 0 32 .rc 0 .V false
def AWL_OVERLOAD_COUNT : Fld := fld 0x110 16 0x098 4 1 0 32 .rc 0 .V false
def AWL_DECAP_ERR_COUNT : Fld := fld 0x110 16 0x09C 4 1 0 32 .rc 0 .V false
def AWL_FORMAT_COUNT : Fld := fld 0x110 16 0x0A0 4 1 0 32 .rc 0 .V false
def AWL_VERIFY_FAIL_COUNT : Fld := fld 0x110 16 0x0A4 4 1 0 32 .rc 0 .V false
def AWL_SEQ_GAP_COUNT : Fld := fld 0x110 16 0x0A8 4 1 0 32 .rc 0 .V false
def AWL_RT_SEL_ROUTE : Fld := fld 0x110 16 0x100 4 1 0 14 .rw 0 .V true
def AWL_RT_SEL_CLEAR : Fld := fld 0x110 16 0x100 4 1 16 1 .wo 0 .V true
def AWL_RT_HITS_COUNT : Fld := fld 0x110 16 0x104 4 1 0 32 .ro 0 .V true
def AWL_RT_DROPS_COUNT : Fld := fld 0x110 16 0x108 4 1 0 32 .ro 0 .V true
def AWL_BUNDLE_PORT_PORT : Fld := fld 0x110 1 0x180 4 1 0 16 .ro 49411 .L false
def AWL_UCODE_VERSION : Fld := fld 0x110 1 0x184 4 1 0 32 .ro 0 .V false
def CAN_IRQ_BUS_OFF : Fld := fld 0x120 64 0x010 4 1 0 1 .w1c 0 .V false
def CAN_IRQ_RECOVERED : Fld := fld 0x120 64 0x010 4 1 1 1 .w1c 0 .V false
def CAN_IRQ_ERR_PASSIVE : Fld := fld 0x120 64 0x010 4 1 2 1 .w1c 0 .V false
def CAN_IRQ_RX_OVF : Fld := fld 0x120 64 0x010 4 1 3 1 .w1c 0 .V false
def CAN_IRQ_TX_DROP : Fld := fld 0x120 64 0x010 4 1 4 1 .w1c 0 .V false
def CAN_IRQ_SLOT_MISSED : Fld := fld 0x120 64 0x010 4 1 5 1 .w1c 0 .V false
def CAN_CTRL_RECOVER : Fld := fld 0x120 64 0x080 4 1 0 1 .wo 0 .V false
def CAN_STAT_STATE : Fld := fld 0x120 64 0x084 4 1 0 3 .ro 0 .V false
def CAN_STAT_TEC : Fld := fld 0x120 64 0x084 4 1 8 8 .ro 0 .V false
def CAN_STAT_REC : Fld := fld 0x120 64 0x084 4 1 16 8 .ro 0 .V false
def CAN_BT_NOM_BT : Fld := fld 0x120 64 0x088 4 1 0 30 .ro 0 .L false
def CAN_BT_FD_BT : Fld := fld 0x120 64 0x08C 4 1 0 30 .ro 0 .L false
def CAN_BT_XL_BT : Fld := fld 0x120 64 0x090 4 1 0 30 .ro 0 .L false
def CAN_CFG_EN : Fld := fld 0x120 64 0x094 4 1 0 5 .ro 0 .L false
def CAN_CFG_CH_EN : Fld := fld 0x120 64 0x094 4 1 7 1 .ro 0 .L false
def CAN_CFG_TDCO : Fld := fld 0x120 64 0x094 4 1 8 8 .ro 0 .L false
def CAN_CFG_REC_DELAY : Fld := fld 0x120 64 0x094 4 1 16 16 .ro 0 .L false
def CAN_TDC_TDCV : Fld := fld 0x120 64 0x098 4 1 0 8 .ro 0 .V false
def CAN_OCC_RX_FRAMES : Fld := fld 0x120 64 0x09C 4 1 0 7 .ro 0 .V false
def CAN_OCC_RX_BYTES : Fld := fld 0x120 64 0x09C 4 1 8 15 .ro 0 .V false
def CAN_OCC_TX_BUFS : Fld := fld 0x120 64 0x09C 4 1 23 6 .ro 0 .V false
def CAN_RX_OK_COUNT : Fld := fld 0x120 64 0x0A0 4 1 0 32 .rc 0 .V false
def CAN_TX_OK_COUNT : Fld := fld 0x120 64 0x0A4 4 1 0 32 .rc 0 .V false
def CAN_RX_OVF_COUNT : Fld := fld 0x120 64 0x0A8 4 1 0 32 .rc 0 .V false
def CAN_TX_FULL_COUNT : Fld := fld 0x120 64 0x0AC 4 1 0 32 .rc 0 .V false
def CAN_TX_EVICTED_COUNT : Fld := fld 0x120 64 0x0B0 4 1 0 32 .rc 0 .V false
def CAN_AGED_COUNT : Fld := fld 0x120 64 0x0B4 4 1 0 32 .rc 0 .V false
def CAN_SLOT_MISSED_COUNT : Fld := fld 0x120 64 0x0B8 4 1 0 32 .rc 0 .V false
def CAN_SLOT_OVER_COUNT : Fld := fld 0x120 64 0x0BC 4 1 0 32 .rc 0 .V false
def CAN_ERR_FRAMES_COUNT : Fld := fld 0x120 64 0x0C0 4 1 0 32 .rc 0 .V false
def CAN_BUSOFFS_COUNT : Fld := fld 0x120 64 0x0C4 4 1 0 16 .ro 0 .T false
def LIN_IRQ_NO_RESP : Fld := fld 0x160 16 0x010 4 1 0 1 .w1c 0 .V false
def LIN_IRQ_CHK_ERR : Fld := fld 0x160 16 0x010 4 1 1 1 .w1c 0 .V false
def LIN_IRQ_SYNC_ERR : Fld := fld 0x160 16 0x010 4 1 2 1 .w1c 0 .V false
def LIN_IRQ_WAKE_RX : Fld := fld 0x160 16 0x010 4 1 3 1 .w1c 0 .V false
def LIN_IRQ_TABLE_SW : Fld := fld 0x160 16 0x010 4 1 4 1 .w1c 0 .V false
def LIN_CTRL_TABLE : Fld := fld 0x160 16 0x080 4 1 0 3 .rw 0 .V false
def LIN_CTRL_WAKE_TX : Fld := fld 0x160 16 0x080 4 1 4 1 .wo 0 .V false
def LIN_STAT_STATE : Fld := fld 0x160 16 0x084 4 1 0 2 .ro 0 .V false
def LIN_STAT_ROLE : Fld := fld 0x160 16 0x084 4 1 2 1 .ro 0 .V false
def LIN_STAT_TABLE : Fld := fld 0x160 16 0x084 4 1 4 3 .ro 0 .V false
def LIN_STAT_ENTRY : Fld := fld 0x160 16 0x084 4 1 8 6 .ro 0 .V false
def LIN_STAT_RATE : Fld := fld 0x160 16 0x084 4 1 16 16 .ro 0 .V false
def LIN_CFG_ROLE : Fld := fld 0x160 16 0x088 4 1 0 1 .ro 0 .L false
def LIN_CFG_DFLT_TABLE : Fld := fld 0x160 16 0x088 4 1 1 3 .ro 0 .L false
def LIN_CFG_EN : Fld := fld 0x160 16 0x088 4 1 4 1 .ro 0 .L false
def LIN_CFG_BITRATE : Fld := fld 0x160 16 0x088 4 1 16 16 .ro 19200 .L false
def LIN_RX_OK_COUNT : Fld := fld 0x160 16 0x090 4 1 0 32 .rc 0 .V false
def LIN_TX_OK_COUNT : Fld := fld 0x160 16 0x094 4 1 0 32 .rc 0 .V false
def LIN_NO_RESP_COUNT : Fld := fld 0x160 16 0x098 4 1 0 32 .rc 0 .V false
def LIN_CHK_ERR_COUNT : Fld := fld 0x160 16 0x09C 4 1 0 32 .rc 0 .V false
def LIN_BIT_ERR_COUNT : Fld := fld 0x160 16 0x0A0 4 1 0 32 .rc 0 .V false
def LIN_SYNC_ERR_COUNT : Fld := fld 0x160 16 0x0A4 4 1 0 32 .rc 0 .V false
def TCA_IRQ_ALARM : Fld := fld 0x170 1 0x010 4 1 0 1 .w1c 0 .V false
def TCA_IRQ_EVENT : Fld := fld 0x170 1 0x010 4 1 1 1 .w1c 0 .V false
def TCA_IRQ_TAG_FAIL : Fld := fld 0x170 1 0x010 4 1 2 1 .w1c 0 .V false
def TCA_IRQ_RELEASED_FAIL : Fld := fld 0x170 1 0x010 4 1 3 1 .w1c 0 .V false
def TCA_IRQ_LEN_ERR : Fld := fld 0x170 1 0x010 4 1 4 1 .w1c 0 .V false
def TCA_IRQ_CFG_ERR : Fld := fld 0x170 1 0x010 4 1 5 1 .w1c 0 .V false
def TCA_STAT_STATE : Fld := fld 0x170 1 0x080 4 1 0 2 .ro 0 .V false
def TCA_STAT_DRBG_OK : Fld := fld 0x170 1 0x080 4 1 2 1 .ro 0 .V false
def TCA_STAT_RESTORING : Fld := fld 0x170 1 0x080 4 1 3 1 .ro 0 .V false
def TCA_PN_THR_THR : Fld := fld 0x170 1 0x084 4 1 0 32 .rw 4294901760 .T false
def TCA_XPN_THR_LO_THR : Fld := fld 0x170 1 0x088 4 1 0 32 .rw 0 .T false
def TCA_XPN_THR_HI_THR : Fld := fld 0x170 1 0x08C 4 1 0 32 .rw 4294967295 .T false
def TCA_FV_THR_LO_THR : Fld := fld 0x170 1 0x090 4 1 0 32 .rw 0 .T false
def TCA_FV_THR_HI_THR : Fld := fld 0x170 1 0x094 4 1 0 32 .rw 4294967295 .T false
def TCA_EVT_INDEX : Fld := fld 0x170 1 0x098 4 1 0 11 .rc 0 .V false
def TCA_EVT_TYPE : Fld := fld 0x170 1 0x098 4 1 28 3 .rc 0 .V false
def TCA_EVT_VALID : Fld := fld 0x170 1 0x098 4 1 31 1 .rc 0 .V false
def TCA_EVT_LOST_COUNT : Fld := fld 0x170 1 0x09C 4 1 0 32 .rc 0 .V false
def TCA_PORT_SEL_PORT : Fld := fld 0x170 1 0x0A0 4 1 0 5 .rw 0 .V true
def TCA_PORT_SEL_CLEAR : Fld := fld 0x170 1 0x0A0 4 1 16 1 .wo 0 .V true
def TCA_TX_PROTECTED_COUNT : Fld := fld 0x170 1 0x0A4 4 1 0 32 .ro 0 .V true
def TCA_TX_PN_EXH_COUNT : Fld := fld 0x170 1 0x0A8 4 1 0 32 .ro 0 .V true
def TCA_TX_NO_SA_COUNT : Fld := fld 0x170 1 0x0AC 4 1 0 32 .ro 0 .V true
def TCA_RX_OK_COUNT : Fld := fld 0x170 1 0x0B0 4 1 0 32 .ro 0 .V true
def TCA_RX_UNTAGGED_COUNT : Fld := fld 0x170 1 0x0B4 4 1 0 32 .ro 0 .V true
def TCA_RX_BAD_TAG_COUNT : Fld := fld 0x170 1 0x0B8 4 1 0 32 .ro 0 .V true
def TCA_RX_NO_SA_COUNT : Fld := fld 0x170 1 0x0BC 4 1 0 32 .ro 0 .V true
def TCA_RX_LATE_COUNT : Fld := fld 0x170 1 0x0C0 4 1 0 32 .ro 0 .V true
def TCA_TAG_FAIL_COUNT : Fld := fld 0x170 1 0x0C4 4 1 0 32 .ro 0 .V true
def TCA_RELEASED_FAIL_COUNT : Fld := fld 0x170 1 0x0C8 4 1 0 32 .ro 0 .V true
def TCA_NOTREADY_DROPS_COUNT : Fld := fld 0x170 1 0x0CC 4 1 0 32 .ro 0 .V true
def TCA_ERRS_COUNT : Fld := fld 0x170 1 0x100 4 6 0 32 .rc 0 .V false
def TKM_IRQ_LOAD_DONE : Fld := fld 0x171 1 0x010 4 1 0 1 .w1c 0 .V false
def TKM_IRQ_LOAD_ERR : Fld := fld 0x171 1 0x010 4 1 1 1 .w1c 0 .V false
def TKM_CTRL_LOCK : Fld := fld 0x171 1 0x080 4 1 0 1 .w1s 0 .H false
def TKM_LD_CTRL_INDEX : Fld := fld 0x171 1 0x084 4 1 0 11 .rw 0 .V false
def TKM_LD_CTRL_CLASS : Fld := fld 0x171 1 0x084 4 1 12 2 .rw 0 .V false
def TKM_LD_CTRL_KLEN : Fld := fld 0x171 1 0x084 4 1 14 1 .rw 0 .V false
def TKM_LD_CTRL_PLAIN : Fld := fld 0x171 1 0x084 4 1 15 1 .rw 0 .V false
def TKM_LD_CTRL_WRAP : Fld := fld 0x171 1 0x084 4 1 16 4 .rw 0 .V false
def TKM_LD_CTRL_OP : Fld := fld 0x171 1 0x084 4 1 24 2 .wo 0 .V false
def TKM_LD_STAT_BUSY : Fld := fld 0x171 1 0x088 4 1 0 1 .ro 0 .V false
def TKM_LD_STAT_RESULT : Fld := fld 0x171 1 0x088 4 1 4 4 .ro 0 .V false
def TKM_SA_CFG_SUITE : Fld := fld 0x171 1 0x08C 4 1 0 2 .rw 0 .V false
def TKM_SA_CFG_DIR : Fld := fld 0x171 1 0x08C 4 1 2 1 .rw 0 .V false
def TKM_SA_SSCI_SSCI : Fld := fld 0x171 1 0x090 4 1 0 32 .rw 0 .V false
def TKM_SA_SALT_SALT : Fld := fld 0x171 1 0x094 4 3 0 32 .rw 0 .V false
def TKM_SA_PN_LO_PN : Fld := fld 0x171 1 0x0A0 4 1 0 32 .rw 1 .V false
def TKM_SA_PN_HI_PN : Fld := fld 0x171 1 0x0A4 4 1 0 32 .rw 0 .V false
def TKM_LD_DATA_DATA : Fld := fld 0x171 1 0x0C0 4 10 0 32 .wo 0 .V false
def TKM_SEL_INDEX : Fld := fld 0x171 1 0x100 4 1 0 11 .rw 0 .V true
def TKM_SEL_CLASS : Fld := fld 0x171 1 0x100 4 1 12 2 .rw 0 .V true
def TKM_SEL_STAT_PRESENT : Fld := fld 0x171 1 0x104 4 1 0 1 .ro 0 .V true
def TKM_SEL_STAT_KLEN : Fld := fld 0x171 1 0x104 4 1 1 1 .ro 0 .V true
def TKM_SEL_STAT_PLAIN : Fld := fld 0x171 1 0x104 4 1 2 1 .ro 0 .V true
def TKM_SEL_STAT_REF : Fld := fld 0x171 1 0x104 4 1 3 1 .ro 0 .V true
def TKM_SEL_STAT_SA_STATE : Fld := fld 0x171 1 0x104 4 1 4 2 .ro 0 .V true
def TKM_SEL_STAT_KCV : Fld := fld 0x171 1 0x104 4 1 8 24 .ro 0 .V true
def TKM_SEL_PN_LO_PN : Fld := fld 0x171 1 0x108 4 1 0 32 .ro 0 .T true
def TKM_SEL_PN_HI_PN : Fld := fld 0x171 1 0x10C 4 1 0 32 .ro 0 .T true
def TKM_SEL_OK_COUNT : Fld := fld 0x171 1 0x110 4 1 0 32 .ro 0 .V true
def TKM_SEL_BAD_COUNT : Fld := fld 0x171 1 0x114 4 1 0 32 .ro 0 .V true
def TKM_FV_IDX_INDEX : Fld := fld 0x171 1 0x120 4 1 0 11 .rw 0 .V true
def TKM_FV_LO_FV : Fld := fld 0x171 1 0x124 4 1 0 32 .rw 0 .V true
def TKM_FV_HI_FV : Fld := fld 0x171 1 0x128 4 1 0 32 .rw 0 .V true
def TKM_FV_CMD_OP : Fld := fld 0x171 1 0x12C 4 1 0 2 .wo 0 .V true
def TKM_ALARM_CAUSE : Fld := fld 0x171 1 0x140 4 1 0 6 .w1c 0 .H false
def TKM_ALARMS_COUNT : Fld := fld 0x171 1 0x144 4 1 0 16 .ro 0 .H false
def DEV_OWNER_OWNER : Fld := fld 0x000 1 0x0D0 4 1 0 32 .rw 0 .T false
def DEV_OWNER_ERR_HOST : Fld := fld 0x000 1 0x0D4 4 1 0 16 .ro 0 .T false
def DEV_OWNER_ERR_SIDEBAND : Fld := fld 0x000 1 0x0D4 4 1 16 16 .ro 0 .T false
def DEV_IRQ_SUM_PAGES : Fld := fld 0x000 1 0x100 4 12 0 32 .ro 0 .V false
def WLT_IRQ_PERR : Fld := fld 0x020 1 0x010 4 1 0 1 .w1c 0 .V false
def WLT_IRQ_PERR_OVF : Fld := fld 0x020 1 0x010 4 1 1 1 .w1c 0 .V false
def WLT_IRQ_RD_TIMEOUT : Fld := fld 0x020 1 0x010 4 1 2 1 .w1c 0 .V false
def WLT_IRQ_LINK_DOWN : Fld := fld 0x020 1 0x010 4 1 3 1 .w1c 0 .V false
def WLT_RANGE_BASE_BASE : Fld := { fld 0x020 1 0x080 8 8 12 14 .rw 0 .T false with resets := [0, 0x1000] }
def WLT_RANGE_CFG_EN : Fld := { fld 0x020 1 0x084 8 8 0 1 .rw 0 .T false with resets := [1, 1] }
def WLT_RANGE_CFG_CONFIRMED : Fld := { fld 0x020 1 0x084 8 8 1 1 .rw 0 .T false with resets := [1] }
def WLT_RANGE_CFG_LIMIT : Fld := { fld 0x020 1 0x084 8 8 12 14 .rw 0 .T false with resets := [0xFFF, 0x1FFF] }
def WLT_STAT_LINK_UP : Fld := fld 0x020 1 0x0C0 4 1 0 1 .ro 0 .V false
def WLT_STAT_WIDTH : Fld := fld 0x020 1 0x0C0 4 1 1 3 .ro 0 .V false
def WLT_STAT_SPEED : Fld := fld 0x020 1 0x0C0 4 1 4 3 .ro 0 .V false
def WLT_STAT_BME : Fld := fld 0x020 1 0x0C0 4 1 7 1 .ro 0 .V false
def WLT_STAT_OUTSTANDING : Fld := fld 0x020 1 0x0C0 4 1 8 7 .ro 0 .V false
def WLT_WR_SEQ_SEQ : Fld := fld 0x020 1 0x0C4 4 1 0 32 .ro 0 .V false
def WLT_RD_TIMEOUTS_COUNT : Fld := fld 0x020 1 0x0C8 4 1 0 32 .rc 0 .V false
def WLT_PERR_STAT_COUNT : Fld := fld 0x020 1 0x0D0 4 1 0 5 .ro 0 .V false
def WLT_PERR_STAT_HEAD : Fld := fld 0x020 1 0x0D0 4 1 8 4 .ro 0 .V false
def WLT_PERR_OVF_COUNT : Fld := fld 0x020 1 0x0D4 4 1 0 32 .rc 0 .V false
def WLT_PERR_ACK_N : Fld := fld 0x020 1 0x0D8 4 1 0 5 .wo 0 .V false
def HDM_IRQ_RX : Fld := fld 0x021 1 0x010 4 1 0 8 .w1c 0 .V false
def HDM_IRQ_TX : Fld := fld 0x021 1 0x010 4 1 8 8 .w1c 0 .V false
def HDM_IRQ_RX_NO_DESC : Fld := fld 0x021 1 0x010 4 1 16 1 .w1c 0 .V false
def HDM_IRQ_TX_POLICY : Fld := fld 0x021 1 0x010 4 1 17 1 .w1c 0 .V false
def HDM_IRQ_DMA_ERR : Fld := fld 0x021 1 0x010 4 1 18 1 .w1c 0 .V false
def HDM_IRQ_TX_BAD : Fld := fld 0x021 1 0x010 4 1 19 1 .w1c 0 .V false
def HDM_RX_BASE_LO_BASE : Fld := fld 0x021 1 0x100 32 8 5 27 .rw 0 .V false
def HDM_TX_BASE_LO_BASE : Fld := fld 0x021 1 0x200 32 8 5 27 .rw 0 .V false
def HDM_RX_BASE_HI_BASE : Fld := fld 0x021 1 0x104 32 8 0 32 .rw 0 .V false
def HDM_TX_BASE_HI_BASE : Fld := fld 0x021 1 0x204 32 8 0 32 .rw 0 .V false
def HDM_RX_CFG_EN : Fld := fld 0x021 1 0x108 32 8 0 1 .rw 0 .V false
def HDM_TX_CFG_EN : Fld := fld 0x021 1 0x208 32 8 0 1 .rw 0 .V false
def HDM_RX_CFG_KIND : Fld := fld 0x021 1 0x108 32 8 1 1 .rw 0 .V false
def HDM_TX_CFG_KIND : Fld := fld 0x021 1 0x208 32 8 1 1 .rw 0 .V false
def HDM_RX_CFG_ERR : Fld := fld 0x021 1 0x108 32 8 2 1 .ro 0 .V false
def HDM_TX_CFG_ERR : Fld := fld 0x021 1 0x208 32 8 2 1 .ro 0 .V false
def HDM_RX_CFG_SIZE_LOG2 : Fld := fld 0x021 1 0x108 32 8 8 5 .rw 6 .V false
def HDM_TX_CFG_SIZE_LOG2 : Fld := fld 0x021 1 0x208 32 8 8 5 .rw 6 .V false
def HDM_RX_CFG_BUF : Fld := fld 0x021 1 0x108 32 8 16 7 .rw 8 .V false
def HDM_TX_CFG_BUF : Fld := fld 0x021 1 0x208 32 8 16 7 .rw 8 .V false
def HDM_RX_TAIL_TAIL : Fld := fld 0x021 1 0x10C 32 8 0 16 .rw 0 .V false
def HDM_TX_TAIL_TAIL : Fld := fld 0x021 1 0x20C 32 8 0 16 .rw 0 .V false
def HDM_RX_HEAD_HEAD : Fld := fld 0x021 1 0x110 32 8 0 16 .ro 0 .V false
def HDM_TX_HEAD_HEAD : Fld := fld 0x021 1 0x210 32 8 0 16 .ro 0 .V false
def HDM_RX_MOD_TIMER : Fld := fld 0x021 1 0x114 32 8 0 16 .rw 0 .V false
def HDM_TX_MOD_TIMER : Fld := fld 0x021 1 0x214 32 8 0 16 .rw 0 .V false
def HDM_RX_MOD_COUNT : Fld := fld 0x021 1 0x114 32 8 16 16 .rw 1 .V false
def HDM_TX_MOD_COUNT : Fld := fld 0x021 1 0x214 32 8 16 16 .rw 1 .V false
def HDM_RX_DROPS_COUNT : Fld := fld 0x021 1 0x118 32 8 0 32 .rc 0 .V false
def HDM_TX_DROPS_COUNT : Fld := fld 0x021 1 0x218 32 8 0 32 .rc 0 .V false
def HDM_RX_FRAMES_COUNT : Fld := fld 0x021 1 0x11C 32 8 0 32 .rc 0 .V false
def HDM_TX_FRAMES_COUNT : Fld := fld 0x021 1 0x21C 32 8 0 32 .rc 0 .V false
def SBP_IRQ_CRC_ERR : Fld := fld 0x022 1 0x010 4 1 0 1 .w1c 0 .H false
def SBP_IRQ_SHORT : Fld := fld 0x022 1 0x010 4 1 1 1 .w1c 0 .H false
def SBP_ALERT_EN_EN : Fld := fld 0x022 1 0x080 4 1 0 6 .rw 63 .H false
def SBP_ALERT_STAT_INT : Fld := fld 0x022 1 0x084 4 1 0 1 .ro 0 .V false
def SBP_ALERT_STAT_NMI : Fld := fld 0x022 1 0x084 4 1 1 1 .ro 0 .V false
def SBP_ALERT_STAT_CLOCK_HOLD : Fld := fld 0x022 1 0x084 4 1 2 1 .ro 0 .H false
def SBP_ALERT_STAT_HEARTBEAT : Fld := fld 0x022 1 0x084 4 1 3 1 .ro 0 .V false
def SBP_ALERT_STAT_LINK : Fld := fld 0x022 1 0x084 4 1 4 1 .ro 0 .V false
def SBP_ALERT_STAT_MBX : Fld := fld 0x022 1 0x084 4 1 5 1 .ro 0 .V false
def SBP_FRAMES_COUNT : Fld := fld 0x022 1 0x088 4 1 0 32 .rc 0 .H false
def SBP_CRC_ERRS_COUNT : Fld := fld 0x022 1 0x08C 4 1 0 32 .rc 0 .H false
def SBP_SHORT_COUNT : Fld := fld 0x022 1 0x090 4 1 0 32 .rc 0 .H false
def MBX_IRQ_DONE : Fld := fld 0x023 1 0x010 4 1 0 1 .w1c 0 .V false
def MBX_CMD_LEN : Fld := fld 0x023 1 0x080 4 1 0 11 .wo 0 .V false
def MBX_CMD_GO : Fld := fld 0x023 1 0x080 4 1 16 1 .wo 0 .V false
def MBX_STAT_BUSY : Fld := fld 0x023 1 0x084 4 1 0 1 .ro 0 .V false
def MBX_STAT_RESULT : Fld := fld 0x023 1 0x084 4 1 8 8 .ro 0 .V false
def MBX_STAT_RLEN : Fld := fld 0x023 1 0x084 4 1 16 11 .ro 0 .V false
def FLT_IRQ_PRIMARY : Fld := fld 0x018 1 0x010 4 1 0 1 .w1c 0 .V false
def FLT_IRQ_STORM : Fld := fld 0x018 1 0x010 4 1 1 1 .w1c 0 .V false
def FLT_STAT_ENTRIES : Fld := fld 0x018 1 0x080 4 1 0 4 .ro 0 .T false
def FLT_STAT_STORM : Fld := fld 0x018 1 0x080 4 1 4 1 .ro 0 .V false
def FLT_STAT_LOST : Fld := fld 0x018 1 0x080 4 1 16 16 .ro 0 .T false
def FLT_CTRL_CLEAR : Fld := fld 0x018 1 0x084 4 1 0 1 .wo 0 .V false
def FLT_STORMS_COUNT : Fld := fld 0x018 1 0x088 4 1 0 16 .ro 0 .T false
def FLT_STORM_REPORTS_COUNT : Fld := fld 0x018 1 0x08C 4 1 0 32 .rc 0 .T false
def FLT_CNT_SEL_CODE : Fld := fld 0x018 1 0x0A0 4 1 0 16 .rw 0 .V true
def FLT_CNT_SEL_CLEAR : Fld := fld 0x018 1 0x0A0 4 1 16 1 .wo 0 .V true
def FLT_CNT_COUNT : Fld := fld 0x018 1 0x0A4 4 1 0 16 .ro 0 .T true
def FLT_NMI_STAT_CAUSE : Fld := fld 0x018 1 0x0B0 4 1 0 5 .w1c 0 .T false
def FLT_BIST_FAIL_DOMAIN : Fld := fld 0x018 1 0x0B4 4 1 1 18 .ro 0 .V false
def FLT_BIST_REPAIRS_COUNT : Fld := fld 0x018 1 0x0B8 4 1 0 16 .ro 0 .T false
def FLT_FIRST_W0_CODE : Fld := fld 0x018 1 0x100 16 8 0 16 .ro 0 .T false
def FLT_FIRST_W0_PAGE : Fld := fld 0x018 1 0x100 16 8 16 12 .ro 0 .T false
def FLT_FIRST_W0_STORM : Fld := fld 0x018 1 0x100 16 8 28 1 .ro 0 .T false
def FLT_FIRST_W0_NO_TIME : Fld := fld 0x018 1 0x100 16 8 29 1 .ro 0 .T false
def FLT_FIRST_W0_VALID : Fld := fld 0x018 1 0x100 16 8 31 1 .ro 0 .T false
def FLT_FIRST_NS_NS : Fld := fld 0x018 1 0x104 16 8 0 30 .ro 0 .T false
def FLT_FIRST_SEC_SEC : Fld := fld 0x018 1 0x108 16 8 0 32 .ro 0 .T false
def WDG_IRQ_FW_WARN : Fld := fld 0x019 1 0x010 4 1 0 1 .w1c 0 .V false
def WDG_IRQ_HB_EXPIRED : Fld := fld 0x019 1 0x010 4 1 1 1 .w1c 0 .V false
def WDG_IRQ_HB_BACK : Fld := fld 0x019 1 0x010 4 1 2 1 .w1c 0 .V false
def WDG_FW_CFG_TIMEOUT : Fld := fld 0x019 1 0x080 4 1 0 10 .rw 100 .T false
def WDG_FW_KICK_KICK : Fld := fld 0x019 1 0x084 4 1 0 16 .wo 0 .V false
def WDG_FW_STAT_REMAIN : Fld := fld 0x019 1 0x088 4 1 0 10 .ro 100 .V false
def WDG_FW_STAT_NEXT : Fld := fld 0x019 1 0x088 4 1 10 1 .ro 0 .V false
def WDG_HB_CFG_EN : Fld := fld 0x019 1 0x090 4 1 0 1 .rw 0 .T false
def WDG_HB_CFG_TIMEOUT : Fld := fld 0x019 1 0x090 4 1 16 16 .rw 1000 .T false
def WDG_HB_KICK_KICK : Fld := fld 0x019 1 0x094 4 1 0 32 .wo 0 .V false
def WDG_HB_STAT_EXPIRED : Fld := fld 0x019 1 0x098 4 1 0 1 .ro 0 .T false
def WDG_HB_STAT_EXPIRIES : Fld := fld 0x019 1 0x098 4 1 16 16 .ro 0 .T false
def WDG_LAST_RESET_KIND : Fld := fld 0x019 1 0x0A0 4 1 0 3 .ro 0 .H false
def WDG_LAST_RESET_CAUSE : Fld := fld 0x019 1 0x0A0 4 1 3 3 .ro 0 .H false
def WDG_LAST_RESET_WDOGS : Fld := fld 0x019 1 0x0A0 4 1 16 16 .ro 0 .H false
def CGU_IRQ_XTAL_FAIL : Fld := fld 0x008 1 0x010 4 1 0 1 .w1c 0 .T false
def CGU_IRQ_XTAL_BACK : Fld := fld 0x008 1 0x010 4 1 1 1 .w1c 0 .T false
def CGU_IRQ_HRC_FAIL : Fld := fld 0x008 1 0x010 4 1 2 1 .w1c 0 .T false
def CGU_IRQ_LRC_FAIL : Fld := fld 0x008 1 0x010 4 1 3 1 .w1c 0 .T false
def CGU_IRQ_SDSREF_FAIL : Fld := fld 0x008 1 0x010 4 1 4 1 .w1c 0 .T false
def CGU_IRQ_TRIM_STARVED : Fld := fld 0x008 1 0x010 4 1 5 1 .w1c 0 .V false
def CGU_IRQ_TRIM_LIMIT : Fld := fld 0x008 1 0x010 4 1 6 1 .w1c 0 .V false
def CGU_STAT_LRC : Fld := fld 0x008 1 0x080 4 1 0 2 .ro 0 .H false
def CGU_STAT_HRC : Fld := fld 0x008 1 0x080 4 1 2 2 .ro 0 .T false
def CGU_STAT_XTAL : Fld := fld 0x008 1 0x080 4 1 4 2 .ro 0 .T false
def CGU_STAT_SDSREF : Fld := fld 0x008 1 0x080 4 1 6 2 .ro 0 .T false
def CGU_STAT_LOADS : Fld := fld 0x008 1 0x080 4 1 8 1 .ro 0 .T false
def CGU_STAT_SYSREF : Fld := fld 0x008 1 0x080 4 1 9 1 .ro 0 .T false
def CGU_STAT_DWELL : Fld := fld 0x008 1 0x080 4 1 10 1 .ro 0 .V false
def CGU_STAT_FAILOVERS : Fld := fld 0x008 1 0x080 4 1 16 16 .ro 0 .T false
def CGU_CTRL_AUTO_RETURN : Fld := fld 0x008 1 0x084 4 1 0 1 .rw 1 .T false
def CGU_CTRL_TRIM_HOLD : Fld := fld 0x008 1 0x084 4 1 1 1 .rw 0 .T false
def CGU_TRIM_SRC_SRC : Fld := fld 0x008 1 0x088 4 1 0 2 .ro 0 .L false
def CGU_TRIM_SRC_IDX : Fld := fld 0x008 1 0x088 4 1 8 8 .ro 0 .L false
def CGU_BEACON_NS : Fld := fld 0x008 1 0x08C 4 1 0 32 .ro 0 .L false
def CGU_HRC_FACTORY : Fld := fld 0x008 1 0x090 4 1 0 10 .ro 512 .H false
def CGU_HRC_USER : Fld := fld 0x008 1 0x090 4 1 10 10 .ro 0 .L false
def CGU_HRC_EFFECTIVE : Fld := fld 0x008 1 0x090 4 1 20 10 .ro 512 .T false
def CGU_LRC_FACTORY : Fld := fld 0x008 1 0x094 4 1 0 8 .ro 128 .H false
def CGU_LRC_USER : Fld := fld 0x008 1 0x094 4 1 8 8 .ro 0 .L false
def CGU_LRC_EFFECTIVE : Fld := fld 0x008 1 0x094 4 1 16 8 .ro 128 .H false
def CGU_XCAP_FACTORY : Fld := fld 0x008 1 0x098 4 1 0 6 .ro 32 .H false
def CGU_XCAP_USER : Fld := fld 0x008 1 0x098 4 1 8 6 .ro 0 .L false
def CGU_XCAP_EFFECTIVE : Fld := fld 0x008 1 0x098 4 1 16 6 .ro 32 .T false
def CGU_SPAN_HRC : Fld := fld 0x008 1 0x09C 4 1 0 10 .ro 450 .H false
def CGU_SPAN_LRC : Fld := fld 0x008 1 0x09C 4 1 16 8 .ro 50 .H false
def CGU_SPAN_XCAP : Fld := fld 0x008 1 0x09C 4 1 24 6 .ro 10 .H false
def CGU_HRC_ERR_PPM : Fld := fld 0x008 1 0x0A0 4 1 0 16 .ro 0 .V false
def CGU_HRC_ERR_REF : Fld := fld 0x008 1 0x0A0 4 1 16 2 .ro 3 .V false
def CGU_HRC_ERR_SAMPLES : Fld := fld 0x008 1 0x0A0 4 1 24 8 .ro 0 .V false
def CGU_TRIM_UPDATES_COUNT : Fld := fld 0x008 1 0x0A4 4 1 0 32 .rc 0 .V false
def CGU_TRIM_STARVED_COUNT : Fld := fld 0x008 1 0x0A8 4 1 0 32 .rc 0 .V false
def PWR_IRQ_SUPPLY_WARN : Fld := fld 0x010 1 0x010 4 1 0 1 .w1c 0 .H false
def PWR_IRQ_DOMAIN_ERR : Fld := fld 0x010 1 0x010 4 1 1 1 .w1c 0 .H false
def PWR_IRQ_MODE_CHG : Fld := fld 0x010 1 0x010 4 1 2 1 .w1c 0 .V false
def PWR_MODE_MODE : Fld := fld 0x010 1 0x080 4 1 0 3 .ro 4 .V false
def PWR_CFG_DESCEND : Fld := fld 0x010 1 0x084 4 1 0 1 .rw 0 .H false
def PWR_CFG_PARTIAL : Fld := fld 0x010 1 0x084 4 1 1 1 .ro 0 .L false
def PWR_DOM_STAT_HEEL : Fld := fld 0x010 1 0x088 4 1 0 1 .ro 1 .C false
def PWR_DOM_STAT_POWERED : Fld := fld 0x010 1 0x088 4 1 1 18 .ro 0 .V false
def PWR_DOM_REQ_REQ : Fld := fld 0x010 1 0x08C 4 1 1 18 .rw 0 .T true
def PWR_DOM_HELD_HELD : Fld := fld 0x010 1 0x090 4 1 1 18 .ro 0 .V false
def PWR_DOM_USED_USED : Fld := fld 0x010 1 0x094 4 1 1 18 .ro 0 .L false
def PWR_DOM_ERR_DOMAIN : Fld := fld 0x010 1 0x098 4 1 0 5 .ro 0 .H false
def PWR_DOM_ERR_REASON : Fld := fld 0x010 1 0x098 4 1 8 3 .ro 0 .H false
def PWR_DOM_ERR_SIDEBAND : Fld := fld 0x010 1 0x098 4 1 11 1 .ro 0 .H false
def PWR_SUP_CFG_WARN_MV : Fld := fld 0x010 1 0x09C 4 1 0 10 .rw 680 .H false
def PWR_DIP_MIN_MIN_MV : Fld := fld 0x010 1 0x0A0 4 1 0 13 .ro 0 .H false
def PWR_DIP_MIN_SUPPLY : Fld := fld 0x010 1 0x0A0 4 1 13 1 .ro 0 .H false
def PWR_DIP_DUR_US : Fld := fld 0x010 1 0x0A4 4 1 0 32 .ro 0 .H false
def PWR_DIPS_COUNT : Fld := fld 0x010 1 0x0A8 4 1 0 16 .ro 0 .H false
def PWR_MEAS_VALUE : Fld := fld 0x010 1 0x0C0 4 6 0 16 .ro 0 .V false
def WAK_IRQ_WOKE : Fld := fld 0x011 1 0x010 4 1 0 1 .w1c 0 .H false
def WAK_IRQ_CL_CHG : Fld := fld 0x011 1 0x010 4 1 1 1 .w1c 0 .V false
def WAK_IRQ_FALSE_WAKE : Fld := fld 0x011 1 0x010 4 1 2 1 .w1c 0 .V false
def WAK_IRQ_LATE : Fld := fld 0x011 1 0x010 4 1 3 1 .w1c 0 .H false
def WAK_CAUSE_KIND : Fld := fld 0x011 1 0x080 4 1 0 4 .ro 0 .H false
def WAK_CAUSE_INDEX : Fld := fld 0x011 1 0x080 4 1 4 7 .ro 0 .H false
def WAK_CAUSE_LATE : Fld := fld 0x011 1 0x080 4 1 12 1 .ro 0 .H false
def WAK_STAT_DESCENT : Fld := fld 0x011 1 0x084 4 1 0 2 .ro 0 .V false
def WAK_STAT_ASLEEP : Fld := fld 0x011 1 0x084 4 1 8 6 .ro 0 .V false
def WAK_STAT_DEFINED : Fld := fld 0x011 1 0x084 4 1 16 6 .ro 0 .L false
def WAK_REQ_HOST_CL : Fld := fld 0x011 1 0x088 4 1 0 32 .rw 0 .T false
def WAK_REQ_SB_CL : Fld := fld 0x011 1 0x08C 4 1 0 32 .rw 0 .H false
def WAK_REQ_PIN_CL : Fld := fld 0x011 1 0x090 4 1 0 32 .ro 0 .V false
def WAK_REQ_ROUTE_CL : Fld := fld 0x011 1 0x094 4 1 0 32 .ro 0 .V false
def WAK_CL_STATE_STATE : Fld := fld 0x011 1 0x0A0 4 4 0 32 .ro 0 .T false
def WAK_CL_SEL_CL : Fld := fld 0x011 1 0x0B0 4 1 0 5 .rw 0 .V true
def WAK_CL_TIMER_MS : Fld := fld 0x011 1 0x0B4 4 1 0 16 .ro 0 .V true
def WAK_CL_COUNTS_WAKES : Fld := fld 0x011 1 0x0B8 4 1 0 16 .ro 0 .T true
def WAK_CL_COUNTS_FALSE : Fld := fld 0x011 1 0x0B8 4 1 16 16 .ro 0 .T true
def WAK_IN_CFG_PIN : Fld := fld 0x011 1 0x0C0 4 4 0 8 .ro 0 .L false
def WAK_IN_CFG_LEVEL : Fld := fld 0x011 1 0x0C0 4 4 8 1 .ro 0 .V false
def WAK_TIMER_SECONDS : Fld := fld 0x011 1 0x0D0 4 1 0 20 .rw 0 .H false
def WAK_BASIC_LO_CH : Fld := fld 0x011 1 0x0D4 4 1 0 32 .ro 0 .L false
def WAK_BASIC_HI_CH : Fld := fld 0x011 1 0x0D8 4 1 0 32 .ro 0 .L false
def WAK_BASIC_FT_FT : Fld := fld 0x011 1 0x0DC 4 1 0 4 .ro 1 .L false
def WAK_WAKES_COUNT : Fld := fld 0x011 1 0x0E0 4 1 0 32 .ro 0 .H false
def WAK_LATE_COUNT : Fld := fld 0x011 1 0x0E4 4 1 0 16 .ro 0 .H false
def TXM_IRQ_SEQ_ERR : Fld := fld 0x012 1 0x010 4 1 0 1 .w1c 0 .V false
def TXM_IRQ_CMD_DONE : Fld := fld 0x012 1 0x010 4 1 1 1 .w1c 0 .V false
def TXM_CMD_CHAN : Fld := fld 0x012 1 0x080 4 1 0 6 .wo 0 .V true
def TXM_CMD_STATE : Fld := fld 0x012 1 0x080 4 1 8 2 .wo 0 .V true
def TXM_CMD_GO : Fld := fld 0x012 1 0x080 4 1 16 1 .wo 0 .V true
def TXM_CH_SEL_CHAN : Fld := fld 0x012 1 0x084 4 1 0 6 .rw 0 .V true
def TXM_CH_STAT_STATE : Fld := fld 0x012 1 0x088 4 1 0 2 .ro 3 .V true
def TXM_CH_STAT_PROFILE : Fld := fld 0x012 1 0x088 4 1 8 5 .ro 0 .L true
def TXM_CH_STAT_EN : Fld := fld 0x012 1 0x088 4 1 13 1 .ro 0 .L true
def TXM_CH_STAT_ERR : Fld := fld 0x012 1 0x088 4 1 16 1 .ro 0 .V true
def TXM_CH_STAT_BUSY : Fld := fld 0x012 1 0x088 4 1 17 1 .ro 0 .V true
def TXM_ERRS_COUNT : Fld := fld 0x012 1 0x08C 4 1 0 32 .rc 0 .V false
def TXM_CTL_CFG_DIV : Fld := fld 0x012 1 0x090 4 4 0 8 .ro 9 .L false
def TXM_CTL_CFG_MODE : Fld := fld 0x012 1 0x090 4 4 8 2 .ro 0 .L false
def UPD_IRQ_CMD_DONE : Fld := fld 0x028 1 0x010 4 1 0 1 .w1c 0 .V false
def UPD_IRQ_CMD_ERR : Fld := fld 0x028 1 0x010 4 1 1 1 .w1c 0 .V false
def UPD_IRQ_TRIAL_EXPIRED : Fld := fld 0x028 1 0x010 4 1 2 1 .w1c 0 .V false
def UPD_IRQ_FALLBACK : Fld := fld 0x028 1 0x010 4 1 3 1 .w1c 0 .V false
def UPD_IRQ_OWNER_CHG : Fld := fld 0x028 1 0x010 4 1 4 1 .w1c 0 .V false
def UPD_STAT_BUSY : Fld := fld 0x028 1 0x080 4 1 0 1 .ro 0 .V false
def UPD_STAT_SESSION : Fld := fld 0x028 1 0x080 4 1 1 1 .ro 0 .V false
def UPD_STAT_STAGED : Fld := fld 0x028 1 0x080 4 1 2 1 .ro 0 .V false
def UPD_STAT_ARMED : Fld := fld 0x028 1 0x080 4 1 3 1 .ro 0 .V false
def UPD_STAT_ACTIVE : Fld := fld 0x028 1 0x080 4 1 4 1 .ro 0 .V false
def UPD_STAT_STATE : Fld := fld 0x028 1 0x080 4 1 5 2 .ro 0 .V false
def UPD_STAT_EXPIRED : Fld := fld 0x028 1 0x080 4 1 7 1 .ro 0 .V false
def UPD_STAT_SOURCE : Fld := fld 0x028 1 0x080 4 1 8 2 .ro 0 .V false
def UPD_STAT_BOOT_FAIL : Fld := fld 0x028 1 0x080 4 1 10 1 .ro 0 .V false
def UPD_RESULT_CODE : Fld := fld 0x028 1 0x084 4 1 0 8 .ro 0 .V false
def UPD_RESULT_SOURCE : Fld := fld 0x028 1 0x084 4 1 8 4 .ro 0 .V false
def UPD_CMD_OP : Fld := fld 0x028 1 0x088 4 1 0 3 .wo 0 .V false
def UPD_ADDR_ADDR : Fld := fld 0x028 1 0x08C 4 1 0 26 .rw 0 .V false
def UPD_ARM_GO : Fld := fld 0x028 1 0x090 4 1 0 1 .wo 0 .V false
def UPD_ARM_DISARM : Fld := fld 0x028 1 0x090 4 1 1 1 .wo 0 .V false
def UPD_RESTART_GO : Fld := fld 0x028 1 0x094 4 1 0 1 .wo 0 .V false
def UPD_CONFIRM_GO : Fld := fld 0x028 1 0x098 4 1 0 1 .wo 0 .V false
def UPD_TRIAL_TIME_SECONDS : Fld := fld 0x028 1 0x09C 4 1 0 12 .rw 300 .T false
def UPD_TRIAL_LEFT_SECONDS : Fld := fld 0x028 1 0x0A0 4 1 0 12 .ro 0 .V false
def UPD_VEH_STATE_MOVING : Fld := fld 0x028 1 0x0A4 4 1 0 1 .rw 1 .V false
def UPD_VEH_STATE_VMOVE : Fld := fld 0x028 1 0x0A4 4 1 8 1 .ro 1 .V false
def UPD_VEH_STATE_SPEED : Fld := fld 0x028 1 0x0A4 4 1 9 1 .ro 0 .V false
def UPD_VEH_STATE_STALE : Fld := fld 0x028 1 0x0A4 4 1 10 1 .ro 1 .V false
def UPD_VEH_STATE_ANY : Fld := fld 0x028 1 0x0A4 4 1 11 1 .ro 1 .V false
def UPD_VBAT_MIN_MV : Fld := fld 0x028 1 0x0A8 4 1 0 16 .rw 11500 .T false
def UPD_SPD_CFG_EN : Fld := fld 0x028 1 0x0AC 4 1 0 1 .rw 0 .T false
def UPD_SPD_CFG_CHAN : Fld := fld 0x028 1 0x0AC 4 1 1 6 .rw 0 .T false
def UPD_SPD_CFG_IDE : Fld := fld 0x028 1 0x0AC 4 1 7 1 .rw 0 .T false
def UPD_SPD_CFG_START : Fld := fld 0x028 1 0x0AC 4 1 8 12 .rw 0 .T false
def UPD_SPD_CFG_WIDTH : Fld := fld 0x028 1 0x0AC 4 1 20 5 .rw 16 .T false
def UPD_SPD_CFG_ORDER : Fld := fld 0x028 1 0x0AC 4 1 25 1 .rw 0 .T false
def UPD_SPD_ID_ID : Fld := fld 0x028 1 0x0B0 4 1 0 29 .rw 0 .T false
def UPD_SPD_LIM_THRESH : Fld := fld 0x028 1 0x0B4 4 1 0 16 .rw 0 .T false
def UPD_SPD_LIM_STALE : Fld := fld 0x028 1 0x0B4 4 1 16 16 .rw 500 .T false
def UPD_BOOT_INFO_REASON : Fld := fld 0x028 1 0x0B8 4 1 0 8 .ro 0 .V false
def UPD_BOOT_INFO_FAIL_SLOT : Fld := fld 0x028 1 0x0B8 4 1 8 1 .ro 0 .V false
def UPD_BOOT_INFO_FAIL_PART : Fld := fld 0x028 1 0x0B8 4 1 16 8 .ro 255 .V false
def UPD_MNF_SEQ_SEQ : Fld := fld 0x028 1 0x0BC 4 1 0 32 .ro 0 .V false
def UPD_VERSION_VERSION : Fld := fld 0x028 1 0x0C0 4 5 0 32 .ro 0 .V false
def UPD_OWN_STAT_LOCKED : Fld := fld 0x028 1 0x0E0 4 1 0 1 .ro 0 .H false
def UPD_OWN_STAT_KEY_SET : Fld := fld 0x028 1 0x0E0 4 1 1 1 .ro 0 .H false
def UPD_OWN_STAT_LEFT : Fld := fld 0x028 1 0x0E0 4 1 2 6 .ro 63 .H false
def UPD_OWN_STAT_NONCE_VALID : Fld := fld 0x028 1 0x0E0 4 1 8 1 .ro 0 .V false
def UPD_OWN_CMD_OP : Fld := fld 0x028 1 0x0E4 4 1 0 2 .wo 0 .V false
def UPD_OWN_CMD_NONCE_REQ : Fld := fld 0x028 1 0x0E4 4 1 4 1 .wo 0 .V false
def UPD_NONCE_NONCE : Fld := fld 0x028 1 0x0F0 4 4 0 32 .ro 0 .V false
def UPD_OWN_MAC_MAC : Fld := fld 0x028 1 0x100 4 4 0 32 .wo 0 .V false
def PG_ID_INDEX : Fld := fld 0x000 370 0x000 4 1 0 8 .ro 0 .C false
def PG_ID_INSTANCE : Fld := fld 0x000 370 0x000 4 1 8 8 .ro 0 .C false
def PG_ID_TYPE : Fld := fld 0x000 370 0x000 4 1 16 16 .ro 0 .C false
def PG_REV_BLOCK : Fld := fld 0x000 370 0x004 4 1 0 8 .ro 1 .C false
def PG_REV_SILICON : Fld := fld 0x000 370 0x004 4 1 8 8 .ro 161 .C false
def PG_CTRL_ENABLE : Fld := fld 0x000 370 0x008 4 1 0 1 .rw 1 .V false
def PG_CTRL_BLOCK_RESET : Fld := fld 0x000 370 0x008 4 1 1 1 .w1s 0 .V false
def PG_CTRL_POWER_REQ : Fld := fld 0x000 370 0x008 4 1 2 1 .rw 0 .T true
def PG_STAT_READY : Fld := fld 0x000 370 0x00C 4 1 0 1 .ro 0 .V false
def PG_STAT_POWERED : Fld := fld 0x000 370 0x00C 4 1 1 1 .ro 0 .V false
def PG_STAT_BUSY : Fld := fld 0x000 370 0x00C 4 1 2 1 .ro 0 .V false
def PG_STAT_FAULT : Fld := fld 0x000 370 0x00C 4 1 3 1 .ro 0 .V false
def PG_STAT_CAUTIOUS : Fld := fld 0x000 370 0x00C 4 1 4 1 .ro 1 .V false
def PG_IRQ_EN_EN : Fld := fld 0x000 370 0x014 4 1 0 32 .rw 0 .T false
def PG_IRQ_FORCE_FORCE : Fld := fld 0x000 370 0x018 4 1 0 32 .w1s 0 .V false
def PG_IRQ_ROUTE_ROUTE : Fld := fld 0x000 370 0x01C 4 1 0 32 .rw 0 .T false
def PG_ERR_CAPT0_OFFSET : Fld := fld 0x000 370 0x020 4 1 0 12 .ro 0 .V false
def PG_ERR_CAPT1_CODE : Fld := fld 0x000 370 0x024 4 1 0 8 .ro 0 .V false
def PG_ERR_CAPT2_MASTER : Fld := fld 0x000 370 0x028 4 1 0 2 .ro 0 .V false
def PG_ERR_CAPT2_WRITE : Fld := fld 0x000 370 0x028 4 1 4 1 .ro 0 .V false
def PG_ERR_CAPT3_TIME : Fld := fld 0x000 370 0x02C 4 1 0 32 .ro 0 .V false
def PG_ERR_COUNT_COUNT : Fld := fld 0x000 370 0x030 4 1 0 16 .rc 0 .V false
def PG_LOCK_LOCK : Fld := fld 0x000 370 0x034 4 1 0 1 .w1s 0 .T false
def DEV_ID_PART : Fld := fld 0x000 1 0x080 4 1 0 16 .ro 25637 .C false
def DEV_ID_REV : Fld := fld 0x000 1 0x080 4 1 16 8 .ro 161 .C false
def DEV_RESET_KEY : Fld := fld 0x000 1 0x084 4 1 0 16 .wo 0 .V false
def DEV_STRAPS_BOOT_MODE : Fld := fld 0x000 1 0x088 4 1 0 2 .ro 0 .H false
def DEV_STRAPS_SB_EN : Fld := fld 0x000 1 0x088 4 1 2 1 .ro 1 .H false
def DEV_STRAPS_IO_VSEL : Fld := fld 0x000 1 0x088 4 1 3 1 .ro 1 .H false
def FUS_SUBSYS_VENDOR : Fld := fld 0x001 1 0x080 4 1 0 16 .ro 8012 .H false
def FUS_SUBSYS_DEVICE : Fld := fld 0x001 1 0x080 4 1 16 16 .ro 0 .H false
def FUS_VLIM_VMIN : Fld := fld 0x001 1 0x084 4 1 0 10 .ro 700 .H false
def FUS_VLIM_VMAX : Fld := fld 0x001 1 0x084 4 1 16 10 .ro 850 .H false
def FUS_STAT_KEYHASH_SET : Fld := fld 0x001 1 0x088 4 1 0 1 .ro 0 .H false
def FUS_STAT_OWNER_KEY_SET : Fld := fld 0x001 1 0x088 4 1 1 1 .ro 0 .H false
def FUS_STAT_ROOT_SET : Fld := fld 0x001 1 0x088 4 1 2 1 .ro 1 .H false
def FUS_KEYHASH_HASH : Fld := fld 0x001 1 0x0A0 4 8 0 32 .ro 0 .H false
def TCA_ERR_CAPT0_WORD : Fld := fld 0x170 1 0x020 4 1 0 32 .ro 0 .V false
def WLT_ERR_CAPT0_ADDR : Fld := fld 0x020 1 0x020 4 1 0 26 .ro 0 .V false
def CLR_FRAMES_FULL : Fld := fld 0x040 24 0x084 4 1 64 64 .rc 0 .V false
def FAB_XFER_FULL : Fld := fld 0x060 4 0x094 4 1 64 64 .rc 0 .V false
def MAC_CNT_FULL : Fld := fld 0x0D0 32 0x200 8 40 64 64 .rc 0 .V false
def UPD_BUF_DATA : Fld := fld 0x028 1 0x400 4 64 0 32 .rw 0 .V false
def AWL_MSGS_FULL : Fld := fld 0x110 16 0x084 4 1 64 64 .rc 0 .V false

/-- The fields of the DEV page. -/
def fieldsDEV : List Fld :=
    [DEV_CAUTIOUS_STARTUP, DEV_CAUTIOUS_TEST, DEV_CAUTIOUS_SUPPLY, DEV_CAUTIOUS_PACE, DEV_CAUTIOUS_FAULT,
   DEV_CAUTIOUS_CLOCK, DEV_CAUTIOUS_ENTRIES, DEV_OWNER_OWNER, DEV_OWNER_ERR_HOST, DEV_OWNER_ERR_SIDEBAND,
   DEV_IRQ_SUM_PAGES, DEV_ID_PART, DEV_ID_REV, DEV_RESET_KEY, DEV_STRAPS_BOOT_MODE, DEV_STRAPS_SB_EN,
   DEV_STRAPS_IO_VSEL]

/-- The fields of the LST pages. -/
def fieldsLST : List Fld :=
    [LST_IRQ_FLIPPED, LST_IRQ_REFUSED, LST_IRQ_DRAINED, LST_IRQ_DRAIN_LIMIT, LST_IRQ_RELOAD_DONE,
   LST_IRQ_RELOAD_FAIL, LST_STAT_STATE, LST_STAT_PENDING, LST_STAT_DRAINING, LST_STAT_NO_SPARE, LST_STAT_LOADED,
   LST_STAT_PRIO_LARGE, LST_STAT_ERR, LST_STAT_LIVE, LST_EPOCH_CUR, LST_EPOCH_PREV, LST_GEN_GEN, LST_SPARE_FREE,
   LST_SPARE_HELD, LST_CS_CTRL_OPEN, LST_CS_CTRL_ABORT, LST_CS_COUNT_COUNT, LST_CS_CRC_CRC, LST_CS_BASE_GEN_BASE,
   LST_COMMIT_GO, LST_DRAIN_LIMIT_LIMIT, LST_RELOAD_FLASH, LST_RELOAD_HOST, LST_RELOAD_GO, LST_ERR_PAGE_LPAGE,
   LST_DRAINED_COUNT, LST_BUILD_LO_ID_LO, LST_BUILD_HI_ID_HI, LST_FLIP_TIME_NS, LST_STAGED_PAGES]

/-- The fields of the CLR pages. -/
def fieldsCLR : List Fld :=
    [CLR_IRQ_STALL, CLR_IRQ_RETIRED, CLR_IRQ_REJOINED, CLR_IRQ_OVERBUDGET, CLR_IRQ_PUNT_LIMITED, CLR_STAT_ROTATION,
   CLR_STAT_RETIRED, CLR_STAT_CTX, CLR_STAT_STALLS, CLR_FRAMES_LO_LO, CLR_FRAMES_HI_HI, CLR_UTIL_UTIL,
   CLR_CTRL_AUTO_REJOIN, CLR_CHECK_PAD_ANY, CLR_PUNT_RATE_RATE, CLR_PUNT_BURST_BURST, CLR_PUNT_LEVEL_TOKENS,
   CLR_BUDGET_DEMAND, CLR_BUDGET_OVER, CLR_BUDGET_IN_ROT, CLR_PUNTED_COUNT, CLR_PLIMITED_COUNT, CLR_PDROP_COUNT,
   CLR_DEPTH_BYTES, CLR_DEPTH_HDRS, CLR_DEPTH_DFLT_DROP, CLR_RO_OCC_OCC, CLR_RO_TIMEOUT_COUNT]

/-- The fields of the RUL pages. -/
def fieldsRUL : List Fld :=
    [RUL_IRQ_STALL, RUL_FC_SEL_HANDLE, RUL_FC_SEL_CLEAR, RUL_FC_FRAMES_LO_LO, RUL_FC_FRAMES_HI_HI,
   RUL_FC_BYTES_LO_LO, RUL_FC_BYTES_HI_HI, RUL_DROPPED_COUNT, RUL_NULL_PERMIT_COUNT, RUL_REWRITE_NOP_COUNT]

/-- The fields of the MTR pages. -/
def fieldsMTR : List Fld :=
    [MTR_SEL_METER, MTR_SEL_CLEAR, MTR_SEL_FILL, MTR_GREEN_COUNT, MTR_YELLOW_COUNT, MTR_RED_COUNT, MTR_TC_LEVEL,
   MTR_TP_LEVEL]

/-- The fields of the MIR pages. -/
def fieldsMIR : List Fld :=
  [MIR_IRQ_DROP, MIR_COPIES_COUNT, MIR_DROPPED_COUNT, MIR_BAD_COUNT, MIR_PROTECTED_COUNT, MIR_MARGIN_CELLS]

/-- The fields of the FAB pages. -/
def fieldsFAB : List Fld :=
    [FAB_IRQ_STALL, FAB_IRQ_RETIRED, FAB_IRQ_REJOINED, FAB_IRQ_BELOW_FLOOR, FAB_IRQ_OVERLOAD, FAB_IRQ_GOV_FAIL,
   FAB_IRQ_GOV_LIMIT, FAB_STAT_IN_SERVICE, FAB_STAT_RETIRED, FAB_STAT_STALLS, FAB_PACE_PACE, FAB_PACE_VALID,
   FAB_PACE_HRC, FAB_PACE_MIN_PACE, FAB_PACE_MAX_PACE, FAB_LOAD_LOAD, FAB_XFER_LO_LO, FAB_XFER_HI_HI,
   FAB_ABANDONED_COUNT, FAB_CTRL_AUTO_REJOIN, FAB_STALL_LIMIT, FAB_REP_REP, FAB_DEMAND_DEMAND, FAB_DEMAND_OVER,
   FAB_GOV_CTRL_EN, FAB_GOV_CTRL_PEC, FAB_GOV_CTRL_ADDR, FAB_GOV_CTRL_STEP, FAB_GOV_CTRL_INTERVAL,
   FAB_GOV_TARGET_TARGET, FAB_GOV_TARGET_HYST, FAB_GOV_VLIM_VMIN, FAB_GOV_VLIM_VMAX, FAB_GOV_STAT_VREQ,
   FAB_GOV_STAT_VREAD, FAB_GOV_STAT_STATE]

/-- The fields of the SOL pages. -/
def fieldsSOL : List Fld :=
    [SOL_IRQ_SOLE_FULL, SOL_IRQ_RESERVE, SOL_IRQ_FLUSH_DONE, SOL_IRQ_POLICY_BAD, SOL_IRQ_POISON, SOL_FREE_CELLS,
   SOL_SHARED_F, SOL_SIZE_S, SOL_RESERVE_X, SOL_PORT_STATE_STATE, SOL_PORT_STATE_FLUSHES, SOL_PORT_STATE_HELDS,
   SOL_CT_MAP_CT, SOL_SVC_SEL_PORT, SOL_SVC_SEL_SVC, SOL_SVC_SEL_CLEAR, SOL_SVC_POLICY_MIN, SOL_SVC_POLICY_ALPHA,
   SOL_SVC_POLICY_YEL, SOL_SVC_POLICY_CT, SOL_SVC_POLICY_EXPRESS, SOL_SVC_AGE_AGE, SOL_SVC_OCC_Q, SOL_SVC_THR_T,
   SOL_SVC_FULL_COUNT, SOL_SVC_AGED_COUNT, SOL_SVC_FLUSHED_COUNT, SOL_SVC_EPOCH_COUNT, SOL_POISON_COUNT]

/-- The fields of the CBR pages. -/
def fieldsCBR : List Fld :=
    [CBR_IRQ_LEAK, CBR_IRQ_LEAK_RATE, CBR_IRQ_DOUBLE, CBR_CTRL_EN, CBR_LIMIT_LIMIT, CBR_PASSES_COUNT,
   CBR_LAST_DURATION, CBR_LAST_SUSPECT, CBR_RECLAIMED_COUNT, CBR_DOUBLE_COUNT]

/-- The fields of the SCH pages. -/
def fieldsSCH : List Fld :=
    [SCH_IRQ_QMAP_BAD, SCH_IRQ_REPARENT, SCH_STAT_ACTIVE, SCH_STAT_ELIGIBLE, SCH_STAT_GATE, SCH_STAT_PS_NEG,
   SCH_STAT_PREEMPTED, SCH_PORT_RATE_PRATE, SCH_PORT_BURST_PBURST, SCH_PORT_LEVEL_LEVEL, SCH_SVC_CFG_MODE,
   SCH_SVC_CFG_EXEMPT, SCH_DFLT_DFLT_Q, SCH_DFLT_PUNT_Q, SCH_QMAP_BAD_COUNT, SCH_PENDING_COUNT, SCH_CREDIT_CREDIT,
   SCH_SVC_FRAMES_COUNT, SCH_SUB_SEL_SUB, SCH_SUB_STAT_SVC, SCH_SUB_STAT_ACTIVE, SCH_SUB_STAT_ROUND,
   SCH_SUB_STAT_PENDING, SCH_SUB_STAT_QUEUED, SCH_SUB_TAG_LO_F_LO, SCH_SUB_TAG_HI_F_HI, SCH_SVC_VT_LO_V_LO,
   SCH_SVC_VT_HI_V_HI, SCH_SUB_CLEVEL_LEVEL, SCH_SUB_PLEVEL_LEVEL, SCH_SUB_BYTES_LO_LO, SCH_SUB_BYTES_HI_HI,
   SCH_Q_SEL_Q, SCH_Q_STAT_FRAMES, SCH_Q_STAT_SUB, SCH_Q_STAT_PENDING]

/-- The fields of the TIM pages. -/
def fieldsTIM : List Fld :=
    [TIM_IRQ_LOCK_CHG, TIM_IRQ_STEP, TIM_IRQ_SYNC_LOST, TIM_IRQ_EVT, TIM_IRQ_EVT_OVF, TIM_IRQ_TRG, TIM_SNAP_SNAP,
   TIM_T_SEC_LO_SEC, TIM_T_SEC_HI_SEC, TIM_T_NS_NS, TIM_DOM_STAT_STATE, TIM_DOM_STAT_GM, TIM_DOM_STAT_HRC,
   TIM_DOM_STAT_STEPS, TIM_RATE_RATE, TIM_OFFSET_OFFSET, TIM_DOM_CFG_EN, TIM_DOM_CFG_NUMBER, TIM_DOM_CFG_LOCK_THR,
   TIM_DOM_LIM_HOLDOVER, TIM_DOM_LIM_STEP_THR, TIM_PPS_EN, TIM_PPS_DOMAIN, TIM_PPS_WIDTH, TIM_SYNC_CFG_EN,
   TIM_SYNC_CFG_DOMAIN, TIM_SYNC_CFG_POL, TIM_SYNC_CFG_MISS, TIM_SYNC_PERIOD_PERIOD, TIM_SYNC_DELAY_DELAY,
   TIM_SYNC_STAT_STATE, TIM_SYNC_OFFSET_O, TIM_SYNC_IGNORED_COUNT, TIM_EVT_CFG_EN, TIM_EVT_CFG_EDGE,
   TIM_EVT_CFG_DOMAIN, TIM_EVT_CFG_FILTER, TIM_EVT_NS_NS, TIM_EVT_NS_RISING, TIM_EVT_NS_VALID, TIM_EVT_SEC_LO_SEC,
   TIM_EVT_SEC_HI_SEC, TIM_EVT_SEC_HI_LEVEL, TIM_EVT_LOST_COUNT, TIM_TRG_CFG_EN, TIM_TRG_CFG_MODE,
   TIM_TRG_CFG_DOMAIN, TIM_TRG_CFG_LATE, TIM_TRG_CFG_WIDTH, TIM_TRG_START_SEC_SEC, TIM_TRG_START_NS_NS,
   TIM_TRG_PERIOD_PERIOD]

/-- The fields of the LCE pages. -/
def fieldsLCE : List Fld :=
    [LCE_IRQ_SWAPPED, LCE_IRQ_CONFIG_ERR, LCE_IRQ_LOCKED, LCE_IRQ_LOCK_LOST, LCE_IRQ_NOFIT, LCE_IRQ_VERIFY_FAIL,
   LCE_STAT_STATE, LCE_STAT_PENDING, LCE_STAT_PREEMPT_ACTIVE, LCE_STAT_SYNC_FOLLOW, LCE_STAT_GATES, LCE_STAT_ENTRY,
   LCE_STAT_ERR, LCE_CHANGE_SEC_LO_SEC, LCE_CHANGE_SEC_HI_SEC, LCE_CHANGE_NS_NS, LCE_OPER_CYCLE_CYCLE,
   LCE_OPER_CFG_EXPRESS, LCE_OPER_CFG_DOMAIN, LCE_OPER_CFG_SYNC_EN, LCE_OPER_CFG_GUARD, LCE_OPER_CFG_PREEMPT,
   LCE_OPER_CFG_ADD_FRAG, LCE_CYCLES_COUNT, LCE_NOFIT_COUNT, LCE_LOCKS_LOST]

/-- The fields of the MAC pages. -/
def fieldsMAC : List Fld :=
    [MAC_IRQ_LINK_UP, MAC_IRQ_LINK_DOWN, MAC_IRQ_PAUSE_WD, MAC_IRQ_RATE_UNSUP, MAC_IRQ_CFG_ERR, MAC_CFG_MODE,
   MAC_CFG_FEC, MAC_CFG_RX_PAUSE, MAC_CFG_TX_PAUSE, MAC_CFG_PFC, MAC_CFG_XOFF, MAC_CFG_XON, MAC_MAX_FRAME_MAX,
   MAC_LINK_UP, MAC_LINK_RATE, MAC_LINK_LF, MAC_LINK_RF, MAC_LINK_HI_BER, MAC_LINK_RATE_UNSUP, MAC_LINK_DOWNS,
   MAC_CAUTIOUS_DEVICE, MAC_CAUTIOUS_TEST, MAC_CAUTIOUS_FAULT, MAC_CAUTIOUS_LACE, MAC_CAUTIOUS_RETURN,
   MAC_CAUTIOUS_ENTRIES, MAC_PAUSE_WD_WD, MAC_PAUSE_WD_IGNORE, MAC_PAUSE_STAT_PAUSED, MAC_PAUSE_STAT_CLASSES,
   MAC_PAUSE_STAT_IGNORING, MAC_TEST_LOOP, MAC_ADDR_LO_ADDR, MAC_ADDR_HI_ADDR, MAC_LATENCY_TX, MAC_LATENCY_RX,
   MAC_CNT_LO_LO, MAC_CNT_HI_HI]

/-- The fields of the MDIO pages. -/
def fieldsMDIO : List Fld :=
    [MDIO_CFG_DIV, MDIO_CFG_NO_PRE, MDIO_CMD_DATA, MDIO_CMD_REG, MDIO_CMD_PHY, MDIO_CMD_OP, MDIO_CMD_C45,
   MDIO_STAT_RDATA, MDIO_STAT_BUSY]

/-- The fields of the SDS pages. -/
def fieldsSDS : List Fld :=
    [SDS_IRQ_SIGNAL_LOST, SDS_IRQ_CDR_LOST, SDS_IRQ_PLL_LOST, SDS_IRQ_PRBS_ERR, SDS_STAT_SIGNAL, SDS_STAT_CDR_LOCK,
   SDS_STAT_PLL_LOCK, SDS_STAT_EQ_VALID, SDS_STAT_BAUD, SDS_TEST_LOOP, SDS_TEST_PRBS_TX, SDS_TEST_PRBS_RX,
   SDS_PRBS_ERR_COUNT, SDS_EQ_KEEP, SDS_EQ_TX_AMP, SDS_EQ_TX_PRE, SDS_EQ_TX_POST]

/-- The fields of the T1S pages. -/
def fieldsT1S : List Fld :=
    [T1S_IRQ_STATE_CHG, T1S_IRQ_PLCA_LOST, T1S_IRQ_PLCA_BACK, T1S_IRQ_CABLE_DONE, T1S_IRQ_XCOLL, T1S_CTRL_REQ,
   T1S_CTRL_CABLE_GO, T1S_STAT_STATE, T1S_STAT_PLCA_ACTIVE, T1S_STAT_COORD, T1S_STAT_PLCA_CFG_ERR, T1S_STAT_CABLE,
   T1S_PLCA_CFG_EN, T1S_PLCA_CFG_NODE_ID, T1S_PLCA_CFG_NODE_COUNT, T1S_PLCA_CFG_TO_TIMER, T1S_BURST_MAX_BURST,
   T1S_BURST_BURST_TIMER, T1S_BEACONS_COUNT, T1S_COLL_COUNT, T1S_XCOLL_COUNT]

/-- The fields of the AWL pages. -/
def fieldsAWL : List Fld :=
    [AWL_IRQ_OVERLOAD, AWL_IRQ_NO_ROUTE, AWL_IRQ_DECAP_ERR, AWL_IRQ_FORMAT, AWL_IRQ_VERIFY_FAIL, AWL_IRQ_WDOG,
   AWL_STAT_RUNNING, AWL_STAT_QUEUE, AWL_STAT_WDOGS, AWL_MSGS_LO_LO, AWL_MSGS_HI_HI, AWL_LOAD_LOAD,
   AWL_NO_ROUTE_COUNT, AWL_DENIED_COUNT, AWL_OVERLOAD_COUNT, AWL_DECAP_ERR_COUNT, AWL_FORMAT_COUNT,
   AWL_VERIFY_FAIL_COUNT, AWL_SEQ_GAP_COUNT, AWL_RT_SEL_ROUTE, AWL_RT_SEL_CLEAR, AWL_RT_HITS_COUNT,
   AWL_RT_DROPS_COUNT, AWL_BUNDLE_PORT_PORT, AWL_UCODE_VERSION]

/-- The fields of the CAN pages. -/
def fieldsCAN : List Fld :=
    [CAN_IRQ_BUS_OFF, CAN_IRQ_RECOVERED, CAN_IRQ_ERR_PASSIVE, CAN_IRQ_RX_OVF, CAN_IRQ_TX_DROP, CAN_IRQ_SLOT_MISSED,
   CAN_CTRL_RECOVER, CAN_STAT_STATE, CAN_STAT_TEC, CAN_STAT_REC, CAN_BT_NOM_BT, CAN_BT_FD_BT, CAN_BT_XL_BT,
   CAN_CFG_EN, CAN_CFG_CH_EN, CAN_CFG_TDCO, CAN_CFG_REC_DELAY, CAN_TDC_TDCV, CAN_OCC_RX_FRAMES, CAN_OCC_RX_BYTES,
   CAN_OCC_TX_BUFS, CAN_RX_OK_COUNT, CAN_TX_OK_COUNT, CAN_RX_OVF_COUNT, CAN_TX_FULL_COUNT, CAN_TX_EVICTED_COUNT,
   CAN_AGED_COUNT, CAN_SLOT_MISSED_COUNT, CAN_SLOT_OVER_COUNT, CAN_ERR_FRAMES_COUNT, CAN_BUSOFFS_COUNT]

/-- The fields of the LIN pages. -/
def fieldsLIN : List Fld :=
    [LIN_IRQ_NO_RESP, LIN_IRQ_CHK_ERR, LIN_IRQ_SYNC_ERR, LIN_IRQ_WAKE_RX, LIN_IRQ_TABLE_SW, LIN_CTRL_TABLE,
   LIN_CTRL_WAKE_TX, LIN_STAT_STATE, LIN_STAT_ROLE, LIN_STAT_TABLE, LIN_STAT_ENTRY, LIN_STAT_RATE, LIN_CFG_ROLE,
   LIN_CFG_DFLT_TABLE, LIN_CFG_EN, LIN_CFG_BITRATE, LIN_RX_OK_COUNT, LIN_TX_OK_COUNT, LIN_NO_RESP_COUNT,
   LIN_CHK_ERR_COUNT, LIN_BIT_ERR_COUNT, LIN_SYNC_ERR_COUNT]

/-- The fields of the TCA pages. -/
def fieldsTCA : List Fld :=
    [TCA_IRQ_ALARM, TCA_IRQ_EVENT, TCA_IRQ_TAG_FAIL, TCA_IRQ_RELEASED_FAIL, TCA_IRQ_LEN_ERR, TCA_IRQ_CFG_ERR,
   TCA_STAT_STATE, TCA_STAT_DRBG_OK, TCA_STAT_RESTORING, TCA_PN_THR_THR, TCA_XPN_THR_LO_THR, TCA_XPN_THR_HI_THR,
   TCA_FV_THR_LO_THR, TCA_FV_THR_HI_THR, TCA_EVT_INDEX, TCA_EVT_TYPE, TCA_EVT_VALID, TCA_EVT_LOST_COUNT,
   TCA_PORT_SEL_PORT, TCA_PORT_SEL_CLEAR, TCA_TX_PROTECTED_COUNT, TCA_TX_PN_EXH_COUNT, TCA_TX_NO_SA_COUNT,
   TCA_RX_OK_COUNT, TCA_RX_UNTAGGED_COUNT, TCA_RX_BAD_TAG_COUNT, TCA_RX_NO_SA_COUNT, TCA_RX_LATE_COUNT,
   TCA_TAG_FAIL_COUNT, TCA_RELEASED_FAIL_COUNT, TCA_NOTREADY_DROPS_COUNT, TCA_ERRS_COUNT]

/-- The fields of the TKM pages. -/
def fieldsTKM : List Fld :=
    [TKM_IRQ_LOAD_DONE, TKM_IRQ_LOAD_ERR, TKM_CTRL_LOCK, TKM_LD_CTRL_INDEX, TKM_LD_CTRL_CLASS, TKM_LD_CTRL_KLEN,
   TKM_LD_CTRL_PLAIN, TKM_LD_CTRL_WRAP, TKM_LD_CTRL_OP, TKM_LD_STAT_BUSY, TKM_LD_STAT_RESULT, TKM_SA_CFG_SUITE,
   TKM_SA_CFG_DIR, TKM_SA_SSCI_SSCI, TKM_SA_SALT_SALT, TKM_SA_PN_LO_PN, TKM_SA_PN_HI_PN, TKM_LD_DATA_DATA,
   TKM_SEL_INDEX, TKM_SEL_CLASS, TKM_SEL_STAT_PRESENT, TKM_SEL_STAT_KLEN, TKM_SEL_STAT_PLAIN, TKM_SEL_STAT_REF,
   TKM_SEL_STAT_SA_STATE, TKM_SEL_STAT_KCV, TKM_SEL_PN_LO_PN, TKM_SEL_PN_HI_PN, TKM_SEL_OK_COUNT, TKM_SEL_BAD_COUNT,
   TKM_FV_IDX_INDEX, TKM_FV_LO_FV, TKM_FV_HI_FV, TKM_FV_CMD_OP, TKM_ALARM_CAUSE, TKM_ALARMS_COUNT]

/-- The fields of the WLT pages. -/
def fieldsWLT : List Fld :=
    [WLT_IRQ_PERR, WLT_IRQ_PERR_OVF, WLT_IRQ_RD_TIMEOUT, WLT_IRQ_LINK_DOWN, WLT_RANGE_BASE_BASE, WLT_RANGE_CFG_EN,
   WLT_RANGE_CFG_CONFIRMED, WLT_RANGE_CFG_LIMIT, WLT_STAT_LINK_UP, WLT_STAT_WIDTH, WLT_STAT_SPEED, WLT_STAT_BME,
   WLT_STAT_OUTSTANDING, WLT_WR_SEQ_SEQ, WLT_RD_TIMEOUTS_COUNT, WLT_PERR_STAT_COUNT, WLT_PERR_STAT_HEAD,
   WLT_PERR_OVF_COUNT, WLT_PERR_ACK_N]

/-- The fields of the HDM pages. -/
def fieldsHDM : List Fld :=
    [HDM_IRQ_RX, HDM_IRQ_TX, HDM_IRQ_RX_NO_DESC, HDM_IRQ_TX_POLICY, HDM_IRQ_DMA_ERR, HDM_IRQ_TX_BAD,
   HDM_RX_BASE_LO_BASE, HDM_TX_BASE_LO_BASE, HDM_RX_BASE_HI_BASE, HDM_TX_BASE_HI_BASE, HDM_RX_CFG_EN, HDM_TX_CFG_EN,
   HDM_RX_CFG_KIND, HDM_TX_CFG_KIND, HDM_RX_CFG_ERR, HDM_TX_CFG_ERR, HDM_RX_CFG_SIZE_LOG2, HDM_TX_CFG_SIZE_LOG2,
   HDM_RX_CFG_BUF, HDM_TX_CFG_BUF, HDM_RX_TAIL_TAIL, HDM_TX_TAIL_TAIL, HDM_RX_HEAD_HEAD, HDM_TX_HEAD_HEAD,
   HDM_RX_MOD_TIMER, HDM_TX_MOD_TIMER, HDM_RX_MOD_COUNT, HDM_TX_MOD_COUNT, HDM_RX_DROPS_COUNT, HDM_TX_DROPS_COUNT,
   HDM_RX_FRAMES_COUNT, HDM_TX_FRAMES_COUNT]

/-- The fields of the SBP pages. -/
def fieldsSBP : List Fld :=
    [SBP_IRQ_CRC_ERR, SBP_IRQ_SHORT, SBP_ALERT_EN_EN, SBP_ALERT_STAT_INT, SBP_ALERT_STAT_NMI,
   SBP_ALERT_STAT_CLOCK_HOLD, SBP_ALERT_STAT_HEARTBEAT, SBP_ALERT_STAT_LINK, SBP_ALERT_STAT_MBX, SBP_FRAMES_COUNT,
   SBP_CRC_ERRS_COUNT, SBP_SHORT_COUNT]

/-- The fields of the MBX pages. -/
def fieldsMBX : List Fld :=
  [MBX_IRQ_DONE, MBX_CMD_LEN, MBX_CMD_GO, MBX_STAT_BUSY, MBX_STAT_RESULT, MBX_STAT_RLEN]

/-- The fields of the FLT pages. -/
def fieldsFLT : List Fld :=
    [FLT_IRQ_PRIMARY, FLT_IRQ_STORM, FLT_STAT_ENTRIES, FLT_STAT_STORM, FLT_STAT_LOST, FLT_CTRL_CLEAR,
   FLT_STORMS_COUNT, FLT_STORM_REPORTS_COUNT, FLT_CNT_SEL_CODE, FLT_CNT_SEL_CLEAR, FLT_CNT_COUNT,
   FLT_NMI_STAT_CAUSE, FLT_BIST_FAIL_DOMAIN, FLT_BIST_REPAIRS_COUNT, FLT_FIRST_W0_CODE, FLT_FIRST_W0_PAGE,
   FLT_FIRST_W0_STORM, FLT_FIRST_W0_NO_TIME, FLT_FIRST_W0_VALID, FLT_FIRST_NS_NS, FLT_FIRST_SEC_SEC]

/-- The fields of the WDG pages. -/
def fieldsWDG : List Fld :=
    [WDG_IRQ_FW_WARN, WDG_IRQ_HB_EXPIRED, WDG_IRQ_HB_BACK, WDG_FW_CFG_TIMEOUT, WDG_FW_KICK_KICK, WDG_FW_STAT_REMAIN,
   WDG_FW_STAT_NEXT, WDG_HB_CFG_EN, WDG_HB_CFG_TIMEOUT, WDG_HB_KICK_KICK, WDG_HB_STAT_EXPIRED, WDG_HB_STAT_EXPIRIES,
   WDG_LAST_RESET_KIND, WDG_LAST_RESET_CAUSE, WDG_LAST_RESET_WDOGS]

/-- The fields of the CGU pages. -/
def fieldsCGU : List Fld :=
    [CGU_IRQ_XTAL_FAIL, CGU_IRQ_XTAL_BACK, CGU_IRQ_HRC_FAIL, CGU_IRQ_LRC_FAIL, CGU_IRQ_SDSREF_FAIL,
   CGU_IRQ_TRIM_STARVED, CGU_IRQ_TRIM_LIMIT, CGU_STAT_LRC, CGU_STAT_HRC, CGU_STAT_XTAL, CGU_STAT_SDSREF,
   CGU_STAT_LOADS, CGU_STAT_SYSREF, CGU_STAT_DWELL, CGU_STAT_FAILOVERS, CGU_CTRL_AUTO_RETURN, CGU_CTRL_TRIM_HOLD,
   CGU_TRIM_SRC_SRC, CGU_TRIM_SRC_IDX, CGU_BEACON_NS, CGU_HRC_FACTORY, CGU_HRC_USER, CGU_HRC_EFFECTIVE,
   CGU_LRC_FACTORY, CGU_LRC_USER, CGU_LRC_EFFECTIVE, CGU_XCAP_FACTORY, CGU_XCAP_USER, CGU_XCAP_EFFECTIVE,
   CGU_SPAN_HRC, CGU_SPAN_LRC, CGU_SPAN_XCAP, CGU_HRC_ERR_PPM, CGU_HRC_ERR_REF, CGU_HRC_ERR_SAMPLES,
   CGU_TRIM_UPDATES_COUNT, CGU_TRIM_STARVED_COUNT]

/-- The fields of the PWR pages. -/
def fieldsPWR : List Fld :=
    [PWR_IRQ_SUPPLY_WARN, PWR_IRQ_DOMAIN_ERR, PWR_IRQ_MODE_CHG, PWR_MODE_MODE, PWR_CFG_DESCEND, PWR_CFG_PARTIAL,
   PWR_DOM_STAT_HEEL, PWR_DOM_STAT_POWERED, PWR_DOM_REQ_REQ, PWR_DOM_HELD_HELD, PWR_DOM_USED_USED,
   PWR_DOM_ERR_DOMAIN, PWR_DOM_ERR_REASON, PWR_DOM_ERR_SIDEBAND, PWR_SUP_CFG_WARN_MV, PWR_DIP_MIN_MIN_MV,
   PWR_DIP_MIN_SUPPLY, PWR_DIP_DUR_US, PWR_DIPS_COUNT, PWR_MEAS_VALUE]

/-- The fields of the WAK pages. -/
def fieldsWAK : List Fld :=
    [WAK_IRQ_WOKE, WAK_IRQ_CL_CHG, WAK_IRQ_FALSE_WAKE, WAK_IRQ_LATE, WAK_CAUSE_KIND, WAK_CAUSE_INDEX,
   WAK_CAUSE_LATE, WAK_STAT_DESCENT, WAK_STAT_ASLEEP, WAK_STAT_DEFINED, WAK_REQ_HOST_CL, WAK_REQ_SB_CL,
   WAK_REQ_PIN_CL, WAK_REQ_ROUTE_CL, WAK_CL_STATE_STATE, WAK_CL_SEL_CL, WAK_CL_TIMER_MS, WAK_CL_COUNTS_WAKES,
   WAK_CL_COUNTS_FALSE, WAK_IN_CFG_PIN, WAK_IN_CFG_LEVEL, WAK_TIMER_SECONDS, WAK_BASIC_LO_CH, WAK_BASIC_HI_CH,
   WAK_BASIC_FT_FT, WAK_WAKES_COUNT, WAK_LATE_COUNT]

/-- The fields of the TXM pages. -/
def fieldsTXM : List Fld :=
    [TXM_IRQ_SEQ_ERR, TXM_IRQ_CMD_DONE, TXM_CMD_CHAN, TXM_CMD_STATE, TXM_CMD_GO, TXM_CH_SEL_CHAN, TXM_CH_STAT_STATE,
   TXM_CH_STAT_PROFILE, TXM_CH_STAT_EN, TXM_CH_STAT_ERR, TXM_CH_STAT_BUSY, TXM_ERRS_COUNT, TXM_CTL_CFG_DIV,
   TXM_CTL_CFG_MODE]

/-- The fields of the UPD pages. -/
def fieldsUPD : List Fld :=
    [UPD_IRQ_CMD_DONE, UPD_IRQ_CMD_ERR, UPD_IRQ_TRIAL_EXPIRED, UPD_IRQ_FALLBACK, UPD_IRQ_OWNER_CHG, UPD_STAT_BUSY,
   UPD_STAT_SESSION, UPD_STAT_STAGED, UPD_STAT_ARMED, UPD_STAT_ACTIVE, UPD_STAT_STATE, UPD_STAT_EXPIRED,
   UPD_STAT_SOURCE, UPD_STAT_BOOT_FAIL, UPD_RESULT_CODE, UPD_RESULT_SOURCE, UPD_CMD_OP, UPD_ADDR_ADDR, UPD_ARM_GO,
   UPD_ARM_DISARM, UPD_RESTART_GO, UPD_CONFIRM_GO, UPD_TRIAL_TIME_SECONDS, UPD_TRIAL_LEFT_SECONDS,
   UPD_VEH_STATE_MOVING, UPD_VEH_STATE_VMOVE, UPD_VEH_STATE_SPEED, UPD_VEH_STATE_STALE, UPD_VEH_STATE_ANY,
   UPD_VBAT_MIN_MV, UPD_SPD_CFG_EN, UPD_SPD_CFG_CHAN, UPD_SPD_CFG_IDE, UPD_SPD_CFG_START, UPD_SPD_CFG_WIDTH,
   UPD_SPD_CFG_ORDER, UPD_SPD_ID_ID, UPD_SPD_LIM_THRESH, UPD_SPD_LIM_STALE, UPD_BOOT_INFO_REASON,
   UPD_BOOT_INFO_FAIL_SLOT, UPD_BOOT_INFO_FAIL_PART, UPD_MNF_SEQ_SEQ, UPD_VERSION_VERSION, UPD_OWN_STAT_LOCKED,
   UPD_OWN_STAT_KEY_SET, UPD_OWN_STAT_LEFT, UPD_OWN_STAT_NONCE_VALID, UPD_OWN_CMD_OP, UPD_OWN_CMD_NONCE_REQ,
   UPD_NONCE_NONCE, UPD_OWN_MAC_MAC, UPD_BUF_DATA]

/-- The fields of the PG pages. -/
def fieldsPG : List Fld :=
    [PG_ID_INDEX, PG_ID_INSTANCE, PG_ID_TYPE, PG_REV_BLOCK, PG_REV_SILICON, PG_CTRL_ENABLE, PG_CTRL_BLOCK_RESET,
   PG_CTRL_POWER_REQ, PG_STAT_READY, PG_STAT_POWERED, PG_STAT_BUSY, PG_STAT_FAULT, PG_STAT_CAUTIOUS, PG_IRQ_EN_EN,
   PG_IRQ_FORCE_FORCE, PG_IRQ_ROUTE_ROUTE, PG_ERR_CAPT0_OFFSET, PG_ERR_CAPT1_CODE, PG_ERR_CAPT2_MASTER,
   PG_ERR_CAPT2_WRITE, PG_ERR_CAPT3_TIME, PG_ERR_COUNT_COUNT, PG_LOCK_LOCK]

/-- The fields of the FUS page. -/
def fieldsFUS : List Fld :=
    [FUS_SUBSYS_VENDOR, FUS_SUBSYS_DEVICE, FUS_VLIM_VMIN, FUS_VLIM_VMAX, FUS_STAT_KEYHASH_SET,
   FUS_STAT_OWNER_KEY_SET, FUS_STAT_ROOT_SET, FUS_KEYHASH_HASH]

/-- Every register field of the device, header fields first. -/
def allFields : List Fld :=
    fieldsPG ++ fieldsDEV ++ fieldsLST ++ fieldsCLR ++ fieldsRUL ++ fieldsMTR ++ fieldsMIR ++ fieldsFAB ++ fieldsSOL
   ++ fieldsCBR ++ fieldsSCH ++ fieldsTIM ++ fieldsLCE ++ fieldsMAC ++ fieldsMDIO ++ fieldsSDS ++ fieldsT1S ++
   fieldsAWL ++ fieldsCAN ++ fieldsLIN ++ fieldsTCA ++ fieldsTKM ++ fieldsWLT ++ fieldsHDM ++ fieldsSBP ++ fieldsMBX
   ++ fieldsFLT ++ fieldsWDG ++ fieldsCGU ++ fieldsPWR ++ fieldsWAK ++ fieldsTXM ++ fieldsUPD ++ fieldsFUS

end Sys2Proof.Machine.Reg
end

