-- ==== Sys2Proof/Machine/Pages.lean ====
section
/-! DEFINITION. The page directory of R401: which pages exist, their block type, instance, power domain and ownership
group. -/
namespace Sys2Proof.Machine

/-- One line of R401: block type, first page, pages, ownership group. -/
structure PageRow where
  type : Nat
  first : Nat
  count : Nat
  group : Nat
deriving DecidableEq, Repr

/-- The directory of R401. -/
def pageRows : List PageRow :=
  [⟨0x01, 0x000, 1, 13⟩, ⟨0x02, 0x001, 1, 13⟩, ⟨0x03, 0x008, 1, 10⟩, ⟨0x04, 0x010, 1, 10⟩, ⟨0x05, 0x011, 1, 10⟩,
   ⟨0x06, 0x012, 1, 10⟩, ⟨0x07, 0x018, 1, 11⟩, ⟨0x08, 0x019, 1, 11⟩, ⟨0x09, 0x020, 1, 13⟩, ⟨0x0A, 0x021, 1, 12⟩,
   ⟨0x0B, 0x022, 1, 13⟩, ⟨0x0C, 0x023, 1, 12⟩, ⟨0x0D, 0x028, 1, 2⟩, ⟨0x0E, 0x030, 1, 0⟩] ++
  [⟨0x10, 0x040, 24, 4⟩, ⟨0x11, 0x058, 1, 3⟩, ⟨0x12, 0x059, 1, 3⟩, ⟨0x13, 0x060, 4, 5⟩, ⟨0x14, 0x068, 1, 3⟩,
   ⟨0x15, 0x069, 1, 3⟩, ⟨0x16, 0x06A, 1, 3⟩, ⟨0x17, 0x070, 37, 6⟩, ⟨0x18, 0x0A0, 1, 7⟩, ⟨0x19, 0x0A8, 32, 7⟩] ++
  [⟨0x1A, 0x0D0, 32, 8⟩, ⟨0x1B, 0x0F0, 24, 8⟩, ⟨0x1C, 0x108, 8, 8⟩, ⟨0x1D, 0x110, 16, 9⟩, ⟨0x1E, 0x120, 64, 9⟩,
   ⟨0x1F, 0x160, 16, 9⟩, ⟨0x20, 0x170, 1, 1⟩, ⟨0x21, 0x171, 1, 1⟩]

/-- The row of a page, if the page is defined (R401, R402). -/
def pageRow (page : Nat) : Option PageRow :=
  pageRows.find? (fun r => r.first ≤ page && page < r.first + r.count)

/-- The page is one of the 279 defined pages. -/
def pageDefined (page : Nat) : Bool := (pageRow page).isSome

/-- The block type code of a page (0 for a reserved page). -/
def pageType (page : Nat) : Nat := ((pageRow page).map (·.type)).getD 0

/-- The instance number of a page (PG_ID[15:8]). -/
def pageInst (page : Nat) : Nat := ((pageRow page).map (fun r => page - r.first)).getD 0

/-- The ownership group of a page (R304). -/
def pageGroup (page : Nat) : Nat := ((pageRow page).map (·.group)).getD 15

/-- The power domain of an Ethernet MAC, and of its Lace and SerDes lane (R401). -/
def macDomain (port : Nat) : Nat :=
  if port < 4 then 11 else if port < 8 then 12 else if port < 16 then 13 else if port < 24 then 14 else 15

/-- The power domain of a page, 0 for the Heel (R401). -/
def pageDomain (page : Nat) : Nat :=
  let i := pageInst page
  match pageType page with
  | 0x06 => 16
  | 0x09 => 2
  | 0x0A => 2
  | 0x0C => 1
  | 0x0D => 1
  | 0x0E => 10
  | 0x10 => 9
  | 0x11 => 9
  | 0x12 => 9
  | 0x13 => 3 + i
  | 0x14 => 7
  | 0x15 => 7
  | 0x16 => 9
  | 0x17 => 9
  | 0x18 => 1
  | 0x19 => macDomain i
  | 0x1A => macDomain i
  | 0x1B => macDomain i
  | 0x1C => 15
  | 0x1D => if i < 8 then 16 else 17
  | 0x1E => if i < 32 then 16 else 17
  | 0x1F => if i < 8 then 16 else 17
  | 0x20 => 18
  | 0x21 => 18
  | _ => 0

/-- The blocks of the data path, by type: the pages whose BLOCK reset or primary fault R34 names for the whole
device (FAB, SOL, CBR, CLR, RUL, MTR, MIR, SCH, LST). -/
def dataPathType (t : Nat) : Bool :=
  t == 0x0E || t == 0x10 || t == 0x11 || t == 0x12 || t == 0x13 || t == 0x14 || t == 0x15 || t == 0x16 || t == 0x17

/-- The pages on which ENABLE is read-only and BLOCK_RESET is ignored (R405, R406): DEV, FUS, CGU, PWR, WAK, FLT,
WDG, SBP and WLT. -/
def fixedType (t : Nat) : Bool :=
  t == 0x01 || t == 0x02 || t == 0x03 || t == 0x04 || t == 0x05 || t == 0x07 || t == 0x08 || t == 0x09 || t == 0x0B

/-- The blocks that have L fields, by type: PG_STAT.READY of their pages waits for the Last to be applied (R408).
They are read off the register tables: CGU, PWR, WAK, TXM, CLR, MIR, SOL, SCH, TIM, MAC, SDS, T1S, AWL, CAN, LIN. -/
def hasLFields (t : Nat) : Bool :=
  t == 0x03 || t == 0x04 || t == 0x05 || t == 0x06 || t == 0x10 || t == 0x14 || t == 0x16 || t == 0x17 || t == 0x18 ||
  t == 0x1A || t == 0x1B || t == 0x1C || t == 0x1D || t == 0x1E || t == 0x1F

/-- The blocks that run under the priority sections alone (R388): WAK, TXM, AWL, CAN and LIN. -/
def prioType (t : Nat) : Bool := t == 0x05 || t == 0x06 || t == 0x1D || t == 0x1E || t == 0x1F

end Sys2Proof.Machine
end

