-- ==== Sys2Proof/Machine/Init.lean ====
section
/-! DEFINITION. What each component of the state holds when nothing has happened to it, and the addressing of register
cells, which the reset state needs. -/
namespace Sys2Proof

/-- The cell of a field: instance page i, element j, and the master's copy m where the field has one (R412). -/
def Fld.key (f : Fld) (i j m : Nat) : Nat :=
  (((f.page + i) * 4096 + f.off + f.stride * j) * 128 + f.lo) * 4 + (if f.perMaster then m else 0)

/-- The reset value of an element. -/
def Fld.dflt (f : Fld) (j : Nat) : Nat := (f.resets[j]?).getD f.reset

end Sys2Proof

namespace Sys2Proof.Machine

/-- The mapping of pages is the identity and no page is in use: an empty Last memory. -/
def Lst.init : Lst :=
  ⟨[], [], [], 57344, [], [], [], [], 0, 0, false, false, none, [], false, 0, false, none⟩

def Flt.init : Flt := ⟨[], [], none, false, 0, []⟩

/-- The path with no frame and a full punt bucket (R100). -/
def Clr.init : Clr := ⟨[], [], 0, 0, 0, [], [], 64000000000, 0, [], [], 0, [], []⟩

def Sole.init : Sole := ⟨[], [], [], [], false, [], [], []⟩

def Sched.init : Sched := ⟨[], [], [], [], [], [], [], [], [], []⟩

def Fab.init : Fab := ⟨[], [], [], [], 0, 0, 0, 0, 0, none, [], false, false, none⟩

/-- The time base at 0 s of both domains, after a given elapsed time. -/
def Tim.init (elapsed : Nat) : Tim := ⟨elapsed, 0, 0, 0, 0, 0, none, 0, 0, 0, 0, 0, [], [], none, []⟩

def Toecap.init : Toecap := ⟨[], [], [], [], [], [], [], true, [], 0, false⟩

def Awl.init : Awl := ⟨[], [], [], [], [], [], [], [], [], [], []⟩

/-- No latch is set; the clusters start in WOKEN when the Last is applied (R369). -/
def Wak.init : Wak := ⟨[], [], [], [], [], [], [], [], [], false, [], 1⟩

def Pwr.init : Pwr := ⟨0, 0, 0, 0, false, [], 0, [], false, 0, 0, 4, 0⟩

def Cgu.init : Cgu := ⟨0, 0, false, false⟩

/-- A blank flash, which does not start in 8D-8D-8D mode, and unprogrammed fuses; a boot is due. -/
def Upd.init : Upd := ⟨[], [], none, none, 0, .due, 0, 0, false, false, none, none, false, [], 0, none, 0, true, 0, 0, none, false⟩

def Wdg.init : Wdg := ⟨none, none, false⟩
def Wlt.init : Wlt := ⟨[], [], 0, [], 0⟩
def Hdm.init : Hdm := ⟨[], 0, []⟩
def Mbx.init : Mbx := ⟨[], []⟩

/-- The register cells at the release of POR: each at its reset value, and the LRC counting (R338 step 1). -/
def RegFile.init : RegFile := ⟨AMap.ins [] (Reg.CGU_STAT_LRC.key 0 0 0) 1, [], []⟩

end Sys2Proof.Machine
end

