-- ==== Sys2Proof/Machine/State.lean ====
section
/-! DEFINITION. The state of the LN6425 as plain data: the register cells, the working state of every block, the
queue of waiting commands, and the state right after a power-on reset. -/
namespace Sys2Proof.Machine

/-- Why the model stops.  The spec gives the block no fault that stops it, so no meaning of this model raises one;
stopping where the device goes on would be safe. -/
inductive Fault where
  /-- Raised by nothing: kept so that the outcome has a name. Safe. -/
  | halted
deriving DecidableEq, Repr

/-- Why a command has no meaning. -/
inductive Refusal where
  /-- Raised by Dispatch for a command that has no meaning yet. Safe: the run stops. -/
  | notModelled (mnemonic : String)
deriving DecidableEq, Repr

/-- The whole device. -/
structure State where
  /-- The register cells, by persistence class (R15). -/
  regs : RegFile
  /-- Draws of free values made so far (the model's own; assumption log 3). -/
  freeCtr : Nat
  lst : Lst
  flt : Flt
  clr : Clr
  sole : Sole
  sch : Sched
  fab : Fab
  tim : Tim
  /-- The Lace of each Ethernet port. -/
  lace : AMap Lace
  /-- The MAC of each Ethernet port. -/
  macs : AMap Mac
  /-- MDIO transactions waiting and in progress, oldest first. -/
  mdio : List MdioReq
  tca : Toecap
  awl : Awl
  wak : Wak
  pwr : Pwr
  wdg : Wdg
  wlt : Wlt
  hdm : Hdm
  mbx : Mbx
  cgu : Cgu
  upd : Upd
  /-- The word that the last ordinary register read returned, by master (R9). -/
  rd : AMap Nat
  /-- The posted-error log, oldest first (R302). -/
  perrs : List PErr
  /-- The last sideband response. -/
  sbResp : SbResp
  /-- The commands that wait, first in first out (the model's own). -/
  pending : List Instr
deriving DecidableEq, Repr

/-- The machine at the release of a power-on reset (R14, R15, R338): every register at its reset value, every switched
domain off, no Last applied, no frame and no message anywhere, and nothing in the queue. -/
def State.reset : State where
  regs := .init
  freeCtr := 0
  lst := .init
  flt := .init
  clr := .init
  sole := .init
  sch := .init
  fab := .init
  tim := .init 0
  lace := []
  macs := []
  mdio := []
  tca := .init
  awl := .init
  wak := .init
  pwr := .init
  wdg := .init
  wlt := .init
  hdm := .init
  mbx := .init
  cgu := .init
  upd := .init
  perrs := []
  sbResp := ⟨0, 0, []⟩
  rd := []
  pending := []

end Sys2Proof.Machine
end

