-- ==== Sys2Proof/Machine/Ops.lean ====
section
/-! DEFINITION. The named operations over the register cells that every meaning uses: reading and writing a field,
saturating counts, interrupts and pins, error counts, ownership and the access gate, fault reports, cautious
forwarding, and the persistence of R15. -/
namespace Sys2Proof.Machine

/-! ### Register fields -/

/-- The map that holds a persistence class; constants and L fields have none. -/
def RegFile.sel (r : RegFile) (k : Keep) : AMap Nat :=
  match k with
  | .H => r.h
  | .T => r.t
  | .V => r.v
  | .L => []
  | .C => []

/-- Replace the map of a class. -/
def RegFile.upd (r : RegFile) (k : Keep) (a : AMap Nat) : RegFile :=
  match k with
  | .H => { r with h := a }
  | .T => { r with t := a }
  | .V => { r with v := a }
  | .L => r
  | .C => r

/-- What an unlisted register cell holds: no difference from its reset value. -/
def cellDflt (_ : Nat) : Nat := 0

/-- Read a field. -/
def State.get (s : State) (f : Fld) (i : Nat := 0) (j : Nat := 0) (m : Nat := 0) : Nat :=
  Nat.xor (f.dflt j) (AMap.get cellDflt (s.regs.sel f.keep) (f.key i j m))

/-- Write a field; the value is cut to the field's width. -/
def State.put (s : State) (f : Fld) (v : Nat) (i : Nat := 0) (j : Nat := 0) (m : Nat := 0) : State :=
  let a := AMap.set cellDflt (s.regs.sel f.keep) (f.key i j m) (Nat.xor (f.dflt j) (v % 2 ^ f.width))
  { s with regs := s.regs.upd f.keep a }

/-- Read a one-bit field. -/
def State.flag (s : State) (f : Fld) (i : Nat := 0) (j : Nat := 0) (m : Nat := 0) : Bool := s.get f i j m == 1

/-- Add to a count that saturates at its field's largest value. -/
def State.inc (s : State) (f : Fld) (by_ : Nat := 1) (i : Nat := 0) (j : Nat := 0) : State :=
  s.put f (min (2 ^ f.width - 1) (s.get f i j + by_)) i j

/-- Add to a count that wraps. -/
def State.incWrap (s : State) (f : Fld) (by_ : Nat := 1) (i : Nat := 0) (j : Nat := 0) : State :=
  s.put f (s.get f i j + by_) i j

/-- Raise an interrupt bit of PG_IRQ_STAT (bit b of a field that holds several). -/
def State.raise (s : State) (f : Fld) (i : Nat := 0) (b : Nat := 0) : State :=
  s.put f (setBit (s.get f i) b true) i

/-- A draw of a free value below n (assumption log 3). -/
def State.draw (s : State) (n : Nat) : Nat × State :=
  (Config.freeNat s.freeCtr % n, { s with freeCtr := s.freeCtr + 1 })

/-! ### Time -/

/-- Elapsed time in ns, on domain 0's ticks, unmoved by steps (R186). -/
def State.now (s : State) : Nat := s.tim.elapsed / 2 ^ 32

/-- The clock of a domain in whole ns since 0 s (R184). -/
def State.dom (s : State) (d : Nat) : Nat := (if d = 0 then s.tim.clk0 else s.tim.clk1) / 2 ^ 32

/-- The low 32 bits of domain 0 in ns; 0 while PD1 is off (R410). -/
def State.time32 (s : State) : Nat := if bit s.pwr.powered 1 then s.dom 0 % 2 ^ 32 else 0

/-! ### Pages -/

/-- The page's domain is powered; the Heel always is, unless the device is OFF (R357). -/
def State.pagePowered (s : State) (page : Nat) : Bool :=
  if pageDomain page = 0 then s.get Reg.PWR_MODE_MODE != 0 else bit s.pwr.powered (pageDomain page)

/-- The page is held in BLOCK reset (R406). -/
def State.pageHeld (s : State) (page : Nat) : Bool := s.flag Reg.PG_CTRL_BLOCK_RESET page

/-- The block of the page failed its self-test (R333). -/
def State.bistFailed (s : State) (page : Nat) : Bool := s.pwr.bist.contains page

/-- PG_STAT.READY (R408): powered, self-test passed, out of BLOCK reset, and the Last applied for blocks with L
fields.  Before the whole Last is applied, its priority sections are for the gateway and wake blocks (R388). -/
def State.pageReady (s : State) (page : Nat) : Bool :=
  s.pagePowered page && (pageDomain page == 0 || bit s.pwr.tested (pageDomain page)) && !s.pageHeld page &&
  !s.bistFailed page &&
  (!hasLFields (pageType page) || s.flag Reg.LST_STAT_LOADED || (s.lst.prio && prioType (pageType page)))

/-- The bits of a page's PG_IRQ_STAT. -/
def irqFields (page : Nat) : List Fld :=
  Reg.allFields.filter (fun f => f.off == 0x10 && f.page != 0 && decide (f.page ≤ page) && decide (page < f.page + f.pages))

/-- The word PG_IRQ_STAT of a page. -/
def State.irqStat (s : State) (page : Nat) : Nat :=
  (irqFields page).foldl (fun w f => w + s.get f (page - f.page) * 2 ^ f.lo) 0

/-- The bits that a page's PG_IRQ_STAT defines. -/
def irqMask (page : Nat) : Nat := (irqFields page).foldl (fun w f => w + (2 ^ f.width - 1) * 2 ^ f.lo) 0

/-- The interrupt group of a bit (R409): each bit its own, numbered in the order of the bits; on the HDM page bits
16–19 are group 16. -/
def irqGroup (page b : Nat) : Nat :=
  if pageType page = 0x0A then min b 16
  else ((List.range b).filter (fun k => bit (irqMask page) k)).length

/-- The page drives INT_N[k] low (R306, R409). -/
def State.pageDrives (s : State) (page k : Nat) : Bool :=
  let live := Nat.land (s.irqStat page) (s.get Reg.PG_IRQ_EN_EN page)
  (List.range 32).any (fun b => bit live b && bits (s.get Reg.PG_IRQ_ROUTE_ROUTE page) (2 * (irqGroup page b % 16)) 2 == k)

/-- All defined pages. -/
def allPages : List Nat := pageRows.flatMap (fun r => (List.range r.count).map (r.first + ·))

/-- INT_N[k] is low. -/
def State.intLow (s : State) (k : Nat) : Bool := allPages.any (fun p => s.pageDrives p k)

/-- The Heel enables the amplifier of the crystal (R426). -/
def State.xtalAmp (s : State) : State := { s with cgu := { s.cgu with amp := true } }

/-- Some INT_N pin is low. -/
def State.anyInt (s : State) : Bool := allPages.any (fun p => Nat.land (s.irqStat p) (s.get Reg.PG_IRQ_EN_EN p) != 0)

/-- NMI_N is low (R328). -/
def State.nmiLow (s : State) : Bool := s.get Reg.FLT_NMI_STAT_CAUSE != 0

/-- The six alert conditions of R307, in the bit order of SBP_ALERT_STAT. -/
def State.alertStat (s : State) : Nat :=
  b2n s.anyInt + 2 * b2n s.nmiLow + 4 * s.get Reg.SBP_ALERT_STAT_CLOCK_HOLD + 8 * s.get Reg.WDG_HB_STAT_EXPIRED +
  16 * b2n (!s.flag Reg.WLT_STAT_LINK_UP) + 32 * s.get Reg.MBX_IRQ_DONE

/-- SB_ALERT_N is low (R307): in CLOCK_HOLD whatever SBP_ALERT_EN says. -/
def State.alertLow (s : State) : Bool :=
  s.flag Reg.SBP_ALERT_STAT_CLOCK_HOLD || Nat.land s.alertStat (s.get Reg.SBP_ALERT_EN_EN) != 0

/-! ### Error counts, ownership and the access gate -/

/-- The Awl microcode runs: its hash has matched in this boot, or a load has ended (R386 step 3, R388, R399); factory test loads
none. -/
def State.ucodeRuns (s : State) : Bool :=
  match s.upd.stage with
  | .due | .record | .manifest | .fw | .ucode | .load => false
  | .done => s.upd.source != 3
  | _ => true

/-- The management firmware runs: its hash comes before that of the microcode. -/
def State.firmwareRuns (s : State) : Bool := s.upd.stage == .ucode || s.ucodeRuns

/-- Codes of PG_ERR_CAPT1 (R410). -/
def ecRWD : Nat := 1
def ecINVALID : Nat := 2
def ecBUSY : Nat := 3
def ecSTATE : Nat := 4
def ecSOURCE : Nat := 5
def ecLOCKED : Nat := 6

/-- Count one error on a page and capture it (R410).  On the WLT page the offset field holds a BAR0 offset (R297), and on
the TCA page it is part of the word that R288 also writes. -/
def State.err (s : State) (page off code : Nat) (m : Master) (w : Bool := true) : State :=
  let s := s.inc Reg.PG_ERR_COUNT_COUNT 1 page
  let s := if page = 0x020 then s.put Reg.WLT_ERR_CAPT0_ADDR (page * 4096 + off)
    else if page = 0x170 then s.put Reg.TCA_ERR_CAPT0_WORD off
    else s.put Reg.PG_ERR_CAPT0_OFFSET off page
  let s := s.put Reg.PG_ERR_CAPT1_CODE code page
  let s := s.put Reg.PG_ERR_CAPT2_MASTER m.code page
  let s := s.put Reg.PG_ERR_CAPT2_WRITE (b2n w) page
  s.put Reg.PG_ERR_CAPT3_TIME s.time32 page

/-- The owner of a group: 0 shared, 1 host, 2 sideband; 3 acts as 0 (R304). -/
def State.owner (s : State) (g : Nat) : Nat :=
  let o := bits (s.get Reg.DEV_OWNER_OWNER) (2 * g) 2
  if o = 3 then 0 else o

/-- Ownership refuses a write of this master to the group (R39, R304); the firmware is never refused. -/
def State.ownedByOther (s : State) (m : Master) (g : Nat) : Bool :=
  match m with
  | .host => s.owner g == 2
  | .sideband => s.owner g == 1
  | .firmware => false

/-- Why an access ended in an error (R302, R317). -/
inductive AccErr where
  | size | reserved | notPowered | blockReset | ownership | staging | timeout | target
deriving DecidableEq, Repr

/-- The code of R302. -/
def AccErr.code : AccErr → Nat
  | .size => 1
  | .reserved => 2
  | .notPowered => 3
  | .blockReset => 4
  | .ownership => 5
  | .staging => 6
  | .timeout => 7
  | .target => 8

/-- The sideband status of R317. -/
def AccErr.status : AccErr → Nat
  | .size => 0x84
  | .reserved => 0x84
  | .notPowered => 0x85
  | .blockReset => 0x88
  | .ownership => 0x86
  | .staging => 0x8A
  | .timeout => 0x87
  | .target => 0x8B

/-- Count an ownership error for the writing master (R305). -/
def State.ownErr (s : State) (m : Master) : State :=
  match m with
  | .host => s.inc Reg.DEV_OWNER_ERR_HOST
  | .sideband => s.inc Reg.DEV_OWNER_ERR_SIDEBAND
  | .firmware => s

/-- The result of a register write: the state, and the access error if there was one. -/
abbrev Acc := Option AccErr × State

/-- In CLOCK_HOLD with LRC not running the Heel has no clock (R339): no access to it is answered, and its logic stands. -/
def State.heelStands (s : State) : Bool := s.flag Reg.SBP_ALERT_STAT_CLOCK_HOLD && s.get Reg.CGU_STAT_LRC != 2

/-- What the Heel's logic does, where it has a clock. -/
def State.heel (s : State) (k : State → State) : State := if s.heelStands then s else k s

/-- The access gate of R17, R39, R402, R406 and R407 without the write lock: the write is refused, or goes on as k. -/
def State.gate0 (s : State) (m : Master) (page off : Nat) (k : State → State) : Acc :=
  if s.heelStands then (some .timeout, s)
  else if !pageDefined page then (some .reserved, s)
  else if !s.pagePowered page then (some .notPowered, s)
  else if s.pageHeld page && decide (0x10 ≤ off) then (some .blockReset, s)
  else if s.ownedByOther m (pageGroup page) then (some .ownership, s.ownErr m)
  else (none, k s)

/-- The access gate with the write lock of R411: a write that PG_LOCK refuses is counted with code LOCKED. -/
def State.gate (s : State) (m : Master) (page off : Nat) (k : State → State) : Acc :=
  s.gate0 m page off (fun s =>
    if s.flag Reg.PG_LOCK_LOCK page && decide (m ≠ .firmware) then s.err page off ecLOCKED m else k s)

/-- Record a failed host write in the posted-error log (R302). -/
def State.perr (s : State) (w : HostWrite) (code : Nat) : State :=
  let n := s.get Reg.WLT_PERR_STAT_COUNT
  let s := s.raise Reg.WLT_IRQ_PERR
  if n < 16 then
    let e : PErr := ⟨w.addr, w.be, code, w.confirmed, ceilDiv (w.addr % 4 + w.data.length) 4, w.seq, s.time32⟩
    let s := { s with perrs := s.perrs ++ [e] }
    s.put Reg.WLT_PERR_STAT_COUNT (n + 1)
  else (s.inc Reg.WLT_PERR_OVF_COUNT).raise Reg.WLT_IRQ_PERR_OVF

/-- The range of WLT_RANGE that decides a host write is confirmed (R300). -/
def State.confirmed (s : State) (addr : Nat) : Bool :=
  let hit := (List.range 8).find? (fun r =>
    s.flag Reg.WLT_RANGE_CFG_EN 0 r && decide (s.get Reg.WLT_RANGE_BASE_BASE 0 r ≤ addr / 4096) &&
    decide (addr / 4096 ≤ s.get Reg.WLT_RANGE_CFG_LIMIT 0 r))
  match hit with
  | some r => s.flag Reg.WLT_RANGE_CFG_CONFIRMED 0 r
  | none => false

/-- What a register command leaves: its effect, or the report of its failure as R297 and R305 say,
in the posted-error log from the host and in the response status over the sideband (assumption log 8). -/
def State.answer (s : State) (m : Master) (page off : Nat) (r : Acc) : State :=
  match r with
  | (none, t) => t
  | (some e, t) =>
    match m with
    | .host =>
      t.perr ⟨page * 4096 + off, 0xF, [0, 0, 0, 0], t.get Reg.WLT_WR_SEQ_SEQ, s.confirmed (page * 4096 + off)⟩ e.code
    | .sideband => { t with sbResp := ⟨e.status, 0, []⟩ }
    | .firmware => t

/-- The sideband target answers: SB_EN was sampled 1 and the device is not OFF (R315). -/
def State.sbOn (s : State) : Bool := s.flag Reg.DEV_STRAPS_SB_EN && s.get Reg.PWR_MODE_MODE != 0

/-- The Welt numbers a host write that it accepts while the link is up (R302). -/
def State.numbered (s : State) : State :=
  if s.flag Reg.WLT_STAT_LINK_UP then s.put Reg.WLT_WR_SEQ_SEQ ((s.get Reg.WLT_WR_SEQ_SEQ + 1) % 2 ^ 32) else s

/-- A write that stands as a command of its own, by its master: the host's is numbered, and the sideband's needs a target that is
present. -/
def State.command (s : State) (m : Master) (page off : Nat) (k : State → Acc) : State :=
  match m with
  | .host => s.numbered.answer .host page off (k s.numbered)
  | .sideband => if s.sbOn then s.answer .sideband page off (k s) else s
  | .firmware => s.answer .firmware page off (k s)

/-- A register write that stands as a command of its own, by its master. -/
def State.direct (s : State) (m : Master) (page off : Nat) (k : State → State) : State :=
  s.command m page off (fun s => s.gate m page off k)

/-- The gate for a write that changes nothing but what the page reports to its master: ownership and PG_LOCK let it
through (R118, R411). -/
def State.gateFree (s : State) (page off : Nat) (k : State → State) : Acc :=
  if s.heelStands then (some .timeout, s)
  else if !pageDefined page then (some .reserved, s)
  else if !s.pagePowered page then (some .notPowered, s)
  else if s.pageHeld page && decide (0x10 ≤ off) then (some .blockReset, s)
  else (none, k s)

/-- A write that ownership and PG_LOCK let through, as a command of its own. -/
def State.directFree (s : State) (m : Master) (page off : Nat) (k : State → State) : State :=
  s.command m page off (fun s => s.gateFree page off k)

/-! ### Cautious forwarding (R31–R37) -/

/-- Some device-wide condition holds. -/
def State.devCautious (s : State) : Bool :=
  s.flag Reg.DEV_CAUTIOUS_STARTUP || s.flag Reg.DEV_CAUTIOUS_TEST || s.flag Reg.DEV_CAUTIOUS_SUPPLY ||
  s.flag Reg.DEV_CAUTIOUS_PACE || s.flag Reg.DEV_CAUTIOUS_FAULT || s.flag Reg.DEV_CAUTIOUS_CLOCK

/-- The causes of Ethernet port p itself. -/
def State.portCause (s : State) (p : Nat) : Bool :=
  s.flag Reg.MAC_CAUTIOUS_TEST p || s.flag Reg.MAC_CAUTIOUS_FAULT p || s.flag Reg.MAC_CAUTIOUS_LACE p ||
  s.flag Reg.MAC_CAUTIOUS_RETURN p

/-- Logical port p is under cautious forwarding; HP and AP ports have the port-return cause alone. -/
def State.portCautious (s : State) (p : Nat) : Bool :=
  s.devCautious || (if p < 32 then s.portCause p else s.get Reg.SOL_PORT_STATE_STATE 0 p == 3)

/-- Set or clear a device-wide cause; entries of the device and of each Ethernet port are counted (R37). -/
def State.devCause (s : State) (f : Fld) (on : Bool) : State :=
  let was := s.devCautious
  let s := s.put f (b2n on)
  if !was && s.devCautious then
    let s := s.inc Reg.DEV_CAUTIOUS_ENTRIES
    (List.range 32).foldl (fun s p => if s.portCause p then s else s.inc Reg.MAC_CAUTIOUS_ENTRIES 1 p) s
  else s

/-- Set or clear a cause of Ethernet port p. -/
def State.portCauseSet (s : State) (f : Fld) (p : Nat) (on : Bool) : State :=
  let was := s.portCautious p
  let s := s.put f (b2n on) p
  if !was && s.portCautious p then s.inc Reg.MAC_CAUTIOUS_ENTRIES 1 p else s

/-- Pages of the data-path blocks of R34. -/
def dataPathPages : List Nat := allPages.filter (fun p => dataPathType (pageType p))

/-- End the start-up condition when the Last has been applied and every powered data-path domain is ready (R34). -/
def State.checkStartup (s : State) : State :=
  if s.flag Reg.DEV_CAUTIOUS_STARTUP && s.flag Reg.LST_STAT_LOADED &&
     dataPathPages.all (fun p => !s.pagePowered p || s.pageReady p) then s.devCause Reg.DEV_CAUTIOUS_STARTUP false
  else s

/-! ### Fault reports (R321–R327) -/

/-- The class of a code: block codes 0x01–0x7F, and 0xF0, are primary (R321). -/
def faultPrimary (code : Nat) : Bool := let b := code % 256; (decide (1 ≤ b) && decide (b ≤ 0x7F)) || b == 0xF0

/-- The codes that the device defines (R322, and the tables of chapters 14 and 15), with 0xF0 of every block type. -/
def faultCodes : List Nat :=
  [0x0301, 0x0302, 0x0303, 0x0304, 0x0401, 0x0402, 0x0403, 0x0801, 0x0802, 0x0803, 0x0D01, 0x0E01, 0x0E02, 0x1001,
   0x1101, 0x1301, 0x1302, 0x1501, 0x1502, 0x1A01, 0x1A02, 0x1B01, 0x1C01, 0x1D01, 0x1E01, 0x2001] ++
  [0x1780, 0x1A80, 0x1A81, 0x1480, 0x1D80] ++ pageRows.map (fun r => r.type * 256 + 0xF0)

/-- The Ethernet port whose MAC, SDS, T1S or LCE page this is (R34). -/
def portOfPage (page : Nat) : Option Nat :=
  let i := pageInst page
  match pageType page with
  | 0x1A => some i
  | 0x1B => some i
  | 0x1C => some (24 + i)
  | 0x19 => some i
  | _ => none

/-- Put a primary into the first-fault record, or count it lost (R324, R325). -/
def State.recordFault (s : State) (page code : Nat) (storm : Bool) : State :=
  let n := s.get Reg.FLT_STAT_ENTRIES
  if n < 8 then
    let on := bit s.pwr.powered 1
    let t := if on then s.dom 0 else 0
    let s := s.put Reg.FLT_FIRST_W0_CODE code 0 n
    let s := s.put Reg.FLT_FIRST_W0_PAGE page 0 n
    let s := s.put Reg.FLT_FIRST_W0_STORM (b2n storm) 0 n
    let s := s.put Reg.FLT_FIRST_W0_NO_TIME (b2n (!on)) 0 n
    let s := s.put Reg.FLT_FIRST_W0_VALID 1 0 n
    let s := s.put Reg.FLT_FIRST_NS_NS (t % 1000000000) 0 n
    let s := s.put Reg.FLT_FIRST_SEC_SEC (t / 1000000000) 0 n
    let s := s.put Reg.FLT_STAT_ENTRIES (n + 1)
    let s := { s with flt := { s.flt with lastRec := some s.now } }
    if storm then s else s.raise Reg.FLT_IRQ_PRIMARY
  else s.inc Reg.FLT_STAT_LOST

/-- STORM_ENTER (R326): the 65th report within 10 µs. -/
def State.stormEnter (s : State) : State :=
  let s := s.put Reg.FLT_STAT_STORM 1
  let s := s.inc Reg.FLT_STORMS_COUNT
  let s := s.raise Reg.FLT_IRQ_STORM
  let take := match s.flt.lastRec with
    | some t => decide (t + 10000 < s.now)
    | none => true
  { s with flt := { s.flt with stormTake := take, period := 0 } }

/-- A fault report reaches the concentrator (R321–R327), with the cautious forwarding of R34 and R323. -/
def State.fault (s : State) (page code : Nat) : State :=
  let now := s.now
  let c := AMap.get cellDflt s.flt.codes code
  let recent := (s.flt.recent.filter (fun t => decide (now < t + 10000))) ++ [now]
  let s := { s with flt := { s.flt with codes := AMap.set cellDflt s.flt.codes code (min 65535 (c + 1)), recent := recent } }
  let was := s.flag Reg.FLT_STAT_STORM
  let s := if !was && decide (64 < recent.length) then s.stormEnter else s
  let storm := s.flag Reg.FLT_STAT_STORM
  let s := if storm then s.inc Reg.FLT_STORM_REPORTS_COUNT else s
  let s := if was then { s with flt := { s.flt with period := s.flt.period + 1 } } else s
  if !faultPrimary code then s else
  let s :=
    if !storm then s.recordFault page code false
    else if s.flt.stormTake then
      let s := s.recordFault page code true
      { s with flt := { s.flt with stormTake := false } }
    else if 8 ≤ s.get Reg.FLT_STAT_ENTRIES then s.inc Reg.FLT_STAT_LOST
    else s
  let s := { s with flt := { s.flt with lastPrimary := AMap.ins s.flt.lastPrimary page now } }
  if dataPathType (pageType page) then s.devCause Reg.DEV_CAUTIOUS_FAULT true
  else match portOfPage page with
    | some p => s.portCauseSet Reg.MAC_CAUTIOUS_FAULT p true
    | none => s

/-- Set a bit of FLT_NMI_STAT (R328). -/
def State.nmi (s : State) (b : Nat) : State :=
  s.put Reg.FLT_NMI_STAT_CAUSE (setBit (s.get Reg.FLT_NMI_STAT_CAUSE) b true)

/-! ### Persistence (R15) -/

/-- The page of a register cell. -/
def cellPage (key : Nat) : Nat := key / 4 / 128 / 4096

/-- Clear the V cells of the pages that satisfy p. -/
def State.clearV (s : State) (p : Nat → Bool) : State :=
  { s with regs := { s.regs with v := s.regs.v.filter (fun c => !p (cellPage c.1)) } }

end Sys2Proof.Machine
end

