-- ==== Sys2Proof/Machine/Last.lean ====
section
/-! DEFINITION. Last memory (R43–R55): pages and their mapping, spare pages, the sections of the applied image, and
reading an entry under an epoch (R62). -/
namespace Sys2Proof.Machine

/-- What an unlisted byte of Last memory reads. -/
def zeroByte (_ : Nat) : Byte := 0

/-- The identity mapping, which an unlisted logical page has (R43). -/
def samePage (l : Nat) : Nat := l

/-- Logical pages of the directory and of the image (R43, R44). -/
def logicalPages : Nat := 57344
def physicalPages : Nat := 65536

/-- Change the Last memory component. -/
def State.lstSet (s : State) (f : Lst → Lst) : State := { s with lst := f s.lst }

/-- A byte of Last memory by physical address; the bytes of a host reload that the host has not written are not
defined (R50). -/
def Lst.byte (l : Lst) (a : Nat) : Byte :=
  match l.undef with
  | some d => if AMap.get (fun _ => false) l.written a then AMap.get zeroByte l.mem a else Config.freeByte d a
  | none => AMap.get zeroByte l.mem a

/-- Write a byte of Last memory. -/
def Lst.setByte (l : Lst) (a : Nat) (b : Byte) : Lst :=
  let l := { l with mem := AMap.set zeroByte l.mem a b }
  match l.undef with
  | some _ => { l with written := AMap.set (fun _ => false) l.written a true }
  | none => l

/-- Write bytes at ascending physical addresses. -/
def Lst.setBytes (l : Lst) (a : Nat) (bs : List Byte) : Lst :=
  match bs with
  | [] => l
  | b :: r => Lst.setBytes (l.setByte a b) (a + 1) r

/-- The physical page of a logical page for the current epoch. -/
def Lst.phys (l : Lst) (p : Nat) : Nat := AMap.get samePage l.ind p

/-- The physical page of a logical page as the previous epoch sees it (R43). -/
def Lst.physPrev (l : Lst) (p : Nat) : Nat := (AMap.find l.held p).getD (l.phys p)

/-- The 256 bytes of a physical page. -/
def Lst.page (l : Lst) (p : Nat) : List Byte := (List.range 256).map (fun k => l.byte (p * 256 + k))

/-- Free spare pages (LST_SPARE.FREE). -/
def Lst.free (l : Lst) : Nat := l.freed.length + (physicalPages - l.fresh)

/-- Take a free spare page. -/
def Lst.alloc (l : Lst) : Option (Nat × Lst) :=
  match l.freed with
  | p :: r => some (p, { l with freed := r })
  | [] => if l.fresh < physicalPages then some (l.fresh, { l with fresh := l.fresh + 1 }) else none

/-- Give the staged pages back (R58). -/
def Lst.dropSet (l : Lst) : Lst :=
  { l with freed := l.freed ++ l.staged.map (fun c => c.2), staged := [], list := [] }

/-- Give the held pages back (R56 step 7). -/
def Lst.dropHeld (l : Lst) : Lst := { l with freed := l.freed ++ l.held.map (fun c => c.2), held := [] }

/-- The identity mapping, with all 8,192 spare pages free (R43, R69). -/
def Lst.identity (l : Lst) : Lst := { l with ind := [], freed := [], fresh := logicalPages, staged := [], held := [], list := [] }

/-! ### The image checks of R47 -/

/-- Pages that a section type must have (R48): the number, and whether it is only a minimum. -/
def sectionPages (type : Nat) (live : Bool) : Option (Nat × Bool) :=
  match type with
  | 0x01 => some (1, true)
  | 0x02 => some (16385, false)
  | 0x03 => some (2049, true)
  | 0x04 => some (8192, false)
  | 0x05 => some (2048, false)
  | 0x06 => some (628, false)
  | 0x07 => some (1032, false)
  | 0x08 => some (if live then 11 else 5, false)
  | 0x09 => some (5638, true)
  | 0x0A => some (520, false)
  | 0x0B => some (261, false)
  | 0x0C => some (41, false)
  | 0x0D => some (17, false)
  | 0x0E => some (1, false)
  | 0x0F => some (1, false)
  | 0x10 => some (515, false)
  | 0x11 => some (1, true)
  | _ => none

/-- Section types that only a reload may change, besides the port modes (R48). -/
def reloadOnly (type : Nat) : Bool := type == 0x01 || type == 0x11

/-- An image, read by address. -/
abbrev Image := Nat → Byte

/-- n bytes of an image. -/
def imgBytes (img : Image) (a n : Nat) : List Byte := (List.range n).map (fun k => img (a + k))

/-- A little-endian field of an image (R44). -/
def imgLE (img : Image) (a n : Nat) : Nat := leNat (imgBytes img a n)

/-- Section-table entry k (R46). -/
def imgSection (img : Image) (k : Nat) : Section :=
  let a := 64 + 32 * k
  let fl := imgLE img (a + 2) 2
  ⟨imgLE img a 2, bit fl 1, bit fl 0, imgLE img (a + 4) 2, imgLE img (a + 6) 2, imgLE img (a + 8) 4⟩

/-- The sections of an image. -/
def imgSections (img : Image) : List Section := (List.range (imgLE img 12 2)).map (imgSection img)

/-- Two sections share no page. -/
def Section.apart (a b : Section) : Bool := decide (a.first + a.pages ≤ b.first) || decide (b.first + b.pages ≤ a.first)

/-- The checks of R47 on one section: type, pages, live flag, place. -/
def Section.ok (x : Section) (length : Nat) : Bool :=
  (match sectionPages x.type x.live with
   | some (n, least) => if least then decide (n ≤ x.pages) else x.pages == n
   | none => false) &&
  !(reloadOnly x.type && x.live) && decide (4 ≤ x.first) && decide ((x.first + x.pages) * 256 ≤ length)

/-- No type twice, but PORT_CFG once with each LIVE flag; no two sections overlap (R47). -/
def sectionsApart : List Section → Bool
  | [] => true
  | x :: r => r.all (fun y => (y.type != x.type || (x.type == 8 && y.live != x.live)) && x.apart y) && sectionsApart r

/-- The checks of R47, with those limits of R44 and R45 on LENGTH and SECTIONS that the sections rest on. -/
def imageOk (img : Image) : Bool :=
  let length := imgLE img 8 4
  let n := imgLE img 12 2
  imgBytes img 0 4 == [0x4C, 0x41, 0x53, 0x54] && imgLE img 4 2 == 1 && imgLE img 6 2 == 0 && imgLE img 14 2 == 0x6425 &&
  imgLE img 60 4 == crc32cStd (imgBytes img 0 60) &&
  length % 256 == 0 && decide (length ≤ 14680064) && decide (1 ≤ n) && decide (n ≤ 30) &&
  sectionsApart (imgSections img) &&
  (List.range n).all (fun k =>
    let x := imgSection img k
    x.ok length && imgLE img (64 + 32 * k + 12) 4 == 1 &&
    imgLE img (64 + 32 * k + 16) 4 == crc32cStd (imgBytes img (x.first * 256) (x.pages * 256)))

/-! ### Reading the applied Last -/

/-- The section of a type, if a Last is applied and holds one (R435); during a boot, only the priority sections are applied
between steps 4 and 6 of R386. -/
def State.section_ (s : State) (type : Nat) (live : Bool := true) : Option Section :=
  let loaded := s.flag Reg.LST_STAT_LOADED
  if loaded || s.lst.prio then
    s.lst.secs.find? (fun x => x.type == type && (type != 8 || x.live == live) && (loaded || x.prio))
  else none

/-- The frame's epoch is the previous one, still live (R61). -/
def State.prevEpoch (s : State) (epoch : Nat) : Bool :=
  s.flag Reg.LST_STAT_DRAINING && epoch == s.get Reg.LST_EPOCH_PREV && epoch != s.get Reg.LST_EPOCH_CUR

/-- A byte of a section under an epoch: epoch-bound sections keep their old pages for the previous epoch (R62). -/
def State.secByte (s : State) (x : Section) (prev : Bool) (off : Nat) : Byte :=
  let p := x.first + off / 256
  s.lst.byte ((if prev then s.lst.physPrev p else s.lst.phys p) * 256 + off % 256)

/-- n bytes of a section type at a byte offset within the section, as the current epoch sees them. -/
def State.secBytes (s : State) (type off n : Nat) (live : Bool := true) (prev : Bool := false) : Option (List Byte) :=
  (s.section_ type live).map (fun x => (List.range n).map (fun k => s.secByte x prev (off + k)))

/-- A little-endian field of a section; 0 where no Last is applied or the section is absent. -/
def State.secLE (s : State) (type off n : Nat) (live : Bool := true) (prev : Bool := false) : Nat :=
  ((s.secBytes type off n live prev).map leNat).getD 0

/-- A section type is present in the applied Last. -/
def State.hasSec (s : State) (type : Nat) (live : Bool := true) : Bool := (s.section_ type live).isSome

/-- A field of a section, or its Reset value where no Last is applied or the section is absent (R16, R435). -/
def State.secOr (s : State) (dflt type off n : Nat) (live : Bool := true) : Nat :=
  match s.secBytes type off n live with
  | some bs => leNat bs
  | none => dflt

/-- A logical page may be changed by a live commit (R52, R57 code 6). -/
def State.livePage (s : State) (p : Nat) : Bool :=
  decide (4 ≤ p) && decide (p * 256 < s.lst.length) &&
  s.lst.secs.any (fun x => x.live && decide (x.first ≤ p) && decide (p < x.first + x.pages))

/-- The logical page at a page offset of a section type is staged in the set (used at the flip). -/
def Lst.stagedIn (l : Lst) (x : Section) (page : Nat) : Bool := (AMap.find l.staged (x.first + page)).isSome

end Sys2Proof.Machine
end

