-- ==== Sys2Proof/Machine/Fields.lean ====
section
/-! DEFINITION. The values that the applied Last gives: port modes, forwarding policy, meters, schedules, mirror
sessions and flow actions, each read from the section bytes with the corrections the spec states, and with the Reset
value of its L register where no Last or no section holds it (R16, R435). -/
namespace Sys2Proof.Machine

/-! ### Port modes (R211–R216) -/

/-- Byte offset of port p's port-mode entry (R215). -/
def pmOff (p : Nat) : Nat := p / 8 * 256 + p % 8 * 32

/-- Bytes of the port-mode section as applied: those that a reload has set apart, until the new Last is applied (R69). -/
def State.modeBytes (s : State) (off n : Nat) : Option (List Byte) :=
  match s.lst.apart with
  | some a => a.1.map (fun b => sub b off n)
  | none => s.secBytes 8 off n false

/-- Port modes are applied. -/
def State.hasModes (s : State) : Bool := (s.modeBytes 0 0).isSome

/-- A field of the port-mode entry, or d where there is none. -/
def State.pm (s : State) (d p off n lo w : Nat) : Nat :=
  match s.modeBytes (pmOff p + off) n with
  | some bs => bits (leNat bs) lo w
  | none => d

/-- The time-base and CAN PLLs have a reference: XTAL is GOOD or its loads run on HRC.  Until then the time base, Lace, CAN,
LIN, the T1S PHYs and MACs 24–31 do not run (R336, R338 step 5, R341). -/
def State.pllRuns (s : State) : Bool := s.get Reg.CGU_STAT_XTAL == 2 || s.flag Reg.CGU_STAT_LOADS

/-- The port families of chapter 9: BP 0–7, MP 8–23, TP 24–31. -/
def isBP (p : Nat) : Bool := decide (p < 8)
def isMP (p : Nat) : Bool := decide (8 ≤ p) && decide (p < 24)
def isTP (p : Nat) : Bool := decide (24 ≤ p) && decide (p < 32)

/-- The modes that a port's family accepts (R211). -/
def modeAccepted (p mode : Nat) : Bool :=
  if isBP p then mode == 1 || mode == 2 || mode == 3 || mode == 5
  else if isMP p then mode == 2 || mode == 3 || mode == 4 || mode == 5 || mode == 6
  else isTP p && mode == 7

/-- The mode as applied: a value that the family does not accept leaves the port disabled (R211). -/
def State.portMode (s : State) (p : Nat) : Nat :=
  let m := s.pm 0 p 0 1 0 4
  if modeAccepted p m then m else 0

/-- The FEC as applied: only 25GBASE-R has one; 3 acts as 0 (R211, R215). -/
def State.portFec (s : State) (p : Nat) : Nat :=
  let f := s.pm 0 p 0 1 4 2
  if s.portMode p = 1 && f != 3 then f else 0

/-- A port-mode value that R211 refuses with CFG_ERR: a mode that is not disabled and not accepted, or a FEC on
another mode than 25GBASE-R; FEC code 3 acts as 0 (R215). -/
def State.portCfgErr (s : State) (p : Nat) : Bool :=
  let m := s.pm 0 p 0 1 0 4
  let fec := s.pm 0 p 0 1 4 2
  (m != 0 && !modeAccepted p m) || (fec != 0 && fec != 3 && m != 1)

/-- MAC_MAX_FRAME (R216). -/
def State.maxFrame (s : State) (p : Nat) : Nat :=
  if isTP p then 1522
  else if s.hasModes then clampNat 1518 9216 (s.pm 1522 p 2 2 0 14) else 1522

/-- CLR_DEPTH.BYTES (R83, R216). -/
def State.depthBytes (s : State) (p : Nat) : Nat :=
  if s.hasModes then clampNat 16 256 (ceilDiv (s.pm 96 p 4 2 0 9) 16 * 16) else 96

/-- CLR_DEPTH.HDRS (R83, R216). -/
def State.depthHdrs (s : State) (p : Nat) : Nat :=
  if s.hasModes then clampNat 1 16 (s.pm 16 p 6 1 0 5) else 16

/-- The bytes of PARSE_GRAPH, if a Last is applied that holds it. -/
def State.graphBytes (s : State) : Option (List Byte) :=
  (s.section_ 1).map (fun x => (List.range (x.pages * 256)).map (fun k => s.secByte x false k))

/-- CLR_DEPTH.DFLT_DROP, from the parse graph (R102). -/
def State.dfltDrop (s : State) (p : Nat) : Nat :=
  match s.graphBytes with
  | some g => Config.dfltDrop g p % 32
  | none => 31

/-- Pause settings: ignored on TP ports (R216). -/
def State.rxPause (s : State) (p : Nat) : Bool := !isTP p && s.pm 0 p 1 1 0 1 == 1
def State.txPause (s : State) (p : Nat) : Bool := !isTP p && s.pm 0 p 1 1 1 1 == 1
def State.pfc (s : State) (p : Nat) : Bool := !isTP p && s.pm 0 p 1 1 2 1 == 1

/-- The external PHY of port p: its MDIO bus and address, and whether it is managed (R215). -/
def State.mdioBus (s : State) (p : Nat) : Nat := s.pm 0 p 17 1 0 2
def State.phyAddr (s : State) (p : Nat) : Nat := s.pm 0 p 17 1 2 5
def State.phyPresent (s : State) (p : Nat) : Bool := s.pm 0 p 17 1 7 1 == 1

/-- MAC_ADDR, in wire order (R215). -/
def State.macAddr (s : State) (p : Nat) : List Byte := (s.modeBytes (pmOff p + 8) 6).getD (List.replicate 6 0)

/-- XOFF: 0 acts as 12; XON at or above XOFF acts as XOFF − 1 (R216). -/
def State.xoff (s : State) (p : Nat) : Nat :=
  let x := s.pm 12 p 14 1 0 4
  if x = 0 then 12 else x
def State.xon (s : State) (p : Nat) : Nat :=
  let x := s.pm 8 p 14 1 4 4
  if s.xoff p ≤ x then s.xoff p - 1 else x

/-- The PLCA values, and whether they lie in the ranges of R230. -/
def State.plcaEn (s : State) (p : Nat) : Bool := s.pm 0 p 18 1 0 1 == 1
def State.plcaOk (s : State) (p : Nat) : Bool :=
  let node := s.pm 0 p 19 1 0 8
  let cnt := s.pm 8 p 20 1 0 8
  decide (node ≤ 31) && (node != 0 || (decide (1 ≤ cnt) && decide (cnt ≤ 32))) && decide (1 ≤ s.pm 32 p 21 1 0 8) &&
  (s.pm 0 p 22 1 0 8 == 0 || decide (1 ≤ s.pm 128 p 24 2 0 16))

/-- Line rate in Mbit/s of a MAC_LINK.RATE code. -/
def rateMbps (code : Nat) : Nat :=
  match code with
  | 1 => 25000
  | 2 => 10000
  | 3 => 5000
  | 4 => 2500
  | 5 => 1000
  | 6 => 100
  | 7 => 10
  | _ => 0

/-- The current line rate of a port in Mbit/s; HP and AP ports have none (R23). -/
def State.portRate (s : State) (p : Nat) : Nat := if p < 32 then rateMbps (s.get Reg.MAC_LINK_RATE p) else 0

/-- Receive FIFO size in bytes (R220). -/
def fifoSize (p : Nat) : Nat := if isBP p then 32768 else if isMP p then 16384 else 4096

/-- The fixed latencies of R213, (TX, RX) in ns. -/
def modeLatency (mode fec rate : Nat) : Nat × Nat :=
  match mode, fec, rate with
  | 1, 1, _ => (70, 150)
  | 1, 2, _ => (96, 298)
  | 1, _, _ => (56, 62)
  | 2, _, _ => (60, 66)
  | 3, _, 2 => (60, 66)
  | 3, _, 3 => (118, 130)
  | 3, _, _ => (230, 254)
  | 4, _, _ => (112, 124)
  | 5, _, _ => (160, 210)
  | 6, _, 5 => (250, 330)
  | 6, _, _ => (2500, 3300)
  | 7, _, _ => (1400, 2600)
  | _, _, _ => (0, 0)

/-! ### Forwarding policy (R152, R153) -/

/-- Byte offset of service 8p + s of the policy. -/
def svcOff (i : Nat) : Nat := (1 + i / 32) * 256 + i % 32 * 8

/-- CLR_PUNT_RATE and CLR_PUNT_BURST. -/
def State.puntRate (s : State) : Nat := if s.hasSec 8 then clampNat 1 1000000 (s.secLE 8 0 4) else 20000
def State.puntBurst (s : State) : Nat := if s.hasSec 8 then clampNat 1 4096 (s.secLE 8 4 2) else 64
/-- CLR_CHECK.PAD_ANY. -/
def State.padAny (s : State) : Bool := s.secLE 8 6 1 % 2 == 1

/-- The policy fields of service i = 8p + s. -/
def State.svcMin (s : State) (i : Nat) : Nat := s.secLE 8 (svcOff i) 2
def State.svcAlpha (s : State) (i : Nat) : Nat :=
  match s.secBytes 8 (svcOff i + 2) 1 with
  | some bs => leNat bs % 16
  | none => 6
def State.svcYel (s : State) (i : Nat) : Nat :=
  match s.secBytes 8 (svcOff i + 2) 1 with
  | some bs => leNat bs / 16 % 4
  | none => 1
def State.svcCt (s : State) (i : Nat) : Bool := decide (i < 256) && bit (s.secLE 8 (svcOff i + 2) 1) 6
def State.svcAge (s : State) (i : Nat) : Nat :=
  if s.hasSec 8 then clampNat 1 1000000 (s.secLE 8 (svcOff i + 4) 4 % 2 ^ 20) else 8000

/-! ### Flow actions (R73) -/

/-- A FLOW_ACTIONS entry. -/
structure Action where
  mask : Nat
  disp : Nat
  redPunt : Bool
  count : Bool
  mirror : Nat
  puntCode : Nat
  qsel : Nat
  vlanOp : Nat
  setPcp : Bool
  setDei : Bool
  tpid : Nat
  vid : Nat
  pcp : Nat
  dei : Bool
  meter : Option Nat
  route : Option Nat
  crypto : Option Nat
deriving DecidableEq, Repr

/-- Decode the 32 bytes of an entry. -/
def actionOf (b : List Byte) : Action :=
  let f := fun o n => leNat (sub b o n)
  let m := f 12 2
  let r := f 16 2
  let c := f 18 2
  { mask := f 0 5 % 2 ^ 37, disp := f 5 1 % 4, redPunt := bit (f 5 1) 2, count := bit (f 5 1) 3,
    mirror := (let x := bits (f 5 1) 4 3; if x ≤ 4 then x else 0), puntCode := f 6 1, qsel := f 8 1,
    vlanOp := f 9 1 % 4, setPcp := bit (f 9 1) 2, setDei := bit (f 9 1) 3,
    tpid := (if bits (f 9 1) 4 2 = 1 then 0x88A8 else 0x8100), vid := f 10 2 % 4096, pcp := bits (f 10 2) 12 3,
    dei := bit (f 10 2) 15, meter := (if bit m 15 then some (m % 16384) else none),
    route := (if bit r 15 then some (r % 16384) else none), crypto := (if bit c 15 then some (c % 4096) else none) }

/-- The action entry of a handle under an epoch; an absent section's entries are zero (R435). -/
def State.action (s : State) (epoch h : Nat) : Action :=
  actionOf ((s.secBytes 4 (h / 8 * 256 + h % 8 * 32) 32 true (s.prevEpoch epoch)).getD (List.replicate 32 0))

/-! ### Meters (R111) -/

/-- A METERS entry. -/
structure MeterCfg where
  cir : Nat
  cbs : Nat
  pir : Nat
  pbs : Nat
  alg : Bool
  aware : Bool
  frames : Bool
  markDei : Bool
deriving DecidableEq, Repr

/-- The settings of meter m under the previous (true) or current epoch. -/
def State.meterCfg (s : State) (prev : Bool) (m : Nat) : MeterCfg :=
  let o := m / 8 * 256 + m % 8 * 32
  let f := fun k n => s.secLE 5 (o + k) n true prev
  let fl := f 16 1
  ⟨f 0 4, f 4 4, f 8 4, f 12 4, bit fl 0, bit fl 1, bit fl 2, bit fl 3⟩

/-! ### Mirror sessions (R119) -/

/-- A mirror session. -/
structure Session where
  ing : Nat
  egr : Nat
  dest : Nat
  qsel : Nat
  enable : Bool
  trunc : Bool
  plainOk : Bool
deriving DecidableEq, Repr

/-- Session n (1–4) under an epoch; a destination above 32 makes no copies. -/
def State.session (s : State) (epoch n : Nat) : Session :=
  let f := fun k w => s.secLE 0xF ((n - 1) * 48 + k) w true (s.prevEpoch epoch)
  let fl := f 18 1
  ⟨f 0 5 % 2 ^ 37, f 8 5 % 2 ^ 37, f 16 1, f 17 1, bit fl 0 && decide (f 16 1 ≤ 32), bit fl 1, bit fl 2⟩

/-- MARGIN of R119 under an epoch: 0–131,072, above which an image's value acts as 131,072 (the model's choice, assumption log
96). -/
def State.mirrorMargin (s : State) (epoch : Nat) : Nat :=
  if s.hasSec 0xF then min 131072 (s.secLE 0xF 192 4 true (s.prevEpoch epoch)) else 8192

/-! ### SCHED (R183) -/

/-- Queue of a port's queue-map selector, under an epoch. -/
def State.qmap (s : State) (epoch p k : Nat) : Nat :=
  s.secLE 6 ((2 * p + k / 128) * 256 + k % 128 * 2) 2 true (s.prevEpoch epoch) % 8192

/-- Service entry fields: MODE and PS_EXEMPT, IDLE, HICREDIT, LOCREDIT. -/
def svcEntry (p v : Nat) : Nat := (74 + p) * 256 + 32 * v
def State.svcCB (s : State) (p v : Nat) : Bool := bit (s.secLE 6 (svcEntry p v) 1) 0
def State.svcExempt (s : State) (p v : Nat) : Bool := bit (s.secLE 6 (svcEntry p v) 1) 1
def State.svcIdle (s : State) (p v : Nat) : Nat := s.secLE 6 (svcEntry p v + 4) 4
def State.svcHi (s : State) (p v : Nat) : Int := toSigned 32 (s.secLE 6 (svcEntry p v + 8) 4)
def State.svcLo (s : State) (p v : Nat) : Int := toSigned 32 (s.secLE 6 (svcEntry p v + 12) 4)

/-- Port entry fields. -/
def portEntry (p : Nat) : Nat := (111 + p / 8) * 256 + p % 8 * 32
def State.portShape (s : State) (p : Nat) : Nat := s.secLE 6 (portEntry p) 4
def State.portBurst (s : State) (p : Nat) : Nat := s.secLE 6 (portEntry p + 4) 4
def State.dfltQ (s : State) (p : Nat) : Nat := s.secLE 6 (portEntry p + 8) 2 % 8192
def State.puntQ (s : State) (p : Nat) : Nat := if p = 32 then s.secLE 6 (portEntry 32 + 10) 2 % 8192 else 0

/-- A subscriber entry: place 8p + s where VALID, INC, and the two rates and bursts. -/
structure SubCfg where
  place : Option Nat
  inc : Nat
  cir : Nat
  cbs : Nat
  pir : Nat
  pbs : Nat
deriving DecidableEq, Repr

/-- The increment that 0 stands for (R183). -/
def incOf (x : Nat) : Nat := if x % 2 ^ 25 = 0 then 16777216 else x % 2 ^ 25

/-- Subscriber u as the Last configures it; PORT 37 to 63 names no port (assumption log 87). -/
def State.subCfg (s : State) (u : Nat) : SubCfg :=
  let o := (116 + u / 8) * 256 + u % 8 * 32
  let f := fun k n => s.secLE 6 (o + k) n
  let v := f 1 1
  ⟨if bit v 7 && decide (f 0 1 % 64 < 37) then some (f 0 1 % 64 * 8 + v % 8) else none, incOf (f 4 4), f 8 4, f 12 4, f 16 4,
    f 20 4⟩

/-- Queue q as the Last configures it: subscriber where VALID, and QINC. -/
def State.queueCfg (s : State) (q : Nat) : Option Nat × Nat :=
  let o := (372 + q / 32) * 256 + q % 32 * 8
  let v := s.secLE 6 o 2
  (if bit v 15 then some (v % 2048) else none, incOf (s.secLE 6 (o + 4) 4))

/-- MODE and EXEMPT masks of SCH_SVC_CFG. -/
def State.svcModeMask (s : State) (p : Nat) : Nat := (List.range 8).foldl (fun a v => a + b2n (s.svcCB p v) * 2 ^ v) 0
def State.svcExemptMask (s : State) (p : Nat) : Nat := (List.range 8).foldl (fun a v => a + b2n (s.svcExempt p v) * 2 ^ v) 0

/-! ### PTP domains (R188) -/

/-- The bytes of PTP_CFG as applied. -/
def State.ptpBytes (s : State) : Option (List Byte) :=
  match s.lst.apart with
  | some a => a.2
  | none => (s.section_ 0x11).map (fun x => (List.range (x.pages * 256)).map (fun k => s.secByte x false k))

/-- A PTP_CFG field of a domain, or its Reset value. -/
def State.ptp (s : State) (d field dflt : Nat) : Nat :=
  match s.ptpBytes with
  | some b => Config.ptpField b d field
  | none => dflt

/-- The domain is enabled (TIM_DOM_CFG.EN). -/
def State.domEn (s : State) (d : Nat) : Bool := s.ptp d 0 0 % 2 == 1

/-- The latency correction of PTP_CFG for port p in a domain, in ns, ingress or egress (R188, R189). -/
def State.ptpCorrection (s : State) (d p : Nat) (tx : Bool) : Int :=
  toSigned 32 (s.ptp d (if tx then 64 + p else 32 + p) 0 % 2 ^ 32)

/-- LOCK_THR in ns, HOLDOVER in ms, STEP_THR in µs. -/
def State.lockThr (s : State) (d : Nat) : Nat := s.ptp d 2 100 % 65536

end Sys2Proof.Machine
end

