-- ==== Sys2Proof/Machine/Gates.lean ====
section
/-! DEFINITION. Gate control lists (R191–R203): reading a list from the LACE section, its checks, the open spans of a
gate, and what they let start. -/
namespace Sys2Proof.Machine

/-- The list of a port without a gate schedule (LEN = 0). -/
def noList : GateList := ⟨0, 0, 0, 0, 0, false, false, false, false, 0, 0, 0, 0, []⟩

/-- The Lace of a port at reset. -/
def idleLace : Lace := ⟨noList, none, 0, 0, 0, false, false, 0, false⟩

/-- The Lace of port p. -/
def State.lce (s : State) (p : Nat) : Lace := AMap.get (fun _ => idleLace) s.lace p

/-- Replace the Lace of port p. -/
def State.lceSet (s : State) (p : Nat) (l : Lace) : State := { s with lace := AMap.ins s.lace p l }

/-- Port p's list in the committed LACE section (R191–R193). -/
def State.lastList (s : State) (p : Nat) : GateList :=
  let h := p / 4 * 256 + p % 4 * 64
  let f := fun o n => s.secLE 7 (h + o) n
  let fl := f 22 1
  let len := f 20 2 % 2048
  let entry := fun i =>
    let o := (8 + 32 * p + i / 32) * 256 + i % 32 * 8
    (s.secLE 7 o 4, s.secLE 7 (o + 4) 1, s.secLE 7 (o + 5) 1 % 4)
  { base := f 0 6 * 1000000000 + f 8 4 % 2 ^ 30, cycle := f 12 4, ext := f 16 4, len := len, domain := fl % 2,
    syncEn := bit fl 1, guard := bit fl 2, preempt := bit fl 3 && !isTP p, verifyDis := bit fl 4, express := f 23 1,
    addFrag := f 24 1 % 4, holdAdv := f 28 4, relAdv := f 32 4, entries := (List.range (min len 1024)).map entry }

/-- BASE_NS of port p's list in the committed section, for its range check. -/
def State.lastBaseNs (s : State) (p : Nat) : Nat := s.secLE 7 (p / 4 * 256 + p % 4 * 64 + 8) 4 % 2 ^ 30

/-- The checks of R197: the first code that applies, 0 for none.  A list with LEN = 0 is never refused. -/
def State.listCheck (s : State) (l : GateList) (baseNs : Nat) : Nat :=
  if l.len = 0 then 0
  else if l.cycle < 1000 || 1000000000 < l.cycle then 1
  else if 1024 < l.len then 2
  else if l.entries.any (fun e => e.1 == 0 || e.2.2 == 3) then 3
  else if l.cycle < l.ext then 4
  else if 999999999 < baseNs then 5
  else if !s.domEn l.domain then 6
  else 0

/-- One cycle of a list as (duration, gates), lasting exactly CYCLE (R194). -/
def cycleSegs (l : GateList) : List (Nat × Nat) :=
  let go := l.entries.foldl (fun (acc : Nat × List (Nat × Nat)) e =>
    let d := min e.1 (l.cycle - acc.1)
    if d = 0 then acc else (acc.1 + d, acc.2 ++ [(d, e.2.1)])) (0, [])
  if go.1 < l.cycle then
    match go.2.reverse with
    | (d, g) :: r => ((d + (l.cycle - go.1), g) :: r).reverse
    | [] => []
  else go.2

/-- How long from the head of the segments gate v stays open; `none` while every segment leaves it open. -/
def openRun (segs : List (Nat × Nat)) (v : Nat) : Option Nat :=
  match segs with
  | [] => none
  | (d, g) :: r => if bit g v then (openRun r v).map (· + d) else some 0

/-- Drop n ns from the head of the segments. -/
def dropNs (segs : List (Nat × Nat)) (n : Nat) : List (Nat × Nat) :=
  match segs with
  | [] => []
  | (d, g) :: r => if n < d then (d - n, g) :: r else dropNs r (n - d)

/-- Keep n ns from the head of the segments. -/
def takeNs (segs : List (Nat × Nat)) (n : Nat) : List (Nat × Nat) :=
  match segs with
  | [] => []
  | (d, g) :: r => if n ≤ d then (if n = 0 then [] else [(n, g)]) else (d, g) :: takeNs r (n - d)

/-- The Lace of port p runs a list (LCE_STAT.STATE = RUNNING). -/
def State.laceRuns (s : State) (p : Nat) : Bool := decide (p < 32) && s.get Reg.LCE_STAT_STATE p == 2

/-- The gate of service v of port p is open (R35: all open while not running; HP and AP have no Lace). -/
def State.gateOpen (s : State) (p v : Nat) : Bool := !s.laceRuns p || bit (s.get Reg.LCE_STAT_GATES p) v

/-- Service v of port p is express in the operative list (R150). -/
def State.express (s : State) (p v : Nat) : Bool := decide (p < 32) && bit (s.get Reg.LCE_OPER_CFG_EXPRESS p) v

/-- Preemption is active on port p (R202). -/
def State.preempts (s : State) (p : Nat) : Bool := decide (p < 32) && s.flag Reg.LCE_STAT_PREEMPT_ACTIVE p

/-- A copy of a preemptable service on a port where preemption is active (R179). -/
def State.preemptable (s : State) (p v : Nat) : Bool := s.preempts p && !s.express p v

/-- A preemptable copy of service v of port p is preempted at its next allowed boundary: its gate has closed, or a hold
is in effect (R203). -/
def State.gateCuts (s : State) (p v : Nat) : Bool := s.preemptable p v && (!s.gateOpen p v || (s.lce p).hold)

/-- The list follows SYNC_IN (R205). -/
def State.follows (s : State) (l : GateList) : Bool :=
  l.syncEn && l.len != 0 && l.cycle != 0 && l.domain == s.tim.syncDomain && s.tim.syncPeriod % l.cycle == 0 &&
  (s.get Reg.TIM_SYNC_STAT_STATE == 1 || s.get Reg.TIM_SYNC_STAT_STATE == 2)

/-- The largest step of the follower in a period, in whole ns (R205; a 64th of PERIOD that is not whole is rounded down, the model's
choice, assumption log 14). -/
def State.syncStep (s : State) : Int := (min (s.tim.syncPeriod / 64) 4000 : Nat)

/-- How far a shortening may go: each following list's last entry keeps at least 1 ns (R207). -/
def State.syncRoom (s : State) : Int :=
  (List.range 32).foldl (fun (a : Int) p =>
    let l := (s.lce p).oper
    if s.laceRuns p && s.follows l then min a ((((cycleSegs l).getLast?).map (fun x => (x.1 : Int) - 1)).getD 0) else a) s.syncStep

/-- The change of the offset that the next period boundary asks for: toward the accepted edge's target, or else the rest that
the last boundary carried over; toward 0 while RETURNING (R206, R207). -/
def State.syncWant (s : State) : Int :=
  let toward := fun (t : Int) => clampInt (-s.syncStep) s.syncStep (t - s.tim.syncO)
  if s.get Reg.TIM_SYNC_STAT_STATE = 1 then (match s.tim.syncTarget with | some t => toward t | none => s.tim.syncRest)
  else if s.get Reg.TIM_SYNC_STAT_STATE = 2 then toward 0
  else 0

/-- The change of the offset due at the next period boundary, a shortening limited (R207). -/
def State.syncDue (s : State) : Int := max (-s.syncRoom) s.syncWant

/-- Lengthen or shorten the last segment (R207), keeping at least 1 ns. -/
def adjustLast (segs : List (Nat × Nat)) (d : Int) : List (Nat × Nat) :=
  match segs.reverse with
  | [] => []
  | (n, g) :: r => ((max 1 ((n : Int) + d)).toNat, g) :: r |>.reverse

/-- The k-th cycle from the running one ends at a period boundary of SYNC_IN (R205). -/
def State.endsPeriod (s : State) (p k : Nat) : Bool :=
  let l := s.lce p
  s.follows l.oper &&
    ((l.cycleAt : Int) + (k + 1) * l.oper.cycle - l.oper.base - s.tim.syncO) % (s.tim.syncPeriod : Int) == 0

/-- The running cycle of port p and the next two, from their beginning, with the offset change due at the next period
boundary (R207). -/
def State.cycles (s : State) (p : Nat) : List (Nat × Nat) :=
  let segs := cycleSegs (s.lce p).oper
  let adj := adjustLast segs s.syncDue
  if s.endsPeriod p 0 then adj ++ segs ++ segs
  else if s.endsPeriod p 1 then segs ++ adj ++ segs
  else segs ++ segs ++ segs

/-- The gates that every entry of the cycle leaves open. -/
def alwaysOpen (segs : List (Nat × Nat)) : Nat := segs.foldl (fun a g => Nat.land a g.2) 255

/-- The first d ns of the oper segments ahead; a gate that is open through all that `cycles` holds is one that no entry
closes. -/
def fillTo (segs : List (Nat × Nat)) (d : Nat) : List (Nat × Nat) :=
  let held := segs.foldl (fun a g => a + g.1) 0
  takeNs segs d ++ (if held < d then [(d - held, alwaysOpen segs)] else [])

/-- What the oper list of port p does in the d ns to a swap: whole cycles, but for a boundary inside CYCLE_EXT, which
begins none and leaves the gates as they are (R198). -/
def State.beforeSwap (s : State) (p d : Nat) : List (Nat × Nat) :=
  let l := s.lce p
  let segs := cycleSegs l.oper
  let run := s.dom l.oper.domain - l.cycleAt
  let cut := (run + d) % max 1 l.oper.cycle
  let rest := dropNs (s.cycles p) run
  if segs.isEmpty then [(d, 255)]
  else if l.oper.cycle ≤ run + d && 0 < cut && cut < l.oper.ext then
    fillTo rest (d - cut) ++ [(min d cut, ((segs.getLast?).map (fun x => x.2)).getD 255)]
  else fillTo rest d

/-- The segments ahead of port p at this moment: the rest of the cycle and the next ones, or the rest of the oper list
and then the admin list where a swap is pending (R200). -/
def State.ahead (s : State) (p : Nat) : List (Nat × Nat) :=
  let l := s.lce p
  let t := s.dom l.oper.domain
  match l.admin with
  | some a => s.beforeSwap p (l.cct - s.dom a.domain) ++ cycleSegs a ++ cycleSegs a
  | none => dropNs (s.cycles p) (t - l.cycleAt)

/-- Time in ns that n bytes take at the line rate of port p. -/
def State.lineTime (s : State) (p n : Nat) : Nat := ceilDiv (n * 8000) (max 1 (s.portRate p))

/-- The segments ahead of port p, with the whole cycles of its last list that reach a cycle beyond `wait` ns (R200). -/
def State.aheadOf (s : State) (p wait : Nat) : List (Nat × Nat) :=
  let l := s.lce p
  let g := l.admin.getD l.oper
  s.ahead p ++ (List.replicate (wait / max 1 g.cycle + 1) (cycleSegs g)).flatten

/-- From `wait` ns ahead, the gate of service v of port p stays open for the transmission of n bytes with their 20 bytes of
overhead, at the port's line rate (R200). -/
def State.gateFits (s : State) (p v n : Nat) (wait : Nat := 0) : Bool :=
  if !s.laceRuns p then true
  else match openRun (dropNs (s.aheadOf p wait) wait) v with
    | none => true
    | some d => decide ((n + 20) * 8000 ≤ d * s.portRate p)

/-- Some open span of gate v in the oper list, its wrap included, holds n bytes (R201). -/
def State.everFits (s : State) (p v n : Nat) : Bool :=
  let segs := cycleSegs (s.lce p).oper
  let two := segs ++ segs
  segs.all (fun g => bit g.2 v) ||
  (List.range segs.length).any (fun k =>
    match openRun (two.drop k) v with
    | none => true
    | some d => decide ((n + 20) * 8000 ≤ d * s.portRate p))

end Sys2Proof.Machine
end

