-- ==== Sys2Proof/Machine/Cipher.lean ====
section
/-! DEFINITION. The ciphers that Toecap and the update services use (R7, R266): the AES block of FIPS 197, the AES-CMAC of
SP 800-38B, the GCM of SP 800-38D with its 96-bit IVs, and the key unwrap of RFC 3394.  The spec names the standards, and
the functions are theirs (assumption log 4). -/
namespace Sys2Proof.Machine

/-! ### AES (FIPS 197) -/

/-- Multiplication by x in the field of AES. -/
def xtime (a : Byte) : Byte := if a.msb then (a <<< 1) ^^^ 0x1B else a <<< 1

/-- Multiplication in the field of AES. -/
def gfMul (a b : Byte) : Byte :=
  ((List.range 8).foldl (fun (c : Byte × Byte) k => (if b.getLsbD k then c.1 ^^^ c.2 else c.1, xtime c.2)) (0, a)).1

/-- The multiplicative inverse, 0 for 0: the 254th power. -/
def gfInv (a : Byte) : Byte :=
  ((List.range 7).foldl (fun (c : Byte × Byte) _ => let q := gfMul c.2 c.2; (gfMul c.1 q, q)) (1, a)).1

/-- The S-box and its inverse. -/
def sbox (a : Byte) : Byte :=
  let i := gfInv a
  i ^^^ i.rotateLeft 1 ^^^ i.rotateLeft 2 ^^^ i.rotateLeft 3 ^^^ i.rotateLeft 4 ^^^ 0x63
def sboxInv (a : Byte) : Byte := gfInv (a.rotateLeft 1 ^^^ a.rotateLeft 3 ^^^ a.rotateLeft 6 ^^^ 0x05)

/-- Byte k of a list, 0 beyond its end. -/
def byteAt (b : List Byte) (k : Nat) : Byte := b.getD k 0

/-- Exclusive-or of two blocks. -/
def xorBytes (a b : List Byte) : List Byte := List.zipWith (fun x y => x ^^^ y) a b

/-- The key schedule: n more words of four bytes behind those given, of a key of nk words. -/
def aesExpand (nk n : Nat) (rcon : Byte) (w : List (List Byte)) : List (List Byte) :=
  match n with
  | 0 => w
  | n + 1 =>
    let i := w.length
    let t := w.getLastD []
    let t := if i % nk = 0 then
        (match (t.drop 1 ++ t.take 1).map sbox with
          | a :: r => (a ^^^ rcon) :: r
          | [] => [])
      else if 6 < nk && i % nk = 4 then t.map sbox else t
    aesExpand nk n (if i % nk = 0 then xtime rcon else rcon) (w ++ [xorBytes (w.getD (i - nk) []) t])

/-- The rounds of a key. -/
def aesRounds (key : List Byte) : Nat := key.length / 4 + 6

/-- The round keys of a key of 16 or 32 bytes, each of 16. -/
def aesKeys (key : List Byte) : List (List Byte) :=
  let nk := key.length / 4
  let w := aesExpand nk (4 * (aesRounds key + 1) - nk) 1 ((List.range nk).map (fun k => sub key (4 * k) 4))
  (List.range (aesRounds key + 1)).map (fun r => ((w.drop (4 * r)).take 4).flatten)

/-- Shift the rows of a state, held column by column, left or right. -/
def shiftRows (b : List Byte) : List Byte := (List.range 16).map (fun k => byteAt b ((k + 4 * (k % 4)) % 16))
def shiftRowsInv (b : List Byte) : List Byte := (List.range 16).map (fun k => byteAt b ((k + 12 * (k % 4)) % 16))

/-- Mix the columns with the matrix whose first row is given. -/
def mixColumns (row b : List Byte) : List Byte :=
  (List.range 16).map (fun k =>
    (List.range 4).foldl (fun a j => a ^^^ gfMul (byteAt row ((j + 4 - k % 4) % 4)) (byteAt b (k / 4 * 4 + j))) 0)

/-- The AES block encryption of 16 bytes. -/
def aesBlock (key block : List Byte) : List Byte :=
  let ks := aesKeys key
  let n := aesRounds key
  let s := (List.range (n - 1)).foldl (fun s r =>
    xorBytes (mixColumns [2, 3, 1, 1] (shiftRows (s.map sbox))) (ks.getD (r + 1) [])) (xorBytes block (ks.getD 0 []))
  xorBytes (shiftRows (s.map sbox)) (ks.getD n [])

/-- The AES block decryption of 16 bytes. -/
def aesUnblock (key block : List Byte) : List Byte :=
  let ks := aesKeys key
  let n := aesRounds key
  let s := (List.range (n - 1)).foldl (fun s r =>
    mixColumns [14, 11, 13, 9] (xorBytes ((shiftRowsInv s).map sboxInv) (ks.getD (n - 1 - r) []))) (xorBytes block (ks.getD n []))
  xorBytes ((shiftRowsInv s).map sboxInv) (ks.getD 0 [])

/-- n blocks of 16 bytes, the last one as short as the bytes leave it. -/
def blocksOf (n : Nat) (b : List Byte) : List (List Byte) := (List.range n).map (fun k => sub b (16 * k) 16)

/-! ### AES-CMAC (SP 800-38B) -/

/-- Doubling of a block, which gives the subkeys. -/
def cmacDouble (b : List Byte) : List Byte :=
  let v := beNat b
  beBytes 16 (if 2 ^ 127 ≤ v then Nat.xor (2 * v % 2 ^ 128) 0x87 else 2 * v)

/-- The 16-byte AES-CMAC of a message. -/
def aesCmac (key msg : List Byte) : List Byte :=
  let k1 := cmacDouble (aesBlock key (List.replicate 16 0))
  let n := max 1 (ceilDiv msg.length 16)
  let last := msg.drop (16 * (n - 1))
  let m := if last.length = 16 then xorBytes last k1 else xorBytes (padTo 16 (last ++ [0x80])) (cmacDouble k1)
  let c := (blocksOf (n - 1) msg).foldl (fun c b => aesBlock key (xorBytes c b)) (List.replicate 16 0)
  aesBlock key (xorBytes c m)

/-! ### GCM (SP 800-38D) -/

/-- Multiplication of two blocks, as numbers of 128 bits, in the field of GHASH. -/
def ghashMul (x y : Nat) : Nat :=
  ((List.range 128).foldl (fun (c : Nat × Nat) k =>
    (if bit x (127 - k) then Nat.xor c.1 c.2 else c.1,
     if c.2 % 2 = 1 then Nat.xor (c.2 / 2) (0xE1 * 2 ^ 120) else c.2 / 2)) (0, y)).1

/-- GHASH of bytes, padded to whole blocks, going on from a value. -/
def ghash (h start : Nat) (b : List Byte) : Nat :=
  (blocksOf (ceilDiv b.length 16) b).foldl (fun y x => ghashMul (Nat.xor y (beNat (padTo 16 x))) h) start

/-- Counter mode over bytes, from a counter value on. -/
def gcmCtr (key iv : List Byte) (from_ : Nat) (b : List Byte) : List Byte :=
  (List.range (ceilDiv b.length 16)).flatMap (fun k =>
    xorBytes (sub b (16 * k) 16) (aesBlock key (padTo 12 iv ++ beBytes 4 (from_ + k))))

/-- The 16-byte tag over additional data and ciphertext. -/
def gcmTag (key iv aad ct : List Byte) : List Byte :=
  let h := beNat (aesBlock key (List.replicate 16 0))
  let y := ghash h (ghash h 0 aad) ct
  let y := ghashMul (Nat.xor y (8 * aad.length * 2 ^ 64 + 8 * ct.length)) h
  xorBytes (beBytes 16 y) (aesBlock key (padTo 12 iv ++ beBytes 4 1))

/-- GCM protection: ciphertext and 16-byte tag. -/
def gcmSeal (key iv aad pt : List Byte) : List Byte × List Byte :=
  let ct := gcmCtr key iv 2 pt
  (ct, gcmTag key iv aad ct)

/-- GCM decryption without regard to the tag. -/
def gcmPlain (key iv ct : List Byte) : List Byte := gcmCtr key iv 2 ct

/-- A tag, whole or cut, is that of the data. -/
def gcmTagOk (key iv aad ct tag : List Byte) : Bool := (gcmTag key iv aad ct).take tag.length == tag

/-! ### Key wrap (RFC 3394) -/

/-- The default integrity value (R271). -/
def wrapIv : List Byte := List.replicate 8 0xA6

/-- The key unwrap: the key, or none where the integrity check fails. -/
def keyUnwrap (kek wrapped : List Byte) : Option (List Byte) :=
  let n := wrapped.length / 8 - 1
  let start : List Byte × List (List Byte) := (wrapped.take 8, (List.range n).map (fun k => sub wrapped (8 * k + 8) 8))
  let r := (List.range (6 * n)).reverse.foldl (fun c t =>
    let i := t % n
    let b := aesUnblock kek (xorBytes c.1 (beBytes 8 (t + 1)) ++ c.2.getD i [])
    (b.take 8, c.2.set i (b.drop 8))) start
  if r.1 == wrapIv then some r.2.flatten else none

end Sys2Proof.Machine
end

