-- ==== Sys2Proof/Machine/Macsec.lean ====
section
/-! DEFINITION. CRYPTO_MAP bindings (R275–R277), key slots, the PN events (R283, R292), and what MACsec makes of a
frame (R278–R283), over the ciphers of Config. -/
namespace Sys2Proof.Machine

/-- Replace the Toecap component. -/
def State.tcaSet (s : State) (f : Toecap → Toecap) : State := { s with tca := f s.tca }

/-- Key of a slot in the key maps. -/
def slotKey (cls idx : Nat) : Nat := cls * 4096 + idx

/-- The key in a slot. -/
def State.slot (s : State) (cls idx : Nat) : Option KeySlot := AMap.find s.tca.keys (slotKey cls idx)

/-- An SA slot that nothing was loaded into. -/
def noSa : SaState := ⟨0, false, 0, [], 1, false, false, 0, 0⟩

/-- The PN state of an SA slot. -/
def State.sa (s : State) (n : Nat) : SaState := AMap.get (fun _ => noSa) s.tca.sas n
def State.saSet (s : State) (n : Nat) (x : SaState) : State := s.tcaSet (fun t => { t with sas := AMap.ins t.sas n x })

/-- Toecap is READY. -/
def State.tcaReady (s : State) : Bool := s.get Reg.TCA_STAT_STATE == 2

/-- Positions of the port counts of TCA_PORT_SEL. -/
def tcTxProtected : Nat := 0
def tcTxPnExh : Nat := 1
def tcTxNoSa : Nat := 2
def tcRxOk : Nat := 3
def tcRxUntagged : Nat := 4
def tcRxBadTag : Nat := 5
def tcRxNoSa : Nat := 6
def tcRxLate : Nat := 7
def tcTagFail : Nat := 8
def tcReleasedFail : Nat := 9
def tcNotReady : Nat := 10

/-- Add one to a port count, saturating at 32 bits. -/
def State.tcCount (s : State) (port k : Nat) : State :=
  let key := port * 16 + k
  let n := AMap.get cellDflt s.tca.counts key
  s.tcaSet (fun t => { t with counts := AMap.set cellDflt t.counts key (min 4294967295 (n + 1)) })

/-- A length-limit or readiness failure of R288, with its capture. -/
def State.tcErr (s : State) (code bind : Nat) : State :=
  let s := s.inc Reg.TCA_ERRS_COUNT 1 0 (code - 1)
  let s := s.raise Reg.TCA_IRQ_LEN_ERR
  let s := s.inc Reg.PG_ERR_COUNT_COUNT 1 0x170
  s.put Reg.TCA_ERR_CAPT0_WORD (code + bind % 4096 * 65536)

/-- Queue a PN or freshness event (R292). -/
def State.tcEvent (s : State) (idx type : Nat) : State :=
  if s.tca.evt.length < 32 then
    let s := if s.tca.evtArmed then s.raise Reg.TCA_IRQ_EVENT else s
    s.tcaSet (fun t => { t with evt := t.evt ++ [(idx, type)], evtArmed := false })
  else s.inc Reg.TCA_EVT_LOST_COUNT

/-! ### CRYPTO_MAP -/

/-- A binding (R276). -/
structure Binding where
  type : Nat
  port : Nat
  an : Nat
  es : Bool
  sc : Bool
  scb : Bool
  ec : Bool
  confOff : Nat
  sci : List Byte
  sas : List (Option Nat)
  key : Nat
  macBytes : Nat
  tag8 : Bool
  fvLen : Nat
  fresh : Nat
  idIn : Bool
  noFresh : Bool
  dataId : Nat
  fwin : Nat
  nonce : List Byte
deriving DecidableEq, Repr

/-- The bytes of binding b under an epoch. -/
def State.bindBytes (s : State) (prev : Bool) (b : Nat) : List Byte :=
  (s.secBytes 0x10 ((3 + b / 8) * 256 + b % 8 * 32) 32 true prev).getD (List.replicate 32 0)

/-- Decode a binding; TYPE 6 and 7 act as 0. -/
def bindingOf (x : List Byte) : Binding :=
  let f := fun o n => leNat (sub x o n)
  let t := f 0 1 % 8
  let a := f 2 1
  let c := f 8 2
  let sa := fun k => let v := f (12 + 2 * k) 2; if bit v 15 then some (v % 512) else none
  { type := if t < 6 then t else 0, port := f 1 1 % 32, an := a % 4, es := bit a 2, sc := bit a 3, scb := bit a 4,
    ec := bit a 5, confOff := (match a / 64 with
      | 1 => 30
      | 2 => 50
      | _ => 0),
    sci := sub x 4 8, sas := [sa 0, sa 1, sa 2, sa 3], key := f 4 2 % 2048, macBytes := f 6 1 % 32, tag8 := bit (f 6 1) 0,
    fvLen := min 8 (f 7 1 % 16), fresh := c % 2048, idIn := bit c 14, noFresh := bit c 15, dataId := f 10 2,
    fwin := f 12 4, nonce := sub x 16 4 }

/-- The checks of R277: a binding that fails one acts as TYPE 0. -/
def State.bindBad (s : State) (prev : Bool) (b : Nat) : Bool :=
  let x := bindingOf (s.bindBytes prev b)
  match x.type with
  | 1 => decide (23 < x.port)
  | 2 => decide (23 < x.port)
  | 3 => decide (23 < x.port)
  | 4 => x.macBytes == 0 || decide (16 < x.macBytes)
  | 5 => (List.range b).any (fun k =>
      let y := bindingOf (s.bindBytes prev k)
      y.type == 5 && y.key == x.key && (y.fresh != x.fresh || y.nonce != x.nonce))
  | _ => false

/-- Binding b as it acts under an epoch. -/
def State.binding (s : State) (prev : Bool) (b : Nat) : Binding :=
  let x := bindingOf (s.bindBytes prev b)
  if s.bindBad prev b then { x with type := 0 } else x

/-- A port entry of CRYPTO_MAP (R275). -/
structure PortCrypto where
  rxEn : Bool
  validate : Nat
  release : Bool
  replay : Bool
  win : Nat
  rxFirst : Nat
  rxCount : Nat
  txDefault : Option Nat
deriving DecidableEq, Repr

/-- Port p's entry under an epoch; only ports 0–23 have one. -/
def State.portCrypto (s : State) (prev : Bool) (p : Nat) : PortCrypto :=
  if 24 ≤ p then ⟨false, 0, false, false, 0, 0, 0, none⟩ else
  let f := fun o n => s.secLE 0x10 (p / 8 * 256 + p % 8 * 32 + o) n true prev
  let a := f 0 1
  let t := f 12 2
  ⟨bit a 0, (let v := a / 2 % 4; if v = 3 then 0 else v), bit a 3, bit a 4, f 4 4, f 8 2 % 4096, min 32 (f 10 1 % 64),
    if bit t 15 then some (t % 4096) else none⟩

/-- Any binding of the previous or the current epoch's map names the SA slot (R273). -/
def State.saReferenced (s : State) (n : Nat) : Bool :=
  let names := fun prev => (List.range 4096).any (fun b =>
    let x := s.binding prev b
    (x.type == 1 || x.type == 2) && x.sas.any (fun o => o == some n))
  s.hasSec 0x10 && (names false || (s.flag Reg.LST_STAT_DRAINING && names true))

/-- The binding that protects a copy for egress port p (R282): a MACSEC_TX binding, or none for one sent in clear. -/
def State.txBinding (s : State) (epoch : Nat) (crypto : Option Nat) (p : Nat) : Option Nat :=
  let prev := s.prevEpoch epoch
  if 24 ≤ p then none else
  let own := match crypto with
    | some b =>
      let x := s.binding prev b
      if (x.type == 1 || x.type == 3) && x.port == p then some b else none
    | none => none
  match own with
  | some b => if (s.binding prev b).type = 1 then some b else none
  | none =>
    match (s.portCrypto prev p).txDefault with
    | some b => if (s.binding prev b).type = 1 then some b else none
    | none => none

/-- The SA slot that a MACSEC_TX binding sends with, if it is VALID and holds a key. -/
def State.txSa (s : State) (prev : Bool) (b : Nat) : Option Nat :=
  let x := s.binding prev b
  match (x.sas[x.an]?).join with
  | some n => if (s.slot 1 n).isSome then some n else none
  | none => none

/-- Bytes that MACsec adds to a copy: SecTAG of 8 or 16 bytes, and the ICV of 16. -/
def Binding.overhead (x : Binding) : Nat := (if x.sc then 16 else 8) + 16

/-- An SA uses an XPN suite. -/
def SaState.xpn (x : SaState) : Bool := decide (2 ≤ x.suite)

/-- The IV of IEEE 802.1AE: SCI and PN, or for XPN the SSCI and 64-bit PN under the salt. -/
def SaState.iv (x : SaState) (sci : List Byte) (pn : Nat) : List Byte :=
  if x.xpn then List.zipWith (fun a b => a ^^^ b) (beBytes 4 x.ssci ++ beBytes 8 pn) x.salt
  else sci ++ beBytes 4 pn

/-- The PN an SA sends next is its last: 2³² − 1, or 2⁶⁴ − 1 for XPN (R283). -/
def SaState.lastPn (x : SaState) : Nat := if x.xpn then 2 ^ 64 - 1 else 2 ^ 32 - 1

/-- Use the next PN of an SA for a copy whose transmission begins (R283). -/
def State.takePn (s : State) (n : Nat) : Nat × State :=
  let x := s.sa n
  let pn := x.pn
  let thr := if x.xpn then s.get Reg.TCA_XPN_THR_HI_THR * 2 ^ 32 + s.get Reg.TCA_XPN_THR_LO_THR else s.get Reg.TCA_PN_THR_THR
  let last := pn == x.lastPn
  let y : SaState := ⟨x.suite, x.tx, x.ssci, x.salt, if last then pn else pn + 1, x.threshold || pn == thr,
    x.exhausted || last, min 4294967295 (x.ok + 1), x.bad⟩
  let s := s.saSet n y
  let s := if pn == thr && !x.threshold then s.tcEvent n 0 else s
  (pn, if last then s.tcEvent n 1 else s)

/-- Protect a frame (without FCS) under a binding with SA slot n and a PN (R282, IEEE 802.1AE). -/
def State.protect (s : State) (prev : Bool) (b n pn : Nat) (pt : List Byte) : List Byte :=
  let x := s.binding prev b
  match s.slot 1 n with
  | none => pt
  | some k =>
    let hdr := pt.take 12
    let data := pt.drop 12
    let tci := b2n x.es * 64 + b2n x.sc * 32 + b2n x.scb * 16 + b2n x.ec * 12 + x.an
    let sl := if data.length < 48 then data.length else 0
    let tag := [0x88, 0xE5, BitVec.ofNat 8 tci, BitVec.ofNat 8 sl] ++ beBytes 4 pn ++ (if x.sc then x.sci else [])
    let clear := if x.ec then x.confOff else data.length
    let r := gcmSeal k.key ((s.sa n).iv x.sci pn) (hdr ++ tag ++ data.take clear) (data.drop clear)
    hdr ++ tag ++ data.take clear ++ r.1 ++ r.2

/-! ### Receive (R278, R279) -/

/-- What the receive checks before the ICV make of a frame: pass untouched, drop under a port count, or process with
SA slot n, SecTAG of t bytes, and packet number.  A drop names its port count, and the code and binding of R288 where it
has one. -/
inductive RxVerdict where
  | pass
  | drop (count : Nat) (err : Option (Nat × Nat))
  | process (sa tag pn : Nat)
deriving DecidableEq, Repr

/-- The 64-bit PN that IEEE 802.1AE recovers for an XPN suite from its low 32 bits and the lowest acceptable PN: the upper
half is one more where the low half of the lowest PN has its top bit set and the received one has not. -/
def xpnRecover (lowest low : Nat) : Nat :=
  let hi := lowest / 2 ^ 32
  (if bit lowest 31 && !bit low 31 then hi + 1 else hi) * 2 ^ 32 + low

/-- The receive binding of port p for the SecTAG of a frame (R278), by number: by its SCI, which ES gives where it is left
out, and with neither ES nor SC the port's first one. -/
def State.rxBindingNo (s : State) (p : Nat) (f : List Byte) : Option Nat :=
  let c := s.portCrypto false p
  let tci := leNat (sub f 14 1)
  let es := bit tci 6
  let sc := bit tci 5
  let sci := if sc then sub f 20 8 else sub f 6 6 ++ [0, 1]
  ((List.range c.rxCount).map (c.rxFirst + ·)).find? (fun k =>
    let b := s.binding false k
    b.type == 2 && b.port == p && ((!sc && !es) || b.sci == sci))

/-- The receive binding of port p for the SecTAG of a frame. -/
def State.rxBinding (s : State) (p : Nat) (f : List Byte) : Option Binding := (s.rxBindingNo p f).map (s.binding false)

/-- The checks of R278, in order, on the bytes of a frame (DA through FCS). -/
def State.rxCheck (s : State) (p : Nat) (f : List Byte) : RxVerdict :=
  let c := s.portCrypto false p
  if !c.rxEn || c.validate == 2 then .pass
  else if beNat (sub f 12 2) != 0x88E5 then
    if c.validate = 1 || beNat (sub f 12 2) == 0x888E then .pass else .drop tcRxUntagged none
  else if !s.tcaReady then .drop tcNotReady (some (6, (s.rxBindingNo p f).getD 0))
  else
    let tci := leNat (sub f 14 1)
    let es := bit tci 6
    let sc := bit tci 5
    let sl := leNat (sub f 15 1)
    let low := beNat (sub f 16 4)
    let tag := if sc then 16 else 8
    let data := f.length - 4 - 16 - 12 - tag
    if f.length < 12 + tag + 16 + 2 + 4 then .drop tcRxBadTag (some (2, (s.rxBindingNo p f).getD 0))
    else if bit tci 7 || (es && sc) || decide (48 ≤ sl) || (sl != 0 && sl != data) || (sl == 0 && decide (data < 48)) ||
       low == 0 then .drop tcRxBadTag none
    else
      match s.rxBinding p f with
      | none => .drop tcRxNoSa none
      | some b =>
        match (b.sas[tci % 4]?).join with
        | none => .drop tcRxNoSa none
        | some n =>
          if (s.slot 1 n).isNone then .drop tcRxNoSa none
          else
            let x := s.sa n
            let pn := if x.xpn then xpnRecover x.pn low else low
            if c.replay && decide (pn < x.pn) then .drop tcRxLate none else .process n tag pn

/-- The frame as Toecap decrypts or authenticates it, and its ICV verdict (R279): the SecTAG stays in place. -/
def State.rxOpen (s : State) (p : Nat) (f : List Byte) (n tag pn : Nat) : List Byte × Bool :=
  match s.slot 1 n with
  | none => (f, false)
  | some k =>
    let x := s.sa n
    let enc := bit (leNat (sub f 14 1)) 3
    let b := (s.rxBinding p f).getD (bindingOf [])
    let len := f.length - 4
    let data := sub f (12 + tag) (len - 16 - 12 - tag)
    let clear := if enc then b.confOff else data.length
    let aad := f.take (12 + tag) ++ data.take clear
    let ct := data.drop clear
    let iv := x.iv b.sci pn
    let ok := gcmTagOk k.key iv aad ct (sub f (len - 16) 16)
    let pt := if enc then padTo ct.length (gcmPlain k.key iv ct) else ct
    (f.take (12 + tag) ++ data.take clear ++ pt ++ f.drop (len - 16), ok)

end Sys2Proof.Machine
end

