-- ==== Sys2Proof/Machine/Slices.lean ====
section
/-! DEFINITION. The transfers of the fabric (R126–R131): the slices in service, how a transfer is dealt to a slice, the order
in which a slice serves those that wait, and the accounts of the 1 ms window. -/
namespace Sys2Proof.Machine

/-- Replace the fabric component. -/
def State.fabSet (s : State) (f : Fab → Fab) : State := { s with fab := f s.fab }

/-- The slices in service. -/
def State.slicesIn (s : State) : List Nat := (List.range 4).filter (fun n => s.flag Reg.FAB_STAT_IN_SERVICE n)

/-- A slice on which nothing waits. -/
def idleSlice : Slice := ⟨[], [], [], 0, 0, false, 0⟩

/-- Slice n. -/
def State.slice (s : State) (n : Nat) : Slice := AMap.get (fun _ => idleSlice) s.fab.slices n
def State.sliceSet (s : State) (n : Nat) (x : Slice) : State := s.fabSet (fun f => { f with slices := AMap.ins f.slices n x })

/-- The transfers that wait on a slice, in the order in which it serves them (R129). -/
def Slice.all (x : Slice) : List Xfer := x.first ++ x.reads ++ x.writes

/-- Transfers waiting on a slice. -/
def Slice.waiting (x : Slice) : Nat := x.all.length

/-- Bytes of transfers. -/
def xferBytes (xs : List Xfer) : Nat := (xs.map (fun x => x.bytes)).sum

/-- Move n bytes of the transfers at the head of a list; answers what is left of them and of n. -/
def moveBytes (xs : List Xfer) (n : Nat) : List Xfer × Nat :=
  match xs with
  | [] => ([], n)
  | x :: r => if x.bytes ≤ n then moveBytes r (n - x.bytes) else ({ x with bytes := x.bytes - n } :: r, 0)

/-- The pace of slice n in MHz; one in service that has not reported yet runs at the floor (R136, assumption log 90). -/
def State.sliceRate (s : State) (n : Nat) : Nat := if (s.slice n).reported then s.get Reg.FAB_PACE_PACE n else 500

/-- Serve a slice of pace p MHz up to an elapsed time: a word of 64 bytes, packed from the transfers that wait, per handshake,
class by class (R127, R129).  The part of a handshake that the time leaves over counts on while transfers wait. -/
def Slice.serve (x : Slice) (p now : Nat) : Slice :=
  let run := x.part + p * (now - x.servedTo)
  let moved := min (xferBytes x.all) (64 * (run / 1000))
  let a := moveBytes x.first moved
  let b := moveBytes x.reads a.2
  let c := moveBytes x.writes b.2
  { x with
    first := a.1, reads := b.1, writes := c.1, servedTo := now, shakes := x.shakes + ceilDiv moved 64
    part := if a.1.isEmpty && b.1.isEmpty && c.1.isEmpty then 0 else run % 1000 }

/-- Bring slice n up to now; its handshakes are counted in FAB_XFER. -/
def State.sliceServed (s : State) (n : Nat) : State :=
  let x := s.slice n
  if x.waiting = 0 then s
  else
    let y := x.serve (s.sliceRate n) s.now
    (s.incWrap Reg.FAB_XFER_FULL (y.shakes - x.shakes) n).sliceSet n y

/-- Bring every slice in service up to now. -/
def State.fabNow (s : State) : State := s.slicesIn.foldl State.sliceServed s

/-- The slice that the next transfer is dealt to: the one in service on which fewest transfers wait, the lowest of equals
(R128). -/
def State.dealTo (s : State) : Option Nat :=
  s.slicesIn.foldl (fun a n =>
    match a with
    | none => some n
    | some m => if (s.slice n).waiting < (s.slice m).waiting then some n else some m) none

/-- Deal one transfer; with no slice in service it waits for one. -/
def State.dealOne (s : State) (c : XferClass) (x : Xfer) : State :=
  match s.dealTo with
  | none => s.fabSet (fun f => { f with undealt := f.undealt ++ [(c, x)] })
  | some k =>
    let t := s.now
    let y := s.slice k
    let y := if y.waiting = 0 then { y with servedTo := t, part := 0 } else y
    s.sliceSet k (match c with
      | .first => { y with first := y.first ++ [x] }
      | .read => { y with reads := y.reads ++ [x] }
      | .write => { y with writes := y.writes ++ [x] })

/-- Deal transfers in order, the slices first brought up to now. -/
def State.deal (s : State) (c : XferClass) (xs : List Xfer) : State :=
  if xs.isEmpty then s else xs.foldl (fun s x => s.dealOne c x) s.fabNow

/-- Slice n enters or leaves service with nothing waiting on it and no pace reported. -/
def State.sliceClear (s : State) (n : Nat) : State :=
  let t := s.now
  s.sliceSet n { idleSlice with servedTo := t, shakes := (s.slice n).shakes }

/-- A slice has entered service: what waited for one is dealt. -/
def State.dealWaiting (s : State) : State :=
  if s.slicesIn.isEmpty then s
  else s.fab.undealt.foldl (fun s x => s.dealOne x.1 x.2) (s.fabSet (fun f => { f with undealt := [] }))

/-- Every transfer that waits. -/
def State.xfers (s : State) : List Xfer := s.fab.slices.flatMap (fun x => x.2.all) ++ s.fab.undealt.map (fun x => x.2)

/-- Bytes of a frame, or of a copy, whose transfers wait. -/
def State.writesWait (s : State) (f : Nat) : Nat := xferBytes (s.xfers.filter (fun x => x.of == .write f))
def State.readsWait (s : State) (c : Nat) : Nat := xferBytes (s.xfers.filter (fun x => x.of == .read c))

/-- The transfers of a frame's cells from byte `a` to byte `b`: one for each cell of 128 bytes. -/
def cellXfers (of : XferOf) (a b : Nat) : List Xfer :=
  ((List.range (ceilDiv b 128)).map (fun k => (⟨of, min b (128 * (k + 1)) - max a (128 * k)⟩ : Xfer))).filter (fun x => x.bytes != 0)

/-- Bytes a to b of frame f are written into so many cells more, in the fabric's 1 ms window (R130). -/
def State.fabWrote (s : State) (f cells a b : Nat) : State :=
  (s.fabSet (fun x => { x with cells := x.cells + cells, written := x.written + (b - a) })).deal .write (cellXfers (.write f) a b)

/-- Copies enqueued of cells written: `links` of them beyond the first copy of their cell, each a link pass of 512 bits
(R126, R130). -/
def State.fabLinked (s : State) (f copies links : Nat) : State :=
  (s.fabSet (fun x => { x with copies := x.copies + copies })).deal .write (List.replicate links ⟨.link f, 64⟩)

/-- Bytes a to b of copy c are asked of the Sole for its egress, in the fabric's 1 ms window (R130): they are the bytes that the
Sole holds of it (assumption log 90). -/
def State.fabRead (s : State) (c : Nat) (first : Bool) (a b : Nat) : State :=
  (s.fabSet (fun x => { x with read := x.read + (b - a) })).deal (if first then .first else .read) (cellXfers (.read c) a b)

/-- The transfers that satisfy p are given up where they wait, and count for nothing in the demand. -/
def State.xferDrop (s : State) (p : XferOf → Bool) : State :=
  if !s.xfers.any (fun x => p x.of) then s
  else
    let s := s.fabNow
    let gone := s.xfers.filter (fun x => p x.of)
    let keep := fun (xs : List Xfer) => xs.filter (fun x => !p x.of)
    let r := xferBytes (gone.filter (fun x => x.of.isRead))
    let w := xferBytes (gone.filter (fun x => x.of.isWrite))
    s.fabSet (fun f =>
      { f with
        slices := f.slices.map (fun x => (x.1, { x.2 with first := keep x.2.first, reads := keep x.2.reads, writes := keep x.2.writes }))
        undealt := f.undealt.filter (fun x => !p x.2.of), read := f.read - r, written := f.written - w })

/-- The sum of the paces of the slices in service. -/
def State.paceSum (s : State) : Nat := s.slicesIn.foldl (fun a n => a + s.get Reg.FAB_PACE_PACE n) 0

/-- D of the present window, in bits: w + r + (rep − 1)·w/2. -/
def Fab.demandBits (f : Fab) : Nat :=
  let w := 8 * f.written
  let extra := if f.cells = 0 then 0 else (f.copies - f.cells) * w / (2 * f.cells)
  w + 8 * f.read + extra

/-- The fabric falls short (R131): D of the present 1 ms window, or of the last complete one, exceeds what the slices in service
carry in one. -/
def State.fabShort (s : State) : Bool :=
  decide (512000 * (s.slicesIn.map s.sliceRate).sum < max s.fab.demandBits s.fab.demand)

end Sys2Proof.Machine
end

