-- ==== Sys2Proof/Machine/Buffer.lean ====
section
/-! DEFINITION. Frame records and copies, the bytes of a copy (rewrites of R106, MACsec stripping), and the accounts of
the Sole: cells, pools, thresholds, admission, drops (R144–R151, R160). -/
namespace Sys2Proof.Machine

/-! ### Frames and copies -/

/-- Replace the path component. -/
def State.clrSet (s : State) (f : Clr → Clr) : State := { s with clr := f s.clr }

/-- The frame record of an identity. -/
def State.frame (s : State) (id : Nat) : Option Frame := s.clr.frames.find? (fun f => f.id == id)

/-- Change a frame record. -/
def State.modFrame (s : State) (id : Nat) (g : Frame → Frame) : State :=
  s.clrSet (fun c => { c with frames := c.frames.map (fun f => if f.id = id then g f else f) })

/-- Change a copy. -/
def State.modCopy (s : State) (id : Nat) (g : Copy → Copy) : State :=
  s.clrSet (fun c => { c with copies := c.copies.map (fun x => if x.id = id then g x else x) })

/-- The copies of a frame, in the order in which they were admitted. -/
def State.copiesOf (s : State) (fid : Nat) : List Copy := s.clr.copies.filter (fun c => c.frame == fid)

/-- A parse that has not begun. -/
def noParse : Parse := ⟨0, [], [], [], .start, 0, none, none, [], false, none⟩

/-- A PTP event message: EtherType 0x88F7, and one of the message types 0 to 3 that IEEE 802.1AS timestamps (R189). -/
def ptpEvent (b : List Byte) : Bool := beNat (sub b 12 2) == 0x88F7 && decide (leNat (sub b 14 1) % 16 ≤ 3)

/-- What the device adds to a timestamp of a frame at Ethernet port p, in ns: for a PTP event message the SerDes and PCS
latency of the port's mode and the correction of PTP_CFG for the direction (R189, R213). -/
def State.stampAdd (s : State) (p d : Nat) (tx : Bool) (b : List Byte) : Int :=
  if decide (p < 32) && ptpEvent b then
    ((if tx then s.get Reg.MAC_LATENCY_TX p else s.get Reg.MAC_LATENCY_RX p : Nat) : Int) + s.ptpCorrection d p tx
  else 0

/-- The transmit timestamp of the frame b that Ethernet port p begins to send, in both domains (R189). -/
def State.stampTx (s : State) (p : Nat) (b : List Byte) : State :=
  if 32 ≤ p then s
  else
    let at_ := fun d => ((s.dom d : Int) + s.stampAdd p d true b).toNat
    { s with tim := { s.tim with sent := AMap.ins s.tim.sent p (at_ 0, at_ 1) } }

/-- The transmit timestamp of a frame of CAN channel c: its start-of-frame edge (R189). -/
def State.stampCan (s : State) (c : Nat) : State :=
  { s with tim := { s.tim with sent := AMap.ins s.tim.sent (64 + c) (s.dom 0, s.dom 1) } }

/-- A new frame record at ingress port p. -/
def State.newFrame (s : State) (p : Nat) (bytes : List Byte) : Frame :=
  { id := s.clr.nextId, port := p, bytes := bytes, rxLen := bytes.length, at_ := s.now
    t0 := ((s.dom 0 : Int) + s.stampAdd p 0 false bytes).toNat, t1 := ((s.dom 1 : Int) + s.stampAdd p 1 false bytes).toNat
    epoch := s.get Reg.LST_EPOCH_CUR, whole := false, fifo := 0, stage := .waiting, slot := false,
    timer := none, parse := noParse, fate := .none, pdrop := none, handle := none, yellow := false, markDei := false,
    mirrored := 0, mirrorDue := [], puntCode := 0, srcBus := none, poisoned := false, secTag := none, rxSa := none,
    icvOk := true, fcsOk := leNat (bytes.drop (bytes.length - 4)) == crc32Eth (bytes.take (bytes.length - 4)),
    cells := [], stored := 0, pool := none, enqueued := 0, route := none, lost := none, toecap := none }

/-- Add a frame record. -/
def State.addFrame (s : State) (f : Frame) : State :=
  s.clrSet (fun c => { c with frames := c.frames ++ [f], nextId := c.nextId + 1 })

/-- Bytes of a frame that have arrived: all of a whole frame, else those that its port's line rate has brought since its
first byte (assumption log 71). -/
def State.arrived (s : State) (f : Frame) : Nat :=
  if f.whole then f.rxLen else min f.rxLen ((s.now - f.at_) * s.portRate f.port / 8000)

/-! ### The bytes of a copy -/

/-- The offsets of the TPIDs of the VLAN tags behind SA, among headers that begin at the offsets given; R-tags and a SecTAG
may stand between them, and anything else ends them (R106).  `cut` bytes of SecTAG have been taken off. -/
def tagOffs (cut : Nat) (hs : List (HdrKind × Nat)) : List Nat :=
  match hs with
  | [] => []
  | (h, o) :: r =>
    match h with
    | .vlan => (o - 2 - cut) :: tagOffs cut r
    | .rtag => tagOffs cut r
    | .sectag => tagOffs cut r
    | _ => []

/-- The offsets of a frame's VLAN tags in its body, the outer tag first (R106).  A tag to which the compiled parse graph has no branch is
not parsed and counts as no tag (the model's choice, assumption log 96). -/
def Frame.tags (f : Frame) : List Nat := tagOffs (f.secTag.getD 0) ((f.parse.hdrs.zip f.parse.offs).drop 1)

/-- The frame has an outer tag. -/
def Frame.tagged (f : Frame) : Bool := !f.tags.isEmpty

/-- A frame's bytes without FCS, and without the SecTAG and ICV that Toecap took off (R279). -/
def Frame.body (f : Frame) : List Byte :=
  let b := f.bytes.take (f.bytes.length - 4)
  match f.secTag with
  | some n => b.take 12 ++ (b.drop (12 + n)).take (b.length - 12 - n - 16)
  | none => b

/-- A four-byte tag. -/
def tagBytes (tpid pcp dei vid : Nat) : List Byte := beBytes 2 tpid ++ beBytes 2 (pcp % 8 * 8192 + dei % 2 * 4096 + vid % 4096)

/-- The rewrite of R106 and the DEI mark of R115 on a frame without FCS whose VLAN tags lie at the offsets given: push
before the outer tag or after SA, pop, set; then PCP and DEI of whatever outer tag the frame has. -/
def rewrite (a : Action) (tags : List Nat) (markDei : Bool) (b : List Byte) : List Byte :=
  let r : Option Nat × List Byte :=
    match a.vlanOp, tags with
    | 1, o :: _ => (some o, b.take o ++ tagBytes a.tpid a.pcp (b2n a.dei) a.vid ++ b.drop o)
    | 1, [] => (some 12, b.take 12 ++ tagBytes a.tpid a.pcp (b2n a.dei) a.vid ++ b.drop 12)
    | 2, o :: t => (t.head?.map (· - 4), b.take o ++ b.drop (o + 4))
    | 3, o :: _ => (some o, b.take (o + 2) ++ beBytes 2 (beNat (sub b (o + 2) 2) / 4096 * 4096 + a.vid) ++ b.drop (o + 4))
    | _, _ => (tags.head?, b)
  match r.1 with
  | none => r.2
  | some o =>
    let tci := beNat (sub r.2 (o + 2) 2)
    let tci := if a.setPcp then tci % 8192 + a.pcp % 8 * 8192 else tci
    let tci := if a.setDei then setBit tci 12 a.dei else tci
    let tci := if markDei then setBit tci 12 true else tci
    if r.2.length < o + 4 then r.2 else r.2.take (o + 2) ++ beBytes 2 tci ++ r.2.drop (o + 4)

/-- The action that rewrites a frame's copies: the entry of its handle under its epoch; directed frames, punts and
frames without a handle are not rewritten. -/
def State.rewriteOf (s : State) (f : Frame) : Option Action :=
  match f.fate, f.handle with
  | .permit _, some h => some (s.action f.epoch h)
  | _, _ => none

/-- A frame after its rewrite, without FCS (R107). -/
def State.rewritten (s : State) (f : Frame) : List Byte :=
  match s.rewriteOf f with
  | some a => rewrite a f.tags f.markDei f.body
  | none => f.body

/-- The bytes of a copy before Toecap, without FCS. -/
def State.copyBody (s : State) (c : Copy) (f : Frame) : List Byte :=
  match c.data with
  | some b => b
  | none => if c.mirror ≠ 0 then f.body else s.rewritten f

/-- The crypto binding index of a frame's action (R103 step 8). -/
def State.cryptoOf (s : State) (f : Frame) : Option Nat := f.handle.bind (fun h => (s.action f.epoch h).crypto)

/-- The MACSEC_TX binding of a copy (R282). -/
def State.copyBinding (s : State) (c : Copy) (f : Frame) : Option Nat := s.txBinding c.epoch (s.cryptoOf f) c.port

/-- Pad a frame without FCS to 60 bytes. -/
def pad60 (b : List Byte) : List Byte := b ++ List.replicate (60 - b.length) 0

/-- A copy as it is on the wire, DA through FCS: rewritten, protected with the SA and the PN that it has taken, and padded
(R107, R282). -/
def State.wireBytes (s : State) (c : Copy) (f : Frame) : List Byte :=
  let b := s.copyBody c f
  let b := match s.copyBinding c f, c.sa with
    | some k, some n => s.protect (s.prevEpoch c.epoch) k n c.pn b
    | _, _ => b
  let b := pad60 b
  b ++ leBytes 4 (crc32Eth b)

/-- The length of a copy on the wire, DA through FCS, after rewrite, padding and MACsec; for HP and AP the length
delivered plus 4 (R176). -/
def State.copyLen (s : State) (c : Copy) (f : Frame) : Nat :=
  let n := (s.copyBody c f).length + 4
  if 32 ≤ c.port then n
  else match s.copyBinding c f with
    | some b => max 64 (n + (s.binding (s.prevEpoch c.epoch) b).overhead)
    | none => max 64 n

/-! ### Cells and pools (R144–R149) -/

/-- Cells of a frame of n bytes. -/
def cellsFor (n : Nat) : Nat := ceilDiv n 128

/-- Cells present (R145). -/
def State.cellsPresent (s : State) : Nat := if bit s.pwr.powered 8 then 131072 else 65536

/-- Cells from number 0 that may be allocated: none in banks 8–15 while PD8 drains (R356). -/
def State.cellsOpen (s : State) : Nat := if s.pwr.drain then 65536 else s.cellsPresent

/-- The minimum of service i as it acts (R153). -/
def State.minOf (s : State) (i : Nat) : Nat := if s.sole.minZero then 0 else s.svcMin i

/-- The sum of the minimums as the policy states them. -/
def State.minSum (s : State) : Nat := (List.range 296).foldl (fun a i => a + s.svcMin i) 0

/-- S: the size of the shared pool (R146). -/
def State.sharedSize (s : State) : Nat := s.cellsPresent - 4096 - (if s.sole.minZero then 0 else s.minSum)

/-- Change the Sole's accounts. -/
def State.soleSet (s : State) (f : Sole → Sole) : State := { s with sole := f s.sole }

/-- The number of cells that a frame holds. -/
def Frame.cellCount (f : Frame) : Nat := f.cells.length

/-- Cells charged to a pool: M, X and U of R147. -/
def State.pool (s : State) (p : Pool) : Nat := (s.sole.taken.filter (fun c => c.2 == p)).length

/-- The free cell that is allocated next: the lowest (assumption log 69). -/
def State.freeCell (s : State) : Option Nat :=
  (List.range (s.sole.taken.length + 1)).find? (fun c => decide (c < s.cellsOpen) && (AMap.find s.sole.taken c).isNone)

/-- Allocate n cells, each charged to pool p and its tag incremented (R165); answers those that it could. -/
def State.allocCells (s : State) (p : Pool) (n : Nat) : List Nat × State :=
  match n with
  | 0 => ([], s)
  | n + 1 =>
    match s.freeCell with
    | none => ([], s)
    | some c =>
      let s := s.soleSet (fun x =>
        { x with taken := AMap.ins x.taken c p
                 tags := AMap.set (fun _ => 0) x.tags c ((AMap.get (fun _ => 0) x.tags c + 1) % 256) })
      let r := s.allocCells p n
      (c :: r.1, r.2)

/-- Free cells: each is back on the free list and its charge returns to its pool (R147, R165).  A service whose charge has
fallen below its minimum admits through it again (R153). -/
def State.freeCells (s : State) (cs : List Nat) : State :=
  let s := s.soleSet (fun x => { x with taken := cs.foldl (fun m c => AMap.del m c) x.taken })
  s.soleSet (fun x => { x with barred := x.barred.filter (fun i => decide (s.minOf i ≤ s.pool (.min i))) })

/-- F: shared cells free. -/
def State.sharedFree (s : State) : Nat := s.sharedSize - s.pool .shared

/-- Cells allocated in all. -/
def State.allocated (s : State) : Nat := s.sole.taken.length

/-- Q of service i (R147): each copy counts its cells in full. -/
def State.svcQ (s : State) (i : Nat) : Nat :=
  s.clr.copies.foldl (fun a c =>
    if c.svc = i then a + (if c.own.isEmpty then ((s.frame c.frame).map Frame.cellCount).getD 0 else c.own.length) else a) 0

/-- The dynamic threshold of service i (R148). -/
def State.thr (s : State) (i : Nat) (yellow : Bool) : Nat :=
  let t := s.sharedFree * 2 ^ min 9 (s.svcAlpha i) / 64
  if yellow then t / 2 ^ s.svcYel i else t

/-- Service i is express. -/
def State.svcExpress (s : State) (i : Nat) : Bool := s.express (i / 8) (i % 8)

/-- The admission test of R148; a service whose minimum a flip has lowered below its charge admits nothing through it until the
charge has fallen below it (R153). -/
def State.admitTo (s : State) (i : Nat) (yellow : Bool) : Option Pool :=
  if s.svcQ i < s.minOf i && !s.sole.barred.contains i then some (.min i)
  else if s.svcExpress i && decide (s.pool .reserve < 4096) then some .reserve
  else if 0 < s.sharedFree && s.svcQ i < s.thr i yellow then some .shared
  else none

/-- Cells that a pool can still supply. -/
def State.poolRoom (s : State) (p : Pool) : Nat :=
  match p with
  | .min i => s.minOf i - s.pool (.min i)
  | .reserve => 4096 - s.pool .reserve
  | .shared => s.sharedFree

/-- Draw up to n cells for a frame from pools in order; answers how many could not be supplied.  RESERVE is raised when
the reserve supplies a cell with none charged before. -/
def State.drawCells (s : State) (fid : Nat) (pools : List Pool) (n : Nat) : Nat × State :=
  match pools with
  | [] => (n, s)
  | p :: r =>
    let k := min n (s.poolRoom p)
    if k = 0 then s.drawCells fid r n
    else
      let s := if p = .reserve && s.pool .reserve == 0 then s.raise Reg.SOL_IRQ_RESERVE else s
      let r1 := s.allocCells p k
      let s := r1.2.modFrame fid (fun f => { f with cells := f.cells ++ r1.1 })
      s.drawCells fid r (n - r1.1.length)

/-- The pools of a frame's further cells, in the order of R149. -/
def State.poolOrder (s : State) (f : Frame) : List Pool :=
  let cs := (s.copiesOf f.id).filter (fun c => c.mirror == 0)
  (match f.pool with
    | some p => [p]
    | none => []) ++ cs.map (fun c => .min c.svc) ++ (if cs.any (fun c => c.express) then [.reserve] else []) ++ [.shared]

/-- Remove the frame records that have arrived whole, been released, and hold no copy; their cells are freed (R19). -/
def State.reap (s : State) : State :=
  let gone := fun (f : Frame) => f.whole && f.stage == .out && !(s.clr.copies.any (fun x => x.frame == f.id))
  let s := s.freeCells ((s.clr.frames.filter gone).flatMap Frame.cells)
  s.clrSet (fun c => { c with frames := c.frames.filter (fun f => !gone f) })

/-! ### Drop counts -/

/-- Kinds of a service's drop counts. -/
def dkFull : Nat := 0
def dkAged : Nat := 1
def dkFlushed : Nat := 2
def dkEpoch : Nat := 3

/-- Add to a service's drop count, saturating at 32 bits. -/
def State.svcDrop (s : State) (i kind : Nat) : State :=
  let n := AMap.get cellDflt s.sole.drops (4 * i + kind)
  let s := { s with sole := { s.sole with drops := AMap.set cellDflt s.sole.drops (4 * i + kind) (min 4294967295 (n + 1)) } }
  if kind = dkFull then s.raise Reg.SOL_IRQ_SOLE_FULL
  else if kind = dkEpoch then s.inc Reg.LST_DRAINED_COUNT
  else s

/-- Count frames of an ingress port under a name that no register of that port shows. -/
def State.rxFlush (s : State) (p : Nat) : State :=
  let n := AMap.get cellDflt s.sole.rxFlushed p
  { s with sole := { s.sole with rxFlushed := AMap.set cellDflt s.sole.rxFlushed p (n + 1) } }

/-- The MAC counter of a frame sent, by the type of its DA (R226). -/
def txKind (b : List Byte) : Nat := if b.take 6 == List.replicate 6 0xFF then 25 else if bit (leNat (b.take 1)) 0 then 24 else 23

/-- Add to a MAC counter (R226); AP and HP have none, and TP ports keep those that R226 says read 0 at 0. -/
def State.macCnt (s : State) (p k : Nat) (n : Nat := 1) : State :=
  if 32 ≤ p then s
  else if isTP p && (k == 5 || k == 6 || k == 26 || (decide (29 ≤ k) && decide (k ≤ 31)) || decide (33 ≤ k)) then s
  else s.incWrap Reg.MAC_CNT_FULL n p k

/-- A mirror copy is dropped: MIRROR_DROPPED, MIR_BAD where its original proved bad, and the first drop raises DROP
(R123). -/
def State.mirrorDrop (s : State) (n : Nat) (bad : Bool) : State :=
  let s := s.inc Reg.MIR_DROPPED_COUNT 1 0 (n - 1)
  let s := if bad then s.inc Reg.MIR_BAD_COUNT 1 0 (n - 1) else s
  s.raise Reg.MIR_IRQ_DROP 0 (n - 1)

/-- The flush state of a port (R161). -/
def State.portState (s : State) (p : Nat) : Nat := s.get Reg.SOL_PORT_STATE_STATE 0 p
def psUP : Nat := 0
def psFLUSHING : Nat := 1
def psHELD : Nat := 2
def psRETURNING : Nat := 3
def psDOWN : Nat := 4

/-- The port forwards. -/
def State.inService (s : State) (p : Nat) : Bool := s.portState p == psUP || s.portState p == psRETURNING

end Sys2Proof.Machine
end

