-- ==== Sys2Proof/Machine/Shape.lean ====
section
/-! DEFINITION. The scheduler's accounts (R167–R182): parents of queues and subscribers, token buckets, credits, tags
and virtual times, what a chosen copy is charged, and the correction of a provisional charge. -/
namespace Sys2Proof.Machine

/-- Replace the scheduler component. -/
def State.schSet (s : State) (f : Sched → Sched) : State := { s with sch := f s.sch }

/-! ### Parents (R167–R170) -/

/-- The subscriber that serves queue q now: its old one while a change is deferred. -/
def State.queueSub (s : State) (q : Nat) : Option Nat :=
  match AMap.find s.sch.qOld q with
  | some u => if u = 2048 then none else some u
  | none => (s.queueCfg q).1

/-- The place 8p + s that the Last gives subscriber u: HP service 7 where it serves PUNT_Q, whatever its entry says, were it not
valid or of another port (R169; the model's choice, assumption log 10). -/
def State.subTarget (s : State) (u : Nat) : Option Nat :=
  if s.hasSec 6 && s.queueSub (s.puntQ 32) == some u then some 263 else (s.subCfg u).place

/-- The place 8p + s of subscriber u now: its old one while a change is deferred. -/
def State.subPlace (s : State) (u : Nat) : Option Nat :=
  match AMap.find s.sch.sOld u with
  | some x => if x = 296 then none else some x
  | none => s.subTarget u

/-- The place of queue q, if a port owns it. -/
def State.queuePlace (s : State) (q : Nat) : Option Nat := (s.queueSub q).bind s.subPlace

/-- Port p owns queue q. -/
def State.ownsQueue (s : State) (p q : Nat) : Bool :=
  match s.queuePlace q with
  | some x => x / 8 == p
  | none => false

/-- Copies of queue q that are queued or in transmission. -/
def State.queueCopies (s : State) (q : Nat) : List Copy := s.clr.copies.filter (fun c => c.queue == q)

/-- Copies of subscriber u. -/
def State.subCopies (s : State) (u : Nat) : List Copy := s.clr.copies.filter (fun c => s.queueSub c.queue == some u)

/-- A copy leaves: its own cells are freed, the reads of it that wait are given up, and where it leaves its queue or its subscriber
without a queued copy, that one becomes idle and has no place in the choices any more (R173, R174, R181). -/
def State.rmCopy (s : State) (id : Nat) : State :=
  match s.clr.copies.find? (fun c => c.id == id) with
  | none => s
  | some c =>
    let s := (s.freeCells c.own).xferDrop (· == .read id)
    let s := s.clrSet (fun k => { k with copies := k.copies.filter (fun x => x.id != id) })
    let s := if s.clr.copies.any (fun x => x.queue == c.queue && x.st == .queued) then s else
      s.schSet (fun h => { h with qTook := h.qTook.map (fun e => (e.1, e.2.filter (· != c.queue))) })
    match s.queueSub c.queue with
    | none => s
    | some u =>
      if (s.subCopies u).any (fun x => x.st == .queued) then s else
        s.schSet (fun h => { h with took := h.took.map (fun e => (e.1, e.2.filter (· != u))) })

/-! ### Token buckets -/

/-- A level of whole units in the bucket's 1/65,536 units. -/
def units (n : Nat) : Int := (n : Int) * 65536

/-- Refill: rate units a second, up to the burst; the fraction below 1/65,536 is dropped (assumption log 9). -/
def Bucket.refill (b : Bucket) (rate burst now : Nat) : Bucket :=
  ⟨min (units burst) (b.level + (rate * (now - b.last) * 65536 / 1000000000 : Nat)), now⟩

/-- Whole units of a bucket. -/
def Bucket.whole (b : Bucket) : Int := b.level / 65536

/-- Take units. -/
def Bucket.take (b : Bucket) (n : Nat) : Bucket := ⟨b.level - units n, b.last⟩

/-- Subscriber u as a Last applied at that moment starts it (R182). -/
def State.subStart (s : State) (u : Nat) : Sub :=
  let c := s.subCfg u
  ⟨0, 0, ⟨units c.cbs, s.lst.appliedAt⟩, ⟨units c.pbs, s.lst.appliedAt⟩, 0⟩

/-- Subscriber u's state. -/
def State.sub_ (s : State) (u : Nat) : Sub := (AMap.find s.sch.subs u).getD (s.subStart u)
def State.subSet (s : State) (u : Nat) (x : Sub) : State := s.schSet (fun h => { h with subs := AMap.ins h.subs u x })

/-- Subscriber u with its buckets refilled now (R175). -/
def State.subNow (s : State) (u : Nat) : Sub :=
  let x := s.sub_ u
  let c := s.subCfg u
  { x with c := x.c.refill c.cir c.cbs s.now, p := x.p.refill c.pir c.pbs s.now }

/-- The port bucket, refilled now (R178). -/
def State.portBucket (s : State) (p : Nat) : Bucket :=
  ((AMap.find s.sch.ports p).getD ⟨units (s.portBurst p), s.lst.appliedAt⟩).refill (s.portShape p) (s.portBurst p) s.now
def State.portBucketSet (s : State) (p : Nat) (b : Bucket) : State :=
  s.schSet (fun h => { h with ports := AMap.ins h.ports p b })

/-- A copy of place 8p + s is queued, waits for its start, or is in transmission. -/
def State.svcBusy (s : State) (i : Nat) : Bool := s.clr.copies.any (fun c => c.svc == i)

/-- The CB credit of place i now, by the conditions that held since it was last brought up to date (R177). -/
def State.creditNow (s : State) (i : Nat) : Bucket :=
  let b := (AMap.find s.sch.credits i).getD ⟨0, s.lst.appliedAt⟩
  let p := i / 8
  let v := i % 8
  let gain : Int := (s.svcIdle p v * (s.now - b.last) * 65536 / 1000000000 : Nat)
  let hi := s.svcHi p v
  let up := b.level + gain
  if s.svcBusy i then
    if s.gateOpen p v then ⟨if hi = 0 then up else min (hi * 65536) up, s.now⟩ else ⟨b.level, s.now⟩
  else ⟨if 0 < b.level then 0 else min 0 up, s.now⟩

/-- Bring the credits of port p up to date; every event that changes their conditions calls this first. -/
def State.creditSync (s : State) (p : Nat) : State :=
  (List.range 8).foldl (fun s v =>
    if s.svcCB p v then
      let b := s.creditNow (8 * p + v)
      s.schSet (fun h => { h with credits := AMap.ins h.credits (8 * p + v) b })
    else s) s

/-! ### Tags (R173, R174) -/

/-- a precedes b among 48-bit tags. -/
def tagLt (a b : Nat) : Bool := let d := (b + 2 ^ 48 - a) % 2 ^ 48; decide (0 < d) && decide (d < 2 ^ 47)

/-- The later of two tags. -/
def later (a b : Nat) : Nat := if tagLt a b then b else a

/-- Virtual time of place i, and the tag of queue q. -/
def State.vt (s : State) (i : Nat) : Nat := AMap.get cellDflt s.sch.vts i
def State.qtag (s : State) (q : Nat) : Nat := AMap.get cellDflt s.sch.qtags q

/-- The copy of queue q that it would send next: the oldest queued one (R24). -/
def State.queueHead (s : State) (q : Nat) : Option Copy := s.clr.copies.find? (fun c => c.queue == q && c.st == .queued)

/-- A copy may start: it may cut through (R22), or its frame is whole and the Sole holds all of it (R126). -/
def State.copyReady (s : State) (c : Copy) : Bool :=
  c.ct || (((s.frame c.frame).map Frame.whole).getD true && s.writesWait c.frame == 0)

/-- Bytes that a copy has put on the wire: those before its present run, and what the line has carried since, behind 8 bytes of
preamble (R129). -/
def State.sentNow (s : State) (c : Copy) : Nat :=
  c.sent + (if c.st == .sending then (s.now - c.runAt) * s.portRate c.port / 8000 - 8 else 0)

/-- A copy as its preemption leaves it. -/
def State.preempted (s : State) (c : Copy) : Copy := { c with sent := s.sentNow c, st := .preempted }

/-- Reads of a copy are served before others: it cuts through, or its service is express (R129). -/
def State.readsFirst (s : State) (c : Copy) : Bool := c.ct || s.svcExpress c.svc

/-- Bytes of a copy that the Sole holds: the cell of a truncated mirror copy, or what has been written of its frame. -/
def State.held (s : State) (c : Copy) (f : Frame) : Nat := if c.own.isEmpty then f.stored - s.writesWait f.id else 128

/-- Ask the Sole for the bytes of copy c that it holds and that have not been asked for (R126). -/
def State.askReads (s : State) (id : Nat) : State :=
  match s.clr.copies.find? (fun c => c.id == id) with
  | none => s
  | some c =>
    match s.frame c.frame with
    | none => s
    | some f =>
      let b := s.held c f
      if b ≤ c.asked then s
      else (s.modCopy id (fun c => { c with asked := b })).fabRead id (s.readsFirst c) c.asked b

/-- The head copy of queue q may start. -/
def State.headReady (s : State) (q : Nat) : Bool := ((s.queueHead q).map s.copyReady).getD false

/-- The charge of a copy now: its length, 64 while the length is not known, 128 for a truncated mirror copy (R176). -/
def State.charge (s : State) (c : Copy) : Nat :=
  match s.frame c.frame with
  | some f => if !c.own.isEmpty then 128 else if f.whole || c.data.isSome then s.copyLen c f else 64
  | none => 64

/-- The least element under a key order, the first of equals. -/
def leastBy (lt : Nat → Nat → Bool) (key : Nat → Nat) (xs : List Nat) : Option Nat :=
  xs.foldl (fun acc x =>
    match acc with
    | none => some x
    | some y => if lt (key x) (key y) then some x else some y) none

/-- Numbers without repeats, in rising order. -/
def sortedNub (xs : List Nat) : List Nat := (xs.foldl (fun (m : AMap Unit) x => AMap.ins m x ()) []).map (fun c => c.1)

/-- The tag that queue q of subscriber u goes on from: its own while it takes part in every choice; a queue that becomes active
starts at its subscriber's virtual time (R174). -/
def State.queueBase (s : State) (u q : Nat) : Nat :=
  if ((AMap.find s.sch.qTook u).getD []).contains q then s.qtag q else later (s.qtag q) (s.sub_ u).v

/-- The queues of subscriber u that take part in a choice, in rising order. -/
def State.subQueues (s : State) (u : Nat) : List Nat :=
  sortedNub (((s.subCopies u).filter (fun c => c.st == .queued && s.headReady c.queue)).map (fun c => c.queue))

/-- The queue of subscriber u that is served next (R174). -/
def State.nextQueue (s : State) (u : Nat) : Option Nat :=
  let key := fun q =>
    let l := ((s.queueHead q).map s.charge).getD 64
    (s.queueBase u q + l * (s.queueCfg q).2) % 2 ^ 48
  leastBy tagLt key (s.subQueues u)

/-- The copy that subscriber u would send next. -/
def State.subHead (s : State) (u : Nat) : Option Copy := (s.nextQueue u).bind s.queueHead

/-- The tag that subscriber u goes on from at place i (R173): its own while it takes part in every excess choice; one that was
idle, or held back by its peak bucket, re-enters at V (assumption log 66). -/
def State.subBase (s : State) (i u : Nat) : Nat :=
  if ((AMap.find s.sch.took i).getD []).contains u then (s.sub_ u).f else later (s.sub_ u).f (s.vt i)

/-- The finish tag that subscriber u's head copy would take at place i (R173). -/
def State.finish (s : State) (i u : Nat) : Nat :=
  let l := ((s.subHead u).map s.charge).getD 64
  (s.subBase i u + l * (s.subCfg u).inc) % 2 ^ 48

/-- Subscribers of place i with a queued copy, in rising order. -/
def State.svcSubs (s : State) (i : Nat) : List Nat :=
  sortedNub ((s.clr.copies.filter (fun c => c.svc == i && c.st == .queued && s.headReady c.queue)).filterMap (fun c => s.queueSub c.queue))

/-- Subscriber u qualifies for the commit round, or for the excess round (R172, R175). -/
def State.peakOk (s : State) (u : Nat) : Bool := (s.subCfg u).pir == 0 || decide (0 ≤ (s.subNow u).p.level)
def State.commitOk (s : State) (u : Nat) : Bool :=
  (s.subCfg u).cir != 0 && decide (0 ≤ (s.subNow u).c.level) && s.peakOk u

/-- The subscribers that take part in an excess choice of place i: in a CB service, all of them. -/
def State.excessSubs (s : State) (i : Nat) : List Nat :=
  if s.svcCB (i / 8) (i % 8) then s.svcSubs i else (s.svcSubs i).filter s.peakOk

/-- The subscriber that place i serves next, and whether in the excess round (R172, R177).  A commit round that has served none
since reset or application starts at the lowest number (assumption log 18). -/
def State.nextSub (s : State) (i : Nat) : Option (Nat × Bool) :=
  let us := s.svcSubs i
  if s.svcCB (i / 8) (i % 8) then
    if 0 ≤ (s.creditNow i).level then (leastBy tagLt (s.finish i) (s.excessSubs i)).map (fun u => (u, true)) else none
  else
    let com := us.filter s.commitOk
    let last := AMap.get cellDflt s.sch.rr i
    match com.find? (fun u => decide (last ≤ u)) with
    | some u => some (u, false)
    | none =>
      match com with
      | u :: _ => some (u, false)
      | [] => (leastBy tagLt (s.finish i) (s.excessSubs i)).map (fun u => (u, true))

/-! ### Charging -/

/-- The queues of subscriber u and, in an excess choice, the subscribers of place i that take part for the first time since they were
idle or held back stand at the virtual time from then on (R173, R174, R181). -/
def State.joinTags (s : State) (i u : Nat) (excess : Bool) : State :=
  let s := (s.subQueues u).foldl (fun s q =>
    let t := s.queueBase u q
    s.schSet (fun h => { h with qtags := AMap.set cellDflt h.qtags q t })) s
  if excess then (s.excessSubs i).foldl (fun s w => s.subSet w { s.sub_ w with f := s.subBase i w }) s else s

/-- Charge n bytes of a copy of queue q to its subscriber's buckets, credit, port bucket, tags and byte count; `first`
marks the choice itself, which moves tags past what they were and records who took part (R173, R175–R178). -/
def State.chargeBytes (s : State) (q i : Nat) (excess first : Bool) (n : Nat) : State :=
  let p := i / 8
  let v := i % 8
  match s.queueSub q with
  | none => s
  | some u =>
    let cfg := s.subCfg u
    let cb := s.svcCB p v
    let s := if first then s.joinTags i u excess else s
    let x := s.subNow u
    let f := if excess then (if first then s.subBase i u else x.f) + n * cfg.inc else x.f
    let qt := (if first then s.queueBase u q else s.qtag q) + n * (s.queueCfg q).2
    let lead := excess && (first || s.vt i == x.f)
    let subs := s.excessSubs i
    let queues := s.subQueues u
    let x : Sub :=
      { f := f % 2 ^ 48
        v := if first || x.v == s.qtag q then qt % 2 ^ 48 else x.v
        c := if cb || excess then x.c else x.c.take n
        p := if cb || cfg.pir == 0 then x.p else x.p.take n
        bytes := (x.bytes + n) % 2 ^ 64 }
    let s := s.subSet u x
    let s := s.schSet (fun h => { h with qtags := AMap.set cellDflt h.qtags q (qt % 2 ^ 48) })
    let s := if first then s.schSet (fun h =>
      { h with qTook := AMap.ins h.qTook u queues, took := if excess then AMap.ins h.took i subs else h.took }) else s
    let s := if lead then s.schSet (fun h => { h with vts := AMap.set cellDflt h.vts i (f % 2 ^ 48) }) else s
    let s := if first && !excess then s.schSet (fun h => { h with rr := AMap.set cellDflt h.rr i (u + 1) }) else s
    let s :=
      if cb then
        let b := (s.creditNow i).take n
        let lo := s.svcLo p v
        let b := if lo = 0 then b else ⟨max (lo * 65536) b.level, b.last⟩
        s.schSet (fun h => { h with credits := AMap.ins h.credits i b })
      else s
    if s.portShape p = 0 then s else s.portBucketSet p ((s.portBucket p).take n)

/-- Give bytes back that a provisional charge took too many of (a poisoned copy shorter than its charge, R176). -/
def State.refundBytes (s : State) (q i : Nat) (excess : Bool) (n : Nat) : State :=
  let p := i / 8
  match s.queueSub q with
  | none => s
  | some u =>
    let cfg := s.subCfg u
    let cb := s.svcCB p (i % 8)
    let x := s.subNow u
    let up := fun (b : Bucket) (burst : Nat) => (⟨min (units burst) (b.level + units n), b.last⟩ : Bucket)
    let x : Sub :=
      { f := if excess then (x.f + 2 ^ 48 - n * cfg.inc % 2 ^ 48) % 2 ^ 48 else x.f
        v := x.v
        c := if cb || excess then x.c else up x.c cfg.cbs
        p := if cb || cfg.pir == 0 then x.p else up x.p cfg.pbs
        bytes := (x.bytes + 2 ^ 64 - n) % 2 ^ 64 }
    let qt := (s.qtag q + 2 ^ 48 - n * (s.queueCfg q).2 % 2 ^ 48) % 2 ^ 48
    let s := (s.subSet u x).schSet (fun h => { h with qtags := AMap.set cellDflt h.qtags q qt })
    let s :=
      if cb then
        let b := s.creditNow i
        let hi := s.svcHi p (i % 8)
        let level := b.level + units n
        s.schSet (fun h => { h with credits := AMap.ins h.credits i ⟨if hi = 0 then level else min (hi * 65536) level, b.last⟩ })
      else s
    if s.portShape p = 0 then s else s.portBucketSet p (up (s.portBucket p) (s.portBurst p))

/-! ### Ownership changes (R170, R182) -/

/-- The place of subscriber u was `old` and is now what the Last gives: the change waits until u is empty, or takes effect
at once, when u joins at its new parent's virtual time; one that had no place starts with its buckets full. -/
def State.subSettle (s : State) (u : Nat) (old : Option Nat) : State :=
  let new := s.subTarget u
  if new = old then s.schSet (fun h => { h with sOld := AMap.del h.sOld u })
  else if !(s.subCopies u).isEmpty then s.schSet (fun h => { h with sOld := AMap.ins h.sOld u (old.getD 296) })
  else
    let s := s.schSet (fun h => { h with sOld := AMap.del h.sOld u })
    match new with
    | none => s
    | some i =>
      let x := s.sub_ u
      let c := s.subCfg u
      let t := s.now
      let full := old.isNone
      s.subSet u { x with f := s.vt i, c := (if full then ⟨units c.cbs, t⟩ else x.c), p := (if full then ⟨units c.pbs, t⟩ else x.p) }

/-- The subscriber of queue q was `old` and is now what the Last gives. -/
def State.queueSettle (s : State) (q : Nat) (old : Option Nat) : State :=
  let new := (s.queueCfg q).1
  if new = old then s.schSet (fun h => { h with qOld := AMap.del h.qOld q })
  else if !(s.queueCopies q).isEmpty then s.schSet (fun h => { h with qOld := AMap.ins h.qOld q (old.getD 2048) })
  else
    let s := s.schSet (fun h => { h with qOld := AMap.del h.qOld q })
    match new with
    | some u => let v := (s.sub_ u).v
                s.schSet (fun h => { h with qtags := AMap.set cellDflt h.qtags q v })
    | none => s

/-- Bring a copy's charge to n bytes (R176). -/
def State.chargeTo (s : State) (c : Copy) (n : Nat) : State :=
  let s :=
    if c.charged < n then s.chargeBytes c.queue c.svc c.excess false (n - c.charged)
    else if n < c.charged then s.refundBytes c.queue c.svc c.excess (c.charged - n)
    else s
  s.modCopy c.id (fun x => { x with charged := n })

end Sys2Proof.Machine
end

