-- ==== Sys2Proof/Machine/Flush.lean ====
section
/-! DEFINITION. How a frame ends before its time, and how a port leaves and rejoins service: poisoning (R156–R158),
frames that prove bad, the flush states (R161–R164) and the classification budget (R84). -/
namespace Sys2Proof.Machine

/-! ### The classification budget (R84) -/

/-- Clickers in rotation. -/
def State.clickersIn (s : State) : Nat := ((List.range 24).filter (fun c => s.flag Reg.CLR_STAT_ROTATION c)).length

/-- Numerator of the demand: 672 bits a frame, 5/4 of the steps reserved (R76). -/
def State.budgetNum (s : State) : Nat :=
  (List.range 37).foldl (fun a p =>
    if s.inService p then
      let r := if p < 32 then s.portRate p * 1000000 else if p = 32 then 50000000000 else 1600000 * 672
      a + r * 5 * max 6 (s.depthBytes p / 16)
    else a) 0

/-- Recompute CLR_BUDGET; with no Clicker in rotation R84 gives no DEMAND, and it is a free value. -/
def State.budget (s : State) : State :=
  let n := s.clickersIn
  let r : Nat × State := if n = 0 then s.draw 65536 else (ceilDiv (1024 * s.budgetNum) (2688 * n * 240000000), s)
  let was := r.2.flag Reg.CLR_BUDGET_OVER
  let s := r.2.put Reg.CLR_BUDGET_DEMAND r.1
  let s := s.put Reg.CLR_BUDGET_OVER (b2n (decide (1024 < r.1)))
  let s := s.put Reg.CLR_BUDGET_IN_ROT n
  if !was && decide (1024 < r.1) then s.raise Reg.CLR_IRQ_OVERBUDGET else s

/-! ### Copies that end early -/

/-- The MAC of port p. -/
def noMac : Mac := ⟨0, none, 0, false, 0, [], none, none⟩
def State.mac (s : State) (p : Nat) : Mac := AMap.get (fun _ => noMac) s.macs p
def State.macSet (s : State) (p : Nat) (m : Mac) : State := { s with macs := AMap.ins s.macs p m }

/-- What Ethernet port p has put on the wire last; a copy in collision that has left it makes no further attempt (R231). -/
def State.wasSent (s : State) (p : Nat) (b : List Byte) : State :=
  if 32 ≤ p then s else s.macSet p { s.mac p with sent := b, attempts := 0 }

/-- Port p loses what it sends: the next copy begins with no attempt made (R231). -/
def State.attemptsClear (s : State) (p : Nat) : State :=
  if (s.mac p).attempts = 0 then s else s.macSet p { s.mac p with attempts := 0 }

/-- Discard a copy under a service drop count (R160). -/
def State.dropCopy (s : State) (c : Copy) (kind : Nat) : State := ((s.creditSync c.port).svcDrop c.svc kind).rmCopy c.id

/-- The copy has begun transmission. -/
def Copy.begun (c : Copy) : Bool := c.st == .sending || c.st == .preempted

/-- The bytes of a poisoned copy: those sent, padded to 60, and the bitwise inverse of their correct FCS (R157). -/
def stomped (data : List Byte) : List Byte :=
  let b := pad60 data
  b ++ leBytes 4 (2 ^ 32 - 1 - crc32Eth b)

/-- The bytes that a copy of a frame still arriving can send, in order: the frame as received, its check sequence and ICV among
them, with the SecTAG taken off, rewritten, and behind the SecTAG of its own protection (R107, R279, R282). -/
def State.streamBytes (s : State) (c : Copy) (f : Frame) : List Byte :=
  let f := { f with bytes := f.bytes ++ List.replicate (if f.secTag.isSome then 20 else 4) 0 }
  let b := s.copyBody c f
  match s.copyBinding c f, c.sa with
  | some k, some n => let p := s.protect (s.prevEpoch c.epoch) k n c.pn b
                      p.take (p.length - 16)
  | _, _ => b

/-- How many bytes of a copy's stream n bytes of its frame give. -/
def State.streamOf (s : State) (c : Copy) (f : Frame) (n : Nat) : Nat := n + (s.streamBytes c f).length - f.bytes.length

/-- Poison a copy that has begun transmission (R156, R157): counted at both ends, and charged with the bytes sent (R176).  How
many bytes had been sent is a free value up to those received, except for causes 1 and 6, which end the copy at its limit. -/
def State.poisonCopy (s : State) (c : Copy) (cause : Nat) (fault : Bool := false) : State :=
  match s.frame c.frame with
  | none => s.rmCopy c.id
  | some f =>
    let s := s.creditSync c.port
    let me := s.maxFrame c.port
    let mi := s.maxFrame f.port
    let came := s.streamOf c f (s.arrived f)
    let r : Nat × State :=
      if cause = 6 then (me - 4, s) else if cause = 1 then (min me mi - 4, s) else s.draw (min came (me - 4) + 1)
    let out := stomped (((s.streamBytes c f).take came).take r.1)
    let s := r.2.inc Reg.SOL_POISON_COUNT 1 0 cause
    let s := s.raise Reg.SOL_IRQ_POISON
    let s := s.macCnt c.port 27
    let s := if f.poisoned then s else s.macCnt f.port 13
    let s := s.modFrame f.id (fun f => { f with poisoned := true })
    let s := s.chargeTo c out.length
    let s := (s.rmCopy c.id).wasSent c.port out
    if cause = 7 then s.fault (0x0D0 + c.port) 0x1A80
    else if fault then s.fault (0x0D0 + c.port) 0x1A81
    else s

/-- The mirror copies that a frame still owes are lost with it (R123). -/
def State.mirrorLost (s : State) (fid : Nat) : State :=
  let due := ((s.frame fid).map Frame.mirrorDue).getD []
  let s := due.foldl (fun s n => s.mirrorDrop n true) s
  s.modFrame fid (fun f => { f with mirrorDue := [] })

/-- A frame proves bad, or is lost (causes 0–5, 8 and 9 of R156): copies that have begun are poisoned, the others
cancelled, and its mirror copies dropped (R123). -/
def State.spoil (s : State) (fid cause : Nat) (fault : Bool := false) : State :=
  let s := ((s.copiesOf fid).filter (fun c => !c.tagFail)).foldl (fun s c =>
    if c.mirror ≠ 0 then ((s.creditSync c.port).mirrorDrop c.mirror true).rmCopy c.id
    else
      let s := if cause = 9 then s.svcDrop c.svc dkFull else s
      if c.begun then s.poisonCopy c cause fault else (s.creditSync c.port).rmCopy c.id) s
  s.mirrorLost fid

/-- What of a frame ends with its drop: its cells are free, its transfers are given up, its context is free, and its slot is ready
for release. -/
def State.emptyFrame (s : State) (fid : Nat) : State :=
  let s := (s.freeCells (((s.frame fid).map Frame.cells).getD [])).xferDrop (fun x => x == .write fid || x == .link fid)
  s.modFrame fid (fun f =>
    { f with fate := .drop, pdrop := none, cells := [], fifo := 0, rxSa := none
             stage := if f.stage == .out || !f.slot then .out else .ready })

/-- A frame is dropped, and nothing more of it comes. -/
def State.killFrame (s : State) (fid : Nat) : State :=
  ((s.emptyFrame fid).modFrame fid (fun f => { f with whole := true })).reap

/-- A frame is dropped; where it is still arriving, its MAC receives the rest of it and counts it at its end, unless it has
counted it already. -/
def State.dropFrame (s : State) (fid : Nat) (counted : Bool := false) : State :=
  if ((s.frame fid).map Frame.whole).getD true then s.killFrame fid
  else (s.emptyFrame fid).modFrame fid (fun f => { f with lost := some counted })

/-! ### Flush states (R161–R164) -/

/-- Engines that AP port 33 + n serves. -/
def apEngines (p : Nat) : List Nat := (List.range 4).map (fun k => 4 * (p - 33) + k)

/-- Power domain of a logical port (R401): its MAC, HDM, or the engines it serves. -/
def portDomain (p : Nat) : Nat := if p < 32 then macDomain p else if p = 32 then 2 else if p < 35 then 16 else 17

/-- A BLOCK reset of one of the port's pages is held. -/
def State.portHeld (s : State) (p : Nat) : Bool :=
  if p < 32 then s.pageHeld (0x0D0 + p) || (decide (p < 24) && s.pageHeld (0x0F0 + p)) ||
    (decide (24 ≤ p) && s.pageHeld (0x108 + (p - 24)))
  else if p = 32 then s.pageHeld 0x021
  else (apEngines p).any (fun e => s.pageHeld (0x110 + e))

/-- A loopback, PRBS generator or checker is set on the port (R225). -/
def State.testMode (s : State) (p : Nat) : Bool :=
  let loop := fun v => v == 1 || v == 2
  let prbs := fun v => decide (1 ≤ v) && decide (v ≤ 4)
  decide (p < 32) && (loop (s.get Reg.MAC_TEST_LOOP p) ||
    (decide (p < 24) && (loop (s.get Reg.SDS_TEST_LOOP p) || prbs (s.get Reg.SDS_TEST_PRBS_TX p) || prbs (s.get Reg.SDS_TEST_PRBS_RX p))))

/-- A reload is in progress (R69). -/
def State.reloading (s : State) : Bool := s.get Reg.LST_STAT_STATE == 4 || s.get Reg.LST_STAT_STATE == 5

/-- A reload or a boot has ended without a Last (R70, R389): the ports stay out of service. -/
def State.lastFailed (s : State) : Bool := s.get Reg.LST_STAT_STATE == 6 && s.get Reg.LST_STAT_ERR == 0x12

/-- The port's link for the flush states (R162). -/
def State.portLink (s : State) (p : Nat) : Bool :=
  bit s.pwr.powered (portDomain p) && bit s.pwr.powered 7 && !s.reloading && !s.lastFailed && !s.portHeld p &&
  (if p < 32 then s.flag Reg.MAC_LINK_UP p && s.flag Reg.PG_CTRL_ENABLE (0x0D0 + p) && !s.testMode p
   else if p = 32 then s.flag Reg.WLT_STAT_LINK_UP && (List.range 8).any (fun r => s.flag Reg.HDM_RX_CFG_EN 0 r)
   else true)

/-- FLUSH_START (R162, R163): the port's copies are discarded as FLUSHED, frames it was receiving are lost with
poison cause 8. -/
def State.flushStart (s : State) (p : Nat) (fault : Bool := false) : State :=
  let s := s.creditSync p
  let s := s.put Reg.SOL_PORT_STATE_STATE psFLUSHING 0 p
  let n := s.get Reg.SOL_PORT_STATE_FLUSHES 0 p
  let s := s.put Reg.SOL_PORT_STATE_FLUSHES (min 255 (n + 1)) 0 p
  let s := { s with sole := { s.sole with held := s.sole.held.filter (· != p) } }
  let s := s.attemptsClear p
  let s := if p < 32 then s.macSet p { s.mac p with ka := none, kaTx := none } else s
  let s := if p < 32 then s.portCauseSet Reg.MAC_CAUTIOUS_RETURN p false else s
  let s := (s.clr.copies.filter (fun c => c.port == p)).foldl (fun s c =>
    let s := if c.begun then s.macCnt p 28 else s
    let s := s.dropCopy c dkFlushed
    match (s.frame c.frame).bind Frame.route with
    | some r =>
      if 33 ≤ p && (s.frame c.frame).isSome then s.fault (0x110 + (4 * (p - 33) + r / 1024 % 4)) 0x1D80 else s
    | none => s) s
  let s := (s.clr.frames.filter (fun f => f.port == p && !f.whole && f.lost.isNone)).foldl (fun s f =>
    let s := (s.spoil f.id 8 fault).rxFlush p
    if p < 32 && s.flag Reg.MAC_LINK_UP p then s.dropFrame f.id else s.killFrame f.id) s
  s.reap.budget

/-- Bring a port's flush state into step with its link (R161): the flush trigger, a link that drops again, and a link
that returns. -/
def State.portSync (s : State) (p : Nat) (fault : Bool := false) : State :=
  let up := s.portLink p
  let st := s.portState p
  if !up then
    if st = psUP || st = psRETURNING then s.flushStart p fault
    else if st = psHELD then s.put Reg.SOL_PORT_STATE_STATE psFLUSHING 0 p
    else s
  else if st = psFLUSHING then
    let s := s.put Reg.SOL_PORT_STATE_STATE psHELD 0 p
    if s.sole.held.contains p then s
    else
      let s := { s with sole := { s.sole with held := p :: s.sole.held } }
      s.put Reg.SOL_PORT_STATE_HELDS (min 255 (s.get Reg.SOL_PORT_STATE_HELDS 0 p + 1)) 0 p
  else if st = psDOWN then
    let s := s.put Reg.SOL_PORT_STATE_STATE psRETURNING 0 p
    let s := if p < 32 then s.portCauseSet Reg.MAC_CAUTIOUS_RETURN p true else s
    s.budget
  else s

/-- Bring every port into step. -/
def State.portSyncAll (s : State) : State := (List.range 37).foldl (fun s p => s.portSync p) s

/-- µs for which the transmitter of port p has been held that TX_PAUSED_US does not hold yet (R226). -/
def State.heldUs (s : State) (p : Nat) : Nat :=
  match (s.mac p).heldAt with
  | some t => (s.now - t + (s.mac p).heldNs) / 1000
  | none => 0

/-- Bring TX_PAUSED_US up to this moment. -/
def State.heldSync (s : State) (p : Nat) : State :=
  match (s.mac p).heldAt with
  | none => s
  | some t =>
    let now := s.now
    let d := now - t + (s.mac p).heldNs
    (s.macCnt p 29 (d / 1000)).macSet p { s.mac p with heldAt := some now, heldNs := d % 1000 }

/-- Follow whether the transmitter of port p is held (R224): a held period begins, or ends and has been counted in
TX_PAUSED_US. -/
def State.pauseTrack (s : State) (p : Nat) : State :=
  let held := s.flag Reg.MAC_PAUSE_STAT_PAUSED p || s.get Reg.MAC_PAUSE_STAT_CLASSES p != 0
  if (s.mac p).heldAt.isNone then
    let t := s.now
    if held then s.macSet p { s.mac p with heldAt := some t } else s
  else if held then s
  else
    let s := s.heldSync p
    s.macSet p { s.mac p with heldAt := none }

/-- Every pause in effect on port p ends, and the watchdog's held period with it (R222, R224). -/
def State.pauseEnd (s : State) (p : Nat) : State :=
  ((s.put Reg.MAC_PAUSE_STAT_PAUSED 0 p).put Reg.MAC_PAUSE_STAT_CLASSES 0 p).pauseTrack p

/-- Port p loses link (R214): counted, LINK_DOWN raised, its pauses ended, those sent and those received, and the port flushed. -/
def State.linkLost (s : State) (p : Nat) (fault : Bool := false) : State :=
  if !s.flag Reg.MAC_LINK_UP p then s
  else
    let s := s.put Reg.MAC_LINK_UP 0 p
    let s := s.inc Reg.MAC_LINK_DOWNS 1 p
    let s := s.raise Reg.MAC_IRQ_LINK_DOWN p
    let s := s.pauseEnd p
    let s := s.macSet p { s.mac p with xoff := false }
    let s := s.portSync p fault
    let s := (s.clr.frames.filter (fun f => f.port == p && !f.whole)).foldl (fun s f => s.killFrame f.id) s
    let s := s.put Reg.MAC_LINK_RATE 0 p
    (s.put Reg.MAC_LATENCY_TX 0 p).put Reg.MAC_LATENCY_RX 0 p

/-- The flush of port p is complete (R164): no copy of the port, and no partial frame of it. -/
def State.flushDone (s : State) (p : Nat) : Bool :=
  !(s.clr.copies.any (fun c => c.port == p)) && !(s.clr.frames.any (fun f => f.port == p && !f.whole && f.lost.isNone))

end Sys2Proof.Machine
end

