-- ==== Sys2Proof/Machine/Rules.lean ====
section
/-! DEFINITION. The stages between parsing and enqueue: the punt bucket and port defaults (R88, R100, R102), meters
(R111–R115), lookup (R71, R72, R98, R109), the rules stage (R103–R107) and the marking of mirror copies (R120, R122). -/
namespace Sys2Proof.Machine

/-! ### The punt path -/

/-- One token in the bucket's units: the rate adds RATE of them each ns. -/
def puntUnit : Nat := 1000000000

/-- The punt bucket of R100: refill, then let in or refuse one frame of a reason. -/
def State.puntAdmit (s : State) (r : Nat) : Bool × State :=
  let now := s.now
  let t := min (s.puntBurst * puntUnit) (s.clr.tokens + s.puntRate * (now - s.clr.puntLast))
  let s := s.clrSet (fun c => { c with puntLast := now })
  if puntUnit ≤ t then
    (true, (s.clrSet (fun c => { c with tokens := t - puntUnit })).inc Reg.CLR_PUNTED_COUNT 1 0 r)
  else
    let s := s.clrSet (fun c => { c with tokens := t })
    (false, (s.inc Reg.CLR_PLIMITED_COUNT 1 0 r).raise Reg.CLR_IRQ_PUNT_LIMITED)

/-- Offer a frame to the punt path: it is fated to be punted, or dropped as PUNT_LIMITED. -/
def State.puntFrame (s : State) (fid r : Nat) : State :=
  let a := s.puntAdmit r
  a.2.modFrame fid (fun f => { f with fate := if a.1 then .punt r else .drop })

/-- The port default of R102 for a reason 0–4: punt, or drop counted in CLR_PDROP.  While the frame's end is still to
come, the drop is counted at the end, when no MAC error can take its place (R89). -/
def State.portDefault (s : State) (fid r : Nat) : State :=
  match s.frame fid with
  | none => s
  | some f =>
    if bit (s.dfltDrop f.port) r then
      let s := s.modFrame fid (fun g => { g with fate := .drop, pdrop := if f.whole then none else some r })
      if f.whole then s.inc Reg.CLR_PDROP_COUNT 1 0 r else s
    else s.puntFrame fid r

/-! ### Meters -/

/-- A colour of R112. -/
inductive Colour where
  | green | yellow | red
deriving DecidableEq, Repr

/-- Every meter starts at this moment (R113). -/
def State.metersStart (s : State) : State :=
  let t := s.now
  s.clrSet (fun c => { c with meters := [], metersAt := t })

/-- Meter m as the application of the Last, or a BLOCK reset of the MTR page, started it (R113). -/
def State.meterStart (s : State) (m : Nat) : Meter :=
  let c := s.meterCfg false m
  ⟨c.cbs * 65536, c.pbs * 65536, s.clr.metersAt, 0, 0, 0⟩

/-- Meter m. -/
def State.meter (s : State) (m : Nat) : Meter := (AMap.find s.clr.meters m).getD (s.meterStart m)
def State.meterSet (s : State) (m : Nat) (x : Meter) : State := s.clrSet (fun c => { c with meters := AMap.ins c.meters m x })

/-- Saturating count of 32 bits. -/
def sat32 (n : Nat) : Nat := min 4294967295 n

/-- The routine of R112: the refilled buckets, then the colour of B units that arrive yellow or green. -/
def meterRun (c : MeterCfg) (m : Meter) (now : Nat) (yellow : Bool) (size : Nat) : Colour × Meter :=
  let dt := now - m.last
  let tc := min (c.cbs * 65536) (m.tc + c.cir * dt * 65536 / 1000000000)
  let tp := min (c.pbs * 65536) (m.tp + c.pir * dt * 65536 / 1000000000)
  let b := size * 65536
  let done := fun (col : Colour) (tc tp : Nat) =>
    (col, (⟨tc, tp, now, sat32 (m.green + b2n (col == .green)), sat32 (m.yellow + b2n (col == .yellow)),
      sat32 (m.red + b2n (col == .red))⟩ : Meter))
  if !c.alg then
    if tp < b then done .red tc tp
    else if yellow || tc < b then done .yellow tc (tp - b)
    else done .green (tc - b) (tp - b)
  else
    if !yellow && decide (b ≤ tc) then done .green (tc - b) tp
    else if b ≤ tp then done .yellow tc (tp - b)
    else done .red tc tp

/-- METER_FRAME: offer a frame of n bytes, whose outer tag has DEI or not, to meter m under an epoch (R112, R114). -/
def State.meterFrame (s : State) (prev : Bool) (m n : Nat) (dei : Bool) : Colour × State :=
  let c := s.meterCfg prev m
  let r := meterRun c (s.meter m) s.now (c.aware && dei) (if c.frames then 1 else n)
  (r.1, s.meterSet m r.2)

/-! ### Lookup -/

/-- The match key as 25 bytes: profile, then key. -/
def lookupKey (profile : Nat) (key : List Byte) : List Byte := BitVec.ofNat 8 profile :: padTo 24 key

/-- The first matching slot of a bucket of FLOW_EXACT (R71, R72). -/
def State.bucketMatch (s : State) (prev : Bool) (b profile : Nat) (key : List Byte) : Option Nat :=
  (List.range 4).findSome? (fun k =>
    let x := (s.secBytes 2 ((1 + b / 2) * 256 + b % 2 * 128 + 32 * k) 32 true prev).getD []
    if bit (leNat (sub x 25 1)) 0 && x.take 24 == padTo 24 key && leNat (sub x 24 1) == profile
    then some (leNat (sub x 26 2)) else none)

/-- The exact-match lookup (R71, R72). -/
def State.exactMatch (s : State) (prev : Bool) (profile : Nat) (key : List Byte) : Option Nat :=
  if s.hasSec 2 then
    let m := lookupKey profile key
    let h := fun o => crc32c (s.secLE 2 o 4 true prev) m % 32768
    match s.bucketMatch prev (h 0) profile key with
    | some r => some r
    | none => s.bucketMatch prev (h 4) profile key
  else none

/-- The bucket to which the nodes of RULE_TREE lead a key (R98, R108). -/
def State.treeBucket (s : State) (prev : Bool) (profile : Nat) (key : List Byte) : Option Nat :=
  match s.section_ 3 with
  | none => none
  | some x => Config.treeBucket ((s.secBytes 3 0 ((x.pages - 2048) * 256) true prev).getD []) profile key

/-- The matching leaf of a bucket of RULE_TREE (R108, R109): lowest PRIO, then lowest slot. -/
def State.leafMatch (s : State) (prev : Bool) (bucket profile : Nat) (key : List Byte) : Option Nat :=
  match s.section_ 3 with
  | none => none
  | some x =>
    let base := (x.pages - 2048 + bucket % 2048) * 256
    let hit := (List.range 4).foldl (fun (acc : Option (Nat × Nat)) k =>
      let b := (s.secBytes 3 (base + 64 * k) 64 true prev).getD []
      let masked := List.zipWith (fun a m => a &&& m) (padTo 24 key) (sub b 24 24)
      if bit (leNat (sub b 49 1)) 0 && leNat (sub b 48 1) == profile && masked == b.take 24 then
        let prio := leNat (sub b 50 2)
        match acc with
        | some (p, _) => if prio < p then some (prio, leNat (sub b 52 2)) else acc
        | none => some (prio, leNat (sub b 52 2))
      else acc) none
    hit.map (fun c => c.2)

/-! ### Mirror copies: marking -/

/-- Toecap decrypted the frame at ingress. -/
def Frame.decrypted (f : Frame) : Bool := f.secTag.isSome && bit (leNat (sub f.bytes 14 1)) 3

/-- Toecap decrypted the frame, or its action or an egress port of its set binds it for encryption (R122, R282). -/
def State.mirrorProtected (s : State) (f : Frame) : Bool :=
  let prev := s.prevEpoch f.epoch
  let sealed := fun (p : Nat) => (s.txBinding f.epoch (s.cryptoOf f) p).isSome
  f.decrypted ||
  (match s.cryptoOf f with
    | some b => (s.binding prev b).type == 1
    | none => false) ||
  (match f.fate with
    | .permit e => (List.range 24).any (fun p => bit e p && sealed p)
    | .direct p _ => sealed p
    | _ => false)

/-- Mark a frame for session n's copy at its release, or count it MIR_PROTECTED; at most one copy a session (R120,
R122). -/
def State.mirrorMark (s : State) (fid n : Nat) : State :=
  match s.frame fid with
  | none => s
  | some f =>
    let c := s.session f.epoch n
    if bit f.mirrored n || !c.enable then s
    else
      let s := s.modFrame fid (fun f => { f with mirrored := setBit f.mirrored n true })
      if s.mirrorProtected f && !c.plainOk then s.inc Reg.MIR_PROTECTED_COUNT 1 0 (n - 1)
      else s.modFrame fid (fun f => { f with mirrorDue := f.mirrorDue ++ [n] })

/-- The ingress and action points of R120: the frame leaves a Clicker on a port of ING_MASK, and its action names a
session. -/
def State.mirrorMarks (s : State) (fid : Nat) : State :=
  match s.frame fid with
  | none => s
  | some f =>
    let s := [1, 2, 3, 4].foldl (fun s n => if bit (s.session f.epoch n).ing f.port then s.mirrorMark fid n else s) s
    match f.handle with
    | some h => let n := (s.action f.epoch h).mirror
                if n = 0 then s else s.mirrorMark fid n
    | none => s

/-! ### The rules stage -/

/-- DEI of the outer tag as received (R106, R114). -/
def Frame.dei (f : Frame) : Bool :=
  match f.tags with
  | o :: _ => bit (leNat (sub f.body (o + 2) 1)) 4
  | [] => false

/-- Add a frame to its flow's counters (R117). -/
def State.flowCount (s : State) (h n : Nat) : State :=
  s.clrSet (fun c =>
    { c with
      fcFrames := AMap.set cellDflt c.fcFrames h ((AMap.get cellDflt c.fcFrames h + 1) % 2 ^ 64)
      fcBytes := AMap.set cellDflt c.fcBytes h ((AMap.get cellDflt c.fcBytes h + n) % 2 ^ 64) })

/-- The egress set of R104. -/
def egressSet (a : Action) (port : Nat) : Nat :=
  let m := a.mask % 2 ^ 33
  let m := if port < 32 then setBit m port false else m
  match a.route with
  | some r => setBit m (33 + r / 4096) true
  | none => m

/-- Steps 5 to 8 of R103: punt, egress set, rewrite and crypto binding (which the copies read from the entry). -/
def State.rulesPermit (s : State) (fid : Nat) (f : Frame) (a : Action) : State :=
  if a.disp = 2 then
    (s.modFrame fid (fun f => { f with puntCode := a.puntCode })).puntFrame fid 5
  else
    let e := egressSet a f.port
    if e = 0 then (s.inc Reg.RUL_NULL_PERMIT_COUNT).modFrame fid (fun f => { f with fate := .drop })
    else
      let s := if !f.tagged && (a.vlanOp = 2 || a.vlanOp = 3) then s.inc Reg.RUL_REWRITE_NOP_COUNT else s
      s.modFrame fid (fun f => { f with fate := .permit e, route := a.route })

/-- RULES_STAGE (R103): the action entry of handle h under the frame's epoch. -/
def State.rulesStage (s : State) (fid h : Nat) : State :=
  match s.frame fid with
  | none => s
  | some f =>
    let a := s.action f.epoch h
    let s := s.modFrame fid (fun f => { f with handle := some h })
    let s := if a.count then s.flowCount h f.rxLen else s
    if a.disp = 1 || a.disp = 3 then (s.inc Reg.RUL_DROPPED_COUNT).modFrame fid (fun f => { f with fate := .drop })
    else match a.meter with
      | none => s.rulesPermit fid f a
      | some m =>
        let prev := s.prevEpoch f.epoch
        let r := s.meterFrame prev m f.rxLen f.dei
        match r.1 with
        | .red =>
          if a.redPunt then r.2.puntFrame fid 6 else r.2.modFrame fid (fun f => { f with fate := .drop })
        | .yellow =>
          let mark := (s.meterCfg prev m).markDei
          (r.2.modFrame fid (fun f => { f with yellow := true, markDei := mark })).rulesPermit fid { f with yellow := true } a
        | .green => r.2.rulesPermit fid f a

end Sys2Proof.Machine
end

