-- ==== Sys2Proof/Machine/Enqueue.lean ====
section
/-! DEFINITION. Step 6 of the path: the queue of a copy (R168, R169), SOLE_ADMIT (R148–R151), the cut-through decision
(R22, R23, R32, R154) and mirror copies (R121, R123). -/
namespace Sys2Proof.Machine

/-- The queue that a selector resolves to at port p (R168): none where the copy is refused, counted in SCH_QMAP_BAD. -/
def State.resolve (s : State) (epoch p sel : Nat) : Option Nat × State :=
  let q := s.qmap epoch p sel
  if s.ownsQueue p q then (some q, s)
  else
    let s := (s.inc Reg.SCH_QMAP_BAD_COUNT 1 p).raise Reg.SCH_IRQ_QMAP_BAD p
    if s.ownsQueue p (s.dfltQ p) then (some (s.dfltQ p), s) else (none, s)

/-- The queue of punted frames (R169); one that no subscriber of port 32 serves refuses them as a bad selector does
(assumption log 10). -/
def State.resolvePunt (s : State) : Option Nat × State :=
  let q := s.puntQ 32
  if s.hasSec 6 && s.ownsQueue 32 q then (some q, s)
  else (none, (s.inc Reg.SCH_QMAP_BAD_COUNT 1 32).raise Reg.SCH_IRQ_QMAP_BAD 32)

/-- Cut-through is allowed for a copy of frame f to place i of port p (R22, R23, R32, R154). -/
def State.mayCutThrough (s : State) (f : Frame) (p i : Nat) : Bool :=
  let c := s.portCrypto (s.prevEpoch f.epoch) f.port
  let verifyFirst := c.rxEn && c.validate != 2 && !c.release
  let cautious := s.portCautious p || s.portCautious f.port
  !f.whole && decide (f.port < 32) && decide (p < 32) && s.svcCt i && !verifyFirst &&
  (!cautious || (!(s.clr.copies.any (fun c => c.port == p)) && decide (s.portRate p ≤ s.portRate f.port)))

/-- A frame for which no pool has a cell is dropped, and every copy counted SOLE_FULL (R149); where only mirror copies hold it,
they alone are dropped (R151). -/
def State.noCell (s : State) (fid : Nat) : State :=
  let cs := s.copiesOf fid
  if cs.any (fun c => c.mirror == 0) then (s.spoil fid 9).dropFrame fid
  else (cs.filter (fun c => c.own.isEmpty)).foldl (fun s c => ((s.creditSync c.port).mirrorDrop c.mirror false).rmCopy c.id) s

/-- Draw the cells for the bytes of a frame that have arrived, the first at once and each next one as its first byte comes
(R149), and have the bytes of complete cells, or of a whole frame, written (R126); false on shortage. -/
def State.storeFrame (s : State) (fid : Nat) : Bool × State :=
  match s.frame fid with
  | none => (true, s)
  | some f =>
    let came := s.arrived f
    let need := cellsFor (max 1 came) - f.cellCount
    let r := s.drawCells fid (s.poolOrder f) need
    if r.1 ≠ 0 then (false, r.2.noCell fid)
    else
      let b := if f.whole then f.rxLen else came / 128 * 128
      let s := (r.2.modFrame fid (fun f => { f with stored := b })).fabWrote fid need f.stored b
      (true, s.fabLinked fid (need * f.enqueued) (need * (f.enqueued - 1)))

/-- Enqueue one admitted copy; `own` is the cell that a truncated mirror copy has of its own. -/
def State.addCopy (s : State) (f : Frame) (p i q mirror : Nat) (own : List Nat) (ct : Bool) (data : Option (List Byte)) : State :=
  let s := s.creditSync p
  let c : Copy :=
    { id := s.clr.nextId, frame := f.id, port := p, svc := i, queue := q, epoch := f.epoch, ct := ct, st := .queued,
      mirror := mirror, own := own, data := data, charged := 0, excess := false, sa := none, pn := 0,
      express := s.svcExpress i, tagFail := false,
      asked := 0, runAt := 0, sent := 0 }
  let s := s.clrSet (fun k => { k with copies := k.copies ++ [c], nextId := k.nextId + 1 })
  if own.isEmpty then
    let g := (s.frame f.id).getD f
    (s.modFrame f.id (fun f => { f with enqueued := f.enqueued + 1 })).fabLinked f.id g.cellCount
      (if g.enqueued = 0 then 0 else g.cellCount)
  else (s.fabWrote f.id own.length 0 128).fabLinked f.id own.length 0

/-- SOLE_ADMIT for one copy of a frame on queue q of port p (R148, R163).  The frame's cells are drawn when every copy has had
its test (R149). -/
def State.admitCopy (s : State) (fid p q : Nat) : State :=
  match s.frame fid, s.queuePlace q with
  | some f, some i =>
    if !s.inService p then s.svcDrop i dkFlushed
    else match s.admitTo i f.yellow with
      | none => s.svcDrop i dkFull
      | some pool =>
        (s.addCopy f p i q 0 [] (s.mayCutThrough f p i) none).modFrame fid
          (fun f => { f with pool := if f.pool.isNone then some pool else f.pool })
  | _, _ => s

/-- The mirror copy of session n (R121, R123, R151); b is its bytes without FCS, before truncation. -/
def State.mirrorCopy (s : State) (fid n : Nat) (b : List Byte) : State :=
  match s.frame fid with
  | none => s
  | some f =>
    let c := s.session f.epoch n
    let r := s.resolve f.epoch c.dest c.qsel
    let s := r.2
    match r.1 with
    | none => s
    | some q =>
      match s.queuePlace q with
      | none => s
      | some i =>
        if !s.inService c.dest || s.sharedFree ≤ s.mirrorMargin f.epoch || s.thr i f.yellow ≤ s.svcQ i then s.mirrorDrop n false
        else if c.trunc then
          let x := s.allocCells .shared 1
          if x.1.isEmpty then s.mirrorDrop n false
          else (x.2.addCopy f c.dest i q n x.1 false (some (b.take 124))).inc Reg.MIR_COPIES_COUNT 1 0 (n - 1)
        else
          let need := if f.cells.isEmpty then cellsFor (max 1 (s.arrived f)) else 0
          if s.sharedFree < need then s.mirrorDrop n false
          else
            let s := s.addCopy f c.dest i q n [] false (if b == f.body then none else some b)
            (if need = 0 then s else (s.storeFrame fid).2).inc Reg.MIR_COPIES_COUNT 1 0 (n - 1)

/-- The copies that a released frame's fate gives it (R103, R168, R169). -/
def State.fateCopies (s : State) (fid : Nat) (f : Frame) : State :=
  let one := fun (p : Nat) (r : Option Nat × State) =>
    match r.1 with
    | some q => r.2.admitCopy fid p q
    | none => r.2
  match f.fate with
  | .permit e =>
    let sel := ((f.handle.map (s.action f.epoch)).map Action.qsel).getD 0
    (List.range 37).foldl (fun s p => if bit e p then one p (s.resolve f.epoch p sel) else s) s
  | .punt _ => one 32 s.resolvePunt
  | .direct p sel => one p (s.resolve f.epoch p sel)
  | _ => s

/-- The copies of a released frame (step 6): its fate's copies, port by port; the cells for what has arrived of it; then its mirror
copies. -/
def State.enqueueFrame (s : State) (fid : Nat) : State :=
  match s.frame fid with
  | none => s
  | some f =>
    let s := s.fateCopies fid f
    let s := if (s.copiesOf fid).isEmpty then s else (s.storeFrame fid).2
    let due := ((s.frame fid).map Frame.mirrorDue).getD []
    let s := due.foldl (fun s n => s.mirrorCopy fid n f.body) s
    (s.modFrame fid (fun f => { f with mirrorDue := [], fifo := if f.whole then 0 else f.fifo })).reap

/-- Put an Ethernet-side frame from HP or an AP port into the path whole (R23): bytes without FCS, fate as given. -/
def State.handOver (s : State) (p epoch : Nat) (body : List Byte) (g : Frame → Frame) : State :=
  let bytes := body ++ leBytes 4 (crc32Eth body)
  let f := g { s.newFrame p bytes with whole := true, epoch := epoch }
  s.addFrame f

end Sys2Proof.Machine
end

