-- ==== Sys2Proof/Machine/Parse.lean ====
section
/-! DEFINITION. The parse of a frame (R75–R83, R87–R93): which header follows, how long it is, the checks on it, the steps
of 16 bytes, and the key that a lookup takes from the parse.  Which branches a compiled graph has, and what its nodes and
profiles name, is read from the section through Config, for the spec does not give its encoding (assumption log 5). -/
namespace Sys2Proof.Machine

/-! ### The parse graph -/

/-- What a parse graph says from the start node of one ingress port: its further TPIDs, its other VXLAN port, its opaque
headers by space and value, the branches of its nodes, and the path number, the profile and the fields of a profile (R77, R81). -/
structure Graph where
  tpid : Nat → Bool
  vxlan : Nat → Bool
  opq : Nat → Nat → Option (Nat × Nat)
  branch : List Nat → Nat → Bool
  path : List Nat → Nat
  profile : List Nat → Nat
  fields : Nat → List KeyField

/-- The node of a parse graph that a path from the start node of port p reaches: the start node is that of the Ethernet header,
with which every path begins. -/
def graphNode (g : List Byte) (p : Nat) (path : List Nat) : Option Nat :=
  (path.drop 1).foldlM (fun n c => (Config.graphStep g n c).map (· % 512)) (Config.graphStart g p % 512)

/-- The graph of ingress port p; without one, no branch leads on from the Ethernet header.  A graph has at most
512 nodes, 256 profiles, two further TPIDs and one other VXLAN port; an opaque header has an even number of bytes from 4 to 64,
its next-type field within it; a profile has at most 12 fields. -/
def State.graph (s : State) (p : Nat) : Graph :=
  match s.graphBytes with
  | none => ⟨fun _ => false, fun _ => false, fun _ _ => none, fun _ _ => false, fun _ => 0, fun _ => 0, fun _ => []⟩
  | some g =>
    ⟨fun v => ((Config.graphTpids g).take 2).contains v, fun v => Config.graphVxlan g == some v,
     fun sp v => (Config.graphOpaque g sp v).map (fun x => let n := 2 * clampNat 2 32 (x.1 / 2)
                                                           (n, min x.2 (n - 2))),
     fun path next => ((graphNode g p path).bind (fun n => Config.graphStep g n next)).isSome, Config.graphPath g p,
     fun path => ((graphNode g p path).map (fun n => Config.graphProfile g n % 256)).getD 0,
     fun pr => (Config.graphKey g pr).take 12⟩

/-- Code of a header kind in a path. -/
def HdrKind.code (h : HdrKind) : Nat :=
  match h with
  | .eth => 0
  | .vlan => 1
  | .llc => 2
  | .snap => 3
  | .rtag => 4
  | .sectag => 5
  | .ipv4 => 6
  | .ipv6 => 7
  | .ext _ => 8
  | .esp => 9
  | .udp => 10
  | .tcp => 11
  | .gre => 12
  | .vxlan => 13
  | .avtp => 14
  | .acf => 15
  | .opq => 16

/-- Code of a selector in a path. -/
def Sel.code (x : Sel) : Nat :=
  match x with
  | .start => 0
  | .ether v => v
  | .proto v => 65536 + v
  | .udp v => 131072 + v
  | .subtype v => 196608 + v
  | .stop => 262144

/-- Code of a node in a path: its header and what selected it. -/
def nodeCode (h : HdrKind) (x : Sel) : Nat := h.code * 524288 + x.code

/-! ### Which header follows (R77, R78) -/

def HdrKind.isExt (h : HdrKind) : Bool := match h with
  | .ext _ => true
  | _ => false
def HdrKind.isIp (h : HdrKind) : Bool := h == .ipv4 || h == .ipv6

/-- IPv6 extension headers. -/
def isExtType (v : Nat) : Bool := v == 0 || v == 43 || v == 44 || v == 51 || v == 60

/-- The header that an EtherType selects, or a length: b is the frame, o the offset behind the field. -/
def etherHdr (g : Graph) (b : List Byte) (o v : Nat) (last : Option HdrKind) : Option HdrKind :=
  if v ≤ 0x5DC then
    if last == some .gre || last == some .opq then none
    else if sub b o 3 == [0xAA, 0xAA, 0x03] then some .snap else some .llc
  else if v = 0x8100 || v = 0x88A8 || g.tpid v then some .vlan
  else if v = 0xF1C1 then some .rtag
  else if v = 0x88E5 then some .sectag
  else if v = 0x0800 then some .ipv4
  else if v = 0x86DD then some .ipv6
  else if v = 0x22F0 then some .avtp
  else if v = 0x6558 && last == some .gre then some .eth
  else if (g.opq 0 v).isSome then some .opq else none

/-- The header that an IP protocol or a next header selects; extension headers follow only IPv6. -/
def protoHdr (g : Graph) (v : Nat) (last : Option HdrKind) : Option HdrKind :=
  if v = 4 then some .ipv4
  else if v = 41 then some .ipv6
  else if isExtType v && last != some .ipv4 then some (.ext v)
  else if v = 50 then some .esp
  else if v = 17 then some .udp
  else if v = 6 then some .tcp
  else if v = 47 then some .gre
  else if (g.opq 1 v).isSome then some .opq else none

/-- The header that a UDP destination port selects. -/
def udpHdr (g : Graph) (v : Nat) : Option HdrKind :=
  if v = 4789 || g.vxlan v then some .vxlan
  else if v = 17220 then some .avtp
  else if (g.opq 2 v).isSome then some .opq else none

/-- AVTP subtypes TSCF and NTSCF. -/
def avtpTSCF : Nat := 0x05
def avtpNTSCF : Nat := 0x82

/-- The header that follows in a parse of frame bytes b, where the graph has a branch to it. -/
def Graph.next (g : Graph) (b : List Byte) (p : Parse) : Option HdrKind :=
  let last := p.hdrs.getLast?
  let h := match p.sel with
    | .start => some .eth
    | .ether v => etherHdr g b p.depth v last
    | .proto v => protoHdr g v last
    | .udp v => udpHdr g v
    | .subtype v => if v = avtpTSCF || v = avtpNTSCF then some .acf else none
    | .stop => none
  match h with
  | none => none
  | some k => if p.hdrs.isEmpty || g.branch p.path (nodeCode k p.sel) then some k else none

/-! ### The bytes of a header -/

/-- The opaque header that the selector of a parse names. -/
def Graph.opaqueOf (g : Graph) (x : Sel) : Nat × Nat :=
  (match x with
    | .ether v => g.opq 0 v
    | .proto v => g.opq 1 v
    | .udp v => g.opq 2 v
    | _ => none).getD (4, 0)

/-- Bytes of an AVTP header by its subtype (IEEE 1722, assumption log 70): the stream header of 24, 12 of NTSCF and of the
control headers, 20 of CRF. -/
def avtpBytes (subtype : Nat) : Nat := if subtype = 0x04 then 20 else if subtype < 0x80 then 24 else 12

/-- Bytes of header h, which begins at offset o, counted from there; an Ethernet header behind a tunnel and the tags
count the type field that follows, and a SecTAG the 8 or 16 bytes that begin with its EtherType (R77). -/
def hdrSize (g : Graph) (b : List Byte) (o : Nat) (x : Sel) (h : HdrKind) : Nat :=
  let at1 := fun k => leNat (sub b (o + k) 1)
  match h with
  | .eth => 14
  | .vlan => 4
  | .llc => 3
  | .snap => 8
  | .rtag => 6
  | .sectag => if bit (at1 0) 5 then 16 else 8
  | .ipv4 => max 20 (at1 0 % 16 * 4)
  | .ipv6 => 40
  | .ext t => if t = 44 then 8 else if t = 51 then max 8 ((at1 1 + 2) * 4) else (at1 1 + 1) * 8
  | .esp => 8
  | .udp => 8
  | .tcp => max 20 (at1 12 / 16 * 4)
  | .gre => 4 + 4 * (b2n (bit (at1 0) 7) + b2n (bit (at1 0) 5) + b2n (bit (at1 0) 4))
  | .vxlan => 8
  | .avtp => avtpBytes (at1 0)
  | .acf => if at1 0 / 2 = 1 then 16 else 8
  | .opq => (g.opaqueOf x).1

/-- The parse of a frame whose SecTAG has E = 1 ends there, unless Toecap has opened it (R82). -/
def sealed (f : Frame) (o : Nat) : Bool := f.secTag.isNone && bit (leNat (sub f.bytes o 1)) 3

/-- What selects the header behind header h of n bytes at offset o (R77, R78). -/
def hdrNext (g : Graph) (f : Frame) (o n : Nat) (x : Sel) (h : HdrKind) : Sel :=
  let b := f.bytes
  let at1 := fun k => leNat (sub b (o + k) 1)
  let at2 := fun k => beNat (sub b (o + k) 2)
  match h with
  | .eth => .ether (at2 12)
  | .vlan => .ether (at2 2)
  | .llc => .stop
  | .snap => if sub b (o + 3) 3 == [0, 0, 0] then .ether (at2 6) else .stop
  | .rtag => .ether (at2 4)
  | .sectag => if sealed f o then .stop else .ether (at2 (n - 2))
  | .ipv4 => if at2 6 % 8192 != 0 then .stop else .proto (at1 9)
  | .ipv6 => .proto (at1 6)
  | .ext t => if t = 44 && at2 2 / 8 != 0 then .stop else .proto (at1 0)
  | .esp => .stop
  | .udp => .udp (at2 2)
  | .tcp => .stop
  | .gre => .ether (at2 2)
  | .vxlan => .start
  | .avtp => .subtype (at1 0)
  | .acf => .stop
  | .opq => .ether (at2 (g.opaqueOf x).2)

/-! ### Limits and values (R79, R83, R93) -/

/-- Headers of a kind in a list. -/
def countKind (hs : List HdrKind) (p : HdrKind → Bool) : Nat := (hs.filter p).length

/-- The headers after the last one that satisfies p. -/
def sinceLast (hs : List HdrKind) (p : HdrKind → Bool) : List HdrKind := (hs.reverse.takeWhile (fun h => !p h)).reverse

/-- A tunnel header: GRE, VXLAN, or an IP header directly inside IP (R79). -/
def isTunnel (hs : List HdrKind) (h : HdrKind) : Bool :=
  h == .gre || h == .vxlan || (h.isIp && (match hs.getLast? with
    | some l => l.isIp || l.isExt
    | none => false))

/-- Tunnel headers of a parse, in order. -/
def tunnels (done rest : List HdrKind) : Nat :=
  match rest with
  | [] => 0
  | h :: r => b2n (isTunnel done h) + tunnels (done ++ [h]) r

/-- The limits of R79 and R83 on header h of n bytes. -/
def depthBad (bytes hdrs : Nat) (p : Parse) (h : HdrKind) (n : Nat) : Bool :=
  let hs := p.hdrs ++ [h]
  decide (min bytes 256 < p.depth + n) || decide (min hdrs 16 < hs.length) ||
  decide (4 < countKind (sinceLast hs (· == .eth)) (· == .vlan)) ||
  decide (8 < countKind (sinceLast hs (· == .ipv6)) HdrKind.isExt) || decide (2 < tunnels [] hs) ||
  decide (1 < countKind hs (· == .sectag)) || decide (1 < countKind hs (· == .rtag)) ||
  decide (1 < countKind hs (fun k => k == .llc || k == .snap))

/-- The type field behind an Ethernet header or a tag, where it may be an 802.3 length. -/
def typeField (h : HdrKind) (x : Sel) : Option Nat :=
  match h, x with
  | .eth, .ether v => some v
  | .vlan, .ether v => some v
  | .rtag, .ether v => some v
  | .sectag, .ether v => some v
  | _, _ => none

/-- HEADER_MALFORMED (R93): b is the frame, x what selects the header behind h. -/
def malformed (b : List Byte) (p : Parse) (h : HdrKind) (x : Sel) : Bool :=
  let o := p.depth
  let at1 := fun k => leNat (sub b (o + k) 1)
  let at2 := fun k => beNat (sub b (o + k) 2)
  (match typeField h x with
    | some v => decide (1501 ≤ v) && decide (v ≤ 1535)
    | none => false) ||
  (match h with
  | .sectag => bit (at1 0) 7
  | .ipv4 => at1 0 / 16 != 4 || decide (at1 0 % 16 < 5)
  | .ipv6 => at1 0 / 16 != 6 || at2 4 == 0
  | .ext t => t == 0 && p.hdrs.getLast? != some .ipv6
  | .udp => decide (at2 4 < 8)
  | .tcp => decide (at1 12 / 16 < 5)
  | .gre => at1 1 % 8 != 0
  | .vxlan => !bit (at1 0) 3
  | _ => false)

/-! ### Lengths (R90–R92) -/

/-- A length of an enclosing extent compared with a claim: early conflict, and the late check where the extent is the
frame's own (R90–R92). -/
def extentCheck (p : Parse) (padOk : Bool) (off claim : Nat) (le sec : Bool) : Bool × List LateCheck :=
  match p.extent with
  | some e => (decide (e - off < claim) || (!le && !padOk && decide (claim < e - off)), [])
  | none => (false, [⟨off, claim, false, le, sec⟩])

/-- Early LENGTH_CONFLICT, the late checks the header adds, and the extent it sets (R91), which an 802.3 length does not; padAny: padding is allowed whatever
the inner frame (R92). -/
def lengths (b : List Byte) (p : Parse) (padAny : Bool) (h : HdrKind) (n : Nat) (x : Sel) : Bool × List LateCheck × Option Nat :=
  let o := p.depth
  let at1 := fun k => leNat (sub b (o + k) 1)
  let at2 := fun k => beNat (sub b (o + k) 2)
  let padOk := padAny || p.inner == some 60
  let sec := p.hdrs.contains .sectag
  let ext := fun (sec : Bool) (off claim : Nat) => let c := extentCheck p padOk off claim false sec
                                                   (c.1, c.2, some (off + claim))
  match typeField h x with
  | some v =>
    let sl : List LateCheck :=
      if h == .sectag && at1 1 % 64 != 0 then [⟨o - 2 + n, at1 1 % 64, true, false, true⟩] else []
    if v ≤ 0x5DC then
      let c := ext (sec || h == .sectag) (o + n) v
      (c.1, sl ++ c.2.1, p.extent)
    else (false, sl, p.extent)
  | none =>
    match h with
    | .ipv4 => let c := ext sec o (at2 2)
               (c.1 || decide (at2 2 < at1 0 % 16 * 4), c.2.1, c.2.2)
    | .ipv6 => ext sec o (40 + at2 4)
    | .ext _ => ((match p.extent with
        | some e => decide (e < o + n)
        | none => false), [], p.extent)
    | .udp => ((match p.extent with
        | some e => e - o != at2 4
        | none => false), [], some (o + at2 4))
    | .tcp => ((match p.extent with
        | some e => decide (e - o < at1 12 / 16 * 4)
        | none => false), [], p.extent)
    | .avtp =>
      match (if at1 0 = avtpNTSCF then some (at2 1 % 2048) else if n = 24 then some (at2 20) else none) with
      | none => (false, [], p.extent)
      | some claim =>
        let c := extentCheck p padOk (o + n) claim true sec
        (c.1, c.2, some (o + n + claim))
    | .acf => ((match p.extent with
        | some e => decide (e - o < at2 0 % 512 * 4)
        | none => false), [], p.extent)
    | .sectag => (false, (if at1 1 % 64 = 0 then [] else [⟨o - 2 + n, at1 1 % 64, true, false, true⟩]), p.extent)
    | _ => (false, [], p.extent)

/-! ### Headers and steps -/

/-- One recognised header of n bytes: the parse after it, or the reason that ends it (R89): 1 DEPTH_EXCEEDED,
4 TRUNCATED, 3 HEADER_MALFORMED, 2 LENGTH_CONFLICT.  A SecTAG's bytes begin with the type field in front of it; behind one
that ends the parse no type field is read. -/
def parseHdr (g : Graph) (bytes hdrs : Nat) (padAny : Bool) (f : Frame) (p : Parse) (h : HdrKind) (n : Nat) : Parse :=
  let stop := fun (r : Nat) => { p with ended := true, outcome := some r }
  let used := if h == .sectag && sealed f p.depth then n - 2 else n
  let x := hdrNext g f p.depth n p.sel h
  if depthBad bytes hdrs p h used then stop 1
  else if f.bytes.length - 4 < p.depth + used then stop 4
  else if malformed f.bytes p h x then stop 3
  else
    let inner := if h == .eth && !p.hdrs.isEmpty then p.extent.map (fun e => e - p.depth) else p.inner
    let l := lengths f.bytes { p with inner := inner } (padAny || (inner.isNone && f.rxLen == 64)) h n x
    if l.1 then stop 2
    else
      { depth := p.depth + used, hdrs := p.hdrs ++ [h], offs := p.offs ++ [p.depth]
        path := p.path ++ [nodeCode h p.sel], sel := x, steps := p.steps, extent := l.2.2
        inner := inner
        late := p.late ++ l.2.1, ended := p.ended, outcome := p.outcome }

/-- The step engine has bytes up to offset `window`, and can take in a header that ends at offset e: within the window, or
where no further step will bring more of the frame (R75, R83). -/
def stepHolds (bytes : Nat) (f : Frame) (window e : Nat) : Bool :=
  decide (e ≤ window) || decide (min bytes 256 ≤ window) || (f.whole && decide (f.bytes.length - 4 ≤ window))

/-- The headers that the bytes up to `window` complete, at most `fuel` of them; the parse ends cleanly where no branch leads
on (R78). -/
def parseHdrs (g : Graph) (bytes hdrs : Nat) (padAny : Bool) (f : Frame) (window : Nat) (p : Parse) (fuel : Nat) : Parse :=
  match fuel with
  | 0 => p
  | fuel + 1 =>
    if p.ended then p
    else match g.next f.bytes p with
      | none => { p with ended := true }
      | some h =>
        let n := hdrSize g f.bytes p.depth p.sel h
        if stepHolds bytes f window (p.depth + n) then
          parseHdrs g bytes hdrs padAny f window (parseHdr g bytes hdrs padAny f p h n) fuel
        else p

/-- The next step's 16 bytes of a frame are present, or its end is (R75, R94 step 3). -/
def State.stepReady (s : State) (f : Frame) : Bool := f.whole || decide (16 * (f.parse.steps + 1) ≤ s.arrived f)

/-- One parse step on a frame: 16 bytes more. -/
def State.parseOn (s : State) (f : Frame) : Parse :=
  parseHdrs (s.graph f.port) (s.depthBytes f.port) (s.depthHdrs f.port) s.padAny f (16 * (f.parse.steps + 1))
    { f.parse with steps := f.parse.steps + 1 } 18

/-- The late length checks at the end of the frame (R90–R92). -/
def lateBad (padAny : Bool) (f : Frame) : Bool :=
  f.parse.late.any (fun c =>
    let e := f.bytes.length - 4 - (if c.sec then 16 else 0) - c.off
    decide (e < c.claim) || (!c.le && (c.eq || !(padAny || f.rxLen == 64)) && decide (c.claim < e)))

/-! ### The key (R81) -/

/-- The bits [off, off + w) of a list of bytes, the first bit of a byte its most significant one. -/
def bitsAt (b : List Byte) (off w : Nat) : Nat :=
  let n := ceilDiv (off % 8 + w) 8
  beNat (padTo n (sub b (off / 8) n)) / 2 ^ (8 * n - off % 8 - w) % 2 ^ w

/-- A header of the parse is an IP fragment's. -/
def fragHdr (b : List Byte) (c : HdrKind × Nat) : Bool :=
  match c.1 with
  | .ipv4 => beNat (sub b (c.2 + 6) 2) % 16384 != 0
  | .ext t => t == 44
  | _ => false

/-- The fragment flag, and the SecTAG-present flag above it. -/
def Frame.keyFlags (f : Frame) : Nat :=
  b2n ((f.parse.hdrs.zip f.parse.offs).any (fragHdr f.bytes)) + 2 * b2n (f.parse.hdrs.contains .sectag)

/-- The value of a field of a profile; a field of a header that the parse has not met is 0. -/
def Frame.keyValue (f : Frame) (g : Graph) (k : KeyField) : Nat :=
  match k.src with
  | .header n o => ((f.parse.offs[n]?).map (fun x => bitsAt f.bytes (8 * (x - 2) + o) k.width)).getD 0
  | .port => f.port
  | .path => g.path f.parse.path
  | .flags => f.keyFlags

/-- The 24-byte key of a frame under the profile that its terminal node selects; unused bytes are 0. -/
def Frame.key (f : Frame) (g : Graph) : List Byte :=
  beBytes 24 ((g.fields (g.profile f.parse.path)).foldl (fun a k =>
    if k.pos + k.width ≤ 192 then a ||| (f.keyValue g k % 2 ^ k.width) <<< (192 - k.pos - k.width) else a) 0)

/-- The flow handle that a frame's key finds: the exact match, else the leaf that the nodes of RULE_TREE reach (R98). -/
def State.flowHandle (s : State) (f : Frame) : Option Nat :=
  let prev := s.prevEpoch f.epoch
  let g := s.graph f.port
  let profile := g.profile f.parse.path
  match s.exactMatch prev profile (f.key g) with
  | some h => some h
  | none => (s.treeBucket prev profile (f.key g)).bind (fun b => s.leafMatch prev b profile (f.key g))

end Sys2Proof.Machine
end

