-- ==== Sys2Proof/Machine/Path.lean ====
section
/-! DEFINITION. The path of a frame from its arrival to its release (R86–R97, R217–R220, R278–R281), and the Clickers'
stalls (R95, R96). -/
namespace Sys2Proof.Machine

/-! ### Slots and contexts -/

/-- Reorder slots of port p occupied. -/
def State.slots (s : State) (p : Nat) : Nat := (s.clr.frames.filter (fun f => f.port == p && f.slot)).length

/-- Frames of port p that wait for a slot take the free ones, oldest first (R94 step 1). -/
def State.takeSlots (s : State) (p : Nat) : State :=
  let free := 64 - s.slots p
  let wait := ((s.clr.frames.filter (fun f => f.port == p && !f.slot && f.stage == .waiting)).take free).map Frame.id
  s.clrSet (fun c => { c with frames := c.frames.map (fun f => if wait.contains f.id then { f with slot := true } else f) })

/-- The frame that is arriving at port p: the latest one that is not whole. -/
def State.arriving (s : State) (p : Nat) : Option Frame := s.clr.frames.reverse.find? (fun f => f.port == p && !f.whole)

/-- Bytes of the receive FIFO that a frame holds: its claim, and once it is whole and has been released what of it has not been
written into the Sole (R129, R220). -/
def State.fifoOf (s : State) (f : Frame) : Nat := if f.whole && f.stage == .out then s.writesWait f.id else f.fifo

/-- Bytes of the receive FIFO in use. -/
def State.fifoFill (s : State) (p : Nat) : Nat := s.clr.frames.foldl (fun a f => if f.port = p then a + s.fifoOf f else a) 0

/-- The claim of a frame of which n bytes have come, where the longest frame has m: min(m, 2,048) at its SFD, and further steps of 128
bytes (R220). -/
def fifoClaim (m n : Nat) : Nat := min m 2048 + ceilDiv (min n m - min m 2048) 128 * 128

/-- The frame in a Clicker context. -/
def State.context (s : State) (c k : Nat) : Option Frame := s.clr.frames.find? (fun f => f.stage == .clicker c k)

/-- A free context of Clicker c. -/
def State.freeCtx (s : State) (c : Nat) : Option Nat := (List.range 4).find? (fun k => (s.context c k).isNone)

/-! ### Arrival -/

/-- Bytes of the tags that b begins with, of at most n tags. -/
def tagsLen (n : Nat) (b : List Byte) : Nat :=
  match n with
  | 0 => 0
  | n + 1 => if beNat (b.take 2) = 0x8100 || beNat (b.take 2) = 0x88A8 then 4 + tagsLen n (b.drop 4) else 0

/-- Where the EtherType behind a frame's tags stands. -/
def ctlOff (b : List Byte) : Nat := 12 + tagsLen b.length (b.drop 12)

/-- A MAC control frame: its EtherType, behind any tags, is 0x8808 (R221, assumption log 67). -/
def macControl (b : List Byte) : Bool := beNat (sub b (ctlOff b) 2) == 0x8808

/-- A PTP frame that enters a gPTP port and belongs to the instance of an enabled domain: the firmware takes it, and it is no
ordinary traffic (R188).  Its sdoId is that of the instance, 0x100 with its domainNumber, or 0x200, that of the common mean link delay
service where the domain uses it (PRESUMED, IEEE 802.1AS, assumption log 92). -/
def State.ptpOwn (s : State) (p : Nat) (b : List Byte) : Bool :=
  let sdo := leNat (sub b 14 1) / 16 * 256 + leNat (sub b 19 1)
  decide (p < 24) && sub b 12 2 == [0x88, 0xF7] &&
  [0, 1].any (fun d => s.domEn d && bit (s.ptp d 5 0) p &&
    (if sdo = 0x200 then s.ptp d 6 0 % 2 == 1 else sdo == 0x100 && s.ptp d 1 0 % 128 == leNat (sub b 18 1)))

/-- The check of R278 that a frame at port p fails before the Clickers. -/
def State.rxFails (s : State) (p : Nat) (b : List Byte) : Option (Nat × Option (Nat × Nat)) :=
  match s.rxCheck p b with
  | .drop n err => some (n, err)
  | _ => none

/-- A frame that arrives at a port which a reload or its own return keeps out of service: it is counted as FLUSHED, and by its MAC at
its end (R69, R163, R226). -/
def State.flushedArrival (s : State) (p : Nat) (bytes : List Byte) : State :=
  (s.rxFlush p).addFrame { s.newFrame p bytes with stage := .out, fate := .drop, lost := some false }

/-- ETH_FRAME_ARRIVAL: a frame, DA through FCS as it will have arrived, starts at port p (R94 step 1, R163, R220). -/
def ethFrameArrival (p : Nat) (bytes : List Byte) (s : State) : State :=
  if macControl bytes then s
  else if !s.inService p then (if s.portState p = psHELD || s.reloading then s.flushedArrival p bytes else s)
  else
    let s := s.fabNow
    let need := fifoClaim (s.maxFrame p) 0
    if fifoSize p < s.fifoFill p + need then
      (s.macCnt p 11).addFrame { s.newFrame p bytes with stage := .out, fate := .drop, lost := some true }
    else if s.ptpOwn p bytes then
      s.addFrame { s.newFrame p bytes with fifo := need, stage := .out, fate := .drop, toecap := s.rxFails p bytes }
    else (s.addFrame { s.newFrame p bytes with fifo := need }).takeSlots p

/-! ### Toecap's verdicts -/

/-- A frame that a receive check of Toecap drops is counted, with the capture of R288 where the check is one of its limits. -/
def State.toecapDrop (s : State) (p n : Nat) (err : Option (Nat × Nat)) : State :=
  match err with
  | some (code, bind) => (s.tcCount p n).tcErr code bind
  | none => s.tcCount p n

/-- The verdict of ICV_VERIFY (R278–R281): true where the frame goes on. -/
def State.icvVerify (s : State) (fid : Nat) : Bool × State :=
  match s.frame fid with
  | none => (true, s)
  | some f =>
    match f.rxSa with
    | none => (true, s)
    | some (n, pn) =>
      let x := s.sa n
      let c := s.portCrypto (s.prevEpoch f.epoch) f.port
      let s := s.modFrame fid (fun f => { f with rxSa := none })
      if f.icvOk then
        let s := s.saSet n { x with pn := max x.pn (pn + 1 - c.win), ok := min 4294967295 (x.ok + 1) }
        (true, s.tcCount f.port tcRxOk)
      else
        let s := s.saSet n { x with bad := min 4294967295 (x.bad + 1) }
        let s := (s.tcCount f.port tcTagFail).raise Reg.TCA_IRQ_TAG_FAIL
        let cs := s.copiesOf fid
        let hp := cs.filter (fun c => c.port == 32 && c.mirror == 0)
        let report := c.release && !hp.isEmpty
        let s := if c.release && (cs.any Copy.begun || f.poisoned) then
            (s.tcCount f.port tcReleasedFail).raise Reg.TCA_IRQ_RELEASED_FAIL else s
        -- the report takes the place of the HP copy: it stays queued, with the frame as decrypted, and counts as it is written
        let s := if c.release then hp.foldl (fun s h => s.modCopy h.id (fun c => { c with tagFail := true })) s else s
        let s := s.spoil fid 5
        if report then (false, s.modFrame fid (fun f => { f with whole := true, fifo := 0, fate := .drop, stage := .out }))
        else (false, s.killFrame fid)

/-! ### Dispatch -/

/-- Step times that a frame of port p is charged, in quarters: 1.25 × max(6, BYTES/16) (R76). -/
def State.stepCharge (s : State) (p : Nat) : Nat := 5 * max 6 (s.depthBytes p / 16)

/-- Clicker c reserves step-engine time for a frame of port p (R76). -/
def State.reserve (s : State) (c p : Nat) : State :=
  let n := s.stepCharge p
  s.clrSet (fun x => { x with reserved := AMap.set cellDflt x.reserved c (AMap.get cellDflt x.reserved c + n) })

/-- When a frame's header is complete: its bytes up to CLR_DEPTH.BYTES, or up to its end, have arrived at the line rate (R94
step 4). -/
def State.headerAt (s : State) (f : Frame) : Nat :=
  if f.whole then 0 else f.at_ + ceilDiv (min (s.depthBytes f.port) f.rxLen * 8000) (s.portRate f.port)


/-- The port and the frame whose turn it is, and the Clicker and context that take it (R94 step 2). -/
def State.nextDispatch (s : State) : Option (Frame × Nat × Nat) :=
  let head := fun (p : Nat) => s.clr.frames.find? (fun f => f.port == p && f.slot && f.stage == .waiting)
  let f := (List.range 37).findSome? (fun k => head ((s.clr.rrPort + k) % 37))
  let clk := (List.range 24).findSome? (fun k =>
    let c := (s.clr.rrClk + k) % 24
    if s.flag Reg.CLR_STAT_ROTATION c then (s.freeCtx c).map (fun x => (c, x)) else none)
  match f, clk with
  | some f, some (c, k) => some (f, c, k)
  | _, _ => none

/-- CLICKER_DISPATCH: hand the next frame to the next Clicker, stamped with the epoch (R26, R61, R94, R97); frames of a
MACsec port pass the receive checks of R278 first, and one that fails never reaches a Clicker. -/
def clickerDispatch (s : State) : State :=
  match s.nextDispatch with
  | none => s
  | some (f, c, k) =>
    let s := s.clrSet (fun x => { x with rrPort := (f.port + 1) % 37 })
    let verdict := if f.port < 32 then s.rxCheck f.port f.bytes else .pass
    match verdict with
    | .drop n err =>
      let s := s.modFrame f.id (fun f => { f with fate := .drop, toecap := some (n, err), stage := .ready })
      if f.whole then s.toecapDrop f.port n err else s
    | v =>
      let s := s.clrSet (fun x => { x with rrClk := (c + 1) % 24 })
      let s := s.reserve c f.port
      let epoch := if 33 ≤ f.port then f.epoch else s.get Reg.LST_EPOCH_CUR
      let t := max s.now (s.headerAt f)
      match v with
      | .process n tag pn =>
        let r := s.rxOpen f.port f.bytes n tag pn
        let s := s.modFrame f.id (fun f => { f with epoch := epoch, stage := .clicker c k, timer := some t, bytes := r.1,
                                                    secTag := some tag, rxSa := some (n, pn), icvOk := r.2 })
        if f.whole then (s.icvVerify f.id).2 else s
      | _ => s.modFrame f.id (fun f => { f with epoch := epoch, stage := .clicker c k, timer := some t })

/-! ### Parsing and lookup -/

/-- The frame's result passes on: the Clicker has classified it, its context is free, its slot is ready, and the
sessions of R120 mark it. -/
def State.classified (s : State) (fid c : Nat) : State :=
  let s := s.incWrap Reg.CLR_FRAMES_FULL 1 c
  let s := s.modFrame fid (fun f => { f with stage := .ready })
  s.mirrorMarks fid

/-- A late LENGTH_CONFLICT (R90): copies cancelled or poisoned, then the port default for reason 2. -/
def State.lateConflict (s : State) (fid : Nat) : State := (s.spoil fid 4).portDefault fid 2

/-- The check of R90 on a frame that has arrived whole: a flow action other than DROP gives way to LENGTH_CONFLICT; a
frame that no lookup matched is disposed of as LENGTH_CONFLICT or NO_MATCH. -/
def State.lateCheck (s : State) (fid : Nat) : State :=
  match s.frame fid with
  | none => s
  | some f =>
    if f.parse.outcome = some 0 then
      (s.modFrame fid (fun f => { f with parse := { f.parse with outcome := none } })).portDefault fid
        (if lateBad s.padAny f then 2 else 0)
    else
      match f.handle, f.parse.outcome with
      | some h, none =>
        let dropped := (s.action f.epoch h).disp == 1 || (s.action f.epoch h).disp == 3
        if lateBad s.padAny f && !dropped then s.lateConflict fid else s
      | _, _ => s

/-- The frame in context k of Clicker c, while that Clicker is in rotation: the frames of a stalled one wait for their timers
(R96). -/
def State.worksOn (s : State) (c k : Nat) : Option Frame := if s.flag Reg.CLR_STAT_ROTATION c then s.context c k else none

/-- PARSE_STEP: Clicker c executes a parse step for context k, whose next 16 bytes are present (R75, R94 step 3); a parse that
ends unclean has its outcome, TRUNCATED no earlier than the frame's end (R87, R88). -/
def parseStep (c k : Nat) (s : State) : State :=
  match s.worksOn c k with
  | none => s
  | some f =>
    if f.parse.ended || !s.stepReady f then s else
    let p := s.parseOn f
    if p.outcome = some 4 && !f.whole then s
    else
      let s := s.modFrame f.id (fun f => { f with parse := p })
      match p.outcome with
      | none => s
      | some r => (s.portDefault f.id r).classified f.id c

/-- FLOW_LOOKUP: the key of a cleanly parsed frame is looked up (R98), and the flow's action applied (R103). -/
def flowLookup (c k : Nat) (s : State) : State :=
  match s.worksOn c k with
  | none => s
  | some f =>
    if !f.parse.ended || f.parse.outcome.isSome then s else
    let s := match s.flowHandle f with
      | some h => s.rulesStage f.id h
      | none => s.modFrame f.id (fun f => { f with parse := { f.parse with outcome := some 0 } })
    let s := s.classified f.id c
    if f.whole then s.lateCheck f.id else s

/-! ### The end of the frame -/

/-- The RX_OK counters of R226. -/
def State.rxOk (s : State) (p : Nat) (b : List Byte) : State :=
  let n := b.length
  let da := b.take 6
  let kind := if da == List.replicate 6 0xFF then 4 else if bit (leNat (b.take 1)) 0 then 3 else 2
  let size := if n ≤ 64 then 14 else if n ≤ 127 then 15 else if n ≤ 255 then 16 else if n ≤ 511 then 17
    else if n ≤ 1023 then 18 else if n ≤ 1518 then 19 else 20
  (((s.macCnt p 0).macCnt p 1 n).macCnt p kind).macCnt p size

/-- The frame is dropped under MAC error count k, its copies under poison cause c (R156, R217, R218). -/
def State.macError (s : State) (f : Frame) (k c : Nat) (fault : Bool := false) : State :=
  ((s.macCnt f.port k).spoil f.id c fault).dropFrame f.id true

/-- A cut-through copy that its egress limit ends is poisoned with cause 6; where Toecap protects it, the limit is R288's. -/
def State.egressOver (s : State) (c : Copy) (f : Frame) : State :=
  match s.copyBinding c f with
  | some b => (s.tcErr 1 b).poisonCopy c 6
  | none => s.poisonCopy c 6

/-- The copies of a frame that are in transmission and whose bytes, rewritten and protected, have passed what their egress port allows:
the limit ends them before the frame shows anything else (R156, R157, R219). -/
def State.egressLimits (s : State) (fid : Nat) : State :=
  match s.frame fid with
  | none => s
  | some f =>
    let n := min (s.arrived f) (s.maxFrame f.port)
    ((s.copiesOf fid).filter Copy.begun).foldl (fun s c =>
      if c.port < 32 && decide (s.maxFrame c.port + f.rxLen < n + s.copyLen c f) then s.egressOver c f else s) s

/-- What the bytes of a frame that have come show as they come: no space for them in the receive FIFO, a copy above its egress limit,
byte MAC_MAX_FRAME + 1 (R217, R219, R220).  True where the frame is lost. -/
def State.bytesIn (s : State) (fid : Nat) : Bool × State :=
  match s.frame fid with
  | none => (true, s)
  | some f =>
    let m := s.maxFrame f.port
    let need := fifoClaim m (s.arrived f)
    if fifoSize f.port + s.fifoOf f < s.fifoFill f.port + need && decide (f.fifo < need) then (true, s.macError f 11 3)
    else
      let s := if f.fifo < need then s.modFrame fid (fun f => { f with fifo := need }) else s
      let s := s.egressLimits fid
      if m < s.arrived f then (true, s.macError f 9 1) else (false, s)

/-- The bytes that a released frame's copies hold are written, and those that are in transmission read (R126, R149).  False where no
cell is left for them. -/
def State.bytesOn (s : State) (fid : Nat) : Bool × State :=
  let r := if (s.copiesOf fid).any (fun c => c.own.isEmpty) then s.storeFrame fid else (true, s)
  (r.1, ((r.2.copiesOf fid).filter Copy.begun).foldl (fun s c => s.askReads c.id) r.2)

/-- Bring the provisional charge of copies that were chosen before the length was known to it (R176). -/
def State.settleCharges (s : State) (fid : Nat) : State :=
  match s.frame fid with
  | none => s
  | some f => ((s.copiesOf fid).filter (fun c => c.begun || c.st == .chosen)).foldl (fun s c => s.chargeTo c (s.copyLen c f)) s

/-- Count n under MAC counter k of port p, where it is more than none. -/
def State.macAdd (s : State) (p k n : Nat) : State := if n = 0 then s else s.macCnt p k n

/-- Count what the line brought with a frame (R226): FEC only where the port runs one. -/
def State.rxLine (s : State) (p : Nat) (l : RxLine) : State :=
  let fec := s.portFec p != 0
  let s := if l.symErr then s.macCnt p 12 else s
  let s := s.macAdd p 33 l.errBlocks
  let s := if fec then (s.macAdd p 34 l.corrected).macAdd p 35 l.uncorrected else s
  let s := s.macAdd p 38 l.frags
  if l.mmErr then s.macCnt p 37 else if l.frags = 0 then s else s.macCnt p 36

/-- The MAC error that the end of a frame shows, and the poison cause of it (R156, R217, R218). -/
def State.macFault (s : State) (f : Frame) (l : RxLine) : Option (Nat × Nat) :=
  if s.maxFrame f.port < f.rxLen then some (9, 1)
  else if f.rxLen < 64 then some (8, 2)
  else if l.symErr || l.mmErr || !f.fcsOk then some (10, 0) else none

/-- The end of a frame that goes on: a check of Toecap that it failed before the Clickers, its ICV, the drop that its end counts, the
late length check; then its copies hold the rest of it. -/
def State.frameEnds (s : State) (f : Frame) : State :=
  match f.toecap with
  | some (k, err) => (s.toecapDrop f.port k err).reap
  | none =>
    let v := s.icvVerify f.id
    if !v.1 then v.2
    else
      let s := v.2
      -- a drop by the port default is counted now that no MAC error can take its place (R89)
      let s := match f.pdrop with
        | some r => (s.inc Reg.CLR_PDROP_COUNT 1 0 r).modFrame f.id (fun f => { f with pdrop := none })
        | none => s
      let s := if f.parse.ended then s.lateCheck f.id else s
      match s.frame f.id with
      | none => s
      | some g =>
        if f.stage != .out then s
        else if f.fate == .none || f.fate != g.fate then s.enqueueFrame g.id
        else ((s.bytesOn g.id).2.settleCharges g.id).reap

/-- INGRESS_FRAME_END: the last byte arrives; the MAC's checks (R217, R218), Toecap's verdict, the late length check,
and the rest of the frame's cells.  A frame that was lost while it arrived is counted, unless the MAC has counted it already (R226). -/
def ingressFrameEnd (p : Nat) (l : RxLine) (s : State) : State :=
  match s.arriving p with
  | none => s
  | some f =>
    let s := ((s.rxLine p l).fabNow).modFrame f.id (fun f => { f with whole := true })
    match f.lost with
    | some true => s.killFrame f.id
    | some false => ((match s.macFault f l with
        | some (k, _) => s.macCnt p k
        | none => s.rxOk p f.bytes)).killFrame f.id
    | none =>
      let a := s.bytesIn f.id
      if a.1 then a.2
      else match s.macFault f l with
        | some (k, c) => a.2.macError f k c
        | none =>
          let s := (a.2.rxOk p f.bytes).modFrame f.id (fun g => { g with fifo := if f.stage == .out then 0 else f.rxLen })
          s.frameEnds f

/-- A frame that its release writes into the Sole. -/
def Frame.writes (f : Frame) : Bool := f.fate != .none && f.fate != .drop || !f.mirrorDue.isEmpty

/-- Writes of frames of port p that have been released wait on the fabric. -/
def State.portWaits (s : State) (p : Nat) : Bool := s.clr.frames.any (fun f => f.port == p && f.stage == .out && s.writesWait f.id != 0)

/-- REORDER_RELEASE: the oldest slot of port p is ready and is released; the frame proceeds to enqueue (R94 step 6).  A frame
whose writes cannot proceed, because no slice is in service or because writes of the port wait already, is held here (R129). -/
def reorderRelease (p : Nat) (s : State) : State :=
  match s.clr.frames.find? (fun f => f.port == p && f.slot) with
  | none => s
  | some f =>
    if f.stage != .ready || (f.writes && (s.slicesIn.isEmpty || s.fabNow.portWaits p)) then s
    else
      let s := s.modFrame f.id (fun f => { f with slot := false, stage := .out })
      let s := s.takeSlots p
      s.enqueueFrame f.id

/-! ### Stalls -/

/-- CLICKER_RETIRE (R96): Clicker c leaves rotation, to rejoin or retired. -/
def State.clickerOut (s : State) (c : Nat) : State :=
  if !s.flag Reg.CLR_STAT_ROTATION c then s
  else
    let s := s.put Reg.CLR_STAT_ROTATION 0 c
    let s := s.put Reg.CLR_STAT_STALLS (min 255 (s.get Reg.CLR_STAT_STALLS c + 1)) c
    let again := match AMap.find s.clr.rejoinAt c with
      | some t => decide (s.now < t + 1000000000)
      | none => false
    let s := if s.flag Reg.CLR_CTRL_AUTO_REJOIN && !again then s.clrSet (fun x => { x with stalled := x.stalled ++ [c] })
      else (s.put Reg.CLR_STAT_RETIRED 1 c).raise Reg.CLR_IRQ_RETIRED c
    s.budget

/-- The frame's reorder timer has run 2 µs. -/
def Frame.timedOut (f : Frame) (now : Nat) : Bool :=
  match f.timer with
  | some t => decide (t + 2000 ≤ now)
  | none => false

/-- REORDER_TIMEOUT: the oldest frame of port p that a Clicker or the rules stage holds has waited 2 µs (R95, R96). -/
def reorderTimeout (p : Nat) (inRules : Bool) (s : State) : State :=
  match s.clr.frames.find? (fun f => f.port == p && f.slot && f.stage != .ready && f.timedOut s.now) with
  | none => s
  | some f =>
    match f.stage with
    | .clicker c _ =>
      let s := s.inc Reg.CLR_RO_TIMEOUT_COUNT 1 0 p
      let s := s.modFrame f.id (fun f => { f with fate := .drop, stage := .ready, pdrop := none, parse := { f.parse with outcome := none } })
      if inRules then (s.raise Reg.RUL_IRQ_STALL).fault 0x058 0x1101
      else ((s.raise Reg.CLR_IRQ_STALL c).clickerOut c).fault (0x040 + c) 0x1001
    | _ => s

/-- The memories of a Clicker or a slice are tested as it rejoins (R333): repairs are counted, and a failure is reported on its
page and in its domain. -/
def State.rejoinTest (s : State) (page repairs : Nat) (ok : Bool) : State :=
  let d := pageDomain page
  let s := s.inc Reg.FLT_BIST_REPAIRS_COUNT repairs
  let b := s.pwr.bist.filter (· != page)
  let s := { s with pwr := { s.pwr with bist := if ok then b else b ++ [page] } }
  if ok then s
  else (s.put Reg.FLT_BIST_FAIL_DOMAIN (setBit (2 * s.get Reg.FLT_BIST_FAIL_DOMAIN) d true / 2)).fault page (pageType page * 256 + 0xF0)

/-- CLICKER_REJOIN: a Clicker that has stalled, or whose page has been reset, has had its memories checked; it returns to
rotation, unless the check found what it could not repair (R96, R333, assumption log 76). -/
def clickerRejoin (c repairs : Nat) (ok : Bool) (s : State) : State :=
  if s.clr.stalled.contains c && !(s.clr.frames.any (fun f => (List.range 4).any (fun k => f.stage == .clicker c k))) then
    let t := s.now
    let s := s.clrSet (fun x => { x with stalled := x.stalled.filter (· != c), rejoinAt := AMap.ins x.rejoinAt c t })
    let s := s.rejoinTest (0x040 + c) repairs ok
    if ok then ((s.put Reg.CLR_STAT_ROTATION 1 c).raise Reg.CLR_IRQ_REJOINED c).budget else s
  else s

end Sys2Proof.Machine
end

