-- ==== Sys2Proof/Machine/Choose.lean ====
section
/-! DEFINITION. The scheduler's choice and the end of a transmission (R64–R66, R107, R155, R159, R170–R179, R200–R203,
R219, R282, R283). -/
namespace Sys2Proof.Machine

/-- The length that the gate checks take for a copy (R200). -/
def State.gateLen (s : State) (c : Copy) : Nat :=
  let known := c.data.isSome || ((s.frame c.frame).map Frame.whole).getD true
  if decide (c.port < 32) && (s.flag Reg.LCE_OPER_CFG_GUARD c.port || !known) then s.maxFrame c.port else s.charge c

/-- How far ahead the MAC can begin a copy of service v: at once, or after the time of 64 × (2 + ADD_FRAG) bytes where it must
first preempt a copy in transmission (R179, R200, R203, assumption log 78). -/
def State.preemptTime (s : State) (p v : Nat) : Nat :=
  if s.express p v && s.clr.copies.any (fun c => c.port == p && c.st == .sending && s.preemptable p (c.svc % 8)) then
    s.lineTime p (64 * (2 + (s.lce p).oper.addFrag))
  else 0

/-- The gate checks of R200 and R203 let the copy start. -/
def State.gateLets (s : State) (c : Copy) : Bool :=
  let v := c.svc % 8
  let n := s.gateLen c
  s.gateOpen c.port v &&
  (if s.preemptable c.port v then
    !(s.lce c.port).hold && s.gateFits c.port v (min n (64 * (1 + (s.lce c.port).oper.addFrag)))
   else s.gateFits c.port v n (s.preemptTime c.port v))

/-- Pause lets service v of port p start (R222). -/
def State.pauseLets (s : State) (p v : Nat) : Bool :=
  32 ≤ p || (!s.flag Reg.MAC_PAUSE_STAT_PAUSED p && !bit (s.get Reg.MAC_PAUSE_STAT_CLASSES p) v)

/-- The port shaper lets service v of port p start (R178). -/
def State.shaperLets (s : State) (p v : Nat) : Bool :=
  s.portShape p == 0 || s.svcExempt p v || decide (0 ≤ (s.portBucket p).level)

/-- The copy that service v of port p would send next, and whether in the excess round. -/
def State.svcNext (s : State) (p v : Nat) : Option (Copy × Bool) :=
  match s.nextSub (8 * p + v) with
  | some (u, ex) => (s.subHead u).map (fun c => (c, ex))
  | none => none

/-- No open span of its gate could ever hold the copy (R201). -/
def State.noFit (s : State) (c : Copy) : Bool :=
  s.laceRuns c.port && (s.lce c.port).admin.isNone && !s.preemptable c.port (c.svc % 8) &&
  !s.everFits c.port (c.svc % 8) (s.gateLen c)

/-- Port p has a copy in transmission, or waiting for its start, that service v may not interrupt (R179). -/
def State.txBusy (s : State) (p v : Nat) : Bool :=
  s.clr.copies.any (fun c => c.port == p && (c.st == .sending || c.st == .chosen) &&
    !(s.express p v && s.preemptable p (c.svc % 8)))

/-- Service v of port p is eligible (R171), apart from the discards that its head copy may meet.  A preempted copy holds
the preemptable context, and none of its own service passes it (R179); where preemption has become inactive, there is one context, which
it holds (R202). -/
def State.eligible (s : State) (p v : Nat) : Option (Copy × Bool) :=
  if s.txBusy p v || !s.pauseLets p v || !s.shaperLets p v then none
  else match s.svcNext p v with
    | some (c, ex) =>
      if s.clr.copies.any (fun x => x.port == p && x.st == .preempted && (!s.preempts p || x.svc == c.svc || s.preemptable p v)) then none
      else if s.noFit c || s.gateLets c then some (c, ex) else none
    | none => none

/-- The services of port p in the order in which it prefers them: by number, but where preemption is active the express
ones come first (R171, R179). -/
def State.svcOrder (s : State) (p : Nat) : List Nat :=
  let all := [7, 6, 5, 4, 3, 2, 1, 0]
  all.filter (fun v => !s.preemptable p v) ++ all.filter (s.preemptable p)

/-- The copy of the first eligible service. -/
def State.nextCopy (s : State) (p : Nat) : Option (Copy × Bool) := (s.svcOrder p).findSome? (fun v => s.eligible p v)

/-- Why the scheduler discards a chosen copy, charging nothing. -/
inductive Discard where
  | epoch | aged | nofit | oversize (protected_ : Bool) | notReady | noSa | pnExhausted
deriving DecidableEq, Repr

/-- The discards that the egress MAC and Toecap make when a copy would start: OVERSIZE (R219), and the MACsec discards of R283
and R288. -/
def State.startBar (s : State) (c : Copy) (f : Frame) : Option Discard :=
  if 32 ≤ c.port then none
  else
    let b := s.copyBinding c f
    if (f.whole || !c.ct) && decide (s.maxFrame c.port < s.copyLen c f) then some (.oversize b.isSome)
    else match b with
      | none => none
      | some b =>
        if !s.tcaReady then some .notReady
        else match s.txSa (s.prevEpoch c.epoch) b with
          | none => some .noSa
          | some n => if (s.sa n).exhausted then some .pnExhausted else none

/-- The discards at dequeue: EPOCH_DRAINED before AGED (R66, R159), NOFIT (R201), then those of the start. -/
def State.discardOf (s : State) (c : Copy) (f : Frame) : Option Discard :=
  if s.lst.purged && s.prevEpoch c.epoch then some .epoch
  else if s.svcAge c.svc * 1000 < s.now - f.at_ then some .aged
  else if s.noFit c then some .nofit
  else s.startBar c f

/-- AGE_DISCARD, NOFIT_DISCARD, DRAIN_PURGE at dequeue, and the other discards of discardOf. -/
def State.discard (s : State) (c : Copy) (f : Frame) (d : Discard) : State :=
  let s := s.creditSync c.port
  let s := match d with
    | .epoch => s.svcDrop c.svc dkEpoch
    | .aged => s.svcDrop c.svc dkAged
    | .nofit => (s.inc Reg.LCE_NOFIT_COUNT 1 c.port).raise Reg.LCE_IRQ_NOFIT c.port
    | .oversize b =>
      let s := s.macCnt c.port 32
      if b then s.tcErr 1 ((s.copyBinding c f).getD 0) else s
    | .notReady => (s.tcCount c.port tcNotReady).tcErr 6 ((s.copyBinding c f).getD 0)
    | .noSa => s.tcCount c.port tcTxNoSa
    | .pnExhausted => s.tcCount c.port tcTxPnExh
  (s.rmCopy c.id).reap

/-- Begin the transmission of a copy: it is timestamped (R189), and its PN is taken now (R283).  Once its frame is
whole it leaves as a stored copy (R155).  What the Sole holds of it is read (R126). -/
def State.startCopy (s : State) (c : Copy) (f : Frame) : State :=
  let t := s.now
  let s := (s.modCopy c.id (fun c => { c with st := .sending, ct := c.ct && !f.whole, runAt := t })).stampTx c.port f.bytes
  let s := match (s.copyBinding c f).bind (s.txSa (s.prevEpoch c.epoch)) with
    | some n =>
      let r := s.takePn n
      let s := r.2.tcCount c.port tcTxProtected
      s.modCopy c.id (fun c => { c with sa := some n, pn := r.1 })
    | none => s
  s.askReads c.id

/-- A frame that the Last does not cover is mirrored at ingress only (R29). -/
def Frame.uncovered (f : Frame) : Bool :=
  match f.fate with
  | .punt r => decide (r < 5)
  | _ => false

/-- The egress point of R120: the first copy of the frame is dequeued at a port of EGR_MASK. -/
def State.mirrorEgress (s : State) (c : Copy) (f : Frame) : State :=
  if c.mirror ≠ 0 || c.tagFail || f.uncovered then s else
  [1, 2, 3, 4].foldl (fun s n =>
    let x := s.session f.epoch n
    let seen := ((s.frame f.id).map (fun f => bit f.mirrored n)).getD true
    if seen || !x.enable || !bit x.egr c.port then s
    else
      let s := s.modFrame f.id (fun f => { f with mirrored := setBit f.mirrored n true })
      if s.mirrorProtected f && !x.plainOk then s.inc Reg.MIR_PROTECTED_COUNT 1 0 (n - 1)
      else s.mirrorCopy f.id n (s.rewritten f)) s

/-- START of R155 for a copy from ingress port i to egress port e: ⌈MAX × (1 − R_in / R_out)⌉ + 128 bytes. -/
def State.startBytes (s : State) (i e : Nat) : Nat :=
  ceilDiv (s.maxFrame i * (s.portRate e - s.portRate i)) (s.portRate e) + 128

/-- A chosen cut-through copy waits for START when its egress is faster than its ingress (R155). -/
def State.waitsForStart (s : State) (c : Copy) (f : Frame) : Bool :=
  c.ct && !f.whole && decide (s.portRate f.port < s.portRate c.port)

/-- Charge the chosen copy and start it, preempting a preemptable copy in transmission (R173–R179). -/
def State.takeCopy (s : State) (c : Copy) (f : Frame) (excess : Bool) : State :=
  let p := c.port
  let s := s.creditSync p
  let s := s.mirrorEgress c f
  let n := s.charge c
  let s := s.chargeBytes c.queue c.svc excess true n
  let s := s.inc Reg.SCH_SVC_FRAMES_COUNT 1 p (c.svc % 8)
  let s := s.clrSet (fun k => { k with copies := k.copies.map (fun x =>
    if x.port = p && x.st == .sending then s.preempted x else x) })
  let s := s.modCopy c.id (fun c => { c with charged := n, excess := excess })
  if s.waitsForStart c f then s.modCopy c.id (fun c => { c with st := .chosen })
  else s.startCopy c f

/-- A preempted copy resumes when its gate is open again and no hold is in effect (R179, R203), or preemption has become inactive. -/
def State.resumes (s : State) (p : Nat) : Option Copy :=
  if s.clr.copies.any (fun c => c.port == p && (c.st == .sending || c.st == .chosen)) then none
  else s.clr.copies.find? (fun c => c.port == p && c.st == .preempted && !s.gateCuts p (c.svc % 8))

/-- Resume a preempted copy: one more fragment of it is sent (R179, R226). -/
def State.resumeCopy (s : State) (c : Copy) : State :=
  let t := s.now
  (s.modCopy c.id (fun c => { c with st := .sending, runAt := t })).macCnt c.port 39

/-- Choose until a copy starts or none is eligible. -/
def State.chooseLoop (s : State) (p : Nat) (fuel : Nat) : State :=
  match fuel with
  | 0 => s
  | fuel + 1 =>
    let resume := s.resumes p
    match s.nextCopy p with
    | none => (match resume with
        | some c => s.resumeCopy c
        | none => s)
    | some (c, ex) =>
      match s.frame c.frame with
      | none => s.rmCopy c.id
      | some f =>
        match s.discardOf c f with
        | some d => (s.discard c f d).chooseLoop p fuel
        | none =>
          match resume with
          | some r => if s.preemptable p (c.svc % 8) then s.resumeCopy r else s.takeCopy c f ex
          | none => s.takeCopy c f ex

/-- A keep-alive of port p waits for the line or is on it: no copy of p may begin (R366). -/
def State.kaHolds (s : State) (p : Nat) : Bool := decide (p < 32) && ((s.mac p).ka.isSome || (s.mac p).kaTx.isSome)

/-- The keep-alive that waits at port p begins, where the line is free: it takes precedence over queued copies, is charged to no
bucket, and no gate, pause or shaper holds it (R366, assumption log 99). -/
def State.kaStart (s : State) (p : Nat) : State :=
  match (s.mac p).ka with
  | some b =>
    if (s.mac p).kaTx.isSome || s.clr.copies.any (fun c => c.port == p && c.st == .sending) then s
    else (s.macSet p { s.mac p with ka := none, kaTx := some b }).stampTx p b
  | none => s

/-- SCHEDULER_CHOOSE: port p can accept a frame (R171, R181); a T1S port in LISTEN makes no decision (R229), and with no slice in
service nothing can be read (R126). -/
def schedulerChoose (p : Nat) (s : State) : State :=
  let s := s.fabNow
  if !s.inService p || (isTP p && s.get Reg.T1S_STAT_STATE (p - 24) == 1) then s
  else if s.kaHolds p then s.kaStart p
  else if !s.slicesIn.isEmpty then
    (s.creditSync p).chooseLoop p (s.clr.copies.length + 1)
  else s

/-- The chosen copy of port p that may start next: an express one where preemption is active, else the other, which waits for the end
of what is in transmission (R179). -/
def State.nextStart (s : State) (p : Nat) : Option Copy :=
  let cs := s.clr.copies.filter (fun c => c.port == p && c.st == .chosen)
  match cs.find? (fun c => !s.preemptable p (c.svc % 8)) with
  | some c => some c
  | none => if s.clr.copies.any (fun c => c.port == p && c.st == .sending) then none else cs.head?

/-- CUT_THROUGH_START: the Sole holds START bytes of the frame, or the frame has ended (R155), and neither a pause nor the gate
stands in the way (R200, R222).  What the MAC or Toecap would now discard is discarded, and its charge returned. -/
def cutThroughStart (p : Nat) (s : State) : State :=
  let s := s.fabNow
  match s.nextStart p with
  | none => s
  | some c =>
    match s.frame c.frame with
    | none => s.rmCopy c.id
    | some f =>
      if (!f.whole && decide (s.held c f < s.startBytes f.port p)) || !s.pauseLets p (c.svc % 8) || !s.gateLets c ||
         s.slicesIn.isEmpty || s.kaHolds p then s
      else match s.startBar c f with
        | some d => (s.chargeTo c 0).discard c f d
        | none => s.startCopy c f

/-- The copy whose last byte leaves port p: the one in transmission, or one that its gate or a hold would have cut at a
boundary it never reached (R203, assumption log 68). -/
def State.leaving (s : State) (p : Nat) : Option Copy :=
  match s.clr.copies.find? (fun c => c.port == p && c.st == .sending) with
  | some c => some c
  | none => s.clr.copies.find? (fun c => c.port == p && c.st == .preempted && s.gateCuts p (c.svc % 8))

/-- The keep-alive of port p has been sent. -/
def State.kaDone (s : State) (p : Nat) : State := s.macSet p { s.mac p with kaTx := none }

/-- COPY_TX_DONE: the last byte of the copy, or the keep-alive (R366), in transmission leaves Ethernet port p (R19, R226).  Its reads must have been carried: a
cut-through copy that a short fabric starves ends poisoned with cause 7 (R129, R131, R156), any other waits. -/
def copyTxDone (p : Nat) (s : State) : State :=
  if 32 ≤ p then s else
  let s := s.fabNow
  match (s.mac p).kaTx with
  | some b => ((((s.macCnt p 21).macCnt p 22 b.length).macCnt p (txKind b)).wasSent p b).kaDone p
  | none =>
  match s.leaving p with
  | none => s
  | some c =>
    match s.frame c.frame with
    | none => s.rmCopy c.id
    | some f =>
      if !f.whole then s
      else if s.readsWait c.id != 0 then (if c.ct && s.fabShort then (s.poisonCopy c 7).reap else s)
      else
        let wire := s.wireBytes c f
        let s := s.creditSync p
        let s := (((s.macCnt p 21).macCnt p 22 (s.copyLen c f)).macCnt p (txKind wire)).wasSent p wire
        (s.rmCopy c.id).reap

/-- REPARENT: a deferred change takes effect, when its queue or subscriber is empty (R170).  The one that moves joins at
its new parent's virtual time; one that no port owns any more raises REPARENT on the port that it leaves (the model's choice, assumption
log 66). -/
def reparent (isQueue : Bool) (n : Nat) (s : State) : State :=
  if isQueue then
    match AMap.find s.sch.qOld n, s.queueCopies n with
    | some old, [] =>
      let place0 := s.subPlace
      let s := s.schSet (fun h => { h with qOld := AMap.del h.qOld n })
      let u := (s.queueSub n).getD 0
      let v := (s.sub_ u).v
      let s := if (s.queueSub n).isSome then s.schSet (fun h => { h with qtags := AMap.set cellDflt h.qtags n v }) else s
      let s := if n = s.puntQ 32 && (s.queueSub n).isSome then (s.subSettle old (place0 old)).subSettle u (place0 u) else s
      let place := match s.queuePlace n with
        | some i => i
        | none => (s.subPlace old).getD 0
      s.raise Reg.SCH_IRQ_REPARENT (place / 8)
    | _, _ => s
  else
    match AMap.find s.sch.sOld n, s.subCopies n with
    | some old, [] =>
      let s := s.schSet (fun h => { h with sOld := AMap.del h.sOld n })
      match s.subPlace n with
      | some i =>
        let x := s.sub_ n
        let v := s.vt i
        (s.subSet n ⟨v, x.v, x.c, x.p, x.bytes⟩).raise Reg.SCH_IRQ_REPARENT (i / 8)
      | none => s.raise Reg.SCH_IRQ_REPARENT (old / 8)
    | _, _ => s

end Sys2Proof.Machine
end

