-- ==== Sys2Proof/Machine/Pdu.lean ====
section
/-! DEFINITION. The bytes of bus messages on Ethernet (R253–R256), and their protection (R284–R288). -/
namespace Sys2Proof.Machine

def BusFmt.code : BusFmt → Nat
  | .classic => 0
  | .fd => 1
  | .xl => 2
  | .lin => 3

/-! ### Bundles (R256) -/

/-- Pad to a multiple of four bytes. -/
def pad4 (bs : List Byte) : List Byte := bs ++ List.replicate ((4 - bs.length % 4) % 4) 0

/-- One bundle entry, unpadded. -/
def bundleEntry (m : Msg) : List Byte :=
  let ident := if m.fmt == .xl then m.id % 2048 + m.sdt % 256 * 2048 + m.vcid % 256 * 2 ^ 19 + b2n m.sec * 2 ^ 27 else m.id % 2 ^ 29
  let flags := m.fmt.code + b2n m.ide * 4 + b2n m.rtr * 8 + b2n m.brs * 16 + b2n m.esi * 32 + b2n m.auth * 64
  let pay := if m.fmt == .xl then beBytes 4 m.af ++ m.data else m.data
  let len := if m.fmt == .xl then m.data.length + 4 else m.data.length
  beBytes 4 ident ++ [BitVec.ofNat 8 flags] ++ beBytes 2 len ++ pay

/-- A bundle: domain, its time and validity, sequence. -/
def bundle (domain : Nat) (invalid : Bool) (seq time : Nat) (ms : List Msg) : List Byte :=
  [BitVec.ofNat 8 (16 + domain % 2 + b2n invalid * 2), BitVec.ofNat 8 ms.length] ++ beBytes 2 seq ++ beBytes 4 time ++
  (ms.map (fun m => pad4 (bundleEntry m))).flatten

/-- Read one entry; none at a fault of R256. -/
def readEntry (b : List Byte) : Option (Msg × Nat) :=
  if b.length < 7 then none else
  let ident := beNat (b.take 4)
  let fl := leNat (sub b 4 1)
  let len := beNat (sub b 5 2) % 4096
  let fmt := match fl % 4 with
    | 0 => BusFmt.classic
    | 1 => BusFmt.fd
    | 2 => BusFmt.xl
    | _ => BusFmt.lin
  let rtr := bit fl 3 && fmt == .classic
  if b.length < 7 + len || (fmt == .xl && len < 5) then none else
  let pay := sub b 7 len
  let m : Msg :=
    { bus := 0, fmt := fmt, id := (if fmt == .xl then ident % 2048 else ident % 2 ^ 29), ide := bit fl 2, rtr := rtr,
      brs := bit fl 4, esi := bit fl 5, sec := fmt == .xl && bit ident 27, sdt := bits ident 11 8, vcid := bits ident 19 8,
      af := (if fmt == .xl then beNat (pay.take 4) else 0),
      data := (if fmt == .xl then pay.drop 4 else if rtr then List.replicate len 0 else pay),
      epoch := 0, at_ := 0, sof0 := 0, sof1 := 0, auth := false }
  some (m, 7 + len)

/-- The entries of a bundle up to the first fault, and whether there was none. -/
def readEntries (b : List Byte) (count fuel : Nat) : List Msg × Bool :=
  match fuel with
  | 0 => ([], false)
  | fuel + 1 =>
    if count = 0 then ([], b.isEmpty)
    else match readEntry b with
      | none => ([], false)
      | some (m, n) =>
        let r := readEntries (b.drop (ceilDiv n 4 * 4)) (count - 1) fuel
        (m :: r.1, r.2)

/-- A bundle: its sequence, its entries up to the first fault, and whether there was none. -/
def readBundle (b : List Byte) : Option Nat × List Msg × Bool :=
  if b.length < 8 || leNat (b.take 1) / 16 != 1 then (none, [], false)
  else
    let r := readEntries (b.drop 8) (leNat (sub b 1 1)) (b.length + 1)
    (some (beNat (sub b 2 2)), r.1, r.2)

/-! ### ACF (IEEE 1722-2016, R255) -/

/-- One ACF_CAN (brief false) or ACF_CAN_BRIEF message, with the bus identifier. -/
def acfMsg (brief : Bool) (domain busId : Nat) (m : Msg) : List Byte :=
  let body := if m.rtr then [] else m.data
  let pad := (4 - body.length % 4) % 4
  let hdr := if brief then 8 else 16
  let quads := (hdr + body.length + pad) / 4
  let fl := pad * 64 + (if brief then 0 else 32) + b2n m.rtr * 16 + b2n m.ide * 8 + b2n m.brs * 4 + b2n (m.fmt == .fd) * 2 +
    b2n m.esi
  beBytes 2 ((if brief then 2 else 1) * 512 + quads % 512) ++ [BitVec.ofNat 8 fl, BitVec.ofNat 8 (busId % 32)] ++
  (if brief then [] else beBytes 8 (if domain = 0 then m.sof0 else m.sof1)) ++ beBytes 4 (m.id % 2 ^ 29) ++ body ++
  List.replicate pad 0

/-- Read one ACF_CAN or ACF_CAN_BRIEF message; none for any other. -/
def readAcf (b : List Byte) : Option (Msg × Nat) :=
  if b.length < 8 then none else
  let w := beNat (b.take 2)
  let t := w / 512
  let n := w % 512 * 4
  let hdr := if t = 1 then 16 else 8
  let fl := leNat (sub b 2 1)
  if (t != 1 && t != 2) || n < hdr || b.length < n || n < hdr + fl / 64 then none
  else
    let m : Msg :=
      { bus := 0, fmt := (if bit fl 1 then .fd else .classic), id := beNat (sub b (hdr - 4) 4) % 2 ^ 29, ide := bit fl 3,
        rtr := bit fl 4 && !bit fl 1, brs := bit fl 2, esi := bit fl 0, sec := false, sdt := 0, vcid := 0, af := 0,
        data := sub b hdr (n - hdr - fl / 64), epoch := 0, at_ := 0, sof0 := 0, sof1 := 0, auth := false }
    some (m, n)

/-- The messages of ACF data up to the first fault, and whether there was none. -/
def readAcfs (b : List Byte) (fuel : Nat) : List Msg × Bool :=
  match fuel with
  | 0 => ([], false)
  | fuel + 1 =>
    if b.isEmpty then ([], true)
    else match readAcf b with
      | none => ([], false)
      | some (m, n) =>
        let r := readAcfs (b.drop n) fuel
        (m :: r.1, r.2)

/-- The messages of an AVTP frame (NTSCF or TSCF). -/
def readAvtp (b : List Byte) : List Msg × Bool :=
  let sub1 := leNat (b.take 1)
  let hl := if sub1 = 0x82 then some (12, beNat (sub b 1 2) % 2048) else if sub1 = 0x05 then some (24, beNat (sub b 20 2)) else none
  match hl with
  | some (h, n) => if b.length < h + n then ([], false) else readAcfs (sub b h n) (n + 1)
  | none => ([], false)

/-! ### Ethernet headers that the engines read and write -/

/-- Offset of the EtherType behind up to four tags. -/
def etherTypeAt (b : List Byte) (o fuel : Nat) : Nat :=
  match fuel with
  | 0 => o
  | fuel + 1 => let t := beNat (sub b o 2)
                if t = 0x8100 || t = 0x88A8 then etherTypeAt b (o + 4) fuel else o

/-- What an Ethernet frame carries for the engines: the UDP destination port, or none directly over Ethernet, and the
payload. -/
def etherPayload (b : List Byte) : Option (Option Nat × List Byte) :=
  let o := etherTypeAt b 12 4
  let udp := fun (u : Nat) =>
    let n := beNat (sub b (u + 4) 2)
    if n < 8 || b.length < u + n then none else some (some (beNat (sub b (u + 2) 2)), sub b (u + 8) (n - 8))
  match beNat (sub b o 2) with
  | 0x22F0 => some (none, b.drop (o + 2))
  | 0x0800 => if leNat (sub b (o + 11) 1) = 17 then udp (o + 2 + leNat (sub b (o + 2) 1) % 16 * 4) else none
  | 0x86DD => if leNat (sub b (o + 8) 1) = 17 then udp (o + 42) else none
  | _ => none

/-- The sum of big-endian 16-bit words, folded to 16 bits. -/
def sum16 (bs : List Byte) : Nat :=
  match bs with
  | a :: b :: r => let t := a.toNat * 256 + b.toNat + sum16 r
                   t % 65536 + t / 65536
  | [a] => a.toNat * 256
  | [] => 0

/-- The one's complement checksum. -/
def checksum (bs : List Byte) : Nat := 65535 - (sum16 bs % 65536 + sum16 bs / 65536)

/-- Replace bytes at an offset. -/
def putAt (bs : List Byte) (o : Nat) (v : List Byte) : List Byte := bs.take o ++ v ++ bs.drop (o + v.length)

/-- Where the transport of a template begins: the header shape that R255 lets an engine read.  `bundle` needs UDP, and
the template must end with the UDP header or, for AVTP over Ethernet, with the EtherType. -/
inductive TplShape where
  | avtp (o : Nat)
  | ip4 (o : Nat)
  | ip6 (o : Nat)
deriving DecidableEq, Repr

/-- The shape of a template of the given kind, none where the engine cannot read it (R255). -/
def tplShape (t : List Byte) (kind : Nat) : Option TplShape :=
  let o := etherTypeAt t 12 4
  let et := beNat (sub t o 2)
  if et = 0x22F0 && kind != 3 && t.length = o + 2 then some (.avtp (o + 2))
  else if et = 0x0800 && leNat (sub t (o + 2) 1) = 0x45 && leNat (sub t (o + 11) 1) = 17 && t.length = o + 30 then some (.ip4 (o + 2))
  else if et = 0x86DD && leNat (sub t (o + 8) 1) = 17 && t.length = o + 50 then some (.ip6 (o + 2))
  else none

/-- Fill the lengths, identification and checksums of a template before its payload (R255). -/
def fillHeaders (t : List Byte) (sh : TplShape) (ident : Nat) (srcPort : Option Nat) (pay : List Byte) : List Byte :=
  match sh with
  | .avtp _ => t ++ pay
  | .ip4 o =>
    let udp := (match srcPort with
      | some p => putAt (t.drop (o + 20)) 0 (beBytes 2 p)
      | none => t.drop (o + 20))
    let udp := putAt (putAt udp 4 (beBytes 2 (8 + pay.length))) 6 [0, 0]
    let ip := putAt (putAt (putAt (sub t o 20) 2 (beBytes 2 (28 + pay.length))) 4 (beBytes 2 ident)) 10 [0, 0]
    t.take o ++ putAt ip 10 (beBytes 2 (checksum ip)) ++ udp ++ pay
  | .ip6 o =>
    let udp := (match srcPort with
      | some p => putAt (t.drop (o + 40)) 0 (beBytes 2 p)
      | none => t.drop (o + 40))
    let udp := putAt (putAt udp 4 (beBytes 2 (8 + pay.length))) 6 [0, 0]
    let ip := putAt (sub t o 40) 4 (beBytes 2 (8 + pay.length))
    let c := checksum (sub ip 8 32 ++ beBytes 4 (8 + pay.length) ++ [0, 0, 0, 17] ++ udp ++ pay)
    t.take o ++ ip ++ putAt udp 6 (beBytes 2 (if c = 0 then 65535 else c)) ++ pay

/-! ### Signal moves (R249) -/

/-- Bit positions of a field, least significant first. -/
def fieldBits (first width : Nat) (big : Bool) : List Nat :=
  if big then
    let step := fun (b : Nat) => if b % 8 = 0 then b + 15 else b - 1
    (List.range width).map (fun k => (List.range k).foldl (fun b _ => step b) first) |>.reverse
  else (List.range width).map (first + ·)

/-- Bit b of bytes; beyond the end 0. -/
def byteBit (bs : List Byte) (b : Nat) : Bool := bit (leNat (sub bs (b / 8) 1)) (b % 8)

/-- Write bit b; beyond the end nothing. -/
def setByteBit (bs : List Byte) (b : Nat) (v : Bool) : List Byte :=
  if b / 8 < bs.length then putAt bs (b / 8) [BitVec.ofNat 8 (setBit (leNat (sub bs (b / 8) 1)) (b % 8) v)] else bs

/-- One move of a signal from the input to the output. -/
def moveSignal (src dst : List Byte) (srcBit : Nat) (sbig : Bool) (dstBit : Nat) (dbig : Bool) (width : Nat) : List Byte :=
  if width = 0 || 64 < width then dst
  else ((fieldBits srcBit width sbig).zip (fieldBits dstBit width dbig)).foldl
    (fun d c => setByteBit d c.2 (byteBit src c.1)) dst

/-! ### PDU authentication (R284–R288) -/

/-- Freshness counter n. -/
def State.fv (s : State) (n : Nat) : Nat := AMap.get cellDflt s.tca.fv n
def State.fvSet (s : State) (n v : Nat) : State := s.tcaSet (fun t => { t with fv := AMap.set cellDflt t.fv n v })

/-- The freshness threshold. -/
def State.fvThr (s : State) : Nat := s.get Reg.TCA_FV_THR_HI_THR * 2 ^ 32 + s.get Reg.TCA_FV_THR_LO_THR

/-- The events of a counter that has reached v (R287): FV_THRESH once, and FV_EXHAUSTED at 2⁶⁴ − 1. -/
def State.fvEvents (s : State) (n v : Nat) : State :=
  let s := if s.fvThr ≤ v && !s.tca.fvThresh.contains n then
      (s.tcEvent n 2).tcaSet (fun t => { t with fvThresh := t.fvThresh ++ [n] }) else s
  if v = 2 ^ 64 - 1 && !s.tca.fvExhausted.contains n then
    (s.tcEvent n 3).tcaSet (fun t => { t with fvExhausted := t.fvExhausted ++ [n] }) else s

/-- How the protection of a copy ended: protected or verified, or the drop of R287 and R288. -/
inductive PduResult where
  | ok (m : Msg)
  | format
  | fail
  | exhausted
  | notReady
deriving DecidableEq, Repr

/-- The CMAC input of R284. -/
def cmacInput (x : Binding) (d : List Byte) (fv : Nat) : List Byte :=
  (if x.idIn then beBytes 2 x.dataId else []) ++ d ++ (if x.noFresh then [] else beBytes 8 fv)

/-- The additional data of R285. -/
def xlAad (m : Msg) : List Byte := beBytes 2 m.id ++ [BitVec.ofNat 8 m.sdt, BitVec.ofNat 8 m.vcid] ++ beBytes 4 m.af

/-- Authenticate a copy under binding b (step 7 of R247): m's format is its output format. -/
def State.pduSeal (s : State) (prev : Bool) (b : Nat) (m : Msg) : PduResult × State :=
  let x := s.binding prev b
  if x.type != 4 && x.type != 5 then (.ok m, s) else
  if !s.tcaReady then (.notReady, s.tcErr 6 b) else
  match s.slot 2 x.key with
  | none => (.format, s.tcErr 5 b)
  | some k =>
    let needFv := x.type == 5 || !x.noFresh
    let v := s.fv x.fresh
    if x.type = 5 && m.fmt != .xl then (.format, s)
    else if x.type = 5 && 2048 < 8 + m.data.length + (if x.tag8 then 8 else 16) then (.format, s.tcErr 4 b)
    else if x.type = 4 && ((cmacInput x m.data 0).isEmpty || decide (4096 < (cmacInput x m.data 0).length)) then
      (.format, s.tcErr 3 b)
    else if needFv && v = 2 ^ 64 - 1 then (.exhausted, s.fvEvents x.fresh v)
    else
      let fv := v + 1
      let s := if needFv then (s.fvSet x.fresh fv).fvEvents x.fresh fv else s
      if x.type = 4 then
        let mac := padTo x.macBytes (aesCmac k.key (cmacInput x m.data fv))
        let fvt := if x.noFresh then [] else (beBytes 8 fv).drop (8 - x.fvLen)
        (.ok { m with data := m.data ++ fvt ++ mac }, s)
      else
        let r := gcmSeal k.key (x.nonce ++ beBytes 8 fv) (xlAad m) m.data
        (.ok { m with data := beBytes 8 fv ++ padTo m.data.length r.1 ++ padTo (if x.tag8 then 8 else 16) r.2, sec := true }, s)

/-- The candidate freshness value of R286. -/
def fvCand (l bitsN low : Nat) : Nat :=
  let c := if 64 ≤ bitsN then low else l / 2 ^ bitsN * 2 ^ bitsN + low
  if c ≤ l then c + 2 ^ bitsN else c

/-- Verify a copy under binding b and strip what protects it (step 4 of R247). -/
def State.pduOpen (s : State) (prev : Bool) (b : Nat) (m : Msg) : PduResult × State :=
  let x := s.binding prev b
  if x.type != 4 && x.type != 5 then (.ok m, s) else
  if !s.tcaReady then (.notReady, s.tcErr 6 b) else
  match s.slot 2 x.key with
  | none => (.fail, s.tcErr 5 b)
  | some k =>
    let l := s.fv x.fresh
    if x.type = 5 then
      let tag := if x.tag8 then 8 else 16
      if !m.sec then (.fail, s)
      else if m.data.length < 8 + tag || 2048 < m.data.length then (.fail, s.tcErr 4 b)
      else
        let fv := beNat (m.data.take 8)
        let cand := fvCand l 64 fv
        let ct := sub m.data 8 (m.data.length - 8 - tag)
        let iv := x.nonce ++ m.data.take 8
        if cand < 2 ^ 64 && cand - l ≤ x.fwin && gcmTagOk k.key iv (xlAad m) ct (m.data.drop (m.data.length - tag)) then
          (.ok { m with data := padTo ct.length (gcmPlain k.key iv ct), sec := false, auth := true },
            (s.fvSet x.fresh cand).fvEvents x.fresh cand)
        else (.fail, s)
    else
      let fl := if x.noFresh then 0 else x.fvLen
      let n := m.data.length - x.macBytes - fl
      if m.data.length < x.macBytes + fl then (.fail, s)
      else
        let d := m.data.take n
        let low := beNat (sub m.data n fl)
        let cand := if x.noFresh then l else fvCand l (8 * fl) low
        let inLen := (cmacInput x d cand).length
        if inLen < 1 || 4096 < inLen then (.format, s.tcErr 3 b)
        else
          let mac := padTo x.macBytes (aesCmac k.key (cmacInput x d cand))
          let fresh := x.noFresh || (decide (cand < 2 ^ 64) && decide (cand - l ≤ x.fwin))
          if fresh && mac == m.data.drop (n + fl) then
            let m := { m with data := d, auth := true }
            (.ok m, if x.noFresh then s else (s.fvSet x.fresh cand).fvEvents x.fresh cand)
          else (.fail, s)

end Sys2Proof.Machine
end

