-- ==== Sys2Proof/Machine/Clusters.lean ====
section
/-! DEFINITION. Wake clusters (R365–R369), the requests that hold them, and the transceiver sequences they start
(R242, R376, R377). -/
namespace Sys2Proof.Machine

/-! ### WAKE_NM -/

/-- A field of cluster n's entry. -/
def State.nm (s : State) (n off k : Nat) : Nat := s.secLE 0xD ((1 + n / 4) * 256 + n % 4 * 64 + off) k

/-- KIND of a cluster: 0 unused, 1 CAN group, 2 LIN, 3 T1S, 4 Ethernet link. -/
def State.nmKind (s : State) (n : Nat) : Nat := let k := s.nm n 0 1 % 8
                                               if k < 5 then k else 0
def State.nmDefined (s : State) (n : Nat) : Bool := s.nmKind n != 0
def State.nmRouteWake (s : State) (n : Nat) : Bool := bit (s.nm n 1 1) 0
def State.nmKaPeriod (s : State) (n : Nat) : Nat := let x := s.nm n 2 2
                                                   if x = 0 then 100 else x
def State.nmReady (s : State) (n : Nat) : Nat := s.nm n 4 2
def State.nmPrepare (s : State) (n : Nat) : Nat := s.nm n 6 2
def State.nmWakeTo (s : State) (n : Nat) : Nat := s.nm n 8 2
def State.nmRouteHold (s : State) (n : Nat) : Nat := s.nm n 10 2
def State.nmIndex (s : State) (n : Nat) : Nat := s.nm n 20 1 % 64

/-- The cluster names CAN channel c, LIN channel or port x in its own entry. -/
def State.nmNamesCan (s : State) (n c : Nat) : Bool := s.nmKind n == 1 && bit (s.nm n 12 8) c
def State.nmNamesLin (s : State) (n l : Nat) : Bool := s.nmKind n == 2 && s.nmIndex n == l
def State.nmNamesPort (s : State) (n p : Nat) : Bool :=
  (s.nmKind n == 3 && decide (24 ≤ p) || s.nmKind n == 4) && decide (p < 32) && s.nmIndex n == p

/-- The cluster of a channel or port: the lowest-numbered one that names it (R365). -/
def State.clusterOfCan (s : State) (c : Nat) : Option Nat := (List.range 32).find? (fun n => s.nmNamesCan n c)
def State.clusterOfLin (s : State) (l : Nat) : Option Nat := (List.range 32).find? (fun n => s.nmNamesLin n l)
def State.clusterOfPort (s : State) (p : Nat) : Option Nat := (List.range 32).find? (fun n => s.nmNamesPort n p)

/-- The LIN channel of a LIN cluster, and the port of a T1S or Ethernet-link cluster: none where the entry names no such
thing, or a lower-numbered cluster has it (R365). -/
def State.linOf (s : State) (n : Nat) : Option Nat := (List.range 16).find? (fun l => s.clusterOfLin l == some n)
def State.portOf (s : State) (n : Nat) : Option Nat := (List.range 32).find? (fun p => s.clusterOfPort p == some n)

/-- The channels of a CAN group. -/
def State.groupChannels (s : State) (n : Nat) : List Nat := (List.range 64).filter (fun c => s.clusterOfCan c == some n)

/-- WAKE_IN[i]: MODE, and the clusters it names. -/
def State.pinMode (s : State) (i : Nat) : Nat := let m := s.secLE 0xD i 1 % 4
                                                if m = 3 then 0 else m
def State.pinClusters (s : State) (i : Nat) : Nat := s.secLE 0xD (4 + 4 * i) 4

/-- The clusters, as a mask, that a latch of a KIND and INDEX of WAK_CAUSE wakes (R370, R373): that of the CAN channel, LIN channel or
T1S port; those whose PHY's wake output (WPIN) the WAKE_IN pin is, with those that name the pin itself if its MODE is 2. -/
def State.latchWakeMask (s : State) (kind index : Nat) : Nat :=
  let one := fun (n : Option Nat) => match n with
    | some n => 2 ^ n
    | none => 0
  match kind with
  | 2 => one (s.clusterOfCan index)
  | 3 => one (s.clusterOfLin index)
  | 4 => one (s.clusterOfPort index)
  | 5 => (List.range 32).foldl (fun m n =>
      if s.nmKind n == 4 && bit (s.nm n 21 1) 7 && s.nm n 21 1 % 4 == index then Nat.lor m (2 ^ n) else m)
      (if s.pinMode index = 2 then s.pinClusters index else 0)
  | _ => 0

/-- The clusters, as a mask, for which a latch is a local request (R367, R369): those that name a WAKE_IN pin of MODE 1, or the one
that the sideband has requested. -/
def State.latchAskMask (s : State) (kind index : Nat) : Nat :=
  match kind with
  | 5 => if s.pinMode index = 1 then s.pinClusters index else 0
  | 6 => 2 ^ index
  | _ => 0

/-- A latch is one of cluster n. -/
def State.latchOf (s : State) (x : Nat × Nat) (n : Nat) : Bool :=
  bit (s.latchWakeMask x.1 x.2) n || bit (s.latchAskMask x.1 x.2) n

/-- A latch is one of a defined cluster. -/
def State.latchNamed (s : State) (x : Nat × Nat) : Bool := (List.range 32).any (fun n => s.nmDefined n && s.latchOf x n)

/-! ### Cluster states -/

def clUNUSED : Nat := 0
def clASLEEP : Nat := 1
def clWOKEN : Nat := 2
def clREQUESTED : Nat := 3
def clREADY : Nat := 4
def clPREPARE : Nat := 5

/-- The state of cluster n. -/
def State.clState (s : State) (n : Nat) : Nat := bits (s.get Reg.WAK_CL_STATE_STATE 0 (n / 8)) (4 * (n % 8)) 4

/-- Change the wake component. -/
def State.wakSet (s : State) (f : Wak → Wak) : State := { s with wak := f s.wak }

/-- Start the timer of cluster n. -/
def State.clTimer (s : State) (n : Nat) : State := let t := s.now
                                                 s.wakSet (fun w => { w with timer := AMap.ins w.timer n t })

/-- Store a cluster's state; a change raises CL_CHG. -/
def State.clPut (s : State) (n st : Nat) : State :=
  let old := s.clState n
  let w := s.get Reg.WAK_CL_STATE_STATE 0 (n / 8)
  let s := s.put Reg.WAK_CL_STATE_STATE (w - old * 16 ^ (n % 8) + st % 16 * 16 ^ (n % 8)) 0 (n / 8)
  if old = st then s else s.raise Reg.WAK_IRQ_CL_CHG

/-- Clusters ASLEEP, and all defined ones are. -/
def State.asleepCount (s : State) : Nat := ((List.range 32).filter (fun n => s.clState n == clASLEEP)).length
def State.definedCount (s : State) : Nat := ((List.range 32).filter (fun n => s.nmDefined n)).length

/-- Some local requester holds cluster n (R367). -/
def State.clRequested (s : State) (n : Nat) : Bool :=
  bit (s.get Reg.WAK_REQ_HOST_CL) n || bit (s.get Reg.WAK_REQ_SB_CL) n || bit (s.get Reg.WAK_REQ_PIN_CL) n ||
  bit (s.get Reg.WAK_REQ_ROUTE_CL) n

/-! ### Channels under their transceivers -/

/-- A CAN channel, LIN channel at reset. -/
def noCan : Can := ⟨[], [], [], [], .idle, false, false, 2, none, false⟩
def noLin : Lin := ⟨[], [], none, none, [], 0, 0, none⟩
def State.can (s : State) (c : Nat) : Can := AMap.get (fun _ => noCan) s.awl.can c
def State.awlSet (s : State) (f : Awl → Awl) : State := { s with awl := f s.awl }
def State.canSet (s : State) (c : Nat) (x : Can) : State := s.awlSet (fun a => { a with can := AMap.ins a.can c x })
def State.lin (s : State) (l : Nat) : Lin := AMap.get (fun _ => noLin) s.awl.lin l
def State.linSet (s : State) (l : Nat) (x : Lin) : State := s.awlSet (fun a => { a with lin := AMap.ins a.lin l x })

/-- The entries that channel c still runs by after a flip: while its cycle runs, and until the frame in progress then ends (R62,
R242, R258). -/
def State.canKept (s : State) (c : Nat) : Option (List Byte) := AMap.find s.awl.canOld c

/-- n bytes of the CAN_SCHED entries of channel c: its header at 0, its slots from 32 (R257). -/
def State.canSched (s : State) (c o n : Nat) : Nat :=
  match s.canKept c with
  | some b => leNat (sub b o n)
  | none => s.secLE 0xA (if o < 32 then c / 8 * 256 + c % 8 * 32 + o else (8 + 8 * c) * 256 + (o - 32)) n

/-- CAN_SCHED header of channel c (R257). -/
def State.canHdr (s : State) (c off k : Nat) : Nat := s.canSched c off k
def State.canEn (s : State) (c : Nat) : Bool := bit (s.canHdr c 12 1) 7
def State.canFlag (s : State) (c k : Nat) : Bool := bit (s.canHdr c 12 1) k

/-- The entries that commander l still runs by after a flip, while it runs (R62). -/
def State.linKept (s : State) (l : Nat) : Option (List Byte) :=
  if s.get Reg.LIN_STAT_STATE l = 1 then AMap.find s.awl.linOld l else none

/-- n bytes of the LIN_SCHED entries of channel l: its header at 0, its ID table from 16, its tables from 80 (R260). -/
def State.linSched (s : State) (l o n : Nat) : Nat :=
  match s.linKept l with
  | some b => leNat (sub b o n)
  | none =>
    s.secLE 0xB (if o < 16 then 16 * l + o
                 else if o < 80 then (1 + l / 4) * 256 + 64 * (l % 4) + (o - 16)
                 else (5 + 16 * l) * 256 + (o - 80)) n

/-- LIN_SCHED header of channel l (R260). -/
def State.linEn (s : State) (l : Nat) : Bool := bit (s.linSched l 0 1) 7
def State.linCommander (s : State) (l : Nat) : Bool := bit (s.linSched l 0 1) 0
def State.linDflt (s : State) (l : Nat) : Nat := s.linSched l 1 1 % 8
def State.linRate (s : State) (l : Nat) : Nat := if s.hasSec 0xB then s.linSched l 2 2 else 19200

/-- A slot's frame is missed. -/
def State.slotMissed (s : State) (c : Nat) : State := (s.inc Reg.CAN_SLOT_MISSED_COUNT 1 c).raise Reg.CAN_IRQ_SLOT_MISSED c

/-- The transmission of channel c ends without success: the frame goes back into contention, or a slot's frame back into
its slot while its WINDOW is open (R259); one whose buffer is gone is lost (R265). -/
def State.txFailed (s : State) (c : Nat) : State :=
  let x := s.can c
  match x.sending with
  | .slot n m =>
    if !x.windows.contains n then (s.canSet c { x with sending := .idle }).slotMissed c
    else if (AMap.find x.slots n).isSome then (s.canSet c { x with sending := .idle }).inc Reg.CAN_SLOT_OVER_COUNT 1 c
    else s.canSet c { x with sending := .idle, slots := AMap.ins x.slots n m }
  | _ => s.canSet c { x with sending := .idle }

/-- Bring CAN_STAT.STATE into step with the enable and the transceiver's hold (R242, R257): OFF, RESTRICTED, or
INTEGRATING when the controller comes onto the bus.  Off the bus, or restricted, it transmits nothing. -/
def State.canFit (s : State) (c : Nat) : State :=
  let st := s.get Reg.CAN_STAT_STATE c
  let h := (s.can c).hold
  let on := s.pllRuns && s.canEn c && bit s.pwr.powered (if c < 32 then 16 else 17) && !s.pageHeld (0x120 + c)
  let st' := if !on || h = 2 then 0 else if h = 1 then (if st = 4 then 4 else 5) else if st = 0 || st = 5 then 1 else st
  let s := s.put Reg.CAN_STAT_STATE st' c
  if st' = 0 then
    let s := s.txFailed c
    s.canSet c { s.can c with recovering := false, waiting := false }
  else if st' = 5 then s.txFailed c
  else s

/-- The header bytes that hold the bit timing and the enables of a channel (R257). -/
def timingBytes : Nat := 13

/-- New entries of channel c take effect: where its bit timing or its enables change, the controller re-integrates, and keeps
its buffers and error counters (R242). -/
def State.canTake (s : State) (c : Nat) : State :=
  match AMap.find s.awl.canOld c with
  | none => s
  | some b =>
    let s := s.awlSet (fun a => { a with canOld := AMap.del a.canOld c })
    let s := s.canSet c { s.can c with due := false }
    let same := (List.range timingBytes).all (fun k => leNat (sub b k 1) == s.canSched c k 1)
    let s := s.canFit c
    let st := s.get Reg.CAN_STAT_STATE c
    if !same && (st == 2 || st == 3) then s.put Reg.CAN_STAT_STATE 1 c else s

/-- New entries of channel c are to take effect: at once, or after the frame in progress (R242). -/
def State.canDue (s : State) (c : Nat) : State :=
  if (s.can c).sending == .idle then s.canTake c else s.canSet c { s.can c with due := true }

/-- The frame in progress on channel c has ended. -/
def State.canSettle (s : State) (c : Nat) : State :=
  if (s.can c).due && (s.can c).sending == .idle then s.canTake c else s

/-- CAN_STAT.STATE of channel c in step; where that has ended a frame, new entries that waited for its end take effect. -/
def State.canSync (s : State) (c : Nat) : State := (s.canFit c).canSettle c

/-- New CAN_SCHED entries of the channels of REF_PORT p are to take effect: a cycle of its list starts, or no more will (R62,
R258). -/
def State.cycleSchedules (s : State) (p : Nat) : State :=
  let cs := (s.awl.canOld.filter (fun x => leNat (sub x.2 16 1) % 32 == p)).map (fun x => x.1)
  cs.foldl State.canDue s

/-- The transceiver's hold on CAN channel c changes. -/
def State.canHold (s : State) (c h : Nat) : State := (s.canSet c { s.can c with hold := h }).canSync c

/-! ### TXM (R376, R377) -/

/-- A channel's transceiver at reset: SLEEP. -/
def noTxm : Txm := ⟨3, false, [], 3, false, false, [], 3⟩
def State.txm (s : State) (c : Nat) : Txm := AMap.get (fun _ => noTxm) s.wak.txm c
def State.txmSet (s : State) (c : Nat) (x : Txm) : State := s.wakSet (fun w => { w with txm := AMap.ins w.txm c x })

/-- The transceiver is managed. -/
def State.txmEn (s : State) (c : Nat) : Bool := bit (s.secLE 0xC (c / 8 * 256 + c % 8 * 32) 1) 7

/-- The hold that a transceiver state puts on the controller (R242): NORMAL none, LISTEN restricted, else off. -/
def txmHold (st : Nat) : Nat := if st = 0 then 0 else if st = 1 then 1 else 2

/-- A byte of the profile of channel c, a 16-byte value of its binding, and op i of its profile: OP, LEN in bytes, PARAM, the bytes at
offsets 1 and 2, and its DATA (R376). -/
def State.txmProfile (s : State) (c : Nat) : Nat := s.secLE 0xC (c / 8 * 256 + c % 8 * 32) 1 % 32
def State.profByte (s : State) (c k : Nat) : Nat := s.secLE 0xC ((9 + s.txmProfile c) * 256 + k) 1
def State.paramByte (s : State) (c k : Nat) : Byte :=
  if k < 16 then BitVec.ofNat 8 (s.secLE 0xC (c / 8 * 256 + c % 8 * 32 + 16 + k) 1) else Config.txmPastParam c k
def State.txmOp (s : State) (c i : Nat) : Nat × Nat × Bool × Nat × Nat × List Byte :=
  let o := 16 + 8 * i
  let h := s.profByte c o
  let n := h / 4 % 8
  (h % 4, if 1 ≤ n && n ≤ 4 then n else 4, bit h 5, s.profByte c (o + 1), s.profByte c (o + 2),
    (List.range 4).map (fun k => BitVec.ofNat 8 (s.profByte c (o + 4 + k))))

/-- The ops of channel c's profile from op i on, at most `fuel` of them, to the next END (R376): the bytes that they send after `sent`
and whether every READ_CHECK found what it expects, the last byte that each receives being given in turn by `rx`; none where
`rx` gives too few.  A sequence that runs past op 29 ends there. -/
def State.txmOps (s : State) (c : Nat) : Nat → Nat → List Byte → List Byte → Option (List Byte × Bool)
  | 0, _, _, sent => some (sent, true)
  | fuel + 1, i, rx, sent =>
    if 30 ≤ i then some (sent, true)
    else
      let (op, len, par, a, expect, data) := s.txmOp c i
      match op with
      | 0 => some (sent, true)
      | 1 => s.txmOps c fuel (i + 1) rx (sent ++ (if par then (List.range len).map (fun k => s.paramByte c (a + k)) else data.take len))
      | 2 => match rx with
        | [] => none
        | r :: rs =>
          let sent := sent ++ data.take len
          if Nat.land r.toNat a = expect then s.txmOps c fuel (i + 1) rs sent else some (sent, false)
      | _ => s.txmOps c fuel (i + 1) rx sent

/-- A run of sequence q (0 NORMAL, 1 LISTEN, 2 STANDBY, 3 SLEEP, 4 SWK_SETUP) for channel c: at most 30 ops from its START. -/
def State.txmRunOf (s : State) (c q : Nat) (rx : List Byte) : Option (List Byte × Bool) := s.txmOps c 30 (s.profByte c q) rx []

/-- TXM controller k goes on with the sequence that it runs, or takes that of the lowest-numbered of its channels that waits (R377). -/
def State.txmNext (s : State) (k : Nat) : State :=
  let waits := fun c => !(s.txm c).todo.isEmpty
  match (AMap.find s.wak.txmRun k).filter waits with
  | some _ => s
  | none => match ((List.range 16).map (fun j => 16 * k + j)).find? waits with
    | some c => s.wakSet (fun w => { w with txmRun := AMap.ins w.txmRun k c })
    | none => s.wakSet (fun w => { w with txmRun := AMap.del w.txmRun k })

/-- The controller is running a sequence of channel c. -/
def State.txmRuns (s : State) (c : Nat) : Bool := AMap.find s.wak.txmRun (c / 16) == some c && !(s.txm c).todo.isEmpty

/-- Ask for a transceiver state (R377): its sequences are due and the controller is restricted until they complete; a
channel with EN = 0 receives none and follows at once.  Without PD16 no sequence can run, and none is due. -/
def State.txmRequest (s : State) (c st : Nat) (setup cmd : Bool) : State :=
  let x := s.txm c
  let x := { x with want := if cmd then x.want else st }
  if s.txmEn c && !bit s.pwr.tested 16 then s
  else if s.txmEn c then
    let s := s.txmSet c { x with todo := (if setup then [4, st] else [st]), target := st, cmd := cmd, again := false }
    (s.txmNext (c / 16)).canHold c 1
  else
    let s := s.txmSet c { x with state := st, err := false, todo := [], target := st, cmd := false, again := false }
    let s := if cmd then s.raise Reg.TXM_IRQ_CMD_DONE else s
    (s.txmNext (c / 16)).canHold c (txmHold st)

/-! ### T1S requests (R228) -/

/-- Ask a T1S PHY for a state: entering STANDBY or SLEEP loses link at once (R229). -/
def State.t1sRequest (s : State) (p st : Nat) : State :=
  let s := s.put Reg.T1S_CTRL_REQ st (p - 24)
  if 2 ≤ st % 4 then s.linkLost p else s

/-! ### Leaving and entering ASLEEP (R368) -/

/-- Saturating 16-bit count in a map. -/
def bump16 (m : AMap Nat) (k : Nat) : AMap Nat := AMap.set cellDflt m k (min 65535 (AMap.get cellDflt m k + 1))

/-- The cluster's channels and PHYs come up as it leaves ASLEEP. -/
def State.clUp (s : State) (n : Nat) : State :=
  let s := s.wakSet (fun w => { w with wakes := bump16 w.wakes n })
  match s.nmKind n, s.linOf n, s.portOf n with
  | 1, _, _ => (s.groupChannels n).foldl (fun s c => s.txmRequest c 0 false false) s
  | 2, some l, _ =>
    if s.get Reg.LIN_STAT_STATE l = 2 then
      (s.awlSet (fun a => { a with linOld := AMap.del a.linOld l })).put Reg.LIN_STAT_STATE 1 l
    else s
  | 3, _, some p => s.t1sRequest p 0
  | _, _, _ => s

/-- The template of a cluster's keep-alive frame (R365). -/
def State.kaTemplate (s : State) (n : Nat) : List Byte := (s.secBytes 0xD ((9 + n / 4) * 256 + n % 4 * 64) 64).getD []

/-- What has been received is a keep-alive of cluster n (R366).  IDE is compared whatever KA_MASK (assumption log 99). -/
def State.isKa (s : State) (n : Nat) (e : KaRx) : Bool :=
  let id := s.nm n 24 4
  match e with
  | .can c x ide =>
    let mask := s.nm n 28 4 % 2 ^ 29
    s.clusterOfCan c == some n && Nat.land x mask == Nat.land (id % 2 ^ 29) mask && ide == bit id 29
  | .linHeader l => s.clusterOfLin l == some n && !s.linCommander l
  | .linResponse l i => s.clusterOfLin l == some n && s.linCommander l && id % 64 == i
  | .frame p b =>
    let t := s.kaTemplate n
    s.clusterOfPort p == some n && sub b 0 6 == sub t 0 6 && sub b 12 2 == sub t 12 2

/-- The keep-alive of a cluster (R366): on every channel of a CAN group, or out of its port, where the template's 64 bytes
and the FCS make 68; there it waits for the line, before any queued copy. -/
def State.sendKa (s : State) (n : Nat) : State :=
  match s.nmKind n, s.portOf n with
  | 1, _ =>
    let ka := s.nm n 24 4
    let d := (s.secBytes 0xD ((1 + n / 4) * 256 + n % 4 * 64 + 32) 8).getD []
    (s.groupChannels n).foldl (fun s c =>
      let m : Msg := ⟨c, .classic, ka % 2 ^ 29, bit ka 29, false, false, false, false, 0, 0, 0, d, s.get Reg.LST_EPOCH_CUR, s.now, 0, 0,
        false⟩
      s.canSet c { s.can c with ka := some m }) s
  | _, some p =>
    if s.inService p then s.macSet p { s.mac p with ka := some (s.kaTemplate n ++ leBytes 4 (crc32Eth (s.kaTemplate n))) } else s
  | _, none => s

/-- The TC10 request for sleep or wake of the external PHY of port p (R233, R368): the firmware's transaction on its MDIO bus, where
Last names one.  Which register it writes, and with what, is free: the spec gives neither (assumption log 79). -/
def State.tc10 (s : State) (p : Nat) (wake : Bool) : State :=
  let s := s.wakSet (fun w => { w with phyReq := AMap.ins w.phyReq p wake })
  if s.phyPresent p then
    let r := s.draw 32
    let d := r.2.draw 65536
    { d.2 with mdio := d.2.mdio ++ [⟨s.mdioBus p, Master.firmware.code, true, 1, s.phyAddr p, r.1, d.1⟩] }
  else s

/-- Entering REQUESTED from ASLEEP wakes the network (R368). -/
def State.wakeNet (s : State) (n : Nat) : State :=
  match s.nmKind n, s.linOf n, s.portOf n with
  | 1, _, _ => s.sendKa n
  | 2, some l, _ => if s.get Reg.LIN_STAT_STATE l = 0 then s else s.linSet l { s.lin l with wakes := 1 }
  | 4, _, some p => s.tc10 p true
  | _, _, some p => s.wakSet (fun w => { w with phyReq := AMap.ins w.phyReq p true })
  | _, _, none => s

/-- Enter a state of R368 from the present one; a LIN commander sends the go-to-sleep command, a header and its response, as it
enters ASLEEP. -/
def State.clEnter (s : State) (n st : Nat) : State :=
  let old := s.clState n
  let s := s.clPut n st
  let s := s.clTimer n
  if st = clASLEEP then
    if old = clASLEEP then s else
    let s := s.wakSet (fun w => { w with latched := w.latched.filter (fun x => !s.latchOf x n) })
    match s.nmKind n, s.linOf n, s.portOf n with
    | 1, _, _ => (s.groupChannels n).foldl (fun s c => s.txmRequest c 3 true false) s
    | 2, some l, _ =>
      if s.get Reg.LIN_STAT_STATE l = 1 then
        (if s.linCommander l then s.inc Reg.LIN_TX_OK_COUNT 2 l else s).put Reg.LIN_STAT_STATE 2 l
      else s
    | 3, _, some p => s.t1sRequest p 3
    | 4, _, some p => s.tc10 p false
    | _, _, _ => s
  else
    let s := if old = clASLEEP then s.clUp n else s
    if st = clREQUESTED && old == clASLEEP then s.wakeNet n else s

/-- Bring a defined cluster into step with its requests (R368). -/
def State.clUpdate (s : State) (n : Nat) : State :=
  let st := s.clState n
  if st = clUNUSED then s
  else if s.clRequested n then (if st = clREQUESTED then s else s.clEnter n clREQUESTED)
  else if st = clREQUESTED then s.clEnter n clREADY
  else s

/-- Bring every cluster into step. -/
def State.clUpdateAll (s : State) : State := (List.range 32).foldl (fun s n => s.clUpdate n) s

/-- A keep-alive received by cluster n (R368). -/
def State.kaReceived (s : State) (n : Nat) : State :=
  let st := s.clState n
  if st = clREADY then s.clTimer n
  else if st = clPREPARE || st = clWOKEN then s.clEnter n clREADY
  else s

/-- What has been received is a keep-alive of its cluster, or not. -/
def State.kaSeen (s : State) (e : KaRx) : State :=
  match (List.range 32).find? (fun n => s.isKa n e) with
  | some n => s.kaReceived n
  | none => s

/-- Valid traffic on cluster n (R368). -/
def State.validTraffic (s : State) (n : Option Nat) : State :=
  match n with
  | some n => if s.clState n = clWOKEN then s.clEnter n clREADY else s
  | none => s

/-- A copy that an Awl route sends to a bus requests the bus's cluster for ROUTE_HOLD ms (R367). -/
def State.routeWake (s : State) (bus : Nat) : State :=
  let n := if bus < 64 then s.clusterOfCan bus else if bus < 80 then s.clusterOfLin (bus - 64) else none
  match n with
  | some n =>
    if s.nmRouteWake n then
      let t := s.now
      let s := s.wakSet (fun w => { w with routeAt := AMap.ins w.routeAt n t })
      (s.put Reg.WAK_REQ_ROUTE_CL (setBit (s.get Reg.WAK_REQ_ROUTE_CL) n true)).clUpdate n
    else s
  | none => s

end Sys2Proof.Machine
end

