-- ==== Sys2Proof/Machine/Awl.lean ====
section
/-! DEFINITION. The Awl gateway (R235–R256): routes, the gateway firewall, destinations, encapsulation streams and
decapsulation. -/
namespace Sys2Proof.Machine

/-! ### Routes (R243–R246) -/

/-- A route entry (R244). -/
structure Route where
  matchId : Nat
  mask : Nat
  src : Nat
  fmts : Nat
  mide : Nat
  valid : Bool
  lenMin : Nat
  lenMax : Nat
  next : Nat
  cont : Bool
  deny : Bool
  mirror : Bool
  meter : Option Nat
  acfBus : Nat
  dest : Nat
  dchan : Nat
  darg : Nat
  newId : Nat
  newIde : Bool
  ofmt : Nat
  idOp : Bool
  pad : Byte
  outLen : Nat
  sigFirst : Nat
  sigCount : Nat
  crypto : Nat
  bind : Nat
  xlSdt : Nat
  xlVcid : Nat
  xlAf : Nat
deriving DecidableEq, Repr

/-- Route r under the previous or current epoch. -/
def State.route (s : State) (prev : Bool) (r : Nat) : Route :=
  let b := (s.secBytes 9 (r / 4 * 256 + r % 4 * 64) 64 true prev).getD (List.replicate 64 0)
  let f := fun o n => leNat (sub b o n)
  { matchId := f 0 4 % 2 ^ 29, mask := f 4 4 % 2 ^ 29, src := f 8 1, fmts := f 9 1 % 16, mide := bits (f 9 1) 4 2,
    valid := bit (f 9 1) 6, lenMin := f 10 2 % 4096, lenMax := f 12 2 % 4096, next := f 14 2 % 16384, cont := bit (f 14 2) 15,
    deny := bit (f 16 1) 0, mirror := bit (f 16 1) 1, meter := (if bit (f 16 1) 2 then some (f 18 2 % 16384) else none),
    acfBus := f 17 1 % 32, dest := (let d := f 20 1 % 16
                                    if d < 7 then d else 0),
    dchan := f 21 1 % 128, darg := f 22 2, newId := f 24 4 % 2 ^ 29, newIde := bit (f 24 4) 29,
    ofmt := (let o := f 28 1 % 8
             if o < 6 then o else 0),
    idOp := bit (f 28 1) 3, pad := (b[29]?).getD 0, outLen := f 30 2 % 4096, sigFirst := f 32 2 % 32768,
    sigCount := min 16 (f 34 1 % 32), crypto := (let c := f 35 1 % 4
                                                 if c = 3 then 0 else c),
    bind := f 36 2 % 4096, xlSdt := f 38 1, xlVcid := f 39 1, xlAf := f 40 4 }

/-- Bus entry b under the previous or current epoch (R236, R251): NR_HOST, DE_HOST, FMT_HOST (bits 0–2), and TX_AGE in ms. -/
def State.busFlags (s : State) (prev : Bool) (b : Nat) : Nat :=
  if b < 128 then s.secLE 9 ((5632 + b / 32) * 256 + b % 32 * 8) 1 true prev else 0
def State.busAge (s : State) (prev : Bool) (b : Nat) : Nat :=
  let x := s.secLE 9 ((5632 + b / 32) * 256 + b % 32 * 8 + 2) 2 true prev
  if x = 0 then 10 else x

/-- The identifier a route matches against, and the payload length (R244). -/
def Msg.length (m : Msg) : Nat := m.data.length

/-- Route x matches message m (R245). -/
def Route.matches_ (x : Route) (m : Msg) : Bool :=
  x.valid && x.src == m.bus && Nat.land m.id x.mask == x.matchId && bit x.fmts m.fmt.code &&
  (match x.mide with
    | 1 => !m.ide
    | 2 => m.ide
    | _ => true) &&
  decide (x.lenMin ≤ m.length) && decide (m.length ≤ x.lenMax)

/-- The hit of engine e: the lowest-numbered matching route of its range. -/
def State.routeHit (s : State) (prev : Bool) (e : Nat) (m : Msg) : Option Nat :=
  if s.hasSec 9 then (List.range 1024).findSome? (fun k =>
    if (s.route prev (1024 * e + k)).matches_ m then some (1024 * e + k) else none)
  else none

/-! ### Counts and exceptions -/

/-- Count a copy of route r dropped (R247). -/
def State.routeDrop (s : State) (r : Nat) : State :=
  s.awlSet (fun a => { a with drops := AMap.set cellDflt a.drops r (sat32 (AMap.get cellDflt a.drops r + 1)) })

/-- What enters a route: a bus message, or an Ethernet frame handed over by a flow action. -/
inductive AwlIn where
  | msg (m : Msg)
  | eth (f : ApFrame)
deriving DecidableEq, Repr

def AwlIn.epoch : AwlIn → Nat
  | .msg m => m.epoch
  | .eth f => f.epoch
def AwlIn.bus : AwlIn → Nat
  | .msg m => m.bus
  | .eth _ => 255

/-- The host buffer of an exception or a DEST 5 copy: a one-entry bundle; its SEQUENCE and its domain are values the
spec does not state (assumption log 11). -/
def State.hostBundle (s : State) (m : Msg) : List Byte × State :=
  let a := s.draw 65536
  let d := a.2.draw 2
  let free := d.2.get Reg.TIM_DOM_STAT_STATE 0 d.1 == 0
  (bundle d.1 free a.1 (d.2.dom d.1 % 2 ^ 32) [m], d.2)

/-- A frame that arrives from an AP port out of service is dropped, and counted as FLUSHED in HELD (R163). -/
def State.apRefused (s : State) (p : Nat) : State := if s.portState p = psHELD then s.rxFlush p else s

/-- Send bytes to the host as a punt with reason AWL_EXCEPTION and a PUNT_CODE (R250, R252). -/
def State.awlPunt (s : State) (e epoch code : Nat) (bus : Option Nat) (b : List Byte) : State :=
  if !s.inService (33 + e / 4) then s.apRefused (33 + e / 4) else
  let a := s.puntAdmit 7
  let s := a.2
  if !a.1 then s
  else
    let id := s.clr.nextId
    let s := s.handOver (33 + e / 4) epoch b (fun f => { f with fate := .punt 7, puntCode := code, srcBus := bus, stage := .out })
    s.enqueueFrame id

/-- An exception about an input message: code as R250 numbers them. -/
def State.awlException (s : State) (e code : Nat) (x : AwlIn) : State :=
  match x with
  | .msg m =>
    let r := s.hostBundle m
    r.2.awlPunt e m.epoch code (some m.bus) r.1
  | .eth f => s.awlPunt e f.epoch code none f.bytes

/-- A copy or chain error counted in AWL_FORMAT, with its exception (R246–R252). -/
def State.awlFormat (s : State) (e : Nat) (x : AwlIn) : State :=
  let s := (s.inc Reg.AWL_FORMAT_COUNT 1 e).raise Reg.AWL_IRQ_FORMAT e
  if bit (s.busFlags (s.prevEpoch x.epoch) x.bus) 2 then s.awlException e 4 x else s

/-! ### Destinations -/

/-- The arbitration field of a frame as a number; the lower wins (R240). -/
def Msg.arb (m : Msg) : Nat :=
  if m.fmt != .xl && m.ide then m.id / 2 ^ 18 % 2048 * 2 ^ 21 + 2 ^ 20 + 2 ^ 19 + m.id % 2 ^ 18 * 2 + b2n m.rtr
  else m.id % 2048 * 2 ^ 21 + b2n m.rtr * 2 ^ 20

/-- Position of the buffered frame that would win last, the latest of equals. -/
def lastWinner (ms : List Msg) : Option Nat :=
  (List.range ms.length).foldl (fun acc k =>
    match acc with
    | none => some k
    | some j => if ((ms[j]?).map Msg.arb).getD 0 ≤ ((ms[k]?).map Msg.arb).getD 0 then some k else some j) none

/-- Buffer a copy in a CAN channel's priority buffers (R240); where the frame that would win last is the one in
transmission, at the head, the new copy is dropped. -/
def State.canBuffer (s : State) (c : Nat) (m : Msg) (r : Nat) : State :=
  let x := s.can c
  if x.tx.length < 32 then s.canSet c { x with tx := x.tx ++ [m] }
  else
    let s := s.raise Reg.CAN_IRQ_TX_DROP c
    let full := (s.inc Reg.CAN_TX_FULL_COUNT 1 c).routeDrop r
    match lastWinner x.tx with
    | some k =>
      if !(k == 0 && x.sending == .buffer) && decide (m.arb < ((x.tx[k]?).map Msg.arb).getD 0) then
        (s.canSet c { x with tx := x.tx.eraseIdx k ++ [m] }).inc Reg.CAN_TX_EVICTED_COUNT 1 c
      else full
    | none => full

/-- Write a copy into a slot of a CAN channel (R259). -/
def State.canSlot (s : State) (c n : Nat) (m : Msg) : State :=
  let x := s.can c
  let s := if (AMap.find x.slots n).isSome then s.inc Reg.CAN_SLOT_OVER_COUNT 1 c else s
  s.canSet c { x with slots := AMap.ins x.slots n m }

/-- ID byte of a LIN channel (R260). -/
def State.linId (s : State) (l i : Nat) : Nat := s.linSched l (16 + i) 1

/-- What a message reads of CAN_SCHED and LIN_SCHED as it is delivered: under the previous epoch, that epoch's pages (R236); under
the present one, what the channel runs by (R62, assumption log 80). -/
def State.canEnUnder (s : State) (prev : Bool) (c : Nat) : Bool :=
  if prev then bit (s.secLE 0xA (c / 8 * 256 + c % 8 * 32 + 12) 1 true true) 7 else s.canEn c
def State.linEnUnder (s : State) (prev : Bool) (l : Nat) : Bool :=
  if prev then bit (s.secLE 0xB (16 * l) 1 true true) 7 else s.linEn l
def State.linIdUnder (s : State) (prev : Bool) (l i : Nat) : Nat :=
  if prev then s.secLE 0xB ((1 + l / 4) * 256 + 64 * (l % 4) + i) 1 true true else s.linId l i

/-- Replace a publish buffer; only an ID with PUB = 1 has one (R262). -/
def State.linPublish (s : State) (l i : Nat) (d : List Byte) (epoch : Nat) : State :=
  let x := s.lin l
  if bit (s.linIdUnder (s.prevEpoch epoch) l i) 5 then s.linSet l { x with pub := AMap.ins x.pub i ⟨d, some epoch, true⟩ } else s

/-! ### Encapsulation streams (R253–R255) -/

/-- Bytes of stream k's entry. -/
def State.streamCfg (s : State) (prev : Bool) (k off n : Nat) : Nat := s.secLE 9 ((5120 + k) * 256 + off) n true prev
def State.streamTpl (s : State) (prev : Bool) (k : Nat) : List Byte :=
  let h := clampNat 14 96 (s.streamCfg prev k 1 1 % 128)
  (s.secBytes 9 ((5120 + k) * 256 + 32) h true prev).getD []
def State.stream (s : State) (k : Nat) : AwlStream := AMap.get (fun _ => ⟨[], 0⟩) s.awl.streams k
def State.streamSet (s : State) (k : Nat) (x : AwlStream) : State :=
  s.awlSet (fun a => { a with streams := AMap.ins a.streams k x })

/-- The AVTP header of a stream's frame over n bytes of ACF data. -/
def avtpHdr (kind seq stream ts n : Nat) : List Byte :=
  if kind = 1 then [0x82] ++ beBytes 2 (0x8000 + n % 2048) ++ [BitVec.ofNat 8 seq] ++ leBytes 8 stream
  else [0x05, 0x81, BitVec.ofNat 8 seq, 0] ++ leBytes 8 stream ++ beBytes 4 ts ++ beBytes 4 0 ++ beBytes 2 n ++ [0, 0]

/-- The frame of a stream that holds ms, without FCS; its IPv4 identification is a value the spec does not state
(assumption log 11).  The route of each message gave its ACF bus, kept in its `sdt` field, which no bus format but XL uses. -/
def State.streamFrame (s : State) (k : Nat) (ms : List (Nat × Msg)) (ident : Nat) : Option (List Byte) :=
  match ms with
  | [] => none
  | (_, m0) :: _ =>
    let prev := s.prevEpoch m0.epoch
    let kind := s.streamCfg prev k 0 1 % 4
    let domain := bits (s.streamCfg prev k 0 1) 3 1
    let tpl := s.streamTpl prev k
    let seq := (s.stream k).seq
    (tplShape tpl kind).map (fun sh =>
      let pay :=
        if kind = 3 then bundle domain (s.get Reg.TIM_DOM_STAT_STATE 0 domain == 0) seq (s.dom domain % 2 ^ 32) (ms.map (fun c => c.2))
        else
          let acf := (ms.map (fun c => acfMsg (bit (s.streamCfg prev k 0 1) 2) domain c.1 c.2)).flatten
          avtpHdr kind (seq % 256) (s.streamCfg prev k 16 8) ((s.dom domain + s.streamCfg prev k 8 4) % 2 ^ 32) acf.length ++ acf
      let port := if kind = 3 then some (49152 + m0.bus) else none
      fillHeaders tpl sh ident port pay)

/-- STREAM_SEND (R255): the open frame of a stream leaves for the Clickers through its engine's AP port. -/
def State.streamSend (s : State) (k : Nat) : State :=
  let x := s.stream k
  match x.msgs with
  | [] => s
  | m0 :: _ =>
    let i := s.draw 65536
    let s := i.2
    let tagged := x.msgs.map (fun m => (m.sdt, m))
    match s.streamFrame k tagged i.1 with
    | none => s.streamSet k { x with msgs := [] }
    | some b =>
      let kind := s.streamCfg (s.prevEpoch m0.epoch) k 0 1 % 4
      let s := s.streamSet k ⟨[], (x.seq + 1) % (if kind = 3 then 65536 else 256)⟩
      if s.inService (33 + k / 128) then (s.handOver (33 + k / 128) m0.epoch b id).takeSlots (33 + k / 128)
      else s.apRefused (33 + k / 128)

/-- Length on the wire, DA through FCS, of a stream's frame with the messages given. -/
def State.streamLen (s : State) (k : Nat) (ms : List Msg) : Nat :=
  ((s.streamFrame k (ms.map (fun m => (m.sdt, m))) 0).map (fun b => b.length + 4)).getD 0

/-- A copy joins a stream (R254): true where it was accepted, false where it is a format error. -/
def State.streamJoin (s : State) (k : Nat) (m : Msg) : Bool × State :=
  let prev := s.prevEpoch m.epoch
  let kind := s.streamCfg prev k 0 1 % 4
  let maxLen := s.streamCfg prev k 2 2 % 16384
  let maxMsg := max 1 (s.streamCfg prev k 4 1)
  if kind = 0 || (tplShape (s.streamTpl prev k) kind).isNone || maxLen < s.streamLen k [m] then (false, s)
  else if kind != 3 && (m.fmt == .xl || m.fmt == .lin) then (false, s)
  else
    let x := s.stream k
    let other := (kind = 3 && x.msgs.any (fun y => y.bus != m.bus)) || x.msgs.any (fun y => y.epoch != m.epoch)
    let s := if !x.msgs.isEmpty && (other || maxLen < s.streamLen k (x.msgs ++ [m])) then s.streamSend k else s
    let x := s.stream k
    let s := s.streamSet k { x with msgs := x.msgs ++ [m] }
    if maxMsg ≤ x.msgs.length + 1 || s.streamCfg prev k 6 2 = 0 then (true, s.streamSend k) else (true, s)

/-! ### Route execution (R247–R249, R252) -/

/-- The output format of OFMT for an input format, with BRS; none keeps the input's flags. -/
def outFmt (o : Nat) (m : Msg) : BusFmt × Bool :=
  match o with
  | 1 => (.classic, false)
  | 2 => (.fd, false)
  | 3 => (.fd, true)
  | 4 => (.xl, false)
  | 5 => (.lin, false)
  | _ => (m.fmt, m.brs)

/-- Step 5: identifier and format (R248); none for a format error. -/
def reshape (x : Route) (m : Msg) : Option Msg :=
  let (fmt, brs) := outFmt x.ofmt m
  let id := if x.idOp then x.newId else m.id
  let ide := if x.idOp then x.newIde else m.ide
  let bad := !x.idOp && ((fmt == .xl && m.ide) || (m.fmt == .lin && fmt != .lin) || (fmt == .lin && m.fmt != .lin && decide (63 < m.id)))
  let rtr := m.rtr && fmt == .classic
  if bad || (m.rtr && fmt != .classic) then none
  else
    let xlIn := m.fmt == .xl
    some ⟨m.bus, fmt, (if fmt == .lin then id % 64 else if fmt == .xl || !ide then id % 2048 else id), ide && fmt != .xl && fmt != .lin,
      rtr, brs, m.esi && fmt == .fd, fmt == .xl && xlIn && m.sec, (if fmt == .xl then (if xlIn then m.sdt else x.xlSdt) else 0),
      (if fmt == .xl then (if xlIn then m.vcid else x.xlVcid) else 0), (if fmt == .xl then (if xlIn then m.af else x.xlAf) else 0),
      m.data, m.epoch, m.at_, m.sof0, m.sof1, m.auth⟩

/-- Step 6: the payload (R249). -/
def State.payload (s : State) (prev : Bool) (x : Route) (src : List Byte) (rtr : Bool) : List Byte :=
  let out := if x.outLen = 0 then src else src.take x.outLen ++ List.replicate (x.outLen - src.length) x.pad
  if rtr then List.replicate out.length 0
  else (List.range x.sigCount).foldl (fun d k =>
    let i := (x.sigFirst + k) % 32768
    let f := fun o n => s.secLE 9 ((4096 + i / 32) * 256 + i % 32 * 8 + o) n true prev
    moveSignal src d (f 0 2 % 16384) (bit (f 0 2) 14) (f 2 2 % 16384) (bit (f 2 2) 14) (f 4 1 % 128)) out

/-- The next length that a format can carry; none above its limit (step 8 of R247). -/
def fitLen (fmt : BusFmt) (n : Nat) : Option Nat :=
  match fmt with
  | .classic => if n ≤ 8 then some n else none
  | .fd => if n ≤ 8 then some n else [12, 16, 20, 24, 32, 48, 64].find? (n ≤ ·)
  | .xl => if n ≤ 2048 then some (max 1 n) else none
  | .lin => if n ≤ 8 then some (max 1 n) else none

/-- Step 9: the destination (R252): the state, and false for a format error. -/
def State.deliver (s : State) (e r : Nat) (x : Route) (m : Msg) : Bool × State :=
  let prev := s.prevEpoch m.epoch
  let can := decide (x.dchan < 64) && s.canEnUnder prev x.dchan && m.fmt != .lin
  match x.dest with
  | 1 => if can then (true, (s.canBuffer x.dchan m r).routeWake x.dchan) else (false, s)
  | 2 => if can && x.darg < 256 then (true, (s.canSlot x.dchan x.darg m).routeWake x.dchan) else (false, s)
  | 3 => if 64 ≤ x.dchan && x.dchan < 80 && x.darg < 64 && s.linEnUnder prev (x.dchan - 64)
         then (true, (s.linPublish (x.dchan - 64) x.darg m.data m.epoch).routeWake x.dchan) else (false, s)
  | 4 => if x.darg / 32 = e then s.streamJoin x.darg { m with sdt := if m.fmt == .xl then m.sdt else x.acfBus } else (false, s)
  | 5 =>
    let b := s.hostBundle m
    (true, b.2.awlPunt e m.epoch 0 (some m.bus) b.1)
  | _ => (x.dest == 0, s)

/-- ROUTE_EXECUTE on a bus message (R247): one copy of route r. -/
def State.routeMsg (s : State) (e r : Nat) (m : Msg) : State :=
  let prev := s.prevEpoch m.epoch
  let x := s.route prev r
  let s := s.awlSet (fun a => { a with
    hits := AMap.set cellDflt a.hits r (sat32 (AMap.get cellDflt a.hits r + 1))
    routed := AMap.set cellDflt a.routed (r / 1024) (AMap.get cellDflt a.routed (r / 1024) + 1) })
  if x.deny then (s.inc Reg.AWL_DENIED_COUNT 1 e).routeDrop r
  else
    let s := if x.mirror then s.awlException e 2 (.msg m) else s
    let met := match x.meter with
      | some k => s.meterFrame prev k m.length false
      | none => (.green, s)
    let s := met.2
    if met.1 == .red then s.routeDrop r
    else
      let bad := fun (s : State) => (s.awlFormat e (.msg m)).routeDrop r
      let ver := if x.crypto = 2 then s.pduOpen prev x.bind m else (.ok m, s)
      let s := ver.2
      let failed := fun (s : State) => (((s.inc Reg.AWL_VERIFY_FAIL_COUNT 1 e).raise Reg.AWL_IRQ_VERIFY_FAIL e).raise Reg.TCA_IRQ_TAG_FAIL).routeDrop r
      match ver.1 with
      | .fail => failed s
      | .notReady => (s.tcCount (33 + e / 4) tcNotReady).routeDrop r
      | .exhausted => (s.tcCount (33 + e / 4) tcTxPnExh).routeDrop r
      | .format => bad s
      | .ok v =>
        match reshape x v with
        | none => bad s
        | some o =>
          if x.crypto = 2 && (s.binding prev x.bind).type == 5 && o.fmt != .xl then bad s else
          let o := { o with data := s.payload prev x v.data o.rtr }
          let sealed_ := if x.crypto = 1 then s.pduSeal prev x.bind o else (.ok o, s)
          let s := sealed_.2
          match sealed_.1 with
          | .fail => failed s
          | .notReady => (s.tcCount (33 + e / 4) tcNotReady).routeDrop r
          | .exhausted => (s.tcCount (33 + e / 4) tcTxPnExh).routeDrop r
          | .format => bad s
          | .ok o =>
            match fitLen o.fmt o.data.length with
            | none => bad s
            | some n =>
              let o := { o with data := o.data ++ List.replicate (n - o.data.length) (if o.rtr then 0 else x.pad) }
              let d := s.deliver e r x o
              if d.1 then d.2 else bad d.2

/-- The chain from route r (R246), at most `left` routes more; f executes one. -/
def State.chain (s : State) (e r left : Nat) (x : AwlIn) (f : State → Nat → State) : State :=
  match left with
  | 0 => s.awlFormat e x
  | left + 1 =>
    let prev := s.prevEpoch x.epoch
    let c := s.route prev r
    let s := f s r
    if !c.cont then s
    else if c.next / 1024 != e || !(s.route prev c.next).valid then s.awlFormat e x
    else s.chain e c.next left x f

/-- Look a message up and execute its chain (R245, R246). -/
def State.routeMessage (s : State) (e : Nat) (m : Msg) : State :=
  match s.routeHit (s.prevEpoch m.epoch) e m with
  | some r => s.chain e r 8 (.msg m) (fun s r => s.routeMsg e r m)
  | none =>
    let s := (s.inc Reg.AWL_NO_ROUTE_COUNT 1 e).raise Reg.AWL_IRQ_NO_ROUTE e
    if bit (s.busFlags (s.prevEpoch m.epoch) m.bus) 0 then s.awlException e 1 (.msg m) else s

/-- DECAPSULATE (R256): the entries are routed in order up to the first fault.  An entry has had no start-of-frame edge on
a bus of the device, so its timestamps are values that the spec does not state (assumption log 11). -/
def State.decapsulate (s : State) (e : Nat) (x : Route) (f : ApFrame) : State :=
  let pay := etherPayload f.bytes
  let r : Option Nat × List Msg × Bool :=
    match pay with
    | none => (none, [], false)
    | some (port, b) =>
      if x.darg = 1 then
        if port.isNone then (none, [], false) else
        readBundle b
      else if x.darg = 0 then
        if port.isNone || port == some 17220 then
          let r := readAvtp b
          (none, r.1, r.2)
        else (none, [], false)
      else (none, [], false)
  let s := match r.1 with
    | some q =>
      let gap := match AMap.find s.awl.seen x.dchan with
        | some p => q != (p + 1) % 65536
        | none => false
      let s := if gap then s.inc Reg.AWL_SEQ_GAP_COUNT 1 e else s
      s.awlSet (fun a => { a with seen := AMap.ins a.seen x.dchan q })
    | none => s
  let s := r.2.1.foldl (fun s m =>
    let a := s.draw (2 ^ 64)
    let b := a.2.draw (2 ^ 64)
    b.2.routeMessage e { m with bus := x.dchan, epoch := f.epoch, at_ := f.at_, sof0 := a.1, sof1 := b.1 }) s
  if r.2.2 then s
  else
    let s := (s.inc Reg.AWL_DECAP_ERR_COUNT 1 e).raise Reg.AWL_IRQ_DECAP_ERR e
    if bit (s.busFlags (s.prevEpoch f.epoch) x.dchan) 1 then s.awlPunt e f.epoch 3 (some x.dchan) f.bytes else s

/-- ROUTE_EXECUTE on an Ethernet frame (R247): only a route with SRC = 0xFF and DEST 6 makes anything of one. -/
def State.routeEth (s : State) (e r : Nat) (f : ApFrame) : State :=
  let prev := s.prevEpoch f.epoch
  let x := s.route prev r
  let s := s.awlSet (fun a => { a with
    hits := AMap.set cellDflt a.hits r (sat32 (AMap.get cellDflt a.hits r + 1))
    routed := AMap.set cellDflt a.routed (r / 1024) (AMap.get cellDflt a.routed (r / 1024) + 1) })
  if x.deny then (s.inc Reg.AWL_DENIED_COUNT 1 e).routeDrop r
  else
    let s := if x.mirror then s.awlException e 2 (.eth f) else s
    let met := match x.meter with
      | some k => s.meterFrame prev k f.rxLen f.dei
      | none => (.green, s)
    let s := met.2
    if met.1 == .red then s.routeDrop r
    else if x.dest = 6 && x.src = 255 && 80 ≤ x.dchan && s.hasSec 9 then s.decapsulate e x f
    else if x.dest = 0 then s
    else (s.awlFormat e (.eth f)).routeDrop r

end Sys2Proof.Machine
end

