-- ==== Sys2Proof/Machine/AwlCmds.lean ====
section
/-! DEFINITION. The commands of the Awl engines and of their CAN and LIN channels (R237–R242, R254, R256–R265). -/
namespace Sys2Proof.Machine

/-! ### Engines (R237) -/

/-- Engine e accepts messages (AWL_STAT.RUNNING). -/
def State.awlRuns (s : State) (e : Nat) : Bool := s.pageReady (0x110 + e) && s.ucodeRuns

/-- The AP input queue of engine e. -/
def State.apQueue (s : State) (e : Nat) : List ApFrame := AMap.get (fun _ => []) s.awl.ap e
def State.apQueueSet (s : State) (e : Nat) (q : List ApFrame) : State :=
  s.awlSet (fun a => { a with ap := AMap.set (fun _ => []) a.ap e q })

/-- Take the next message of source k of engine e: 0–3 its CAN receive FIFOs, 4 its LIN channel, 5 its AP queue. -/
def State.takeSource (s : State) (e k : Nat) : Option (AwlIn × State) :=
  if k < 4 then
    match (s.can (4 * e + k)).rx with
    | m :: r => some (.msg m, s.canSet (4 * e + k) { s.can (4 * e + k) with rx := r })
    | [] => none
  else if k = 4 then
    match (s.lin e).rx with
    | m :: r => some (.msg m, s.linSet e { s.lin e with rx := r })
    | [] => none
  else
    match s.apQueue e with
    | f :: r => some (.eth f, s.apQueueSet e r)
    | [] => none

/-- The next message of engine e in round-robin order. -/
def State.takeTurn (s : State) (e : Nat) : Option (AwlIn × State) :=
  let t := AMap.get cellDflt s.awl.turn e
  (List.range 6).findSome? (fun i =>
    let k := (t + i) % 6
    (s.takeSource e k).map (fun r => (r.1, r.2.awlSet (fun a => { a with turn := AMap.set cellDflt a.turn e ((k + 1) % 6) }))))

/-- AWL_ACCEPT: engine e takes its next message; a bus message is stamped with the current epoch and its age starts
(R26, R61, R240), and its route is looked up and executed (R245–R256). -/
def awlAccept (e : Nat) (s : State) : State :=
  if !s.awlRuns e then s else
  match s.takeTurn e with
  | none => s
  | some (x, s) =>
    let s := s.incWrap Reg.AWL_MSGS_FULL 1 e
    match x with
    | .msg m => s.routeMessage e { m with epoch := s.get Reg.LST_EPOCH_CUR, at_ := s.now }
    | .eth f => s.chain e f.route 8 (.eth f) (fun s r => s.routeEth e r f)

/-- AP_FRAME_TO_AWL: the copy that AP port p sends enters the input queue of its route's engine, or is dropped where
that queue holds 256 frames. -/
def apFrameToAwl (p : Nat) (s : State) : State :=
  if p < 33 then s else
  let s := s.fabNow
  match s.clr.copies.find? (fun c => c.port == p && c.st == .sending) with
  | none => s
  | some c =>
    match s.frame c.frame with
    | none => s.rmCopy c.id
    | some f =>
      if !f.whole || s.readsWait c.id != 0 then s else
      let r := f.route.getD 0
      let e := r / 1024
      let q := s.apQueue e
      let s := if q.length < 256 then s.apQueueSet e (q ++ [⟨s.copyBody c f, f.rxLen, c.epoch, f.at_, r, f.dei⟩])
        else (s.inc Reg.AWL_OVERLOAD_COUNT 1 e).raise Reg.AWL_IRQ_OVERLOAD e
      (s.rmCopy c.id).reap

/-- STREAM_HOLD_EXPIRY: HOLD µs after its first message, stream k sends its open frame (R254). -/
def streamHoldExpiry (k : Nat) (s : State) : State := s.streamSend k

/-- AWL_WATCHDOG: engine e does not complete the message whose turn it is: the message is lost and the engine resets
(R265). -/
def awlWatchdog (e : Nat) (s : State) : State :=
  if !s.awlRuns e then s else
  match s.takeTurn e with
  | none => s
  | some (_, s) =>
    let s := (s.inc Reg.AWL_OVERLOAD_COUNT 1 e).raise Reg.AWL_IRQ_OVERLOAD e
    let s := s.put Reg.AWL_STAT_WDOGS (min 255 (s.get Reg.AWL_STAT_WDOGS e + 1)) e
    (s.raise Reg.AWL_IRQ_WDOG e).fault (0x110 + e) 0x1D01

/-! ### CAN controllers -/

/-- States of CAN_STAT. -/
def csOFF : Nat := 0
def csINTEGRATING : Nat := 1
def csACTIVE : Nat := 2
def csPASSIVE : Nat := 3
def csBUSOFF : Nat := 4
def csRESTRICTED : Nat := 5

/-- The controller's integration ends with the first activity that it takes part in; its state follows its error
counters (ISO 11898-1: passive above 127, assumption log 12). -/
def State.canConfine (s : State) (c : Nat) : State :=
  let st := s.get Reg.CAN_STAT_STATE c
  if st = csINTEGRATING || st = csACTIVE || st = csPASSIVE then
    let st' := if 127 < s.get Reg.CAN_STAT_TEC c || 127 < s.get Reg.CAN_STAT_REC c then csPASSIVE else csACTIVE
    let s := s.put Reg.CAN_STAT_STATE st' c
    if st' = csPASSIVE && st != csPASSIVE then s.raise Reg.CAN_IRQ_ERR_PASSIVE c else s
  else s

/-- The controller takes part in traffic with its error counters running. -/
def State.canLive (s : State) (c : Nat) : Bool :=
  let st := s.get Reg.CAN_STAT_STATE c
  st == csINTEGRATING || st == csACTIVE || st == csPASSIVE

/-- A format that the channel's enables let it take (R238). -/
def State.canTakes (s : State) (c : Nat) (f : BusFmt) : Bool :=
  match f with
  | .classic => true
  | .fd => s.canFlag c 0
  | .xl => s.canFlag c 1
  | .lin => false

/-- Payload bytes that a message stores; a remote frame stores none. -/
def Msg.stored (m : Msg) : Nat := if m.rtr then 0 else m.data.length

/-- Payload bytes in the receive FIFO (CAN_OCC.RX_BYTES). -/
def Can.rxBytes (x : Can) : Nat := x.rx.foldl (fun a m => a + m.stored) 0

/-- A received frame is discarded as RX_OVERFLOW. -/
def State.rxOverflow (s : State) (c : Nat) : State := (s.inc Reg.CAN_RX_OVF_COUNT 1 c).raise Reg.CAN_IRQ_RX_OVF c

/-- REC after a frame received well (ISO 11898-1, assumption log 12): down by 1, and from above 127 to a value of
119–127 that the standard leaves free. -/
def State.recDown (s : State) (c : Nat) : State :=
  let r := s.get Reg.CAN_STAT_REC c
  if 127 < r then
    let d := s.draw 9
    d.2.put Reg.CAN_STAT_REC (119 + d.1) c
  else s.put Reg.CAN_STAT_REC (r - 1) c

/-- CAN_FRAME_RX: controller c receives a frame whose start-of-frame edge came `ago` ns before (R238, R239, R242); it is
valid traffic on its cluster (R368). -/
def canFrameRx (c : Nat) (w : CanWire) (ago : Nat) (s : State) : State :=
  let restricted := s.get Reg.CAN_STAT_STATE c == csRESTRICTED
  if !(s.canLive c || restricted) then s
  else if !s.canTakes c w.fmt then (if restricted then s else s.put Reg.CAN_STAT_STATE csINTEGRATING c)
  else
    let s := if restricted then s else (s.recDown c).canConfine c
    let s := (s.validTraffic (s.clusterOfCan c)).kaSeen (.can c w.id w.ide)
    let m : Msg :=
      ⟨c, w.fmt, w.id, w.ide, w.rtr, w.brs, w.esi, w.sec, w.sdt, w.vcid, w.af, w.data, s.get Reg.LST_EPOCH_CUR, s.now,
        s.dom 0 - ago, s.dom 1 - ago, false⟩
    let x := s.can c
    if 64 ≤ x.rx.length || 16384 < x.rxBytes + m.stored then s.rxOverflow c
    else (s.canSet c { x with rx := x.rx ++ [m] }).inc Reg.CAN_RX_OK_COUNT 1 c

/-- CAN_FIFO_ERROR: an uncorrectable error in the FIFO memory of controller c discards the affected frame: the one at
position k of the FIFO, or the one being received (R265). -/
def canFifoError (c k : Nat) (s : State) : State :=
  let x := s.can c
  let s := s.canSet c { x with rx := x.rx.eraseIdx k }
  (s.rxOverflow c).fault (0x120 + c) 0x1E01

/-! ### Transmission (R240, R259) -/

/-- Slot n of channel c: OFFSET, WINDOW, VALID (R257). -/
def State.slotAt (s : State) (c n k w : Nat) : Nat := s.canSched c (32 + 8 * n + k) w
def State.slotOffset (s : State) (c n : Nat) : Nat := s.slotAt c n 0 4
def State.slotValid (s : State) (c n : Nat) : Bool := bit (s.slotAt c n 6 1) 0

/-- The Lace that the slots of channel c follow. -/
def State.refPort (s : State) (c : Nat) : Nat := s.canHdr c 16 1 % 32
def State.refLace (s : State) (c : Nat) : Lace := s.lce (s.refPort c)

/-- Slot n of channel c runs (R258). -/
def State.slotRuns (s : State) (c n : Nat) : Bool :=
  bit (s.canHdr c 16 1) 7 && s.slotValid c n && s.laceRuns (s.refPort c) &&
  decide (s.slotOffset c n < (s.refLace c).oper.cycle)

/-- How long until the next OFFSET of slot n. -/
def State.slotIn (s : State) (c n : Nat) : Nat :=
  let l := s.refLace c
  let t := s.dom l.oper.domain
  let at_ := l.cycleAt + s.slotOffset c n
  if t < at_ then at_ - t else at_ + l.oper.cycle - t

/-- The worst-case duration of a frame on channel c in ns (R259). -/
def State.canTime (s : State) (c : Nat) (m : Msg) : Nat :=
  Config.canWorst (s.canHdr c 0 4 % 2 ^ 30) (if m.fmt == .xl then s.canHdr c 8 4 % 2 ^ 30 else s.canHdr c 4 4 % 2 ^ 30) m.fmt.code
    m.ide (m.fmt == .fd && m.brs) m.stored

/-- A priority frame may start: it would end before the OFFSET of every slot that holds a frame (R259). -/
def State.guardLets (s : State) (c : Nat) (m : Msg) : Bool :=
  (s.can c).slots.all (fun x => !s.slotRuns c x.1 || decide (s.canTime c m < s.slotIn c x.1))

/-- Position of the buffered frame that wins arbitration among those that p lets start; the earliest of equals. -/
def firstWinner (ms : List Msg) (p : Msg → Bool) : Option Nat :=
  (List.range ms.length).foldl (fun acc k =>
    match ms[k]? with
    | none => acc
    | some m =>
      if !p m then acc
      else match acc with
        | none => some k
        | some j => if m.arb < ((ms[j]?).map Msg.arb).getD 0 then some k else some j) none

/-- The frames of channel c whose age exceeds TX_AGE are discarded as they would contend. -/
def State.ageBuffers (s : State) (c : Nat) : State :=
  let x := s.can c
  let old := fun (m : Msg) => decide (s.busAge (s.prevEpoch m.epoch) c * 1000000 < s.now - m.at_)
  let n := (x.tx.filter old).length
  (s.canSet c { x with tx := x.tx.filter (fun m => !old m) }).inc Reg.CAN_AGED_COUNT n c

/-- CAN_TX_START: the bus of channel c is idle: its keep-alive, else the frame of an open slot, else the buffered frame
that wins arbitration starts. -/
def canTxStart (c : Nat) (s : State) : State :=
  if !s.canLive c || (s.can c).sending != .idle then s
  else
    let s := (s.canConfine c).ageBuffers c
    let x := s.can c
    if x.ka.isSome then (s.canSet c { x with sending := .keepAlive }).stampCan c
    else match x.windows.findSome? (fun n => (AMap.find x.slots n).map (fun m => (n, m))) with
      | some (n, m) => (s.canSet c { x with sending := .slot n m, slots := AMap.del x.slots n }).stampCan c
      | none =>
        match firstWinner x.tx (s.guardLets c) with
        | none => s
        | some k =>
          match x.tx[k]? with
          | some m => (s.canSet c { x with tx := m :: x.tx.eraseIdx k, sending := .buffer }).stampCan c
          | none => s

/-- The frame that channel c has sent. -/
def Can.sent (x : Can) : Option Msg :=
  match x.sending with
  | .idle => none
  | .buffer => x.tx.head?
  | .slot _ m => some m
  | .keepAlive => x.ka
  | .lone m => some m

/-- The frame of channel c has been sent: TEC falls by 1 (ISO 11898-1), and the transmitter delay is measured where it
is compensated, a value that the spec does not give. -/
def State.txSent (s : State) (c : Nat) : State :=
  let x := s.can c
  let measured := s.canFlag c 3 && (match x.sent with
    | some m => m.fmt == .xl || m.fmt == .fd
    | none => false)
  let s := s.canSet c { x with sending := .idle, tx := (if x.sending == .buffer then x.tx.drop 1 else x.tx),
                               ka := (if x.sending == .keepAlive then none else x.ka) }
  let s := s.put Reg.CAN_STAT_TEC (s.get Reg.CAN_STAT_TEC c - 1) c
  let s := s.inc Reg.CAN_TX_OK_COUNT 1 c
  if measured then
    let d := s.draw 256
    d.2.put Reg.CAN_TDC_TDCV d.1 c
  else s

/-- CAN_TX_DONE: the frame in transmission on channel c has been sent, has lost arbitration, or has met an error: TEC
rises by 8 and an error frame is counted (ISO 11898-1, assumption log 12). -/
def canTxDone (c : Nat) (e : CanEnd) (s : State) : State :=
  if (s.can c).sending == .idle then s
  else match e with
    | .ok => ((s.txSent c).canConfine c).canSettle c
    | .lostArbitration => (s.txFailed c).canSettle c
    | .error =>
      let s := (s.txFailed c).inc Reg.CAN_ERR_FRAMES_COUNT 1 c
      ((s.put Reg.CAN_STAT_TEC (min 255 (s.get Reg.CAN_STAT_TEC c + 8)) c).canConfine c).canSettle c

/-- CAN_BUS_OFF: channel c goes bus-off (R241). -/
def canBusOff (c : Nat) (s : State) : State :=
  if !s.canLive c then s
  else
    let s := s.txFailed c
    let s := s.put Reg.CAN_STAT_STATE csBUSOFF c
    let s := s.inc Reg.CAN_BUSOFFS_COUNT 1 c
    let s := s.canSet c { s.can c with recovering := false, waiting := s.canFlag c 4 }
    (s.raise Reg.CAN_IRQ_BUS_OFF c).canSettle c

/-- Start the recovery of 128 occurrences of 11 recessive bits. -/
def State.startRecovery (s : State) (c : Nat) : State :=
  if s.get Reg.CAN_STAT_STATE c = csBUSOFF then s.canSet c { s.can c with recovering := true, waiting := false } else s

/-- REC_DELAY_EXPIRY (R241). -/
def recDelayExpiry (c : Nat) (s : State) : State := if (s.can c).waiting then s.startRecovery c else s

/-- CAN_RECOVER: a write of CAN_CTRL.RECOVER (R241). -/
def canRecover (m : Master) (c : Nat) (s : State) : State := s.direct m (0x120 + c) 0x080 (fun s => s.startRecovery c)

/-- CAN_RECOVERED: the recovery of channel c is complete; both error counters are 0 (ISO 11898-1).  Under a transceiver in LISTEN
it is restricted (R242). -/
def canRecovered (c : Nat) (s : State) : State :=
  if !(s.can c).recovering || s.get Reg.CAN_STAT_STATE c != csBUSOFF then s
  else
    let s := s.canSet c { s.can c with recovering := false }
    let s := (s.put Reg.CAN_STAT_TEC 0 c).put Reg.CAN_STAT_REC 0 c
    (s.put Reg.CAN_STAT_STATE (if (s.can c).hold = 1 then csRESTRICTED else csACTIVE) c).raise Reg.CAN_IRQ_RECOVERED c

/-- The open slots of channel c with slot n among them: in OFFSET order as their offsets come, and of equal offsets in slot order
(R258). -/
def State.slotQueue (s : State) (c n : Nat) (ws : List Nat) : List Nat :=
  let later := (ws.reverse.takeWhile (fun w => s.slotOffset c w == s.slotOffset c n && decide (n < w))).length
  ws.take (ws.length - later) ++ n :: ws.drop (ws.length - later)

/-- CAN_SLOT_START: slot n of channel c reaches its OFFSET: a frame older than the reference cycle is discarded as AGED,
any other takes precedence while WINDOW is open (R258, R259). -/
def canSlotStart (c n : Nat) (s : State) : State :=
  if !s.slotRuns c n then s
  else
    let x := s.can c
    match AMap.find x.slots n with
    | none => s
    | some m =>
      if (s.refLace c).oper.cycle < s.now - m.at_ then
        (s.canSet c { x with slots := AMap.del x.slots n }).inc Reg.CAN_AGED_COUNT 1 c
      else s.canSet c { x with windows := s.slotQueue c n (x.windows.filter (· != n)) }

/-- CAN_SLOT_WINDOW_CLOSE: the WINDOW of slot n closes; a frame whose transmission has not begun is missed (R259). -/
def canSlotWindowClose (c n : Nat) (s : State) : State :=
  let x := s.can c
  if !x.windows.contains n then s
  else
    let s := s.canSet c { x with windows := x.windows.filter (· != n), slots := AMap.del x.slots n }
    if (AMap.find x.slots n).isSome then s.slotMissed c else s

/-! ### LIN (R260–R263) -/

/-- An ID byte's fields. -/
def State.linLen (s : State) (l i : Nat) : Nat := let n := s.linId l i % 16
                                                 if n = 0 then 8 else min 8 n
def State.linPub (s : State) (l i : Nat) : Bool := bit (s.linId l i) 5
def State.linSub (s : State) (l i : Nat) : Bool := bit (s.linId l i) 6

/-- A schedule entry: ID, TYPE, ALT, SLOT. -/
def State.linEntry (s : State) (l t e : Nat) : Nat × Nat × Nat × Nat :=
  let o := 80 + 512 * t + 8 * e
  let b := s.linSched l o 1
  (b % 64, (if b / 64 = 3 then 0 else b / 64), s.linSched l (o + 1) 1 % 8, s.linSched l (o + 2) 2)

/-- The channel runs. -/
def State.linRuns (s : State) (l : Nat) : Bool := s.get Reg.LIN_STAT_STATE l == 1

/-- The publish buffer of an ID, 0xFF as the Last was applied. -/
def State.pubBuf (s : State) (l i : Nat) : Publish := AMap.get (fun _ => ⟨List.replicate 8 0xFF, none, false⟩) (s.lin l).pub i

/-- A response of ID i is routed where SUB = 1 (R262). -/
def State.linRoute (s : State) (l i : Nat) (d : List Byte) : State :=
  if s.linSub l i then
    let m : Msg := ⟨64 + l, .lin, i, false, false, false, false, false, 0, 0, 0, d, s.get Reg.LST_EPOCH_CUR, s.now, s.dom 0, s.dom 1,
      false⟩
    s.linSet l { s.lin l with rx := (s.lin l).rx ++ [m] }
  else s

/-- The channel sends its published response to ID i, or meets a bit error in it; a commander's own response is looked
up like any other (R262). -/
def State.linAnswer (s : State) (l i : Nat) (bitErr own : Bool) : State :=
  if bitErr then s.inc Reg.LIN_BIT_ERR_COUNT 1 l
  else
    let b := s.pubBuf l i
    let s := s.linSet l { s.lin l with pub := AMap.ins (s.lin l).pub i { b with epoch := none, fresh := false } }
    let s := s.inc Reg.LIN_TX_OK_COUNT 1 l
    if own then s.linRoute l i (padTo (s.linLen l i) b.data) else s

/-- Count a missing response of the entry that ends. -/
def State.linMissing (s : State) (l : Nat) : State :=
  if (s.lin l).expect.isSome then
    let s := s.linSet l { s.lin l with expect := none, event := none }
    (s.inc Reg.LIN_NO_RESP_COUNT 1 l).raise Reg.LIN_IRQ_NO_RESP l
  else s

/-- Replace the schedule table that was asked for (R261). -/
def State.linReplace (s : State) (l : Nat) : State :=
  match (s.lin l).req with
  | none => s
  | some t =>
    let s := s.linSet l { s.lin l with req := none, back := [], next := 0 }
    (s.put Reg.LIN_STAT_TABLE t l).raise Reg.LIN_IRQ_TABLE_SW l

/-- The table and entry that begin next: a table ends at entry 64 or at SLOT = 0, and then the table that ALT stood in
for goes on, or the table restarts. -/
def State.linNext (s : State) (l : Nat) : (Nat × Nat) × List (Nat × Nat) :=
  let x := s.lin l
  let t := s.get Reg.LIN_STAT_TABLE l
  let ends := fun t e => decide (64 ≤ e) || (s.linEntry l t e).2.2.2 == 0
  if !ends t x.next then ((t, x.next), x.back)
  else
    match x.back.dropWhile (fun p => ends p.1 p.2) with
    | p :: r => (p, r)
    | [] => (((x.back.getLast?.map (fun p => p.1)).getD t, 0), [])

/-- LIN_ENTRY_START: commander l starts its next schedule entry (R261).  bitErr: its own transmission met a bit error, in
the response where it publishes one and else in the header. -/
def linEntryStart (l : Nat) (bitErr : Bool) (s : State) : State :=
  if !s.linRuns l || !s.linCommander l then s
  else
    let asked := (s.lin l).req.isSome
    let s := (s.linMissing l).linReplace l
    let s := if asked || (s.linNext l).1.2 == 0 then s.awlSet (fun a => { a with linOld := AMap.del a.linOld l }) else s
    if !s.linCommander l then s else
    let n := s.linNext l
    let t := n.1.1
    let e := n.1.2
    let en := s.linEntry l t e
    let s := (s.put Reg.LIN_STAT_TABLE t l).put Reg.LIN_STAT_ENTRY e l
    if en.2.2.2 = 0 then s
    else
      let s := s.linSet l { s.lin l with next := e + 1, back := n.2 }
      if en.2.1 = 2 && !(s.pubBuf l en.1).fresh then s
      else
        let s := s.linSet l { s.lin l with wakes := 0 }
        let s := if s.linPub l en.1 || !bitErr then s.validTraffic (s.clusterOfLin l) else s
        if s.linPub l en.1 then (s.inc Reg.LIN_TX_OK_COUNT 1 l).linAnswer l en.1 bitErr true
        else if bitErr then s.inc Reg.LIN_BIT_ERR_COUNT 1 l
        else (s.inc Reg.LIN_TX_OK_COUNT 1 l).linSet l { s.lin l with expect := some en.1, event := (if en.2.1 = 1 then some en.2.2.1 else none) }

/-- LIN_HEADER_RX: responder l receives the header of ID i at `rate` bit/s (R261). -/
def linHeaderRx (l i rate : Nat) (bitErr : Bool) (s : State) : State :=
  if !s.linRuns l || s.linCommander l then s
  else
    let b := s.linRate l
    if 14 * b < 100 * (rate - b) || 14 * b < 100 * (b - rate) then
      (s.inc Reg.LIN_SYNC_ERR_COUNT 1 l).raise Reg.LIN_IRQ_SYNC_ERR l
    else
      let s := s.put Reg.LIN_STAT_RATE rate l
      let s := s.linSet l { s.lin l with wakes := 0, expect := none, event := none }
      let s := (s.validTraffic (s.clusterOfLin l)).kaSeen (.linHeader l)
      if s.linPub l i then s.linAnswer l i bitErr false
      else s.linSet l { s.lin l with expect := some i }

/-- A checksum error. -/
def State.linChk (s : State) (l : Nat) : State := (s.inc Reg.LIN_CHK_ERR_COUNT 1 l).raise Reg.LIN_IRQ_CHK_ERR l

/-- LIN_RESPONSE_RX: the response to the last header of channel l has been received (R261, R262). -/
def linResponseRx (l : Nat) (e : LinEnd) (s : State) : State :=
  match (s.lin l).expect with
  | none => s
  | some i =>
    let ev := (s.lin l).event
    let s := s.linSet l { s.lin l with expect := none, event := none }
    match e with
    | .ok d =>
      if d.length = s.linLen l i then
        ((s.inc Reg.LIN_RX_OK_COUNT 1 l).kaSeen (.linResponse l i)).linRoute l i d
      else s.linChk l
    | .checksum => s.linChk l
    | .bitError => s.inc Reg.LIN_BIT_ERR_COUNT 1 l
    | .collision =>
      (match ev with
        | some a =>
          let x := s.lin l
          let here := (s.get Reg.LIN_STAT_TABLE l, x.next)
          (s.linSet l { x with back := here :: x.back, next := 0 }).put Reg.LIN_STAT_TABLE a l
        | none => s.linChk l)

/-- A new value of LIN_CTRL.TABLE is a request (R261). -/
def State.linAsk (s : State) (l t : Nat) : State :=
  let was := s.get Reg.LIN_CTRL_TABLE l
  let s := s.put Reg.LIN_CTRL_TABLE t l
  if was = t then s else s.linSet l { s.lin l with req := some t }

/-- LIN_TABLE_WRITE: a write of LIN_CTRL.TABLE. -/
def linTableWrite (m : Master) (l t : Nat) (s : State) : State := s.direct m (0x160 + l) 0x080 (fun s => s.linAsk l (t % 8))

/-- Send a wake pulse (R263); an OFF channel drives its bus recessive (R260). -/
def State.linWake (s : State) (l : Nat) : State :=
  if s.get Reg.LIN_STAT_STATE l = 0 then s else s.linSet l { s.lin l with wakes := 1 }

/-- LIN_WAKE_TX: a write of LIN_CTRL.WAKE_TX (R263). -/
def linWakeTx (m : Master) (l : Nat) (s : State) : State := s.direct m (0x160 + l) 0x080 (fun s => s.linWake l)

/-- LIN_WAKE_REPEAT: 150 ms have passed since a wake pulse without a header or break (R263). -/
def linWakeRepeat (l : Nat) (s : State) : State :=
  let n := (s.lin l).wakes
  if 1 ≤ n && n < 3 then s.linSet l { s.lin l with wakes := n + 1 } else s

/-- LIN_WAKE_RX: a dominant pulse of at least 150 µs on a running channel (R263). -/
def linWakeRx (l : Nat) (s : State) : State := if s.linRuns l then s.raise Reg.LIN_IRQ_WAKE_RX l else s

/-- Messages of the buses that hold an epoch live (R64): in receive FIFOs a message has no epoch yet. -/
def State.awlEpochLive (s : State) (ep : Nat) : Bool :=
  s.awl.ap.any (fun q => q.2.any (fun f => f.epoch == ep)) ||
  s.awl.streams.any (fun x => x.2.msgs.any (fun m => m.epoch == ep)) ||
  s.awl.can.any (fun x =>
    x.2.tx.any (fun m => m.epoch == ep) || x.2.slots.any (fun m => m.2.epoch == ep) ||
    (match x.2.sending with
      | .slot _ m => m.epoch == ep
      | .lone m => m.epoch == ep
      | _ => false)) ||
  s.awl.lin.any (fun x => x.2.pub.any (fun p => p.2.epoch == some ep))

end Sys2Proof.Machine
end

