-- ==== Sys2Proof/Machine/Arrive.lean ====
section
/-! DEFINITION. Frames as they arrive, tick by tick: what their bytes claim, show, write and let be read (R126, R129, R149, R157,
R217–R220). -/
namespace Sys2Proof.Machine

/-- A cut-through copy is starved: a short fabric has not brought it bytes that are due on its wire, though they have been written or are
about to be (R129, R131). -/
def State.starved (s : State) (c : Copy) (f : Frame) : Bool :=
  let got := c.asked - s.readsWait c.id
  c.ct && c.st == .sending && s.fabShort && decide (got < f.stored) && decide (s.streamOf c f got < s.sentNow c)

/-- The copies of a frame that are starved are poisoned with cause 7. -/
def State.starve (s : State) (fid : Nat) : State :=
  match s.frame fid with
  | none => s
  | some f => ((s.copiesOf fid).filter (fun c => s.starved c f)).foldl (fun s c => s.poisonCopy c 7) s

/-- One tick of the arrival of a frame that is not whole. -/
def State.arrive (s : State) (fid : Nat) : State :=
  let a := s.bytesIn fid
  if a.1 then a.2
  else
    let b := a.2.bytesOn fid
    if b.1 then b.2.fabNow.starve fid else b.2

/-- One tick of every arrival. -/
def State.arriveAll (s : State) : State :=
  ((s.clr.frames.filter (fun f => !f.whole && f.lost.isNone)).map Frame.id).foldl State.arrive s

end Sys2Proof.Machine
end

