-- ==== Sys2Proof/Machine/Lace.lean ====
section
/-! DEFINITION. Lace: the start, the cycle and the swap of gate control lists, loss of lock, and preemption
(R194–R203). -/
namespace Sys2Proof.Machine

/-- States of LCE_STAT. -/
def lcUNLOCKED : Nat := 0
def lcWAITING : Nat := 1
def lcRUNNING : Nat := 2

/-- A domain in which lists may run: LOCKED or HOLDOVER (R195). -/
def State.domOk (s : State) (d : Nat) : Bool := 2 ≤ s.get Reg.TIM_DOM_STAT_STATE 0 d

/-- Store LCE_STAT.STATE with the Lace-not-locked condition of R34, and, while not RUNNING, all gates open and no hold (R35); the
credits have counted by the gates until then (R177). -/
def State.lceState (s : State) (p st : Nat) : State :=
  let s := s.creditSync p
  let s := s.put Reg.LCE_STAT_STATE st p
  let s := if st = lcRUNNING then s else (s.lceSet p { s.lce p with hold := false }).put Reg.LCE_STAT_GATES 255 p
  s.portCauseSet Reg.MAC_CAUTIOUS_LACE p (st != lcRUNNING)

/-- Preemption as the operative list and verification have it (R202); a hold acts only while it is active (R194). -/
def State.preemptSync (s : State) (p : Nat) : State :=
  let l := s.lce p
  let on := l.oper.preempt && (l.oper.verifyDis || l.verified)
  (s.lceSet p { l with hold := l.hold && on }).put Reg.LCE_STAT_PREEMPT_ACTIVE (b2n on) p

/-- Install an operative list: its registers, and a fresh verification count (R202).  A hold in effect stays where preemption
stays active (the model's choice, assumption log 54). -/
def State.setOper (s : State) (p : Nat) (g : GateList) : State :=
  let s := s.lceSet p { s.lce p with oper := g, admin := none, attempts := 0, tail := false }
  let s := s.put Reg.LCE_STAT_PENDING 0 p
  let s := s.put Reg.LCE_OPER_CYCLE_CYCLE g.cycle p
  let s := s.put Reg.LCE_OPER_CFG_EXPRESS g.express p
  let s := s.put Reg.LCE_OPER_CFG_DOMAIN g.domain p
  let s := s.put Reg.LCE_OPER_CFG_SYNC_EN (b2n g.syncEn) p
  let s := s.put Reg.LCE_OPER_CFG_GUARD (b2n g.guard) p
  let s := s.put Reg.LCE_OPER_CFG_PREEMPT (b2n g.preempt) p
  let s := s.put Reg.LCE_OPER_CFG_ADD_FRAG g.addFrag p
  s.preemptSync p

/-- An operative list without a running cycle: locked at once where LEN = 0, else WAITING (R195).  No entry of it can end a
hold, and CAN slots that follow it wait for no cycle. -/
def State.awaitList (s : State) (p : Nat) : State :=
  let s := (s.lceSet p { s.lce p with hold := false }).put Reg.LCE_STAT_ENTRY 0 p
  let s := if (s.lce p).oper.len = 0 then (s.lceState p lcRUNNING).put Reg.LCE_STAT_GATES 255 p else s.lceState p lcWAITING
  s.cycleSchedules p

/-- Preempt the preemptable copy that port p sends where its gate has closed or a hold is in effect (R203); the moment is
that of the gate event or the request, not of the next fragment boundary (assumption log 68). -/
def State.gateCut (s : State) (p : Nat) : State :=
  s.clrSet (fun k => { k with copies := k.copies.map (fun c =>
    if c.port == p && c.st == .sending && s.gateCuts p (c.svc % 8) then s.preempted c else c) })

/-- Begin entry e: its gates take effect (R194). -/
def State.beginEntry (s : State) (p e : Nat) : State :=
  let s := s.creditSync p
  let l := s.lce p
  let t := s.dom l.oper.domain
  let s := s.lceSet p { l with entryAt := t, tail := e + 1 == l.oper.len }
  let s := s.put Reg.LCE_STAT_ENTRY e p
  (s.put Reg.LCE_STAT_GATES (((l.oper.entries[e]?).map (fun x => x.2.1)).getD 255) p).gateCut p

/-- Begin a cycle at domain time t (R194). -/
def State.beginCycle (s : State) (p t : Nat) : State :=
  let s := s.lceSet p { s.lce p with cycleAt := t }
  (s.incWrap Reg.LCE_CYCLES_COUNT 1 p).beginEntry p 0

/-- The boundary of port p's list nearest to the present moment, with the SYNC_IN offset where it follows (R194, R205). -/
def State.nearBoundary (s : State) (p : Nat) : Nat :=
  let l := (s.lce p).oper
  let o : Int := if s.follows l then s.tim.syncO else 0
  let t : Int := s.dom l.domain
  let n : Int := (t - o - l.base + l.cycle / 2) / (max 1 l.cycle : Nat)
  (l.base + o + n * l.cycle).toNat

/-- No Last is applied: the Lace of port p is not locked, and its gates are open (R35, R195). -/
def State.laceStop (s : State) (p : Nat) : State :=
  (((s.lceSet p idleLace).setOper p noList).lceState p lcUNLOCKED).cycleSchedules p

/-- The list of the committed section becomes the oper list directly (R199): after a reload, after a reset that reapplies
the Last, and at the end of a BLOCK reset of the LCE page.  A list that fails R197 runs as one with LEN = 0 (assumption
log 68). -/
def State.laceApply (s : State) (p : Nat) : State :=
  let g := s.lastList p
  let e := s.listCheck g (s.lastBaseNs p)
  let s := s.lceSet p idleLace
  if e = 0 then (s.setOper p g).awaitList p
  else
    let s := (s.put Reg.LCE_STAT_ERR e p).raise Reg.LCE_IRQ_CONFIG_ERR p
    (s.setOper p { g with len := 0, entries := [] }).awaitList p

/-- The config change time of an accepted list (R198). -/
def changeTime (t base cycle : Nat) : Nat :=
  if t + 2000 ≤ base then base else base + ceilDiv (t + 2000 - base) cycle * cycle

/-- LACE_ADMIN_CHECK: a flip has changed the list of port p (R197–R199). -/
def State.laceFlip (s : State) (p : Nat) : State :=
  let g := s.lastList p
  let e := s.listCheck g (s.lastBaseNs p)
  if e ≠ 0 then
    let s := (s.put Reg.LCE_STAT_ERR e p).raise Reg.LCE_IRQ_CONFIG_ERR p
    (s.lceSet p { s.lce p with admin := none }).put Reg.LCE_STAT_PENDING 0 p
  else if g.len = 0 || s.get Reg.LCE_STAT_STATE p != lcRUNNING then
    ((s.setOper p g).awaitList p).raise Reg.LCE_IRQ_SWAPPED p
  else
    let cct := changeTime (s.dom g.domain) g.base g.cycle
    let s := s.lceSet p { s.lce p with admin := some g, cct := cct }
    let s := s.put Reg.LCE_STAT_PENDING 1 p
    let s := s.put Reg.LCE_CHANGE_SEC_LO_SEC (cct / 1000000000) p
    let s := s.put Reg.LCE_CHANGE_SEC_HI_SEC (cct / 1000000000 / 2 ^ 32) p
    s.put Reg.LCE_CHANGE_NS_NS (cct % 1000000000) p

/-- LACE_LOCK_LOST: the running list of port p loses lock (R196). -/
def State.laceLost (s : State) (p : Nat) : State :=
  let l := s.lce p
  if s.get Reg.LCE_STAT_STATE p != lcRUNNING || l.oper.len == 0 then s
  else
    let s := s.inc Reg.LCE_LOCKS_LOST 1 p
    let s := s.raise Reg.LCE_IRQ_LOCK_LOST p
    let s := s.lceSet p { s.lce p with hold := false, tail := false }
    match l.admin with
    | some g => ((s.setOper p g).awaitList p).raise Reg.LCE_IRQ_SWAPPED p
    | none => s.awaitList p

/-- Every list of domain d that runs loses lock. -/
def State.domainLost (s : State) (d : Nat) : State :=
  (List.range 32).foldl (fun s p => if (s.lce p).oper.domain = d then s.laceLost p else s) s

/-- LACE_START: the waiting list of port p begins its first cycle (R195). -/
def laceStart (p : Nat) (s : State) : State :=
  let l := (s.lce p).oper
  if !s.pllRuns || s.get Reg.LCE_STAT_STATE p != lcWAITING || !s.domOk l.domain || decide (s.dom l.domain + 4 < l.base) then s
  else ((s.lceState p lcRUNNING).beginCycle p (s.nearBoundary p)).raise Reg.LCE_IRQ_LOCKED p

/-- The config change time of port p's pending list g, in the time of the list that runs. -/
def State.swapAt (s : State) (p : Nat) (g : GateList) : Nat :=
  s.dom (s.lce p).oper.domain + (s.lce p).cct - s.dom g.domain

/-- LACE_CYCLE_BOUNDARY: a boundary of the oper list of port p; before a swap, one inside CYCLE_EXT begins no cycle, and
the gate states in effect hold (R194, R198). -/
def laceCycleBoundary (p : Nat) (s : State) : State :=
  let l := s.lce p
  if !s.laceRuns p || l.oper.len = 0 then s
  else
    let t := s.nearBoundary p
    match l.admin with
    | some g =>
      let swap := s.swapAt p g
      if swap < t + l.oper.ext || decide (swap ≤ t) then s.lceSet p { l with tail := true } else s.beginCycle p t
    | none => s.beginCycle p t

/-- GATE_ENTRY_END: the INTERVAL of the present entry ends; after the last entry its gates hold (R194). -/
def gateEntryEnd (p : Nat) (s : State) : State :=
  let l := s.lce p
  if !s.laceRuns p || l.tail || l.oper.len = 0 then s
  else s.beginEntry p (s.get Reg.LCE_STAT_ENTRY p + 1)

/-- HOLD_ADV_REQUEST: the moment HOLD_ADV or REL_ADV before entry e of port p (R194), while preemption is active. -/
def holdAdvRequest (p e : Nat) (s : State) : State :=
  let l := s.lce p
  if !s.laceRuns p || !s.flag Reg.LCE_STAT_PREEMPT_ACTIVE p then s
  else match l.oper.entries[e]? with
    | some (_, _, 1) => (s.lceSet p { l with hold := true }).gateCut p
    | some (_, _, 2) => s.lceSet p { l with hold := false }
    | _ => s

/-- LACE_SWAP: the config change time of port p: the admin list becomes the oper list (R198). -/
def laceSwap (p : Nat) (s : State) : State :=
  let l := s.lce p
  match l.admin with
  | none => s
  | some g =>
    let s := (s.setOper p g).raise Reg.LCE_IRQ_SWAPPED p
    if s.domOk g.domain then (s.lceState p lcRUNNING).beginCycle p l.cct else s.awaitList p

/-- PREEMPT_VERIFY: a verify mPacket of port p is answered, or not (R202). -/
def preemptVerify (p : Nat) (answered : Bool) (s : State) : State :=
  let l := s.lce p
  if !l.oper.preempt || l.oper.verifyDis || l.verified || 3 ≤ l.attempts || !s.flag Reg.MAC_LINK_UP p then s
  else
    let s := s.lceSet p { l with attempts := l.attempts + 1, verified := answered }
    let s := s.preemptSync p
    if !answered && l.attempts + 1 == 3 then s.raise Reg.LCE_IRQ_VERIFY_FAIL p else s

/-- Link-up of port p begins a new verification (R202). -/
def State.verifyAgain (s : State) (p : Nat) : State := (s.lceSet p { s.lce p with attempts := 0, verified := false }).preemptSync p

end Sys2Proof.Machine
end

