-- ==== Sys2Proof/Machine/TimeBase.lean ====
section
/-! DEFINITION. The time base: domain clocks and states (R184–R190), the SYNC_IN follower (R205–R207) and the time pins
(R208–R210). -/
namespace Sys2Proof.Machine

/-- Change the time component. -/
def State.timSet (s : State) (f : Tim → Tim) : State := { s with tim := f s.tim }

/-- The TIM page. -/
def pgTIM : Nat := 0x0A0

/-- The time base's page is powered and not held in BLOCK reset. -/
def State.timHere (s : State) : Bool := s.pagePowered pgTIM && !s.pageHeld pgTIM

/-- The time base runs: its PLL has a reference (R338 step 5). -/
def State.timOn (s : State) : Bool := s.timHere && s.pllRuns

/-- RATE of a domain. -/
def State.rate (s : State) (d : Nat) : Int := toSigned 32 (s.get Reg.TIM_RATE_RATE 0 d)

/-- The present reading of a clock as its domain counts. -/
def State.clk (s : State) (d : Nat) : Nat := if d = 0 then s.tim.clk0 else s.tim.clk1
def State.clkSet (s : State) (d v : Nat) : State :=
  s.timSet (fun t => if d = 0 then { t with clk0 := v } else { t with clk1 := v })

/-- One tick of a clock: 2 ns and the rate adjustment. -/
def tickBy (rate : Int) (v : Nat) : Nat := ((v : Int) + 2 * 2 ^ 32 + rate).toNat

/-- TIME_BASE_TICK: every enabled domain advances (R184); elapsed time follows domain 0's ticks (R186), which the model
keeps counting while the time base is off (assumption log 13).  What arrives meanwhile acts as it arrives (assumption log 71). -/
def timeBaseTick (s : State) : State :=
  let r := if s.timHere then s.rate 0 else 0
  let s := s.timSet (fun t => { t with elapsed := tickBy r t.elapsed })
  let s := if !s.timOn then s
    else [0, 1].foldl (fun s d => if s.domEn d then s.clkSet d (tickBy (s.rate d) (s.clk d)) else s) s
  s.fabNow.arriveAll

/-- Store a domain's state: a change raises LOCK_CHG; a list needs LOCKED or HOLDOVER (R187, R196); PPS_OUT is low in
FREE (R208). -/
def State.domState (s : State) (d st : Nat) : State :=
  let old := s.get Reg.TIM_DOM_STAT_STATE 0 d
  let s := s.put Reg.TIM_DOM_STAT_STATE st 0 d
  let s := if old = st then s else s.raise Reg.TIM_IRQ_LOCK_CHG 0 d
  let s := if st < 2 then s.domainLost d else s
  if st = 0 && s.get Reg.TIM_PPS_DOMAIN == d then s.timSet (fun t => { t with ppsAt := none }) else s

/-- PTP_CFG has been applied, or no Last is: a domain that it does not enable reads 0 and has no valid time (R184, R187). -/
def State.clocksApply (s : State) : State :=
  [0, 1].foldl (fun (s : State) d =>
    if s.domEn d then s
    else
      let s := s.timSet (fun t => if d = 0 then { t with clk0 := 0, good0 := 0 } else { t with clk1 := 0, good1 := 0 })
      (s.domState d 0).put Reg.TIM_DOM_STAT_GM 0 0 d) s

/-- Count of successive Sync messages within LOCK_THR. -/
def State.goodSyncs (s : State) (d : Nat) : Nat := if d = 0 then s.tim.good0 else s.tim.good1
def State.goodSet (s : State) (d n : Nat) : State :=
  s.timSet (fun t => if d = 0 then { t with good0 := n } else { t with good1 := n })

/-- DOMAIN_STEP: the firmware sets the clock of domain d to `ns` (R185, R196); a grandmaster domain is LOCKED at once
(R187). -/
def domainStep (d ns : Nat) (s : State) : State :=
  if !s.timOn || !s.domEn d then s
  else
    let s := s.clkSet d (ns * 2 ^ 32)
    let s := s.goodSet d 0
    let s := s.put Reg.TIM_DOM_STAT_STEPS (min 255 (s.get Reg.TIM_DOM_STAT_STEPS 0 d + 1)) 0 d
    let s := s.domState d 1
    let s := s.raise Reg.TIM_IRQ_STEP 0 d
    if s.flag Reg.TIM_DOM_STAT_GM 0 d then s.domState d 2 else s

/-- RATE_ADJUST: the firmware sets RATE, limited to ±500 ppm (R184, R185); in HOLDOVER RATE is frozen (R187). -/
def rateAdjust (d : Nat) (rate : Int) (s : State) : State :=
  if !s.timHere || s.get Reg.TIM_DOM_STAT_STATE 0 d == 3 then s
  else s.put Reg.TIM_RATE_RATE (ofSigned 32 (clampInt (-4294967) 4294967 rate)) 0 d

/-- SYNC_RX: a Sync of domain d shows an offset in ns (R187). -/
def syncRx (d : Nat) (offset : Int) (s : State) : State :=
  if !s.timOn || !s.domEn d || s.flag Reg.TIM_DOM_STAT_GM 0 d then s
  else
    let s := s.put Reg.TIM_OFFSET_OFFSET (ofSigned 32 (clampInt (-2147483648) 2147483647 offset)) 0 d
    let good := decide (offset.natAbs ≤ s.lockThr d)
    let n := if good then s.goodSyncs d + 1 else 0
    let s := s.goodSet d n
    match s.get Reg.TIM_DOM_STAT_STATE 0 d with
    | 0 => s.domState d 1
    | 1 => if 8 ≤ n then s.domState d 2 else s
    | 3 => s.domState d (if good then 2 else 1)
    | _ => s

/-- SYNC_RECEIPT_TIMEOUT (R187). -/
def syncReceiptTimeout (d : Nat) (s : State) : State :=
  if s.get Reg.TIM_DOM_STAT_STATE 0 d = 2 && !s.flag Reg.TIM_DOM_STAT_GM 0 d then (s.goodSet d 0).domState d 3 else s

/-- HOLDOVER_EXPIRY (R187, R196). -/
def holdoverExpiry (d : Nat) (s : State) : State :=
  if s.get Reg.TIM_DOM_STAT_STATE 0 d = 3 then (s.goodSet d 0).domState d 0 else s

/-- GRANDMASTER_CHANGE: domain d gains or gives up its grandmaster role; `portless`: the domain has no gPTP port (R187). -/
def grandmasterChange (d : Nat) (gm portless : Bool) (s : State) : State :=
  if !s.timOn || !s.domEn d then s
  else
    let was := s.flag Reg.TIM_DOM_STAT_GM 0 d
    let s := s.put Reg.TIM_DOM_STAT_GM (b2n gm) 0 d
    if gm then s.domState d 2
    else if was && portless then (s.goodSet d 0).domState d 0
    else s

/-- TIME_SNAPSHOT: both domains at one tick into the master's results (R118). -/
def State.timeSnap (s : State) (m : Master) : State :=
  [0, 1].foldl (fun s d =>
    let t := s.dom d
    let s := s.put Reg.TIM_T_SEC_LO_SEC (t / 1000000000) 0 d m.code
    let s := s.put Reg.TIM_T_SEC_HI_SEC (t / 1000000000 / 2 ^ 32) 0 d m.code
    s.put Reg.TIM_T_NS_NS (t % 1000000000) 0 d m.code) s

def timeSnapshot (m : Master) (s : State) : State := s.directFree m pgTIM 0x080 (fun s => s.timeSnap m)

/-! ### The SYNC_IN follower (R205–R207) -/

/-- States of TIM_SYNC_STAT. -/
def syOFF : Nat := 0
def syFOLLOWING : Nat := 1
def syRETURNING : Nat := 2
def syLOST : Nat := 3

/-- Store the offset O. -/
def State.syncSetO (s : State) (o : Int) : State :=
  (s.timSet (fun t => { t with syncO := o })).put Reg.TIM_SYNC_OFFSET_O (ofSigned 32 o)

/-- SYNC_LOST: the follower becomes RETURNING (R206 steps 3 and 4). -/
def State.syncLoses (s : State) : State :=
  ((s.timSet (fun t => { t with syncTarget := none, syncMissed := 0, syncRest := 0 })).put Reg.TIM_SYNC_STAT_STATE syRETURNING).raise
    Reg.TIM_IRQ_SYNC_LOST

/-- The follower takes DOMAIN and POL, or PERIOD, as their registers hold them (R205). -/
def State.syncTakeCfg (s : State) : State :=
  let dom := s.get Reg.TIM_SYNC_CFG_DOMAIN
  let pol := s.get Reg.TIM_SYNC_CFG_POL
  s.timSet (fun t => { t with syncDomain := dom, syncPol := pol })
def State.syncTakePeriod (s : State) : State :=
  let per := s.get Reg.TIM_SYNC_PERIOD_PERIOD
  s.timSet (fun t => { t with syncPeriod := per })

/-- A write of TIM_SYNC_CFG.EN (R206 step 7). -/
def State.syncEn (s : State) (en : Bool) : State :=
  let was := s.flag Reg.TIM_SYNC_CFG_EN
  let s := s.put Reg.TIM_SYNC_CFG_EN (b2n en)
  if en && !was then
    (s.syncTakeCfg.syncTakePeriod.timSet (fun t => { t with syncTarget := none, syncMissed := 0, syncRest := 0 })).put Reg.TIM_SYNC_STAT_STATE syFOLLOWING
  else if !en && was then
    let s := s.timSet (fun t => { t with syncTarget := none, syncRest := 0 })
    s.put Reg.TIM_SYNC_STAT_STATE (if s.tim.syncO = 0 then syOFF else syRETURNING)
  else s

/-- SYNC_ENABLE: a write of TIM_SYNC_CFG.EN. -/
def syncEnable (m : Master) (en : Bool) (s : State) : State := s.direct m pgTIM 0x0CC (fun s => s.syncEn en)

/-- The base whose period boundaries P the follower expects: that of the lowest-numbered port whose list follows; 0 where
none does (assumption log 14). -/
def State.syncBase (s : State) : Nat :=
  (((List.range 32).find? (fun p => s.laceRuns p && s.follows (s.lce p).oper)).map (fun p => (s.lce p).oper.base)).getD 0

/-- SYNC_IN_EDGE: an edge on SYNC_IN (R206 steps 1–3). -/
def syncInEdge (rising : Bool) (s : State) : State :=
  if !s.timOn || s.get Reg.TIM_SYNC_STAT_STATE != syFOLLOWING || rising == (s.tim.syncPol == 1) then s
  else
    let per : Int := max 1 s.tim.syncPeriod
    let edge : Int := (s.dom s.tim.syncDomain : Int) - toSigned 16 (s.get Reg.TIM_SYNC_DELAY_DELAY)
    let off := (edge - s.tim.syncO - s.syncBase + per / 2) % per - per / 2
    let ignore := s.inc Reg.TIM_SYNC_IGNORED_COUNT
    if per < 4 * off.natAbs || s.tim.syncTarget.isSome then ignore
    else
      let target := s.tim.syncO + off
      if 250000 < target.natAbs then s.syncLoses
      else s.timSet (fun t => { t with syncTarget := some target })

/-- SYNC_PERIOD_BOUNDARY (R206 steps 4–6, R207). -/
def syncPeriodBoundary (s : State) : State :=
  if !s.timOn then s else
  let st := s.get Reg.TIM_SYNC_STAT_STATE
  if st = syFOLLOWING then
    let due := s.syncDue
    let rest := s.syncWant - due
    let hit := s.tim.syncTarget.isSome
    let s := (s.syncSetO (s.tim.syncO + due)).timSet (fun t => { t with syncTarget := none, syncRest := rest })
    if hit then s.timSet (fun t => { t with syncMissed := 0 })
    else
      let n := s.tim.syncMissed + 1
      if s.get Reg.TIM_SYNC_CFG_MISS ≤ n then s.syncLoses else s.timSet (fun t => { t with syncMissed := n })
  else if st = syRETURNING then
    let o := s.tim.syncO + s.syncDue
    let s := s.syncSetO o
    if o = 0 then s.put Reg.TIM_SYNC_STAT_STATE (if s.flag Reg.TIM_SYNC_CFG_EN then syLOST else syOFF) else s
  else s

/-! ### Time pins (R208–R210) -/

/-- PPS_PULSE: a whole second of the chosen domain (R208). -/
def ppsPulse (s : State) : State :=
  if s.timOn && s.flag Reg.TIM_PPS_EN && s.get Reg.TIM_DOM_STAT_STATE 0 (s.get Reg.TIM_PPS_DOMAIN) != 0 then
    let t := s.now
    s.timSet (fun x => { x with ppsAt := some t })
  else s

/-- A write of TIM_PPS: a pulse that has begun ends where PPS_OUT is disabled or given another domain. -/
def State.ppsWrite (s : State) (en : Bool) (dom width : Nat) : State :=
  let keep := en && s.get Reg.TIM_PPS_DOMAIN == dom
  let s := ((s.put Reg.TIM_PPS_EN (b2n en)).put Reg.TIM_PPS_DOMAIN dom).put Reg.TIM_PPS_WIDTH width
  if keep then s else s.timSet (fun t => { t with ppsAt := none })

/-- The level of PPS_OUT: low in FREE (R208). -/
def State.ppsOut (s : State) : Bool :=
  s.flag Reg.TIM_PPS_EN && s.get Reg.TIM_DOM_STAT_STATE 0 (s.get Reg.TIM_PPS_DOMAIN) != 0 && (match s.tim.ppsAt with
    | some t => decide (s.now < t + s.get Reg.TIM_PPS_WIDTH * 1000)
    | none => false)

/-- Captures of EVT_IN[i], oldest first. -/
def State.evts (s : State) (i : Nat) : List (Nat × Nat × Bool) := s.tim.evt.filter (fun e => e.1 == i)

/-- EVT_IN_EDGE: an edge on EVT_IN[i], of a pulse that lasts `width` ns (R209). -/
def evtInEdge (i : Nat) (rising : Bool) (width : Nat) (s : State) : State :=
  let e := s.get Reg.TIM_EVT_CFG_EDGE 0 i
  let chosen := if e = 2 then !rising else if e = 3 then true else rising
  if !s.timOn || !s.flag Reg.TIM_EVT_CFG_EN 0 i || !chosen || width < 2 * s.get Reg.TIM_EVT_CFG_FILTER 0 i then s
  else if 16 ≤ (s.evts i).length then (s.inc Reg.TIM_EVT_LOST_COUNT 1 0 i).raise Reg.TIM_IRQ_EVT_OVF
  else
    let t := s.dom (s.get Reg.TIM_EVT_CFG_DOMAIN 0 i)
    (s.timSet (fun x => { x with evt := x.evt ++ [(i, t, rising)] })).raise Reg.TIM_IRQ_EVT 0 i

/-- The word that TIM_EVT_NS[i] reads (R209). -/
def State.evtWord (s : State) (i : Nat) : Nat :=
  match (s.evts i).head? with
  | some (_, t, r) => t % 1000000000 + b2n r * 2 ^ 30 + 2 ^ 31
  | none => 0

/-- Remove the first element that satisfies p. -/
def dropFirst {α : Type} (p : α → Bool) : List α → List α
  | [] => []
  | x :: r => if p x then r else x :: dropFirst p r

/-- An ordinary read of TIM_EVT_NS[i] removes the capture that it returns and shows its seconds. -/
def State.evtPop (s : State) (i : Nat) : State :=
  match (s.evts i).head? with
  | some (_, t, _) =>
    let s := s.timSet (fun x => { x with evt := dropFirst (fun e => e.1 == i) x.evt })
    let s := s.put Reg.TIM_EVT_SEC_LO_SEC (t / 1000000000) 0 i
    s.put Reg.TIM_EVT_SEC_HI_SEC (t / 1000000000 / 2 ^ 32) 0 i
  | none => s

/-- Arm or disarm TRG_OUT[i] by a write of EN (R210).  In level mode with START past or less than 2 µs ahead the output starts low and
rises at the first later multiple, whatever its parity (the model's choice, assumption log 53). -/
def State.trgEn (s : State) (i : Nat) (en : Bool) : State :=
  let was := s.flag Reg.TIM_TRG_CFG_EN 0 i
  let s := s.put Reg.TIM_TRG_CFG_EN (b2n en) 0 i
  if !en then s.timSet (fun t => { t with trg := AMap.del t.trg i })
  else if was then s
  else
    let d := s.get Reg.TIM_TRG_CFG_DOMAIN 0 i
    let now := s.dom d
    let hi := now / 1000000000 / 2 ^ 32
    let start := (hi * 2 ^ 32 + s.get Reg.TIM_TRG_START_SEC_SEC 0 i) * 1000000000 + s.get Reg.TIM_TRG_START_NS_NS 0 i
    let per := max 1 (s.get Reg.TIM_TRG_PERIOD_PERIOD 0 i)
    let mode := s.get Reg.TIM_TRG_CFG_MODE 0 i % 3
    let late := mode == 0 && decide (start < now + 2000)
    let next := if mode = 0 then start else if now + 2000 ≤ start then start else start + ceilDiv (now + 2000 - start) per * per
    let x : Trg := ⟨mode, d, s.get Reg.TIM_TRG_CFG_WIDTH 0 i, per, (if late then none else some next), none, false⟩
    let s := s.timSet (fun t => { t with trg := AMap.ins t.trg i x })
    let s := s.put Reg.TIM_TRG_CFG_LATE (b2n late) 0 i
    if late then s.raise Reg.TIM_IRQ_TRG 0 i else s

/-- TRG_ARM: a write of TIM_TRG_CFG[i].EN. -/
def trgArm (m : Master) (i : Nat) (en : Bool) (s : State) : State := s.direct m pgTIM (0x140 + 16 * i) (fun s => s.trgEn i en)

/-- TRG_EDGE: TRG_OUT[i] produces its scheduled pulse or toggle (R210). -/
def trgEdge (i : Nat) (s : State) : State :=
  if !s.timOn then s else
  match AMap.find s.tim.trg i with
  | none => s
  | some x =>
    match x.next with
    | none => s
    | some t =>
      let now := s.now
      let y : Trg := if x.mode = 2 then { x with next := some (t + x.period), level := !x.level }
        else { x with next := (if x.mode = 0 then none else some (t + x.period)), pulseAt := some now }
      let s := s.timSet (fun z => { z with trg := AMap.ins z.trg i y })
      if x.mode = 0 then s.raise Reg.TIM_IRQ_TRG 0 i else s

/-- The level of TRG_OUT[i]. -/
def State.trgOut (s : State) (i : Nat) : Bool :=
  match AMap.find s.tim.trg i with
  | none => false
  | some x =>
    if x.mode = 2 then x.level
    else match x.pulseAt with
      | some t => decide (s.now < t + x.width)
      | none => false

end Sys2Proof.Machine
end

