-- ==== Sys2Proof/Machine/Ethernet.lean ====
section
/-! DEFINITION. Link, flush states, pause, test modes, the 10BASE-T1S PHYs and MDIO (R161–R164, R211–R214, R221–R234). -/
namespace Sys2Proof.Machine

/-! ### Link (R211–R214) -/

/-- MAC_LINK.RATE of a mode; the in-band modes take that of the in-band word (R211, R212). -/
def modeRate (mode inBand : Nat) : Nat :=
  match mode with
  | 1 => 1
  | 2 => 2
  | 3 => inBand
  | 4 => 3
  | 5 => 4
  | 6 => inBand
  | 7 => 7
  | _ => 0

/-- The mode carries an in-band rate (R212). -/
def rateOk (mode rate : Nat) : Bool :=
  if mode = 3 then rate == 2 || rate == 3 || rate == 4
  else if mode = 6 then rate == 5 || rate == 6
  else true

/-- SDS_STAT.BAUD of a mode. -/
def modeBaud (mode : Nat) : Nat :=
  match mode with
  | 1 => 1
  | 2 => 2
  | 3 => 2
  | 4 => 3
  | 5 => 4
  | 6 => 5
  | _ => 0

/-- Nothing keeps the MAC of port p from having link when its mode's condition holds. -/
def State.mayLink (s : State) (p : Nat) : Bool :=
  bit s.pwr.powered (macDomain p) && !s.portHeld p && s.flag Reg.PG_CTRL_ENABLE (0x0D0 + p) && !s.testMode p &&
  s.portMode p != 0 && (24 ≤ p || s.get Reg.CGU_STAT_SDSREF == 2) && (p < 24 || (s.pllRuns && decide (s.get Reg.T1S_STAT_STATE (p - 24) < 2)))

/-- The link condition of port p comes to hold (R214), with the in-band rate where the mode has one. -/
def State.linkGained (s : State) (p inBand : Nat) : State :=
  let mode := s.portMode p
  if s.flag Reg.MAC_LINK_UP p || !s.mayLink p then s
  else if !rateOk mode inBand then (s.put Reg.MAC_LINK_RATE_UNSUP 1 p).raise Reg.MAC_IRQ_RATE_UNSUP p
  else
    let r := modeRate mode inBand
    let l := modeLatency mode (s.portFec p) r
    let s := s.macSet p { s.mac p with mode := mode + 16 * s.portFec p }
    let s := s.put Reg.MAC_LINK_UP 1 p
    let s := s.put Reg.MAC_LINK_RATE r p
    let s := s.put Reg.MAC_LINK_LF 0 p
    let s := s.put Reg.MAC_LINK_RF 0 p
    let s := s.put Reg.MAC_LINK_HI_BER 0 p
    let s := s.put Reg.MAC_LINK_RATE_UNSUP 0 p
    let s := (s.put Reg.MAC_LATENCY_TX l.1 p).put Reg.MAC_LATENCY_RX l.2 p
    let s := if p < 24 then
        let s := s.put Reg.SDS_STAT_SIGNAL 1 p
        let s := s.put Reg.SDS_STAT_CDR_LOCK 1 p
        let s := s.put Reg.SDS_STAT_PLL_LOCK 1 p
        (s.put Reg.SDS_STAT_EQ_VALID 1 p).put Reg.SDS_STAT_BAUD (modeBaud mode) p
      else s
    let s := (s.raise Reg.MAC_IRQ_LINK_UP p).verifyAgain p
    s.portSync p

/-- LINK_UP. -/
def linkUp (p inBand : Nat) (s : State) : State := s.linkGained p inBand

/-- What the MAC or the lane shows of a failed link condition. -/
def State.linkWhy (s : State) (p : Nat) (why : LinkFail) : State :=
  match why with
  | .blockLock => s
  | .hiBer => s.put Reg.MAC_LINK_HI_BER 1 p
  | .localFault => s.put Reg.MAC_LINK_LF 1 p
  | .remoteFault => s.put Reg.MAC_LINK_RF 1 p
  | .signal => if p < 24 then ((s.put Reg.SDS_STAT_SIGNAL 0 p).put Reg.SDS_STAT_CDR_LOCK 0 p).raise Reg.SDS_IRQ_SIGNAL_LOST p else s
  | .cdr => if p < 24 then (s.put Reg.SDS_STAT_CDR_LOCK 0 p).raise Reg.SDS_IRQ_CDR_LOST p else s
  | .inBandWord => s

/-- LINK_DOWN: the link condition of port p fails, or a further part of it (R162, R214). -/
def linkDown (p : Nat) (why : LinkFail) (s : State) : State :=
  if bit s.pwr.powered (macDomain p) && !s.portHeld p && (s.portMode p != 0 || s.flag Reg.MAC_LINK_UP p) then (s.linkWhy p why).linkLost p else s

/-- The MAC of port p transmits remote fault: a BASE-R or USXGMII receiver without link (R214). -/
def State.sendsRemoteFault (s : State) (p : Nat) : Bool :=
  bit s.pwr.powered (macDomain p) && !s.portHeld p && s.flag Reg.PG_CTRL_ENABLE (0x0D0 + p) &&
  decide (1 ≤ s.portMode p) && decide (s.portMode p ≤ 4) && !s.flag Reg.MAC_LINK_UP p

/-- INBAND_RATE_CHANGE: handled as a link loss and a link-up at the new rate (R212). -/
def inbandRateChange (p rate : Nat) (s : State) : State :=
  let mode := s.portMode p
  if mode = 3 || mode = 6 then (s.linkLost p).linkGained p rate else s

/-- PLL_LOST: the transmit PLL of lane p loses lock (R234). -/
def pllLost (p : Nat) (s : State) : State :=
  if 24 ≤ p || s.get Reg.CGU_STAT_SDSREF != 2 then s
  else
    let s := (s.put Reg.SDS_STAT_PLL_LOCK 0 p).raise Reg.SDS_IRQ_PLL_LOST p
    (s.linkLost p true).fault (0x0F0 + p) 0x1B01

/-! ### Flush states (R161, R164) -/

/-- FLUSH_COMPLETE: the flush of port p completes. -/
def flushComplete (p : Nat) (s : State) : State :=
  if !s.flushDone p then s
  else if s.portState p = psFLUSHING then (s.put Reg.SOL_PORT_STATE_STATE psDOWN 0 p).raise Reg.SOL_IRQ_FLUSH_DONE
  else if s.portState p = psHELD then
    let s := (s.put Reg.SOL_PORT_STATE_STATE psRETURNING 0 p).raise Reg.SOL_IRQ_FLUSH_DONE
    let s := if p < 32 then s.portCauseSet Reg.MAC_CAUTIOUS_RETURN p true else s
    s.budget
  else s

/-- PORT_RETURN_END: 1 ms in RETURNING without a trigger. -/
def portReturnEnd (p : Nat) (s : State) : State :=
  if s.portState p = psRETURNING then
    let s := s.put Reg.SOL_PORT_STATE_STATE psUP 0 p
    if p < 32 then s.portCauseSet Reg.MAC_CAUTIOUS_RETURN p false else s
  else s

/-- A supply that R362 watches is below its warning level, or has recovered less than 100 µs ago. -/
def State.supplyLow (s : State) : Bool :=
  s.pwr.low != 0 || (match s.fab.warnAt with
    | some t => decide (s.now < t + 100000)
    | none => false)

/-- CAUTIOUS_CONDITION_END: the hold time of a condition has passed (R34). -/
def cautiousConditionEnd (c : HoldCause) (s : State) : State :=
  match c with
  | .supply => if s.supplyLow then s else s.devCause Reg.DEV_CAUTIOUS_SUPPLY false
  | .pace =>
    if s.slicesIn.all (fun n => (s.slice n).reported && decide (500 ≤ s.get Reg.FAB_PACE_PACE n)) then
      s.devCause Reg.DEV_CAUTIOUS_PACE false
    else s
  | .fault => s.devCause Reg.DEV_CAUTIOUS_FAULT false
  | .portFault p => if p < 32 then s.portCauseSet Reg.MAC_CAUTIOUS_FAULT p false else s

/-! ### Pause (R221–R224) -/

/-- The destination address of pause frames. -/
def pauseDA : List Byte := [0x01, 0x80, 0xC2, 0x00, 0x00, 0x01]

/-- Honour a pause (R222): quanta 0 ends it. -/
def State.honour (s : State) (p : Nat) (op : Nat) (b : List Byte) : State :=
  let o := ctlOff b
  let s :=
    if op = 1 then s.put Reg.MAC_PAUSE_STAT_PAUSED (b2n (beNat (sub b (o + 4) 2) != 0)) p
    else
      let vec := beNat (sub b (o + 4) 2)
      let m := (List.range 8).foldl (fun m c =>
        if bit vec c then setBit m c (beNat (sub b (o + 6 + 2 * c) 2) != 0) else m) (s.get Reg.MAC_PAUSE_STAT_CLASSES p)
      s.put Reg.MAC_PAUSE_STAT_CLASSES m p
  s.pauseTrack p

/-- PAUSE_FRAME_RX: a MAC control frame, DA through FCS, is received whole at port p; symErr: with a PCS error character
(R217, R218, R221). -/
def pauseFrameRx (p : Nat) (b : List Byte) (symErr : Bool) (s : State) : State :=
  let n := b.length
  if !s.flag Reg.MAC_LINK_UP p || !macControl b then s
  else
    let s := if symErr then s.macCnt p 12 else s
    let fcsOk := leNat (b.drop (n - 4)) == crc32Eth (b.take (n - 4))
    if fifoSize p < s.fifoFill p + min (s.maxFrame p) 2048 then s.macCnt p 11
    else if s.maxFrame p < n then s.macCnt p 9
    else if n < 64 then s.macCnt p 8
    else if symErr || !fcsOk then s.macCnt p 10
    else
      let op := beNat (sub b (ctlOff b + 2) 2)
      if op != 1 && op != 0x101 then s.macCnt p 7
      else
        let s := s.macCnt p (if op = 1 then 5 else 6)
        if s.flag Reg.MAC_PAUSE_STAT_IGNORING p then s.macCnt p 31
        else if !isTP p && b.take 6 == pauseDA && (if op = 1 then s.rxPause p else s.pfc p) then s.honour p op b
        else s

/-- PAUSE_EXPIRY: the quanta of the 802.3x pause (none), or of a PFC class, run out on port p (R222). -/
def pauseExpiry (p : Nat) (cls : Option Nat) (s : State) : State :=
  let s := match cls with
    | none => s.put Reg.MAC_PAUSE_STAT_PAUSED 0 p
    | some c => s.put Reg.MAC_PAUSE_STAT_CLASSES (setBit (s.get Reg.MAC_PAUSE_STAT_CLASSES p) c false) p
  s.pauseTrack p

/-- The pause frame that the MAC of port p sends: DA, MAC_ADDR, EtherType 0x8808, opcode 1 and the quanta, padded, with its
FCS (R221, R223). -/
def State.pauseFrame (s : State) (p quanta : Nat) : List Byte :=
  let b := pad60 (pauseDA ++ s.macAddr p ++ [0x88, 0x08, 0x00, 0x01] ++ (leBytes 2 quanta).reverse)
  b ++ leBytes 4 (crc32Eth b)

/-- Send a pause frame ahead of any queued copy. -/
def State.sendPause (s : State) (p quanta : Nat) : State :=
  (s.macSet p { s.mac p with xoff := quanta != 0, sent := s.pauseFrame p quanta }).macCnt p 26

/-- TX_PAUSE_SEND: the receive FIFO fill of port p has reached XOFF, or fallen below XON (R223). -/
def txPauseSend (p : Nat) (s : State) : State :=
  let fill := 16 * s.fifoFill p
  if !s.txPause p || !s.flag Reg.MAC_LINK_UP p then s
  else if !(s.mac p).xoff && decide (s.xoff p * fifoSize p ≤ fill) then s.sendPause p 0xFFFF
  else if (s.mac p).xoff && decide (fill < s.xon p * fifoSize p) then s.sendPause p 0
  else s

/-- TX_PAUSE_REPEAT: 32,768 quanta since the last pause frame, with the fill at or above XON (R223). -/
def txPauseRepeat (p : Nat) (s : State) : State :=
  if s.txPause p && (s.mac p).xoff && decide (s.xon p * fifoSize p ≤ 16 * s.fifoFill p) && s.flag Reg.MAC_LINK_UP p then s.sendPause p 0xFFFF else s

/-- PAUSE_WATCHDOG_EXPIRY: the transmitter of port p has been held for WD ms without a break (R224). -/
def pauseWatchdogExpiry (p : Nat) (s : State) : State :=
  if (s.mac p).heldAt.isNone || (isTP p && s.get Reg.T1S_STAT_STATE (p - 24) == 1) then s
  else
    let s := (s.pauseEnd p).put Reg.MAC_PAUSE_STAT_IGNORING 1 p
    ((s.macCnt p 30).raise Reg.MAC_IRQ_PAUSE_WD p).fault (0x0D0 + p) 0x1A01

/-- PAUSE_IGNORE_END: IGNORE ms later (R224). -/
def pauseIgnoreEnd (p : Nat) (s : State) : State := s.put Reg.MAC_PAUSE_STAT_IGNORING 0 p

/-! ### Test modes and lane faults (R225, R234) -/

/-- The test condition of port p after its test registers changed (R34, R225). -/
def State.testSync (s : State) (p : Nat) : State := (s.portCauseSet Reg.MAC_CAUTIOUS_TEST p (s.testMode p)).portSync p

/-- TEST_MODE_SET: a write of MAC_TEST or SDS_TEST of port p. -/
def testModeSet (m : Master) (p : Nat) (t : TestReg) (s : State) : State :=
  match t with
  | .mac l => s.direct m (0x0D0 + p) 0x098 (fun s => (s.put Reg.MAC_TEST_LOOP l p).testSync p)
  | .sds l tx rx =>
    if 24 ≤ p then s
    else s.direct m (0x0F0 + p) 0x084 (fun s =>
      (((s.put Reg.SDS_TEST_LOOP l p).put Reg.SDS_TEST_PRBS_TX tx p).put Reg.SDS_TEST_PRBS_RX rx p).testSync p)

/-- PRBS_ERROR: the checker of lane p detects a bit error (R225). -/
def prbsError (p : Nat) (s : State) : State :=
  let r := s.get Reg.SDS_TEST_PRBS_RX p
  if p < 24 && decide (1 ≤ r) && decide (r ≤ 4) then (s.inc Reg.SDS_PRBS_ERR_COUNT 1 p).raise Reg.SDS_IRQ_PRBS_ERR p else s

/-- RX_FIFO_MEMORY_ERROR: an uncorrectable error in the receive FIFO of port p hits the k-th frame that it holds (R234). -/
def rxFifoMemoryError (p k : Nat) (s : State) : State :=
  let s := match (s.clr.frames.filter (fun f => f.port == p && decide (0 < s.fifoOf f)))[k]? with
    | some f => s.macError f 11 3 true
    | none => s.macCnt p 11
  s.fault (0x0D0 + p) 0x1A02

/-! ### 10BASE-T1S (R228–R232) -/

/-- The T1S page of port p. -/
def pgT1S (p : Nat) : Nat := 0x108 + (p - 24)

/-- The PHY of port p changes state (R228–R230), for a fault of its own or not. -/
def State.t1sEnter (s : State) (p st : Nat) (fault : Bool := false) : State :=
  let n := p - 24
  let old := s.get Reg.T1S_STAT_STATE n
  let on := s.plcaEn p && s.plcaOk p
  let coord := on && s.pm 0 p 19 1 0 8 == 0
  let s := s.put Reg.T1S_STAT_STATE st n
  let s := s.put Reg.T1S_STAT_PLCA_CFG_ERR (b2n (s.plcaEn p && !s.plcaOk p)) n
  let s := s.put Reg.T1S_STAT_COORD (b2n coord) n
  let s := s.put Reg.T1S_STAT_PLCA_ACTIVE (b2n (coord && st == 0)) n
  let s := if old = st then s else s.raise Reg.T1S_IRQ_STATE_CHG n
  if 2 ≤ st then s.linkLost p fault else s.linkGained p 7

/-- T1S_STATE_REQUEST: a write of T1S_CTRL.REQ (R228). -/
def t1sStateRequest (m : Master) (p st : Nat) (s : State) : State :=
  s.direct m (pgT1S p) 0x080 (fun s => s.t1sRequest p (st % 4))

/-- T1S_STATE_REACHED: the PHY of port p reaches the state requested last (R229). -/
def t1sStateReached (p : Nat) (s : State) : State :=
  if isTP p && s.pllRuns && bit s.pwr.powered 15 && !s.pageHeld (pgT1S p) then s.t1sEnter p (s.get Reg.T1S_CTRL_REQ (p - 24)) else s

/-- PHY_INTERNAL_FAULT: the PHY of port p enters STANDBY (R234). -/
def phyInternalFault (p : Nat) (s : State) : State := if isTP p then (s.t1sEnter p 2 true).fault (pgT1S p) 0x1C01 else s

/-- The PHY of port p follows a coordinator. -/
def State.follower (s : State) (p : Nat) : Bool :=
  isTP p && s.plcaEn p && s.plcaOk p && s.pm 0 p 19 1 0 8 != 0 && s.get Reg.T1S_STAT_STATE (p - 24) == 0

/-- PLCA_BEACON_TIMEOUT: 1 ms without a BEACON (R230).  A follower that has seen none since it entered NORMAL has lost none, though
the first one raises PLCA_BACK (the model's choice, assumption log 56). -/
def plcaBeaconTimeout (p : Nat) (s : State) : State :=
  if s.follower p && s.pllRuns && s.flag Reg.T1S_STAT_PLCA_ACTIVE (p - 24) then
    (s.put Reg.T1S_STAT_PLCA_ACTIVE 0 (p - 24)).raise Reg.T1S_IRQ_PLCA_LOST (p - 24)
  else s

/-- PLCA_BEACON_RX: a BEACON on the segment of port p: one that it receives, or, as coordinator in NORMAL, its own at the start of
a PLCA cycle (R230). -/
def plcaBeaconRx (p : Nat) (s : State) : State :=
  if !isTP p || !s.pllRuns || 2 ≤ s.get Reg.T1S_STAT_STATE (p - 24) then s
  else
    let s := s.inc Reg.T1S_BEACONS_COUNT 1 (p - 24)
    if s.follower p && !s.flag Reg.T1S_STAT_PLCA_ACTIVE (p - 24) then
      (s.put Reg.T1S_STAT_PLCA_ACTIVE 1 (p - 24)).raise Reg.T1S_IRQ_PLCA_BACK (p - 24)
    else s

/-- T1S_COLLISION: the copy that port p sends collides (R231). -/
def t1sCollision (p : Nat) (s : State) : State :=
  if !isTP p || !s.pllRuns then s else
  match s.clr.copies.find? (fun c => c.port == p && c.st == .sending) with
  | none => s
  | some c =>
    let s := s.inc Reg.T1S_COLL_COUNT 1 (p - 24)
    let n := (s.mac p).attempts + 1
    if n < 16 then s.macSet p { s.mac p with attempts := n }
    else
      let s := s.macSet p { s.mac p with attempts := 0 }
      let s := (s.inc Reg.T1S_XCOLL_COUNT 1 (p - 24)).raise Reg.T1S_IRQ_XCOLL (p - 24)
      ((s.creditSync p).rmCopy c.id).reap

/-- A write of 1 to T1S_CTRL.CABLE_GO by master m (R232). -/
def State.cableStart (s : State) (m : Master) (p : Nat) : State :=
  if s.get Reg.T1S_STAT_STATE (p - 24) = 2 then s.put Reg.T1S_STAT_CABLE 1 (p - 24) else s.err (pgT1S p) 0x080 ecSTATE m

/-- CABLE_GO. -/
def cableGo (m : Master) (p : Nat) (s : State) : State := s.direct m (pgT1S p) 0x080 (fun s => s.cableStart m p)

/-- CABLE_CHECK_DONE: 2 OK, 3 OPEN, 4 SHORT, 5 INCONCLUSIVE (R232). -/
def cableCheckDone (p result : Nat) (s : State) : State :=
  if isTP p && s.get Reg.T1S_STAT_CABLE (p - 24) == 1 then
    (s.put Reg.T1S_STAT_CABLE result (p - 24)).raise Reg.T1S_IRQ_CABLE_DONE (p - 24)
  else s

/-! ### MDIO (R233) -/

/-- A write of MDIO_CMD[b] by master m. -/
def State.mdioStart (s : State) (m : Master) (b : Nat) (c45 : Bool) (op phy reg data : Nat) : State :=
  if s.flag Reg.MDIO_STAT_BUSY 0 b m.code then s.err 0x0D0 (0x404 + 16 * b) ecBUSY m
  else if !c45 && (op == 0 || op == 3) then s.err 0x0D0 (0x404 + 16 * b) ecINVALID m
  else
    let s := s.put Reg.MDIO_STAT_BUSY 1 0 b m.code
    { s with mdio := s.mdio ++ [⟨b, m.code, c45, op, phy, reg, data⟩] }

/-- MDIO_CMD. -/
def mdioCmd (m : Master) (b : Nat) (c45 : Bool) (op phy reg data : Nat) (s : State) : State :=
  s.direct m 0x0D0 (0x404 + 16 * b) (fun s => s.mdioStart m b c45 op phy reg data)

/-- MDIO_DONE: the transaction in progress on bus b ends, a read with `data`; the other requesters follow in round-robin
order. -/
def mdioDone (b data : Nat) (s : State) : State :=
  match s.mdio.find? (fun r => r.bus == b) with
  | none => s
  | some r =>
    let rest := dropFirst (fun _ => true) (s.mdio.filter (fun x => x.bus == b))
    let of := fun (k : Nat) => rest.filter (fun (x : MdioReq) => x.master == (r.master + k) % 3)
    let next := of 1 ++ of 2 ++ of 0
    let s := { s with mdio := s.mdio.filter (fun (x : MdioReq) => x.bus != b) ++ next }
    let read := if r.c45 then r.op == 2 || r.op == 3 else r.op == 2
    if r.master = Master.firmware.code then s
    else
      let s := if read then s.put Reg.MDIO_STAT_RDATA data 0 b r.master else s
      s.put Reg.MDIO_STAT_BUSY 0 0 b r.master

end Sys2Proof.Machine
end

