-- ==== Sys2Proof/Machine/Toecap.lean ====
section
/-! DEFINITION. Toecap's start, keys, alarms, events and freshness registers (R269–R274, R287–R292). -/
namespace Sys2Proof.Machine

/-- The pages of Toecap. -/
def pgTCA : Nat := 0x170
def pgTKM : Nat := 0x171

/-- PD18 is powered, and Toecap's pages are out of BLOCK reset. -/
def State.tcaLives (s : State) : Bool := bit s.pwr.powered 18 && !s.pageHeld pgTCA && !s.pageHeld pgTKM

/-- KW0, derived from ROOT (R270): the label is ASCII "TKM-KW0". -/
def kw0 : List Byte :=
  let label : List Byte := [0x54, 0x4B, 0x4D, 0x2D, 0x4B, 0x57, 0x30]
  padTo 16 (aesCmac Config.deviceRoot (0x01 :: label)) ++ padTo 16 (aesCmac Config.deviceRoot (0x02 :: label))

/-! ### Start and restore (R270, R274, R291) -/

/-- TOECAP_START: KW0 is derived and the retained keys begin to be restored; a Toecap that an alarm has locked stays
LOCKED. -/
def toecapStart (s : State) : State :=
  if !s.tcaLives || s.get Reg.TCA_STAT_STATE != 0 || !bit s.pwr.tested 18 || s.get Reg.CGU_STAT_SDSREF != 2 then s
  else if s.tca.locked then s.put Reg.TCA_STAT_STATE 3
  else
    let s := s.put Reg.TCA_STAT_STATE 1
    let s := s.put Reg.TCA_STAT_DRBG_OK 1
    let s := s.put Reg.TCA_STAT_RESTORING (b2n (!s.tca.kept.isEmpty))
    s.tcaSet (fun t => { t with keys := AMap.ins [] (slotKey 0 0) ⟨true, false, kw0⟩ })

/-- KEY_RESTORE_DONE: every retained key is back in its slot and Toecap is READY. -/
def keyRestoreDone (s : State) : State :=
  if s.get Reg.TCA_STAT_STATE != 1 then s
  else
    let s := s.tcaSet (fun t => { t with keys := t.kept.foldl (fun m c => AMap.ins m c.1 c.2) t.keys })
    (s.put Reg.TCA_STAT_RESTORING 0).put Reg.TCA_STAT_STATE 2

/-! ### Loading and erasing (R271–R273) -/

/-- The results of R272. -/
def krOK : Nat := 0
def krWRAP_FAIL : Nat := 1
def krPLAIN_LOCKED : Nat := 2
def krSA_IN_USE : Nat := 3
def krBAD_INDEX : Nat := 4
def krKW_EMPTY : Nat := 5
def krNOT_READY : Nat := 6
def krBAD_PARAM : Nat := 7

/-- The index is outside its class, names KW0, or the class is 3. -/
def badIndex (cls idx : Nat) : Bool :=
  match cls with
  | 0 => idx == 0 || decide (16 ≤ idx)
  | 1 => decide (512 ≤ idx)
  | 2 => decide (2048 ≤ idx)
  | _ => true

/-- The bytes of TKM_LD_DATA in wire order. -/
def State.ldData (s : State) : List Byte := (List.range 10).flatMap (fun i => leBytes 4 (s.get Reg.TKM_LD_DATA_DATA 0 i))

/-- The initial PN that the SA parameters give: PN_HI counts for XPN only. -/
def State.saPn (s : State) : Nat :=
  s.get Reg.TKM_SA_PN_LO_PN + (if 2 ≤ s.get Reg.TKM_SA_CFG_SUITE then s.get Reg.TKM_SA_PN_HI_PN * 2 ^ 32 else 0)

/-- The SA parameters as loaded, with no PN event behind them and the counts at 0. -/
def State.saParam (s : State) : SaState :=
  let salt := (List.range 3).flatMap (fun i => leBytes 4 (s.get Reg.TKM_SA_SALT_SALT 0 i))
  ⟨s.get Reg.TKM_SA_CFG_SUITE, s.flag Reg.TKM_SA_CFG_DIR, s.get Reg.TKM_SA_SSCI_SSCI, salt, s.saPn, false, false, 0, 0⟩

/-- What the load or erase in progress comes to (R272): its result, and the key of a load.  Where several causes hold,
the first tested here is the result (assumption log 15).  A KW key is loaded under KW0 alone (R270). -/
def State.ldResult (s : State) : Nat × Option KeySlot :=
  let idx := s.get Reg.TKM_LD_CTRL_INDEX
  let cls := s.get Reg.TKM_LD_CTRL_CLASS
  let long := s.flag Reg.TKM_LD_CTRL_KLEN
  let plain := s.flag Reg.TKM_LD_CTRL_PLAIN
  let n := if long then 32 else 16
  if !s.tcaReady then (krNOT_READY, none)
  else if badIndex cls idx then (krBAD_INDEX, none)
  else if cls == 1 && s.saReferenced idx then (krSA_IN_USE, none)
  else if s.tca.op = 2 then (krOK, none)
  else if plain && s.flag Reg.TKM_CTRL_LOCK then (krPLAIN_LOCKED, none)
  else if cls == 1 && (long != (s.get Reg.TKM_SA_CFG_SUITE % 2 == 1) || s.saPn == 0) then (krBAD_PARAM, none)
  else if plain then (krOK, some ⟨long, true, s.ldData.take n⟩)
  else
    let wrap := s.get Reg.TKM_LD_CTRL_WRAP
    match s.slot 0 wrap with
    | none => (krKW_EMPTY, none)
    | some kw =>
      match if cls = 0 && wrap ≠ 0 then none else keyUnwrap kw.key (s.ldData.take (n + 8)) with
      | none => (krWRAP_FAIL, none)
      | some k => (krOK, some ⟨long, false, padTo n k⟩)

/-- A load or erase ends with a result. -/
def State.ldEnd (s : State) (r : Nat) : State :=
  let s := s.tcaSet (fun t => { t with op := 0 })
  let s := (s.put Reg.TKM_LD_STAT_BUSY 0).put Reg.TKM_LD_STAT_RESULT r
  s.raise (if r = 0 then Reg.TKM_IRQ_LOAD_DONE else Reg.TKM_IRQ_LOAD_ERR)

/-- A write of TKM_LD_CTRL by master m; OP 0 and 3 start nothing. -/
def State.ldCtrl (s : State) (m : Master) (idx cls : Nat) (klen plain : Bool) (wrap op : Nat) : State :=
  let go := op == 1 || op == 2
  if go && s.flag Reg.TKM_LD_STAT_BUSY then s.err pgTKM 0x084 ecBUSY m
  else
    let s := (s.put Reg.TKM_LD_CTRL_INDEX idx).put Reg.TKM_LD_CTRL_CLASS cls
    let s := (s.put Reg.TKM_LD_CTRL_KLEN (b2n klen)).put Reg.TKM_LD_CTRL_PLAIN (b2n plain)
    let s := s.put Reg.TKM_LD_CTRL_WRAP wrap
    if go then (s.tcaSet (fun t => { t with op := op })).put Reg.TKM_LD_STAT_BUSY 1 else s

/-- KEY_LOAD: a write of TKM_LD_CTRL with OP = LOAD. -/
def keyLoad (m : Master) (idx cls : Nat) (klen plain : Bool) (wrap : Nat) (s : State) : State :=
  s.direct m pgTKM 0x084 (fun s => s.ldCtrl m idx cls klen plain wrap 1)

/-- KEY_ERASE: a write of TKM_LD_CTRL with OP = ERASE. -/
def keyErase (m : Master) (idx cls : Nat) (s : State) : State :=
  s.direct m pgTKM 0x084 (fun s => s.ldCtrl m idx cls false false 0 2)

/-- KEY_LOAD_DONE: the load or erase in progress ends, on what the registers then hold (R272). -/
def keyLoadDone (s : State) : State :=
  if s.tca.op = 0 then s
  else
    let idx := s.get Reg.TKM_LD_CTRL_INDEX
    let cls := s.get Reg.TKM_LD_CTRL_CLASS
    let k := slotKey cls idx
    let r := s.ldResult
    let sa := s.saParam
    let s :=
      if r.1 != 0 then s
      else match r.2 with
        | some key =>
          let s := s.tcaSet (fun t => { t with keys := AMap.ins t.keys k key, kept := AMap.ins t.kept k key })
          if cls = 1 then s.saSet idx sa else s
        | none =>
          let s := s.tcaSet (fun t => { t with keys := AMap.del t.keys k, kept := AMap.del t.kept k })
          if cls = 1 then s.tcaSet (fun t => { t with sas := AMap.del t.sas idx }) else s
    s.ldEnd r.1

/-- TKM_LOCK: a write of 1 to TKM_CTRL.LOCK. -/
def tkmLock (m : Master) (s : State) : State := s.direct m pgTKM 0x080 (fun s => s.put Reg.TKM_CTRL_LOCK 1)

/-! ### Alarms (R289–R291) -/

/-- Poison the copies whose frames are being encrypted or decrypted (cause 10), and drop the protected frames that are
being received, which count as NOT_READY when their last byte shows no MAC error (R288, R290 step 4). -/
def State.cryptoLost (s : State) : State :=
  let s := (s.clr.copies.filter (fun c => c.begun && c.sa.isSome)).foldl (fun s c => s.poisonCopy c 10) s
  (s.clr.frames.filter (fun f => f.rxSa.isSome)).foldl (fun s f =>
    ((s.spoil f.id 10).emptyFrame f.id).modFrame f.id (fun f =>
      { f with toecap := some (tcNotReady, some (6, (s.rxBindingNo f.port f.bytes).getD 0)) })) s

/-- TOECAP_ALARM: the sources of R289 whose bits are set in `causes` trip. -/
def toecapAlarm (causes : Nat) (s : State) : State :=
  if !bit s.pwr.powered 18 || causes % 64 = 0 then s
  else
    let s := if s.tcaReady then s.cryptoLost else s
    let s := s.tcaSet (fun t => { t with keys := [], kept := [], locked := true })
    let s := s.put Reg.TCA_STAT_STATE 3
    let s := (s.put Reg.TCA_STAT_DRBG_OK 0).put Reg.TCA_STAT_RESTORING 0
    let s := s.put Reg.TKM_ALARM_CAUSE (Nat.lor (s.get Reg.TKM_ALARM_CAUSE) (causes % 64))
    let s := s.inc Reg.TKM_ALARMS_COUNT
    let s := s.raise Reg.TCA_IRQ_ALARM
    let s := if s.tca.op = 0 then s else s.ldEnd krNOT_READY
    (s.nmi 0).fault pgTCA 0x2001

/-- DRBG_RESEED: the reseed completes, or fails as an alarm of source 5 (R269). -/
def drbgReseed (ok : Bool) (s : State) : State := if ok then s else toecapAlarm 32 s

/-! ### Events and freshness counters (R287, R292) -/

/-- The word TCA_EVT. -/
def State.tcaEvtWord (s : State) : Nat :=
  match s.tca.evt with
  | [] => 0
  | (i, t) :: _ => i % 2048 + t % 8 * 2 ^ 28 + 2 ^ 31

/-- What an ordinary read of TCA_EVT does: the oldest event is removed; a read that finds none arms EVENT. -/
def State.tcaEvtPop (s : State) : State :=
  match s.tca.evt with
  | [] => s.tcaSet (fun t => { t with evtArmed := true })
  | _ :: r => s.tcaSet (fun t => { t with evt := r })

/-- A write of TKM_FV_CMD by master m. -/
def State.fvRead (s : State) (m : Master) : State :=
  let v := s.fv (s.get Reg.TKM_FV_IDX_INDEX 0 0 m.code)
  (s.put Reg.TKM_FV_LO_FV v 0 0 m.code).put Reg.TKM_FV_HI_FV (v / 2 ^ 32) 0 0 m.code
def State.fvWrite (s : State) (m : Master) : State :=
  let n := s.get Reg.TKM_FV_IDX_INDEX 0 0 m.code
  let v := s.get Reg.TKM_FV_LO_FV 0 0 m.code + s.get Reg.TKM_FV_HI_FV 0 0 m.code * 2 ^ 32
  if s.flag Reg.TKM_CTRL_LOCK && decide (v < s.fv n) then s.err pgTKM 0x12C ecSTATE m
  else
    let s := s.tcaSet (fun t => { t with
      fvThresh := if s.fvThr ≤ v then t.fvThresh else t.fvThresh.filter (· != n)
      fvExhausted := if v = 2 ^ 64 - 1 then t.fvExhausted else t.fvExhausted.filter (· != n) })
    (s.fvSet n v).fvEvents n v

/-- FV_READ: TKM_FV_CMD with OP = READ, which ownership does not refuse. -/
def fvRead (m : Master) (s : State) : State := s.directFree m pgTKM 0x12C (fun s => s.fvRead m)

/-- FV_WRITE: TKM_FV_CMD with OP = WRITE. -/
def fvWrite (m : Master) (s : State) : State := s.direct m pgTKM 0x12C (fun s => s.fvWrite m)

/-! ### Snapshots (R118, R274) -/

/-- The port counts in the order of their registers. -/
def tcaPortRegs : List Fld :=
  [Reg.TCA_TX_PROTECTED_COUNT, Reg.TCA_TX_PN_EXH_COUNT, Reg.TCA_TX_NO_SA_COUNT, Reg.TCA_RX_OK_COUNT,
   Reg.TCA_RX_UNTAGGED_COUNT, Reg.TCA_RX_BAD_TAG_COUNT, Reg.TCA_RX_NO_SA_COUNT, Reg.TCA_RX_LATE_COUNT,
   Reg.TCA_TAG_FAIL_COUNT, Reg.TCA_RELEASED_FAIL_COUNT, Reg.TCA_NOTREADY_DROPS_COUNT]

/-- A write of TCA_PORT_SEL by master m: the port's counts into its results, and zeroed with CLEAR. -/
def State.tcaPortSel (s : State) (m : Master) (port : Nat) (clear : Bool) : State :=
  if 24 ≤ port then s.err pgTCA 0x0A0 ecINVALID m
  else
    let s := s.put Reg.TCA_PORT_SEL_PORT port 0 0 m.code
    let s := tcaPortRegs.zipIdx.foldl (fun s c => s.put c.1 (AMap.get cellDflt s.tca.counts (port * 16 + c.2)) 0 0 m.code) s
    if clear then s.tcaSet (fun t => { t with counts := t.counts.filter (fun c => c.1 / 16 != port) }) else s

/-- TCA_PORT_SNAPSHOT. -/
def tcaPortSnapshot (m : Master) (port : Nat) (s : State) : State :=
  s.directFree m pgTCA 0x0A0 (fun s => s.tcaPortSel m port false)

/-- TCA_PORT_CLEAR. -/
def tcaPortClear (m : Master) (port : Nat) (s : State) : State :=
  s.direct m pgTCA 0x0A0 (fun s => s.tcaPortSel m port true)

/-- The key check value: the first 3 bytes of AES-K(0¹²⁸), the first in bits 7:0 (R274). -/
def KeySlot.kcv (k : KeySlot) : Nat := leNat (padTo 3 (aesBlock k.key (List.replicate 16 0)))

/-- The state of an SA slot: 0 EMPTY, 1 ACTIVE, 2 THRESHOLD, 3 EXHAUSTED. -/
def State.saCode (s : State) (n : Nat) : Nat :=
  if (s.slot 1 n).isNone then 0
  else let x := s.sa n; if x.exhausted then 3 else if x.threshold then 2 else 1

/-- A write of TKM_SEL by master m (R274).  A slot that its class does not have is counted and gives no snapshot. -/
def State.keySel (s : State) (m : Master) (idx cls : Nat) : State :=
  if cls != 0 && badIndex cls idx || decide (16 ≤ idx) && cls == 0 then s.err pgTKM 0x100 ecINVALID m
  else
    let c := m.code
    let k := s.slot cls idx
    let x := if cls = 1 then AMap.find s.tca.sas idx else none
    let pn := (x.map SaState.pn).getD 0
    let s := (s.put Reg.TKM_SEL_INDEX idx 0 0 c).put Reg.TKM_SEL_CLASS cls 0 0 c
    let s := s.put Reg.TKM_SEL_STAT_PRESENT (b2n k.isSome) 0 0 c
    let s := s.put Reg.TKM_SEL_STAT_KLEN (b2n ((k.map KeySlot.long).getD false)) 0 0 c
    let s := s.put Reg.TKM_SEL_STAT_PLAIN (b2n ((k.map KeySlot.plain).getD false)) 0 0 c
    let s := s.put Reg.TKM_SEL_STAT_REF (b2n (cls == 1 && s.saReferenced idx)) 0 0 c
    let s := s.put Reg.TKM_SEL_STAT_SA_STATE (if cls = 1 then s.saCode idx else 0) 0 0 c
    let s := s.put Reg.TKM_SEL_STAT_KCV ((k.map KeySlot.kcv).getD 0) 0 0 c
    let s := (s.put Reg.TKM_SEL_PN_LO_PN pn 0 0 c).put Reg.TKM_SEL_PN_HI_PN (pn / 2 ^ 32) 0 0 c
    (s.put Reg.TKM_SEL_OK_COUNT ((x.map SaState.ok).getD 0) 0 0 c).put Reg.TKM_SEL_BAD_COUNT ((x.map SaState.bad).getD 0) 0 0 c

/-- KEY_SLOT_SNAPSHOT. -/
def keySlotSnapshot (m : Master) (idx cls : Nat) (s : State) : State :=
  s.directFree m pgTKM 0x100 (fun s => s.keySel m idx cls)

end Sys2Proof.Machine
end

