-- ==== Sys2Proof/Machine/Fabric.lean ====
section
/-! DEFINITION. The fabric slices, their pace and stalls, the fabric's 1 ms window and the pace governor (R126–R143), and
the Cobbler (R165, R166). -/
namespace Sys2Proof.Machine

/-- A slice enters or leaves service: FAB_PACE is valid only in service (R134).  What waited for a slice is dealt; what waits on one
that leaves is dealt to the others (R142; link passes, and every transfer where it leaves otherwise than by a stall, are the model's
choice, assumption log 90). -/
def State.sliceServe (s : State) (n : Nat) (on : Bool) : State :=
  let s := if s.flag Reg.FAB_STAT_IN_SERVICE n then s.sliceServed n else s
  let x := s.slice n
  let s := ((s.sliceClear n).put Reg.FAB_STAT_IN_SERVICE (b2n on) n).put Reg.FAB_PACE_VALID (b2n on) n
  let s := (s.put Reg.FAB_PACE_PACE 0 n).put Reg.FAB_PACE_HRC 0 n
  if on then s.dealWaiting else ((s.deal .first x.first).deal .read x.reads).deal .write x.writes

/-! ### Pace (R132–R138) -/

/-- PACE_WINDOW_END: slice n's monitor has counted `measured` MHz-equivalent; while the loads of XTAL run on HRC the
report is 2 % lower, rounded down. -/
def paceWindowEnd (n measured : Nat) (s : State) : State :=
  if !s.flag Reg.FAB_STAT_IN_SERVICE n then s
  else
    let hrc := s.flag Reg.CGU_STAT_LOADS
    let s := s.sliceServed n
    let s := s.sliceSet n { s.slice n with reported := true }
    let pace := min 4095 (if hrc then measured * 98 / 100 else measured)
    let old := s.get Reg.FAB_PACE_PACE n
    let s := (s.put Reg.FAB_PACE_PACE pace n).put Reg.FAB_PACE_HRC (b2n hrc) n
    let s := s.put Reg.FAB_PACE_MIN_PACE (min pace (s.get Reg.FAB_PACE_MIN_PACE n)) n
    let s := s.put Reg.FAB_PACE_MAX_PACE (max pace (s.get Reg.FAB_PACE_MAX_PACE n)) n
    let s := s.fabSet (fun f => { f with lowest := some (match f.lowest with
      | some l => min l pace
      | none => pace) })
    if pace < 500 then
      let s := if old = 0 || 500 ≤ old then s.raise Reg.FAB_IRQ_BELOW_FLOOR n else s
      s.devCause Reg.DEV_CAUTIOUS_PACE true
    else s

/-! ### The 1 ms window (R130) -/

/-- How busy the clockless stages were in the window: the handshakes and the step times reserved are counted, but how long each
takes is a free value within the floor (assumption log 3): a handshake at most as long as the slice's pace gives, a step at most
1/240 µs (R75, R76). -/
def State.windowLoads (s : State) : State :=
  let s := s.slicesIn.foldl (fun s n =>
    let s := s.sliceServed n
    let x := s.slice n
    let r := s.draw (min 1024 (x.shakes * 1024 / (1000 * max 1 (s.sliceRate n))) + 1)
    (r.2.put Reg.FAB_LOAD_LOAD r.1 n).sliceSet n { x with shakes := 0 }) s
  let s := ((List.range 24).filter (fun c => s.flag Reg.CLR_STAT_ROTATION c)).foldl (fun s c =>
    let q := AMap.get cellDflt s.clr.reserved c
    let r := s.draw 240000
    r.2.put Reg.CLR_UTIL_UTIL (min 1024 (1024 * q / (4 * (240000 + r.1)))) c) s
  let s := s.clrSet (fun x => { x with reserved := [] })
  let s := (List.range 16).foldl (fun s e =>
    s.put Reg.AWL_LOAD_LOAD (min 2047 (AMap.get cellDflt s.awl.routed e * 1024 / 400)) e) s
  { s with awl := { s.awl with routed := [] } }

/-- DEMAND_WINDOW_END.  Copies per cell of a window that wrote none, and D against a fabric without capacity, have no
value that the spec states; they are free values (assumption log 3). -/
def demandWindowEnd (s : State) : State :=
  if !s.pagePowered 0x060 then s
  else
    let f := s.fab
    let d := f.demandBits
    let c := 512000 * s.paceSum
    let rep := if f.cells = 0 then s.draw 65536 else (min 65535 (f.copies * 256 / f.cells), s)
    let s := rep.2.put Reg.FAB_REP_REP rep.1
    let dem := if c = 0 && d != 0 then s.draw 65536 else (min 65535 (d * 1024 / c), s)
    let s := dem.2.put Reg.FAB_DEMAND_DEMAND dem.1
    let s := s.put Reg.FAB_DEMAND_OVER (b2n (decide (c < d)))
    let s := if c < d then s.raise Reg.FAB_IRQ_OVERLOAD else s
    let s := s.fabSet (fun f => { f with cells := 0, copies := 0, written := 0, read := 0, demand := d })
    s.windowLoads

/-! ### Stalls (R142, R143) -/

/-- Slice n has carried nothing since `t`: it is served up to then, and what waits on it still waits now. -/
def State.sliceStuck (s : State) (n t : Nat) : State :=
  let x := s.slice n
  let y := if t ≤ x.servedTo then x else x.serve (s.sliceRate n) t
  let now := s.now
  (s.incWrap Reg.FAB_XFER_FULL (y.shakes - x.shakes) n).sliceSet n { y with servedTo := now, part := 0 }

/-- Frame f is dropped for a write that slice n has abandoned: counted, a copy that cuts through poisoned (R142). -/
def State.abandon (s : State) (n f : Nat) : State :=
  if (s.frame f).isNone then s
  else (((s.inc Reg.FAB_ABANDONED_COUNT 1 n).spoil f 7).dropFrame f).fault 0x068 0x1480

/-- Each egress port whose copies are read by transfers of x complains, as R322 lists it. -/
def State.readsComplain (s : State) (x : Slice) : State :=
  let ports := (s.clr.copies.filter (fun c => (x.first ++ x.reads).any (fun r => r.of == .read c.id))).map Copy.port
  (sortedNub ports).foldl (fun s p => s.fault (0x070 + p) 0x1780) s

/-- The frames whose writes wait on a slice. -/
def Slice.framesWritten (x : Slice) : List Nat :=
  sortedNub (x.writes.filterMap (fun w => match w.of with
    | .write f => some f
    | _ => none))

/-- FABRIC_STALL: slice n holds a transfer longer than FAB_STALL.LIMIT (R142).  What it has not carried by LIMIT ns ago is abandoned:
the frames of its writes are dropped, its reads are reissued. -/
def fabricStall (n : Nat) (s : State) : State :=
  if !s.flag Reg.FAB_STAT_IN_SERVICE n then s
  else
    let again := match AMap.find s.fab.rejoinAt n with
      | some t => decide (s.now < t + 1000000000)
      | none => false
    let s := s.sliceStuck n (s.now - s.get Reg.FAB_STALL_LIMIT)
    let lost := (s.slice n).framesWritten
    let s := s.put Reg.FAB_STAT_STALLS (min 255 (s.get Reg.FAB_STAT_STALLS n + 1)) n
    let s := (s.raise Reg.FAB_IRQ_STALL n).fault (0x060 + n) 0x1301
    let s := lost.foldl (fun s f => s.abandon n f) s
    let x := s.slice n
    let s := s.sliceServe n false
    let s := if s.flag Reg.FAB_CTRL_AUTO_REJOIN && !again then s.fabSet (fun f => { f with stalled := f.stalled ++ [n] })
      else (s.put Reg.FAB_STAT_RETIRED 1 n).raise Reg.FAB_IRQ_RETIRED n
    s.readsComplain x

/-- SLICE_REJOIN: a slice that has stalled, or whose page has been reset, has had its memories checked; it returns to service,
unless the check found what it could not repair (R143, R333, assumption log 76).  The return after a BLOCK reset counts as a rejoin
for the 1 s of R143 (the model's choice, assumption log 76). -/
def sliceRejoin (n repairs : Nat) (ok : Bool) (s : State) : State :=
  if s.fab.stalled.contains n && s.pagePowered (0x060 + n) then
    let t := s.now
    let s := s.fabSet (fun f => { f with stalled := f.stalled.filter (· != n), rejoinAt := AMap.ins f.rejoinAt n t })
    let s := s.rejoinTest (0x060 + n) repairs ok
    if ok then (s.sliceServe n true).raise Reg.FAB_IRQ_REJOINED n else s
  else s

/-! ### The pace governor (R139–R141) -/

/-- A supply warning holds, or one has held within the last 100 ms. -/
def State.warnRecent (s : State) : Bool :=
  s.pwr.low != 0 || (match s.fab.warnAt with
    | some t => decide (s.now < t + 100000000)
    | none => false)

/-- The pace that the governor acts on: the lowest that a slice in service reported in the interval, or where no window ended
in it, the lowest that one shows (R139). -/
def State.paceLow (s : State) : Option Nat :=
  match s.fab.lowest with
  | some l => some l
  | none => ((s.slicesIn.map (fun n => s.get Reg.FAB_PACE_PACE n)).filter (fun p => p != 0)).min?

/-- GOVERNOR_INTERVAL (R139).  With no pace to go by only a supply warning moves the voltage.  Before its first request the
governor's voltage is not stated: a free value within VMIN and VMAX (assumption log 3).  Where VMIN lies above VMAX the request
is VMIN (the model's choice, assumption log 84). -/
def governorInterval (s : State) : State :=
  if !s.pagePowered 0x060 || !bit s.pwr.powered 1 || !s.flag Reg.FAB_GOV_CTRL_EN || s.get Reg.FAB_GOV_STAT_STATE == 3 then s
  else
    let warn := s.warnRecent
    let low := s.paceLow
    let n := s.slicesIn.length
    let target := s.get Reg.FAB_GOV_TARGET_TARGET
    let hyst := s.get Reg.FAB_GOV_TARGET_HYST
    let vmin := s.get Reg.FAB_GOV_VLIM_VMIN
    let vmax := s.get Reg.FAB_GOV_VLIM_VMAX
    let step := s.get Reg.FAB_GOV_CTRL_STEP
    let vreq := s.get Reg.FAB_GOV_STAT_VREQ
    let short := match low with
      | some p => decide (p < target) || decide (p * 409600 * n < s.fab.demand)
      | none => false
    let ample := match low with
      | some p => decide (target + hyst < p) && decide (s.fab.demand < (p - hyst) * 409600 * n)
      | none => false
    let moves := short || warn || ample
    let s := (s.put Reg.FAB_GOV_STAT_STATE (if warn then 2 else 1)).fabSet (fun f => { f with lowest := none })
    let b := if vreq = 0 && moves then
        let r := s.draw (vmax - vmin + 1)
        (vmin + r.1, r.2)
      else (vreq, s)
    let s := b.2
    let v := if short || warn then min vmax (b.1 + step) else if ample then max vmin (b.1 - step) else b.1
    let v := if moves then clampNat vmin vmax v else v
    let s := if short && vreq == vmax && !s.fab.limited then
        (s.raise Reg.FAB_IRQ_GOV_LIMIT).fabSet (fun f => { f with limited := true })
      else if short then s else s.fabSet (fun f => { f with limited := false })
    let s := if v = vreq then s else (s.put Reg.FAB_GOV_STAT_VREQ v).fabSet (fun f => { f with bus := f.bus ++ [1] })
    s.fabSet (fun f => { f with bus := f.bus ++ [2] })

/-- PMBUS_TRANSACTION_DONE: the governor's oldest transaction ends; `mv` is what a READ_VOUT reads. -/
def pmbusTransactionDone (ok : Bool) (mv : Nat) (s : State) : State :=
  match s.fab.bus with
  | [] => s
  | t :: rest =>
    if ok then
      let s := s.fabSet (fun f => { f with bus := rest, retry := false })
      if t = 2 then s.put Reg.FAB_GOV_STAT_VREAD mv else s
    else if !s.fab.retry then s.fabSet (fun f => { f with retry := true })
    else
      let s := s.fabSet (fun f => { f with bus := [], retry := false })
      let s := s.put Reg.FAB_GOV_STAT_STATE 3
      (s.raise Reg.FAB_IRQ_GOV_FAIL).fault 0x060 0x1302

/-- A write of FAB_GOV_CTRL: EN from 0 to 1 starts the governor, also out of FAIL; EN = 0 stops it. -/
def State.govCtrl (s : State) (en pec : Bool) (addr step interval : Nat) : State :=
  let was := s.flag Reg.FAB_GOV_CTRL_EN
  let s := (s.put Reg.FAB_GOV_CTRL_EN (b2n en)).put Reg.FAB_GOV_CTRL_PEC (b2n pec)
  let s := s.put Reg.FAB_GOV_CTRL_ADDR addr
  let s := s.put Reg.FAB_GOV_CTRL_STEP (if step % 16 = 0 then 1 else step)
  let s := s.put Reg.FAB_GOV_CTRL_INTERVAL (if interval % 256 = 0 then 1 else interval)
  if en && !was then
    (s.put Reg.FAB_GOV_STAT_STATE 1).fabSet (fun f => { f with bus := [0], retry := false, limited := false })
  else if !en && was then
    let s := s.fabSet (fun f => { f with bus := [], retry := false })
    if s.get Reg.FAB_GOV_STAT_STATE = 3 then s else s.put Reg.FAB_GOV_STAT_STATE 0
  else s

/-- GOVERNOR_ENABLE: a write of FAB_GOV_CTRL. -/
def governorEnable (m : Master) (en pec : Bool) (addr step interval : Nat) (s : State) : State :=
  s.direct m 0x060 0x110 (fun s => s.govCtrl en pec addr step interval)

/-! ### The Cobbler (R165, R166) -/

/-- The cells that live records reference (R165). -/
def State.owned (s : State) : List Nat := s.clr.frames.flatMap Frame.cells ++ s.clr.copies.flatMap Copy.own

/-- The suspect cells, each with its allocation tag: neither free nor referenced by a live record. -/
def State.suspects (s : State) : List (Nat × Nat) :=
  let own := s.owned
  ((s.sole.taken.map (fun c => c.1)).filter (fun c => !own.contains c)).map (fun c => (c, AMap.get (fun _ => 0) s.sole.tags c))

/-- The double cells: on the free list, and referenced by a live record. -/
def State.doubles (s : State) : List Nat := sortedNub (s.owned.filter (fun c => (AMap.find s.sole.taken c).isNone))

/-- COBBLER_PASS_END: a pass of `dur` (CBR_LAST units) has walked every cell.  A suspect that the previous pass marked with the
same tag is leaked, and freed; a double leaves the free list, charged to the shared pool (assumption log 44). -/
def cobblerPassEnd (dur : Nat) (s : State) : State :=
  if !s.flag Reg.CBR_CTRL_EN || !s.pagePowered 0x069 then s
  else
    let suspects := s.suspects
    let doubles := s.doubles
    let leaked := suspects.filter (fun c => s.sole.marks.contains c)
    let left := suspects.filter (fun c => !s.sole.marks.contains c)
    let s := (s.soleSet (fun x =>
      { x with marks := left, taken := doubles.foldl (fun m c => AMap.ins m c .shared) x.taken })).freeCells (leaked.map (fun c => c.1))
    let s := s.incWrap Reg.CBR_PASSES_COUNT
    let s := s.put Reg.CBR_LAST_DURATION (min 65535 dur)
    let s := s.put Reg.CBR_LAST_SUSPECT (min 65535 suspects.length)
    let s := if doubles.isEmpty then s else
      doubles.foldl (fun s _ => s.fault 0x069 0x1501) ((s.inc Reg.CBR_DOUBLE_COUNT doubles.length).raise Reg.CBR_IRQ_DOUBLE)
    let s := if leaked.isEmpty then s else (s.inc Reg.CBR_RECLAIMED_COUNT leaked.length).raise Reg.CBR_IRQ_LEAK
    if s.get Reg.CBR_LIMIT_LIMIT < leaked.length then (s.raise Reg.CBR_IRQ_LEAK_RATE).fault 0x069 0x1502 else s

/-- A write of CBR_CTRL.EN: clearing it clears all suspect marks. -/
def State.cbrEnable (s : State) (en : Bool) : State :=
  let s := s.put Reg.CBR_CTRL_EN (b2n en)
  if en then s else { s with sole := { s.sole with marks := [] } }

/-- COBBLER_ENABLE. -/
def cobblerEnable (m : Master) (en : Bool) (s : State) : State := s.direct m 0x069 0x080 (fun s => s.cbrEnable en)

end Sys2Proof.Machine
end

