-- ==== Sys2Proof/Machine/Faults.lean ====
section
/-! DEFINITION. The fault concentrator's commands and the host heartbeat (R321–R332). -/
namespace Sys2Proof.Machine

/-- The pages of the concentrator and of the watchdogs. -/
def pgFLT : Nat := 0x018
def pgWDG : Nat := 0x019

/-- Change the concentrator's component. -/
def State.fltSet (s : State) (f : Flt → Flt) : State := { s with flt := f s.flt }

/-- FAULT_REPORT: a block reports a code on its page; a code that the device does not define is no report. -/
def faultReport (page code : Nat) (s : State) : State :=
  let lost := code == 0x1B01 && s.get Reg.CGU_STAT_SDSREF == 3
  if faultCodes.contains code && pageDefined page && pageType page == code / 256 && !lost then s.fault page code else s

/-- STORM_PERIOD_END: a 100 µs period of a storm ends (R326). -/
def stormPeriodEnd (s : State) : State :=
  if !s.flag Reg.FLT_STAT_STORM then s
  else
    let s := if s.flt.period < 16 then s.put Reg.FLT_STAT_STORM 0 else s
    s.fltSet (fun f => { f with period := 0 })

/-- Empty the first-fault record and zero LOST (R324). -/
def State.fltClear (s : State) : State :=
  let fs := [Reg.FLT_FIRST_W0_CODE, Reg.FLT_FIRST_W0_PAGE, Reg.FLT_FIRST_W0_STORM, Reg.FLT_FIRST_W0_NO_TIME,
    Reg.FLT_FIRST_W0_VALID, Reg.FLT_FIRST_NS_NS, Reg.FLT_FIRST_SEC_SEC]
  let s := (List.range 8).foldl (fun s n => fs.foldl (fun s f => s.put f 0 0 n) s) s
  (s.put Reg.FLT_STAT_ENTRIES 0).put Reg.FLT_STAT_LOST 0

/-- FLT_CLEAR: a write of FLT_CTRL.CLEAR. -/
def fltClear (m : Master) (s : State) : State := s.direct m pgFLT 0x084 State.fltClear

/-- A write of FLT_CNT_SEL by master m (R118, R324). -/
def State.fltCntSel (s : State) (m : Master) (code : Nat) (clear : Bool) : State :=
  let s := s.put Reg.FLT_CNT_SEL_CODE code 0 0 m.code
  if !faultCodes.contains code then (s.err pgFLT 0x0A0 ecINVALID m).put Reg.FLT_CNT_COUNT 0 0 0 m.code
  else
    let s := s.put Reg.FLT_CNT_COUNT (AMap.get cellDflt s.flt.codes code) 0 0 m.code
    if clear then s.fltSet (fun f => { f with codes := AMap.del f.codes code }) else s

/-- FAULT_COUNT_SNAPSHOT. -/
def faultCountSnapshot (m : Master) (code : Nat) (s : State) : State :=
  s.directFree m pgFLT 0x0A0 (fun s => s.fltCntSel m code false)

/-- FAULT_COUNT_CLEAR. -/
def faultCountClear (m : Master) (code : Nat) (s : State) : State :=
  s.direct m pgFLT 0x0A0 (fun s => s.fltCntSel m code true)

/-- NMI_CLEAR: a write of ones to bits of FLT_NMI_STAT (R329). -/
def nmiClear (m : Master) (ones : Nat) (s : State) : State :=
  s.direct m pgFLT 0x0B0 (fun s =>
    s.put Reg.FLT_NMI_STAT_CAUSE (Nat.land (s.get Reg.FLT_NMI_STAT_CAUSE) (31 - ones % 32)))

/-! ### The host heartbeat (R332) -/

def State.wdgSet (s : State) (f : Wdg → Wdg) : State := { s with wdg := f s.wdg }

/-- A write of WDG_HB_KICK by master m. -/
def State.hbKick (s : State) (m : Master) : State :=
  if m ≠ .host then s.err pgWDG 0x094 ecSOURCE m
  else if !s.flag Reg.WDG_HB_CFG_EN then s
  else
    let t := s.now
    let s := s.wdgSet (fun w => { w with hbAt := some t })
    if s.flag Reg.WDG_HB_STAT_EXPIRED then (s.put Reg.WDG_HB_STAT_EXPIRED 0).raise Reg.WDG_IRQ_HB_BACK else s

/-- HB_KICK: PG_LOCK lets it through (R411). -/
def hbKick (m : Master) (s : State) : State := s.command m pgWDG 0x094 (fun s => s.gate0 m pgWDG 0x094 (fun s => s.hbKick m))

/-- A write of WDG_HB_CFG: EN from 0 to 1 starts the timer, EN = 0 stops it and clears EXPIRED. -/
def State.hbCfg (s : State) (en : Bool) (timeout : Nat) : State :=
  let was := s.flag Reg.WDG_HB_CFG_EN
  let t := s.now
  let s := (s.put Reg.WDG_HB_CFG_EN (b2n en)).put Reg.WDG_HB_CFG_TIMEOUT (max 10 (timeout % 65536))
  if en && !was then s.wdgSet (fun w => { w with hbAt := some t })
  else if en then s
  else (s.wdgSet (fun w => { w with hbAt := none })).put Reg.WDG_HB_STAT_EXPIRED 0

/-- HB_ENABLE. -/
def hbEnable (m : Master) (en : Bool) (timeout : Nat) (s : State) : State :=
  s.direct m pgWDG 0x090 (fun s => s.hbCfg en timeout)

/-- HB_EXPIRY: the host has not kicked for HB_TIMEOUT ms. -/
def hbExpiry (s : State) : State :=
  if !s.flag Reg.WDG_HB_CFG_EN || s.flag Reg.WDG_HB_STAT_EXPIRED then s
  else
    let s := (s.put Reg.WDG_HB_STAT_EXPIRED 1).inc Reg.WDG_HB_STAT_EXPIRIES
    (s.fault pgWDG 0x0803).raise Reg.WDG_IRQ_HB_EXPIRED

end Sys2Proof.Machine
end

