-- ==== Sys2Proof/Machine/HostDma.lean ====
section
/-! DEFINITION. The host's rings and their DMA (R308–R314), the PCIe link (R294), page ownership (R304) and the mailbox
(R320, R335). -/
namespace Sys2Proof.Machine

def pgWLT : Nat := 0x020
def pgHDM : Nat := 0x021
def pgMBX : Nat := 0x023

def State.hdmSet (s : State) (f : Hdm → Hdm) : State := { s with hdm := f s.hdm }
def State.mbxSet (s : State) (f : Mbx → Mbx) : State := { s with mbx := f s.mbx }

/-! ### Rings (R308) -/

/-- The registers of a receive (false) or transmit (true) ring. -/
def rEN (tx : Bool) : Fld := if tx then Reg.HDM_TX_CFG_EN else Reg.HDM_RX_CFG_EN
def rKIND (tx : Bool) : Fld := if tx then Reg.HDM_TX_CFG_KIND else Reg.HDM_RX_CFG_KIND
def rERR (tx : Bool) : Fld := if tx then Reg.HDM_TX_CFG_ERR else Reg.HDM_RX_CFG_ERR
def rSIZE (tx : Bool) : Fld := if tx then Reg.HDM_TX_CFG_SIZE_LOG2 else Reg.HDM_RX_CFG_SIZE_LOG2
def rBUF (tx : Bool) : Fld := if tx then Reg.HDM_TX_CFG_BUF else Reg.HDM_RX_CFG_BUF
def rTAIL (tx : Bool) : Fld := if tx then Reg.HDM_TX_TAIL_TAIL else Reg.HDM_RX_TAIL_TAIL
def rHEAD (tx : Bool) : Fld := if tx then Reg.HDM_TX_HEAD_HEAD else Reg.HDM_RX_HEAD_HEAD
def rLO (tx : Bool) : Fld := if tx then Reg.HDM_TX_BASE_LO_BASE else Reg.HDM_RX_BASE_LO_BASE
def rHI (tx : Bool) : Fld := if tx then Reg.HDM_TX_BASE_HI_BASE else Reg.HDM_RX_BASE_HI_BASE
def rTIMER (tx : Bool) : Fld := if tx then Reg.HDM_TX_MOD_TIMER else Reg.HDM_RX_MOD_TIMER
def rCOUNT (tx : Bool) : Fld := if tx then Reg.HDM_TX_MOD_COUNT else Reg.HDM_RX_MOD_COUNT
def rDROPS (tx : Bool) : Fld := if tx then Reg.HDM_TX_DROPS_COUNT else Reg.HDM_RX_DROPS_COUNT
def rFRAMES (tx : Bool) : Fld := if tx then Reg.HDM_TX_FRAMES_COUNT else Reg.HDM_RX_FRAMES_COUNT
def rIRQ (tx : Bool) : Fld := if tx then Reg.HDM_IRQ_TX else Reg.HDM_IRQ_RX

/-- The page offset of a ring's registers. -/
def ringOff (tx : Bool) (r : Nat) : Nat := (if tx then 0x200 else 0x100) + 0x20 * r

/-- Descriptors of a ring, and those that belong to the device. -/
def State.ringSize (s : State) (tx : Bool) (r : Nat) : Nat := 2 ^ s.get (rSIZE tx) 0 r
def State.posted (s : State) (tx : Bool) (r : Nat) : Nat :=
  let n := s.ringSize tx r
  (s.get (rTAIL tx) 0 r + n - s.get (rHEAD tx) 0 r) % n

/-- The buffer size of a ring in bytes. -/
def State.ringBuf (s : State) (tx : Bool) (r : Nat) : Nat := s.get (rBUF tx) 0 r * 256

/-- The host address of descriptor k of a ring. -/
def State.descAddr (s : State) (tx : Bool) (r k : Nat) : Nat :=
  s.get (rHI tx) 0 r * 2 ^ 32 + s.get (rLO tx) 0 r * 32 + 32 * (k % s.ringSize tx r)

/-- The write-backs of a ring count from nothing again, as when its interrupt bit is cleared. -/
def State.ringCleared (s : State) (n : Nat) : State := s.hdmSet (fun h => { h with wb := AMap.del h.wb n })

/-- A write of a ring's CFG (R308): one that finds EN = 1 writes nothing of KIND, SIZE_LOG2 and BUF and counts once, whatever
values it carries (log 27). -/
def State.ringCfg (s : State) (m : Master) (tx : Bool) (r : Nat) (en kind : Bool) (size buf : Nat) : State :=
  let was := s.flag (rEN tx) 0 r
  let kind := b2n (tx && kind)
  let size := clampNat 6 16 (size % 32)
  let buf := clampNat 1 64 (buf % 128)
  let s := if was then s.err pgHDM (ringOff tx r + 8) ecSTATE m
    else ((s.put (rKIND tx) kind 0 r).put (rSIZE tx) size 0 r).put (rBUF tx) buf 0 r
  let s := s.put (rEN tx) (b2n en) 0 r
  let s := if en then s.put (rERR tx) 0 0 r else s
  let s := if en && !was then (s.put (rHEAD tx) 0 0 r).put (rTAIL tx) 0 0 r else s
  s.portSync 32

/-- RING_ENABLE: a write of a ring's CFG. -/
def ringEnable (m : Master) (tx : Bool) (r : Nat) (en kind : Bool) (size buf : Nat) (s : State) : State :=
  s.direct m pgHDM (ringOff tx r + 8) (fun s => s.ringCfg m tx r en kind size buf)

/-- A write of a ring's TAIL. -/
def State.ringTail (s : State) (m : Master) (tx : Bool) (r t : Nat) : State :=
  let n := s.ringSize tx r
  let tail : Int := s.get (rTAIL tx) 0 r
  let head : Int := s.get (rHEAD tx) 0 r
  if t < n && decide (((t : Int) - tail) % n ≤ (head - 1 - tail) % n) then s.put (rTAIL tx) t 0 r
  else s.err pgHDM (ringOff tx r + 0xC) ecINVALID m

/-- TAIL_WRITE. -/
def tailWrite (m : Master) (tx : Bool) (r t : Nat) (s : State) : State :=
  s.direct m pgHDM (ringOff tx r + 0xC) (fun s => s.ringTail m tx r t)

/-! ### Write-backs and moderation (R310, R311, R314) -/

/-- The device writes bytes to host memory. -/
def hostWriteBytes (m : AMap Byte) (a : Nat) (bs : List Byte) : AMap Byte :=
  match bs with
  | [] => m
  | b :: r => hostWriteBytes (AMap.ins m (a % 2 ^ 64) b) (a + 1) r

/-- A ring has written n descriptors back: HEAD moves on, and its bit is raised at COUNT of them, or at each with
TIMER = 0. -/
def State.wroteBack (s : State) (tx : Bool) (r n : Nat) : State :=
  let k := r + 8 * b2n tx
  let s := s.put (rHEAD tx) ((s.get (rHEAD tx) 0 r + n) % s.ringSize tx r) 0 r
  let c := AMap.get cellDflt s.hdm.wb k + n
  let s := s.hdmSet (fun h => { h with wb := AMap.set cellDflt h.wb k c })
  if n != 0 && (s.get (rTIMER tx) 0 r == 0 || decide (max 1 (s.get (rCOUNT tx) 0 r) ≤ c)) then s.raise (rIRQ tx) 0 r else s

/-- MODERATION_TIMER: TIMER µs have passed since the ring's first write-back that its bit does not show. -/
def moderationTimer (tx : Bool) (r : Nat) (s : State) : State :=
  if AMap.get cellDflt s.hdm.wb (r + 8 * b2n tx) = 0 then s else s.raise (rIRQ tx) 0 r

/-! ### Receive (R309, R310, R313) -/

/-- The bytes that HDM writes for a copy: the frame and an FCS over it; a TAG_FAIL report is the frame as decrypted, with
the inverse of its correct FCS (R281). -/
def State.hpBytes (s : State) (c : Copy) (f : Frame) : List Byte :=
  if c.tagFail then
    let b := f.bytes.take (f.bytes.length - 4)
    b ++ leBytes 4 (2 ^ 32 - 1 - crc32Eth b)
  else
    let b := s.copyBody c f
    b ++ leBytes 4 (crc32Eth b)

/-- Bytes 8–31 of receive descriptor i of n.  PUNT_CODE is 0 where no action gave one (the model's choice, assumption log 81). -/
def rxDesc (c : Copy) (f : Frame) (len i n bufLen : Nat) : List Byte :=
  let punt := match f.fate with
    | .punt r => if c.mirror = 0 then some r else none
    | _ => none
  let flags := (punt.getD 0) % 8 + 8 * b2n punt.isSome + 16 * b2n (c.mirror != 0) + 32 * b2n c.tagFail +
    64 * b2n (!c.own.isEmpty) + 128 * b2n f.handle.isSome
  let bus := match f.srcBus with
    | some b => b % 128 + 128
    | none => 0
  leBytes 2 bufLen ++ leBytes 2 len ++ leBytes 1 (f.port % 64) ++ leBytes 1 flags ++ leBytes 2 (f.handle.getD 0) ++
  leBytes 1 (if c.mirror = 0 then f.puntCode else 0) ++
  leBytes 1 (f.epoch % 4 + 4 * b2n (i == 0) + 8 * b2n (i + 1 == n)) ++ leBytes 1 bus ++ [0] ++
  leBytes 4 (f.t0 % 1000000000) ++ leBytes 2 (f.t0 / 1000000000 % 65536) ++ leBytes 2 (if c.mirror = 0 then 0 else f.rxLen - 4) ++
  [0, 0, 0, 0x80]

/-- The frame's buffers and write-backs, descriptor by descriptor. -/
def State.rxWrite (s : State) (r : Nat) (c : Copy) (f : Frame) (bufs : List Nat) : State :=
  let d := s.hpBytes c f
  let buf := s.ringBuf false r
  let n := ceilDiv d.length buf
  let head := s.get (rHEAD false) 0 r
  (List.range n).foldl (fun s i =>
    let part := sub d (buf * i) buf
    let mem := hostWriteBytes s.hdm.mem (bufs.getD i 0) part
    let mem := hostWriteBytes mem (s.descAddr false r (head + i) + 8) (rxDesc c f (d.length - 4) i n part.length)
    s.hdmSet (fun h => { h with mem := mem })) s

/-- A frame that ring r cannot take (R309, R313). -/
def State.rxNoDesc (s : State) (r : Nat) : State := (s.inc (rDROPS false) 1 0 r).raise Reg.HDM_IRQ_RX_NO_DESC

/-- HDM_RX_DELIVER: the copy that HP's scheduler chose goes into its ring; `bufs` are the BUF_ADDR fields of its
descriptors.  Its bytes have been read from the Sole (R126); a TAG_FAIL report that is the first of its frame to leave is counted as
it is written (R281). -/
def hdmRxDeliver (bufs : List Nat) (s : State) : State :=
  let s := s.fabNow
  match s.clr.copies.find? (fun c => c.port == 32 && c.st == .sending) with
  | none => s
  | some c =>
    match s.frame c.frame with
    | none => s.rmCopy c.id
    | some f =>
      if !f.whole || s.readsWait c.id != 0 then s
      else
        let r := c.svc % 8
        let n := ceilDiv (s.hpBytes c f).length (s.ringBuf false r)
        if !s.flag (rEN false) 0 r || decide (s.posted false r < n) then ((s.rxNoDesc r).rmCopy c.id).reap
        else if !s.flag Reg.WLT_STAT_BME then s
        else
          let s := s.rxWrite r c f bufs
          let s := if c.tagFail && !f.poisoned then (s.tcCount f.port tcReleasedFail).raise Reg.TCA_IRQ_RELEASED_FAIL else s
          let s := (s.inc (rFRAMES false) 1 0 r).wroteBack false r n
          (s.rmCopy c.id).reap

/-! ### Transmit (R311, R312) -/

/-- Write status and DD into byte 31 of n descriptors of a transmit ring. -/
def State.txWriteBack (s : State) (r n status : Nat) : State :=
  let head := s.get (rHEAD true) 0 r
  let s := (List.range n).foldl (fun s i =>
    s.hdmSet (fun h => { h with mem := AMap.ins h.mem ((s.descAddr true r (head + i) + 31) % 2 ^ 64) (BitVec.ofNat 8 (128 + status)) })) s
  s.wroteBack true r n

/-- The descriptors of a frame are well formed: FIRST and LAST bracket it, each length is within the buffer size, and
DIRECTED is the ring's KIND. -/
def State.descsOk (s : State) (r : Nat) (ds : List TxDesc) : Bool :=
  ds.zipIdx.all (fun (d, i) =>
    d.first == (i == 0) && d.last == (i + 1 == ds.length) && decide (0 < d.len) && decide (d.len ≤ s.ringBuf true r) &&
    d.directed == s.flag (rKIND true) 0 r)

/-- HOST_POLICY_CHECK (R312): HDM admits a directed frame. -/
def State.hostPolicy (s : State) (d : TxDesc) : Bool :=
  let a := s.action (s.get Reg.LST_EPOCH_CUR) d.handle
  a.disp == 0 &&
  (if d.dport < 32 then bit a.mask d.dport && d.qsel == a.qsel
   else decide (33 ≤ d.dport) && decide (d.dport ≤ 36) && (match a.route with
     | some q => q / 4096 == d.dport - 33
     | none => false))

/-- The frame is handed on: to a Clicker, or to the fabric at step 6, where a directed frame is enqueued at once (the model's
choice, assumption log 72). -/
def State.txHand (s : State) (d : TxDesc) (body : List Byte) : State :=
  let epoch := s.get Reg.LST_EPOCH_CUR
  if !d.directed then (s.handOver 32 epoch body id).takeSlots 32
  else
    let a := s.action epoch d.handle
    let id := s.clr.nextId
    let s := s.handOver 32 epoch body (fun f =>
      { f with fate := .direct d.dport d.qsel, handle := some d.handle, stage := .out
               route := if 33 ≤ d.dport then a.route else none })
    let s := if a.count then s.flowCount d.handle (body.length + 4) else s
    s.enqueueFrame id

/-- The transmit ring that has the turn: the next one from `turn` that is enabled and has descriptors posted. -/
def State.txTurn (s : State) : Option Nat :=
  ((List.range 8).map (fun k => (s.hdm.turn + k) % 8)).find? (fun r => s.flag (rEN true) 0 r && s.posted true r != 0)

/-- HDM_TX_FRAME: the next frame of the transmit ring that has the turn; its descriptors and its bytes, as read from host
memory. -/
def hdmTxFrame (ds : List TxDesc) (data : List Byte) (s : State) : State :=
  if !s.flag Reg.WLT_STAT_BME then s else
  match s.txTurn, ds with
  | some r, d :: _ =>
    if s.posted true r < ds.length then s
    else
      let s := s.hdmSet (fun h => { h with turn := (r + 1) % 8 })
      let n := ds.foldl (fun a d => a + d.len) 0
      let refuse := fun (s : State) (status : Nat) => s.txWriteBack r ds.length status
      if !s.descsOk r ds then refuse ((s.inc (rDROPS true) 1 0 r).raise Reg.HDM_IRQ_TX_BAD) 3
      else if 9212 < n then refuse ((s.inc (rDROPS true) 1 0 r).raise Reg.HDM_IRQ_TX_BAD) 2
      else if !s.inService 32 then refuse s 4
      else if d.directed && !s.hostPolicy d then refuse ((s.inc (rDROPS true) 1 0 r).raise Reg.HDM_IRQ_TX_POLICY) 1
      else
        let s := s.txHand d (padTo (max 60 n) (padTo n data))
        (s.inc (rFRAMES true) 1 0 r).txWriteBack r ds.length 0
  | _, _ => s

/-- DMA_ERROR: an access to host memory fails on a ring (R313); `n` descriptors of a transmit frame in progress take
status DMA_ERR. -/
def dmaError (tx : Bool) (r n : Nat) (s : State) : State :=
  if !s.flag (rEN tx) 0 r then s
  else
    let s := if tx then s.txWriteBack r (min n (s.posted true r)) 5
      else match s.clr.copies.find? (fun c => c.port == 32 && c.st == .sending && c.svc % 8 == r) with
        | some c => ((s.rxNoDesc r).rmCopy c.id).reap
        | none => s
    let s := (s.put (rERR tx) 1 0 r).put (rEN tx) 0 0 r
    (s.raise Reg.HDM_IRQ_DMA_ERR).portSync 32

/-! ### The PCIe link (R294) -/

/-- A link that the endpoint supports: x1, x2 or x4 at Gen1 to Gen4 (R293). -/
def linkFits (width speed : Nat) : Bool := [1, 2, 4].contains width && decide (1 ≤ speed) && decide (speed ≤ 4)

/-- A 32-bit word of the endpoint's configuration space after the link has trained (R293): its identity, Bus Master
Enable, BAR0 as 64-bit non-prefetchable memory before the host assigns it, no other BAR, ROM or interrupt pin; then the
power-management capability (D0 and D3hot, no PME), the PCI Express capability (payloads to 512 bytes, 8-bit tags, x4 at
16 GT/s, ASPM L1 only, the width and speed trained) and, at 0x100, AER with the standard masks and severities.  PRESUMED
(log 97): the places of the capabilities and the bit layouts, which the standard gives and the spec does not repeat. -/
def State.pcieConfig (s : State) (off : Nat) : Nat :=
  match off with
  | 0x00 => 0x1F4C + 0x6425 * 2 ^ 16
  | 0x04 => 4 * b2n (s.flag Reg.WLT_STAT_BME) + 2 ^ 20
  | 0x08 => 0xA1 + 0x028000 * 2 ^ 8
  | 0x10 => 4
  | 0x2C => s.get Reg.FUS_SUBSYS_VENDOR + s.get Reg.FUS_SUBSYS_DEVICE * 2 ^ 16
  | 0x34 => 0x40
  | 0x40 => 0x01 + 0x48 * 2 ^ 8 + 3 * 2 ^ 16
  | 0x48 => 0x10 + 2 * 2 ^ 16
  | 0x4C => 2 + 2 ^ 5 + 2 ^ 15
  | 0x50 => 2 ^ 8 + 2 * 2 ^ 12
  | 0x54 => 4 + 4 * 2 ^ 4 + 2 * 2 ^ 10
  | 0x58 => (s.get Reg.WLT_STAT_SPEED + s.get Reg.WLT_STAT_WIDTH * 2 ^ 4) * 2 ^ 16
  | 0x74 => 0x1E
  | 0x100 => 1 + 2 * 2 ^ 16
  | 0x108 => 2 ^ 22
  | 0x10C => 0x00462030
  | 0x114 => 0xE000
  | _ => 0

/-- PCIE_LINK_UP: the link trains; width code, speed, and whether the host has set Bus Master Enable. -/
def pcieLinkUp (width speed : Nat) (bme : Bool) (s : State) : State :=
  if !bit s.pwr.powered 2 || !bit s.pwr.tested 2 || !linkFits width speed then s
  else
    let s := s.put Reg.WLT_STAT_LINK_UP 1
    let s := (s.put Reg.WLT_STAT_WIDTH width).put Reg.WLT_STAT_SPEED speed
    (s.put Reg.WLT_STAT_BME (b2n bme)).portSync 32

/-- The V state of the Welt and of HDM is gone, with the requests in progress; the host writes that the Welt has
accepted go on. -/
def State.hostLost (s : State) : State :=
  let s := { s with perrs := [], hdm := { s.hdm with wb := [], turn := 0 } }
  let s := { s with wlt := { s.wlt with held := [], flight := s.wlt.flight.filter (fun q => match q with
    | .write _ => true
    | .read _ _ _ => false) } }
  s.clearV (fun p => p == pgWLT || p == pgHDM)

/-- PCIE_LINK_DOWN: PERST, link-down, hot reset or D3hot, whether or not the link was up. -/
def pcieLinkDown (s : State) : State :=
  if !bit s.pwr.powered 2 then s
  else (if s.flag Reg.WLT_STAT_LINK_UP then s.hostLost.raise Reg.WLT_IRQ_LINK_DOWN else s.hostLost).portSync 32

/-! ### Ownership (R304) -/

/-- A master may change field g of DEV_OWNER from one value to another. -/
def State.mayOwn (s : State) (m : Master) (old new : Nat) : Bool :=
  let shared := fun v => v == 0 || v == 3
  let self := fun v => v == (if m = .host then 1 else 2)
  match m with
  | .firmware => true
  | _ =>
    (shared old && self new) || (self old && shared new) ||
    (decide (m = .sideband) && (new == 2 || new == 0) && (s.flag Reg.WDG_HB_STAT_EXPIRED || !s.flag Reg.WLT_STAT_LINK_UP))

/-- A write of DEV_OWNER, judged field by field. -/
def State.ownerWrite (s : State) (m : Master) (v : Nat) : Acc :=
  let old := s.get Reg.DEV_OWNER_OWNER
  let ok := fun g => bits old (2 * g) 2 == bits v (2 * g) 2 || s.mayOwn m (bits old (2 * g) 2) (bits v (2 * g) 2)
  let new := (List.range 16).foldl (fun a g => a + (if ok g then bits v (2 * g) 2 else bits old (2 * g) 2) * 2 ^ (2 * g)) 0
  let s := s.put Reg.DEV_OWNER_OWNER new
  if (List.range 16).all ok then (none, s) else (some .ownership, s.ownErr m)

/-- A write of DEV_OWNER as the access path sees it: exempt from group 13's ownership, not from the DEV page's lock. -/
def State.ownerAcc (s : State) (m : Master) (v : Nat) : Acc :=
  if s.heelStands then (some .timeout, s)
  else if s.flag Reg.PG_LOCK_LOCK 0 && decide (m ≠ .firmware) then (none, s.err 0 0x0D0 ecLOCKED m)
  else s.ownerWrite m v

/-- OWNER_WRITE. -/
def ownerWrite (m : Master) (v : Nat) (s : State) : State := s.command m 0 0x0D0 (fun s => s.ownerAcc m v)

/-! ### The mailbox (R320, R335) -/

/-- n bytes of the request buffer. -/
def State.mbxReq (s : State) (off n : Nat) : List Byte := (List.range n).map (fun k => AMap.get (fun _ => 0) s.mbx.req (off + k))

/-- A write of MBX_CMD by master m; a GO is lost while no firmware runs (R320). -/
def State.mbxCmd (s : State) (m : Master) (len : Nat) (go : Bool) : State :=
  if !go || !s.firmwareRuns then s
  else if s.flag Reg.MBX_STAT_BUSY then s.err pgMBX 0x080 ecBUSY m
  else if len < 8 || 1024 < len then s.err pgMBX 0x080 ecINVALID m
  else (s.put Reg.MBX_CMD_LEN len).put Reg.MBX_STAT_BUSY 1

/-- MBX_GO. -/
def mbxGo (m : Master) (len : Nat) (s : State) : State := s.direct m pgMBX 0x080 (fun s => s.mbxCmd m len true)

/-- The firmware answers the waiting request with a result and a body (R320); the header's SERVICE and SEQUENCE are the
request's. -/
def State.mbxAnswer (s : State) (result : Nat) (body : List Byte) : State :=
  if !s.flag Reg.MBX_STAT_BUSY then s
  else
    let body := body.take 1016
    let bs := s.mbxReq 0 4 ++ beBytes 2 body.length ++ beBytes 2 result ++ body
    let s := s.mbxSet (fun x => { x with rsp := bs.zipIdx.foldl (fun m c => AMap.set (fun _ => 0) m c.2 c.1) [] })
    let s := (s.put Reg.MBX_STAT_RLEN bs.length).put Reg.MBX_STAT_RESULT result
    (s.put Reg.MBX_STAT_BUSY 0).raise Reg.MBX_IRQ_DONE

/-- MBX_RESPONSE. -/
def mbxResponse (result : Nat) (body : List Byte) (s : State) : State :=
  if bit s.pwr.powered 1 && s.firmwareRuns then s.mbxAnswer result body else s

/-- LOOPBACK_TEST: the firmware serves the waiting request of service 0x0D01 (R335); of the frames sent, `good` come back
right and `bad` in error. -/
def loopbackTest (good bad : Nat) (s : State) : State :=
  if !bit s.pwr.powered 1 || !s.firmwareRuns || !s.flag Reg.MBX_STAT_BUSY || beNat (s.mbxReq 0 2) != 0x0D01 then s
  else
    let b := s.mbxReq 8 4
    let p := leNat (sub b 0 1)
    let mode := leNat (sub b 1 1)
    let n := beNat (sub b 2 2)
    if beNat (s.mbxReq 4 2) != 4 || s.get Reg.MBX_CMD_LEN != 12 then s.mbxAnswer 2 []
    else if 24 ≤ p || s.portMode p == 0 || (mode != 1 && mode != 2) || n == 0 then s.mbxAnswer 3 []
    else
      let s := (s.put Reg.MAC_TEST_LOOP mode p).testSync p
      let s := (s.put Reg.MAC_TEST_LOOP 0 p).testSync p
      s.mbxAnswer 0 (beBytes 4 n ++ beBytes 4 (min good n) ++ beBytes 4 (min bad (n - min good n)))

end Sys2Proof.Machine
end

