-- ==== Sys2Proof/Machine/Power.lean ====
section
/-! DEFINITION. The switched domains (R352–R359): what each needs and what holds it, how one is powered and switched off,
what is lost with it, and the device mode. -/
namespace Sys2Proof.Machine

def pgPWR : Nat := 0x010
def pgWAK : Nat := 0x011
def pgTXM : Nat := 0x012

/-- Change the power component. -/
def State.pwrSet (s : State) (f : Pwr → Pwr) : State := { s with pwr := f s.pwr }

/-! ### What is lost with a block -/

/-- The time base stops at 0 s (R184); elapsed time, which is the model's measure, goes on. -/
def State.clearTim (s : State) : State := { s with tim := .init s.tim.elapsed, mdio := [] }

/-- Every frame and every copy is lost (PD7, PD9), with the transfers that the fabric held for them. -/
def State.clearFrames (s : State) : State :=
  (s.clrSet (fun c => { c with frames := [], copies := [] })).fabSet (fun f =>
    { f with undealt := [], slices := f.slices.map (fun x => (x.1, { x.2 with first := [], reads := [], writes := [] })) })

/-- The Sole's accounts, besides the policy's standing. -/
def State.clearSole (s : State) : State := { s with sole := { Sole.init with minZero := s.sole.minZero } }

/-- The Clickers, the meters, the counters and the schedulers start again (R113, R182).  The Sole keeps power: the cells of the
frames lost stay allocated until the Cobbler finds them (R165; the model's choice, assumption log 41). -/
def State.clearCls (s : State) : State :=
  let t := s.now
  let s := s.clearFrames
  { s with clr := { Clr.init with nextId := s.clr.nextId, tokens := s.puntBurst * puntUnit, puntLast := t }, sch := .init }

/-- The MAC and the Lace of port p. -/
def State.clearPort (s : State) (p : Nat) : State := { s with macs := AMap.del s.macs p, lace := AMap.del s.lace p }

/-- Engine e with its AP queue, streams, channels and counts. -/
def State.clearEngine (s : State) (e : Nat) : State :=
  let mine := fun {V : Type} (m : AMap V) (n : Nat) => m.filter (fun c => c.1 / n != e)
  s.awlSet (fun a => { a with ap := AMap.del a.ap e, turn := AMap.del a.turn e, routed := AMap.del a.routed e
                              can := mine a.can 4, lin := AMap.del a.lin e, streams := mine a.streams 32
                              hits := mine a.hits 1024, drops := mine a.drops 1024, seen := []
                              canOld := mine a.canOld 4, linOld := AMap.del a.linOld e })

/-- The transceivers' records. -/
def State.clearTxm (s : State) : State := s.wakSet (fun w => { w with txm := [], txmRun := [] })

/-- Toecap without power: keys and queued events are gone; what Keep class T holds stays (R274, R359). -/
def State.clearToecap (s : State) : State :=
  s.tcaSet (fun t => { t with keys := [], evt := [], evtArmed := true, counts := [], op := 0
                              sas := t.sas.map (fun c => (c.1, { c.2 with ok := 0, bad := 0 })) })

/-- The Last memory is lost. -/
def State.clearLast (s : State) : State := { s with lst := .init }

/-- What is lost as domain d loses power, besides its V fields. -/
def State.clearDomain (s : State) (d : Nat) : State :=
  match d with
  | 1 => ((s.clearTim).mbxSet (fun _ => .init)).wdgSet (fun w => { w with fwAt := none })
  | 2 => { s with wlt := .init, hdm := { Hdm.init with mem := s.hdm.mem }, perrs := [] }
  | 7 => s.clearFrames.clearSole
  | 9 => s.clearCls
  | 10 => s.clearLast
  | 16 => ((List.range 8).foldl State.clearEngine s).clearTxm
  | 17 => (List.range 8).foldl (fun s e => s.clearEngine (8 + e)) s
  | 18 => s.clearToecap
  | d =>
    if 11 ≤ d && d ≤ 15 then (List.range 32).foldl (fun s p => if macDomain p = d then s.clearPort p else s) s
    else if 3 ≤ d && d ≤ 6 then
      let n := d - 3
      (s.sliceServe n false).fabSet (fun f => { f with slices := AMap.del f.slices n, stalled := f.stalled.filter (· != n), rejoinAt := AMap.del f.rejoinAt n })
    else s

/-! ### Needs and holds (R352, R353, R355) -/

/-- What domain d needs, given the domains that are on: PD7 needs one slice, and takes FAB0 where none is on. -/
def domNeeds (on d : Nat) : List Nat :=
  match d with
  | 2 => [1]
  | 10 => [1]
  | 18 => [1]
  | 7 => match (List.range 4).find? (fun n => bit on (3 + n)) with
         | some n => [3 + n]
         | none => [3]
  | 8 => [7]
  | 9 => [7]
  | 16 => [10]
  | 17 => [16]
  | d => if 3 ≤ d && d ≤ 6 then [1, 10] else if 11 ≤ d && d ≤ 15 then [9] else []

/-- Add every domain that the domains of a mask need, choosing PD7's slice by the domains powered. -/
def needClose (powered want : Nat) : Nat :=
  (List.range 19).reverse.foldl (fun w d =>
    if bit w d then (domNeeds (if w / 8 % 16 = 0 then powered else w) d).foldl (fun w n => setBit w n true) w else w) want

/-- A powered domain needs d. -/
def State.domNeeded (s : State) (d : Nat) : Bool :=
  let on := s.pwr.powered
  (List.range 19).any (fun e => bit on e && e != d &&
    (if e = 7 && decide (3 ≤ d) && decide (d ≤ 6) then !((List.range 4).any (fun n => 3 + n != d && bit on (3 + n)))
     else (domNeeds on e).contains d))

/-- The mask of a list of domains. -/
def domMask (ds : List Nat) : Nat := ds.foldl (fun m d => setBit m d true) 0

/-- The domains that the Last uses, as a mask (R355). -/
def State.domUses (s : State) : Nat :=
    let ports := ((List.range 32).filter (fun p => s.portMode p != 0)).map macDomain
    let can := ((List.range 64).filter s.canEn).map (fun c => if c < 32 then 16 else 17)
    let lin := ((List.range 16).filter s.linEn).map (fun l => if l < 8 then 16 else 17)
    let tca := if (List.range 4096).any (fun b => (s.binding false b).type != 0) then [18] else []
    let m := domMask ([1, 2, 3, 4, 5, 6, 7, 8, 9, 10] ++ ports ++ can ++ lin ++ tca)
    if bit m 17 then setBit m 16 true else m

/-- PWR_DOM_USED is computed again, as a Last is applied. -/
def State.usesNow (s : State) : State :=
  let m := s.domUses
  s.pwrSet (fun w => { w with used := m })

/-- PWR_CFG.PARTIAL. -/
def State.partialOn (s : State) : Bool := bit (s.secLE 0xD 20 1) 4

/-- The requests of a master, as a mask of domains. -/
def State.domReq (s : State) (m : Master) : Nat := 2 * s.get Reg.PWR_DOM_REQ_REQ 0 0 m.code

/-- The domains that a cluster holds while it is not ASLEEP. -/
def State.clDomains (s : State) (n : Nat) : Nat :=
  if s.clState n = clUNUSED || s.clState n = clASLEEP then 0 else s.nm n 40 4 % 2 ^ 19 / 2 * 2

/-- The device mode. -/
def State.mode (s : State) : Nat := s.get Reg.PWR_MODE_MODE
def mdOFF : Nat := 0
def mdSLEEP : Nat := 1
def mdSTANDBY : Nat := 2
def mdPARTIAL : Nat := 3
def mdNORMAL : Nat := 4

/-- The device is awake: NORMAL or PARTIAL. -/
def State.awake (s : State) : Bool := s.mode == mdPARTIAL || s.mode == mdNORMAL

/-- A descent is ARMED or COMMITTED. -/
def State.descending (s : State) : Bool := s.get Reg.WAK_STAT_DESCENT != 0

/-- The domains held (R353), as a mask.  A load over PCI Express has PD2 powered (R389, R399), and after an aborted descent those that
it switched off are powered again (R372). -/
def State.domHeld (s : State) : Nat :=
  let cl := (List.range 32).foldl (fun m n => Nat.lor m (s.clDomains n)) 0
  let md := if s.awake then 2 ^ 1 + 2 ^ 10 else 0
  let used := if s.mode == mdNORMAL && !s.partialOn then s.pwr.used else 0
  let load := if s.upd.stage == .load && s.get Reg.DEV_STRAPS_BOOT_MODE != 1 then 2 ^ 2 else 0
  let used := Nat.lor used load
  let back := if s.descending then 0 else s.pwr.cut
  Nat.lor (Nat.lor (s.domReq .host) (s.domReq .sideband)) (Nat.lor (Nat.lor cl back) (Nat.lor md used))

/-- The mode changes (R358). -/
def State.modeSet (s : State) (m : Nat) : State := if s.mode = m then s else (s.put Reg.PWR_MODE_MODE m).raise Reg.PWR_IRQ_MODE_CHG

/-! ### The Sole with and without PD8 (R145, R153, R356) -/

/-- The check of the forwarding policy's minimums, as the policy is applied and as PD8 is switched. -/
def State.policyCheck (s : State) : State :=
  let n := if bit s.pwr.powered 8 then 131072 else 65536
  let bad := decide (n - 8192 < s.minSum)
  let s := { s with sole := { s.sole with minZero := bad } }
  if bad && bit s.pwr.powered 7 then s.raise Reg.SOL_IRQ_POLICY_BAD else s

/-! ### Switching off -/

/-- Domain d is switched off: every port in it is flushed (R162), and what lies in it is lost. -/
def State.domainDown (s : State) (d : Nat) : State :=
  let s := if d = 18 && s.tcaReady then s.cryptoLost else s
  let s := s.pwrSet (fun w => { w with powered := setBit w.powered d false, tested := setBit w.tested d false
                                       rising := setBit w.rising d false, drain := w.drain && d != 8 })
  let s := (List.range 32).foldl (fun s p => if macDomain p = d then s.linkLost p else s) s
  let s := s.portSyncAll
  let s := (s.clearDomain d).clearV (fun page => pageDomain page == d)
  let s := if d = 9 || (3 ≤ d && d ≤ 6) then s.budget else s
  if d = 8 then s.policyCheck else s

/-- Domains of a mask are switched off, those that need others first. -/
def State.domainsDown (s : State) (mask : Nat) : State :=
  (List.range 19).reverse.foldl (fun s d => if bit mask d then s.domainDown d else s) s

/-! ### Transceivers and channels of the Awl's domains (R377) -/

/-- Bring every transceiver into step with its cluster: SLEEP while the cluster is ASLEEP, NORMAL for any other channel. -/
def State.txmSync (s : State) : State :=
  if !bit s.pwr.tested 16 then s
  else (List.range 64).foldl (fun s c =>
    let asleep := match s.clusterOfCan c with
      | some n => s.clState n == clASLEEP
      | none => false
    let want := if asleep then 3 else 0
    if (s.txm c).want = want then s else s.txmRequest c want asleep false) s

/-- Bring a LIN channel into step with its enable, its domain and its cluster (R260); one that starts runs its default
table from the first entry. -/
def State.linSync (s : State) (l : Nat) : State :=
  let on := s.pllRuns && s.linEn l && bit s.pwr.tested (if l < 8 then 16 else 17) && !s.pageHeld (0x160 + l)
  let asleep := match s.clusterOfLin l with
    | some n => s.clState n == clASLEEP
    | none => false
  let st := s.get Reg.LIN_STAT_STATE l
  let s := if st = 1 then s else s.awlSet (fun a => { a with linOld := AMap.del a.linOld l })
  let s := s.put Reg.LIN_STAT_STATE (if !on then 0 else if asleep then 2 else 1) l
  let s := s.put Reg.LIN_STAT_ROLE (b2n (s.linCommander l)) l
  if on && st == 0 then
    let s := s.linSet l noLin
    let s := (s.put Reg.LIN_STAT_TABLE (s.linDflt l) l).put Reg.LIN_CTRL_TABLE (s.linDflt l) l
    (s.put Reg.LIN_STAT_ENTRY 0 l).put Reg.LIN_STAT_RATE (s.linRate l) l
  else s

/-- The CAN and LIN channels and transceivers follow the Last, their domains and their clusters. -/
def State.channelSync (s : State) : State :=
  let s := s.txmSync
  let s := (List.range 64).foldl State.canSync s
  (List.range 16).foldl State.linSync s

/-! ### Powering (R353, R333) -/

/-- The T1S PHYs of clusters that are ASLEEP are sent to SLEEP, as they come up (R368). -/
def State.t1sAsleep (s : State) : State :=
  if !bit s.pwr.tested 15 then s
  else (List.range 8).foldl (fun s k => match s.clusterOfPort (24 + k) with
    | some n => if s.clState n == clASLEEP && s.get Reg.T1S_CTRL_REQ k != 3 then s.t1sRequest (24 + k) 3 else s
    | none => s) s

/-- The applied Last gives Ethernet port p, whose domain is powered, its list and its modes (R199, R211). -/
def State.portApply (s : State) (p : Nat) : State :=
  let s := s.laceApply p
  if s.portCfgErr p then s.raise Reg.MAC_IRQ_CFG_ERR p else s

/-- CRYPTO_MAP is applied: a binding that acts as TYPE 0 raises CFG_ERR (R277). -/
def State.cryptoApply (s : State) : State :=
  if bit s.pwr.powered 18 && (List.range 4096).any (fun b => s.bindBad false b) then s.raise Reg.TCA_IRQ_CFG_ERR else s

/-- What begins as domain d has passed its self-test: the Clickers and slices enter service, and the L fields of its
blocks are reapplied from Last memory (R16); those held in BLOCK reset wait for their rejoin.  A slice that was retired serves again (assumption log 82). -/
def State.domainServes (s : State) (d : Nat) : State :=
  let fail := fun page => s.bistFailed page
  let s := match d with
    | 9 => ((List.range 24).foldl (fun (s : State) c =>
             if s.pageHeld (0x040 + c) then s.clrSet (fun x => { x with stalled := x.stalled.filter (· != c) ++ [c] })
             else if fail (0x040 + c) then s else s.put Reg.CLR_STAT_ROTATION 1 c) s.metersStart).budget
    | 16 => s.channelSync
    | 17 => s.channelSync
    | d =>
      if 3 ≤ d && d ≤ 6 then
        let n := d - 3
        if s.pageHeld (0x060 + n) then s.fabSet (fun f => { f with stalled := f.stalled.filter (· != n) ++ [n] })
        else if fail (0x060 + n) then s else s.sliceServe n true
      else if 11 ≤ d && d ≤ 15 && s.flag Reg.LST_STAT_LOADED then
        (List.range 32).foldl (fun s p => if macDomain p = d then s.portApply p else s) s
      else if d = 18 then s.cryptoApply else s
  (if d = 15 then s.t1sAsleep else s).portSyncAll.checkStartup

/-- The domains may be switched: the device is awake, no reset holds it, no reload has taken the Last away, and the system
PLL has a clock (R338, R339). -/
def State.domainsLive (s : State) : Bool :=
  s.awake && s.get Reg.WAK_STAT_DESCENT != 2 && !s.pwr.down && !s.reloading && !s.flag Reg.SBP_ALERT_STAT_CLOCK_HOLD &&
  (s.get Reg.CGU_STAT_HRC == 2 || s.flag Reg.CGU_STAT_SYSREF)

/-- Start to power domain d. -/
def State.domainRise (s : State) (d : Nat) : State := s.pwrSet (fun w => { w with rising := setBit w.rising d true })

/-- Bring the domains and the mode into step with what holds them (R353, R358): PD8 drains before it is switched off
(R356), and a domain rises once every domain that it needs is powered. -/
def State.domSync (s : State) : State :=
  if !s.domainsLive then s
  else
    let held := needClose s.pwr.powered s.domHeld
    let used := s.pwr.used
    let all := Nat.land used held == used
    let s := if s.mode == mdNORMAL && s.partialOn && !all then s.modeSet mdPARTIAL
             else if s.mode == mdPARTIAL && all then s.modeSet mdNORMAL else s
    let want := needClose s.pwr.powered s.domHeld
    let keep8 := bit s.pwr.failed 8 && (bit s.pwr.powered 8 != bit want 8)
    let s := s.pwrSet (fun w => { w with failed := setBit (Nat.land w.failed want) 8 keep8, drain := w.drain && !bit want 8
                                         rising := Nat.land w.rising want })
    let s := (List.range 19).reverse.foldl (fun s d =>
      if !bit s.pwr.powered d || bit want d || s.domNeeded d then s
      else if d = 8 then (if bit s.pwr.failed 8 then s else s.pwrSet (fun w => { w with drain := true }))
      else s.domainDown d) s
    (List.range 19).foldl (fun s d =>
      if bit want d && !bit s.pwr.powered d && !bit s.pwr.rising d && !bit s.pwr.failed d && d != 0 &&
         (domNeeds s.pwr.powered d).all (fun n => bit s.pwr.powered n) then s.domainRise d else s) s

/-- Record a domain error (R353, R354, R356). -/
def State.domainErr (s : State) (d reason : Nat) (sideband : Bool) : State :=
  let s := (s.put Reg.PWR_DOM_ERR_DOMAIN d).put Reg.PWR_DOM_ERR_REASON reason
  (s.put Reg.PWR_DOM_ERR_SIDEBAND (b2n sideband)).raise Reg.PWR_IRQ_DOMAIN_ERR

/-- DOMAIN_POWER_GOOD: domain d, which is rising, reports power-good; its self-test begins (R333).  PD8 enlarges the Sole at
once (R356). -/
def domainPowerGood (d : Nat) (s : State) : State :=
  if !bit s.pwr.rising d then s
  else
    let s := s.pwrSet (fun w => { w with powered := setBit w.powered d true, rising := setBit w.rising d false, cut := setBit w.cut d false
                                         bist := w.bist.filter (fun b => pageDomain b != d) })
    let s := s.put Reg.FLT_BIST_FAIL_DOMAIN (setBit (2 * s.get Reg.FLT_BIST_FAIL_DOMAIN) d false / 2)
    let s := if d = 8 then s.policyCheck else s
    s.portSyncAll.domSync

/-- DOMAIN_POWER_TIMEOUT: domain d gives no power-good within 1 ms. -/
def domainPowerTimeout (d : Nat) (s : State) : State :=
  if !bit s.pwr.rising d then s
  else
    let s := s.pwrSet (fun w => { w with rising := setBit w.rising d false, failed := setBit w.failed d true, cut := setBit w.cut d false })
    (s.domainErr d 5 false).fault pgPWR 0x0402

/-- PD8_DRAINED: no cell of banks 8–15 is allocated any more (R356). -/
def pd8Drained (s : State) : State :=
  if !s.pwr.drain || s.sole.taken.any (fun c => decide (65536 ≤ c.1)) then s else (s.domainDown 8).domSync

/-- PD8_DRAIN_TIMEOUT: cells are still allocated 10 ms after the request (R356). -/
def pd8DrainTimeout (s : State) : State :=
  if !s.pwr.drain then s
  else
    let s := s.pwrSet (fun w => { w with drain := false, failed := setBit w.failed 8 true })
    s.domainErr 8 4 false

end Sys2Proof.Machine
end

