-- ==== Sys2Proof/Machine/Flash.lean ====
section
/-! DEFINITION. The external flash and the boot record in it (R380, R384, R385). -/
namespace Sys2Proof.Machine

def pgUPD : Nat := 0x028

def State.updSet (s : State) (f : Upd → Upd) : State := { s with upd := f s.upd }

/-- Bytes of the flash, of a sector, of a slot. -/
def flashBytes : Nat := 0x4000000
def sectorBytes : Nat := 0x10000

/-- The select FL_CS_N[b] under which a flash address lies (R380): of two devices the upper half is on FL_CS_N[1]. -/
def flashSelect (addr : Nat) : Nat := if Config.flashPair && decide (0x2000000 ≤ addr) then 1 else 0
def slotBytes : Nat := 0x1800000

/-- What an unlisted byte of flash reads: erased. -/
def erased (_ : Nat) : Byte := 0xFF

/-- A byte of flash; the bytes of a region that an operation left undefined are free values (assumption log 3). -/
def Upd.byte (u : Upd) (a : Nat) : Byte :=
  match u.wild.find? (fun w => decide (w.1 ≤ a) && decide (a < w.1 + w.2.1)) with
  | some w => Config.freeByte w.2.2 a
  | none => AMap.get erased u.flash a

/-- n bytes of flash. -/
def Upd.bytes (u : Upd) (a n : Nat) : List Byte := (List.range n).map (fun k => u.byte (a + k))

/-- A region of flash has contents that nothing defines. -/
def State.flashWild (s : State) (a n : Nat) : State :=
  { s with freeCtr := s.freeCtr + 1, upd := { s.upd with wild := (a, n, s.freeCtr) :: s.upd.wild } }

/-- Erase the sector at a. -/
def Upd.erase (u : Upd) (a : Nat) : Upd :=
  let inside := fun (x : Nat) => decide (a ≤ x) && decide (x < a + sectorBytes)
  { u with flash := u.flash.filter (fun c => !inside c.1), wild := u.wild.filter (fun w => !inside w.1) }

/-- Store bytes at ascending addresses. -/
def Upd.store (u : Upd) (a : Nat) (bs : List Byte) : Upd :=
  match bs with
  | [] => u
  | b :: r => Upd.store { u with flash := AMap.set erased u.flash a b } (a + 1) r

/-- Program a page: as given where it is erased (R390); what programming makes of a page that is not erased is not
stated. -/
def State.flashProgram (s : State) (a : Nat) (bs : List Byte) : State :=
  if (s.upd.bytes a 256).all (· == 0xFF) then s.updSet (fun u => u.store a (padTo 256 bs)) else s.flashWild a 256

/-! ### Slots and the boot record -/

/-- The flash address of a slot: 0 slot A, 1 slot B. -/
def slotBase (k : Nat) : Nat := 0x400000 + k * slotBytes

/-- A copy of the record is valid; one whose write was interrupted or failed is not (R385: the other stays in use). -/
def Upd.recValid (u : Upd) (copy : Nat) : Bool :=
  let b := u.bytes (copy * sectorBytes) 256
  !u.wild.any (fun w => w.1 == copy * sectorBytes) && sub b 0 4 == [0x42, 0x52, 0x45, 0x43] && leNat (sub b 252 4) == crc32cStd (b.take 252)

/-- The record of a copy. -/
def Upd.recAt (u : Upd) (copy : Nat) : BootRec :=
  let f := fun o n => leNat (u.bytes (copy * sectorBytes + o) n)
  ⟨f 4 4, f 8 1 % 2, f 9 1, f 10 1 % 2, f 11 1, f 12 1 % 2, f 13 1⟩

/-- The record where neither copy is valid. -/
def noRec : BootRec := ⟨0, 0, 0, 0, 0, 0, 0xFF⟩

/-- The copy in use (R384), none where neither is valid. -/
def Upd.recCopy (u : Upd) : Option Nat :=
  match u.recValid 0, u.recValid 1 with
  | true, true => if (u.recAt 0).gen < (u.recAt 1).gen then some 1 else some 0
  | true, false => some 0
  | false, true => some 1
  | false, false => none

/-- The boot record. -/
def Upd.bootRec (u : Upd) : BootRec :=
  match u.recCopy with
  | some c => u.recAt c
  | none => noRec

/-- The address at which a new record is written: the copy not in use (R385). -/
def Upd.recTarget (u : Upd) : Nat := if u.recCopy = some 0 then sectorBytes else 0

/-- The 256 bytes of a record. -/
def BootRec.bytes (r : BootRec) : List Byte :=
  let b := padTo 252 ([0x42, 0x52, 0x45, 0x43] ++ leBytes 4 r.gen ++ leBytes 1 r.active ++ leBytes 1 r.state ++ leBytes 1 r.prev ++
    leBytes 1 r.reason ++ leBytes 1 r.failSlot ++ leBytes 1 r.failPart)
  b ++ leBytes 4 (crc32cStd b)

/-- Begin to write a record, which gets the next GEN; it is tried once and up to three times more (R385). -/
def State.recWrite (s : State) (r : BootRec) (why : RecFor) : State :=
  let g := (s.upd.bootRec.gen + 1) % 2 ^ 32
  s.updSet (fun u => { u with write := some ({ r with gen := g }, why, 4) })

/-- A reset interrupts the flash operation and the record write in progress: what they were changing is undefined. -/
def State.flashAbort (s : State) : State :=
  let s := match s.upd.write with
    | some _ => s.flashWild s.upd.recTarget sectorBytes
    | none => s
  let s := match s.upd.op with
    | some (1, a, _, _) => s.flashWild a sectorBytes
    | some (2, a, _, _) => s.flashWild a sectorBytes
    | some (3, a, _, _) => s.flashWild a 256
    | _ => s
  s.updSet (fun u => { u with op := none, write := none })

/-- Put the fuses into the registers that show them (R382, R397, R398, R413). -/
def State.showFuses (s : State) : State :=
  let u := s.upd
  let s := s.put Reg.FUS_STAT_KEYHASH_SET (b2n u.keyHash.isSome)
  let s := s.put Reg.FUS_STAT_OWNER_KEY_SET (b2n u.ownerKey.isSome)
  let h := u.keyHash.getD (List.replicate 32 0)
  let s := (List.range 8).foldl (fun s i => s.put Reg.FUS_KEYHASH_HASH (leNat (sub h (4 * i) 4)) 0 i) s
  let s := s.put Reg.UPD_OWN_STAT_LOCKED (u.burnt % 2)
  let s := s.put Reg.UPD_OWN_STAT_KEY_SET (b2n u.ownerKey.isSome)
  s.put Reg.UPD_OWN_STAT_LEFT (63 - u.burnt)

end Sys2Proof.Machine
end

