-- ==== Sys2Proof/Machine/Wake.lean ====
section
/-! DEFINITION. What the resets and low-power states clear (R15, R359), the descent, waking, the wake clusters' commands,
domain requests and transceiver sequences (R353–R377). -/
namespace Sys2Proof.Machine

/-! ### Persistence (R15, R359) -/

/-- What Keep class T holds outside the register cells, with the T cells. -/
def State.dropT (s : State) : State :=
  let s := { s with regs := { s.regs with t := [] }, flt := { s.flt with codes := [] } }
  let s := s.tcaSet (fun t => { t with kept := [], sas := [], fv := [], fvThresh := [], fvExhausted := [] })
  let s := s.wakSet (fun w => { w with wakes := [], falses := [] })
  let s := { s with cgu := { s.cgu with auto := 0 } }
  s.wdgSet (fun w => { w with hbAt := none })

/-- A change set is lost, and the frames of every epoch with the reset: no page stays staged or held (R68). -/
def State.lstReset (s : State) : State :=
  s.lstSet (fun l => { l.dropSet.dropHeld with prio := false, purged := false, apart := none })

/-- Every switched domain loses power and every V field is cleared; the Last memory may be kept. -/
def State.dropV (s : State) (keepLast : Bool) : State :=
  let s := s.flashAbort
  let s := (List.range 19).foldl (fun s d => if d = 10 && keepLast then s.lstReset else s.clearDomain d) s
  let s := { s with regs := { s.regs with v := [] }, sbResp := ⟨0, 0, []⟩, rd := [] }
  let s := s.pwrSet (fun w => { Pwr.init with low := w.low, dipAt := w.dipAt, down := w.down, gone := w.gone })
  let s := s.fltSet (fun f => { Flt.init with codes := f.codes })
  let s := s.fabSet (fun f => { Fab.init with warnAt := f.warnAt })
  let s := s.wakSet (fun w => { w with timer := [], routeAt := [], phyReq := [], armed := if w.setup = 2 then w.armed else [], timing := false })
  let ran := s.upd.slot
  s.updSet (fun u => { u with stage := .due, ran := ran, fell := false, kept := keepLast, image := [], next := 0, reset := false
                              trialAt := none, trialSecs := 0, speed := 0, source := 0, bootAt := none })

/-! ### Causes and aborts (R372, R373) -/

/-- Kinds of WAK_CAUSE. -/
def wkPOR : Nat := 0
def wkPIN : Nat := 1
def wkCAN : Nat := 2
def wkLIN : Nat := 3
def wkT1S : Nat := 4
def wkWAKE_IN : Nat := 5
def wkSIDEBAND : Nat := 6
def wkTIMER : Nat := 7
def wkCLOCK : Nat := 8
def wkHOST : Nat := 9
def wkROUTE : Nat := 10

/-- Record a cause. -/
def State.wakeCause (s : State) (kind index : Nat) (late : Bool) : State :=
  ((s.put Reg.WAK_CAUSE_KIND kind).put Reg.WAK_CAUSE_INDEX index).put Reg.WAK_CAUSE_LATE (b2n late)

/-- A latch or a request aborts the descent in progress (R372): every domain that it switched off is powered again. -/
def State.abortDescent (s : State) (kind index : Nat) : State :=
  if !s.descending then s
  else
    let s := (s.wakeCause kind index true).inc Reg.WAK_LATE_COUNT
    let s := (s.raise Reg.WAK_IRQ_LATE).put Reg.WAK_STAT_DESCENT 0
    (s.modeSet s.pwr.before).domSync

/-- WAK_REQ_PIN as the active pins of MODE 1 have it. -/
def State.pinRequests (s : State) : State :=
  let m := (List.range 4).foldl (fun m i =>
    if AMap.get (fun _ => false) s.wak.pins i && s.pinMode i == 1 then Nat.lor m (s.pinClusters i) else m) 0
  s.put Reg.WAK_REQ_PIN_CL m

/-- The clusters follow their requests, and the domains the clusters. -/
def State.requestsChanged (s : State) : State := s.clUpdateAll.domSync

/-- The device wakes from SLEEP or STANDBY (R358, R369, R373).  From SLEEP the HRC starts (R338 step 2) and a boot is due;
from STANDBY PD1 and PD10 resume, the held domains are powered, and the pins that are active request their clusters. -/
def State.deviceWakes (s : State) (kind index : Nat) : State :=
  let sleep := s.mode == mdSLEEP
  let s := (s.wakeCause kind index false).inc Reg.WAK_WAKES_COUNT
  let s := (s.raise Reg.WAK_IRQ_WOKE).wakSet (fun w => { w with timing := false })
  if sleep then
    let s := ((s.modeSet mdNORMAL).put Reg.CGU_STAT_HRC 1).xtalAmp
    let s := s.tcaSet (fun t => { t with locked := false })
    s.wakSet (fun w => { w with setup := 2 })
  else (s.modeSet s.pwr.before).pinRequests.requestsChanged

/-- Some cluster has left ASLEEP while a descent is in progress: a route's request aborts it (R367, R372); then the domains
follow the clusters. -/
def State.clusterSync (s : State) : State :=
  let s := match (List.range 32).find? (fun n => decide (clWOKEN ≤ s.clState n)) with
    | some n => s.abortDescent wkROUTE n
    | none => s
  s.domSync

/-- A cluster that a latch wakes: WOKEN, from ASLEEP (R370). -/
def State.clWake (s : State) (n : Nat) : State := if s.clState n = clASLEEP then s.clEnter n clWOKEN else s

/-! ### Requests (R367) -/

/-- The lowest bit that a new mask adds. -/
def newBit (old new : Nat) : Option Nat := (List.range 32).find? (fun n => bit new n && !bit old n)

/-- A write of WAK_REQ_HOST by master m (R41). -/
def State.wakeReqHost (s : State) (m : Master) (v : Nat) : State :=
  let old := s.get Reg.WAK_REQ_HOST_CL
  let gone := s.flag Reg.WDG_HB_STAT_EXPIRED || !s.flag Reg.WLT_STAT_LINK_UP
  if m = .sideband && !(gone && Nat.land old (v % 2 ^ 32) == v % 2 ^ 32) then s.err pgWAK 0x088 ecSOURCE m
  else
    let s := s.put Reg.WAK_REQ_HOST_CL v
    let s := match newBit old v with
      | some n => s.abortDescent wkHOST n
      | none => s
    s.requestsChanged

/-- WAKE_REQUEST_HOST. -/
def wakeRequestHost (m : Master) (v : Nat) (s : State) : State := s.direct m pgWAK 0x088 (fun s => s.wakeReqHost m v)

/-- A write of WAK_REQ_SB by master m: the host's is ignored; a bit set in SLEEP or STANDBY wakes the device. -/
def State.wakeReqSb (s : State) (m : Master) (v : Nat) : State :=
  if m = .host then s
  else
    let old := s.get Reg.WAK_REQ_SB_CL
    let s := s.put Reg.WAK_REQ_SB_CL v
    let s := match newBit old v with
      | some n =>
        if s.mode == mdSLEEP then
          let new := (List.range 32).filter (fun n => bit v n && !bit old n)
          (s.wakSet (fun w => { w with latched := w.latched ++ new.map (fun n => (wkSIDEBAND, n)) })).deviceWakes wkSIDEBAND n
        else if s.mode == mdSTANDBY then s.deviceWakes wkSIDEBAND n
        else s.abortDescent wkSIDEBAND n
      | none => s
    if s.awake then s.requestsChanged else s

/-- WAKE_REQUEST_SB. -/
def wakeRequestSb (m : Master) (v : Nat) (s : State) : State := s.direct m pgWAK 0x08C (fun s => s.wakeReqSb m v)

/-- WAKE_PIN_CHANGE: WAKE_IN[i] becomes active or inactive. -/
def wakePinChange (i : Nat) (active : Bool) (s : State) : State :=
  let s := s.wakSet (fun w => { w with pins := AMap.set (fun _ => false) w.pins i active })
  if !s.awake then s.pinRequests
  else
    let s := if active && s.pinMode i == 1 then s.abortDescent wkWAKE_IN i else s
    s.pinRequests.requestsChanged

/-- ROUTE_HOLD_EXPIRY: ROUTE_HOLD ms after the last copy, a route's request for cluster n ends. -/
def routeHoldExpiry (n : Nat) (s : State) : State :=
  (s.put Reg.WAK_REQ_ROUTE_CL (setBit (s.get Reg.WAK_REQ_ROUTE_CL) n false)).requestsChanged

/-! ### Cluster timers and keep-alives (R366, R368) -/

/-- KEEPALIVE_RX: something is received that is a keep-alive of its cluster, or is not.  The commands that receive a frame, header or
response do this themselves; here it is recognised alone. -/
def keepaliveRx (e : KaRx) (s : State) : State := s.kaSeen e

/-- KEEPALIVE_PERIOD: KA_PERIOD passes in REQUESTED. -/
def keepalivePeriod (n : Nat) (s : State) : State := if s.clState n = clREQUESTED then s.sendKa n else s

/-- READY_TIMER_EXPIRY. -/
def readyTimerExpiry (n : Nat) (s : State) : State := if s.clState n = clREADY then s.clEnter n clPREPARE else s

/-- PREPARE_TIMER_EXPIRY: the cluster's network goes to sleep. -/
def prepareTimerExpiry (n : Nat) (s : State) : State := if s.clState n = clPREPARE then (s.clEnter n clASLEEP).domSync else s

/-- WAKE_TIMEOUT: a false wake. -/
def wakeTimeout (n : Nat) (s : State) : State :=
  if s.clState n = clWOKEN then
    let s := s.wakSet (fun w => { w with falses := bump16 w.falses n })
    ((s.clEnter n clASLEEP).raise Reg.WAK_IRQ_FALSE_WAKE).domSync
  else s

/-- LIN_GOTOSLEEP_RX: responder channel l receives the go-to-sleep command. -/
def linGotosleepRx (l : Nat) (s : State) : State :=
  match s.clusterOfLin l with
  | some n =>
    if s.linCommander l || s.clState n = clUNUSED || s.clState n = clASLEEP then s else (s.clEnter n clPREPARE).clUpdate n
  | none => s

/-! ### The descent (R360, R371) -/

/-- What step 1 arms: the channels and PHYs of the defined clusters, and the WAKE_IN pins of MODE 1 or 2. -/
def State.armList (s : State) : List (Nat × Nat) :=
  ((List.range 64).filter (fun c => (s.clusterOfCan c).isSome)).map (fun c => (wkCAN, c)) ++
  ((List.range 16).filter (fun l => (s.clusterOfLin l).isSome)).map (fun l => (wkLIN, l)) ++
  ((List.range 32).filter (fun p => match s.clusterOfPort p with
      | some n => s.nmKind n == 3
      | none => false)).map (fun p => (wkT1S, p)) ++
  ((List.range 4).filter (fun i => s.pinMode i != 0 || s.latchWakeMask wkWAKE_IN i != 0)).map (fun i => (wkWAKE_IN, i))

/-- A descent may begin. -/
def State.mayDescend (s : State) : Bool :=
  let st := s.get Reg.LST_STAT_STATE
  s.awake && !s.descending && decide (0 < s.definedCount) &&
  (List.range 32).all (fun n => !s.nmDefined n || s.clState n == clASLEEP) &&
  s.domReq .host == 0 && s.domReq .sideband == 0 && (st == 0 || st == 6) && !s.flag Reg.LST_STAT_DRAINING &&
  s.upd.op.isNone && s.upd.write.isNone

/-- The clusters that a latch wakes: WOKEN, from ASLEEP. -/
def State.latchWakes (s : State) (kind index : Nat) : State :=
  let m := s.latchWakeMask kind index
  (List.range 32).foldl (fun s n => if bit m n then s.clWake n else s) s

/-- DESCENT_START: step 1; a latch that is set already counts as late, and wakes its cluster (R372). -/
def descentStart (s : State) : State :=
  if !s.mayDescend then s
  else
    let arm := s.armList
    let mode := s.mode
    let s := (s.put Reg.WAK_STAT_DESCENT 1).wakSet (fun w => { w with armed := arm })
    let s := s.pwrSet (fun w => { w with before := mode, cut := 0 })
    match s.wak.latched.find? s.latchNamed with
    | some c => (((s.abortDescent c.1 c.2).latchWakes c.1 c.2).pinRequests).requestsChanged
    | none => s

/-- DESCENT_COMMIT: step 2. -/
def descentCommit (s : State) : State :=
  if s.get Reg.WAK_STAT_DESCENT != 1 then s
  else
    let s := s.put Reg.WAK_STAT_DESCENT 2
    let s := if bit s.pwr.powered 15 then
        (List.range 8).foldl (fun s k => if s.get Reg.T1S_STAT_STATE k = 3 then s else s.t1sRequest (24 + k) 3) s else s
    if bit s.pwr.powered 16 then
      (List.range 64).foldl (fun s c => if (s.clusterOfCan c).isNone then s.txmRequest c 3 true false else s) s else s

/-- The descent ends in STANDBY. -/
def State.toStandby (s : State) : Bool := s.flag Reg.PWR_CFG_DESCEND || s.get Reg.CGU_STAT_LRC == 3

/-- DESCENT_STANDBY: step 3.  In STANDBY PD10 is in retention and is checked as the device wakes (R333). -/
def descentStandby (s : State) : State :=
  if s.get Reg.WAK_STAT_DESCENT != 2 || !s.awake then s
  else
    let cut := Nat.land (Nat.lor s.pwr.powered s.pwr.rising) (2 ^ 19 - 1 - (1 + 2 ^ 1 + 2 ^ 10))
    let s := s.pwrSet (fun w => { w with cut := cut, drain := false })
    let s := s.domainsDown cut
    if s.toStandby then
      let s := s.pwrSet (fun w => { w with tested := setBit w.tested 10 false, cut := 0 })
      let s := (s.modeSet mdSTANDBY).put Reg.WAK_STAT_DESCENT 0
      s.wakSet (fun w => { w with timing := s.get Reg.WAK_TIMER_SECONDS != 0 })
    else s

/-- DESCENT_SLEEP: steps 4 and 5: the T store is dropped and INH_OUT falls. -/
def descentSleep (s : State) : State :=
  if s.get Reg.WAK_STAT_DESCENT != 2 || !s.awake || s.toStandby || Nat.land s.pwr.powered (2 ^ 19 - 1 - (2 ^ 1 + 2 ^ 10)) != 0 then s
  else
    let arm := s.wak.armed
    let s := { s with cgu := { s.cgu with starting := false, amp := false } }
    let s := (s.dropV false).dropT.put Reg.PWR_MODE_MODE mdSLEEP
    s.wakSet (fun w => { w with armed := arm, timing := s.get Reg.WAK_TIMER_SECONDS != 0 })

/-! ### Wakes (R370–R373) -/

/-- The detector of a source is armed: in a descent, in SLEEP and STANDBY, and after SLEEP until the clusters are set up, those that
step 1 armed, else those of the clusters that are ASLEEP. -/
def State.latchArmed (s : State) (kind index : Nat) : Bool :=
  if s.descending || s.mode == mdSLEEP || s.mode == mdSTANDBY || s.wak.setup == 2 then s.wak.armed.contains (kind, index)
  else decide (kind ≤ wkWAKE_IN) &&
    (List.range 32).any (fun n => bit (s.latchWakeMask kind index) n && s.clState n == clASLEEP)

/-- WAKE_LATCH: a detector of R373 latches: CAN channel, LIN channel, T1S port or WAKE_IN pin.  The latch stays set until a cluster of
it enters ASLEEP (R370); one that no cluster has is spent at once (assumption log 99). -/
def wakeLatch (kind index : Nat) (s : State) : State :=
  if !s.latchArmed kind index then s
  else
    let s := s.wakSet (fun w => { w with latched := w.latched ++ [(kind, index)] })
    let s := if kind = wkWAKE_IN then s.wakSet (fun w => { w with pins := AMap.set (fun _ => false) w.pins index true }) else s
    if s.mode == mdSLEEP then s.deviceWakes kind index
    else
      let s := if s.mode == mdSTANDBY then s.deviceWakes kind index else s.abortDescent kind index
      let s := ((s.latchWakes kind index).pinRequests).requestsChanged
      if s.wak.setup = 2 then s else s.wakSet (fun w => { w with latched := w.latched.filter s.latchNamed })

/-- WAK_TIMER_EXPIRY: the count reaches 0 after a descent. -/
def wakTimerExpiry (s : State) : State :=
  if !s.wak.timing then s
  else
    let s := (s.put Reg.WAK_TIMER_SECONDS 0).wakSet (fun w => { w with timing := false })
    if s.mode == mdSLEEP || s.mode == mdSTANDBY then s.deviceWakes wkTIMER 0 else s

/-! ### Domain requests (R353, R354) -/

/-- A master's request for a domain changes: the host may not ask PD2 to go down.  A new request aborts a descent, and one
over the sideband wakes the device (R373). -/
def State.domainAsk (s : State) (m : Master) (d : Nat) (on : Bool) : State :=
  let old := s.domReq m
  if bit old d = on || d = 0 || 18 < d then s
  else if m = .host && d = 2 && !on then (s.domainErr 2 2 false).err pgPWR 0x08C ecSTATE m
  else
    let s := s.put Reg.PWR_DOM_REQ_REQ (setBit old d on / 2) 0 0 m.code
    let s := if !on then s
      else if m = .sideband && (s.mode == mdSLEEP || s.mode == mdSTANDBY) then s.deviceWakes wkSIDEBAND 0
      else s.abortDescent (if m = .sideband then wkSIDEBAND else wkHOST) 0
    s.domSync

/-- A write of PWR_DOM_REQ by master m, bit d of the mask for PDd. -/
def State.domReqWrite (s : State) (m : Master) (mask : Nat) : State :=
  (List.range 19).foldl (fun s d => s.domainAsk m d (bit mask d)) s

/-- DOMAIN_REQUEST: master m sets or clears its request for domain d, by PWR_DOM_REQ or by the POWER_REQ bit of a page of the
domain, which PG_LOCK lets through (R405, R407); both follow the ownership of group 10. -/
def domainRequest (m : Master) (d : Nat) (on viaPage : Bool) (s : State) : State :=
  if viaPage then s.command m pgPWR 0x08C (fun s => s.gate0 m pgPWR 0x08C (fun s => s.domainAsk m d on))
  else s.direct m pgPWR 0x08C (fun s => s.domainAsk m d on)

/-! ### Supplies and the converter (R361–R363) -/

/-- SUPPLY_WARNING: supply n (0 VDD_CORE, 1 VDD_IO33) falls below its warning level (R362); the monitors rest in SLEEP. -/
def supplyWarning (n : Nat) (s : State) : State :=
  if bit s.pwr.low n || 1 < n || s.mode == mdSLEEP || s.mode == mdOFF || s.pwr.down then s
  else
    let t := s.now
    let s := s.pwrSet (fun w => { w with low := setBit w.low n true, dipAt := AMap.ins w.dipAt n t })
    let s := (s.raise Reg.PWR_IRQ_SUPPLY_WARN).devCause Reg.DEV_CAUTIOUS_SUPPLY true
    let s := s.fabSet (fun f => { f with warnAt := some t })
    let s := s.updSet (fun u => { u with op := u.op.map (fun o => (o.1, o.2.1, o.2.2.1, o.1 == 3 || o.2.2.2)) })
    s.fault pgPWR 0x0401

/-- SUPPLY_RECOVER: supply n is above its warning level again; `mv` is the minimum that the converter sampled. -/
def supplyRecover (n mv : Nat) (s : State) : State :=
  if !bit s.pwr.low n then s
  else
    let t := s.now
    let dur := (t - AMap.get (fun _ => t) s.pwr.dipAt n) / 1000
    let s := s.pwrSet (fun w => { w with low := setBit w.low n false, dipAt := AMap.del w.dipAt n })
    let s := s.fabSet (fun f => { f with warnAt := some t })
    let s := (s.put Reg.PWR_DIP_MIN_MIN_MV mv).put Reg.PWR_DIP_MIN_SUPPLY n
    (s.put Reg.PWR_DIP_DUR_US (min 4294967295 dur)).inc Reg.PWR_DIPS_COUNT

/-- Channel 4 at the full scale of VBAT_SENSE, which a higher input reads (R363, R425), in mV. -/
def vbatFullScale : Nat := 19200

/-- CONVERTER_UPDATE: the averages of the six channels of R363, temperature in two's complement. -/
def converterUpdate (vs : List Nat) (s : State) : State :=
  if s.mode == mdSLEEP || s.mode == mdOFF then s
  else (vs.take 6).zipIdx.foldl (fun s c =>
    s.put Reg.PWR_MEAS_VALUE (if c.2 = 4 then min vbatFullScale c.1 else c.1) 0 c.2) s

/-! ### Transceivers (R377) -/

/-- A write of TXM_CMD by master m. -/
def State.txmWrite (s : State) (c st : Nat) (go : Bool) : State := if go then s.txmRequest c st false true else s

/-- TXM_CMD: GO for a CAN channel. -/
def txmCmd (m : Master) (c st : Nat) (s : State) : State := s.direct m pgTXM 0x080 (fun s => s.txmWrite c st true)

/-- TXM_SEQUENCE_DONE: the sequence that its controller runs for channel c ends, its READ_CHECKs having received last the bytes rx:
it has completed or failed (R376, R377).  With too few bytes it has not ended. -/
def txmSequenceDone (c : Nat) (rx : List Byte) (s : State) : State :=
  let x := s.txm c
  match x.todo with
  | [] => s
  | q :: rest =>
    match if s.txmRuns c then s.txmRunOf c q rx else none with
    | none => s
    | some (sent, true) =>
      let x := { x with sent := sent }
      (match rest with
      | _ :: _ => s.txmSet c { x with todo := rest, again := false }
      | [] =>
        let s := s.txmSet c { x with state := x.target, err := false, todo := [], cmd := false, again := false }
        let s := if x.cmd then s.raise Reg.TXM_IRQ_CMD_DONE else s
        (s.txmNext (c / 16)).canHold c (txmHold x.target))
    | some (sent, false) =>
      let x := { x with sent := sent }
      let s := s.inc Reg.TXM_ERRS_COUNT
      if !x.again then s.txmSet c { x with again := true }
      else
        let s := s.txmSet c { x with err := true, todo := [], cmd := false, again := false }
        let s := if x.cmd then s.raise Reg.TXM_IRQ_CMD_DONE else s
        ((s.txmNext (c / 16)).raise Reg.TXM_IRQ_SEQ_ERR).fault pgPWR 0x0403

end Sys2Proof.Machine
end

