-- ==== Sys2Proof/Machine/Apply.lean ====
section
/-! DEFINITION. What applying a Last starts in the blocks (R16, R48, R113, R182, R199, R369), and what a flip changes in them
(R62, R63, R153, R170, R180, R197). -/
namespace Sys2Proof.Machine

/-! ### Schedules that wait for the next cycle (R62, R258) -/

/-- Where a command on port p has begun a cycle of its list, the CAN slots that follow it take their new entries (R62, R258). -/
def State.cycleBegun (p : Nat) (s t : State) : State :=
  if t.get Reg.LCE_CYCLES_COUNT p = s.get Reg.LCE_CYCLES_COUNT p then t else t.cycleSchedules p

/-- The CAN_SCHED entries by which channel c runs, and the LIN_SCHED entries by which channel l does. -/
def State.canSchedBytes (s : State) (c : Nat) : List Byte := (List.range 2080).map (fun o => BitVec.ofNat 8 (s.canSched c o 1))
def State.linSchedBytes (s : State) (l : Nat) : List Byte := (List.range 4176).map (fun o => BitVec.ofNat 8 (s.linSched l o 1))

/-- A schedule cycle of CAN channel c runs (R258). -/
def State.canCycles (s : State) (c : Nat) : Bool :=
  bit (s.canHdr c 16 1) 7 && s.laceRuns (s.refPort c) && (s.refLace c).oper.len != 0

/-! ### Clusters (R369) -/

/-- Set up the clusters as WAKE_NM has been applied (R369): after a cold reset all WOKEN; after a wake from SLEEP, those that the latches
name WOKEN, or REQUESTED where the wake was a local request, and the others ASLEEP; else the states are kept and their timers
restart. -/
def State.clusterSetup (s : State) : State :=
  let how := s.wak.setup
  let s := (List.range 32).foldl (fun (s : State) n =>
    if !s.nmDefined n then (if s.clState n = clUNUSED then s else s.clPut n clUNUSED)
    else
      let st := if how = 1 then clWOKEN else if how = 2 then clASLEEP
                else if s.clState n = clUNUSED then clWOKEN else s.clState n
      (s.clPut n st).clTimer n) s
  let latched := s.wak.latched
  let s := if how != 2 then s else (List.range 32).foldl (fun (s : State) n =>
    if s.clState n != clASLEEP then s
    else if latched.any (fun x => bit (s.latchAskMask x.1 x.2) n) then s.clEnter n clREQUESTED
    else if latched.any (fun x => bit (s.latchWakeMask x.1 x.2) n) then s.clEnter n clWOKEN
    else s) s
  s.t1sAsleep.wakSet (fun w => { w with setup := 0, latched := w.latched.filter (fun x => x.1 != wkSIDEBAND && s.latchNamed x) })

/-- WAKE_NM as a flip leaves it: a cluster that it no longer defines is unused, a newly defined one starts in WOKEN. -/
def State.clusterFlip (s : State) : State :=
  (List.range 32).foldl (fun (s : State) n =>
    if s.nmDefined n then (if s.clState n = clUNUSED then (s.clPut n clWOKEN).clTimer n else s)
    else if s.clState n = clUNUSED then s else s.clPut n clUNUSED) s

/-! ### Applying a Last other than by a flip -/

/-- The PLCA standing of T1S port p under new port modes (R230). -/
def State.plcaApply (s : State) (p : Nat) : State :=
  let on := s.plcaEn p && s.plcaOk p
  let coord := on && s.pm 0 p 19 1 0 8 == 0
  let s := s.put Reg.T1S_STAT_PLCA_CFG_ERR (b2n (s.plcaEn p && !s.plcaOk p)) (p - 24)
  let s := s.put Reg.T1S_STAT_COORD (b2n coord) (p - 24)
  if coord then s.put Reg.T1S_STAT_PLCA_ACTIVE (b2n (s.get Reg.T1S_STAT_STATE (p - 24) == 0)) (p - 24)
  else if on then s else s.put Reg.T1S_STAT_PLCA_ACTIVE 0 (p - 24)

/-- The punt bucket is full. -/
def State.puntFull (s : State) : State :=
  let t := s.now
  s.clrSet (fun c => { c with tokens := s.puntBurst * puntUnit, puntLast := t })

/-- The number by which the two PORT_CFG sections are told apart: the port modes are 0x108, the policy 8. -/
def Section.kind (x : Section) : Nat := if x.type = 8 && !x.live then 0x108 else x.type

/-- The sections given by their kinds are applied (R16), each block starting as its rules say: meters and counters (R113, R117),
schedulers (R182), lists (R199), the policy and the punt bucket (R100, R153), port modes (R211, R230), the channels, the
clusters (R369) and the bindings (R277). -/
def State.applyTypes (s : State) (has : Nat → Bool) : State :=
  let t := s.now
  let s := s.lstSet (fun l => { l with appliedAt := t })
  let s := if has 4 then s.clrSet (fun c => { c with fcFrames := [], fcBytes := [] }) else s
  let s := if has 5 then s.metersStart else s
  let s := if has 6 then { s with sch := .init } else s
  let s := if has 7 then (List.range 32).foldl (fun s p => if s.pagePowered (0x0A8 + p) then s.laceApply p else s) s else s
  let s := if has 8 then s.policyCheck.puntFull else s
  let s := if has 0x108 then
      (List.range 32).foldl (fun s p =>
        let s := if s.pagePowered (0x0D0 + p) && s.portCfgErr p then s.raise Reg.MAC_IRQ_CFG_ERR p else s
        let s := if s.txPause p then s else s.macSet p { s.mac p with xoff := false }
        if isTP p && s.pagePowered (0x0D0 + p) then s.plcaApply p else s) s
    else s
  let s := if has 0xA || has 0xB then
      s.awlSet (fun a => { a with canOld := [], linOld := [], lin := a.lin.map (fun x => (x.1, { x.2 with pub := [] })) })
    else s
  let s := if has 0xD then s.clusterSetup.pinRequests.clUpdateAll else s
  let s := if has 0xA || has 0xB || has 0xC || has 0xD then s.channelSync else s
  let s := if has 0x10 then s.cryptoApply else s
  let s := if has 0x11 then s.clocksApply else s
  s.budget

/-- The whole Last is applied: LOADED, its build identifier, and what `has` names as not applied before. -/
def State.lastApply (s : State) (has : Nat → Bool) : State :=
  let big := (s.lst.secs.filter (fun x => x.prio)).foldl (fun a x => a + x.pages) 0
  let s := s.lstSet (fun l => { l with prio := false, applying := false, purged := false, apart := none })
  let s := (s.put Reg.LST_STAT_LOADED 1).put Reg.LST_STAT_STATE 0
  let s := s.put Reg.LST_STAT_PRIO_LARGE (b2n (4096 < big))
  let s := s.put Reg.LST_BUILD_LO_ID_LO (leNat ((List.range 4).map (fun k => s.lst.byte (s.lst.phys 0 * 256 + 20 + k))))
  let s := s.put Reg.LST_BUILD_HI_ID_HI (leNat ((List.range 4).map (fun k => s.lst.byte (s.lst.phys 0 * 256 + 24 + k))))
  ((s.applyTypes has).portSyncAll).usesNow.domSync.checkStartup

/-- The priority sections are applied (R386 step 4). -/
def State.prioApply (s : State) : State :=
  let s := s.lstSet (fun l => { l with prio := true })
  let ts := (s.lst.secs.filter (fun x => x.prio)).map Section.kind
  (s.applyTypes (fun t => ts.contains t)).portSyncAll.usesNow.domSync

/-! ### A flip -/

/-- The section and its page in which a logical page lies. -/
def State.pageSection (s : State) (l : Nat) : Option (Nat × Nat) :=
  (s.lst.secs.find? (fun x => x.live && decide (x.first ≤ l) && decide (l < x.first + x.pages))).map (fun x => (x.type, l - x.first))

/-- The pages of a section type that the set staged in s changes, numbered within the section. -/
def State.flipPages (s : State) (type : Nat) : List Nat :=
  (s.lst.staged.filterMap (fun c => s.pageSection c.1)).filterMap (fun x => if x.1 = type then some x.2 else none)

/-- Meters of a changed page are clamped to their new bursts (R63). -/
def State.flipMeters (old s : State) : State :=
  ((old.flipPages 5).flatMap (fun k => (List.range 8).map (fun i => 8 * k + i))).foldl (fun (s : State) m =>
    let x := old.meter m
    let c := s.meterCfg false m
    s.meterSet m { x with tc := min x.tc (c.cbs * 65536), tp := min x.tp (c.pbs * 65536) }) s

/-- Clamp a bucket to a burst. -/
def Bucket.clamp (b : Bucket) (burst : Nat) : Bucket := ⟨min b.level (units burst), b.last⟩

/-- SCHED at a flip (R170, R180, R182): levels at the flip clamped to the new bursts, a service switched between its methods,
and ownership changes, which wait until their queue or subscriber is empty. -/
def State.flipSched (old s : State) : State :=
  let ks := old.flipPages 6
  let subs := (ks.filter (fun k => decide (116 ≤ k) && decide (k < 372))).flatMap (fun k => (List.range 8).map (fun i => 8 * (k - 116) + i))
  let queues := (ks.filter (fun k => decide (372 ≤ k))).flatMap (fun k => (List.range 32).map (fun i => 32 * (k - 372) + i))
  let ports := (ks.filter (fun k => decide (111 ≤ k) && decide (k < 116))).flatMap (fun k => (List.range 8).map (fun i => 8 * (k - 111) + i))
  let svcs := (ks.filter (fun k => decide (74 ≤ k) && decide (k < 111))).flatMap (fun k => (List.range 8).map (fun v => 8 * (k - 74) + v))
  let t := s.now
  let s := subs.foldl (fun (s : State) u =>
    let x := old.subNow u
    let c := s.subCfg u
    s.subSet u { x with c := x.c.clamp c.cbs, p := x.p.clamp c.pbs }) s
  let s := (ports.filter (fun p => decide (p < 37))).foldl (fun (s : State) p =>
    s.portBucketSet p ((old.portBucket p).clamp (s.portBurst p))) s
  let s := svcs.foldl (fun (s : State) i =>
    let was := old.svcCB (i / 8) (i % 8)
    let is := s.svcCB (i / 8) (i % 8)
    if is && !was then s.schSet (fun h => { h with credits := AMap.ins h.credits i ⟨0, t⟩ })
    else if was && !is then
      (s.sch.subs.filter (fun x => old.subPlace x.1 == some i)).foldl (fun (s : State) x =>
        let c := s.subCfg x.1
        s.subSet x.1 { s.sub_ x.1 with c := ⟨units c.cbs, t⟩, p := ⟨units c.pbs, t⟩ }) s
    else s) s
  let s := queues.foldl (fun (s : State) q => s.queueSettle q (old.queueSub q)) s
  let punt := [old.queueSub (old.puntQ 32), s.queueSub (s.puntQ 32)].filterMap id
  let punt := if s.hasSec 6 && !ks.isEmpty then punt else []
  sortedNub (subs ++ punt) |>.foldl (fun (s : State) u => s.subSettle u (old.subPlace u)) s

/-- A flip changes a page of the header or the entries of port p's list; four ports share a header page (R191, R197). -/
def listChanged (ks : List Nat) (p : Nat) : Bool := ks.contains (p / 4) || (List.range 32).any (fun i => ks.contains (8 + 32 * p + i))

/-- LACE at a flip: the lists of the ports that it changes are checked and await their swap (R197–R199). -/
def State.flipLace (old s : State) : State :=
  let ks := old.flipPages 7
  (List.range 32).foldl (fun (s : State) p =>
    if listChanged ks p && s.pagePowered (0x0A8 + p) && !s.pageHeld (0x0A8 + p) then s.laceFlip p else s) s

/-- The forwarding policy at a flip (R100, R153). -/
def State.flipPolicy (old s : State) : State :=
  if (old.flipPages 8).isEmpty then s
  else
    let t := s.now
    let bars := (List.range 296).filter (fun i => decide (s.minOf i < s.pool (.min i)))
    let s := s.soleSet (fun x => { x with barred := bars })
    let have_ := min (old.puntBurst * puntUnit) (old.clr.tokens + old.puntRate * (t - old.clr.puntLast))
    let s := s.clrSet (fun c => { c with tokens := min have_ (s.puntBurst * puntUnit), puntLast := t })
    s.policyCheck

/-- CAN_SCHED and LIN_SCHED at a flip: a channel whose cycle runs keeps its entries until the next one (R62), and any other until
its frame in progress ends (R242). -/
def State.flipChannels (old s : State) : State :=
  let cs := sortedNub ((old.flipPages 0xA).flatMap (fun k => if k < 8 then (List.range 8).map (fun i => 8 * k + i) else [(k - 8) / 8]))
  let ls := sortedNub ((old.flipPages 0xB).flatMap (fun k =>
    if k = 0 then List.range 16 else if k < 5 then (List.range 4).map (fun i => 4 * (k - 1) + i) else [(k - 5) / 16]))
  let s := cs.foldl (fun (s : State) c =>
    let s := s.awlSet (fun a => { a with canOld := AMap.ins a.canOld c (old.canSchedBytes c) })
    if s.canCycles c then s else s.canDue c) s
  (ls.filter (fun l => old.linRuns l && old.linCommander l)).foldl (fun (s : State) l =>
    s.awlSet (fun a => { a with linOld := AMap.ins a.linOld l (old.linSchedBytes l) })) s

/-- What a flip from the state `old` changes in the blocks; every open stream is sent under its own epoch (R254). -/
def State.flipBlocks (old s : State) : State :=
  let s := old.flipMeters s
  let s := old.flipSched s
  let s := old.flipPolicy s
  let s := old.flipChannels s
  let s := if (old.flipPages 0xD).isEmpty then s else s.clusterFlip.pinRequests.clUpdateAll
  let s := if (old.flipPages 0x10).isEmpty then s else s.cryptoApply
  let s := (s.awl.streams.map (fun x => x.1)).foldl (fun s k => s.streamSend k) s
  let s := old.flipLace s
  s.channelSync.usesNow.domSync

end Sys2Proof.Machine
end

