-- ==== Sys2Proof/Machine/Manifest.lean ====
section
/-! DEFINITION. The manifest of a slot (R381, R382) and the Last of a slot. -/
namespace Sys2Proof.Machine

/-- A manifest entry. -/
structure ManEntry where
  type : Nat
  version : Nat
  offset : Nat
  length : Nat
  hash : List Byte
deriving DecidableEq, Repr

/-- The manifest of slot k: its first 4 KiB. -/
def Upd.manifest (u : Upd) (k : Nat) : List Byte := u.bytes (slotBase k) 4096

/-- Entry i of a manifest. -/
def manEntry (m : List Byte) (i : Nat) : ManEntry :=
  let e := sub m (96 + 64 * i) 64
  ⟨leNat (sub e 0 2), leNat (sub e 4 4), leNat (sub e 8 4), leNat (sub e 12 4), sub e 16 32⟩

/-- The entries of a manifest, at most 6. -/
def manEntries (m : List Byte) : List ManEntry := (List.range (min 6 (leNat (sub m 12 1)))).map (manEntry m)

/-- The entry of a type. -/
def manPart (m : List Byte) (type : Nat) : Option ManEntry := (manEntries m).find? (fun e => e.type == type)

/-- The position of a type's entry, 0xFF where there is none. -/
def manIndex (m : List Byte) (type : Nat) : Nat := ((List.range 6).find? (fun i => ((manEntries m)[i]?).map (·.type) == some type)).getD 0xFF

/-- The Last of slot k, read from flash. -/
def Upd.lastImage (u : Upd) (k : Nat) : Option Image :=
  (manPart (u.manifest k) 5).map (fun e => fun a => u.byte (slotBase k + e.offset + a))

/-- The device runs, or waits for, an image that came without the flash (R399, R400). -/
def State.loadMode (s : State) : Bool :=
  s.upd.stage == .load || s.upd.source == 1 || s.upd.source == 2

/-- The active slot: the one that runs, and after a load mode the one that the boot record names. -/
def State.activeSlot (s : State) : Nat := if s.loadMode then s.upd.bootRec.active else s.upd.slot

end Sys2Proof.Machine
end

