-- ==== Sys2Proof/Machine/LastCmds.lean ====
section
/-! DEFINITION. The commands of the Last: change sets, commits, flips and drains (R50–R68), and the full reload
(R69, R70). -/
namespace Sys2Proof.Machine

def pgLST : Nat := 0x030

/-- States of LST_STAT. -/
def lsIDLE : Nat := 0
def lsOPEN : Nat := 1
def lsVALIDATING : Nat := 2
def lsPENDING : Nat := 3
def lsRELOADING : Nat := 4
def lsHOST_LOAD : Nat := 5
def lsUNLOADED : Nat := 6

def State.lsState (s : State) : Nat := s.get Reg.LST_STAT_STATE
def State.lsPut (s : State) (st : Nat) : State := s.put Reg.LST_STAT_STATE st

/-- A change set is open or pending. -/
def State.setHeld (s : State) : Bool := s.lsState == lsOPEN || s.lsState == lsVALIDATING || s.lsState == lsPENDING

/-! ### Change sets (R51–R55, R58) -/

/-- Open a change set (R55). -/
def State.csOpen (s : State) (m : Master) : State :=
  if s.lsState = lsIDLE && s.flag Reg.LST_STAT_LOADED then (s.lsPut lsOPEN).put Reg.LST_STAT_NO_SPARE 0
  else s.err pgLST 0x090 ecSTATE m

/-- Discard the open or pending set (R58); a pending commit is refused, also by a reload (the model's choice, assumption
log 74). -/
def State.setDrop (s : State) : State :=
  let was := s.flag Reg.LST_STAT_PENDING
  let s := (s.lstSet Lst.dropSet).lsPut lsIDLE
  let s := (s.put Reg.LST_STAT_PENDING 0).put Reg.LST_STAT_ERR 0x10
  if was then s.raise Reg.LST_IRQ_REFUSED else s

/-- A write of LST_CS_CTRL.ABORT. -/
def State.csAbort (s : State) (m : Master) : State := if s.setHeld then s.setDrop else s.err pgLST 0x090 ecSTATE m

/-- A write of LST_CS_CTRL: both bits act as ABORT, then OPEN. -/
def State.csCtrl (s : State) (m : Master) (open_ abort : Bool) : State :=
  let s := if abort then s.csAbort m else s
  if open_ then s.csOpen m else s

/-- CS_OPEN. -/
def csOpen (m : Master) (s : State) : State := s.direct m pgLST 0x090 (fun s => s.csCtrl m true false)

/-- CS_ABORT. -/
def csAbort (m : Master) (s : State) : State := s.direct m pgLST 0x090 (fun s => s.csCtrl m false true)

/-- A write of LST_CS_COUNT, LST_CS_CRC or LST_CS_BASE_GEN, which a pending set freezes. -/
def State.csReg (s : State) (m : Master) (f : Fld) (v : Nat) : State :=
  if s.lsState = lsVALIDATING || s.lsState = lsPENDING then s.err pgLST f.off ecSTATE m else s.put f v

/-! ### The staging window (R50–R54) -/

/-- Write bytes within logical page p into the open set: the first write of a page takes a free spare page and copies the
committed contents into it (R51). -/
def State.stagePage (s : State) (p o : Nat) (bs : List Byte) : Acc :=
  match AMap.find s.lst.staged p with
  | some x => (none, s.lstSet (fun l => l.setBytes (x * 256 + o) bs))
  | none =>
    match s.lst.alloc with
    | none => (some .staging, s.put Reg.LST_STAT_NO_SPARE 1)
    | some (x, l) =>
      let l := l.setBytes (x * 256) (s.lst.page (s.lst.phys p))
      let l := { l with staged := AMap.ins l.staged p x }
      (none, s.lstSet (fun _ => l.setBytes (x * 256 + o) bs))

/-- The sizes that the staging window takes (R295): 4 to 256 bytes, aligned to 4, within one page. -/
def stagingSize (off n : Nat) : Bool :=
  off % 4 == 0 && n % 4 == 0 && decide (4 ≤ n) && decide (off % 256 + n ≤ 256) && decide (off < 0x1000000)

/-- A write through the staging window at a window offset (R52–R54). -/
def State.stagingWrite (s : State) (m : Master) (off : Nat) (bs : List Byte) : Acc :=
  if s.heelStands then (some .timeout, s)
  else if !stagingSize off bs.length then (some .size, s)
  else if !s.pagePowered pgLST then (some .notPowered, s)
  else if s.pageHeld pgLST then (some .blockReset, s)
  else if s.ownedByOther m (pageGroup pgLST) then (some .ownership, s.ownErr m)
  else if s.flag Reg.PG_LOCK_LOCK pgLST && decide (m ≠ .firmware) then (some .staging, s.err pgLST (off % 4096) ecLOCKED m)
  else if off < 0xE00000 then
    let p := off / 256
    if s.lsState = lsHOST_LOAD then (none, s.lstSet (fun l => l.setBytes off bs))
    else if s.lsState = lsOPEN && s.livePage p then s.stagePage p (off % 256) bs
    else (some .staging, s)
  else if off < 0xE10000 && s.lsState = lsOPEN then
    let set := bs.zipIdx.foldl (fun (l : AMap Byte) c => AMap.set zeroByte l (off - 0xE00000 + c.2) c.1) s.lst.list
    (none, s.lstSet (fun l => { l with list := set }))
  else (some .staging, s)

/-- The report of a staging write as a command of its own: from the host in the posted-error log, over the sideband in the
response status. -/
def State.stagingReport (s : State) (m : Master) (off : Nat) (bs : List Byte) : State :=
  match s.stagingWrite m off bs with
  | (none, t) => t
  | (some e, t) =>
    match m with
    | .host => t.perr ⟨0x1000000 + off, 0xF, bs, t.get Reg.WLT_WR_SEQ_SEQ, t.confirmed (0x1000000 + off)⟩ e.code
    | .sideband => { t with sbResp := ⟨e.status, 0, []⟩ }
    | .firmware => t

/-- A staging write as a command of its own: the host's is numbered (R302), and the sideband's needs a target that is present. -/
def State.stagingAnswer (s : State) (m : Master) (off : Nat) (bs : List Byte) : State :=
  match m with
  | .host => s.numbered.stagingReport .host off bs
  | .sideband => if s.sbOn then s.stagingReport .sideband off bs else s
  | .firmware => s.stagingReport .firmware off bs

/-- STAGING_WRITE: bytes to a logical page, or to another part of the window. -/
def stagingWrite (m : Master) (off : Nat) (bs : List Byte) (s : State) : State := s.stagingAnswer m off bs

/-- CHANGE_SET_LIST_WRITE: bytes to the list region. -/
def changeSetListWrite (m : Master) (off : Nat) (bs : List Byte) (s : State) : State := s.stagingAnswer m (0xE00000 + off) bs

/-- A byte that the window returns (R50); its reserved part reads 0 (the model's choice, assumption log 75). -/
def State.stagingByte (s : State) (off : Nat) : Byte :=
  if off < 0xE00000 then
    let p := off / 256
    let x := match AMap.find s.lst.staged p with
      | some x => x
      | none => s.lst.phys p
    s.lst.byte (x * 256 + off % 256)
  else if off < 0xE10000 && s.setHeld then AMap.get zeroByte s.lst.list (off - 0xE00000)
  else 0

/-! ### The commit (R56–R60) -/

/-- A write of LST_COMMIT.GO (R56 step 1, R60). -/
def State.commitGo (s : State) (m : Master) : State :=
  if s.lsState = lsOPEN then (s.lsPut lsVALIDATING).put Reg.LST_STAT_PENDING 1 else s.err pgLST 0x0A0 ecSTATE m

/-- COMMIT_GO. -/
def commitGo (m : Master) (s : State) : State := s.direct m pgLST 0x0A0 (fun s => s.commitGo m)

/-- Bytes of the change-set list. -/
def Lst.listBytes (l : Lst) (o n : Nat) : List Byte := (List.range n).map (fun k => AMap.get zeroByte l.list (o + k))

/-- The list's entries: logical page and expected CRC. -/
def Lst.entries (l : Lst) (n : Nat) : List (Nat × Nat) :=
  (List.range n).map (fun i => (leNat (l.listBytes (8 * i) 2), leNat (l.listBytes (8 * i + 4) 4)))

/-- No page is named twice. -/
def pagesOnce : List Nat → Bool
  | [] => true
  | p :: r => !r.contains p && pagesOnce r

/-- The checks of R57, in order: the first that fails, with the logical page of PAGE_CRC, the first in list order that fails
(the model's choice, assumption log 73). -/
def State.commitCheck (s : State) : Option (Nat × Nat) :=
  let n := s.get Reg.LST_CS_COUNT_COUNT
  let es := s.lst.entries n
  let ps := es.map (fun e => e.1)
  if s.flag Reg.LST_STAT_NO_SPARE then some (1, 0)
  else if s.get Reg.LST_CS_BASE_GEN_BASE != s.get Reg.LST_GEN_GEN then some (2, 0)
  else if n = 0 || 8192 < n then some (3, 0)
  else if s.get Reg.LST_CS_CRC_CRC != crc32cStd (s.lst.listBytes 0 (8 * n)) then some (4, 0)
  else if !pagesOnce ps || ps.any (fun p => (AMap.find s.lst.staged p).isNone) || s.lst.staged.any (fun c => !ps.contains c.1) then
    some (5, 0)
  else if ps.any (fun p => !s.livePage p) then some (6, 0)
  else
    (es.find? (fun e =>
      match AMap.find s.lst.staged e.1 with
      | some x => crc32cStd (s.lst.page x) != e.2
      | none => true)).map (fun e => (7, e.1))

/-- COMMIT_REFUSED: the set stays open and writable (R58). -/
def State.commitRefused (s : State) (code page : Nat) : State :=
  let s := ((s.lsPut lsOPEN).put Reg.LST_STAT_PENDING 0).put Reg.LST_STAT_ERR code
  let s := if code = 7 then s.put Reg.LST_ERR_PAGE_LPAGE page else s
  s.raise Reg.LST_IRQ_REFUSED

/-- COMMIT_VALIDATED: the checks end. -/
def commitValidated (s : State) : State :=
  if s.lsState != lsVALIDATING then s
  else
    match s.commitCheck with
    | some e => s.commitRefused e.1 e.2
    | none => s.lsPut lsPENDING

/-- The mapping takes every staged page; the pages replaced are held (R56 step 4). -/
def Lst.flip (l : Lst) : Lst :=
  let held := l.staged.map (fun c => (c.1, l.phys c.1))
  let ind := l.staged.foldl (fun (m : AMap Nat) c => AMap.set samePage m c.1 c.2) l.ind
  { l with ind := ind, held := held, staged := [], list := [], purged := false }

/-- FLIP (R56 steps 4 and 5, R61–R63). -/
def flip (s : State) : State :=
  if s.lsState != lsPENDING || s.flag Reg.LST_STAT_DRAINING then s
  else
    let old := (List.range 37).foldl State.creditSync s
    let t := old.now
    let cur := old.get Reg.LST_EPOCH_CUR
    let s := old.lstSet (fun l => { l.flip with flipAt := t })
    let s := (s.put Reg.LST_EPOCH_PREV cur).put Reg.LST_EPOCH_CUR (cur + 1)
    let s := ((s.lsPut lsIDLE).put Reg.LST_STAT_PENDING 0).put Reg.LST_STAT_DRAINING 1
    let s := (s.incWrap Reg.LST_GEN_GEN).put Reg.LST_FLIP_TIME_NS s.time32
    let s := (s.put Reg.LST_STAT_LIVE 1).raise Reg.LST_IRQ_FLIPPED
    old.flipBlocks s

/-! ### Epochs and drain (R64–R67) -/

/-- Something in the device carries the epoch: a frame that has been stamped, a copy, or a message of the Awl. -/
def State.epochLive (s : State) (ep : Nat) : Bool :=
  s.clr.frames.any (fun f => f.epoch == ep && f.lost.isNone && !(decide (f.port < 33) && f.stage == .waiting)) ||
  s.clr.copies.any (fun c => c.epoch == ep) || s.awlEpochLive ep

/-- EPOCH_DRAIN_END: the previous epoch has drained. -/
def epochDrainEnd (s : State) : State :=
  if !s.flag Reg.LST_STAT_DRAINING || s.epochLive (s.get Reg.LST_EPOCH_PREV) then s
  else
    let s := s.lstSet (fun l => { l.dropHeld with purged := false })
    (s.put Reg.LST_STAT_DRAINING 0).raise Reg.LST_IRQ_DRAINED

/-- Count n frames as EPOCH_DRAINED. -/
def State.drained (s : State) (n : Nat) : State := s.inc Reg.LST_DRAINED_COUNT n

/-- The purge of an epoch from the Awl: frames and messages queued or buffered; what a publish buffer holds after its frame
has been discarded is not stated (assumption log 3). -/
def State.purgeAwl (s : State) (ep : Nat) : State :=
  let count := fun {α : Type} (xs : List α) (p : α → Bool) => (xs.filter p).length
  let a := s.awl
  let nAp := a.ap.foldl (fun n q => n + count q.2 (fun f => f.epoch == ep)) 0
  let nSt := a.streams.foldl (fun n x => n + count x.2.msgs (fun m => m.epoch == ep)) 0
  let head := fun (x : Can) => if x.sending = .buffer then 1 else 0
  let nCan := a.can.foldl (fun n x => n + count (x.2.tx.drop (head x.2)) (fun m => m.epoch == ep) +
                                      count x.2.slots (fun m => m.2.epoch == ep)) 0
  let nLin := a.lin.foldl (fun n x => n + count x.2.pub (fun p => p.2.epoch == some ep)) 0
  let d := s.freeCtr
  let s := { s with freeCtr := d + 1 }
  let s := s.awlSet (fun a =>
    { a with
      ap := a.ap.map (fun q => (q.1, q.2.filter (fun f => f.epoch != ep)))
      streams := a.streams.map (fun x => (x.1, { x.2 with msgs := x.2.msgs.filter (fun m => m.epoch != ep) }))
      can := a.can.map (fun x => (x.1, { x.2 with tx := x.2.tx.take (head x.2) ++ (x.2.tx.drop (head x.2)).filter (fun m => m.epoch != ep)
                                                  slots := x.2.slots.filter (fun m => m.2.epoch != ep) }))
      lin := a.lin.map (fun x => (x.1, { x.2 with pub := x.2.pub.map (fun p =>
        if p.2.epoch = some ep then (p.1, ⟨(List.range 8).map (fun k => Config.freeByte d (512 * x.1 + 8 * p.1 + k)), none, false⟩) else p) })) })
  s.drained (nAp + nSt + nCan + nLin)

/-- DRAIN_LIMIT_EXPIRY, with DRAIN_PURGE: what of the previous epoch is queued or buffered is discarded; copies in
transmission complete (R65). -/
def drainLimitExpiry (s : State) : State :=
  if !s.flag Reg.LST_STAT_DRAINING || s.lst.purged then s
  else
    let ep := s.get Reg.LST_EPOCH_PREV
    let s := (s.lstSet (fun l => { l with purged := true })).raise Reg.LST_IRQ_DRAIN_LIMIT
    let s := (s.clr.copies.filter (fun c => c.epoch == ep && !c.begun)).foldl (fun s c => s.dropCopy c dkEpoch) s
    let inside := fun (f : Frame) => f.epoch == ep && f.stage != .out && f.lost.isNone && !(decide (f.port < 33) && f.stage == .waiting)
    let s := (s.clr.frames.filter inside).foldl (fun s f => ((s.drained 1).mirrorLost f.id).dropFrame f.id) s
    (s.purgeAwl ep).reap

/-! ### The full reload (R69, R70) -/

/-- Step 1 of a reload: the set is discarded, every port leaves service, and the buffers of the Awl are emptied.  LOADED reads 0, and
the port modes and the domains of the Last that leaves stay in effect (assumption log 95). -/
def State.reloadStart (s : State) (host : Bool) : State :=
  let s := if s.setHeld then s.setDrop else s
  let apart := if s.flag Reg.LST_STAT_LOADED then some (s.modeBytes 0 1280, s.ptpBytes) else s.lst.apart
  let s := (s.put Reg.LST_STAT_LOADED 0).lsPut (if host then lsHOST_LOAD else lsRELOADING)
  let s := s.lstSet (fun l => { l with fromHost := false, applying := false, apart := apart })
  let s := (List.range 32).foldl State.laceStop s
  let s := s.portSyncAll
  let s := (s.clr.frames.filter (fun f => f.stage != .out && f.lost.isNone)).foldl
    (fun s f => ((s.rxFlush f.port).spoil f.id 8).dropFrame f.id) s
  let s := s.awlSet (fun a =>
    { a with
      ap := [], canOld := [], linOld := []
      streams := a.streams.map (fun x => (x.1, { x.2 with msgs := [] }))
      can := a.can.map (fun x => (x.1, { x.2 with tx := [], slots := [], windows := [], ka := none }))
      lin := a.lin.map (fun x => (x.1, { x.2 with pub := [] })) })
  let s := (List.range 64).foldl State.canSync s
  let s := (List.range 16).foldl State.linSync s
  if host then
    let d := s.freeCtr
    let s := { s with freeCtr := d + 1 }
    (s.lstSet (fun l => { l.identity with undef := some d, written := [], purged := false })).put Reg.LST_STAT_DRAINING 0
  else s

/-- The boot engine is at work. -/
def State.booting (s : State) : Bool := s.upd.stage != .load && s.upd.stage != .done

/-- A write of LST_RELOAD: GO where the host load waits for it; a request while a reload, or a boot, is in progress is
ignored. -/
def State.reloadWrite (s : State) (m : Master) (flash host go : Bool) : State :=
  let t := if go && s.lsState == lsHOST_LOAD then (s.lsPut lsRELOADING).lstSet (fun l => { l with fromHost := true }) else s
  if flash && host then t.err pgLST 0x0A8 ecINVALID m
  else if flash || host then (if s.reloading || s.booting then t else t.reloadStart host)
  else t

/-- RELOAD_FLASH. -/
def reloadFlash (m : Master) (s : State) : State := s.direct m pgLST 0x0A8 (fun s => s.reloadWrite m true false false)

/-- RELOAD_HOST. -/
def reloadHost (m : Master) (s : State) : State := s.direct m pgLST 0x0A8 (fun s => s.reloadWrite m false true false)

/-- RELOAD_GO. -/
def reloadGo (m : Master) (s : State) : State := s.direct m pgLST 0x0A8 (fun s => s.reloadWrite m false false true)

/-- HOST_LOAD_TIMEOUT: 1 s without GO; the device goes on as for FLASH. -/
def hostLoadTimeout (s : State) : State := if s.lsState = lsHOST_LOAD then s.lsPut lsRELOADING else s

/-- An image is in Last memory under the identity mapping: its section table (R46). -/
def State.imageTable (s : State) (img : Image) : State :=
  s.lstSet (fun l => { l.identity with secs := imgSections img, length := imgLE img 8 4 })

/-- Write an image from flash into Last memory; the bytes beyond its LENGTH keep what they hold. -/
def State.imageStore (s : State) (img : Image) : State :=
  s.lstSet (fun l => { { l with undef := none, written := [] }.setBytes 0 (imgBytes img 0 (imgLE img 8 4)) with purged := false })

/-- RELOAD_FAIL for want of a flash image (R70). -/
def State.lastLost (s : State) : State :=
  let s := (((s.lsPut lsUNLOADED).put Reg.LST_STAT_LOADED 0).put Reg.LST_STAT_ERR 0x12).lstSet (fun l => { l with apart := none })
  let s := ((List.range 32).foldl State.laceStop s).clocksApply
  (s.raise Reg.LST_IRQ_RELOAD_FAIL).fault pgLST 0x0E01

/-- RELOAD_IMAGE_READ_DONE: the image of the reload in progress has been read or written; readOk: the flash answered. -/
def reloadImageReadDone (readOk : Bool) (s : State) : State :=
  if s.lsState != lsRELOADING || s.lst.applying then s
  else if s.lst.fromHost then
    let img : Image := s.lst.byte
    if imageOk img then (s.imageTable img).lstSet (fun l => { l with applying := true })
    else
      let s := (s.put Reg.LST_STAT_ERR 0x11).raise Reg.LST_IRQ_RELOAD_FAIL
      s.lstSet (fun l => { l with fromHost := false })
  else
    match s.upd.lastImage s.activeSlot with
    | some img =>
      if readOk && imageOk img then ((s.imageStore img).imageTable img).lstSet (fun l => { l with applying := true }) else s.lastLost
    | none => s.lastLost

/-- Ports whose mode or FEC the new Last, as `new` holds it, changes lose link (R211, R214). -/
def State.modesChanged (new s : State) : State :=
  (List.range 32).foldl (fun (s : State) p =>
    if !s.flag Reg.MAC_LINK_UP p || (s.mac p).mode == new.portMode p + 16 * new.portFec p then s
    else s.linkLost p) s

/-- RELOAD_DONE: the Last is applied and the ports return to service (R69 step 4). -/
def reloadDone (s : State) : State :=
  if s.lsState != lsRELOADING || !s.lst.applying then s
  else
    let host := s.lst.fromHost
    let modes := (s.put Reg.LST_STAT_LOADED 1).lstSet (fun l => { l with apart := none })
    let s := (s.incWrap Reg.LST_GEN_GEN).incWrap Reg.LST_EPOCH_CUR
    let s := (s.put Reg.LST_STAT_DRAINING 0).put Reg.LST_STAT_LIVE (b2n host)
    let s := modes.modesChanged s
    (s.lastApply (fun _ => true)).raise Reg.LST_IRQ_RELOAD_DONE

end Sys2Proof.Machine
end

