-- ==== Sys2Proof/Machine/Clocks.lean ====
section
/-! DEFINITION. The clock sources (R337–R350): qualification, monitors and failures, failover and dwell, and trimming. -/
namespace Sys2Proof.Machine

def pgCGU : Nat := 0x008

/-- States of a source in CGU_STAT. -/
def ckOFF : Nat := 0
def ckQUALIFYING : Nat := 1
def ckGOOD : Nat := 2
def ckFAILED : Nat := 3

def State.lrc (s : State) : Nat := s.get Reg.CGU_STAT_LRC
def State.hrc (s : State) : Nat := s.get Reg.CGU_STAT_HRC
def State.xtal (s : State) : Nat := s.get Reg.CGU_STAT_XTAL
def State.sdsref (s : State) : Nat := s.get Reg.CGU_STAT_SDSREF

/-- CLOCK_HOLD (R339): every switched domain is held in reset until a POR or PIN reset. -/
def State.clockHold (s : State) : State :=
  let s := s.put Reg.SBP_ALERT_STAT_CLOCK_HOLD 1
  let s := s.flashAbort.pwrSet (fun w => { w with rising := 0 })
  let s := (s.domainsDown (2 ^ 19 - 2)).put Reg.WAK_STAT_DESCENT 0
  let ran := s.upd.slot
  s.updSet (fun u => { u with stage := .due, ran := ran, fell := false, kept := false, image := [], next := 0, trialAt := none })

/-- A dwell begins where the loads are on HRC, XTAL is GOOD and AUTO_RETURN is 1 (R342). -/
def State.dwellStart (s : State) : State :=
  if s.flag Reg.CGU_STAT_LOADS && s.xtal == ckGOOD && s.flag Reg.CGU_CTRL_AUTO_RETURN then s.put Reg.CGU_STAT_DWELL 1 else s

/-! ### Qualification (R338) -/

/-- The device is in CLOCK_HOLD: no step of R338 is taken until a POR or a PIN reset (R339). -/
def State.holding (s : State) : Bool := s.flag Reg.SBP_ALERT_STAT_CLOCK_HOLD

/-- The accepted counts of R337. -/
def hrcInWindow (count : Nat) : Bool := decide (23750 ≤ count) && decide (count ≤ 26250)
def xtalInWindow (count : Nat) : Bool := decide (2450 ≤ count) && decide (count ≤ 2550)
def sdsrefInWindow (count : Nat) : Bool := decide (156094 ≤ count) && decide (count ≤ 156406)

/-- LRC_COUNT_DONE: the LRC has counted 64 cycles and is GOOD; after a POR the HRC starts. -/
def lrcCountDone (s : State) : State :=
  if s.lrc != ckQUALIFYING then s
  else
    let s := s.put Reg.CGU_STAT_LRC ckGOOD
    if s.hrc = ckOFF && s.awake && !s.holding then s.put Reg.CGU_STAT_HRC ckQUALIFYING else s

/-- LRC_COUNT_TIMEOUT: 2 ms after the release of POR without the count. -/
def lrcCountTimeout (s : State) : State := if s.lrc = ckQUALIFYING && s.hrc == ckOFF && s.awake then s.clockHold else s

/-- HRC_QUALIFY_DONE: the qualification of HRC ends, whether it counted its 1,024 cycles and how many cycles it made in 32 cycles
of LRC, which must itself be GOOD (R337).  A requalification that fails leaves it FAILED. -/
def hrcQualifyDone (counted : Bool) (cycles : Nat) (s : State) : State :=
  if s.hrc != ckQUALIFYING || s.holding || s.lrc != ckGOOD then s
  else if counted && hrcInWindow cycles then
    let s := s.put Reg.CGU_STAT_HRC ckGOOD
    let s := if s.xtal = ckOFF then
        let s := (s.put Reg.CGU_STAT_XTAL ckQUALIFYING).xtalAmp
        { s with cgu := { s.cgu with starting := true } }
      else s
    s.domSync
  else if s.flag Reg.CGU_STAT_SYSREF then s.put Reg.CGU_STAT_HRC ckFAILED
  else s.clockHold

/-- The time-base and CAN PLLs have their reference: CAN and LIN begin to run (R338 step 5). -/
def State.pllStarts (s : State) (ran : Bool) : State := if ran then s else s.channelSync

/-- XTAL_QUALIFY_DONE: XTAL has counted its 65,536 cycles and made so many in 10,000 cycles of HRC: it is GOOD, and where its
loads wait on HRC the dwell begins.  Out of the window its qualification continues. -/
def xtalQualifyDone (cycles : Nat) (s : State) : State :=
  if (s.xtal != ckQUALIFYING && s.xtal != ckFAILED) || s.hrc != ckGOOD || s.holding || !xtalInWindow cycles then s
  else
    let ran := s.pllRuns
    let s := s.put Reg.CGU_STAT_XTAL ckGOOD
    let s := { s with cgu := { s.cgu with starting := false } }
    let s := if s.sdsref = ckOFF then s.put Reg.CGU_STAT_SDSREF ckQUALIFYING else s
    (s.pllStarts ran).dwellStart

/-- SDSREF_QUALIFY_DONE: SDS_REFCLK made so many cycles in 25,000 cycles of XTAL; the lanes and the Toecap clock start. -/
def sdsrefQualifyDone (cycles : Nat) (s : State) : State :=
  if s.sdsref = ckQUALIFYING && s.xtal == ckGOOD && !s.holding && sdsrefInWindow cycles then s.put Reg.CGU_STAT_SDSREF ckGOOD else s

/-! ### Failures (R341–R344) -/

/-- XTAL_FAILOVER: the loads of XTAL switch to HRC ÷ 4 (R341). -/
def State.xtalFailover (s : State) : State :=
  let ran := s.pllRuns
  let s := ((s.put Reg.CGU_STAT_LOADS 1).inc Reg.CGU_STAT_FAILOVERS).pllStarts ran
  let s := (s.nmi 1).raise Reg.CGU_IRQ_XTAL_FAIL
  (s.fault pgCGU 0x0301).devCause Reg.DEV_CAUTIOUS_CLOCK true

/-- XTAL fails.  With the loads already on HRC there is no switch and no NMI; a dwell is interrupted (R341, R342).  While
the system PLL runs on it, the device enters CLOCK_HOLD (R343). -/
def State.xtalFail (s : State) : State :=
  if s.flag Reg.CGU_STAT_SYSREF then (((s.put Reg.CGU_STAT_XTAL ckFAILED).raise Reg.CGU_IRQ_XTAL_FAIL).fault pgCGU 0x0301).clockHold
  else if s.flag Reg.CGU_STAT_LOADS then
    let s := s.put Reg.CGU_STAT_XTAL ckFAILED
    let s := if s.flag Reg.CGU_STAT_DWELL then (s.put Reg.CGU_STAT_DWELL 0).inc Reg.CGU_STAT_FAILOVERS else s
    (s.raise Reg.CGU_IRQ_XTAL_FAIL).fault pgCGU 0x0301
  else s.xtalFailover.put Reg.CGU_STAT_XTAL ckFAILED

/-- HRC fails (R343). -/
def State.hrcFail (s : State) : State :=
  let s := ((s.put Reg.CGU_STAT_HRC ckFAILED).raise Reg.CGU_IRQ_HRC_FAIL).fault pgCGU 0x0302
  if s.xtal = ckGOOD && !s.flag Reg.CGU_STAT_LOADS then s.put Reg.CGU_STAT_SYSREF 1 else s.clockHold

/-- LRC fails (R343); in SLEEP its stop wakes the device, and after step 1 of a descent, which arms the stop detector, it aborts the
descent (R371–R373). -/
def State.lrcFail (s : State) : State :=
  let s := ((s.put Reg.CGU_STAT_LRC ckFAILED).raise Reg.CGU_IRQ_LRC_FAIL).fault pgCGU 0x0303
  if s.mode = mdSLEEP then s.deviceWakes wkCLOCK 0 else s.abortDescent wkCLOCK 0

/-- A lane loses both of its locks; each that it held is raised as lost. -/
def State.laneUnlocks (s : State) (p : Nat) : State :=
  let s := if s.flag Reg.SDS_STAT_CDR_LOCK 0 p then (s.put Reg.SDS_STAT_CDR_LOCK 0 p).raise Reg.SDS_IRQ_CDR_LOST p else s
  if s.flag Reg.SDS_STAT_PLL_LOCK 0 p then (s.put Reg.SDS_STAT_PLL_LOCK 0 p).raise Reg.SDS_IRQ_PLL_LOST p else s

/-- SDS_REFCLK fails (R344): ports 0–23 lose link, without 0x1B01, and Toecap's clock-glitch alarm trips. -/
def State.sdsrefFail (s : State) : State :=
  let s := ((s.put Reg.CGU_STAT_SDSREF ckFAILED).raise Reg.CGU_IRQ_SDSREF_FAIL).fault pgCGU 0x0304
  let s := (List.range 24).foldl (fun s p =>
    if s.pagePowered (0x0F0 + p) then (s.laneUnlocks p).linkLost p else s) s
  toecapAlarm 2 s

/-- XTAL_START_TIMEOUT: 20 ms after HRC is GOOD without XTAL (R338 step 7). -/
def xtalStartTimeout (s : State) : State :=
  if !s.cgu.starting || s.holding then s
  else
    let s := { s with cgu := { s.cgu with starting := false } }
    (s.put Reg.CGU_STAT_XTAL ckFAILED).xtalFailover

/-- MONITOR_WINDOW_END: what the windows of R337 have counted: cycles of XTAL, of HRC and of SDS_REFCLK (R340).  A comparison
counts only where both of its sources are GOOD.  Without a GOOD XTAL, HRC out against LRC is taken as HRC failed, and so ends in
CLOCK_HOLD (DESIGN CHOICE, assumption log 98). -/
def monitorWindowEnd (xtalCycles hrcCycles sdsCycles : Nat) (s : State) : State :=
  let x := !xtalInWindow xtalCycles && s.xtal == ckGOOD && s.hrc == ckGOOD
  let alone := s.xtal != ckGOOD
  let h := !hrcInWindow hrcCycles && s.hrc == ckGOOD && s.lrc == ckGOOD
  let d := !sdsrefInWindow sdsCycles && s.sdsref == ckGOOD && s.xtal == ckGOOD
  let s := if (x || alone) && h then s.hrcFail else if x then s.xtalFail else if h then s.lrcFail else s
  if d && s.sdsref == ckGOOD then s.sdsrefFail else s

/-- The state of a source. -/
def State.clock (s : State) (c : Clock) : Nat :=
  match c with
  | .lrc => s.lrc
  | .hrc => s.hrc
  | .xtal => s.xtal
  | .sdsref => s.sdsref

/-- The stop of a source is seen (R340): the clock that would replace it counts (R345), or no clock can replace it any more and the
stop ends in CLOCK_HOLD (R343), or, for LRC, the device is in SLEEP (R373). -/
def State.stopSeen (s : State) (c : Clock) : Bool :=
  match c with
  | .lrc => s.hrc == ckGOOD || s.mode == mdSLEEP
  | .hrc => s.xtal == ckGOOD || s.flag Reg.CGU_STAT_LOADS
  | .xtal => s.hrc == ckGOOD || s.flag Reg.CGU_STAT_SYSREF
  | .sdsref => true

/-- CLOCK_STOP_DETECT: a GOOD source has stopped (R340). -/
def clockStopDetect (c : Clock) (s : State) : State :=
  if s.clock c != ckGOOD || !s.stopSeen c then s
  else match c with
    | .lrc => s.lrcFail
    | .hrc => s.hrcFail
    | .xtal => s.xtalFail
    | .sdsref => s.sdsrefFail

/-- CLOCK_EDGES_RETURN: a FAILED source is requalified from its own-cycle count. -/
def clockEdgesReturn (c : Clock) (s : State) : State :=
  if s.clock c != ckFAILED then s
  else match c with
    | .lrc => s.put Reg.CGU_STAT_LRC ckQUALIFYING
    | .hrc => s.put Reg.CGU_STAT_HRC ckQUALIFYING
    | .xtal => s.put Reg.CGU_STAT_XTAL ckQUALIFYING
    | .sdsref => s.put Reg.CGU_STAT_SDSREF ckQUALIFYING

/-- DWELL_END: the loads return to XTAL (R342). -/
def dwellEnd (s : State) : State :=
  if !s.flag Reg.CGU_STAT_DWELL || s.xtal != ckGOOD || s.holding then s
  else
    let s := (s.put Reg.CGU_STAT_DWELL 0).put Reg.CGU_STAT_LOADS 0
    (s.raise Reg.CGU_IRQ_XTAL_BACK).devCause Reg.DEV_CAUTIOUS_CLOCK false

/-- A write of CGU_CTRL (R342). -/
def State.cguCtrl (s : State) (auto hold : Bool) : State :=
  let s := (s.put Reg.CGU_CTRL_AUTO_RETURN (b2n auto)).put Reg.CGU_CTRL_TRIM_HOLD (b2n hold)
  if auto then s.dwellStart else s.put Reg.CGU_STAT_DWELL 0

/-- AUTO_RETURN_WRITE. -/
def autoReturnWrite (m : Master) (on : Bool) (s : State) : State :=
  s.direct m pgCGU 0x084 (fun s => s.cguCtrl on (s.flag Reg.CGU_CTRL_TRIM_HOLD))

/-! ### Trimming (R346–R350) -/

/-- CAL_USER (R350). -/
def State.hrcUser (s : State) : Int := toSigned 10 (s.secLE 0xE 0 2 % 1024)
def State.lrcUser (s : State) : Int := toSigned 8 (s.secLE 0xE 2 1)
def State.xcapUser (s : State) : Int := toSigned 6 (s.secLE 0xE 3 1 % 64)
def State.fbIdx (s : State) : Nat := s.secLE 0xE 5 1
def State.fbSrc (s : State) : Nat :=
  let v := s.secLE 0xE 4 1 % 4
  let i := s.fbIdx
  if v = 1 && i < 64 then 1 else if v = 2 && 24 ≤ i && i < 32 then 2 else 0
def State.beaconNs (s : State) : Nat := s.secLE 0xE 8 4

/-- round(error / 50 ppm): the nearest, ties away from zero. -/
def roundDiv (x : Int) (n : Nat) : Int := if 0 ≤ x then (2 * x + n) / (2 * n) else -((2 * -x + n) / (2 * n))

/-- An effective code: FACTORY + USER + AUTO within SPAN of FACTORY (R350). -/
def State.effective (s : State) (factory span : Fld) (x : Int) : Nat :=
  let f : Int := s.get factory
  let n : Int := s.get span
  (clampInt (f - n) (f + n) (f + x)).toNat

/-- AUTO moved by d steps: a move away from FACTORY stops where FACTORY + USER + AUTO reaches the clamp; true where it would
go beyond. -/
def State.autoMove (s : State) (span : Fld) (user auto d : Int) : Int × Bool :=
  let n : Int := s.get span
  let want := user + auto + d
  if 0 < d && n < want then (max auto (n - user), true)
  else if d < 0 && want < -n then (min auto (-n - user), true)
  else (auto + d, false)

/-- A trim window of HRC ends with an error in ppm: AUTO moves by d steps, at most `most` of them, and the codes take effect. -/
def State.hrcTrim (s : State) (err d : Int) (most : Nat) (ref : Nat) : State :=
  let s := (s.put Reg.CGU_HRC_ERR_PPM (ofSigned 16 err)).put Reg.CGU_HRC_ERR_REF ref
  let d := if s.flag Reg.CGU_CTRL_TRIM_HOLD then 0 else clampInt (-most) most d
  let r := s.autoMove Reg.CGU_SPAN_HRC s.hrcUser s.cgu.auto d
  let moved := r.1 != s.cgu.auto
  let s := if r.2 then s.raise Reg.CGU_IRQ_TRIM_LIMIT else s
  let s := { s with cgu := { s.cgu with auto := r.1 } }
  let s := if moved then s.inc Reg.CGU_TRIM_UPDATES_COUNT else s
  let s := s.put Reg.CGU_XCAP_EFFECTIVE (s.effective Reg.CGU_XCAP_FACTORY Reg.CGU_SPAN_XCAP s.xcapUser)
  s.put Reg.CGU_HRC_EFFECTIVE (s.effective Reg.CGU_HRC_FACTORY Reg.CGU_SPAN_HRC (s.hrcUser + s.cgu.auto))

/-- HRC_TRIM_WINDOW: in 25,000 cycles of XTAL the HRC has made so many; 100,000 are expected, and each above is +10 ppm (R346). -/
def hrcTrimWindow (cycles : Nat) (s : State) : State :=
  let err : Int := 10 * ((cycles : Int) - 100000)
  if s.xtal != ckGOOD || s.flag Reg.CGU_STAT_LOADS || s.hrc != ckGOOD then s else s.hrcTrim err (-roundDiv err 50) 4 0

/-- A fall-back window ends with so many samples, whose sum was measured and expected as given (R347, R348): its error is
measured / expected − 1, of which 20,000 make a step of 50 ppm. -/
def State.fallbackTrim (s : State) (ref samples measured expected : Nat) (may : Bool) : State :=
  let s := s.put Reg.CGU_HRC_ERR_SAMPLES (min 255 samples)
  let excess : Int := (measured : Int) - expected
  if 16 ≤ samples && may then s.hrcTrim (roundDiv (excess * 1000000) expected) (-roundDiv (excess * 20000) expected) 20 ref
  else (s.inc Reg.CGU_TRIM_STARVED_COUNT).raise Reg.CGU_IRQ_TRIM_STARVED

/-- The nominal bit time of channel c in protocol-clock cycles (R238). -/
def State.nominalBit (s : State) (c : Nat) : Nat :=
  let t := s.canHdr c 0 4
  (bits t 0 8 + 1) * (3 + bits t 8 8 + bits t 16 7)

/-- The bits that a spacing of edges stands for: the nearest whole number from 1 to 10, no more than a quarter of a bit away. -/
def gapBits (bit gap : Nat) : Option Nat :=
  let k := (2 * gap + bit) / (2 * bit)
  if 1 ≤ k && k ≤ 10 && 4 * (gap - k * bit) ≤ bit && 4 * (k * bit - gap) ≤ bit then some k else none

/-- CAN_TRIM_WINDOW: a 1 s window against a CAN channel ends, in which the channel has carried these frames (R347): those
received without error are the samples, and their spacings that are near whole bits are summed. -/
def canTrimWindow (frames : List TrimFrame) (s : State) : State :=
  if !s.flag Reg.CGU_STAT_LOADS || s.fbSrc != 1 || s.hrc != ckGOOD then s
  else
    let bit := s.nominalBit s.fbIdx
    let valid := frames.filter (fun x => !x.own && !x.bad)
    let kept := (valid.flatMap (fun x => x.gaps)).filterMap (fun g => (gapBits bit g).map (fun k => (g, k * bit)))
    s.fallbackTrim 1 valid.length (kept.map Prod.fst).sum (kept.map Prod.snd).sum true

/-- BEACON_TRIM_WINDOW: a 1 s window against the BEACON period of a TP port ends, in which these PLCA cycles were measured, in
ns: those in which no node transmitted are compared with BEACON_NS (R348).  A coordinator, or BEACON_NS = 0, cannot serve. -/
def beaconTrimWindow (cycles : List PlcaCycle) (s : State) : State :=
  if !s.flag Reg.CGU_STAT_LOADS || s.fbSrc != 2 || s.hrc != ckGOOD then s
  else
    let p := s.fbIdx
    let coord := s.plcaEn p && s.plcaOk p && s.pm 0 p 19 1 0 8 == 0
    let empty := (cycles.filter (fun x => x.empty)).map (fun x => x.ns)
    s.fallbackTrim 2 empty.length empty.sum (empty.length * s.beaconNs) (!coord && s.beaconNs != 0)

/-- LRC_TRIM_WINDOW: a 100 ms window of LRC against XTAL ends with an error in ppm (R349).  By how many of its 0.1 % steps
a window moves is not stated: a free number, no more than would undo the error (assumption log 3). -/
def lrcTrimWindow (err : Int) (s : State) : State :=
  if s.xtal != ckGOOD || s.lrc != ckGOOD then s
  else
    let n := roundDiv err 1000
    let r := s.draw (n.natAbs + 1)
    let s := r.2
    let d : Int := if s.flag Reg.CGU_CTRL_TRIM_HOLD then 0 else if 0 < n then -(r.1 : Int) else r.1
    let a := s.autoMove Reg.CGU_SPAN_LRC s.lrcUser s.cgu.lauto d
    let s := if a.2 then s.raise Reg.CGU_IRQ_TRIM_LIMIT else s
    let s := if a.1 == s.cgu.lauto then s else s.inc Reg.CGU_TRIM_UPDATES_COUNT
    let s := { s with cgu := { s.cgu with lauto := a.1 } }
    s.put Reg.CGU_LRC_EFFECTIVE (s.effective Reg.CGU_LRC_FACTORY Reg.CGU_SPAN_LRC (s.lrcUser + a.1))

end Sys2Proof.Machine
end

