-- ==== Sys2Proof/Machine/Resets.lean ====
section
/-! DEFINITION. The device resets (R14–R16, R359, R414, R432, R433) and the firmware watchdog (R330, R331). -/
namespace Sys2Proof.Machine

/-! ### What every reset shares -/

/-- Record the kind and the cause of a reset. -/
def State.lastReset (s : State) (kind cause : Nat) : State :=
  let s := (s.put Reg.WDG_LAST_RESET_KIND kind).put Reg.WDG_LAST_RESET_CAUSE cause
  if kind = 3 then s.inc Reg.WDG_LAST_RESET_WDOGS else s

/-- The factory-test condition of R34: BOOT_MODE is 0b11. -/
def State.testCause (s : State) : State := s.devCause Reg.DEV_CAUTIOUS_TEST (s.get Reg.DEV_STRAPS_BOOT_MODE == 3)

/-- The straps as sampled. -/
def State.sample (s : State) (x : Straps) : State :=
  let s := (s.put Reg.DEV_STRAPS_BOOT_MODE x.bootMode).testCause
  (s.put Reg.DEV_STRAPS_SB_EN (b2n x.sbEn)).put Reg.DEV_STRAPS_IO_VSEL (b2n x.ioVsel)

/-- Conditions that outlast a reset place the device under cautious forwarding again (R34), and a dwell restarts (R342). -/
def State.stillHolds (s : State) : State :=
  let s := s.testCause
  let s := if s.flag Reg.CGU_STAT_LOADS then (s.devCause Reg.DEV_CAUTIOUS_CLOCK true).dwellStart else s
  if s.pwr.low = 0 then s else s.devCause Reg.DEV_CAUTIOUS_SUPPLY true

/-- SUPPLY and PIN: V and T fields are cleared, the Last memory is lost, and the HRC starts (R338 step 2). -/
def State.coldReset (s : State) (kind : Nat) : State :=
  let s := { s with cgu := { s.cgu with starting := false } }
  let s := (s.dropV false).dropT.lastReset kind 0
  let s := s.tcaSet (fun t => { t with locked := false })
  let s := s.wakSet (fun w => { w with setup := 1 })
  (s.put Reg.CGU_STAT_HRC 1).stillHolds

/-- Last memory holds a whole Last, which a reset keeps: one that is applied, or that a boot would apply again, or the old or the
new image of a reload at a moment when neither is being written (R359, R387, assumption log 38). -/
def State.lastWhole (s : State) : Bool :=
  s.flag Reg.LST_STAT_LOADED || (s.upd.kept && s.booting) ||
  (s.lsState == lsRELOADING && (s.lst.applying || s.lst.undef.isNone))

/-- What a WDOG reset, a SOFT reset and a fall-back do to the fields: V fields are cleared, and the Last memory is kept where
`keepLast` says so (R387); every clock source runs on (R338).  A reset in SLEEP leaves the device in SLEEP (R358). -/
def State.warmDrop (s : State) (keepLast : Bool) : State :=
  let asleep := s.mode == mdSLEEP
  let s := s.devCause Reg.DEV_CAUTIOUS_STARTUP true
  let s := s.dropV (keepLast && s.lastWhole)
  let s := s.tcaSet (fun t => { t with locked := false })
  (if asleep then s.put Reg.PWR_MODE_MODE mdSLEEP else s).stillHolds

/-- WDOG and SOFT resets. -/
def State.warmReset (s : State) (kind cause : Nat) (keepLast : Bool) : State :=
  ((s.warmDrop keepLast).lastReset kind cause).domSync

/-! ### POR, SUPPLY, PIN, SOFT -/

/-- The device without its supply: only the flash, the fuses and what lies outside the device outlast it. -/
def State.blank (s : State) : State :=
  let s := s.flashAbort
  let u := s.upd
  let t : State :=
    { State.reset with
      pending := s.pending, freeCtr := s.freeCtr, tim := .init s.tim.elapsed
      hdm := { Hdm.init with mem := s.hdm.mem }, wak := { Wak.init with pins := s.wak.pins }
      upd := { Upd.init with flash := u.flash, wild := u.wild, keyHash := u.keyHash, ownerKey := u.ownerKey, burnt := u.burnt
                             vmove := u.vmove, octal := u.octal } }
  t.showFuses

/-- POR: VSTBY crosses the power-on reset level. -/
def por (x : Straps) (s : State) : State := s.blank.sample x

/-- VSTBY_BELOW_POR: the device is OFF. -/
def vstbyBelowPor (s : State) : State := (s.blank.put Reg.PWR_MODE_MODE mdOFF).put Reg.CGU_STAT_LRC ckOFF

/-- SUPPLY_RESET: a supply, 0 VDD_CORE or 1 VDD_IO33, falls below its reset level; the monitors do not act in SLEEP (R361).
While the reset is held, the fall of the other one too is no second reset. -/
def supplyReset (n : Fin 2) (s : State) : State :=
  if s.mode = mdSLEEP || s.mode = mdOFF then s
  else if s.pwr.down then s.pwrSet (fun w => { w with gone := setBit w.gone n true })
  else (s.coldReset 1).pwrSet (fun w => { w with down := true, gone := 2 ^ n.val, low := 0, dipAt := [] })

/-- SUPPLY_RESET_RELEASE: both supplies have been above their reset levels for 100 µs. -/
def supplyResetRelease (x : Straps) (s : State) : State :=
  if !s.pwr.down then s else ((s.sample x).pwrSet (fun w => { w with down := false, gone := 0 })).domSync

/-- PIN_RESET: RESET_N is low for at least 1 µs, and has then been high for 100 µs (R433).  It ends CLOCK_HOLD (R339). -/
def pinReset (x : Straps) (s : State) : State :=
  if s.mode = mdOFF then s
  else
    let asleep := s.mode == mdSLEEP
    let s := (s.coldReset 2).sample x
    let s := s.put Reg.SBP_ALERT_STAT_CLOCK_HOLD 0
    if asleep then s.xtalAmp.wakeCause wkPIN 0 false else s

/-- A write of DEV_RESET: the reset begins when the request that carries it is complete (R414). -/
def State.devReset (s : State) (m : Master) (key : Nat) : State :=
  if key = 0x5AFE then s.wdgSet (fun w => { w with resetDue := true }) else s.err 0 0x084 ecINVALID m

/-- The SOFT reset that a completed request has asked for; the sideband's answer stands (R414). -/
def State.dueReset (s : State) : State :=
  if s.wdg.resetDue then
    { (s.wdgSet (fun w => { w with resetDue := false })).warmReset 4 0 true with sbResp := s.sbResp }
  else s

/-- SOFT_RESET. -/
def softReset (m : Master) (key : Nat) (s : State) : State := (s.direct m 0 0x084 (fun s => s.devReset m key)).dueReset

/-! ### The firmware watchdog (R330, R331) -/

/-- The watchdog runs: from the first instruction of the boot engine, while the cores run. -/
def State.fwRuns (s : State) : Bool := s.awake && s.wdg.fwAt.isSome

/-- A WDOG reset. -/
def State.wdogReset (s : State) (cause : Nat) : State := s.warmReset 3 cause true

/-- A write of WDG_FW_KICK by master m. -/
def State.fwKick (s : State) (m : Master) (v : Nat) : State :=
  if m ≠ .firmware then s.err pgWDG 0x084 ecSOURCE m
  else if !s.fwRuns then s
  else if v = (if s.flag Reg.WDG_FW_STAT_NEXT then 0xA5A5 else 0x5A5A) then
    let t := s.now
    (s.wdgSet (fun w => { w with fwAt := some t })).put Reg.WDG_FW_STAT_NEXT (1 - s.get Reg.WDG_FW_STAT_NEXT)
  else s.wdogReset 1

/-- FW_KICK: PG_LOCK lets it through (R411). -/
def fwKick (m : Master) (v : Nat) (s : State) : State := s.command m pgWDG 0x084 (fun s => s.gate0 m pgWDG 0x084 (fun s => s.fwKick m v))

/-- FW_WATCHDOG_WARN: three quarters of the timeout have passed. -/
def fwWatchdogWarn (s : State) : State := if s.fwRuns then (s.nmi 4).raise Reg.WDG_IRQ_FW_WARN else s

/-- FW_WATCHDOG_EXPIRY: the full time has passed. -/
def fwWatchdogExpiry (s : State) : State := if s.fwRuns then s.wdogReset 0 else s

/-- LOCKSTEP_MISMATCH: the cores of a management pair differ. -/
def lockstepMismatch (pair : Fin 2) (s : State) : State :=
  if s.fwRuns then ((s.fault pgWDG (0x0801 + pair)).nmi (2 + pair)).wdogReset (2 + pair) else s

end Sys2Proof.Machine
end

