-- ==== Sys2Proof/Machine/Boot.lean ====
section
/-! DEFINITION. The self-test of a domain (R333, R334) and the boot engine (R382–R389, R399). -/
namespace Sys2Proof.Machine

/-! ### The manifest and its parts (R381–R383) -/

/-- Slot k as an image. -/
def Upd.slotImage (u : Upd) (k : Nat) : Image := fun a => u.byte (slotBase k + a)

/-- The manifest of a slot image. -/
def imgManifest (img : Image) : List Byte := imgBytes img 0 4096

/-- The limit of a part's length by TYPE (R382). -/
def partLimit (type : Nat) : Nat :=
  match type with
  | 1 => 0x400000
  | 2 => 0x40000
  | 3 => 0x80000
  | 4 => 0x40000
  | 5 => 14680064
  | _ => slotBytes

/-- No two of the entries overlap. -/
def entriesApart : List ManEntry → Bool
  | [] => true
  | x :: r => r.all (fun y => decide (x.offset + x.length ≤ y.offset) || decide (y.offset + y.length ≤ x.offset)) && entriesApart r

/-- The checks of R382 that the manifest's own bytes decide, other than those of the key and the signature. -/
def manifestForm (img : Image) : Bool :=
  let m := imgManifest img
  let es := manEntries m
  let n := fun t => (es.filter (fun e => e.type == t)).length
  let last := manPart m 5
  sub m 0 4 == [0x4D, 0x4E, 0x46, 0x54] && leNat (sub m 4 2) == 1 && leNat (sub m 6 2) == 0x6425 &&
  (leNat (sub m 12 1) == 5 || leNat (sub m 12 1) == 6) &&
  [1, 2, 3, 4, 5].all (fun t => n t == 1) && decide (n 6 ≤ 1) &&
  es.all (fun e => decide (4096 ≤ e.offset) && e.offset % 256 == 0 && decide (e.offset + e.length ≤ slotBytes) &&
    decide (e.length ≤ partLimit e.type) && (e.type != 6 || (last.map (fun l => l.offset)) == some e.offset)) &&
  entriesApart (es.filter (fun e => e.type != 6))

/-- The Last within a slot image. -/
def slotLast (img : Image) : Image :=
  match manPart (imgManifest img) 5 with
  | some e => fun a => img (e.offset + a)
  | none => fun _ => 0

/-- The pages that LAST_PRIO covers: directory pages 0–3, then those of each BOOT_PRIO section in table order. -/
def prioPages (last : Image) : List Nat :=
  [0, 1, 2, 3] ++ ((imgSections last).filter (fun x => x.prio)).flatMap (fun x => (List.range x.pages).map (x.first + ·))

/-- The check of R382 that rests on the Last's section table: LAST_PRIO is there where a section has BOOT_PRIO, and its LENGTH is that of
the pages it covers. -/
def manifestPrio (img : Image) : Bool :=
  let last := slotLast img
  match manPart (imgManifest img) 6 with
  | some e => (imgSections last).any (fun x => x.prio) && e.length == 256 * (prioPages last).length
  | none => !(imgSections last).any (fun x => x.prio)

/-- Why a manifest is not accepted: 1 MANIFEST, 2 SIGNATURE, 0 when it is. -/
def Upd.manifestCheck (u : Upd) (img : Image) : Nat :=
  let m := imgManifest img
  let key := sub m 32 64
  if !manifestForm img then 1
  else
    let known := match u.keyHash with
      | some h => sha256 key == h
      | none => true
    if known && ecdsaOk key (sha256 (sub m 0 608)) (sub m 608 64) then 0 else 2

/-- The first accepted key is fused where none is (R383). -/
def State.fuseKey (s : State) (img : Image) : State :=
  match s.upd.keyHash with
  | some _ => s
  | none => (s.updSet (fun u => { u with keyHash := some (sha256 (sub (imgManifest img) 32 64)) })).showFuses

/-- The bytes of pages of an image, in the order given. -/
def pagesBytes (last : Image) (ps : List Nat) : List Byte := ps.flatMap (fun p => imgBytes last (256 * p) 256)

/-- The pages of an image, as many as its header gives. -/
def imgPages (last : Image) : Nat := ceilDiv (min 14680064 (imgLE last 8 4)) 256

/-- The bytes that the HASH of a TYPE covers (R382); that of LAST covers the pages of the image, as many as its header gives. -/
def hashedBytes (img : Image) (type : Nat) : List Byte :=
  let m := imgManifest img
  match manPart m type with
  | none => []
  | some e =>
    let last := slotLast img
    if type = 6 then pagesBytes last (prioPages last)
    else if type = 5 then
      let ps := List.range (imgPages last)
      if (manPart m 6).isSome then pagesBytes last (ps.filter (fun p => !(prioPages last).contains p)) else pagesBytes last ps
    else imgBytes img e.offset e.length

/-- A part's hash matches; a TYPE that the manifest does not hold needs none. -/
def partHash (img : Image) (type : Nat) : Bool :=
  match manPart (imgManifest img) type with
  | none => true
  | some e => sha256 (hashedBytes img type) == e.hash

/-! ### Boot state -/

/-- UPD_BOOT_INFO. -/
def State.bootInfo (s : State) (reason slot part : Nat) : State :=
  ((s.put Reg.UPD_BOOT_INFO_REASON reason).put Reg.UPD_BOOT_INFO_FAIL_SLOT slot).put Reg.UPD_BOOT_INFO_FAIL_PART part

/-- The boot engine goes to a stage. -/
def State.bootStage (s : State) (st : BootStage) : State := s.updSet (fun u => { u with stage := st })

/-- The image runs: its versions, the slot, and the trial timer of a trial boot (R386, R389, R395). -/
def State.bootDone (s : State) (img : Image) : State :=
  let m := imgManifest img
  let t := s.now
  let s := (List.range 5).foldl (fun (s : State) k =>
    s.put Reg.UPD_VERSION_VERSION (((manPart m (k + 1)).map (fun e => e.version)).getD 0) 0 k) s
  let s := (s.put Reg.UPD_MNF_SEQ_SEQ (leNat (sub m 8 4))).put Reg.UPD_STAT_ACTIVE s.upd.slot
  let trial := s.upd.bootRec.state == 2 && !s.upd.fell && !s.loadMode
  let secs := s.get Reg.UPD_TRIAL_TIME_SECONDS
  let s := if trial then s.updSet (fun u => { u with trialAt := some t, trialSecs := secs }) else s
  let s := if s.upd.fell then s.raise Reg.UPD_IRQ_FALLBACK else s
  s.bootStage .done

/-- The record that a fall-back writes (R389). -/
def fallRecord (r : BootRec) (slot reason failSlot part : Nat) : BootRec :=
  { r with active := slot, state := 0, reason := reason, failSlot := failSlot, failPart := part }

/-- The flash is probed, and where it does not start in 8D-8D-8D mode, its non-volatile configuration is set so that it does (R430). -/
def State.flashProbe (s : State) : State := s.updSet (fun u => { u with octal := true })

/-- FALLBACK, and BOOT_FAIL where the other slot has failed as well (R389). -/
def State.bootFails (s : State) (reason part : Nat) : State :=
  if !s.upd.fell then
    let bad := s.upd.slot
    let ran := s.upd.ran
    let t := s.now
    let s := s.warmDrop false
    let s := s.pwrSet (fun w => { w with powered := 2, tested := 2 })
    let s := s.wdgSet (fun w => { w with fwAt := some t })
    let s := s.updSet (fun u => { u with stage := .record, slot := 1 - bad, ran := ran, fell := true })
    let s := (s.put Reg.LST_STAT_LIVE 0).bootInfo reason bad part
    (s.recWrite (fallRecord s.upd.bootRec (1 - bad) reason bad part) .fallback).domSync
  else
    let s := (s.bootStage .load).flashProbe.put Reg.UPD_STAT_BOOT_FAIL 1
    let s := (s.lstSet (fun l => { l with prio := false })).lastLost
    s.channelSync.portSyncAll.domSync

/-! ### The commands -/

/-- BOOT_START: the boot engine starts, once PD1 has passed its self-test (R386 step 1, R399). -/
def bootStart (s : State) : State :=
  if !bit s.pwr.tested 1 || s.upd.stage != .due || !s.domainsLive then s
  else
    let t := s.now
    let s := s.wdgSet (fun w => { w with fwAt := some t })
    let mode := s.get Reg.DEV_STRAPS_BOOT_MODE
    let s := s.updSet (fun u => { u with bootAt := some t, source := mode })
    let s := if mode = 1 || mode = 2 then s.flashProbe else s
    let r := if s.upd.octal then s.upd.bootRec else noRec
    let s := (s.bootInfo r.reason r.failSlot r.failPart).put Reg.UPD_STAT_STATE (if r.state ≤ 2 then r.state else 0)
    match mode with
    | 0 =>
      let start := fun (s : State) slot fell st =>
        s.updSet (fun u => { u with slot := slot, fell := fell, kept := u.kept && u.ran == slot, stage := st })
      if r.state = 1 then (start s r.active false .record).recWrite { r with state := 2 } .trial
      else if r.state = 2 then
        ((start s r.prev true .record).bootInfo 6 r.active 0xFF).recWrite (fallRecord r r.prev 6 r.active 0xFF) .fallback
      else start s r.active false .manifest
    | 3 => (s.bootStage .done).put Reg.UPD_STAT_SOURCE 3
    | n => (s.bootStage .load).put Reg.UPD_STAT_SOURCE n

/-- What a boot reads next after the Awl microcode, and after the T1S firmware (R386, R387). -/
def State.afterUcode (s : State) : BootStage :=
  if !s.upd.kept && (manPart (s.upd.manifest s.upd.slot) 6).isSome then .prio else .sds
def State.afterT1s (s : State) : BootStage :=
  if s.upd.kept then .check
  else if (manPart (s.upd.manifest s.upd.slot) 6).isSome && !s.lst.prio then .reprio else .last

/-- A part of firmware has been read: its hash decides. -/
def State.bootPart (s : State) (readOk : Bool) (type : Nat) (next : BootStage) : State :=
  let img := s.upd.slotImage s.upd.slot
  let i := manIndex (imgManifest img) type
  if !readOk then s.bootFails 5 i
  else if partHash img type then s.bootStage next else s.bootFails 3 i

/-- Pages of the slot's Last are read into Last memory. -/
def State.storePages (s : State) (last : Image) (ps : List Nat) : State :=
  ps.foldl (fun (s : State) p => s.lstSet (fun l => l.setBytes (256 * p) (imgBytes last (256 * p) 256))) s

/-- The priority sections are applied once their hash matches (R386 step 4); then the boot goes to its next stage. -/
def State.bootPrio (s : State) (readOk : Bool) (next : BootStage) : State :=
  let img := s.upd.slotImage s.upd.slot
  let i := manIndex (imgManifest img) 6
  if !readOk then s.bootFails 5 i
  else if !partHash img 6 then s.bootFails 3 i
  else
    let last := slotLast img
    let s := (s.lstSet (fun l => { l with undef := none, written := [] })).storePages last (prioPages last)
    (((s.imageTable last).put Reg.LST_STAT_LIVE 0).prioApply).bootStage next

/-- The whole Last is checked and applied (R386 step 6). -/
def State.bootLast (s : State) (readOk : Bool) : State :=
  let img := s.upd.slotImage s.upd.slot
  let m := imgManifest img
  let last := slotLast img
  if !readOk then s.bootFails 5 (manIndex m 5)
  else if !partHash img 6 then s.bootFails 3 (manIndex m 6)
  else if !partHash img 5 then s.bootFails 3 (manIndex m 5)
  else if !imageOk last then s.bootFails 4 (manIndex m 5)
  else
    let done := if s.lst.prio then (s.lst.secs.filter (fun x => x.prio)).map Section.kind else []
    let s := ((s.imageStore last).imageTable last).put Reg.LST_STAT_LIVE 0
    (s.lastApply (fun t => !done.contains t)).bootDone img

/-- BOOT_PART_CHECKED: the manifest, a part of firmware, the priority sections or the Last has been read, or could not be, as where the
flash does not start in 8D-8D-8D mode (R430); with the Last memory kept, its check stands in for the Last (R387). -/
def bootPartChecked (readOk : Bool) (s : State) : State :=
  let readOk := readOk && s.upd.octal
  let img := s.upd.slotImage s.upd.slot
  match s.upd.stage with
  | .manifest =>
    if !readOk then s.bootFails 5 0xFF
    else
      match if manifestPrio img then s.upd.manifestCheck img else 1 with
      | 0 => (s.fuseKey img).bootStage .fw
      | r => s.bootFails r 0xFF
  | .fw => s.bootPart readOk 1 .ucode
  | .ucode => s.bootPart readOk 2 s.afterUcode
  | .sds => s.bootPart readOk 3 .t1s
  | .t1s => s.bootPart readOk 4 s.afterT1s
  | .prio => if bit s.pwr.tested 10 then s.bootPrio readOk .sds else s
  | .reprio => if bit s.pwr.tested 10 then s.bootPrio readOk .last else s
  | .last => if bit s.pwr.tested 10 then s.bootLast readOk else s
  | .check => if bit s.pwr.tested 10 then (s.lastApply (fun _ => true)).bootDone img else s
  | _ => s

/-! ### Self-test (R333, R334) -/

/-- A read-only check of PD10 fails: the Last is reapplied from flash, in a boot by steps 4 and 6 of R386 (R334, R387). -/
def State.checkFails (s : State) : State :=
  let s := s.fault pgLST 0x0E02
  if s.flag Reg.LST_STAT_LOADED then s.reloadStart false
  else
    let s := s.updSet (fun u => { u with kept := false })
    if s.upd.stage = .check then s.bootStage s.afterT1s else s

/-- SELF_TEST_DONE: the self-test of domain d ends, with so many repairs and with the pages of the blocks that failed; pagesOk is the
result of the read-only check of PD10, where its contents are retained. -/
def selfTestDone (d repairs : Nat) (failed : List Nat) (pagesOk : Bool) (s : State) : State :=
  if !bit s.pwr.powered d || bit s.pwr.tested d || d = 0 || 18 < d then s
  else
    let bad := (sortedNub failed).filter (fun p => allPages.contains p && pageDomain p == d)
    let s := s.inc Reg.FLT_BIST_REPAIRS_COUNT repairs
    let s := if bad.isEmpty then s
      else s.put Reg.FLT_BIST_FAIL_DOMAIN (setBit (2 * s.get Reg.FLT_BIST_FAIL_DOMAIN) d true / 2)
    let s := s.pwrSet (fun w => { w with tested := setBit w.tested d true, bist := w.bist ++ bad })
    let s := bad.foldl (fun (s : State) p => s.fault p (pageType p * 256 + 0xF0)) s
    let s := s.domainServes d
    if d = 10 && !pagesOk && (s.flag Reg.LST_STAT_LOADED || s.upd.kept) then s.checkFails else s

end Sys2Proof.Machine
end

