-- ==== Sys2Proof/Machine/Update.lean ====
section
/-! DEFINITION. The update services: staging, load modes, arming, restart and trial, and the owner lock (R390–R400). -/
namespace Sys2Proof.Machine

/-! ### Results (R390) -/

/-- Codes of UPD_RESULT. -/
def urNOT_STAGED : Nat := 1
def urMOVING : Nat := 2
def urVBAT_LOW : Nat := 3
def urOWNER_LOCKED : Nat := 4
def urNOT_ARMED : Nat := 5
def urBUSY : Nat := 6
def urTRIAL : Nat := 7
def urEXPIRED : Nat := 8
def urBAD_ADDR : Nat := 9
def urFLASH_ERR : Nat := 10
def urDIP_MISMATCH : Nat := 11
def urLOAD_MODE : Nat := 12
def urSEQUENCE : Nat := 13
def urMAC_FAIL : Nat := 14
def urNONCE : Nat := 15
def urNOT_READY : Nat := 16
def urEXHAUSTED : Nat := 17
def urKEY_SET : Nat := 18
def urNO_SESSION : Nat := 19

/-- Show a result; one that refuses raises CMD_ERR. -/
def State.updResult (s : State) (source code : Nat) : State :=
  let s := (s.put Reg.UPD_RESULT_CODE code).put Reg.UPD_RESULT_SOURCE source
  if code = 0 then s else s.raise Reg.UPD_IRQ_CMD_ERR

/-- A refusal for which the spec names no code: a free value (assumption log 3). -/
def State.updUnnamed (s : State) (source : Nat) : State :=
  let r := s.draw 255
  (r.2.updResult source (r.1 + 1)).raise Reg.UPD_IRQ_CMD_ERR

/-- The inactive slot: the one that is not active; after a load mode the one that the boot record does not name (R400). -/
def State.inactiveSlot (s : State) : Nat := 1 - s.activeSlot

/-- The owner lock. -/
def State.ownerLocked (s : State) : Bool := s.upd.burnt % 2 == 1

/-- The boot record's STATE is TRIAL. -/
def State.inTrial (s : State) : Bool := s.upd.bootRec.state == 2

/-- Clear what a BLOCK reset of the UPD page ends: the V fields, the session, STAGED, ARMED, and a load in progress. -/
def State.updReset (s : State) : State :=
  let held := s.pageHeld pgUPD
  let s := s.clearV (fun p => p == pgUPD)
  let s := s.updSet (fun u => { u with reset := false, image := [], next := 0, speed := 0 })
  s.put Reg.PG_CTRL_BLOCK_RESET (b2n held) pgUPD

/-- The operation in progress ends with a code; a BLOCK reset of the page that has waited for it goes on (R406). -/
def State.opEnd (s : State) (code : Nat) : State :=
  let op := match s.upd.op with
    | some o => o.1
    | none => 0
  let s := (s.updSet (fun u => { u with op := none })).put Reg.UPD_STAT_BUSY 0
  let s := s.updResult op code
  let s := if code = 0 then s.raise Reg.UPD_IRQ_CMD_DONE else s
  if s.upd.reset then s.updReset else s

/-! ### The boot-record write (R385, R394, R395, R400) -/

/-- A record has been written, or has failed for good: what then becomes of the operation that needed it. -/
def State.recEnd (s : State) (why : RecFor) (ok : Bool) : State :=
  let st := s.upd.bootRec.state
  match why with
  | .trial => (s.put Reg.UPD_STAT_STATE st).bootStage .manifest
  | .fallback => (s.put Reg.UPD_STAT_STATE st).bootStage .manifest
  | .restart => if ok then (s.put Reg.LST_STAT_LIVE 0).warmReset 4 0 false else s.updResult 9 urFLASH_ERR
  | .confirm =>
    if ok then ((s.put Reg.UPD_STAT_STATE 0).updSet (fun u => { u with trialAt := none })).updResult 10 0
    else s.updResult 10 urFLASH_ERR
  | .close =>
    if ok then ((s.put Reg.UPD_STAT_SESSION 0).put Reg.UPD_STAT_STAGED 1).opEnd 0 else s.opEnd urFLASH_ERR

/-- BOOT_RECORD_WRITE_DONE: the record that has been written is read back, and is right or not. -/
def bootRecordWriteDone (ok : Bool) (s : State) : State :=
  match s.upd.write with
  | none => s
  | some (r, why, n) =>
    if s.supplyLow then s else
    let a := s.upd.recTarget
    if ok && s.upd.octal then
      (s.updSet (fun u => { (u.erase a).store a r.bytes with write := none })).recEnd why true
    else if 1 < n then s.updSet (fun u => { u with write := some (r, why, n - 1) })
    else
      let s := (s.updSet (fun u => { u with write := none })).flashWild a sectorBytes
      (s.fault pgUPD 0x0D01).recEnd why false

/-! ### UPD_CMD (R390, R391, R396, R399, R400) -/

/-- An address lies in the inactive slot. -/
def State.inInactive (s : State) (a : Nat) : Bool :=
  let b := slotBase s.inactiveSlot
  decide (b ≤ a) && decide (a < b + slotBytes)

/-- The 256 bytes of UPD_BUF. -/
def State.updBuf (s : State) : List Byte := (List.range 64).flatMap (fun i => leBytes 4 (s.get Reg.UPD_BUF_DATA 0 i))

/-- Fill UPD_BUF. -/
def State.updBufSet (s : State) (bs : List Byte) : State :=
  (List.range 64).foldl (fun (s : State) i => s.put Reg.UPD_BUF_DATA (leNat (sub bs (4 * i) 4)) 0 i) s

/-- Start an operation. -/
def State.opStart (s : State) (op a : Nat) (bs : List Byte) : State :=
  (s.updSet (fun u => { u with op := some (op, a, bs, false) })).put Reg.UPD_STAT_BUSY 1

/-- Why operation op is refused at its start, 0 where it is not; LOAD_PAGE and LOAD_DONE are judged apart. -/
def State.opRefusal (s : State) (op a : Nat) : Nat :=
  match op with
  | 1 => if s.ownerLocked then urOWNER_LOCKED else if s.inTrial then urTRIAL else 0
  | 2 => if !s.flag Reg.UPD_STAT_SESSION then urNO_SESSION
         else if a % sectorBytes != 0 || !s.inInactive a then urBAD_ADDR else 0
  | 3 => if !s.flag Reg.UPD_STAT_SESSION then urNO_SESSION else if a % 256 != 0 || !s.inInactive a then urBAD_ADDR else 0
  | 4 => if a % 256 != 0 then urBAD_ADDR else 0
  | 5 => if !s.flag Reg.UPD_STAT_SESSION then urNO_SESSION else 0
  | 6 => if a = s.upd.next then 0 else urSEQUENCE
  | _ => 0

/-- A master that may load: the sideband in BOOT_MODE 0b01, the host in 0b10, either in BOOT_FAIL (R389, R399). -/
def State.mayLoad (s : State) (m : Master) : Bool :=
  match s.get Reg.DEV_STRAPS_BOOT_MODE with
  | 1 => m == .sideband
  | 2 => m == .host
  | _ => true

/-- In BOOT_FAIL the image comes from the master that completes its load. -/
def State.loadSource (s : State) (n : Nat) : State := (s.put Reg.UPD_STAT_SOURCE n).updSet (fun u => { u with source := n })

/-- A write of UPD_CMD by master m. -/
def State.updCmd (s : State) (m : Master) (op : Nat) : State :=
  let a := s.get Reg.UPD_ADDR_ADDR
  if op = 0 then s
  else if s.flag Reg.UPD_STAT_BUSY then s.updResult op urBUSY
  else if (op = 6 || op = 7) && !(s.upd.stage == .load && s.mayLoad m) then s.updUnnamed op
  else
    match s.opRefusal op a with
    | 0 =>
      let s := if op = 1 then (s.put Reg.UPD_STAT_ARMED 0).put Reg.UPD_STAT_STAGED 0 else s
      let s := if op = 7 && s.get Reg.DEV_STRAPS_BOOT_MODE == 0 then s.loadSource (if m = .host then 2 else 1) else s
      let s := s.opStart op (if op = 1 then slotBase s.inactiveSlot else a) (if op = 3 || op = 6 then s.updBuf else [])
      if op = 5 && s.loadMode then s.recWrite { s.upd.bootRec with active := s.inactiveSlot, state := 0 } .close else s
    | r => s.updResult op r

/-- The commands that write UPD_CMD. -/
def State.updOp (s : State) (m : Master) (op : Nat) : State := s.direct m pgUPD 0x088 (fun s => s.updCmd m op)

/-- UPD_OPEN. -/
def updOpen (m : Master) (s : State) : State := s.updOp m 1
/-- UPD_ERASE. -/
def updErase (m : Master) (s : State) : State := s.updOp m 2
/-- UPD_PROGRAM. -/
def updProgram (m : Master) (s : State) : State := s.updOp m 3
/-- UPD_READ. -/
def updRead (m : Master) (s : State) : State := s.updOp m 4
/-- UPD_CLOSE. -/
def updClose (m : Master) (s : State) : State := s.updOp m 5
/-- UPD_LOAD_PAGE. -/
def updLoadPage (m : Master) (s : State) : State := s.updOp m 6
/-- UPD_LOAD_DONE. -/
def updLoadDone (m : Master) (s : State) : State := s.updOp m 7

/-! ### Loading without flash (R399) -/

/-- The image that a load mode has received. -/
def Upd.loaded (u : Upd) : Image := fun a => AMap.get zeroByte u.image a

/-- The load ends with a reason; the master may start again from page 0. -/
def State.loadFails (s : State) (reason part : Nat) : State :=
  let s := (s.put Reg.UPD_BOOT_INFO_REASON reason).put Reg.UPD_BOOT_INFO_FAIL_PART part
  let s := s.updSet (fun u => { u with image := [], next := 0 })
  let r := s.draw 255
  r.2.opEnd (r.1 + 1)

/-- The hash of a part that has arrived fails: its manifest entry.  LAST_PRIO is judged with LAST. -/
def partsFail (img : Image) (from_ upto : Nat) : Option Nat :=
  let m := imgManifest img
  let ends := fun (e : ManEntry) => decide (from_ < e.offset + e.length) && decide (e.offset + e.length ≤ upto)
  [1, 2, 3, 4, 5].findSome? (fun t => match manPart m t with
    | some e =>
      if !ends e then none
      else if t = 5 && !partHash img 6 then some (manIndex m 6)
      else if partHash img t then none else some (manIndex m t)
    | none => none)

/-- The page of the Last that lies at an offset of the image, if one does. -/
def lastPageAt (img : Image) (a : Nat) : Option Nat :=
  match manPart (imgManifest img) 5 with
  | some e => if e.offset ≤ a && a < e.offset + e.length then some ((a - e.offset) / 256) else none
  | none => none

/-- A page of the image arrives: one of the Last goes straight to Last memory, and with page 3 of the Last, which completes its
directory, what LAST_PRIO must cover is known (R382). -/
def State.loadPage (s : State) (a : Nat) (bs : List Byte) : State :=
  let put := bs.zipIdx.foldl (fun (m : AMap Byte) c => AMap.set zeroByte m (a + c.2) c.1) s.upd.image
  let s := s.updSet (fun u => { u with image := put, next := a + 256 })
  let img := s.upd.loaded
  if a = 512 then
    match s.upd.manifestCheck img with
    | 0 => (s.fuseKey img).opEnd 0
    | r => s.loadFails r 0xFF
  else if a < 512 then s.opEnd 0
  else
    let p := lastPageAt img a
    let s := match p with
      | some k => s.lstSet (fun l => l.setBytes (256 * k) (padTo 256 bs))
      | none => s
    if p == some 3 && !manifestPrio img then s.loadFails 1 0xFF
    else match partsFail img a (a + 256) with
    | some i => s.loadFails 3 i
    | none => s.opEnd 0

/-- LOAD_DONE completes: every part must have arrived, and the Last must pass R47. -/
def State.loadDone (s : State) : State :=
  let img := s.upd.loaded
  let m := imgManifest img
  let missing := (manEntries m).find? (fun e => e.type != 6 && decide (s.upd.next < e.offset + e.length))
  let last := slotLast img
  if s.upd.next < 4096 || !manifestPrio img then s.loadFails 1 0xFF
  else
    match missing with
    | some e => s.loadFails 3 (manIndex m e.type)
    | none =>
      if !imageOk last then s.loadFails 4 (manIndex m 5)
      else
        let k := s.upd.bootRec.active
        let s := s.updSet (fun u => { u with slot := k, fell := false, image := [], next := 0 })
        let s := ((s.imageStore last).imageTable last).lastApply (fun _ => true)
        (s.bootDone img).opEnd 0

/-- UPD_OP_DONE: the operation in progress ends. -/
def updOpDone (r : FlashEnd) (s : State) : State :=
  match s.upd.op with
  | none => s
  | some (op, a, bs, dip) =>
    if decide (op ≤ 3) && s.supplyLow then s else
    match op with
    | 1 => if r = .done then ((s.updSet (fun u => u.erase a)).put Reg.UPD_STAT_SESSION 1).opEnd 0
           else (s.flashWild a sectorBytes).opEnd urFLASH_ERR
    | 2 => if r = .done then (s.updSet (fun u => u.erase a)).opEnd 0 else (s.flashWild a sectorBytes).opEnd urFLASH_ERR
    | 3 => if r = .done then (s.flashProgram a bs).opEnd 0
           else (s.flashWild a 256).opEnd (if r = .mismatch && dip then urDIP_MISMATCH else urFLASH_ERR)
    | 4 => if r = .done then (s.updBufSet (s.upd.bytes a 256)).opEnd 0 else s.opEnd urFLASH_ERR
    | 5 => if s.upd.write.isSome then s else ((s.put Reg.UPD_STAT_SESSION 0).put Reg.UPD_STAT_STAGED 1).opEnd 0
    | 6 => if (lastPageAt s.upd.loaded a).isSome && !bit s.pwr.tested 10 then s else s.loadPage a bs
    | _ => if bit s.pwr.tested 10 then s.loadDone else s

/-! ### Arming, restart and trial (R392–R395) -/

/-- The last value of the speed signal exceeds THRESH. -/
def State.tooFast (s : State) : Bool := decide (s.get Reg.UPD_SPD_LIM_THRESH < s.upd.speed)

/-- The vehicle counts as moving. -/
def State.moving (s : State) : Bool :=
  s.flag Reg.UPD_VEH_STATE_MOVING || s.upd.vmove ||
  (s.flag Reg.UPD_SPD_CFG_EN && (s.tooFast || s.flag Reg.UPD_VEH_STATE_STALE))

/-- The conditions of R393: the first that fails, 0 for none. -/
def State.armRefusal (s : State) : Nat :=
  if !s.flag Reg.UPD_STAT_STAGED then urNOT_STAGED
  else if s.moving then urMOVING
  else if s.get Reg.PWR_MEAS_VALUE 0 4 < s.get Reg.UPD_VBAT_MIN_MV then urVBAT_LOW
  else if s.ownerLocked then urOWNER_LOCKED else 0

/-- A write of UPD_ARM: DISARM, then GO. -/
def State.armWrite (s : State) (go disarm : Bool) : State :=
  let s := if disarm then s.put Reg.UPD_STAT_ARMED 0 else s
  if !go then s
  else if s.loadMode then s.updResult 8 urLOAD_MODE
  else
    match s.armRefusal with
    | 0 => (s.put Reg.UPD_STAT_ARMED 1).updResult 8 0
    | r => s.updResult 8 r

/-- UPD_ARM. -/
def updArm (m : Master) (s : State) : State := s.direct m pgUPD 0x090 (fun s => s.armWrite true false)

/-- UPD_DISARM. -/
def updDisarm (m : Master) (s : State) : State := s.direct m pgUPD 0x090 (fun s => s.armWrite false true)

/-- A write of UPD_RESTART. -/
def State.restartWrite (s : State) (go : Bool) : State :=
  if !go then s
  else if s.loadMode then s.updResult 9 urLOAD_MODE
  else if !s.flag Reg.UPD_STAT_ARMED then s.updResult 9 urNOT_ARMED
  else if s.upd.op.isSome || s.upd.write.isSome || s.descending then s.updResult 9 urBUSY
  else
    match s.armRefusal with
    | 0 => (s.updResult 9 0).recWrite { s.upd.bootRec with active := s.inactiveSlot, prev := s.activeSlot, state := 1 } .restart
    | r => s.updResult 9 r

/-- UPD_RESTART. -/
def updRestart (m : Master) (s : State) : State := s.direct m pgUPD 0x094 (fun s => s.restartWrite true)

/-- A write of UPD_CONFIRM: the trial has expired where its boot is done and its timer runs no more. -/
def State.confirmWrite (s : State) (go : Bool) : State :=
  if !go then s
  else if !s.inTrial || s.loadMode then s.updResult 10 urTRIAL
  else if s.upd.stage == .done && s.upd.trialAt.isNone then s.updResult 10 urEXPIRED
  else if s.upd.write.isSome then s.updResult 10 urBUSY
  else s.recWrite { s.upd.bootRec with state := 0 } .confirm

/-- UPD_CONFIRM. -/
def updConfirm (m : Master) (s : State) : State := s.direct m pgUPD 0x098 (fun s => s.confirmWrite true)

/-- TRIAL_EXPIRY: the trial timer reaches 0. -/
def trialExpiry (s : State) : State :=
  if s.upd.trialAt.isNone then s
  else ((s.updSet (fun u => { u with trialAt := none })).put Reg.UPD_STAT_EXPIRED 1).raise Reg.UPD_IRQ_TRIAL_EXPIRED

/-! ### The speed signal (R392) -/

/-- WIDTH as it acts. -/
def State.spdWidth (s : State) : Nat :=
  let w := s.get Reg.UPD_SPD_CFG_WIDTH
  if 1 ≤ w && w ≤ 16 then w else 16

/-- SPEED_FRAME_RX: a frame received without error on a channel; one that is not the speed signal's changes nothing, and the
value of a field that does not lie within the payload is free (assumption log 3). -/
def speedFrameRx (chan id : Nat) (ide : Bool) (data : List Byte) (s : State) : State :=
  if !s.flag Reg.UPD_SPD_CFG_EN || s.get Reg.UPD_SPD_CFG_CHAN != chan || s.get Reg.UPD_SPD_ID_ID != id ||
     s.flag Reg.UPD_SPD_CFG_IDE != ide then s
  else
    let w := s.spdWidth
    let bs := fieldBits (s.get Reg.UPD_SPD_CFG_START) w (s.flag Reg.UPD_SPD_CFG_ORDER)
    let fits := bs.all (fun b => decide (b < 8 * data.length))
    let v := bs.zipIdx.foldl (fun v c => v + b2n (byteBit data c.1) * 2 ^ c.2) 0
    let r := if fits then (v, s) else s.draw (2 ^ w)
    (r.2.updSet (fun u => { u with speed := r.1 })).put Reg.UPD_VEH_STATE_STALE 0

/-- SPEED_STALE: no speed frame for STALE ms. -/
def speedStale (s : State) : State := s.put Reg.UPD_VEH_STATE_STALE 1

/-- VMOVE_IN_CHANGE. -/
def vmoveInChange (high : Bool) (s : State) : State := s.updSet (fun u => { u with vmove := high })

/-! ### The owner lock (R397, R398) -/

/-- The nonce as bytes, and what UPD_OWN_MAC holds. -/
def State.nonce (s : State) : List Byte := (List.range 4).flatMap (fun i => leBytes 4 (s.get Reg.UPD_NONCE_NONCE 0 i))
def State.ownMac (s : State) : List Byte := (List.range 4).flatMap (fun i => leBytes 4 (s.get Reg.UPD_OWN_MAC_MAC 0 i))

/-- A fresh nonce (R397); the DRBG must be at work. -/
def State.nonceReq (s : State) : State :=
  if !s.flag Reg.TCA_STAT_DRBG_OK then s.updResult 11 urNOT_READY
  else
    let d := s.freeCtr
    let s := { s with freeCtr := d + 1 }
    let s := (List.range 4).foldl (fun (s : State) i =>
      s.put Reg.UPD_NONCE_NONCE (leNat ((List.range 4).map (fun k => Config.drbgByte d (4 * i + k)))) 0 i) s
    s.put Reg.UPD_OWN_STAT_NONCE_VALID 1

/-- The message whose MAC an owner command carries: "LN-OWNER", the operation, the nonce. -/
def ownerMessage (op : Nat) (nonce : List Byte) : List Byte :=
  [0x4C, 0x4E, 0x2D, 0x4F, 0x57, 0x4E, 0x45, 0x52] ++ [BitVec.ofNat 8 op] ++ nonce

/-- Owner command LOCK (1) or UNLOCK (2); every attempt consumes the nonce. -/
def State.ownerCmd (s : State) (op : Nat) : State :=
  let valid := s.flag Reg.UPD_OWN_STAT_NONCE_VALID
  let msg := ownerMessage op s.nonce
  let mac := s.ownMac
  let right := match s.upd.ownerKey with
    | some k => aesCmac k msg == mac
    | none => false
  let ready := s.tcaReady
  let s := s.put Reg.UPD_OWN_STAT_NONCE_VALID 0
  if !ready then s.updResult 11 urNOT_READY
  else if !valid then s.updResult 11 urNONCE
  else if !right then s.updResult 11 urMAC_FAIL
  else if s.ownerLocked == (op == 1) then s.updResult 11 0
  else if 63 ≤ s.upd.burnt then s.updResult 11 urEXHAUSTED
  else ((s.updSet (fun u => { u with burnt := u.burnt + 1 })).showFuses.raise Reg.UPD_IRQ_OWNER_CHG).updResult 11 0

/-- PROVISION: the owner key is unwrapped from UPD_BUF and fused. -/
def State.ownerProvision (s : State) : State :=
  if s.upd.ownerKey.isSome then s.updResult 11 urKEY_SET
  else if !s.tcaReady then s.updResult 11 urNOT_READY
  else
    match keyUnwrap kw0 (s.updBuf.take 40) with
    | none => s.updUnnamed 11
    | some k => ((s.updSet (fun u => { u with ownerKey := some (padTo 32 k) })).showFuses).updResult 11 0

/-- A write of UPD_OWN_CMD: the operation, then a nonce. -/
def State.ownWrite (s : State) (op : Nat) (nonce : Bool) : State :=
  let s := match op with
    | 1 => s.ownerCmd 1
    | 2 => s.ownerCmd 2
    | 3 => s.ownerProvision
    | _ => s
  if nonce then s.nonceReq else s

/-- NONCE_REQ. -/
def nonceReq (m : Master) (s : State) : State := s.direct m pgUPD 0x0E4 (fun s => s.ownWrite 0 true)
/-- OWNER_LOCK. -/
def ownerLock (m : Master) (s : State) : State := s.direct m pgUPD 0x0E4 (fun s => s.ownWrite 1 false)
/-- OWNER_UNLOCK. -/
def ownerUnlock (m : Master) (s : State) : State := s.direct m pgUPD 0x0E4 (fun s => s.ownWrite 2 false)
/-- OWNER_PROVISION. -/
def ownerProvision (m : Master) (s : State) : State := s.direct m pgUPD 0x0E4 (fun s => s.ownWrite 3 false)

/-- NONCE_EXPIRY: 10 s after a nonce was issued. -/
def nonceExpiry (s : State) : State := s.put Reg.UPD_OWN_STAT_NONCE_VALID 0

end Sys2Proof.Machine
end

