-- ==== Sys2Proof/Machine/BlockReset.lean ====
section
/-! DEFINITION. PG_CTRL, BLOCK resets, interrupt force and clear, and the write lock (R405–R411, R436). -/
namespace Sys2Proof.Machine

/-! ### What a BLOCK reset does to the block -/

/-- Put fields back as another state has them. -/
def State.restore (s old : State) (fs : List Fld) : State := fs.foldl (fun (s : State) f => s.put f (old.get f)) s

/-- LST: the change set is lost (R68); the applied Last, its epochs, a reload in progress and a failed one stay. -/
def State.resetLst (s : State) : State :=
  let t := (if s.setHeld then (s.lstSet Lst.dropSet).lsPut lsIDLE else s).clearV (fun p => p == pgLST)
  let keep := [Reg.LST_STAT_LOADED, Reg.LST_STAT_DRAINING, Reg.LST_STAT_PRIO_LARGE, Reg.LST_EPOCH_CUR, Reg.LST_EPOCH_PREV,
    Reg.LST_BUILD_LO_ID_LO, Reg.LST_BUILD_HI_ID_HI]
  let t := t.restore s keep
  let t := t.put Reg.LST_STAT_STATE (if s.setHeld then lsIDLE else s.lsState)
  if s.lsState = lsUNLOADED then t.put Reg.LST_STAT_ERR (s.get Reg.LST_STAT_ERR) else t

/-- CLR page c: the Clicker leaves rotation, and the frames in its contexts are dropped at once as REORDER_TIMEOUT (R96); it waits for
its rejoin, before which the reset does not end (R406).  The shared page fills the punt bucket (R100). -/
def State.resetClr (s : State) (c : Nat) : State :=
  let inside := s.clr.frames.filter (fun f => (List.range 4).any (fun k => f.stage == .clicker c k))
  let s := inside.foldl (fun (s : State) f => (s.inc Reg.CLR_RO_TIMEOUT_COUNT 1 0 f.port).modFrame f.id (fun f =>
    { f with fate := .drop, pdrop := none, stage := .ready, parse := { f.parse with outcome := none } })) s
  let again := bit s.pwr.tested 9
  let s := s.clrSet (fun x =>
    { x with stalled := x.stalled.filter (· != c) ++ (if again then [c] else []), rejoinAt := AMap.del x.rejoinAt c })
  let s := s.put Reg.CLR_STAT_ROTATION 0 c
  (if c = 0 then s.puntFull else s).budget

/-- FAB page n: the slice leaves service and waits for its rejoin (R143, R406); the shared page ends the window and the governor's transactions, and with its V
cells FAIL (assumption log 83). -/
def State.resetFab (s : State) (n : Nat) : State :=
  let again := bit s.pwr.tested (3 + n)
  let s := s.fabSet (fun f =>
    { f with stalled := f.stalled.filter (· != n) ++ (if again then [n] else []), rejoinAt := AMap.del f.rejoinAt n })
  let s := if n = 0 then s.fabSet (fun f => { f with cells := 0, copies := 0, written := 0, read := 0, demand := 0, lowest := none, bus := []
                                                     retry := false, limited := false }) else s
  s.sliceServe n false

/-- SCH page p: the port's scheduler starts again, for the subscribers and queues that it owns (R182). -/
def State.resetSch (s : State) (p : Nat) : State :=
  let t := s.now
  let mine := fun (u : Nat) => match s.subPlace u with
    | some i => i / 8 == p
    | none => false
  s.schSet (fun h =>
    { h with subs := h.subs.filter (fun c => !mine c.1)
             qtags := h.qtags.filter (fun c => !s.ownsQueue p c.1)
             took := h.took.filter (fun c => c.1 / 8 != p), qTook := h.qTook.filter (fun c => !mine c.1)
             vts := h.vts.filter (fun c => c.1 / 8 != p), rr := h.rr.filter (fun c => c.1 / 8 != p)
             credits := (List.range 8).foldl (fun m v => AMap.ins m (8 * p + v) ⟨0, t⟩) (h.credits.filter (fun c => c.1 / 8 != p))
             ports := AMap.del h.ports p })

/-- TIM: both domains are FREE and the time base starts at 0 s; MDIO is the MAC page's. -/
def State.resetTim (s : State) : State :=
  let mdio := s.mdio
  { ((s.domState 0 0).domState 1 0).clearTim with mdio := mdio }

/-- AWL page e: the engine's buffers, slots and open frames are empty, and its AP port is flushed (R265); what a CAN controller
is transmitting goes on. -/
def State.resetAwl (s : State) (e : Nat) : State :=
  let mine := fun {V : Type} (m : AMap V) (n : Nat) => m.filter (fun c => c.1 / n != e)
  s.awlSet (fun a =>
    { a with ap := AMap.del a.ap e, turn := AMap.del a.turn e, routed := AMap.del a.routed e, streams := mine a.streams 32
             hits := mine a.hits 1024, drops := mine a.drops 1024
             can := a.can.map (fun x => if x.1 / 4 = e then
                 (x.1, { x.2 with tx := [], slots := [], windows := [], ka := none
                                  sending := (match x.2.sending, x.2.tx.head? with
                                    | .buffer, some m => .lone m
                                    | t, _ => t) })
               else x) })

/-- Toecap without its keys, which it restores as it starts again (R274); LOCKED persists (R291).  Copies and frames that it was
protecting or checking go as when it locks (R290). -/
def State.resetToecap (s : State) : State :=
  let s := (if s.tcaReady then s.cryptoLost else s).clearToecap.put Reg.TKM_LD_STAT_BUSY 0
  ((s.put Reg.TCA_STAT_STATE (if s.tca.locked then 3 else 0)).put Reg.TCA_STAT_RESTORING 0).put Reg.TCA_STAT_DRBG_OK 0

/-- What a BLOCK reset of a page does besides clearing V fields, as it begins. -/
def State.blockBegins (s : State) (page : Nat) : State :=
  let i := pageInst page
  match pageType page with
  | 0x06 => s.clearTxm
  | 0x0A => (s.hdmSet (fun h => { h with wb := [], turn := 0 })).portSync 32
  | 0x0C => s.mbxSet (fun _ => .init)
  | 0x10 => s.resetClr i
  | 0x11 => s.clrSet (fun c => { c with fcFrames := [], fcBytes := [] })
  | 0x12 => s.metersStart
  | 0x13 => s.resetFab i
  | 0x14 => { s with sole := { s.sole with drops := [] } }
  | 0x15 => { s with sole := { s.sole with marks := [] } }
  | 0x17 => s.resetSch i
  | 0x18 => s.resetTim
  | 0x19 => s.laceStop i
  | 0x1A =>
    let s := (s.portCauseSet Reg.MAC_CAUTIOUS_TEST i (s.testMode i)).portCauseSet Reg.MAC_CAUTIOUS_LACE i (!s.laceRuns i)
    let s := if i = 0 then { s with mdio := [] } else s
    ({ s with macs := AMap.del s.macs i }).portSync i
  | 0x1B => (s.testSync i).portSync i
  | 0x1C => s.portSync (24 + i)
  | 0x1D => (s.resetAwl i).portSync (33 + i / 4)
  | 0x1E => s.canSet i { noCan with hold := (s.can i).hold }
  | 0x1F => s.linSet i noLin
  | 0x20 => (if s.tca.op = 0 then s else s.ldEnd krNOT_READY).resetToecap
  | 0x21 => s.resetToecap
  | _ => s

/-- The V fields of a page are cleared; the Sole's flush states stay (R436). -/
def State.blockClears (s : State) (page : Nat) : State :=
  let t := s.clearV (fun p => p == page)
  if pageType page = 0x14 then
    (List.range 37).foldl (fun (t : State) p => t.put Reg.SOL_PORT_STATE_STATE (s.get Reg.SOL_PORT_STATE_STATE 0 p) 0 p) t
  else t

/-- A BLOCK reset of a page begins (R406): ports that it takes out of service lose link first. -/
def State.blockReset (s : State) (page : Nat) : State :=
  let i := pageInst page
  let s := match pageType page with
    | 0x1A => s.linkLost i
    | 0x1B => s.linkLost i
    | 0x1C => s.linkLost (24 + i)
    | 0x19 => s.creditSync i
    | _ => s
  let s := if dataPathType (pageType page) then s.devCause Reg.DEV_CAUTIOUS_STARTUP true else s
  if page = pgUPD && s.upd.op.isSome then
    (s.updSet (fun u => { u with reset := true })).put Reg.PG_CTRL_BLOCK_RESET 1 page
  else if page = pgUPD then (s.put Reg.PG_CTRL_BLOCK_RESET 1 page).updReset
  else
    let s := if page = pgLST then s.resetLst else s.blockClears page
    (s.put Reg.PG_CTRL_BLOCK_RESET 1 page).blockBegins page

/-- What the block does as its reset ends: L fields are reapplied (R16, R199). -/
def State.blockEnds (s : State) (page : Nat) : State :=
  let i := pageInst page
  match pageType page with
  | 0x06 => s.channelSync
  | 0x19 => if s.flag Reg.LST_STAT_LOADED then s.laceApply i else s
  | 0x1C => (s.plcaApply (24 + i)).t1sAsleep.portSync (24 + i)
  | 0x1E => s.canSync i
  | 0x1F => s.linSync i
  | _ => s.portSyncAll

/-- The reset of a page is not complete: the UPD page waits for its operation, a Clicker or a slice for its rejoin (R406). -/
def State.resetRuns (s : State) (page : Nat) : Bool :=
  match pageType page with
  | 0x0D => s.upd.reset
  | 0x10 => s.clr.stalled.contains (pageInst page)
  | 0x13 => s.fab.stalled.contains (pageInst page)
  | _ => false

/-- BLOCK_RESET_END: the reset of a page completes, with what belongs to it. -/
def blockResetEnd (page : Nat) (s : State) : State :=
  if !s.pageHeld page || s.resetRuns page then s
  else ((s.put Reg.PG_CTRL_BLOCK_RESET 0 page).blockEnds page).checkStartup

/-! ### PG_CTRL (R405–R407) -/

/-- ENABLE changes: a MAC page takes its port down, or lets it return. -/
def State.pageEnable (s : State) (page : Nat) (on : Bool) : State :=
  let i := pageInst page
  if pageType page != 0x1A then s.put Reg.PG_CTRL_ENABLE (b2n on) page
  else
    let s := if on then s else s.linkLost i
    (s.put Reg.PG_CTRL_ENABLE (b2n on) page).portSync i

/-- The POWER_REQ bit of a page as a master reads it. -/
def State.powerReq (s : State) (m : Master) (page : Nat) : Bool := pageDomain page != 0 && bit (s.domReq m) (pageDomain page)

/-- A write of POWER_REQ: group 10 owns it; on Heel pages it is ignored. -/
def State.powerReqWrite (s : State) (m : Master) (page : Nat) (on : Bool) : Acc :=
  if pageDomain page = 0 then (none, s)
  else if s.ownedByOther m (pageGroup pgPWR) then (some .ownership, s.ownErr m)
  else (none, s.domainAsk m (pageDomain page) on)

/-- A write of PG_CTRL that changes ENABLE or sets BLOCK_RESET: it follows the page's own group and PG_LOCK, and goes on as k. -/
def State.pgCtrlGate (s : State) (m : Master) (page : Nat) (k : State → Acc) : Acc :=
  if s.heelStands then (some .timeout, s)
  else if !pageDefined page then (some .reserved, s)
  else if s.ownedByOther m (pageGroup page) then (some .ownership, s.ownErr m)
  else if s.flag Reg.PG_LOCK_LOCK page && decide (m ≠ .firmware) then (none, s.err page 0x008 ecLOCKED m)
  else k s

/-- A write of 1 to BLOCK_RESET. -/
def State.blockResetWrite (s : State) (m : Master) (page : Nat) : Acc :=
  s.pgCtrlGate m page (fun s =>
    if fixedType (pageType page) then (none, s.err page 0x008 ecINVALID m)
    else if !s.pagePowered page then (none, s.err page 0x008 ecSTATE m)
    else if s.pageHeld page then (none, s)
    else (none, s.blockReset page))

/-- ENABLE is written with another value: of an unpowered page it is ignored and counted, and during a BLOCK reset it does not take
effect, though the page's first offsets stay served (R17, R406, R407). -/
def State.enableSet (s : State) (m : Master) (page : Nat) (on : Bool) : State :=
  if !s.pagePowered page then s.err page 0x008 ecSTATE m
  else if s.pageHeld page then s
  else s.pageEnable page on

/-- A write that changes ENABLE, and leaves POWER_REQ as it is. -/
def State.enableWrite (s : State) (m : Master) (page : Nat) (on : Bool) : Acc :=
  s.pgCtrlGate m page (fun s => (none, s.enableSet m page on))

/-- A write of PG_CTRL by master m: where ownership or PG_LOCK refuses a change of ENABLE, the whole write is refused (R405). -/
def State.pgCtrl (s : State) (m : Master) (page : Nat) (enable reset req : Bool) : Acc :=
  let changes := !fixedType (pageType page) && s.flag Reg.PG_CTRL_ENABLE page != enable
  if s.heelStands then (some .timeout, s)
  else if !pageDefined page then (some .reserved, s)
  else if reset then s.blockResetWrite m page
  else if changes then
    s.pgCtrlGate m page (fun s =>
      let t := s.enableSet m page enable
      if s.powerReq m page = req then (none, t) else t.powerReqWrite m page req)
  else s.powerReqWrite m page req

/-- BLOCK_RESET: a write of PG_CTRL.BLOCK_RESET. -/
def blockReset (m : Master) (page : Nat) (s : State) : State := s.command m page 0x008 (fun s => s.blockResetWrite m page)

/-- PAGE_ENABLE_WRITE: a write that changes PG_CTRL.ENABLE; the fixed pages ignore it. -/
def pageEnableWrite (m : Master) (page : Nat) (on : Bool) (s : State) : State :=
  s.command m page 0x008 (fun s =>
    if s.heelStands then (some .timeout, s)
    else if !pageDefined page then (some .reserved, s)
    else if fixedType (pageType page) || s.flag Reg.PG_CTRL_ENABLE page == on then (none, s) else s.enableWrite m page on)

/-! ### Interrupt bits (R9, R409) -/

/-- Set (true) or clear the bits of PG_IRQ_STAT that a word has at 1; the ring bits of HDM that are cleared begin to count
again (R314), and the refused punts of CLR may raise PUNT_LIMITED again (R100). -/
def State.irqBits (s : State) (page w : Nat) (on : Bool) : State :=
  let s := (irqFields page).foldl (fun (s : State) f =>
    let i := page - f.page
    let v := s.get f i
    let x := bits w f.lo f.width
    s.put f (if on then Nat.lor v x else Nat.land v (2 ^ f.width - 1 - x)) i) s
  if page = pgHDM && !on then (List.range 16).foldl (fun (s : State) k => if bit w k then s.ringCleared k else s) s else s

/-- A write of PG_IRQ_FORCE. -/
def State.irqForce (s : State) (m : Master) (page w : Nat) : Acc := s.gate0 m page 0x018 (fun s => s.irqBits page w true)

/-- IRQ_FORCE. -/
def irqForce (m : Master) (page w : Nat) (s : State) : State := s.command m page 0x018 (fun s => s.irqForce m page w)

/-- A write of PG_IRQ_STAT, which PG_LOCK lets through. -/
def State.irqClear (s : State) (m : Master) (page w : Nat) : Acc := s.gate0 m page 0x010 (fun s => s.irqBits page w false)

/-- IRQ_STAT_CLEAR. -/
def irqStatClear (m : Master) (page w : Nat) (s : State) : State := s.command m page 0x010 (fun s => s.irqClear m page w)

/-- A write of PG_LOCK. -/
def State.lockWrite (s : State) (m : Master) (page : Nat) : Acc := s.gate0 m page 0x034 (fun s => s.put Reg.PG_LOCK_LOCK 1 page)

/-- PAGE_LOCK. -/
def pageLock (m : Master) (page : Nat) (s : State) : State := s.command m page 0x034 (fun s => s.lockWrite m page)

end Sys2Proof.Machine
end

