-- ==== Sys2Proof/Machine/Snapshots.lean ====
section
/-! DEFINITION. The snapshot selectors (R118): a write of a selector copies the selected counters and levels into the
result registers of the writing master, in one act; CLEAR zeroes the counters in the same act, and is the part of the
write that ownership decides. -/
namespace Sys2Proof.Machine

/-- A selector write: with CLEAR or FILL it passes the whole gate, without them ownership and PG_LOCK let it through
(R118, R411). -/
def State.selWrite (s : State) (m : Master) (page off : Nat) (change : Bool) (k : State → State) : Acc :=
  if change then s.gate m page off k else s.gateFree page off k

/-- Put values into a list of fields of one element of the writing master. -/
def State.putAll (s : State) (m : Master) (i : Nat) (fs : List (Fld × Nat)) : State :=
  fs.foldl (fun s x => s.put x.1 x.2 i 0 m.code) s

/-! ### Flow counters and meters (R118) -/

def pgRUL : Nat := 0x058
def pgMTR : Nat := 0x059
def pgSOL : Nat := 0x068

/-- A write of RUL_FC_SEL. -/
def State.fcSel (s : State) (m : Master) (h : Nat) (clear : Bool) : State :=
  let f := AMap.get cellDflt s.clr.fcFrames h
  let b := AMap.get cellDflt s.clr.fcBytes h
  let s := s.putAll m 0 [(Reg.RUL_FC_SEL_HANDLE, h), (Reg.RUL_FC_FRAMES_LO_LO, f), (Reg.RUL_FC_FRAMES_HI_HI, f / 2 ^ 32),
    (Reg.RUL_FC_BYTES_LO_LO, b), (Reg.RUL_FC_BYTES_HI_HI, b / 2 ^ 32)]
  if clear then s.clrSet (fun c => { c with fcFrames := AMap.del c.fcFrames h, fcBytes := AMap.del c.fcBytes h }) else s

/-- FLOW_COUNTER_SNAPSHOT and FLOW_COUNTER_CLEAR. -/
def flowCounterSnapshot (m : Master) (h : Nat) (s : State) : State := s.directFree m pgRUL 0x080 (fun s => s.fcSel m h false)
def flowCounterClear (m : Master) (h : Nat) (s : State) : State := s.direct m pgRUL 0x080 (fun s => s.fcSel m h true)

/-- A write of MTR_SEL: CLEAR zeroes the colour counts, FILL fills both buckets of the meter to its present bursts. -/
def State.mtrSel (s : State) (m : Master) (n : Nat) (clear fill : Bool) : State :=
  let x := s.meter n
  let s := s.putAll m 0 [(Reg.MTR_SEL_METER, n), (Reg.MTR_GREEN_COUNT, x.green), (Reg.MTR_YELLOW_COUNT, x.yellow),
    (Reg.MTR_RED_COUNT, x.red), (Reg.MTR_TC_LEVEL, x.tc / 65536), (Reg.MTR_TP_LEVEL, x.tp / 65536)]
  if !clear && !fill then s
  else
    let x := if clear then { x with green := 0, yellow := 0, red := 0 } else x
    let c := s.meterCfg false n
    s.meterSet n (if fill then { x with tc := c.cbs * 65536, tp := c.pbs * 65536 } else x)

/-- METER_SNAPSHOT, METER_CLEAR and METER_FILL. -/
def meterSnapshot (m : Master) (n : Nat) (s : State) : State := s.directFree m pgMTR 0x080 (fun s => s.mtrSel m n false false)
def meterClear (m : Master) (n : Nat) (s : State) : State := s.direct m pgMTR 0x080 (fun s => s.mtrSel m n true false)
def meterFill (m : Master) (n : Nat) (s : State) : State := s.direct m pgMTR 0x080 (fun s => s.mtrSel m n false true)

/-! ### Services of the Sole -/

/-- A write of SOL_SVC_SEL; a port above 36 is counted and gives no snapshot.  T shows the low 18 bits of the threshold (the
model's choice, assumption log 85). -/
def State.solSel (s : State) (m : Master) (p v : Nat) (clear : Bool) : State :=
  if 36 < p then s.err pgSOL 0x300 ecINVALID m
  else
    let i := 8 * p + v
    let d := fun k => AMap.get cellDflt s.sole.drops (4 * i + k)
    let s := s.putAll m 0 [(Reg.SOL_SVC_SEL_PORT, p), (Reg.SOL_SVC_SEL_SVC, v), (Reg.SOL_SVC_POLICY_MIN, s.svcMin i),
      (Reg.SOL_SVC_POLICY_ALPHA, s.svcAlpha i), (Reg.SOL_SVC_POLICY_YEL, s.svcYel i), (Reg.SOL_SVC_POLICY_CT, b2n (s.svcCt i)),
      (Reg.SOL_SVC_POLICY_EXPRESS, b2n (s.svcExpress i)), (Reg.SOL_SVC_AGE_AGE, s.svcAge i),
      (Reg.SOL_SVC_OCC_Q, s.svcQ i), (Reg.SOL_SVC_THR_T, s.thr i false), (Reg.SOL_SVC_FULL_COUNT, d dkFull),
      (Reg.SOL_SVC_AGED_COUNT, d dkAged), (Reg.SOL_SVC_FLUSHED_COUNT, d dkFlushed), (Reg.SOL_SVC_EPOCH_COUNT, d dkEpoch)]
    if clear then { s with sole := { s.sole with drops := s.sole.drops.filter (fun c => c.1 / 4 != i) } } else s

/-- SERVICE_SNAPSHOT and SERVICE_DROPS_CLEAR. -/
def serviceSnapshot (m : Master) (p v : Nat) (s : State) : State := s.directFree m pgSOL 0x300 (fun s => s.solSel m p v false)
def serviceDropsClear (m : Master) (p v : Nat) (s : State) : State := s.direct m pgSOL 0x300 (fun s => s.solSel m p v true)

/-! ### Subscribers and queues (R170–R175) -/

/-- SCH_SUB_STAT.ROUND: 0 idle, 1 commit-eligible, 2 excess-eligible, 3 waiting above peak. -/
def State.subRound (s : State) (u : Nat) : Nat :=
  if (s.subCopies u).all (fun c => c.st != .queued) then 0
  else if s.commitOk u then 1
  else if s.peakOk u then 2
  else 3

/-- A write of SCH_SUB_SEL on port p's page; a subscriber that the port does not serve is counted and gives no
snapshot. -/
def State.schSubSel (s : State) (m : Master) (p u : Nat) : State :=
  match s.subPlace u with
  | none => s.err (0x070 + p) 0x100 ecINVALID m
  | some i =>
    if i / 8 ≠ p then s.err (0x070 + p) 0x100 ecINVALID m
    else
      let x := s.subNow u
      let copies := s.subCopies u
      let v := s.vt i
      s.putAll m p [(Reg.SCH_SUB_SEL_SUB, u), (Reg.SCH_SUB_STAT_SVC, i % 8), (Reg.SCH_SUB_STAT_ACTIVE, b2n !copies.isEmpty),
        (Reg.SCH_SUB_STAT_ROUND, s.subRound u), (Reg.SCH_SUB_STAT_PENDING, b2n (AMap.find s.sch.sOld u).isSome),
        (Reg.SCH_SUB_STAT_QUEUED, min 65535 (copies.filter (fun c => c.st == .queued)).length),
        (Reg.SCH_SUB_TAG_LO_F_LO, x.f), (Reg.SCH_SUB_TAG_HI_F_HI, x.f / 2 ^ 32), (Reg.SCH_SVC_VT_LO_V_LO, v),
        (Reg.SCH_SVC_VT_HI_V_HI, v / 2 ^ 32), (Reg.SCH_SUB_CLEVEL_LEVEL, ofSigned 32 x.c.whole),
        (Reg.SCH_SUB_PLEVEL_LEVEL, if (s.subCfg u).pir = 0 then 0 else ofSigned 32 x.p.whole),
        (Reg.SCH_SUB_BYTES_LO_LO, x.bytes), (Reg.SCH_SUB_BYTES_HI_HI, x.bytes / 2 ^ 32)]

/-- SUBSCRIBER_SNAPSHOT. -/
def subscriberSnapshot (m : Master) (p u : Nat) (s : State) : State :=
  s.directFree m (0x070 + p) 0x100 (fun s => s.schSubSel m p u)

/-- A write of SCH_Q_SEL on port p's page; a queue that the port does not own is counted and gives no snapshot. -/
def State.schQSel (s : State) (m : Master) (p q : Nat) : State :=
  if !s.ownsQueue p q then s.err (0x070 + p) 0x140 ecINVALID m
  else s.putAll m p [(Reg.SCH_Q_SEL_Q, q),
    (Reg.SCH_Q_STAT_FRAMES, min 65535 ((s.queueCopies q).filter (fun c => c.st == .queued)).length),
    (Reg.SCH_Q_STAT_SUB, (s.queueSub q).getD 0), (Reg.SCH_Q_STAT_PENDING, b2n (AMap.find s.sch.qOld q).isSome)]

/-- QUEUE_SNAPSHOT. -/
def queueSnapshot (m : Master) (p q : Nat) (s : State) : State := s.directFree m (0x070 + p) 0x140 (fun s => s.schQSel m p q)

/-! ### Routes, clusters and transceivers -/

/-- A write of AWL_RT_SEL on engine e's page; a route outside the engine's range is counted and gives no snapshot. -/
def State.awlRtSel (s : State) (m : Master) (e r : Nat) (clear : Bool) : State :=
  if r / 1024 ≠ e then s.err (0x110 + e) 0x100 ecINVALID m
  else
    let s := s.putAll m e [(Reg.AWL_RT_SEL_ROUTE, r), (Reg.AWL_RT_HITS_COUNT, AMap.get cellDflt s.awl.hits r),
      (Reg.AWL_RT_DROPS_COUNT, AMap.get cellDflt s.awl.drops r)]
    if clear then s.awlSet (fun a => { a with hits := AMap.del a.hits r, drops := AMap.del a.drops r }) else s

/-- ROUTE_SNAPSHOT and ROUTE_COUNTS_CLEAR. -/
def routeSnapshot (m : Master) (e r : Nat) (s : State) : State :=
  s.directFree m (0x110 + e) 0x100 (fun s => s.awlRtSel m e r false)
def routeCountsClear (m : Master) (e r : Nat) (s : State) : State :=
  s.direct m (0x110 + e) 0x100 (fun s => s.awlRtSel m e r true)

/-- Milliseconds left on the running timer of cluster n, rounded up; 0 if none runs (R368). -/
def State.clLeft (s : State) (n : Nat) : Nat :=
  let dur := if s.clState n = clWOKEN then s.nmWakeTo n else if s.clState n = clREADY then s.nmReady n
             else if s.clState n = clPREPARE then s.nmPrepare n else 0
  match AMap.find s.wak.timer n with
  | some t => ceilDiv (dur * 1000000 - (s.now - t)) 1000000
  | none => 0

/-- A write of WAK_CL_SEL. -/
def State.wakClSel (s : State) (m : Master) (n : Nat) : State :=
  s.putAll m 0 [(Reg.WAK_CL_SEL_CL, n), (Reg.WAK_CL_TIMER_MS, s.clLeft n),
    (Reg.WAK_CL_COUNTS_WAKES, AMap.get cellDflt s.wak.wakes n), (Reg.WAK_CL_COUNTS_FALSE, AMap.get cellDflt s.wak.falses n)]

/-- CLUSTER_SNAPSHOT. -/
def clusterSnapshot (m : Master) (n : Nat) (s : State) : State := s.directFree m pgWAK 0x0B0 (fun s => s.wakClSel m n)

/-- A write of TXM_CH_SEL. -/
def State.txmChSel (s : State) (m : Master) (c : Nat) : State :=
  let x := s.txm c
  s.putAll m 0 [(Reg.TXM_CH_SEL_CHAN, c), (Reg.TXM_CH_STAT_STATE, x.state), (Reg.TXM_CH_STAT_ERR, b2n x.err),
    (Reg.TXM_CH_STAT_BUSY, b2n (s.txmRuns c))]

/-- TXM_CHANNEL_SNAPSHOT. -/
def txmChannelSnapshot (m : Master) (c : Nat) (s : State) : State := s.directFree m pgTXM 0x084 (fun s => s.txmChSel m c)

end Sys2Proof.Machine
end

