-- ==== Sys2Proof/Machine/Reads.lean ====
section
/-! DEFINITION. What a register reads (R9, R10, R404, R408): the stored cells, and the fields that summarise other state
or come from the applied Last. -/
namespace Sys2Proof.Machine

/-- How a field reads: the state, the reading master, the instance and the element. -/
abbrev Reader := State → Master → Nat → Nat → Nat

/-! ### The common header (R404–R408) -/

/-- PG_STAT.FAULT: failed self-test, retired, or within 10 ms of a primary that the page reported. -/
def State.pageFault (s : State) (page : Nat) : Bool :=
  s.bistFailed page ||
  (pageType page == 0x10 && s.flag Reg.CLR_STAT_RETIRED (pageInst page)) ||
  (pageType page == 0x13 && s.flag Reg.FAB_STAT_RETIRED (pageInst page)) ||
  (match AMap.find s.flt.lastPrimary page with
   | some t => decide (s.now < t + 10000000)
   | none => false)

/-- PG_STAT.CAUTIOUS: a MAC page shows its port's state, every other page the device's. -/
def State.pageCautious (s : State) (page : Nat) : Bool :=
  if pageType page = 0x1A then s.portCautious (pageInst page) else s.devCautious

/-- Fields of the header that no cell holds; the instance is the page. -/
def headerReads : List (Fld × Reader) :=
  [(Reg.PG_ID_INSTANCE, fun _ _ p _ => pageInst p), (Reg.PG_ID_TYPE, fun _ _ p _ => pageType p),
   (Reg.PG_CTRL_POWER_REQ, fun s m p _ => b2n (s.powerReq m p)),
   (Reg.PG_STAT_READY, fun s _ p _ => b2n (s.pageReady p)), (Reg.PG_STAT_POWERED, fun s _ p _ => b2n (s.pagePowered p)),
   (Reg.PG_STAT_BUSY, fun s _ p _ => b2n (s.pageHeld p)), (Reg.PG_STAT_FAULT, fun s _ p _ => b2n (s.pageFault p)),
   (Reg.PG_STAT_CAUTIOUS, fun s _ p _ => b2n (s.pageCautious p))]

/-! ### Masks of services -/

/-- The mask of the services v of a port that satisfy p. -/
def svcMask (p : Nat → Bool) : Nat := (List.range 8).foldl (fun a v => a + b2n (p v) * 2 ^ v) 0

/-- Queues and subscribers of port p with a deferred change (R170). -/
def State.pendingChanges (s : State) (p : Nat) : Nat :=
  (s.sch.qOld.filter (fun c => s.ownsQueue p c.1)).length +
  (s.sch.sOld.filter (fun c => (s.subPlace c.1).map (· / 8) == some p)).length

/-- The channel that a master's TXM_CH_SEL selects: a byte of its binding (R376). -/
def State.txmPick (s : State) (m : Master) : Nat :=
  let c := s.get Reg.TXM_CH_SEL_CHAN 0 0 m.code
  s.secLE 0xC (c / 8 * 256 + c % 8 * 32) 1

/-- Whole tokens in the punt bucket now (R100). -/
def State.puntLevel (s : State) : Nat :=
  min (s.puntBurst * puntUnit) (s.clr.tokens + s.puntRate * (s.now - s.clr.puntLast)) / puntUnit

/-- An application of the Last is in force. -/
def State.lastOn (s : State) : Bool := s.flag Reg.LST_STAT_LOADED

/-! ### The fields of each block that no cell holds -/

def lstReads : List (Fld × Reader) :=
  [(Reg.LST_SPARE_FREE, fun s _ _ _ => s.lst.free), (Reg.LST_SPARE_HELD, fun s _ _ _ => s.lst.held.length),
   (Reg.LST_STAGED_PAGES, fun s _ _ _ => s.lst.staged.length)]

def clrReads : List (Fld × Reader) :=
  [(Reg.CLR_STAT_CTX, fun s _ i _ => (s.clr.frames.filter (fun f => match f.stage with
     | .clicker c _ => c == i
     | _ => false)).length),
   (Reg.CLR_FRAMES_LO_LO, fun s _ i _ => s.get Reg.CLR_FRAMES_FULL i % 2 ^ 32),
   (Reg.CLR_CHECK_PAD_ANY, fun s _ _ _ => b2n s.padAny), (Reg.CLR_PUNT_RATE_RATE, fun s _ _ _ => s.puntRate),
   (Reg.CLR_PUNT_BURST_BURST, fun s _ _ _ => s.puntBurst), (Reg.CLR_PUNT_LEVEL_TOKENS, fun s _ _ _ => s.puntLevel),
   (Reg.CLR_DEPTH_BYTES, fun s _ _ p => s.depthBytes p), (Reg.CLR_DEPTH_HDRS, fun s _ _ p => s.depthHdrs p),
   (Reg.CLR_DEPTH_DFLT_DROP, fun s _ _ p => s.dfltDrop p), (Reg.CLR_RO_OCC_OCC, fun s _ _ p => s.slots p)]

def fabReads : List (Fld × Reader) := [(Reg.FAB_XFER_LO_LO, fun s _ i _ => s.fabNow.get Reg.FAB_XFER_FULL i % 2 ^ 32)]

def solReads : List (Fld × Reader) :=
  [(Reg.SOL_FREE_CELLS, fun s _ _ _ => s.cellsPresent - s.allocated),
   (Reg.SOL_SHARED_F, fun s _ _ _ => if s.lastOn then s.sharedFree else 0),
   (Reg.SOL_SIZE_S, fun s _ _ _ => if s.lastOn then s.sharedSize else 0),
   (Reg.SOL_RESERVE_X, fun s _ _ _ => s.pool .reserve),
   (Reg.SOL_CT_MAP_CT, fun s _ _ p => svcMask (fun v => s.svcCt (8 * p + v)))]

def schReads : List (Fld × Reader) :=
  [(Reg.SCH_STAT_ACTIVE, fun s _ p _ => svcMask (fun v => s.clr.copies.any (fun c => c.svc == 8 * p + v && c.st == .queued))),
   (Reg.SCH_STAT_ELIGIBLE, fun s _ p _ => svcMask (fun v => (s.eligible p v).isSome)),
   (Reg.SCH_STAT_GATE, fun s _ p _ => svcMask (fun v => s.gateOpen p v)),
   (Reg.SCH_STAT_PS_NEG, fun s _ p _ => b2n (s.portShape p != 0 && decide ((s.portBucket p).level < 0))),
   (Reg.SCH_STAT_PREEMPTED, fun s _ p _ => b2n (s.clr.copies.any (fun c => c.port == p && c.st == .preempted))),
   (Reg.SCH_PORT_RATE_PRATE, fun s _ p _ => s.portShape p), (Reg.SCH_PORT_BURST_PBURST, fun s _ p _ => s.portBurst p),
   (Reg.SCH_PORT_LEVEL_LEVEL, fun s _ p _ => ofSigned 32 (s.portBucket p).whole),
   (Reg.SCH_SVC_CFG_MODE, fun s _ p _ => s.svcModeMask p), (Reg.SCH_SVC_CFG_EXEMPT, fun s _ p _ => s.svcExemptMask p),
   (Reg.SCH_DFLT_DFLT_Q, fun s _ p _ => s.dfltQ p), (Reg.SCH_DFLT_PUNT_Q, fun s _ p _ => s.puntQ p),
   (Reg.SCH_PENDING_COUNT, fun s _ p _ => s.pendingChanges p),
   (Reg.SCH_CREDIT_CREDIT, fun s _ p v => if s.svcCB p v then ofSigned 32 (s.creditNow (8 * p + v)).whole else 0)]

def timReads : List (Fld × Reader) :=
  [(Reg.TIM_DOM_STAT_HRC, fun s _ _ _ => s.get Reg.CGU_STAT_LOADS),
   (Reg.TIM_DOM_CFG_EN, fun s _ _ d => b2n (s.domEn d)), (Reg.TIM_DOM_CFG_NUMBER, fun s _ _ d => s.ptp d 1 0 % 128),
   (Reg.TIM_DOM_CFG_LOCK_THR, fun s _ _ d => s.lockThr d), (Reg.TIM_DOM_LIM_HOLDOVER, fun s _ _ d => s.ptp d 3 1000),
   (Reg.TIM_DOM_LIM_STEP_THR, fun s _ _ d => s.ptp d 4 1),
   (Reg.TIM_EVT_NS_NS, fun s _ _ i => s.evtWord i % 2 ^ 30), (Reg.TIM_EVT_NS_RISING, fun s _ _ i => bits (s.evtWord i) 30 1),
   (Reg.TIM_EVT_NS_VALID, fun s _ _ i => bits (s.evtWord i) 31 1),
   (Reg.TIM_EVT_SEC_HI_LEVEL, fun s _ _ i => (s.evts i).length)]

def lceReads : List (Fld × Reader) :=
  [(Reg.LCE_STAT_SYNC_FOLLOW, fun s _ p _ => b2n (s.laceRuns p && s.follows (s.lce p).oper))]

def macReads : List (Fld × Reader) :=
  [(Reg.MAC_CFG_MODE, fun s _ p _ => s.portMode p), (Reg.MAC_CFG_FEC, fun s _ p _ => s.portFec p),
   (Reg.MAC_CFG_RX_PAUSE, fun s _ p _ => b2n (s.rxPause p)), (Reg.MAC_CFG_TX_PAUSE, fun s _ p _ => b2n (s.txPause p)),
   (Reg.MAC_CFG_PFC, fun s _ p _ => b2n (s.pfc p)), (Reg.MAC_CFG_XOFF, fun s _ p _ => s.xoff p),
   (Reg.MAC_CFG_XON, fun s _ p _ => s.xon p), (Reg.MAC_MAX_FRAME_MAX, fun s _ p _ => s.maxFrame p),
   (Reg.MAC_CAUTIOUS_DEVICE, fun s _ _ _ => b2n s.devCautious), (Reg.MAC_ADDR_LO_ADDR, fun s _ p _ => s.pm 0 p 8 4 0 32),
   (Reg.MAC_ADDR_HI_ADDR, fun s _ p _ => s.pm 0 p 12 2 0 16),
   (Reg.MAC_CNT_LO_LO, fun s _ p k => (s.get Reg.MAC_CNT_FULL p k + if k = 29 then s.heldUs p else 0) % 2 ^ 32)]

def sdsReads : List (Fld × Reader) :=
  [(Reg.SDS_EQ_TX_AMP, fun s _ p _ => s.pm 0 p 15 1 0 8), (Reg.SDS_EQ_TX_PRE, fun s _ p _ => s.pm 0 p 16 1 0 4),
   (Reg.SDS_EQ_TX_POST, fun s _ p _ => s.pm 0 p 16 1 4 4)]

def t1sReads : List (Fld × Reader) :=
  [(Reg.T1S_PLCA_CFG_EN, fun s _ n _ => b2n (s.plcaEn (24 + n))), (Reg.T1S_PLCA_CFG_NODE_ID, fun s _ n _ => s.pm 0 (24 + n) 19 1 0 8),
   (Reg.T1S_PLCA_CFG_NODE_COUNT, fun s _ n _ => s.pm 8 (24 + n) 20 1 0 8),
   (Reg.T1S_PLCA_CFG_TO_TIMER, fun s _ n _ => s.pm 32 (24 + n) 21 1 0 8),
   (Reg.T1S_BURST_MAX_BURST, fun s _ n _ => s.pm 0 (24 + n) 22 1 0 8),
   (Reg.T1S_BURST_BURST_TIMER, fun s _ n _ => s.pm 128 (24 + n) 24 2 0 16)]

def awlReads : List (Fld × Reader) :=
  [(Reg.AWL_STAT_RUNNING, fun s _ e _ => b2n (s.awlRuns e)), (Reg.AWL_STAT_QUEUE, fun s _ e _ => (s.apQueue e).length),
   (Reg.AWL_MSGS_LO_LO, fun s _ e _ => s.get Reg.AWL_MSGS_FULL e % 2 ^ 32),
   (Reg.AWL_BUNDLE_PORT_PORT, fun s _ _ _ => if s.hasSec 9 then s.secLE 9 (5636 * 256) 2 else 49411)]

def canReads : List (Fld × Reader) :=
  [(Reg.CAN_BT_NOM_BT, fun s _ c _ => s.canHdr c 0 4), (Reg.CAN_BT_FD_BT, fun s _ c _ => s.canHdr c 4 4),
   (Reg.CAN_BT_XL_BT, fun s _ c _ => s.canHdr c 8 4), (Reg.CAN_CFG_EN, fun s _ c _ => s.canHdr c 12 1 % 32),
   (Reg.CAN_CFG_CH_EN, fun s _ c _ => b2n (s.canEn c)), (Reg.CAN_CFG_TDCO, fun s _ c _ => s.canHdr c 13 1),
   (Reg.CAN_CFG_REC_DELAY, fun s _ c _ => s.canHdr c 14 2), (Reg.CAN_OCC_RX_FRAMES, fun s _ c _ => (s.can c).rx.length),
   (Reg.CAN_OCC_RX_BYTES, fun s _ c _ => (s.can c).rxBytes), (Reg.CAN_OCC_TX_BUFS, fun s _ c _ => (s.can c).tx.length)]

def linReads : List (Fld × Reader) :=
  [(Reg.LIN_CFG_ROLE, fun s _ l _ => b2n (s.linCommander l)), (Reg.LIN_CFG_DFLT_TABLE, fun s _ l _ => s.linDflt l),
   (Reg.LIN_CFG_EN, fun s _ l _ => b2n (s.linEn l)), (Reg.LIN_CFG_BITRATE, fun s _ l _ => s.linRate l)]

def tcaReads : List (Fld × Reader) :=
  [(Reg.TCA_EVT_INDEX, fun s _ _ _ => s.tcaEvtWord), (Reg.TCA_EVT_TYPE, fun s _ _ _ => bits s.tcaEvtWord 28 3),
   (Reg.TCA_EVT_VALID, fun s _ _ _ => bits s.tcaEvtWord 31 1)]

/-- The mask of the pages of DEV_IRQ_SUM[k] that drive an INT_N pin (R306). -/
def State.irqSum (s : State) (k : Nat) : Nat :=
  allPages.foldl (fun a p => a + b2n (p / 32 == k && Nat.land (s.irqStat p) (s.get Reg.PG_IRQ_EN_EN p) != 0) * 2 ^ (p % 32)) 0

def devReads : List (Fld × Reader) := [(Reg.DEV_IRQ_SUM_PAGES, fun s _ _ k => s.irqSum k)]

/-- Host reads that hold a tag (R298). -/
def State.outstanding (s : State) : Nat :=
  (s.wlt.flight.filter (fun q => match q with
    | .read _ _ _ => true
    | .write _ => false)).length

def wltReads : List (Fld × Reader) := [(Reg.WLT_STAT_OUTSTANDING, fun s _ _ _ => s.outstanding)]

def sbpReads : List (Fld × Reader) :=
  [(Reg.SBP_ALERT_STAT_INT, fun s _ _ _ => bits s.alertStat 0 1), (Reg.SBP_ALERT_STAT_NMI, fun s _ _ _ => bits s.alertStat 1 1),
   (Reg.SBP_ALERT_STAT_HEARTBEAT, fun s _ _ _ => bits s.alertStat 3 1), (Reg.SBP_ALERT_STAT_LINK, fun s _ _ _ => bits s.alertStat 4 1),
   (Reg.SBP_ALERT_STAT_MBX, fun s _ _ _ => bits s.alertStat 5 1)]

/-- Milliseconds until the firmware watchdog expires, the whole time while it does not run (R330). -/
def State.fwRemain (s : State) : Nat :=
  let all := s.get Reg.WDG_FW_CFG_TIMEOUT
  match s.wdg.fwAt with
  | some t => all - (s.now - t) / 1000000
  | none => all

def wdgReads : List (Fld × Reader) := [(Reg.WDG_FW_STAT_REMAIN, fun s _ _ _ => s.fwRemain)]

def cguReads : List (Fld × Reader) :=
  [(Reg.CGU_TRIM_SRC_SRC, fun s _ _ _ => s.fbSrc), (Reg.CGU_TRIM_SRC_IDX, fun s _ _ _ => s.fbIdx),
   (Reg.CGU_BEACON_NS, fun s _ _ _ => s.beaconNs), (Reg.CGU_HRC_USER, fun s _ _ _ => ofSigned 10 s.hrcUser),
   (Reg.CGU_LRC_USER, fun s _ _ _ => ofSigned 8 s.lrcUser), (Reg.CGU_XCAP_USER, fun s _ _ _ => ofSigned 6 s.xcapUser)]

def pwrReads : List (Fld × Reader) :=
  [(Reg.PWR_CFG_PARTIAL, fun s _ _ _ => b2n s.partialOn), (Reg.PWR_DOM_STAT_POWERED, fun s _ _ _ => s.pwr.powered / 2),
   (Reg.PWR_DOM_HELD_HELD, fun s _ _ _ => s.domHeld / 2), (Reg.PWR_DOM_USED_USED, fun s _ _ _ => s.pwr.used / 2)]

/-- The level of WAKE_IN[i]: its activity, read through POL (R365). -/
def State.wakePinLevel (s : State) (i : Nat) : Bool := AMap.get (fun _ => false) s.wak.pins i == bit (s.secLE 0xD i 1) 2

def wakReads : List (Fld × Reader) :=
  [(Reg.WAK_STAT_ASLEEP, fun s _ _ _ => s.asleepCount), (Reg.WAK_STAT_DEFINED, fun s _ _ _ => s.definedCount),
   (Reg.WAK_IN_CFG_PIN, fun s _ _ i => s.secLE 0xD i 1), (Reg.WAK_IN_CFG_LEVEL, fun s _ _ i => b2n (s.wakePinLevel i)),
   (Reg.WAK_BASIC_LO_CH, fun s _ _ _ => s.secLE 0xD 24 4), (Reg.WAK_BASIC_HI_CH, fun s _ _ _ => s.secLE 0xD 28 4),
   (Reg.WAK_BASIC_FT_FT, fun s _ _ _ => clampNat 1 10 (s.secLE 0xD 20 1 % 16))]

def txmReads : List (Fld × Reader) :=
  [(Reg.TXM_CH_STAT_PROFILE, fun s m _ _ => s.txmPick m % 32), (Reg.TXM_CH_STAT_EN, fun s m _ _ => bits (s.txmPick m) 7 1),
   (Reg.TXM_CTL_CFG_DIV, fun s _ _ k => if s.hasSec 0xC then s.secLE 0xC (8 * 256 + 8 * k) 1 else 9),
   (Reg.TXM_CTL_CFG_MODE, fun s _ _ k => s.secLE 0xC (8 * 256 + 8 * k + 1) 1 % 4)]

/-- Seconds left of the trial (R395). -/
def State.trialLeft (s : State) : Nat :=
  match s.upd.trialAt with
  | some t => s.upd.trialSecs - (s.now - t) / 1000000000
  | none => 0

def updReads : List (Fld × Reader) :=
  [(Reg.UPD_TRIAL_LEFT_SECONDS, fun s _ _ _ => s.trialLeft), (Reg.UPD_VEH_STATE_VMOVE, fun s _ _ _ => b2n s.upd.vmove),
   (Reg.UPD_VEH_STATE_SPEED, fun s _ _ _ => b2n s.tooFast), (Reg.UPD_VEH_STATE_ANY, fun s _ _ _ => b2n s.moving)]

def mirReads : List (Fld × Reader) := [(Reg.MIR_MARGIN_CELLS, fun s _ _ _ => s.mirrorMargin (s.get Reg.LST_EPOCH_CUR))]

/-- The fields of a block type that no cell holds. -/
def blockReads (t : Nat) : List (Fld × Reader) :=
  match t with
  | 0x01 => devReads
  | 0x03 => cguReads
  | 0x04 => pwrReads
  | 0x05 => wakReads
  | 0x06 => txmReads
  | 0x08 => wdgReads
  | 0x09 => wltReads
  | 0x0B => sbpReads
  | 0x0D => updReads
  | 0x0E => lstReads
  | 0x10 => clrReads
  | 0x13 => fabReads
  | 0x14 => solReads
  | 0x16 => mirReads
  | 0x17 => schReads
  | 0x18 => timReads
  | 0x19 => lceReads
  | 0x1A => macReads
  | 0x1B => sdsReads
  | 0x1C => t1sReads
  | 0x1D => awlReads
  | 0x1E => canReads
  | 0x1F => linReads
  | 0x20 => tcaReads
  | _ => []

/-- The fields of a block type at offsets from 0x080, with its PG_IRQ_STAT bits and its own PG_ERR_CAPT0. -/
def blockFields (t : Nat) : List Fld :=
  match t with
  | 0x01 => Reg.fieldsDEV
  | 0x02 => Reg.fieldsFUS
  | 0x03 => Reg.fieldsCGU
  | 0x04 => Reg.fieldsPWR
  | 0x05 => Reg.fieldsWAK
  | 0x06 => Reg.fieldsTXM
  | 0x07 => Reg.fieldsFLT
  | 0x08 => Reg.fieldsWDG
  | 0x09 => Reg.fieldsWLT ++ [Reg.WLT_ERR_CAPT0_ADDR]
  | 0x0A => Reg.fieldsHDM
  | 0x0B => Reg.fieldsSBP
  | 0x0C => Reg.fieldsMBX
  | 0x0D => Reg.fieldsUPD
  | 0x0E => Reg.fieldsLST
  | 0x10 => Reg.fieldsCLR
  | 0x11 => Reg.fieldsRUL
  | 0x12 => Reg.fieldsMTR
  | 0x13 => Reg.fieldsFAB
  | 0x14 => Reg.fieldsSOL
  | 0x15 => Reg.fieldsCBR
  | 0x16 => Reg.fieldsMIR
  | 0x17 => Reg.fieldsSCH
  | 0x18 => Reg.fieldsTIM
  | 0x19 => Reg.fieldsLCE
  | 0x1A => Reg.fieldsMAC ++ Reg.fieldsMDIO
  | 0x1B => Reg.fieldsSDS
  | 0x1C => Reg.fieldsT1S
  | 0x1D => Reg.fieldsAWL
  | 0x1E => Reg.fieldsCAN
  | 0x1F => Reg.fieldsLIN
  | 0x20 => Reg.fieldsTCA ++ [Reg.TCA_ERR_CAPT0_WORD]
  | 0x21 => Reg.fieldsTKM
  | _ => []

/-- The element of a field that the register at an offset of a page shows, if it shows one. -/
def fieldElem (f : Fld) (page off : Nat) : Option Nat :=
  if decide (f.page ≤ page) && decide (page < f.page + f.pages) && decide (f.lo < 32) && decide (f.off ≤ off) &&
     decide ((off - f.off) / f.stride < f.count) && (off - f.off) % f.stride == 0
  then some ((off - f.off) / f.stride) else none

/-- The common registers of a page of block type t (R404); on the WLT and TCA pages the field of PG_ERR_CAPT0 is the
block's own in place of OFFSET (R297, R288). -/
def commonFields (t : Nat) : List Fld :=
  if t = 0x09 || t = 0x20 then Reg.fieldsPG.filter (fun f => f != Reg.PG_ERR_CAPT0_OFFSET) else Reg.fieldsPG

/-- The fields of the register at an offset of a page, each with its element. -/
def fieldsAt (page off : Nat) : List (Fld × Nat) :=
  ((if off < 0x80 then commonFields (pageType page) else []) ++ blockFields (pageType page)).filterMap
    (fun f => (fieldElem f page off).map (fun j => (f, j)))

/-- The value of a field as master m reads it: a WO field reads 0 (R9). -/
def State.fieldValue (s : State) (m : Master) (page : Nat) (f : Fld) (j : Nat) : Nat :=
  let i := page - f.page
  match f.access with
  | .wo => 0
  | _ =>
    match ((if f.off < 0x80 then headerReads else []) ++ blockReads (pageType page)).find? (fun r => r.1 == f) with
    | some r => r.2 s m i j % 2 ^ f.width
    | none => s.get f i j (if f.perMaster then m.code else 0)

/-- Four bytes of the mailbox buffers (R320). -/
def State.mbxWord (s : State) (off : Nat) : Nat :=
  leNat ((List.range 4).map (fun k =>
    if off < 0xC00 then AMap.get (fun _ => 0) s.mbx.req (off - 0x800 + k) else AMap.get (fun _ => 0) s.mbx.rsp (off - 0xC00 + k)))

/-- A word of the posted-error log: entry e is 16 bytes from offset 0x100 + 16e, and WLT_PERR_STAT.HEAD is the place of the
oldest (R302). -/
def State.perrWord (s : State) (off : Nat) : Nat :=
  let e := (off - 0x100) / 16
  match s.perrs[(e + 16 - s.get Reg.WLT_PERR_STAT_HEAD % 16) % 16]? with
  | none => 0
  | some x =>
    match (off - 0x100) % 16 / 4 with
    | 0 => x.addr % 2 ^ 26
    | 1 => x.be % 16 + x.code % 256 * 2 ^ 8 + b2n x.confirmed * 2 ^ 16 + x.dwords % 2 ^ 12 * 2 ^ 20
    | 2 => x.seq % 2 ^ 32
    | _ => x.time % 2 ^ 32

/-- The word that the register at an offset of a page returns to master m, with no side effect (R10).  Reserved offsets
read 0. -/
def State.readWord (s : State) (m : Master) (page off : Nat) : Nat :=
  if pageType page = 0x0C && decide (0x800 ≤ off) then s.mbxWord off
  else if pageType page = 0x09 && decide (0x100 ≤ off) && decide (off < 0x200) then s.perrWord off
  else (fieldsAt page off).foldl (fun w x => w + s.fieldValue m page x.1 x.2 * 2 ^ x.1.lo) 0

/-- The 64-bit count behind a high word that an ordinary read takes from its master's latch (R227). -/
def liveCount (f : Fld) : Option Fld :=
  if f = Reg.CLR_FRAMES_HI_HI then some Reg.CLR_FRAMES_FULL
  else if f = Reg.FAB_XFER_HI_HI then some Reg.FAB_XFER_FULL
  else if f = Reg.MAC_CNT_HI_HI then some Reg.MAC_CNT_FULL
  else if f = Reg.AWL_MSGS_HI_HI then some Reg.AWL_MSGS_FULL
  else none

/-- The state in which count c of instance i, entry j, has reached the present: a pause that goes on counts by the time (R224),
a slice serves by the time (R127). -/
def State.countSync (s : State) (c : Fld) (i j : Nat) : State :=
  if c = Reg.MAC_CNT_FULL && j == 29 then s.heldSync i else if c = Reg.FAB_XFER_FULL then s.fabNow else s

/-- The word that a peek returns to master m: as an ordinary read, but the live high word of a count (R10, R227). -/
def State.peekWord (s : State) (m : Master) (page off : Nat) : Nat :=
  match (fieldsAt page off).findSome? (fun x => (liveCount x.1).map (fun c => (c, page - x.1.page, x.2))) with
  | some (c, i, j) => (s.countSync c i j).get c i j / 2 ^ 32
  | none => s.readWord m page off

/-- Why a read of a register ends in an error (R17, R339, R402, R407). -/
def State.readErr (s : State) (page off : Nat) : Option AccErr :=
  if s.heelStands then some .timeout
  else if !pageDefined page then some .reserved
  else if off < 0x10 then none
  else if !s.pagePowered page then some .notPowered
  else if s.pageHeld page then some .blockReset
  else none

/-! ### Side effects of an ordinary read -/

/-- Read the low word of a 64-bit counter (R227): all 64 bits are cleared and the high word is kept for the master. -/
def State.lowRead (s : State) (m : Master) (full hi : Fld) (i j : Nat) : State :=
  let v := s.get full i j
  (s.put hi (v / 2 ^ 32) i j m.code).put full 0 i j

/-- What an ordinary read of one field does. -/
def State.fieldRead (s : State) (m : Master) (page : Nat) (f : Fld) (j : Nat) : State :=
  let i := page - f.page
  if f = Reg.CLR_FRAMES_LO_LO then s.lowRead m Reg.CLR_FRAMES_FULL Reg.CLR_FRAMES_HI_HI i j
  else if f = Reg.FAB_XFER_LO_LO then s.fabNow.lowRead m Reg.FAB_XFER_FULL Reg.FAB_XFER_HI_HI i j
  else if f = Reg.MAC_CNT_LO_LO then (if j = 29 then s.heldSync i else s).lowRead m Reg.MAC_CNT_FULL Reg.MAC_CNT_HI_HI i j
  else if f = Reg.AWL_MSGS_LO_LO then s.lowRead m Reg.AWL_MSGS_FULL Reg.AWL_MSGS_HI_HI i j
  else if f = Reg.TIM_EVT_NS_NS then s.evtPop j
  else if f = Reg.TCA_EVT_INDEX then s.tcaEvtPop
  else if f.page = 0x0A0 && f.off == 0x100 || f.page == 0x170 && f.off == 0x098 then s
  else if f.access = .rc then s.put f (f.dflt j) i j
  else s

/-- What an ordinary read of a register does. -/
def State.readEffect (s : State) (m : Master) (page off : Nat) : State :=
  (fieldsAt page off).foldl (fun s x => s.fieldRead m page x.1 x.2) s

/-- An ordinary read of a register by master m: its word, and the state after. -/
def State.readReg (s : State) (m : Master) (page off : Nat) : Nat × State :=
  let v := s.readWord m page off
  (v, { s.readEffect m page off with rd := AMap.ins s.rd m.code v })

/-- Record a failed host read on the WLT page (R297). -/
def State.readFail (s : State) (addr : Nat) (code : Nat) : State :=
  let s := s.inc Reg.PG_ERR_COUNT_COUNT 1 pgWLT
  let s := (s.put Reg.WLT_ERR_CAPT0_ADDR addr).put Reg.PG_ERR_CAPT1_CODE code pgWLT
  let s := (s.put Reg.PG_ERR_CAPT2_MASTER 0 pgWLT).put Reg.PG_ERR_CAPT2_WRITE 0 pgWLT
  s.put Reg.PG_ERR_CAPT3_TIME s.time32 pgWLT

/-- A read that stands as a command of its own, by its master: its word is kept in `rd`, and a failure is reported as R297
says. -/
def State.readCmd (s : State) (m : Master) (page off : Nat) : State :=
  if m = .sideband && !s.sbOn then s else
  match s.readErr page off with
  | none => (s.readReg m page off).2
  | some e =>
    match m with
    | .host => s.readFail (page * 4096 + off) e.code
    | .sideband => { s with sbResp := ⟨e.status, 0, []⟩ }
    | .firmware => s

/-- COUNTER_LOW_READ: an ordinary read of a 64-bit counter's low word. -/
def counterLowRead (m : Master) (c : Counter64) (s : State) : State :=
  match c with
  | .clrFrames i => s.readCmd m (0x040 + i) 0x084
  | .fabXfer i => s.readCmd m (0x060 + i) 0x094
  | .macCnt p k => s.readCmd m (0x0D0 + p) (0x200 + 8 * k)
  | .awlMsgs e => s.readCmd m (0x110 + e) 0x084

/-- EVT_READ: an ordinary read of TIM_EVT_NS[i]. -/
def evtRead (m : Master) (i : Nat) (s : State) : State := s.readCmd m pgTIM (0x100 + 16 * i)

/-- TCA_EVT_READ. -/
def tcaEvtRead (m : Master) (s : State) : State := s.readCmd m pgTCA 0x098

/-- CLEAR_ON_READ: an ordinary read of a register (R9). -/
def clearOnRead (m : Master) (page off : Nat) (s : State) : State := s.readCmd m page off

end Sys2Proof.Machine
end

