-- ==== Sys2Proof/Machine/Writes.lean ====
section
/-! DEFINITION. Register writes (R9, R11, R12, R39, R402–R411): the fields of a register by access type, and the registers
whose writes act. -/
namespace Sys2Proof.Machine

/-! ### Fields by access type -/

/-- Write one field of a register (R9); a changed RWD field while ENABLE = 1 is counted (R11). -/
def State.writeField (s : State) (m : Master) (page off : Nat) (f : Fld) (j w : Nat) : State :=
  let i := page - f.page
  let c := if f.perMaster then m.code else 0
  let v := bits w f.lo f.width
  match f.access with
  | .rw => s.put f v i j c
  | .wo => s.put f v i j c
  | .w1c => s.put f (Nat.land (s.get f i j c) (2 ^ f.width - 1 - v)) i j c
  | .w1s => s.put f (Nat.lor (s.get f i j c) v) i j c
  | .rwd => if !s.flag Reg.PG_CTRL_ENABLE page then s.put f v i j c
            else if v = s.get f i j c then s else s.err page off ecRWD m
  | .ro => s
  | .rc => s

/-- Write the fields of the register at an offset of a page. -/
def State.writeFields (s : State) (m : Master) (page off w : Nat) : State :=
  (fieldsAt page off).foldl (fun s x => s.writeField m page off x.1 x.2 w) s

/-! ### Stored limits -/

/-- Store a value in a field of an instance and element. -/
def stored (f : Fld) (v : Nat) (i : Nat := 0) (j : Nat := 0) (s : State) : State := s.put f v i j

/-- 0 is stored as 1. -/
def orOne (v : Nat) : Nat := if v = 0 then 1 else v

/-- A change that does nothing. -/
def keep (s : State) : State := s

/-- An owner-locked register is not written; the write is counted (R397). -/
def State.ownerFree (s : State) (m : Master) (off : Nat) (k : State → State) : State :=
  if s.ownerLocked then s.err pgUPD off ecLOCKED m else k s

/-- A write of TIM_SYNC_CFG: the settings, then EN (R206).  DOMAIN, POL and PERIOD written while EN = 1 wait for the next write
of EN from 0 to 1 (R205). -/
def State.syncCfg (s : State) (w : Nat) : State :=
  let s := (s.put Reg.TIM_SYNC_CFG_DOMAIN (bits w 1 1)).put Reg.TIM_SYNC_CFG_POL (bits w 2 1)
  let s := if s.flag Reg.TIM_SYNC_CFG_EN then s else s.syncTakeCfg
  (s.put Reg.TIM_SYNC_CFG_MISS (orOne (bits w 8 4))).syncEn (bit w 0)

/-- A write of TIM_SYNC_PERIOD, clamped to its range. -/
def State.syncPeriod (s : State) (w : Nat) : State :=
  let s := s.put Reg.TIM_SYNC_PERIOD_PERIOD (clampNat 1000 1000000000 w)
  if s.flag Reg.TIM_SYNC_CFG_EN then s else s.syncTakePeriod

/-- A write of TIM_TRG_CFG[i]: the settings, then EN (R210). -/
def State.trgCfg (s : State) (i w : Nat) : State :=
  let s := (s.put Reg.TIM_TRG_CFG_MODE (bits w 1 2) 0 i).put Reg.TIM_TRG_CFG_DOMAIN (bits w 3 1) 0 i
  (s.put Reg.TIM_TRG_CFG_WIDTH (bits w 8 24) 0 i).trgEn i (bit w 0)

/-- A write of WLT_PERR_ACK: the n oldest entries are freed, and HEAD moves past them (R302). -/
def State.perrAck (s : State) (n : Nat) : State :=
  let k := min n s.perrs.length
  let s := { s with perrs := s.perrs.drop k }
  (s.put Reg.WLT_PERR_STAT_COUNT s.perrs.length).put Reg.WLT_PERR_STAT_HEAD (s.get Reg.WLT_PERR_STAT_HEAD + k)

/-- A write of a ring's BASE: ignored and counted while the ring runs (R308). -/
def State.ringBase (s : State) (m : Master) (tx : Bool) (r off w : Nat) : State :=
  if s.flag (rEN tx) 0 r then s.err pgHDM off ecSTATE m else s.writeFields m pgHDM off w

/-- A write of a mailbox request word (R320). -/
def State.mbxPut (s : State) (off w : Nat) : State :=
  if 0xC00 ≤ off then s
  else s.mbxSet (fun x => { x with
    req := (leBytes 4 w).zipIdx.foldl (fun b c => AMap.set (fun _ => 0) b (off - 0x800 + c.2) c.1) x.req })

/-! ### The registers whose writes act -/

/-- How a page takes a write at an offset: with the lock of R411, without it, as a snapshot selector, or by a path of its
own. -/
inductive WritePath where
  | gate (k : State → State)
  | free (k : State → State)
  | sel (change : Bool) (k : State → State)
  | own (a : Acc)

/-- CGU, PWR, WAK, TXM, FLT and WDG. -/
def heelWrite (s : State) (m : Master) (t off w : Nat) : Option WritePath :=
  match t, off with
  | 0x03, 0x084 => some (.gate (fun s => s.cguCtrl (bit w 0) (bit w 1)))
  | 0x04, 0x08C => some (.gate (fun s => s.domReqWrite m w))
  | 0x04, 0x09C => some (.gate (stored Reg.PWR_SUP_CFG_WARN_MV (clampNat 680 740 (bits w 0 10))))
  | 0x05, 0x088 => some (.gate (fun s => s.wakeReqHost m w))
  | 0x05, 0x08C => some (.gate (fun s => s.wakeReqSb m w))
  | 0x05, 0x0B0 => some (.sel false (fun s => s.wakClSel m (bits w 0 5)))
  | 0x06, 0x080 => some (.gate (fun s => s.txmWrite (bits w 0 6) (bits w 8 2) (bit w 16)))
  | 0x06, 0x084 => some (.sel false (fun s => s.txmChSel m (bits w 0 6)))
  | 0x07, 0x084 => some (.gate (fun s => if bit w 0 then s.fltClear else s))
  | 0x07, 0x0A0 => some (.sel (bit w 16) (fun s => s.fltCntSel m (bits w 0 16) (bit w 16)))
  | 0x08, 0x080 => some (.gate (stored Reg.WDG_FW_CFG_TIMEOUT (clampNat 10 1000 (bits w 0 10))))
  | 0x08, 0x084 => some (.free (fun s => s.fwKick m (bits w 0 16)))
  | 0x08, 0x090 => some (.gate (fun s => s.hbCfg (bit w 0) (bits w 16 16)))
  | 0x08, 0x094 => some (.free (fun s => s.hbKick m))
  | 0x01, 0x084 => some (.gate (fun s => s.devReset m (bits w 0 16)))
  | 0x01, 0x0D0 => some (.own (s.ownerAcc m w))
  | _, _ => none

/-- WLT, HDM and MBX. -/
def hostWrite (m : Master) (t off w : Nat) : Option WritePath :=
  match t with
  | 0x09 => if off = 0x0D8 then some (.gate (fun s => s.perrAck (bits w 0 5))) else none
  | 0x0A =>
    if off < 0x100 || 0x300 ≤ off then none
    else
      let tx := decide (0x200 ≤ off)
      let r := off % 0x100 / 0x20
      match off % 0x20 with
      | 0x00 => some (.gate (fun s => s.ringBase m tx r off w))
      | 0x04 => some (.gate (fun s => s.ringBase m tx r off w))
      | 0x08 => some (.gate (fun s => s.ringCfg m tx r (bit w 0) (bit w 1) (bits w 8 5) (bits w 16 7)))
      | 0x0C => some (.gate (fun s => s.ringTail m tx r (bits w 0 16)))
      | _ => none
  | 0x0C =>
    if off = 0x080 then some (.gate (fun s => s.mbxCmd m (bits w 0 11) (bit w 16)))
    else if 0x800 ≤ off then some (.gate (fun s => s.mbxPut off w))
    else none
  | _ => none

/-- UPD and LST. -/
def updWrite (m : Master) (t off w : Nat) : Option WritePath :=
  match t, off with
  | 0x0D, 0x088 => some (.gate (fun s => s.updCmd m (bits w 0 3)))
  | 0x0D, 0x090 => some (.gate (fun s => s.armWrite (bit w 0) (bit w 1)))
  | 0x0D, 0x094 => some (.gate (fun s => s.restartWrite (bit w 0)))
  | 0x0D, 0x098 => some (.gate (fun s => s.confirmWrite (bit w 0)))
  | 0x0D, 0x09C => some (.gate (stored Reg.UPD_TRIAL_TIME_SECONDS (clampNat 10 3600 (bits w 0 12))))
  | 0x0D, 0x0A8 => some (.gate (fun s => s.ownerFree m off (stored Reg.UPD_VBAT_MIN_MV (clampNat 6000 16000 (bits w 0 16)))))
  | 0x0D, 0x0AC => some (.gate (fun s => s.ownerFree m off (fun s => s.writeFields m pgUPD off w)))
  | 0x0D, 0x0B0 => some (.gate (fun s => s.ownerFree m off (fun s => s.writeFields m pgUPD off w)))
  | 0x0D, 0x0B4 => some (.gate (fun s => s.ownerFree m off (fun s => s.writeFields m pgUPD off w)))
  | 0x0D, 0x0E4 => some (.gate (fun s => s.ownWrite (bits w 0 2) (bit w 4)))
  | 0x0E, 0x090 => some (.gate (fun s => s.csCtrl m (bit w 0) (bit w 1)))
  | 0x0E, 0x094 => some (.gate (fun s => s.csReg m Reg.LST_CS_COUNT_COUNT (bits w 0 14)))
  | 0x0E, 0x098 => some (.gate (fun s => s.csReg m Reg.LST_CS_CRC_CRC w))
  | 0x0E, 0x09C => some (.gate (fun s => s.csReg m Reg.LST_CS_BASE_GEN_BASE w))
  | 0x0E, 0x0A0 => some (.gate (fun s => if bit w 0 then s.commitGo m else s))
  | 0x0E, 0x0A4 => some (.gate (stored Reg.LST_DRAIN_LIMIT_LIMIT (clampNat 100 1000000 (bits w 0 20))))
  | 0x0E, 0x0A8 => some (.gate (fun s => s.reloadWrite m (bit w 0) (bit w 1) (bit w 2)))
  | _, _ => none

/-- The data path, the time base and Toecap; i is the instance. -/
def coreWrite (s : State) (m : Master) (t i off w : Nat) : Option WritePath :=
  match t, off with
  | 0x11, 0x080 => some (.sel (bit w 16) (fun s => s.fcSel m (bits w 0 16) (bit w 16)))
  | 0x12, 0x080 => some (.sel (bit w 16 || bit w 17) (fun s => s.mtrSel m (bits w 0 14) (bit w 16) (bit w 17)))
  | 0x13, 0x104 => if i = 0 then some (.gate (stored Reg.FAB_STALL_LIMIT (max 100 (bits w 0 16)))) else none
  | 0x13, 0x110 =>
    if i = 0 then some (.gate (fun s => s.govCtrl (bit w 0) (bit w 1) (bits w 8 7) (bits w 16 4) (bits w 24 8))) else none
  | 0x13, 0x114 =>
    if i = 0 then some (.gate (fun s =>
      stored Reg.FAB_GOV_TARGET_HYST (bits w 16 12) 0 0 (stored Reg.FAB_GOV_TARGET_TARGET (max 500 (bits w 0 12)) 0 0 s)))
    else none
  | 0x13, 0x118 =>
    let lim := clampNat (s.get Reg.FUS_VLIM_VMIN) (s.get Reg.FUS_VLIM_VMAX)
    if i = 0 then some (.gate (fun s =>
      stored Reg.FAB_GOV_VLIM_VMAX (lim (bits w 16 10)) 0 0 (stored Reg.FAB_GOV_VLIM_VMIN (lim (bits w 0 10)) 0 0 s)))
    else none
  | 0x14, 0x300 => some (.sel (bit w 16) (fun s => s.solSel m (bits w 0 6) (bits w 8 3) (bit w 16)))
  | 0x15, 0x080 => some (.gate (fun s => s.cbrEnable (bit w 0)))
  | 0x17, 0x100 => some (.sel false (fun s => s.schSubSel m i (bits w 0 11)))
  | 0x17, 0x140 => some (.sel false (fun s => s.schQSel m i (bits w 0 13)))
  | 0x18, 0x080 => some (.sel false (fun s => if bit w 0 then s.timeSnap m else s))
  | 0x18, 0x0C8 => some (.gate (fun s => s.ppsWrite (bit w 0) (bits w 1 1) (orOne (bits w 4 12))))
  | 0x18, 0x0CC => some (.gate (fun s => s.syncCfg w))
  | 0x18, 0x0D0 => some (.gate (fun s => s.syncPeriod w))
  | 0x18, 0x140 => some (.gate (fun s => s.trgCfg 0 w))
  | 0x18, 0x150 => some (.gate (fun s => s.trgCfg 1 w))
  | 0x18, 0x160 => some (.gate (fun s => s.trgCfg 2 w))
  | 0x18, 0x170 => some (.gate (fun s => s.trgCfg 3 w))
  | 0x20, 0x0A0 => some (.sel (bit w 16) (fun s => s.tcaPortSel m (bits w 0 5) (bit w 16)))
  | 0x21, 0x084 => some (.gate (fun s => s.ldCtrl m (bits w 0 11) (bits w 12 2) (bit w 14) (bit w 15) (bits w 16 4) (bits w 24 2)))
  | 0x21, 0x100 => some (.sel false (fun s => s.keySel m (bits w 0 11) (bits w 12 2)))
  | 0x21, 0x12C =>
    if bits w 0 2 = 1 then some (.sel false (fun s => s.fvRead m))
    else if bits w 0 2 = 2 then some (.gate (fun s => s.fvWrite m))
    else some (.gate keep)
  | _, _ => none

/-- Ports and channels; i is the instance. -/
def portWrite (m : Master) (t i off w : Nat) : Option WritePath :=
  match t, off with
  | 0x1A, 0x090 => some (.gate (fun s =>
      stored Reg.MAC_PAUSE_WD_IGNORE (orOne (bits w 16 16)) i 0 (stored Reg.MAC_PAUSE_WD_WD (orOne (bits w 0 16)) i 0 s)))
  | 0x1A, 0x098 => some (.gate (fun s => (s.put Reg.MAC_TEST_LOOP (bits w 0 2) i).testSync i))
  | 0x1A, off =>
    if i = 0 && 0x400 ≤ off && off < 0x440 && off % 16 == 4 then
      some (.gate (fun s => s.mdioStart m ((off - 0x400) / 16) (bit w 28) (bits w 26 2) (bits w 21 5) (bits w 16 5) (bits w 0 16)))
    else none
  | 0x1B, 0x084 => some (.gate (fun s =>
      (((s.put Reg.SDS_TEST_LOOP (bits w 0 2) i).put Reg.SDS_TEST_PRBS_TX (bits w 4 3) i).put Reg.SDS_TEST_PRBS_RX
        (bits w 8 3) i).testSync i))
  | 0x1C, 0x080 => some (.gate (fun s =>
      let s := s.t1sRequest (24 + i) (bits w 0 2)
      if bit w 2 then s.cableStart m (24 + i) else s))
  | 0x1D, 0x100 => some (.sel (bit w 16) (fun s => s.awlRtSel m i (bits w 0 14) (bit w 16)))
  | 0x1E, 0x080 => some (.gate (fun s => if bit w 0 then s.startRecovery i else s))
  | 0x1F, 0x080 => some (.gate (fun s =>
      let s := s.linAsk i (bits w 0 3)
      if bit w 4 then s.linWake i else s))
  | _, _ => none

/-- The path of a write at an offset from 0x080: one of its own, or the fields by access type. -/
def State.writePath (s : State) (m : Master) (page off w : Nat) : WritePath :=
  let t := pageType page
  let i := pageInst page
  let plain : WritePath := .gate (fun s => s.writeFields m page off w)
  match heelWrite s m t off w with
  | some r => r
  | none =>
    match hostWrite m t off w with
    | some r => r
    | none =>
      match updWrite m t off w with
      | some r => r
      | none =>
        match coreWrite s m t i off w with
        | some r => r
        | none => (portWrite m t i off w).getD plain

/-- A write of the common header (R403–R411); PG_IRQ_EN holds only the bits that PG_IRQ_STAT defines. -/
def State.headerWrite (s : State) (m : Master) (page off w : Nat) : Acc :=
  match off with
  | 0x008 => s.pgCtrl m page (bit w 0) (bit w 1) (bit w 2)
  | 0x010 => s.irqClear m page w
  | 0x014 => s.gate m page off (stored Reg.PG_IRQ_EN_EN (Nat.land w (irqMask page)) page)
  | 0x018 => s.irqForce m page w
  | 0x01C => s.gate m page off (stored Reg.PG_IRQ_ROUTE_ROUTE w page)
  | 0x034 => if bit w 0 then s.lockWrite m page else s.gate0 m page off keep
  | _ => if off < 0x10 then (if s.heelStands then (some .timeout, s) else if pageDefined page then (none, s) else (some .reserved, s)) else s.gate0 m page off keep

/-- A write of a 32-bit word to a register by master m: the access error if it ends in one, and the state after (R17,
R297). -/
def State.writeWord (s : State) (m : Master) (page off w : Nat) : Acc :=
  if off < 0x80 then s.headerWrite m page off w
  else
    match s.writePath m page off w with
    | .gate k => s.gate m page off k
    | .free k => s.gate0 m page off k
    | .sel change k => s.selWrite m page off change k
    | .own a => a

/-- REGISTER_WRITE: a write of a register, whichever it is (R9). -/
def registerWrite (m : Master) (page off w : Nat) (s : State) : State :=
  (s.command m page off (fun s => s.writeWord m page off w)).dueReset

end Sys2Proof.Machine
end

