-- ==== Sys2Proof/Machine/HostCmds.lean ====
section
/-! DEFINITION. The host's and the sideband's requests (R295–R302, R315–R319): BAR0 decoding, the Welt's tags, posted and
confirmed writes, the posted-error log, and the sideband opcodes. -/
namespace Sys2Proof.Machine

/-! ### BAR0 (R295, R296) -/

/-- The offset lies in a table window: the mailbox buffers. -/
def inWindow (addr : Nat) : Bool := addr / 4096 == pgMBX && decide (0x800 ≤ addr % 4096)

/-- A register access of n bytes at a page offset has an allowed size and alignment. -/
def regSize (addr n : Nat) : Bool := (n == 4 && addr % 4 == 0) || (inWindow addr && n == 8 && addr % 8 == 0)

/-- An access of n bytes by master m that writes at a BAR0 offset. -/
def State.busWrite (s : State) (m : Master) (addr : Nat) (bs : List Byte) : Acc :=
  if addr < 0x1000000 then
    if !regSize addr bs.length then (some .size, s)
    else
      match s.writeWord m (addr / 4096) (addr % 4096) (leNat (sub bs 0 4)) with
      | (none, t) => if bs.length = 8 then t.writeWord m (addr / 4096) (addr % 4096 + 4) (leNat (sub bs 4 4)) else (none, t)
      | e => e
  else if addr < 0x2000000 then s.stagingWrite m (addr - 0x1000000) bs
  else if addr < 0x3000000 then (none, s)
  else (some .reserved, s)

/-- A read of the register pages, with its side effects or as a peek. -/
def State.busReadReg (s : State) (m : Master) (peek : Bool) (addr n : Nat) : Option AccErr × List Byte × State :=
  let page := addr / 4096
  let off := addr % 4096
  if !regSize addr n then (some .size, [], s)
  else
    match s.readErr page off with
    | some e => (some e, [], s)
    | none =>
      if peek then (none, (List.range (n / 4)).flatMap (fun k => leBytes 4 (s.peekWord m page (off + 4 * k))), s)
      else if n = 8 then (none, leBytes 4 (s.readWord m page off) ++ leBytes 4 (s.readWord m page (off + 4)), s)
      else
        let r := s.readReg m page off
        (none, leBytes 4 r.1, r.2)

/-- An access of n bytes by master m that reads at a BAR0 offset. -/
def State.busRead (s : State) (m : Master) (addr n : Nat) : Option AccErr × List Byte × State :=
  if addr < 0x1000000 then s.busReadReg m false addr n
  else if addr < 0x2000000 then
    if !stagingSize (addr - 0x1000000) n then (some .size, [], s)
    else if s.heelStands then (some .timeout, [], s)
    else if !s.pagePowered pgLST then (some .notPowered, [], s)
    else if s.pageHeld pgLST then (some .blockReset, [], s)
    else (none, (List.range n).map (fun k => s.stagingByte (addr - 0x1000000 + k)), s)
  else if addr < 0x3000000 then s.busReadReg m true (addr - 0x2000000) n
  else (some .reserved, [], s)

/-! ### The Welt (R298–R301) -/

def State.wltSet (s : State) (f : Wlt → Wlt) : State := { s with wlt := f s.wlt }

/-- The 4 KiB page that an offset reaches: an offset in the peek alias reaches the register page behind it (R10, R295). -/
def pageOf (a : Nat) : Nat := if 0x2000000 ≤ a && a < 0x3000000 then a / 4096 - 0x2000 else a / 4096

/-- The 4 KiB page of a request. -/
def HostReq.page (q : HostReq) : Nat :=
  match q with
  | .read _ a _ => pageOf a
  | .write w => pageOf w.addr

/-- The request is a write; a confirmed one. -/
def HostReq.isWrite (q : HostReq) : Bool :=
  match q with
  | .read _ _ _ => false
  | .write _ => true
def HostReq.isConfirmed (q : HostReq) : Bool :=
  match q with
  | .read _ _ _ => false
  | .write w => w.confirmed

/-- The request is the read that holds a tag; the write with a sequence number. -/
def HostReq.hasTag (t : Nat) (q : HostReq) : Bool :=
  match q with
  | .read x _ _ => x == t
  | .write _ => false
def HostReq.hasSeq (n : Nat) (q : HostReq) : Bool :=
  match q with
  | .read _ _ _ => false
  | .write w => w.seq == n

/-- The lowest free tag. -/
def State.freeTag (s : State) : Option Nat := (List.range 64).find? (fun t => !s.wlt.flight.any (HostReq.hasTag t))

/-- The first-word byte enables of n bytes at an address. -/
def firstBE (addr n : Nat) : Nat := (List.range 4).foldl (fun a k => a + b2n (decide (addr % 4 ≤ k) && decide (k < addr % 4 + n)) * 2 ^ k) 0

/-- The Welt accepts a request and forwards it: nothing while a confirmed write is outstanding, and a read only under a free
tag. -/
def State.weltAccept (s : State) (q : HostReq) : Option State :=
  if s.wlt.flight.any HostReq.isConfirmed then none
  else
    match q with
    | .read _ a n => s.freeTag.map (fun t => s.wltSet (fun w => { w with flight := w.flight ++ [.read t a n] }))
    | .write w =>
      let seq := (s.get Reg.WLT_WR_SEQ_SEQ + 1) % 2 ^ 32
      let w := { w with seq := seq, confirmed := s.confirmed w.addr }
      some ((s.put Reg.WLT_WR_SEQ_SEQ seq).wltSet (fun x => { x with flight := x.flight ++ [.write w] }))

/-- Accept the withheld requests in arrival order, as far as they go. -/
def State.weltDrain (s : State) (qs : List HostReq) : State :=
  match qs with
  | [] => s.wltSet (fun w => { w with held := [] })
  | q :: r =>
    match s.weltAccept q with
    | some t => t.weltDrain r
    | none => s.wltSet (fun w => { w with held := qs })

/-- A host request arrives: behind those withheld, in arrival order (R298). -/
def State.hostIssue (s : State) (q : HostReq) : State :=
  if s.flag Reg.WLT_STAT_LINK_UP then s.weltDrain (s.wlt.held ++ [q]) else s

/-- PCIE_READ: a host read of n bytes at a BAR0 offset. -/
def pcieRead (addr n : Nat) (s : State) : State := s.hostIssue (.read 0 addr n)

/-- PCIE_WRITE_POSTED: a host write at an offset in a posted range, or in none (R300). -/
def pcieWritePosted (addr : Nat) (bs : List Byte) (s : State) : State :=
  if s.confirmed addr then s else s.hostIssue (.write ⟨addr, firstBE addr bs.length, bs, 0, false⟩)

/-- PCIE_WRITE_CONFIRMED: a host write at an offset in a confirmed range. -/
def pcieWriteConfirmed (addr : Nat) (bs : List Byte) (s : State) : State :=
  if s.confirmed addr then s.hostIssue (.write ⟨addr, firstBE addr bs.length, bs, 0, true⟩) else s

/-- The request in flight that p picks, where its turn has come: none to its page is ahead of it, and for a confirmed write no
write at all. -/
def State.weltTurn (s : State) (p : HostReq → Bool) : Option HostReq :=
  match s.wlt.flight.find? p with
  | none => none
  | some q =>
    let before := s.wlt.flight.takeWhile (fun x => !p x)
    if before.any (fun x => x.page == q.page || (q.isConfirmed && x.isWrite)) then none else some q

/-- The first request that p picks has ended: it leaves the Welt, and withheld requests may go on. -/
def State.weltEnd (s : State) (p : HostReq → Bool) : State :=
  let s := s.wltSet (fun w => { w with flight := dropFirst p w.flight })
  s.weltDrain s.wlt.held

/-- The completion of a read: its data, or a completer abort with a code of R302. -/
def State.complete (s : State) (tag : Nat) (bs : List Byte) (abort : Nat) : State :=
  s.wltSet (fun w => { w with cplTag := tag, cplData := bs, cplAbort := abort })

/-- READ_ANSWER: the read under a tag is answered; `target` marks an uncorrectable error at the target (R298, R302). -/
def readAnswer (tag : Nat) (target : Bool) (s : State) : State :=
  match s.weltTurn (HostReq.hasTag tag) with
  | some (.read _ a n) =>
    let s :=
      if target then (s.complete tag [] 8).readFail a 8
      else
        match s.busRead .host a n with
        | (none, bs, t) => t.complete tag bs 0
        | (some e, _, t) => (t.complete tag [] e.code).readFail a e.code
    s.weltEnd (HostReq.hasTag tag)
  | _ => s

/-- READ_TIMEOUT: 100 µs without an answer (R299).  Whether the read has had its side effects is free (assumption log 3). -/
def readTimeout (tag : Nat) (s : State) : State :=
  match s.weltTurn (HostReq.hasTag tag) with
  | some (.read _ a n) =>
    let r := s.draw 2
    let s := if r.1 = 1 then (r.2.busRead .host a n).2.2 else r.2
    let s := (s.complete tag [] 7).readFail a 7
    ((s.inc Reg.WLT_RD_TIMEOUTS_COUNT).raise Reg.WLT_IRQ_RD_TIMEOUT).weltEnd (HostReq.hasTag tag)
  | _ => s

/-- WRITE_ACK: the target takes the write with a sequence number, or fails it, and the failure is logged (R301, R302). -/
def writeAck (seq : Nat) (target : Bool) (s : State) : State :=
  match s.weltTurn (HostReq.hasSeq seq) with
  | some (.write w) =>
    let r := if target then (some AccErr.target, s) else s.busWrite .host w.addr w.data
    let s := match r with
      | (none, t) => t
      | (some e, t) => t.perr w e.code
    (s.weltEnd (HostReq.hasSeq seq)).dueReset
  | _ => s

/-- WRITE_TIMEOUT: 100 µs without an acknowledgement; the write may or may not have taken effect (R301). -/
def writeTimeout (seq : Nat) (s : State) : State :=
  match s.weltTurn (HostReq.hasSeq seq) with
  | some (.write w) =>
    let r := s.draw 2
    let s := if r.1 = 1 then (r.2.busWrite .host w.addr w.data).2 else r.2
    ((s.perr w 7).weltEnd (HostReq.hasSeq seq)).dueReset
  | _ => s

/-- PERR_ACK. -/
def perrAck (m : Master) (n : Nat) (s : State) : State := s.direct m pgWLT 0x0D8 (fun s => s.perrAck n)

/-! ### The sideband (R315–R319) -/

/-- The response. -/
def State.sbAnswer (s : State) (status done : Nat) (data : List Nat) : State := { s with sbResp := ⟨status, done, data⟩ }

/-- Data words that the request of an opcode carries: WRITE and POWER (R316). -/
def sbDataWords (op n : Nat) : Nat := if op = 0x02 || op = 0x66 then n else 0

/-- The opcodes of R318. -/
def sbOpcodes : List Nat := [0x02, 0x03, 0x0C, 0x05, 0x9F, 0x66]

/-- The bytes of a request: header fields most significant byte first, data words byte 0 first, then the CRC (R316). -/
def sbRequest (op addr n : Nat) (ws : List Nat) : List Byte :=
  let b := BitVec.ofNat 8 op :: (beBytes 4 addr ++ beBytes 2 n ++ ws.flatMap (leBytes 4))
  b ++ [BitVec.ofNat 8 (crc8 b)]

/-- The bytes of a response: STATUS, DONE, the data words and the CRC over them (R317). -/
def SbResp.bytes (r : SbResp) : List Byte :=
  let b := BitVec.ofNat 8 r.status :: BitVec.ofNat 8 r.done :: r.data.flatMap (leBytes 4)
  b ++ [BitVec.ofNat 8 (crc8 b)]

/-- What the target finds of a request's bytes before it looks at LENGTH and ADDRESS (R319). -/
inductive SbJudge where
  | short | crcErr | badOpcode | good
deriving DecidableEq, Repr

/-- The CRC is taken at the position that OPCODE and LENGTH give; OPCODE is checked once it has verified (R319). -/
def sbJudge (b : List Byte) : SbJudge :=
  let op := leNat (b.take 1)
  let at_ := 7 + 4 * sbDataWords op (beNat (sub b 5 2))
  if b.length < 7 || b.length ≤ at_ then .short
  else if crc8 (b.take at_) != leNat (sub b at_ 1) then .crcErr
  else if sbOpcodes.contains op then .good
  else .badOpcode

/-- A request has been executed. -/
def State.sbCount (s : State) : State := s.inc Reg.SBP_FRAMES_COUNT

/-- The status of a request of n words at an address before any is executed (R317, R319): LENGTH, then ADDRESS; `pages`
allows the register pages alone. -/
def sbCheck (addr n : Nat) (pages : Bool) : Option Nat :=
  let reg := addr < 0x1000000 || 0x2000000 ≤ addr && addr < 0x3000000
  if n = 0 || 64 < n then some 0x83
  else if 4096 < addr % 4096 + 4 * n && reg then some 0x83
  else if 256 < addr % 256 + 4 * n && !reg && decide (addr < 0x2000000) then some 0x83
  else if addr % 4 != 0 || 0x3000000 ≤ addr || pages && 0x1000000 ≤ addr then some 0x84
  else none

/-- Write words to ascending addresses, up to the first that fails: the status, the words done, and the state. -/
def State.sbWords (s : State) (addr : Nat) (ws : List Nat) (done : Nat) : Nat × Nat × State :=
  match ws with
  | [] => (0x80, done, s)
  | w :: r =>
    match s.busWrite .sideband addr (leBytes 4 w) with
    | (none, t) => t.sbWords (addr + 4) r (done + 1)
    | (some e, t) => (e.status, done, t)

/-- Read n words from ascending addresses, up to the first that fails. -/
def State.sbFetch (s : State) (peek : Bool) (addr n : Nat) (got : List Nat) : Nat × List Nat × State :=
  match n with
  | 0 => (0x80, got, s)
  | n + 1 =>
    match (if peek then s.busReadReg .sideband true addr 4 else s.busRead .sideband addr 4) with
    | (none, bs, t) => t.sbFetch peek (addr + 4) n (got ++ [leNat bs])
    | (some e, _, t) => (e.status, got, t)

/-- SB_WRITE; `bad`: the word at which the target meets an uncorrectable error, which ends the request as TARGET (R317, R319). -/
def sbWrite (addr : Nat) (ws : List Nat) (bad : Option Nat) (s : State) : State :=
  if !s.sbOn then s
  else
    match sbCheck addr ws.length false with
    | some e => s.sbAnswer e 0 []
    | none =>
      let k := bad.getD ws.length
      let r := s.sbCount.sbWords addr (ws.take k) 0
      (if r.1 = 0x80 && decide (k < ws.length) then r.2.2.sbAnswer 0x8B k [] else r.2.2.sbAnswer r.1 r.2.1 []).dueReset

/-- Read or peek n words, and answer; words from the failing one onward read 0. -/
def State.sbGet (s : State) (peek : Bool) (addr n : Nat) (bad : Option Nat) : State :=
  if !s.sbOn then s
  else
    match sbCheck addr n peek with
    | some e => s.sbAnswer e 0 []
    | none =>
      let k := min n (bad.getD n)
      let r := s.sbCount.sbFetch peek addr k []
      let status := if r.1 = 0x80 && decide (k < n) then 0x8B else r.1
      r.2.2.sbAnswer status r.2.1.length (r.2.1 ++ List.replicate (n - r.2.1.length) 0)

/-- SB_READ and SB_PEEK; `bad` as for SB_WRITE. -/
def sbRead (addr n : Nat) (bad : Option Nat) (s : State) : State := s.sbGet false addr n bad
def sbPeek (addr n : Nat) (bad : Option Nat) (s : State) : State := s.sbGet true addr n bad

/-- The two status words of R318. -/
def State.sbStatusWords (s : State) : List Nat :=
  [s.mode + 8 * s.get Reg.SBP_ALERT_STAT_CLOCK_HOLD + 16 * b2n s.nmiLow + 32 * b2n s.anyInt +
     64 * s.get Reg.WDG_HB_STAT_EXPIRED + 128 * s.get Reg.WLT_STAT_LINK_UP + 256 * s.get Reg.LST_STAT_LOADED + 512 * b2n s.tca.locked,
   1 + s.pwr.powered % 2 ^ 19 / 2 * 2]

/-- The two identity words of R318. -/
def State.sbIdentWords (s : State) : List Nat :=
  [0x6425 + 0xA1 * 2 ^ 16,
   1 + 2 ^ 8 * s.get Reg.DEV_STRAPS_IO_VSEL + 2 ^ 9 * s.get Reg.DEV_STRAPS_BOOT_MODE + 2 ^ 11 * s.get Reg.DEV_STRAPS_SB_EN]

/-- A request that takes address 0 and a fixed length. -/
def State.sbFixed (s : State) (addr n want : Nat) (k : State → State) : State :=
  if !s.sbOn then s
  else if n ≠ want then s.sbAnswer 0x83 0 []
  else if addr ≠ 0 then s.sbAnswer 0x84 0 []
  else k s.sbCount

/-- SB_STATUS, with the ADDRESS and LENGTH of its header. -/
def sbStatus (addr n : Nat) (s : State) : State := s.sbFixed addr n 2 (fun t => t.sbAnswer 0x80 2 s.sbStatusWords)

/-- SB_IDENT. -/
def sbIdent (addr n : Nat) (s : State) : State := s.sbFixed addr n 2 (fun t => t.sbAnswer 0x80 2 s.sbIdentWords)

/-- SB_POWER: the data word names the domain and the direction (R318, R354). -/
def sbPower (addr n w : Nat) (s : State) : State :=
  s.sbFixed addr n 1 (fun s =>
    let d := bits w 0 5
    let up := bit w 8
    if s.heelStands then s.sbAnswer 0x87 0 []
    else if s.ownedByOther .sideband (pageGroup pgPWR) then (s.ownErr .sideband).sbAnswer 0x86 0 []
    else if d = 0 || 18 < d then (s.domainErr d 3 true).sbAnswer 0x89 0 []
    else if !up && (d == 1 || d == 10) then (s.domainErr d 1 true).sbAnswer 0x89 0 []
    else (s.domainAsk .sideband d up).sbAnswer 0x80 1 [])

/-- SB_CRC_ERR: the bytes of a request whose CRC fails; one that verifies and names no opcode of R318 ends in BAD_OPCODE.  Nothing
is executed (R317, R319). -/
def sbCrcErr (b : List Byte) (s : State) : State :=
  if !s.sbOn then s
  else match sbJudge b with
    | .crcErr => ((s.inc Reg.SBP_CRC_ERRS_COUNT).raise Reg.SBP_IRQ_CRC_ERR).sbAnswer 0x81 0 []
    | .badOpcode => s.sbAnswer 0x82 0 []
    | _ => s

/-- SB_SHORT: nothing is executed, and nothing is answered. -/
def sbShort (s : State) : State := if s.sbOn then (s.inc Reg.SBP_SHORT_COUNT).raise Reg.SBP_IRQ_SHORT else s

/-- SB_RESPONSE_TIMEOUT: of a request's words, the first `k` are executed and the next has no internal answer within 200 µs;
whether that one has taken effect is free (assumption log 3). -/
def sbResponseTimeout (q : SbReq) (k : Nat) (s : State) : State :=
  if !s.sbOn then s
  else
    match q with
    | .write addr ws =>
      match sbCheck addr ws.length false with
      | some e => s.sbAnswer e 0 []
      | none =>
        let r := s.sbCount.sbWords addr (ws.take k) 0
        if r.1 ≠ 0x80 || ws.length ≤ k then (r.2.2.sbAnswer r.1 r.2.1 []).dueReset
        else
          let d := r.2.2.draw 2
          let t := if d.1 = 1 then (d.2.sbWords (addr + 4 * k) ((ws.drop k).take 1) 0).2.2 else d.2
          (t.sbAnswer 0x87 k []).dueReset
    | .read peek addr n =>
      match sbCheck addr n peek with
      | some e => s.sbAnswer e 0 []
      | none =>
        let r := s.sbCount.sbFetch peek addr (min k n) []
        let fill := r.2.1 ++ List.replicate (n - r.2.1.length) 0
        if r.1 ≠ 0x80 || n ≤ k then r.2.2.sbAnswer r.1 r.2.1.length fill
        else
          let d := r.2.2.draw 2
          let t := if d.1 = 1 then (d.2.sbFetch peek (addr + 4 * k) 1 []).2.2 else d.2
          t.sbAnswer 0x87 k fill

end Sys2Proof.Machine
end

