-- ==== Sys2Proof/Machine/Exec.lean ====
section
/-! DEFINITION. The meaning of each command as an outcome: every command of the table runs, and answers the state that its
family's file gives. -/
namespace Sys2Proof.Machine

/-- Valid traffic on the cluster of port p, and perhaps a keep-alive of it, where the MAC has counted the frame that was arriving as
good (R366, R368). -/
def goodFrameTraffic (p : Nat) (s t : State) : State :=
  if t.get Reg.MAC_CNT_FULL p 0 ≠ s.get Reg.MAC_CNT_FULL p 0 then
    (t.validTraffic (t.clusterOfPort p)).kaSeen
      (.frame p (((s.clr.frames.find? (fun f => f.port == p && !f.whole)).map Frame.bytes).getD []))
  else t

/-- CS_OPEN (R55). -/
def execCsOpen (m : Master) (s : State) : Host.Outcome State Fault Refusal := .next (csOpen m s)
/-- CS_ABORT (R58). -/
def execCsAbort (m : Master) (s : State) : Host.Outcome State Fault Refusal := .next (csAbort m s)
/-- STAGING_WRITE (R51). -/
def execStagingWrite (m : Master) (off : Nat) (bs : List Byte) (s : State) : Host.Outcome State Fault Refusal :=
  .next (stagingWrite m off bs s)
/-- CHANGE_SET_LIST_WRITE (R54). -/
def execChangeSetListWrite (m : Master) (off : Nat) (bs : List Byte) (s : State) : Host.Outcome State Fault Refusal :=
  .next (changeSetListWrite m off bs s)
/-- COMMIT_GO (R56). -/
def execCommitGo (m : Master) (s : State) : Host.Outcome State Fault Refusal := .next (commitGo m s)
/-- COMMIT_VALIDATED (R57). -/
def execCommitValidated (s : State) : Host.Outcome State Fault Refusal := .next (commitValidated s)
/-- FLIP (R56). -/
def execFlip (s : State) : Host.Outcome State Fault Refusal := .next (flip s)
/-- EPOCH_DRAIN_END (R64). -/
def execEpochDrainEnd (s : State) : Host.Outcome State Fault Refusal := .next (epochDrainEnd s)
/-- DRAIN_LIMIT_EXPIRY (R65). -/
def execDrainLimitExpiry (s : State) : Host.Outcome State Fault Refusal := .next (drainLimitExpiry s)
/-- RELOAD_FLASH (R69). -/
def execReloadFlash (m : Master) (s : State) : Host.Outcome State Fault Refusal := .next (reloadFlash m s)
/-- RELOAD_HOST (R69). -/
def execReloadHost (m : Master) (s : State) : Host.Outcome State Fault Refusal := .next (reloadHost m s)
/-- RELOAD_GO (R69). -/
def execReloadGo (m : Master) (s : State) : Host.Outcome State Fault Refusal := .next (reloadGo m s)
/-- HOST_LOAD_TIMEOUT (R69). -/
def execHostLoadTimeout (s : State) : Host.Outcome State Fault Refusal := .next (hostLoadTimeout s)
/-- RELOAD_IMAGE_READ_DONE (R70). -/
def execReloadImageReadDone (readOk : Bool) (s : State) : Host.Outcome State Fault Refusal :=
  .next (reloadImageReadDone readOk s)
/-- RELOAD_DONE (R69). -/
def execReloadDone (s : State) : Host.Outcome State Fault Refusal := .next (reloadDone s)
/-- ETH_FRAME_ARRIVAL (R94). -/
def execEthFrameArrival (p : Fin 32) (bytes : List Byte) (s : State) : Host.Outcome State Fault Refusal :=
  .next (ethFrameArrival p.val bytes s)
/-- CLICKER_DISPATCH (R94). -/
def execClickerDispatch (s : State) : Host.Outcome State Fault Refusal := .next (clickerDispatch s)
/-- PARSE_STEP (R75). -/
def execParseStep (c : Fin 24) (k : Fin 4) (s : State) : Host.Outcome State Fault Refusal := .next (parseStep c.val k.val s)
/-- FLOW_LOOKUP (R98). -/
def execFlowLookup (c : Fin 24) (k : Fin 4) (s : State) : Host.Outcome State Fault Refusal := .next (flowLookup c.val k.val s)
/-- INGRESS_FRAME_END (R217); a frame received right is valid traffic on its cluster (R368). -/
def execIngressFrameEnd (p : Fin 32) (l : RxLine) (s : State) : Host.Outcome State Fault Refusal :=
  .next (goodFrameTraffic p.val s (ingressFrameEnd p.val l s))
/-- REORDER_RELEASE (R94). -/
def execReorderRelease (p : Fin 37) (s : State) : Host.Outcome State Fault Refusal := .next (reorderRelease p.val s)
/-- REORDER_TIMEOUT (R95). -/
def execReorderTimeout (p : Fin 37) (inRules : Bool) (s : State) : Host.Outcome State Fault Refusal :=
  .next (reorderTimeout p.val inRules s)
/-- CLICKER_REJOIN (R96). -/
def execClickerRejoin (c : Fin 24) (repairs : Nat) (ok : Bool) (s : State) : Host.Outcome State Fault Refusal :=
  .next (clickerRejoin c.val repairs ok s)
/-- CUT_THROUGH_START (R155). -/
def execCutThroughStart (p : Fin 37) (s : State) : Host.Outcome State Fault Refusal := .next (cutThroughStart p.val s)
/-- SCHEDULER_CHOOSE (R171). -/
def execSchedulerChoose (p : Fin 37) (s : State) : Host.Outcome State Fault Refusal := .next (schedulerChoose p.val s)
/-- COPY_TX_DONE (R19). -/
def execCopyTxDone (p : Fin 32) (s : State) : Host.Outcome State Fault Refusal := .next (copyTxDone p.val s)
/-- REPARENT (R170). -/
def execReparent (isQueue : Bool) (n : Fin 8192) (s : State) : Host.Outcome State Fault Refusal :=
  .next (reparent isQueue n.val s)
/-- PACE_WINDOW_END (R132). -/
def execPaceWindowEnd (n : Fin 4) (measured : Nat) (s : State) : Host.Outcome State Fault Refusal :=
  .next (paceWindowEnd n.val measured s)
/-- DEMAND_WINDOW_END (R130). -/
def execDemandWindowEnd (s : State) : Host.Outcome State Fault Refusal := .next (demandWindowEnd s)
/-- FABRIC_STALL (R142). -/
def execFabricStall (n : Fin 4) (s : State) : Host.Outcome State Fault Refusal := .next (fabricStall n.val s)
/-- SLICE_REJOIN (R143). -/
def execSliceRejoin (n : Fin 4) (repairs : Nat) (ok : Bool) (s : State) : Host.Outcome State Fault Refusal :=
  .next (sliceRejoin n.val repairs ok s)
/-- GOVERNOR_INTERVAL (R139). -/
def execGovernorInterval (s : State) : Host.Outcome State Fault Refusal := .next (governorInterval s)
/-- PMBUS_TRANSACTION_DONE (R141). -/
def execPmbusTransactionDone (ok : Bool) (mv : Fin 65536) (s : State) : Host.Outcome State Fault Refusal :=
  .next (pmbusTransactionDone ok mv.val s)
/-- GOVERNOR_ENABLE (R141). -/
def execGovernorEnable (m : Master) (en pec : Bool) (addr : Fin 128) (step : Fin 16) (interval : Fin 256) (s : State) : Host.Outcome State Fault Refusal :=
  .next (governorEnable m en pec addr.val step.val interval.val s)
/-- LINK_UP (R214). -/
def execLinkUp (p : Fin 32) (inBand : Fin 8) (s : State) : Host.Outcome State Fault Refusal := .next (linkUp p.val inBand.val s)
/-- LINK_DOWN (R214). -/
def execLinkDown (p : Fin 32) (why : LinkFail) (s : State) : Host.Outcome State Fault Refusal := .next (linkDown p.val why s)
/-- FLUSH_COMPLETE (R164). -/
def execFlushComplete (p : Fin 37) (s : State) : Host.Outcome State Fault Refusal := .next (flushComplete p.val s)
/-- PORT_RETURN_END (R161). -/
def execPortReturnEnd (p : Fin 37) (s : State) : Host.Outcome State Fault Refusal := .next (portReturnEnd p.val s)
/-- CAUTIOUS_CONDITION_END (R34). -/
def execCautiousConditionEnd (c : HoldCause) (s : State) : Host.Outcome State Fault Refusal := .next (cautiousConditionEnd c s)
/-- COBBLER_PASS_END (R165). -/
def execCobblerPassEnd (dur : Nat) (s : State) : Host.Outcome State Fault Refusal := .next (cobblerPassEnd dur s)
/-- COBBLER_ENABLE (R166). -/
def execCobblerEnable (m : Master) (en : Bool) (s : State) : Host.Outcome State Fault Refusal := .next (cobblerEnable m en s)
/-- INBAND_RATE_CHANGE (R212). -/
def execInbandRateChange (p : Fin 32) (rate : Fin 8) (s : State) : Host.Outcome State Fault Refusal :=
  .next (inbandRateChange p.val rate.val s)
/-- PLL_LOST (R234). -/
def execPllLost (l : Fin 24) (s : State) : Host.Outcome State Fault Refusal := .next (pllLost l.val s)
/-- PAUSE_FRAME_RX (R221). -/
def execPauseFrameRx (p : Fin 32) (b : List Byte) (symErr : Bool) (s : State) : Host.Outcome State Fault Refusal :=
  .next (pauseFrameRx p.val b symErr s)
/-- PAUSE_EXPIRY (R222). -/
def execPauseExpiry (p : Fin 32) (cls : Option (Fin 8)) (s : State) : Host.Outcome State Fault Refusal :=
  .next (pauseExpiry p.val (cls.map Fin.val) s)
/-- TX_PAUSE_SEND (R223). -/
def execTxPauseSend (p : Fin 32) (s : State) : Host.Outcome State Fault Refusal := .next (txPauseSend p.val s)
/-- TX_PAUSE_REPEAT (R223). -/
def execTxPauseRepeat (p : Fin 32) (s : State) : Host.Outcome State Fault Refusal := .next (txPauseRepeat p.val s)
/-- PAUSE_WATCHDOG_EXPIRY (R224). -/
def execPauseWatchdogExpiry (p : Fin 32) (s : State) : Host.Outcome State Fault Refusal := .next (pauseWatchdogExpiry p.val s)
/-- PAUSE_IGNORE_END (R224). -/
def execPauseIgnoreEnd (p : Fin 32) (s : State) : Host.Outcome State Fault Refusal := .next (pauseIgnoreEnd p.val s)
/-- TEST_MODE_SET (R225). -/
def execTestModeSet (m : Master) (p : Fin 32) (t : TestReg) (s : State) : Host.Outcome State Fault Refusal :=
  .next (testModeSet m p.val t s)
/-- COUNTER_LOW_READ (R227). -/
def execCounterLowRead (m : Master) (c : Counter64) (s : State) : Host.Outcome State Fault Refusal :=
  .next (counterLowRead m c s)
/-- T1S_STATE_REQUEST (R228). -/
def execT1sStateRequest (m : Master) (t : Fin 8) (st : Fin 4) (s : State) : Host.Outcome State Fault Refusal :=
  .next (t1sStateRequest m (24 + t.val) st.val s)
/-- T1S_STATE_REACHED (R229). -/
def execT1sStateReached (t : Fin 8) (s : State) : Host.Outcome State Fault Refusal := .next (t1sStateReached (24 + t.val) s)
/-- PLCA_BEACON_TIMEOUT (R230). -/
def execPlcaBeaconTimeout (t : Fin 8) (s : State) : Host.Outcome State Fault Refusal := .next (plcaBeaconTimeout (24 + t.val) s)
/-- PLCA_BEACON_RX (R230). -/
def execPlcaBeaconRx (t : Fin 8) (s : State) : Host.Outcome State Fault Refusal := .next (plcaBeaconRx (24 + t.val) s)
/-- T1S_COLLISION (R231). -/
def execT1sCollision (t : Fin 8) (s : State) : Host.Outcome State Fault Refusal := .next (t1sCollision (24 + t.val) s)
/-- CABLE_GO (R232). -/
def execCableGo (m : Master) (t : Fin 8) (s : State) : Host.Outcome State Fault Refusal := .next (cableGo m (24 + t.val) s)
/-- CABLE_CHECK_DONE (R232). -/
def execCableCheckDone (t result : Fin 8) (s : State) : Host.Outcome State Fault Refusal :=
  .next (cableCheckDone (24 + t.val) result.val s)
/-- MDIO_CMD (R233). -/
def execMdioCmd (m : Master) (b : Fin 4) (c45 : Bool) (op : Fin 4) (phy reg : Fin 32) (data : Fin 65536) (s : State) : Host.Outcome State Fault Refusal :=
  .next (mdioCmd m b.val c45 op.val phy.val reg.val data.val s)
/-- MDIO_DONE (R233). -/
def execMdioDone (b : Fin 4) (data : Fin 65536) (s : State) : Host.Outcome State Fault Refusal :=
  .next (mdioDone b.val data.val s)
/-- CAN_FRAME_RX (R239). -/
def execCanFrameRx (c : Fin 64) (w : CanWire) (ago : Nat) (s : State) : Host.Outcome State Fault Refusal :=
  .next (canFrameRx c.val w ago s)
/-- AWL_ACCEPT (R237); clusters follow the requests of its routes (R367). -/
def execAwlAccept (e : Fin 16) (s : State) : Host.Outcome State Fault Refusal :=
  .next ((awlAccept e.val s).clusterSync)
/-- AP_FRAME_TO_AWL (R237). -/
def execApFrameToAwl (a : Fin 4) (s : State) : Host.Outcome State Fault Refusal := .next (apFrameToAwl (33 + a.val) s)
/-- CAN_TX_START (R240). -/
def execCanTxStart (c : Fin 64) (s : State) : Host.Outcome State Fault Refusal := .next (canTxStart c.val s)
/-- CAN_TX_DONE (R240). -/
def execCanTxDone (c : Fin 64) (e : CanEnd) (s : State) : Host.Outcome State Fault Refusal := .next (canTxDone c.val e s)
/-- CAN_BUS_OFF (R241). -/
def execCanBusOff (c : Fin 64) (s : State) : Host.Outcome State Fault Refusal := .next (canBusOff c.val s)
/-- REC_DELAY_EXPIRY (R241). -/
def execRecDelayExpiry (c : Fin 64) (s : State) : Host.Outcome State Fault Refusal := .next (recDelayExpiry c.val s)
/-- CAN_RECOVER (R241). -/
def execCanRecover (m : Master) (c : Fin 64) (s : State) : Host.Outcome State Fault Refusal := .next (canRecover m c.val s)
/-- CAN_RECOVERED (R241). -/
def execCanRecovered (c : Fin 64) (s : State) : Host.Outcome State Fault Refusal := .next (canRecovered c.val s)
/-- CAN_SLOT_START (R259). -/
def execCanSlotStart (c : Fin 64) (n : Fin 256) (s : State) : Host.Outcome State Fault Refusal :=
  .next (canSlotStart c.val n.val s)
/-- CAN_SLOT_WINDOW_CLOSE (R259). -/
def execCanSlotWindowClose (c : Fin 64) (n : Fin 256) (s : State) : Host.Outcome State Fault Refusal :=
  .next (canSlotWindowClose c.val n.val s)
/-- LIN_ENTRY_START (R261); the channel follows its pages (R62). -/
def execLinEntryStart (l : Fin 16) (bitErr : Bool) (s : State) : Host.Outcome State Fault Refusal :=
  .next ((linEntryStart l.val bitErr s).linSync l.val)
/-- LIN_HEADER_RX (R261). -/
def execLinHeaderRx (l : Fin 16) (fid : Fin 64) (rate : Nat) (bitErr : Bool) (s : State) : Host.Outcome State Fault Refusal :=
  .next (linHeaderRx l.val fid.val rate bitErr s)
/-- LIN_RESPONSE_RX (R262). -/
def execLinResponseRx (l : Fin 16) (e : LinEnd) (s : State) : Host.Outcome State Fault Refusal :=
  .next (linResponseRx l.val e s)
/-- LIN_TABLE_WRITE (R261). -/
def execLinTableWrite (m : Master) (l : Fin 16) (t : Fin 8) (s : State) : Host.Outcome State Fault Refusal :=
  .next (linTableWrite m l.val t.val s)
/-- LIN_WAKE_TX (R263). -/
def execLinWakeTx (m : Master) (l : Fin 16) (s : State) : Host.Outcome State Fault Refusal := .next (linWakeTx m l.val s)
/-- LIN_WAKE_REPEAT (R263). -/
def execLinWakeRepeat (l : Fin 16) (s : State) : Host.Outcome State Fault Refusal := .next (linWakeRepeat l.val s)
/-- LIN_WAKE_RX (R263). -/
def execLinWakeRx (l : Fin 16) (s : State) : Host.Outcome State Fault Refusal := .next (linWakeRx l.val s)
/-- STREAM_HOLD_EXPIRY (R254). -/
def execStreamHoldExpiry (k : Fin 512) (s : State) : Host.Outcome State Fault Refusal := .next (streamHoldExpiry k.val s)
/-- AWL_WATCHDOG (R265). -/
def execAwlWatchdog (e : Fin 16) (s : State) : Host.Outcome State Fault Refusal := .next (awlWatchdog e.val s)
/-- CAN_FIFO_ERROR (R265). -/
def execCanFifoError (c : Fin 64) (k : Nat) (s : State) : Host.Outcome State Fault Refusal := .next (canFifoError c.val k s)
/-- TOECAP_START (R270). -/
def execToecapStart (s : State) : Host.Outcome State Fault Refusal := .next (toecapStart s)
/-- KEY_RESTORE_DONE (R274). -/
def execKeyRestoreDone (s : State) : Host.Outcome State Fault Refusal := .next (keyRestoreDone s)
/-- KEY_LOAD (R271). -/
def execKeyLoad (m : Master) (idx : Fin 2048) (cls : Fin 4) (klen plain : Bool) (wrap : Fin 16) (s : State) : Host.Outcome State Fault Refusal :=
  .next (keyLoad m idx.val cls.val klen plain wrap.val s)
/-- KEY_ERASE (R272). -/
def execKeyErase (m : Master) (idx : Fin 2048) (cls : Fin 4) (s : State) : Host.Outcome State Fault Refusal :=
  .next (keyErase m idx.val cls.val s)
/-- KEY_LOAD_DONE (R272). -/
def execKeyLoadDone (s : State) : Host.Outcome State Fault Refusal := .next (keyLoadDone s)
/-- TKM_LOCK (R271). -/
def execTkmLock (m : Master) (s : State) : Host.Outcome State Fault Refusal := .next (tkmLock m s)
/-- DRBG_RESEED (R269). -/
def execDrbgReseed (ok : Bool) (s : State) : Host.Outcome State Fault Refusal := .next (drbgReseed ok s)
/-- TOECAP_ALARM (R290). -/
def execToecapAlarm (causes : Fin 64) (s : State) : Host.Outcome State Fault Refusal := .next (toecapAlarm causes.val s)
/-- TCA_EVT_READ (R292). -/
def execTcaEvtRead (m : Master) (s : State) : Host.Outcome State Fault Refusal := .next (tcaEvtRead m s)
/-- FV_READ (R287). -/
def execFvRead (m : Master) (s : State) : Host.Outcome State Fault Refusal := .next (fvRead m s)
/-- FV_WRITE (R287). -/
def execFvWrite (m : Master) (s : State) : Host.Outcome State Fault Refusal := .next (fvWrite m s)
/-- PCIE_READ (R298). -/
def execPcieRead (addr n : Nat) (s : State) : Host.Outcome State Fault Refusal := .next (pcieRead addr n s)
/-- READ_ANSWER (R298). -/
def execReadAnswer (tag : Fin 64) (target : Bool) (s : State) : Host.Outcome State Fault Refusal :=
  .next (readAnswer tag.val target s)
/-- READ_TIMEOUT (R299). -/
def execReadTimeout (tag : Fin 64) (s : State) : Host.Outcome State Fault Refusal := .next (readTimeout tag.val s)
/-- PCIE_WRITE_POSTED (R301). -/
def execPcieWritePosted (addr : Nat) (bs : List Byte) (s : State) : Host.Outcome State Fault Refusal :=
  .next (pcieWritePosted addr bs s)
/-- PCIE_WRITE_CONFIRMED (R301). -/
def execPcieWriteConfirmed (addr : Nat) (bs : List Byte) (s : State) : Host.Outcome State Fault Refusal :=
  .next (pcieWriteConfirmed addr bs s)
/-- WRITE_ACK (R301). -/
def execWriteAck (seq : Nat) (target : Bool) (s : State) : Host.Outcome State Fault Refusal := .next (writeAck seq target s)
/-- WRITE_TIMEOUT (R301). -/
def execWriteTimeout (seq : Nat) (s : State) : Host.Outcome State Fault Refusal := .next (writeTimeout seq s)
/-- PERR_ACK (R302). -/
def execPerrAck (m : Master) (n : Fin 32) (s : State) : Host.Outcome State Fault Refusal := .next (perrAck m n.val s)
/-- PCIE_LINK_DOWN (R294). -/
def execPcieLinkDown (s : State) : Host.Outcome State Fault Refusal := .next (pcieLinkDown s)
/-- PCIE_LINK_UP (R294). -/
def execPcieLinkUp (width speed : Fin 8) (bme : Bool) (s : State) : Host.Outcome State Fault Refusal :=
  .next (pcieLinkUp width.val speed.val bme s)
/-- OWNER_WRITE (R304). -/
def execOwnerWrite (m : Master) (v : Word) (s : State) : Host.Outcome State Fault Refusal := .next (ownerWrite m v.toNat s)
/-- RING_ENABLE (R308). -/
def execRingEnable (m : Master) (tx : Bool) (r : Fin 8) (en kind : Bool) (size : Fin 32) (buf : Fin 128) (s : State) : Host.Outcome State Fault Refusal :=
  .next (ringEnable m tx r.val en kind size.val buf.val s)
/-- TAIL_WRITE (R308). -/
def execTailWrite (m : Master) (tx : Bool) (r : Fin 8) (t : Fin 65536) (s : State) : Host.Outcome State Fault Refusal :=
  .next (tailWrite m tx r.val t.val s)
/-- HDM_RX_DELIVER (R309). -/
def execHdmRxDeliver (bufs : List Nat) (s : State) : Host.Outcome State Fault Refusal := .next (hdmRxDeliver bufs s)
/-- HDM_TX_FRAME (R311). -/
def execHdmTxFrame (ds : List TxDesc) (data : List Byte) (s : State) : Host.Outcome State Fault Refusal :=
  .next (hdmTxFrame ds data s)
/-- DMA_ERROR (R313). -/
def execDmaError (tx : Bool) (r : Fin 8) (n : Nat) (s : State) : Host.Outcome State Fault Refusal :=
  .next (dmaError tx r.val n s)
/-- MODERATION_TIMER (R314). -/
def execModerationTimer (tx : Bool) (r : Fin 8) (s : State) : Host.Outcome State Fault Refusal :=
  .next (moderationTimer tx r.val s)
/-- SB_WRITE (R318). -/
def execSbWrite (addr : Word) (ws : List Word) (bad : Option Nat) (s : State) : Host.Outcome State Fault Refusal :=
  .next (sbWrite addr.toNat (ws.map BitVec.toNat) bad s)
/-- SB_READ (R318). -/
def execSbRead (addr : Word) (n : Fin 65536) (bad : Option Nat) (s : State) : Host.Outcome State Fault Refusal :=
  .next (sbRead addr.toNat n.val bad s)
/-- SB_PEEK (R318). -/
def execSbPeek (addr : Word) (n : Fin 65536) (bad : Option Nat) (s : State) : Host.Outcome State Fault Refusal :=
  .next (sbPeek addr.toNat n.val bad s)
/-- SB_STATUS (R318). -/
def execSbStatus (addr : Word) (n : Fin 65536) (s : State) : Host.Outcome State Fault Refusal :=
  .next (sbStatus addr.toNat n.val s)
/-- SB_IDENT (R318). -/
def execSbIdent (addr : Word) (n : Fin 65536) (s : State) : Host.Outcome State Fault Refusal :=
  .next (sbIdent addr.toNat n.val s)
/-- SB_POWER (R318). -/
def execSbPower (addr : Word) (n : Fin 65536) (w : Word) (s : State) : Host.Outcome State Fault Refusal :=
  .next (sbPower addr.toNat n.val w.toNat s)
/-- SB_CRC_ERR (R319). -/
def execSbCrcErr (b : List Byte) (s : State) : Host.Outcome State Fault Refusal := .next (sbCrcErr b s)
/-- SB_SHORT (R319). -/
def execSbShort (s : State) : Host.Outcome State Fault Refusal := .next (sbShort s)
/-- SB_RESPONSE_TIMEOUT (R317). -/
def execSbResponseTimeout (q : SbReq) (k : Nat) (s : State) : Host.Outcome State Fault Refusal :=
  .next (sbResponseTimeout q k s)
/-- MBX_GO (R320). -/
def execMbxGo (m : Master) (len : Fin 2048) (s : State) : Host.Outcome State Fault Refusal := .next (mbxGo m len.val s)
/-- MBX_RESPONSE (R320). -/
def execMbxResponse (result : Fin 256) (body : List Byte) (s : State) : Host.Outcome State Fault Refusal :=
  .next (mbxResponse result.val body s)
/-- LOOPBACK_TEST (R335). -/
def execLoopbackTest (good bad : Nat) (s : State) : Host.Outcome State Fault Refusal := .next (loopbackTest good bad s)
/-- FAULT_REPORT (R321); the Heel acts where it has a clock (R339). -/
def execFaultReport (page : Fin 4096) (code : Fin 65536) (s : State) : Host.Outcome State Fault Refusal :=
  .next (s.heel (fun s => faultReport page.val code.val s))
/-- STORM_PERIOD_END (R326); the Heel acts where it has a clock (R339). -/
def execStormPeriodEnd (s : State) : Host.Outcome State Fault Refusal :=
  .next (s.heel (fun s => stormPeriodEnd s))
/-- FLT_CLEAR (R324). -/
def execFltClear (m : Master) (s : State) : Host.Outcome State Fault Refusal := .next (fltClear m s)
/-- FAULT_COUNT_SNAPSHOT (R324). -/
def execFaultCountSnapshot (m : Master) (code : Fin 65536) (s : State) : Host.Outcome State Fault Refusal :=
  .next (faultCountSnapshot m code.val s)
/-- FAULT_COUNT_CLEAR (R324). -/
def execFaultCountClear (m : Master) (code : Fin 65536) (s : State) : Host.Outcome State Fault Refusal :=
  .next (faultCountClear m code.val s)
/-- NMI_CLEAR (R329). -/
def execNmiClear (m : Master) (ones : Fin 32) (s : State) : Host.Outcome State Fault Refusal := .next (nmiClear m ones.val s)
/-- FW_KICK (R330). -/
def execFwKick (m : Master) (v : Fin 65536) (s : State) : Host.Outcome State Fault Refusal := .next (fwKick m v.val s)
/-- FW_WATCHDOG_WARN (R330). -/
def execFwWatchdogWarn (s : State) : Host.Outcome State Fault Refusal := .next (fwWatchdogWarn s)
/-- FW_WATCHDOG_EXPIRY (R330). -/
def execFwWatchdogExpiry (s : State) : Host.Outcome State Fault Refusal := .next (fwWatchdogExpiry s)
/-- LOCKSTEP_MISMATCH (R331). -/
def execLockstepMismatch (pair : Fin 2) (s : State) : Host.Outcome State Fault Refusal := .next (lockstepMismatch pair s)
/-- HB_KICK (R332). -/
def execHbKick (m : Master) (s : State) : Host.Outcome State Fault Refusal := .next (hbKick m s)
/-- HB_ENABLE (R332). -/
def execHbEnable (m : Master) (en : Bool) (timeout : Fin 65536) (s : State) : Host.Outcome State Fault Refusal :=
  .next (hbEnable m en timeout.val s)
/-- HB_EXPIRY (R332); the Heel acts where it has a clock (R339). -/
def execHbExpiry (s : State) : Host.Outcome State Fault Refusal :=
  .next (s.heel (fun s => hbExpiry s))
/-- SELF_TEST_DONE (R333). -/
def execSelfTestDone (d : Fin 19) (repairs : Nat) (failed : List Nat) (pagesOk : Bool) (s : State) : Host.Outcome State Fault Refusal :=
  .next (selfTestDone d.val repairs failed pagesOk s)
/-- LRC_COUNT_DONE (R338). -/
def execLrcCountDone (s : State) : Host.Outcome State Fault Refusal := .next (lrcCountDone s)
/-- LRC_COUNT_TIMEOUT (R338). -/
def execLrcCountTimeout (s : State) : Host.Outcome State Fault Refusal := .next (lrcCountTimeout s)
/-- HRC_QUALIFY_DONE (R338). -/
def execHrcQualifyDone (counted : Bool) (cycles : Nat) (s : State) : Host.Outcome State Fault Refusal :=
  .next (hrcQualifyDone counted cycles s)
/-- XTAL_QUALIFY_DONE (R338). -/
def execXtalQualifyDone (cycles : Nat) (s : State) : Host.Outcome State Fault Refusal := .next (xtalQualifyDone cycles s)
/-- XTAL_START_TIMEOUT (R338). -/
def execXtalStartTimeout (s : State) : Host.Outcome State Fault Refusal := .next (xtalStartTimeout s)
/-- SDSREF_QUALIFY_DONE (R338). -/
def execSdsrefQualifyDone (cycles : Nat) (s : State) : Host.Outcome State Fault Refusal := .next (sdsrefQualifyDone cycles s)
/-- MONITOR_WINDOW_END (R340); the Heel acts where it has a clock (R339). -/
def execMonitorWindowEnd (xtalCycles hrcCycles sdsCycles : Nat) (s : State) : Host.Outcome State Fault Refusal :=
  .next (s.heel (fun s => monitorWindowEnd xtalCycles hrcCycles sdsCycles s))
/-- CLOCK_STOP_DETECT (R340); the Heel acts where it has a clock (R339). -/
def execClockStopDetect (c : Clock) (s : State) : Host.Outcome State Fault Refusal :=
  .next (s.heel (fun s => clockStopDetect c s))
/-- DWELL_END (R342); the Heel acts where it has a clock (R339). -/
def execDwellEnd (s : State) : Host.Outcome State Fault Refusal :=
  .next (s.heel (fun s => dwellEnd s))
/-- AUTO_RETURN_WRITE (R342). -/
def execAutoReturnWrite (m : Master) (on : Bool) (s : State) : Host.Outcome State Fault Refusal :=
  .next (autoReturnWrite m on s)
/-- HRC_TRIM_WINDOW (R346). -/
def execHrcTrimWindow (cycles : Nat) (s : State) : Host.Outcome State Fault Refusal := .next (hrcTrimWindow cycles s)
/-- CAN_TRIM_WINDOW (R347). -/
def execCanTrimWindow (frames : List TrimFrame) (s : State) : Host.Outcome State Fault Refusal := .next (canTrimWindow frames s)
/-- BEACON_TRIM_WINDOW (R348). -/
def execBeaconTrimWindow (cycles : List PlcaCycle) (s : State) : Host.Outcome State Fault Refusal :=
  .next (beaconTrimWindow cycles s)
/-- LRC_TRIM_WINDOW (R349). -/
def execLrcTrimWindow (err : Int) (s : State) : Host.Outcome State Fault Refusal := .next (lrcTrimWindow err s)
/-- DOMAIN_REQUEST (R353). -/
def execDomainRequest (m : Master) (d : Fin 19) (on viaPage : Bool) (s : State) : Host.Outcome State Fault Refusal :=
  .next (domainRequest m d.val on viaPage s)
/-- DOMAIN_POWER_GOOD (R353). -/
def execDomainPowerGood (d : Fin 19) (s : State) : Host.Outcome State Fault Refusal := .next (domainPowerGood d.val s)
/-- DOMAIN_POWER_TIMEOUT (R353). -/
def execDomainPowerTimeout (d : Fin 19) (s : State) : Host.Outcome State Fault Refusal := .next (domainPowerTimeout d.val s)
/-- PD8_DRAINED (R356). -/
def execPd8Drained (s : State) : Host.Outcome State Fault Refusal := .next (pd8Drained s)
/-- PD8_DRAIN_TIMEOUT (R356). -/
def execPd8DrainTimeout (s : State) : Host.Outcome State Fault Refusal := .next (pd8DrainTimeout s)
/-- SUPPLY_WARNING (R362); the Heel acts where it has a clock (R339). -/
def execSupplyWarning (n : Fin 2) (s : State) : Host.Outcome State Fault Refusal :=
  .next (s.heel (fun s => supplyWarning n.val s))
/-- SUPPLY_RECOVER (R362); the Heel acts where it has a clock (R339). -/
def execSupplyRecover (n : Fin 2) (mv : Fin 8192) (s : State) : Host.Outcome State Fault Refusal :=
  .next (s.heel (fun s => supplyRecover n.val mv.val s))
/-- SUPPLY_RESET (R361). -/
def execSupplyReset (n : Fin 2) (s : State) : Host.Outcome State Fault Refusal := .next (supplyReset n s)
/-- POR (R14). -/
def execPor (x : Straps) (s : State) : Host.Outcome State Fault Refusal := .next (por x s)
/-- PIN_RESET (R433). -/
def execPinReset (x : Straps) (s : State) : Host.Outcome State Fault Refusal := .next (pinReset x s)
/-- SOFT_RESET (R414). -/
def execSoftReset (m : Master) (key : Fin 65536) (s : State) : Host.Outcome State Fault Refusal := .next (softReset m key.val s)
/-- BLOCK_RESET (R406). -/
def execBlockReset (m : Master) (page : Fin 4096) (s : State) : Host.Outcome State Fault Refusal :=
  .next (blockReset m page.val s)
/-- BLOCK_RESET_END (R406). -/
def execBlockResetEnd (page : Fin 4096) (s : State) : Host.Outcome State Fault Refusal := .next (blockResetEnd page.val s)
/-- PAGE_ENABLE_WRITE (R405). -/
def execPageEnableWrite (m : Master) (page : Fin 4096) (on : Bool) (s : State) : Host.Outcome State Fault Refusal :=
  .next (pageEnableWrite m page.val on s)
/-- IRQ_FORCE (R409). -/
def execIrqForce (m : Master) (page : Fin 4096) (w : Word) (s : State) : Host.Outcome State Fault Refusal :=
  .next (irqForce m page.val w.toNat s)
/-- IRQ_STAT_CLEAR (R9). -/
def execIrqStatClear (m : Master) (page : Fin 4096) (w : Word) (s : State) : Host.Outcome State Fault Refusal :=
  .next (irqStatClear m page.val w.toNat s)
/-- PAGE_LOCK (R411). -/
def execPageLock (m : Master) (page : Fin 4096) (s : State) : Host.Outcome State Fault Refusal := .next (pageLock m page.val s)
/-- CLEAR_ON_READ (R9). -/
def execClearOnRead (m : Master) (page off : Fin 4096) (s : State) : Host.Outcome State Fault Refusal :=
  .next (clearOnRead m page.val off.val s)
/-- REGISTER_WRITE (R9). -/
def execRegisterWrite (m : Master) (page off : Fin 4096) (w : Word) (s : State) : Host.Outcome State Fault Refusal :=
  .next (registerWrite m page.val off.val w.toNat s)
/-- FLOW_COUNTER_SNAPSHOT (R118). -/
def execFlowCounterSnapshot (m : Master) (h : Fin 65536) (s : State) : Host.Outcome State Fault Refusal :=
  .next (flowCounterSnapshot m h.val s)
/-- FLOW_COUNTER_CLEAR (R118). -/
def execFlowCounterClear (m : Master) (h : Fin 65536) (s : State) : Host.Outcome State Fault Refusal :=
  .next (flowCounterClear m h.val s)
/-- METER_SNAPSHOT (R118). -/
def execMeterSnapshot (m : Master) (n : Fin 16384) (s : State) : Host.Outcome State Fault Refusal :=
  .next (meterSnapshot m n.val s)
/-- METER_CLEAR (R118). -/
def execMeterClear (m : Master) (n : Fin 16384) (s : State) : Host.Outcome State Fault Refusal := .next (meterClear m n.val s)
/-- METER_FILL (R118). -/
def execMeterFill (m : Master) (n : Fin 16384) (s : State) : Host.Outcome State Fault Refusal := .next (meterFill m n.val s)
/-- SERVICE_SNAPSHOT (R118). -/
def execServiceSnapshot (m : Master) (p : Fin 64) (v : Fin 8) (s : State) : Host.Outcome State Fault Refusal :=
  .next (serviceSnapshot m p.val v.val s)
/-- SERVICE_DROPS_CLEAR (R118). -/
def execServiceDropsClear (m : Master) (p : Fin 64) (v : Fin 8) (s : State) : Host.Outcome State Fault Refusal :=
  .next (serviceDropsClear m p.val v.val s)
/-- SUBSCRIBER_SNAPSHOT (R118). -/
def execSubscriberSnapshot (m : Master) (p : Fin 37) (u : Fin 2048) (s : State) : Host.Outcome State Fault Refusal :=
  .next (subscriberSnapshot m p.val u.val s)
/-- QUEUE_SNAPSHOT (R118). -/
def execQueueSnapshot (m : Master) (p : Fin 37) (q : Fin 8192) (s : State) : Host.Outcome State Fault Refusal :=
  .next (queueSnapshot m p.val q.val s)
/-- ROUTE_SNAPSHOT (R118). -/
def execRouteSnapshot (m : Master) (e : Fin 16) (r : Fin 16384) (s : State) : Host.Outcome State Fault Refusal :=
  .next (routeSnapshot m e.val r.val s)
/-- ROUTE_COUNTS_CLEAR (R118). -/
def execRouteCountsClear (m : Master) (e : Fin 16) (r : Fin 16384) (s : State) : Host.Outcome State Fault Refusal :=
  .next (routeCountsClear m e.val r.val s)
/-- TCA_PORT_SNAPSHOT (R118). -/
def execTcaPortSnapshot (m : Master) (port : Fin 32) (s : State) : Host.Outcome State Fault Refusal :=
  .next (tcaPortSnapshot m port.val s)
/-- TCA_PORT_CLEAR (R118). -/
def execTcaPortClear (m : Master) (port : Fin 32) (s : State) : Host.Outcome State Fault Refusal :=
  .next (tcaPortClear m port.val s)
/-- KEY_SLOT_SNAPSHOT (R274). -/
def execKeySlotSnapshot (m : Master) (idx : Fin 2048) (cls : Fin 4) (s : State) : Host.Outcome State Fault Refusal :=
  .next (keySlotSnapshot m idx.val cls.val s)
/-- CLUSTER_SNAPSHOT (R118). -/
def execClusterSnapshot (m : Master) (n : Fin 32) (s : State) : Host.Outcome State Fault Refusal :=
  .next (clusterSnapshot m n.val s)
/-- TXM_CHANNEL_SNAPSHOT (R118). -/
def execTxmChannelSnapshot (m : Master) (c : Fin 64) (s : State) : Host.Outcome State Fault Refusal :=
  .next (txmChannelSnapshot m c.val s)
/-- TIME_SNAPSHOT (R118). -/
def execTimeSnapshot (m : Master) (s : State) : Host.Outcome State Fault Refusal := .next (timeSnapshot m s)
/-- TIME_BASE_TICK (R184). -/
def execTimeBaseTick (s : State) : Host.Outcome State Fault Refusal := .next (timeBaseTick s)
/-- DOMAIN_STEP (R185). -/
def execDomainStep (d : Fin 2) (ns : Nat) (s : State) : Host.Outcome State Fault Refusal := .next (domainStep d.val ns s)
/-- RATE_ADJUST (R185). -/
def execRateAdjust (d : Fin 2) (rate : Int) (s : State) : Host.Outcome State Fault Refusal := .next (rateAdjust d.val rate s)
/-- SYNC_RX (R187). -/
def execSyncRx (d : Fin 2) (offset : Int) (s : State) : Host.Outcome State Fault Refusal := .next (syncRx d.val offset s)
/-- SYNC_RECEIPT_TIMEOUT (R187). -/
def execSyncReceiptTimeout (d : Fin 2) (s : State) : Host.Outcome State Fault Refusal := .next (syncReceiptTimeout d.val s)
/-- HOLDOVER_EXPIRY (R187). -/
def execHoldoverExpiry (d : Fin 2) (s : State) : Host.Outcome State Fault Refusal := .next (holdoverExpiry d.val s)
/-- LACE_START (R195); where a cycle begins, the CAN slots that follow it take their new entries (R62). -/
def execLaceStart (p : Fin 32) (s : State) : Host.Outcome State Fault Refusal :=
  .next (State.cycleBegun p.val s (laceStart p.val s))
/-- LACE_CYCLE_BOUNDARY (R194); where a cycle begins, the CAN slots that follow it take their new entries (R62). -/
def execLaceCycleBoundary (p : Fin 32) (s : State) : Host.Outcome State Fault Refusal :=
  .next (State.cycleBegun p.val s (laceCycleBoundary p.val s))
/-- GATE_ENTRY_END (R194). -/
def execGateEntryEnd (p : Fin 32) (s : State) : Host.Outcome State Fault Refusal := .next (gateEntryEnd p.val s)
/-- HOLD_ADV_REQUEST (R194). -/
def execHoldAdvRequest (p : Fin 32) (e : Nat) (s : State) : Host.Outcome State Fault Refusal := .next (holdAdvRequest p.val e s)
/-- LACE_SWAP (R198); where a cycle begins, the CAN slots that follow it take their new entries (R62). -/
def execLaceSwap (p : Fin 32) (s : State) : Host.Outcome State Fault Refusal :=
  .next (State.cycleBegun p.val s (laceSwap p.val s))
/-- PREEMPT_VERIFY (R202). -/
def execPreemptVerify (p : Fin 32) (answered : Bool) (s : State) : Host.Outcome State Fault Refusal :=
  .next (preemptVerify p.val answered s)
/-- SYNC_IN_EDGE (R206). -/
def execSyncInEdge (rising : Bool) (s : State) : Host.Outcome State Fault Refusal := .next (syncInEdge rising s)
/-- SYNC_PERIOD_BOUNDARY (R206). -/
def execSyncPeriodBoundary (s : State) : Host.Outcome State Fault Refusal := .next (syncPeriodBoundary s)
/-- SYNC_ENABLE (R206). -/
def execSyncEnable (m : Master) (en : Bool) (s : State) : Host.Outcome State Fault Refusal := .next (syncEnable m en s)
/-- PPS_PULSE (R208). -/
def execPpsPulse (s : State) : Host.Outcome State Fault Refusal := .next (ppsPulse s)
/-- EVT_IN_EDGE (R209). -/
def execEvtInEdge (k : Fin 4) (rising : Bool) (width : Nat) (s : State) : Host.Outcome State Fault Refusal :=
  .next (evtInEdge k.val rising width s)
/-- EVT_READ (R209). -/
def execEvtRead (m : Master) (k : Fin 4) (s : State) : Host.Outcome State Fault Refusal := .next (evtRead m k.val s)
/-- TRG_ARM (R210). -/
def execTrgArm (m : Master) (k : Fin 4) (en : Bool) (s : State) : Host.Outcome State Fault Refusal :=
  .next (trgArm m k.val en s)
/-- TRG_EDGE (R210). -/
def execTrgEdge (k : Fin 4) (s : State) : Host.Outcome State Fault Refusal := .next (trgEdge k.val s)
/-- KEEPALIVE_RX (R366). -/
def execKeepaliveRx (e : KaRx) (s : State) : Host.Outcome State Fault Refusal := .next (keepaliveRx e s)
/-- KEEPALIVE_PERIOD (R368). -/
def execKeepalivePeriod (n : Fin 32) (s : State) : Host.Outcome State Fault Refusal := .next (keepalivePeriod n.val s)
/-- READY_TIMER_EXPIRY (R368); the Heel acts where it has a clock (R339). -/
def execReadyTimerExpiry (n : Fin 32) (s : State) : Host.Outcome State Fault Refusal :=
  .next (s.heel (fun s => readyTimerExpiry n.val s))
/-- PREPARE_TIMER_EXPIRY (R368); the Heel acts where it has a clock (R339). -/
def execPrepareTimerExpiry (n : Fin 32) (s : State) : Host.Outcome State Fault Refusal :=
  .next (s.heel (fun s => prepareTimerExpiry n.val s))
/-- WAKE_TIMEOUT (R368); the Heel acts where it has a clock (R339). -/
def execWakeTimeout (n : Fin 32) (s : State) : Host.Outcome State Fault Refusal :=
  .next (s.heel (fun s => wakeTimeout n.val s))
/-- WAKE_REQUEST_HOST (R367). -/
def execWakeRequestHost (m : Master) (v : Word) (s : State) : Host.Outcome State Fault Refusal :=
  .next (wakeRequestHost m v.toNat s)
/-- WAKE_REQUEST_SB (R367). -/
def execWakeRequestSb (m : Master) (v : Word) (s : State) : Host.Outcome State Fault Refusal :=
  .next (wakeRequestSb m v.toNat s)
/-- WAKE_PIN_CHANGE (R367); the Heel acts where it has a clock (R339). -/
def execWakePinChange (k : Fin 4) (active : Bool) (s : State) : Host.Outcome State Fault Refusal :=
  .next (s.heel (fun s => wakePinChange k.val active s))
/-- ROUTE_HOLD_EXPIRY (R367); the Heel acts where it has a clock (R339). -/
def execRouteHoldExpiry (n : Fin 32) (s : State) : Host.Outcome State Fault Refusal :=
  .next (s.heel (fun s => routeHoldExpiry n.val s))
/-- LIN_GOTOSLEEP_RX (R368). -/
def execLinGotosleepRx (l : Fin 16) (s : State) : Host.Outcome State Fault Refusal := .next (linGotosleepRx l.val s)
/-- DESCENT_START (R371). -/
def execDescentStart (s : State) : Host.Outcome State Fault Refusal := .next (descentStart s)
/-- DESCENT_COMMIT (R371). -/
def execDescentCommit (s : State) : Host.Outcome State Fault Refusal := .next (descentCommit s)
/-- DESCENT_STANDBY (R371). -/
def execDescentStandby (s : State) : Host.Outcome State Fault Refusal := .next (descentStandby s)
/-- DESCENT_SLEEP (R371). -/
def execDescentSleep (s : State) : Host.Outcome State Fault Refusal := .next (descentSleep s)
/-- WAKE_LATCH (R373). -/
def execWakeLatch (kind index : Nat) (s : State) : Host.Outcome State Fault Refusal := .next (wakeLatch kind index s)
/-- WAK_TIMER_EXPIRY (R373); the Heel acts where it has a clock (R339). -/
def execWakTimerExpiry (s : State) : Host.Outcome State Fault Refusal :=
  .next (s.heel (fun s => wakTimerExpiry s))
/-- CONVERTER_UPDATE (R363). -/
def execConverterUpdate (vs : List (Fin 65536)) (s : State) : Host.Outcome State Fault Refusal :=
  .next (converterUpdate (vs.map Fin.val) s)
/-- TXM_CMD (R377). -/
def execTxmCmd (m : Master) (c : Fin 64) (st : Fin 4) (s : State) : Host.Outcome State Fault Refusal :=
  .next (txmCmd m c.val st.val s)
/-- TXM_SEQUENCE_DONE (R377). -/
def execTxmSequenceDone (c : Fin 64) (rx : List Byte) (s : State) : Host.Outcome State Fault Refusal :=
  .next (txmSequenceDone c.val rx s)
/-- BOOT_START (R386). -/
def execBootStart (s : State) : Host.Outcome State Fault Refusal := .next (bootStart s)
/-- BOOT_PART_CHECKED (R386). -/
def execBootPartChecked (readOk : Bool) (s : State) : Host.Outcome State Fault Refusal := .next (bootPartChecked readOk s)
/-- BOOT_RECORD_WRITE_DONE (R385). -/
def execBootRecordWriteDone (ok : Bool) (s : State) : Host.Outcome State Fault Refusal := .next (bootRecordWriteDone ok s)
/-- UPD_OPEN (R390). -/
def execUpdOpen (m : Master) (s : State) : Host.Outcome State Fault Refusal := .next (updOpen m s)
/-- UPD_ERASE (R390). -/
def execUpdErase (m : Master) (s : State) : Host.Outcome State Fault Refusal := .next (updErase m s)
/-- UPD_PROGRAM (R390). -/
def execUpdProgram (m : Master) (s : State) : Host.Outcome State Fault Refusal := .next (updProgram m s)
/-- UPD_READ (R390). -/
def execUpdRead (m : Master) (s : State) : Host.Outcome State Fault Refusal := .next (updRead m s)
/-- UPD_CLOSE (R390). -/
def execUpdClose (m : Master) (s : State) : Host.Outcome State Fault Refusal := .next (updClose m s)
/-- UPD_LOAD_PAGE (R399). -/
def execUpdLoadPage (m : Master) (s : State) : Host.Outcome State Fault Refusal := .next (updLoadPage m s)
/-- UPD_LOAD_DONE (R399). -/
def execUpdLoadDone (m : Master) (s : State) : Host.Outcome State Fault Refusal := .next (updLoadDone m s)
/-- UPD_OP_DONE (R391). -/
def execUpdOpDone (r : FlashEnd) (s : State) : Host.Outcome State Fault Refusal := .next (updOpDone r s)
/-- UPD_ARM (R393). -/
def execUpdArm (m : Master) (s : State) : Host.Outcome State Fault Refusal := .next (updArm m s)
/-- UPD_DISARM (R393). -/
def execUpdDisarm (m : Master) (s : State) : Host.Outcome State Fault Refusal := .next (updDisarm m s)
/-- UPD_RESTART (R394). -/
def execUpdRestart (m : Master) (s : State) : Host.Outcome State Fault Refusal := .next (updRestart m s)
/-- UPD_CONFIRM (R395). -/
def execUpdConfirm (m : Master) (s : State) : Host.Outcome State Fault Refusal := .next (updConfirm m s)
/-- TRIAL_EXPIRY (R395). -/
def execTrialExpiry (s : State) : Host.Outcome State Fault Refusal := .next (trialExpiry s)
/-- SPEED_FRAME_RX (R392). -/
def execSpeedFrameRx (chan : Fin 64) (id : Nat) (ide : Bool) (data : List Byte) (s : State) : Host.Outcome State Fault Refusal :=
  .next (speedFrameRx chan.val id ide data s)
/-- SPEED_STALE (R392). -/
def execSpeedStale (s : State) : Host.Outcome State Fault Refusal := .next (speedStale s)
/-- NONCE_REQ (R397). -/
def execNonceReq (m : Master) (s : State) : Host.Outcome State Fault Refusal := .next (nonceReq m s)
/-- NONCE_EXPIRY (R397). -/
def execNonceExpiry (s : State) : Host.Outcome State Fault Refusal := .next (nonceExpiry s)
/-- OWNER_LOCK (R397). -/
def execOwnerLock (m : Master) (s : State) : Host.Outcome State Fault Refusal := .next (ownerLock m s)
/-- OWNER_UNLOCK (R398). -/
def execOwnerUnlock (m : Master) (s : State) : Host.Outcome State Fault Refusal := .next (ownerUnlock m s)
/-- OWNER_PROVISION (R397). -/
def execOwnerProvision (m : Master) (s : State) : Host.Outcome State Fault Refusal := .next (ownerProvision m s)
/-- SUPPLY_RESET_RELEASE (R361). -/
def execSupplyResetRelease (x : Straps) (s : State) : Host.Outcome State Fault Refusal := .next (supplyResetRelease x s)
/-- VSTBY_BELOW_POR (R432). -/
def execVstbyBelowPor (s : State) : Host.Outcome State Fault Refusal := .next (vstbyBelowPor s)
/-- CLOCK_EDGES_RETURN (R340). -/
def execClockEdgesReturn (c : Clock) (s : State) : Host.Outcome State Fault Refusal := .next (clockEdgesReturn c s)
/-- RX_FIFO_MEMORY_ERROR (R234). -/
def execRxFifoMemoryError (p : Fin 32) (k : Nat) (s : State) : Host.Outcome State Fault Refusal :=
  .next (rxFifoMemoryError p.val k s)
/-- PHY_INTERNAL_FAULT (R234). -/
def execPhyInternalFault (t : Fin 8) (s : State) : Host.Outcome State Fault Refusal := .next (phyInternalFault (24 + t.val) s)
/-- GRANDMASTER_CHANGE (R187). -/
def execGrandmasterChange (d : Fin 2) (gm portless : Bool) (s : State) : Host.Outcome State Fault Refusal :=
  .next (grandmasterChange d.val gm portless s)
/-- PRBS_ERROR (R225). -/
def execPrbsError (l : Fin 24) (s : State) : Host.Outcome State Fault Refusal := .next (prbsError l.val s)
/-- VMOVE_IN_CHANGE (R392). -/
def execVmoveInChange (high : Bool) (s : State) : Host.Outcome State Fault Refusal := .next (vmoveInChange high s)

end Sys2Proof.Machine
end

