-- ==== Sys2Proof/Machine/Dispatch.lean ====
section
/-! DEFINITION. One arm for each command: the direct call of its meaning. -/
namespace Sys2Proof.Machine

def exec (i : Instr) (s : State) : Host.Outcome State Fault Refusal :=
  match i with
  | .csOpen m => Sys2Proof.Machine.execCsOpen m s
  | .csAbort m => Sys2Proof.Machine.execCsAbort m s
  | .stagingWrite m off bs => Sys2Proof.Machine.execStagingWrite m off bs s
  | .changeSetListWrite m off bs => Sys2Proof.Machine.execChangeSetListWrite m off bs s
  | .commitGo m => Sys2Proof.Machine.execCommitGo m s
  | .commitValidated => Sys2Proof.Machine.execCommitValidated s
  | .flip => Sys2Proof.Machine.execFlip s
  | .epochDrainEnd => Sys2Proof.Machine.execEpochDrainEnd s
  | .drainLimitExpiry => Sys2Proof.Machine.execDrainLimitExpiry s
  | .reloadFlash m => Sys2Proof.Machine.execReloadFlash m s
  | .reloadHost m => Sys2Proof.Machine.execReloadHost m s
  | .reloadGo m => Sys2Proof.Machine.execReloadGo m s
  | .hostLoadTimeout => Sys2Proof.Machine.execHostLoadTimeout s
  | .reloadImageReadDone readOk => Sys2Proof.Machine.execReloadImageReadDone readOk s
  | .reloadDone => Sys2Proof.Machine.execReloadDone s
  | .ethFrameArrival p bytes => Sys2Proof.Machine.execEthFrameArrival p bytes s
  | .clickerDispatch => Sys2Proof.Machine.execClickerDispatch s
  | .parseStep c k => Sys2Proof.Machine.execParseStep c k s
  | .flowLookup c k => Sys2Proof.Machine.execFlowLookup c k s
  | .ingressFrameEnd p l => Sys2Proof.Machine.execIngressFrameEnd p l s
  | .reorderRelease p => Sys2Proof.Machine.execReorderRelease p s
  | .reorderTimeout p inRules => Sys2Proof.Machine.execReorderTimeout p inRules s
  | .clickerRejoin c repairs ok => Sys2Proof.Machine.execClickerRejoin c repairs ok s
  | .cutThroughStart p => Sys2Proof.Machine.execCutThroughStart p s
  | .schedulerChoose p => Sys2Proof.Machine.execSchedulerChoose p s
  | .copyTxDone p => Sys2Proof.Machine.execCopyTxDone p s
  | .reparent isQueue n => Sys2Proof.Machine.execReparent isQueue n s
  | .paceWindowEnd n measured => Sys2Proof.Machine.execPaceWindowEnd n measured s
  | .demandWindowEnd => Sys2Proof.Machine.execDemandWindowEnd s
  | .fabricStall n => Sys2Proof.Machine.execFabricStall n s
  | .sliceRejoin n repairs ok => Sys2Proof.Machine.execSliceRejoin n repairs ok s
  | .governorInterval => Sys2Proof.Machine.execGovernorInterval s
  | .pmbusTransactionDone ok mv => Sys2Proof.Machine.execPmbusTransactionDone ok mv s
  | .governorEnable m en pec addr step interval => Sys2Proof.Machine.execGovernorEnable m en pec addr step interval s
  | .linkUp p inBand => Sys2Proof.Machine.execLinkUp p inBand s
  | .linkDown p why => Sys2Proof.Machine.execLinkDown p why s
  | .flushComplete p => Sys2Proof.Machine.execFlushComplete p s
  | .portReturnEnd p => Sys2Proof.Machine.execPortReturnEnd p s
  | .cautiousConditionEnd c => Sys2Proof.Machine.execCautiousConditionEnd c s
  | .cobblerPassEnd dur => Sys2Proof.Machine.execCobblerPassEnd dur s
  | .cobblerEnable m en => Sys2Proof.Machine.execCobblerEnable m en s
  | .inbandRateChange p rate => Sys2Proof.Machine.execInbandRateChange p rate s
  | .pllLost l => Sys2Proof.Machine.execPllLost l s
  | .pauseFrameRx p b symErr => Sys2Proof.Machine.execPauseFrameRx p b symErr s
  | .pauseExpiry p cls => Sys2Proof.Machine.execPauseExpiry p cls s
  | .txPauseSend p => Sys2Proof.Machine.execTxPauseSend p s
  | .txPauseRepeat p => Sys2Proof.Machine.execTxPauseRepeat p s
  | .pauseWatchdogExpiry p => Sys2Proof.Machine.execPauseWatchdogExpiry p s
  | .pauseIgnoreEnd p => Sys2Proof.Machine.execPauseIgnoreEnd p s
  | .testModeSet m p t => Sys2Proof.Machine.execTestModeSet m p t s
  | .counterLowRead m c => Sys2Proof.Machine.execCounterLowRead m c s
  | .t1sStateRequest m t st => Sys2Proof.Machine.execT1sStateRequest m t st s
  | .t1sStateReached t => Sys2Proof.Machine.execT1sStateReached t s
  | .plcaBeaconTimeout t => Sys2Proof.Machine.execPlcaBeaconTimeout t s
  | .plcaBeaconRx t => Sys2Proof.Machine.execPlcaBeaconRx t s
  | .t1sCollision t => Sys2Proof.Machine.execT1sCollision t s
  | .cableGo m t => Sys2Proof.Machine.execCableGo m t s
  | .cableCheckDone t result => Sys2Proof.Machine.execCableCheckDone t result s
  | .mdioCmd m b c45 op phy reg data => Sys2Proof.Machine.execMdioCmd m b c45 op phy reg data s
  | .mdioDone b data => Sys2Proof.Machine.execMdioDone b data s
  | .canFrameRx c w ago => Sys2Proof.Machine.execCanFrameRx c w ago s
  | .awlAccept e => Sys2Proof.Machine.execAwlAccept e s
  | .apFrameToAwl a => Sys2Proof.Machine.execApFrameToAwl a s
  | .canTxStart c => Sys2Proof.Machine.execCanTxStart c s
  | .canTxDone c e => Sys2Proof.Machine.execCanTxDone c e s
  | .canBusOff c => Sys2Proof.Machine.execCanBusOff c s
  | .recDelayExpiry c => Sys2Proof.Machine.execRecDelayExpiry c s
  | .canRecover m c => Sys2Proof.Machine.execCanRecover m c s
  | .canRecovered c => Sys2Proof.Machine.execCanRecovered c s
  | .canSlotStart c n => Sys2Proof.Machine.execCanSlotStart c n s
  | .canSlotWindowClose c n => Sys2Proof.Machine.execCanSlotWindowClose c n s
  | .linEntryStart l bitErr => Sys2Proof.Machine.execLinEntryStart l bitErr s
  | .linHeaderRx l fid rate bitErr => Sys2Proof.Machine.execLinHeaderRx l fid rate bitErr s
  | .linResponseRx l e => Sys2Proof.Machine.execLinResponseRx l e s
  | .linTableWrite m l t => Sys2Proof.Machine.execLinTableWrite m l t s
  | .linWakeTx m l => Sys2Proof.Machine.execLinWakeTx m l s
  | .linWakeRepeat l => Sys2Proof.Machine.execLinWakeRepeat l s
  | .linWakeRx l => Sys2Proof.Machine.execLinWakeRx l s
  | .streamHoldExpiry k => Sys2Proof.Machine.execStreamHoldExpiry k s
  | .awlWatchdog e => Sys2Proof.Machine.execAwlWatchdog e s
  | .canFifoError c k => Sys2Proof.Machine.execCanFifoError c k s
  | .toecapStart => Sys2Proof.Machine.execToecapStart s
  | .keyRestoreDone => Sys2Proof.Machine.execKeyRestoreDone s
  | .keyLoad m idx cls klen plain wrap => Sys2Proof.Machine.execKeyLoad m idx cls klen plain wrap s
  | .keyErase m idx cls => Sys2Proof.Machine.execKeyErase m idx cls s
  | .keyLoadDone => Sys2Proof.Machine.execKeyLoadDone s
  | .tkmLock m => Sys2Proof.Machine.execTkmLock m s
  | .drbgReseed ok => Sys2Proof.Machine.execDrbgReseed ok s
  | .toecapAlarm causes => Sys2Proof.Machine.execToecapAlarm causes s
  | .tcaEvtRead m => Sys2Proof.Machine.execTcaEvtRead m s
  | .fvRead m => Sys2Proof.Machine.execFvRead m s
  | .fvWrite m => Sys2Proof.Machine.execFvWrite m s
  | .pcieRead addr n => Sys2Proof.Machine.execPcieRead addr n s
  | .readAnswer tag target => Sys2Proof.Machine.execReadAnswer tag target s
  | .readTimeout tag => Sys2Proof.Machine.execReadTimeout tag s
  | .pcieWritePosted addr bs => Sys2Proof.Machine.execPcieWritePosted addr bs s
  | .pcieWriteConfirmed addr bs => Sys2Proof.Machine.execPcieWriteConfirmed addr bs s
  | .writeAck seq target => Sys2Proof.Machine.execWriteAck seq target s
  | .writeTimeout seq => Sys2Proof.Machine.execWriteTimeout seq s
  | .perrAck m n => Sys2Proof.Machine.execPerrAck m n s
  | .pcieLinkDown => Sys2Proof.Machine.execPcieLinkDown s
  | .pcieLinkUp width speed bme => Sys2Proof.Machine.execPcieLinkUp width speed bme s
  | .ownerWrite m v => Sys2Proof.Machine.execOwnerWrite m v s
  | .ringEnable m tx r en kind size buf => Sys2Proof.Machine.execRingEnable m tx r en kind size buf s
  | .tailWrite m tx r t => Sys2Proof.Machine.execTailWrite m tx r t s
  | .hdmRxDeliver bufs => Sys2Proof.Machine.execHdmRxDeliver bufs s
  | .hdmTxFrame ds data => Sys2Proof.Machine.execHdmTxFrame ds data s
  | .dmaError tx r n => Sys2Proof.Machine.execDmaError tx r n s
  | .moderationTimer tx r => Sys2Proof.Machine.execModerationTimer tx r s
  | .sbWrite addr ws bad => Sys2Proof.Machine.execSbWrite addr ws bad s
  | .sbRead addr n bad => Sys2Proof.Machine.execSbRead addr n bad s
  | .sbPeek addr n bad => Sys2Proof.Machine.execSbPeek addr n bad s
  | .sbStatus addr n => Sys2Proof.Machine.execSbStatus addr n s
  | .sbIdent addr n => Sys2Proof.Machine.execSbIdent addr n s
  | .sbPower addr n w => Sys2Proof.Machine.execSbPower addr n w s
  | .sbCrcErr b => Sys2Proof.Machine.execSbCrcErr b s
  | .sbShort => Sys2Proof.Machine.execSbShort s
  | .sbResponseTimeout q k => Sys2Proof.Machine.execSbResponseTimeout q k s
  | .mbxGo m len => Sys2Proof.Machine.execMbxGo m len s
  | .mbxResponse result body => Sys2Proof.Machine.execMbxResponse result body s
  | .loopbackTest good bad => Sys2Proof.Machine.execLoopbackTest good bad s
  | .faultReport page code => Sys2Proof.Machine.execFaultReport page code s
  | .stormPeriodEnd => Sys2Proof.Machine.execStormPeriodEnd s
  | .fltClear m => Sys2Proof.Machine.execFltClear m s
  | .faultCountSnapshot m code => Sys2Proof.Machine.execFaultCountSnapshot m code s
  | .faultCountClear m code => Sys2Proof.Machine.execFaultCountClear m code s
  | .nmiClear m ones => Sys2Proof.Machine.execNmiClear m ones s
  | .fwKick m v => Sys2Proof.Machine.execFwKick m v s
  | .fwWatchdogWarn => Sys2Proof.Machine.execFwWatchdogWarn s
  | .fwWatchdogExpiry => Sys2Proof.Machine.execFwWatchdogExpiry s
  | .lockstepMismatch pair => Sys2Proof.Machine.execLockstepMismatch pair s
  | .hbKick m => Sys2Proof.Machine.execHbKick m s
  | .hbEnable m en timeout => Sys2Proof.Machine.execHbEnable m en timeout s
  | .hbExpiry => Sys2Proof.Machine.execHbExpiry s
  | .selfTestDone d repairs failed pagesOk => Sys2Proof.Machine.execSelfTestDone d repairs failed pagesOk s
  | .lrcCountDone => Sys2Proof.Machine.execLrcCountDone s
  | .lrcCountTimeout => Sys2Proof.Machine.execLrcCountTimeout s
  | .hrcQualifyDone counted cycles => Sys2Proof.Machine.execHrcQualifyDone counted cycles s
  | .xtalQualifyDone cycles => Sys2Proof.Machine.execXtalQualifyDone cycles s
  | .xtalStartTimeout => Sys2Proof.Machine.execXtalStartTimeout s
  | .sdsrefQualifyDone cycles => Sys2Proof.Machine.execSdsrefQualifyDone cycles s
  | .monitorWindowEnd xtalCycles hrcCycles sdsCycles => Sys2Proof.Machine.execMonitorWindowEnd xtalCycles hrcCycles sdsCycles s
  | .clockStopDetect c => Sys2Proof.Machine.execClockStopDetect c s
  | .dwellEnd => Sys2Proof.Machine.execDwellEnd s
  | .autoReturnWrite m on => Sys2Proof.Machine.execAutoReturnWrite m on s
  | .hrcTrimWindow cycles => Sys2Proof.Machine.execHrcTrimWindow cycles s
  | .canTrimWindow frames => Sys2Proof.Machine.execCanTrimWindow frames s
  | .beaconTrimWindow cycles => Sys2Proof.Machine.execBeaconTrimWindow cycles s
  | .lrcTrimWindow err => Sys2Proof.Machine.execLrcTrimWindow err s
  | .domainRequest m d on viaPage => Sys2Proof.Machine.execDomainRequest m d on viaPage s
  | .domainPowerGood d => Sys2Proof.Machine.execDomainPowerGood d s
  | .domainPowerTimeout d => Sys2Proof.Machine.execDomainPowerTimeout d s
  | .pd8Drained => Sys2Proof.Machine.execPd8Drained s
  | .pd8DrainTimeout => Sys2Proof.Machine.execPd8DrainTimeout s
  | .supplyWarning n => Sys2Proof.Machine.execSupplyWarning n s
  | .supplyRecover n mv => Sys2Proof.Machine.execSupplyRecover n mv s
  | .supplyReset n => Sys2Proof.Machine.execSupplyReset n s
  | .por x => Sys2Proof.Machine.execPor x s
  | .pinReset x => Sys2Proof.Machine.execPinReset x s
  | .softReset m key => Sys2Proof.Machine.execSoftReset m key s
  | .blockReset m page => Sys2Proof.Machine.execBlockReset m page s
  | .blockResetEnd page => Sys2Proof.Machine.execBlockResetEnd page s
  | .pageEnableWrite m page on => Sys2Proof.Machine.execPageEnableWrite m page on s
  | .irqForce m page w => Sys2Proof.Machine.execIrqForce m page w s
  | .irqStatClear m page w => Sys2Proof.Machine.execIrqStatClear m page w s
  | .pageLock m page => Sys2Proof.Machine.execPageLock m page s
  | .clearOnRead m page off => Sys2Proof.Machine.execClearOnRead m page off s
  | .registerWrite m page off w => Sys2Proof.Machine.execRegisterWrite m page off w s
  | .flowCounterSnapshot m h => Sys2Proof.Machine.execFlowCounterSnapshot m h s
  | .flowCounterClear m h => Sys2Proof.Machine.execFlowCounterClear m h s
  | .meterSnapshot m n => Sys2Proof.Machine.execMeterSnapshot m n s
  | .meterClear m n => Sys2Proof.Machine.execMeterClear m n s
  | .meterFill m n => Sys2Proof.Machine.execMeterFill m n s
  | .serviceSnapshot m p v => Sys2Proof.Machine.execServiceSnapshot m p v s
  | .serviceDropsClear m p v => Sys2Proof.Machine.execServiceDropsClear m p v s
  | .subscriberSnapshot m p u => Sys2Proof.Machine.execSubscriberSnapshot m p u s
  | .queueSnapshot m p q => Sys2Proof.Machine.execQueueSnapshot m p q s
  | .routeSnapshot m e r => Sys2Proof.Machine.execRouteSnapshot m e r s
  | .routeCountsClear m e r => Sys2Proof.Machine.execRouteCountsClear m e r s
  | .tcaPortSnapshot m port => Sys2Proof.Machine.execTcaPortSnapshot m port s
  | .tcaPortClear m port => Sys2Proof.Machine.execTcaPortClear m port s
  | .keySlotSnapshot m idx cls => Sys2Proof.Machine.execKeySlotSnapshot m idx cls s
  | .clusterSnapshot m n => Sys2Proof.Machine.execClusterSnapshot m n s
  | .txmChannelSnapshot m c => Sys2Proof.Machine.execTxmChannelSnapshot m c s
  | .timeSnapshot m => Sys2Proof.Machine.execTimeSnapshot m s
  | .timeBaseTick => Sys2Proof.Machine.execTimeBaseTick s
  | .domainStep d ns => Sys2Proof.Machine.execDomainStep d ns s
  | .rateAdjust d rate => Sys2Proof.Machine.execRateAdjust d rate s
  | .syncRx d offset => Sys2Proof.Machine.execSyncRx d offset s
  | .syncReceiptTimeout d => Sys2Proof.Machine.execSyncReceiptTimeout d s
  | .holdoverExpiry d => Sys2Proof.Machine.execHoldoverExpiry d s
  | .laceStart p => Sys2Proof.Machine.execLaceStart p s
  | .laceCycleBoundary p => Sys2Proof.Machine.execLaceCycleBoundary p s
  | .gateEntryEnd p => Sys2Proof.Machine.execGateEntryEnd p s
  | .holdAdvRequest p e => Sys2Proof.Machine.execHoldAdvRequest p e s
  | .laceSwap p => Sys2Proof.Machine.execLaceSwap p s
  | .preemptVerify p answered => Sys2Proof.Machine.execPreemptVerify p answered s
  | .syncInEdge rising => Sys2Proof.Machine.execSyncInEdge rising s
  | .syncPeriodBoundary => Sys2Proof.Machine.execSyncPeriodBoundary s
  | .syncEnable m en => Sys2Proof.Machine.execSyncEnable m en s
  | .ppsPulse => Sys2Proof.Machine.execPpsPulse s
  | .evtInEdge k rising width => Sys2Proof.Machine.execEvtInEdge k rising width s
  | .evtRead m k => Sys2Proof.Machine.execEvtRead m k s
  | .trgArm m k en => Sys2Proof.Machine.execTrgArm m k en s
  | .trgEdge k => Sys2Proof.Machine.execTrgEdge k s
  | .keepaliveRx e => Sys2Proof.Machine.execKeepaliveRx e s
  | .keepalivePeriod n => Sys2Proof.Machine.execKeepalivePeriod n s
  | .readyTimerExpiry n => Sys2Proof.Machine.execReadyTimerExpiry n s
  | .prepareTimerExpiry n => Sys2Proof.Machine.execPrepareTimerExpiry n s
  | .wakeTimeout n => Sys2Proof.Machine.execWakeTimeout n s
  | .wakeRequestHost m v => Sys2Proof.Machine.execWakeRequestHost m v s
  | .wakeRequestSb m v => Sys2Proof.Machine.execWakeRequestSb m v s
  | .wakePinChange k active => Sys2Proof.Machine.execWakePinChange k active s
  | .routeHoldExpiry n => Sys2Proof.Machine.execRouteHoldExpiry n s
  | .linGotosleepRx l => Sys2Proof.Machine.execLinGotosleepRx l s
  | .descentStart => Sys2Proof.Machine.execDescentStart s
  | .descentCommit => Sys2Proof.Machine.execDescentCommit s
  | .descentStandby => Sys2Proof.Machine.execDescentStandby s
  | .descentSleep => Sys2Proof.Machine.execDescentSleep s
  | .wakeLatch kind index => Sys2Proof.Machine.execWakeLatch kind index s
  | .wakTimerExpiry => Sys2Proof.Machine.execWakTimerExpiry s
  | .converterUpdate vs => Sys2Proof.Machine.execConverterUpdate vs s
  | .txmCmd m c st => Sys2Proof.Machine.execTxmCmd m c st s
  | .txmSequenceDone c rx => Sys2Proof.Machine.execTxmSequenceDone c rx s
  | .bootStart => Sys2Proof.Machine.execBootStart s
  | .bootPartChecked readOk => Sys2Proof.Machine.execBootPartChecked readOk s
  | .bootRecordWriteDone ok => Sys2Proof.Machine.execBootRecordWriteDone ok s
  | .updOpen m => Sys2Proof.Machine.execUpdOpen m s
  | .updErase m => Sys2Proof.Machine.execUpdErase m s
  | .updProgram m => Sys2Proof.Machine.execUpdProgram m s
  | .updRead m => Sys2Proof.Machine.execUpdRead m s
  | .updClose m => Sys2Proof.Machine.execUpdClose m s
  | .updLoadPage m => Sys2Proof.Machine.execUpdLoadPage m s
  | .updLoadDone m => Sys2Proof.Machine.execUpdLoadDone m s
  | .updOpDone r => Sys2Proof.Machine.execUpdOpDone r s
  | .updArm m => Sys2Proof.Machine.execUpdArm m s
  | .updDisarm m => Sys2Proof.Machine.execUpdDisarm m s
  | .updRestart m => Sys2Proof.Machine.execUpdRestart m s
  | .updConfirm m => Sys2Proof.Machine.execUpdConfirm m s
  | .trialExpiry => Sys2Proof.Machine.execTrialExpiry s
  | .speedFrameRx chan id ide data => Sys2Proof.Machine.execSpeedFrameRx chan id ide data s
  | .speedStale => Sys2Proof.Machine.execSpeedStale s
  | .nonceReq m => Sys2Proof.Machine.execNonceReq m s
  | .nonceExpiry => Sys2Proof.Machine.execNonceExpiry s
  | .ownerLock m => Sys2Proof.Machine.execOwnerLock m s
  | .ownerUnlock m => Sys2Proof.Machine.execOwnerUnlock m s
  | .ownerProvision m => Sys2Proof.Machine.execOwnerProvision m s
  | .supplyResetRelease x => Sys2Proof.Machine.execSupplyResetRelease x s
  | .vstbyBelowPor => Sys2Proof.Machine.execVstbyBelowPor s
  | .clockEdgesReturn c => Sys2Proof.Machine.execClockEdgesReturn c s
  | .rxFifoMemoryError p k => Sys2Proof.Machine.execRxFifoMemoryError p k s
  | .phyInternalFault t => Sys2Proof.Machine.execPhyInternalFault t s
  | .grandmasterChange d gm portless => Sys2Proof.Machine.execGrandmasterChange d gm portless s
  | .prbsError l => Sys2Proof.Machine.execPrbsError l s
  | .vmoveInChange high => Sys2Proof.Machine.execVmoveInChange high s

end Sys2Proof.Machine
end

