-- ==== Sys2Proof/Machine/Pins.lean ====
section
/-! DEFINITION. The pins that the device drives or reads and the states they take (R206–R210, R306, R307, R315, R328, R364, R380,
R417–R421, R425, R426, R432).  What a pin carries while its bus is in operation is the commands'. -/
namespace Sys2Proof.Machine

/-- The signals of R417, the two balls of a differential pair together. -/
inductive Pin where
  | bpTx (n : Fin 8) | bpRx (n : Fin 8) | mpTx (m : Fin 16) | mpRx (m : Fin 16) | sdsRefclk
  | pcieTx (k : Fin 4) | pcieRx (k : Fin 4) | pcieRefclk | t1s (n : Fin 8)
  | canTxd (c : Fin 64) | linTxd (l : Fin 16) | canRxd (c : Fin 64) | linRxd (l : Fin 16)
  | txmCsN (c : Fin 64) | txmSck (k : Fin 4) | txmMosi (k : Fin 4) | txmMiso (k : Fin 4)
  | syncIn | evtIn (i : Fin 4) | ppsOut | trgOut (i : Fin 4)
  | pciePerstN | mdc (b : Fin 4) | mdio (b : Fin 4) | pmicScl | pmicSda
  | flCsN (b : Fin 2) | flSck | flResetN | flDq (i : Fin 8) | flDqs
  | wakeIn (i : Fin 4) | vmoveIn | resetN | vbatSense | xtalIn | xtalOut
  | sbCsN | sbSck | sbMosi | sbMiso
  | intN (k : Fin 4) | nmiN | sbAlertN | inhOut | bootMode (i : Fin 2) | sbEn | ioVsel
deriving DecidableEq, Repr

/-- What a pin does: it is driven, released (open drain), in high impedance, an input, an unpowered input, or it carries its bus. -/
inductive PinState where
  | high | low | released | highZ | input | unpowered | bus
deriving DecidableEq, Repr

/-- The bank whose supply powers a pin (R418). -/
inductive Bank where
  | heel | heel18 | io33 | io18 | analog | serdes | t1s
deriving DecidableEq, Repr

/-- The internal pull of a pin, in kΩ, to VSS or to the pin's supply (R419). -/
inductive Pull where
  | none | down50 | up50 | up200
deriving DecidableEq, Repr

/-- R418. -/
def State.bank (s : State) (p : Pin) : Bank :=
  match p with
  | .canTxd _ | .linTxd _ | .txmCsN _ | .txmSck _ | .txmMosi _ | .txmMiso _ | .syncIn | .evtIn _ | .ppsOut | .trgOut _
  | .pciePerstN | .mdc _ | .mdio _ | .pmicScl | .pmicSda => .io33
  | .flCsN _ | .flSck | .flResetN | .flDq _ | .flDqs => .io18
  | .bpTx _ | .bpRx _ | .mpTx _ | .mpRx _ | .sdsRefclk | .pcieTx _ | .pcieRx _ | .pcieRefclk => .serdes
  | .t1s _ => .t1s
  | .vbatSense => .analog
  | .sbCsN | .sbSck | .sbMosi | .sbMiso => if s.flag Reg.DEV_STRAPS_IO_VSEL then .heel else .heel18
  | _ => .heel

/-- The supply of a bank is present: those of VSTBY except in OFF, the others while the board's regulators are on (R364), and
VDD_IO33 where it is not what holds the SUPPLY reset (R361). -/
def State.supplied (s : State) (b : Bank) : Bool :=
  match b with
  | .heel | .heel18 | .analog => s.mode != mdOFF
  | .io33 => s.mode != mdOFF && s.mode != mdSLEEP && !bit s.pwr.gone 1
  | .io18 | .serdes | .t1s => s.mode != mdOFF && s.mode != mdSLEEP

/-- The last column of R419. -/
def Pin.pull (p : Pin) : Pull :=
  match p with
  | .txmMiso _ | .syncIn | .evtIn _ | .pciePerstN | .flDq _ | .flDqs | .bootMode _ => .down50
  | .vmoveIn | .resetN | .sbCsN | .sbEn | .ioVsel => .up50
  | .canRxd _ | .linRxd _ => .up200
  | _ => .none

/-- The domain whose pin it is: that of the page which commands it; 0, the Heel (R352). -/
def Pin.domain (p : Pin) : Nat :=
  match p with
  | .bpTx n | .bpRx n => portDomain n
  | .mpTx m | .mpRx m => portDomain (8 + m)
  | .t1s n => portDomain (24 + n)
  | .canTxd c => if c.val < 32 then 16 else 17
  | .linTxd l => if l.val < 8 then 16 else 17
  | .txmCsN _ | .txmSck _ | .txmMosi _ | .txmMiso _ => 16
  | .syncIn | .evtIn _ | .ppsOut | .trgOut _ | .pmicScl | .pmicSda => 1
  | .flCsN _ | .flSck | .flResetN | .flDq _ | .flDqs => 1
  | .pciePerstN | .pcieTx _ | .pcieRx _ | .pcieRefclk => 2
  | .mdc _ | .mdio _ => pageDomain 0x0D0
  | _ => 0

/-- The Reset column of R419; the transmitters of the SerDes, T1S and crystal pins, which it does not list, are in high
impedance (assumption log 64). -/
def Pin.resetState (p : Pin) : PinState :=
  match p with
  | .canTxd _ | .linTxd _ | .txmCsN _ | .flCsN _ | .inhOut => .high
  | .txmSck _ | .txmMosi _ | .ppsOut | .trgOut _ | .mdc _ | .flSck | .flResetN => .low
  | .mdio _ | .pmicScl | .pmicSda | .intN _ | .nmiN | .sbAlertN => .released
  | .flDq _ | .flDqs | .sbMiso | .bpTx _ | .mpTx _ | .pcieTx _ | .t1s _ | .xtalOut => .highZ
  | _ => .input

/-- A pin whose bank has no supply: it drives nothing (R419, R432). -/
def Pin.unsupplied (p : Pin) : PinState := if p.resetState = .input then .unpowered else .highZ

/-- XTAL_OUT, driven while the amplifier is enabled (R426). -/
def State.xtalPin (s : State) : PinState := if s.cgu.amp then .bus else .highZ

/-- SB_MISO: it answers while SB_CS_N is low and the straps have the sideband present (R315, R421). -/
def State.misoPin (s : State) (csN : Bool) : PinState := if !csN && s.flag Reg.DEV_STRAPS_SB_EN then .bus else .highZ

/-- SB_ALERT_N (R307). -/
def State.alertPin (s : State) : PinState := if s.alertLow then .low else .released

/-- The SLEEP column of R419, for the pins that VSTBY powers. -/
def State.sleepPin (s : State) (csN : Bool) (p : Pin) : PinState :=
  match p with
  | .intN _ | .nmiN => .released
  | .sbAlertN => s.alertPin
  | .sbMiso => s.misoPin csN
  | .inhOut => .low
  | .xtalOut => s.xtalPin
  | _ => .input

/-- FL_RESET_N is low for 10 µs from the start of a boot (R380). -/
def State.flashInReset (s : State) : Bool := match s.upd.bootAt with | some t => decide (s.now < t + 10000) | none => false

/-- A pin in operation. -/
def State.runPin (s : State) (csN : Bool) (p : Pin) : PinState :=
  match p with
  | .ppsOut => if s.ppsOut then .high else .low
  | .trgOut i => if s.trgOut i then .high else .low
  | .intN k => if s.intLow k then .low else .released
  | .nmiN => if s.nmiLow then .low else .released
  | .sbAlertN => s.alertPin
  | .inhOut => .high
  | .flResetN => if s.flashInReset then .low else .high
  | .flCsN b => if b.val ≤ flashSelect 0x3FFFFFF then .bus else .high
  | .canTxd _ | .linTxd _ | .txmCsN _ | .txmSck _ | .txmMosi _ | .mdc _ | .mdio _ | .pmicScl | .pmicSda | .flSck | .flDq _ | .flDqs
  | .bpTx _ | .mpTx _ | .pcieTx _ | .t1s _ => .bus
  | .sbMiso => s.misoPin csN
  | .xtalOut => s.xtalPin
  | _ => .input

/-- The state of a pin while SB_CS_N is high or low (R419): a pin whose bank has no supply drives nothing; CLOCK_HOLD and a supply
reset give the Reset column, with SB_ALERT_N low in CLOCK_HOLD; SLEEP gives its own; a domain that is off gives its pins the
Reset column. -/
def State.pin (s : State) (csN : Bool) (p : Pin) : PinState :=
  if !s.supplied (s.bank p) then p.unsupplied
  else if s.flag Reg.SBP_ALERT_STAT_CLOCK_HOLD || s.pwr.down then
    if p = .sbAlertN && s.flag Reg.SBP_ALERT_STAT_CLOCK_HOLD then .low
    else if p = .xtalOut then s.xtalPin else p.resetState
  else if s.mode = mdSLEEP then s.sleepPin csN p
  else if p.domain != 0 && !bit s.pwr.powered p.domain then p.resetState
  else s.runPin csN p

end Sys2Proof.Machine
end

