-- ==== Sys2Proof/Safety.lean ====
section
/-! DEFINITION. The terms that the claims use: register maps in canonical form, what opens the access gate to a master, the spare pages of a Last,
and runs that stop on nothing. -/
namespace Sys2Proof.Machine

/-- The register maps are in their canonical form. -/
def RegFile.Canonical (r : RegFile) : Prop :=
  AMap.Wf cellDflt r.h ∧ AMap.Wf cellDflt r.t ∧ AMap.Wf cellDflt r.v

/-- The memories are in their canonical form: the register maps, Last memory, the flash and the mailbox buffers list rising
addresses and no byte equal to what an unlisted address reads; what was written to host memory lists rising addresses. -/
abbrev Memory.wf (s : State) : Prop :=
  AMap.Wf cellDflt s.regs.h ∧ AMap.Wf cellDflt s.regs.t ∧ AMap.Wf cellDflt s.regs.v ∧ AMap.Wf zeroByte s.lst.mem ∧
  AMap.Wf erased s.upd.flash ∧ AMap.Wf zeroByte s.mbx.req ∧ AMap.Wf zeroByte s.mbx.rsp ∧ AMap.Sorted s.hdm.mem

/-- The state in which a command of master m meets its page: the Welt has numbered the host's (R302). -/
def State.sent (s : State) (m : Master) : State :=
  match m with
  | .host => s.numbered
  | .sideband => s
  | .firmware => s

/-- The page answers master m: the sideband target is present (R315), the Heel has a clock (R339), and the page is defined
(R402), powered (R17) and out of BLOCK reset (R406). -/
abbrev State.serves (s : State) (m : Master) (page : Nat) : Prop :=
  (m = .sideband → s.sbOn = true) ∧ s.heelStands = false ∧
  pageDefined page = true ∧ s.pagePowered page = true ∧ s.pageHeld page = false

/-- The page takes a write of master m: it answers, it is not owned by another (R39, R304) and not locked against the master
(R411). -/
abbrev State.grants (s : State) (m : Master) (page : Nat) : Prop :=
  s.serves m page ∧ s.ownedByOther m (pageGroup page) = false ∧ (s.flag Reg.PG_LOCK_LOCK page = false ∨ m = .firmware)

/-- The spare pages in use and free (R43). -/
def Lst.spares (l : Lst) : Nat := l.free + l.staged.length + l.held.length

/-- A step that neither faults nor refuses. -/
def Runs (s : State) : Prop := ∃ t, step s = .next t

end Sys2Proof.Machine
end

