-- ==== Sys2Proof/WellFormed.lean ====
section
/-! DEFINITION. The commands that the world can bring: the bounds that no operand's type states.  The meanings run whatever the
operands are; a command outside these bounds is one that nothing sends. -/
namespace Sys2Proof
open Machine

/-- An access of n bytes lies within a range of `size` bytes. -/
def accessFits (off n size : Nat) : Bool := decide (1 ≤ n) && decide (off + n ≤ size)

/-- A host request: at most 4,096 bytes within BAR0's 64 MiB, not across a 4 KiB boundary (R293). -/
def pcieFits (addr n : Nat) : Bool := accessFits addr n 0x4000000 && decide (addr % 4096 + n ≤ 4096)

/-- An Ethernet frame has at least one byte and a length that the counters can hold. -/
def frameFits (b : List Byte) : Bool := decide (1 ≤ b.length) && decide (b.length < 65536)

/-- An identifier of 11 bits, or of 29 (R238). -/
def idFits (ide : Bool) (id : Nat) : Bool := if ide then decide (id < 2 ^ 29) else decide (id < 2 ^ 11)

/-- A payload length that the format has (R238). -/
def canLength (f : BusFmt) (n : Nat) : Bool :=
  match f with
  | .classic => decide (n ≤ 8)
  | .fd => decide (n ≤ 8) || [12, 16, 20, 24, 32, 48, 64].contains n
  | .xl => decide (1 ≤ n) && decide (n ≤ 2048)
  | .lin => false

/-- A frame that a CAN bus can carry. -/
def Machine.CanWire.wellFormed (w : CanWire) : Bool := idFits w.ide w.id && canLength w.fmt w.data.length

/-- A LIN response has one to eight bytes (R260). -/
def Machine.LinEnd.wellFormed (e : LinEnd) : Bool :=
  match e with
  | .ok d => decide (1 ≤ d.length) && decide (d.length ≤ 8)
  | .checksum => true
  | .bitError => true
  | .collision => true

/-- The fields of a test register (R225). -/
def Machine.TestReg.wellFormed (t : TestReg) : Bool :=
  match t with
  | .mac l => decide (l < 4)
  | .sds l tx rx => decide (l < 4) && decide (tx < 8) && decide (rx < 8)

/-- The words that a sideband request asks for. -/
def Machine.SbReq.words (q : SbReq) : Nat :=
  match q with
  | .write _ ws => ws.length
  | .read _ _ n => n

/-- The detectors of R373, as KIND and INDEX of WAK_CAUSE: CAN channels, LIN channels, T1S ports and WAKE_IN pins. -/
def latchExists (kind index : Nat) : Bool :=
  (kind == 2 && decide (index < 64)) || (kind == 3 && decide (index < 16)) ||
  (kind == 4 && decide (24 ≤ index) && decide (index < 32)) || (kind == 5 && decide (index < 4))

/-- The command is one that the world can bring. -/
def Instr.wellFormed (i : Instr) : Bool :=
  match i with
  | .csOpen _ => true
  | .csAbort _ => true
  | .stagingWrite _ off bs => accessFits off bs.length 0x1000000
  | .changeSetListWrite _ off bs => accessFits off bs.length 0x10000
  | .commitGo _ => true
  | .commitValidated => true
  | .flip => true
  | .epochDrainEnd => true
  | .drainLimitExpiry => true
  | .reloadFlash _ => true
  | .reloadHost _ => true
  | .reloadGo _ => true
  | .hostLoadTimeout => true
  | .reloadImageReadDone _ => true
  | .reloadDone => true
  | .ethFrameArrival _ bytes => frameFits bytes
  | .clickerDispatch => true
  | .parseStep _ _ => true
  | .flowLookup _ _ => true
  | .ingressFrameEnd _ _ => true
  | .reorderRelease _ => true
  | .reorderTimeout _ _ => true
  | .clickerRejoin _ _ _ => true
  | .cutThroughStart _ => true
  | .schedulerChoose _ => true
  | .copyTxDone _ => true
  | .reparent isQueue n => isQueue || decide (n.val < 2048)
  | .paceWindowEnd _ _ => true
  | .demandWindowEnd => true
  | .fabricStall _ => true
  | .sliceRejoin _ _ _ => true
  | .governorInterval => true
  | .pmbusTransactionDone _ _ => true
  | .governorEnable _ _ _ _ _ _ => true
  | .linkUp _ _ => true
  | .linkDown _ _ => true
  | .flushComplete _ => true
  | .portReturnEnd _ => true
  | .cautiousConditionEnd _ => true
  | .cobblerPassEnd _ => true
  | .cobblerEnable _ _ => true
  | .inbandRateChange _ _ => true
  | .pllLost _ => true
  | .pauseFrameRx _ b _ => frameFits b
  | .pauseExpiry _ _ => true
  | .txPauseSend _ => true
  | .txPauseRepeat _ => true
  | .pauseWatchdogExpiry _ => true
  | .pauseIgnoreEnd _ => true
  | .testModeSet _ _ t => t.wellFormed
  | .counterLowRead _ _ => true
  | .t1sStateRequest _ _ _ => true
  | .t1sStateReached _ => true
  | .plcaBeaconTimeout _ => true
  | .plcaBeaconRx _ => true
  | .t1sCollision _ => true
  | .cableGo _ _ => true
  | .cableCheckDone _ result => decide (2 ≤ result.val) && decide (result.val ≤ 5)
  | .mdioCmd _ _ _ _ _ _ _ => true
  | .mdioDone _ _ => true
  | .canFrameRx _ w _ => w.wellFormed
  | .awlAccept _ => true
  | .apFrameToAwl _ => true
  | .canTxStart _ => true
  | .canTxDone _ _ => true
  | .canBusOff _ => true
  | .recDelayExpiry _ => true
  | .canRecover _ _ => true
  | .canRecovered _ => true
  | .canSlotStart _ _ => true
  | .canSlotWindowClose _ _ => true
  | .linEntryStart _ _ => true
  | .linHeaderRx _ _ _ _ => true
  | .linResponseRx _ e => e.wellFormed
  | .linTableWrite _ _ _ => true
  | .linWakeTx _ _ => true
  | .linWakeRepeat _ => true
  | .linWakeRx _ => true
  | .streamHoldExpiry _ => true
  | .awlWatchdog _ => true
  | .canFifoError _ _ => true
  | .toecapStart => true
  | .keyRestoreDone => true
  | .keyLoad _ _ _ _ _ _ => true
  | .keyErase _ _ _ => true
  | .keyLoadDone => true
  | .tkmLock _ => true
  | .drbgReseed _ => true
  | .toecapAlarm _ => true
  | .tcaEvtRead _ => true
  | .fvRead _ => true
  | .fvWrite _ => true
  | .pcieRead addr n => pcieFits addr n
  | .readAnswer _ _ => true
  | .readTimeout _ => true
  | .pcieWritePosted addr bs => pcieFits addr bs.length
  | .pcieWriteConfirmed addr bs => pcieFits addr bs.length
  | .writeAck _ _ => true
  | .writeTimeout _ => true
  | .perrAck _ _ => true
  | .pcieLinkDown => true
  | .pcieLinkUp width speed _ => [1, 2, 4].contains width.val && decide (1 ≤ speed.val) && decide (speed.val ≤ 4)
  | .ownerWrite _ _ => true
  | .ringEnable _ _ _ _ _ _ _ => true
  | .tailWrite _ _ _ _ => true
  | .hdmRxDeliver bufs => !bufs.isEmpty
  | .hdmTxFrame ds _ => !ds.isEmpty
  | .dmaError _ _ _ => true
  | .moderationTimer _ _ => true
  | .sbWrite _ _ _ => true
  | .sbRead _ _ _ => true
  | .sbPeek _ _ _ => true
  | .sbStatus _ _ => true
  | .sbIdent _ _ => true
  | .sbPower _ _ _ => true
  | .sbCrcErr _ => true
  | .sbShort => true
  | .sbResponseTimeout q k => decide (k ≤ q.words)
  | .mbxGo _ _ => true
  | .mbxResponse _ body => decide (body.length ≤ 1016)
  | .loopbackTest _ _ => true
  | .faultReport _ _ => true
  | .stormPeriodEnd => true
  | .fltClear _ => true
  | .faultCountSnapshot _ _ => true
  | .faultCountClear _ _ => true
  | .nmiClear _ _ => true
  | .fwKick _ _ => true
  | .fwWatchdogWarn => true
  | .fwWatchdogExpiry => true
  | .lockstepMismatch _ => true
  | .hbKick _ => true
  | .hbEnable _ _ _ => true
  | .hbExpiry => true
  | .selfTestDone d _ failed _ => d.val != 0 && failed.all (fun p => decide (p < 4096))
  | .lrcCountDone => true
  | .lrcCountTimeout => true
  | .hrcQualifyDone _ _ => true
  | .xtalQualifyDone _ => true
  | .xtalStartTimeout => true
  | .sdsrefQualifyDone _ => true
  | .monitorWindowEnd _ _ _ => true
  | .clockStopDetect _ => true
  | .dwellEnd => true
  | .autoReturnWrite _ _ => true
  | .hrcTrimWindow _ => true
  | .canTrimWindow _ => true
  | .beaconTrimWindow _ => true
  | .lrcTrimWindow _ => true
  | .domainRequest _ d _ _ => d.val != 0
  | .domainPowerGood d => d.val != 0
  | .domainPowerTimeout d => d.val != 0
  | .pd8Drained => true
  | .pd8DrainTimeout => true
  | .supplyWarning _ => true
  | .supplyRecover _ _ => true
  | .supplyReset _ => true
  | .por _ => true
  | .pinReset _ => true
  | .softReset _ _ => true
  | .blockReset _ _ => true
  | .blockResetEnd _ => true
  | .pageEnableWrite _ _ _ => true
  | .irqForce _ _ _ => true
  | .irqStatClear _ _ _ => true
  | .pageLock _ _ => true
  | .clearOnRead _ _ off => off.val % 4 == 0
  | .registerWrite _ _ off _ => off.val % 4 == 0
  | .flowCounterSnapshot _ _ => true
  | .flowCounterClear _ _ => true
  | .meterSnapshot _ _ => true
  | .meterClear _ _ => true
  | .meterFill _ _ => true
  | .serviceSnapshot _ _ _ => true
  | .serviceDropsClear _ _ _ => true
  | .subscriberSnapshot _ _ _ => true
  | .queueSnapshot _ _ _ => true
  | .routeSnapshot _ _ _ => true
  | .routeCountsClear _ _ _ => true
  | .tcaPortSnapshot _ _ => true
  | .tcaPortClear _ _ => true
  | .keySlotSnapshot _ _ _ => true
  | .clusterSnapshot _ _ => true
  | .txmChannelSnapshot _ _ => true
  | .timeSnapshot _ => true
  | .timeBaseTick => true
  | .domainStep _ ns => decide (ns < 2 ^ 48 * 1000000000)
  | .rateAdjust _ _ => true
  | .syncRx _ _ => true
  | .syncReceiptTimeout _ => true
  | .holdoverExpiry _ => true
  | .laceStart _ => true
  | .laceCycleBoundary _ => true
  | .gateEntryEnd _ => true
  | .holdAdvRequest _ _ => true
  | .laceSwap _ => true
  | .preemptVerify _ _ => true
  | .syncInEdge _ => true
  | .syncPeriodBoundary => true
  | .syncEnable _ _ => true
  | .ppsPulse => true
  | .evtInEdge _ _ _ => true
  | .evtRead _ _ => true
  | .trgArm _ _ _ => true
  | .trgEdge _ => true
  | .keepaliveRx e => match e with
    | .can c id _ => decide (c < 64) && decide (id < 2 ^ 29)
    | .linHeader l => decide (l < 16)
    | .linResponse l i => decide (l < 16) && decide (i < 64)
    | .frame p b => decide (p < 32) && decide (b.length ≤ 16384)
  | .keepalivePeriod _ => true
  | .readyTimerExpiry _ => true
  | .prepareTimerExpiry _ => true
  | .wakeTimeout _ => true
  | .wakeRequestHost _ _ => true
  | .wakeRequestSb _ _ => true
  | .wakePinChange _ _ => true
  | .routeHoldExpiry _ => true
  | .linGotosleepRx _ => true
  | .descentStart => true
  | .descentCommit => true
  | .descentStandby => true
  | .descentSleep => true
  | .wakeLatch kind index => latchExists kind index
  | .wakTimerExpiry => true
  | .converterUpdate vs => vs.length == 6
  | .txmCmd _ _ _ => true
  | .txmSequenceDone _ rx => decide (rx.length ≤ 30)
  | .bootStart => true
  | .bootPartChecked _ => true
  | .bootRecordWriteDone _ => true
  | .updOpen _ => true
  | .updErase _ => true
  | .updProgram _ => true
  | .updRead _ => true
  | .updClose _ => true
  | .updLoadPage _ => true
  | .updLoadDone _ => true
  | .updOpDone _ => true
  | .updArm _ => true
  | .updDisarm _ => true
  | .updRestart _ => true
  | .updConfirm _ => true
  | .trialExpiry => true
  | .speedFrameRx _ id ide data => idFits ide id && decide (data.length ≤ 2048)
  | .speedStale => true
  | .nonceReq _ => true
  | .nonceExpiry => true
  | .ownerLock _ => true
  | .ownerUnlock _ => true
  | .ownerProvision _ => true
  | .supplyResetRelease _ => true
  | .vstbyBelowPor => true
  | .clockEdgesReturn _ => true
  | .rxFifoMemoryError _ _ => true
  | .phyInternalFault _ => true
  | .grandmasterChange _ _ _ => true
  | .prbsError _ => true
  | .vmoveInChange _ => true

end Sys2Proof
end

