-- ==== Sys2Proof/Certificates/Slice0/Obligations.lean ====
section
/-! DEFINITION. The statements about the LN6425 for the provers, family by family.  Where a statement rests on a choice of the
model, it names the entry of the assumption log. -/
open Sys2Proof Sys2Proof.Machine

/-! ### The Last (chapter 02) -/

/-- CS_OPEN and CS_ABORT (R55, R58). -/
def Obligations.ChangeSetsOpenAndAbort : Prop :=
  (∀ (m : Master) (z s : State), s = z.sent m → s.grants m pgLST → s.lsState = lsIDLE → s.flag Reg.LST_STAT_LOADED = true →
    exec (.csOpen m) z = .next ((s.put Reg.LST_STAT_STATE 1).put Reg.LST_STAT_NO_SPARE 0)) ∧
  (∀ (m : Master) (z s : State), s = z.sent m → s.grants m pgLST → (s.lsState ≠ lsIDLE ∨ s.flag Reg.LST_STAT_LOADED = false) →
    exec (.csOpen m) z = .next (s.err pgLST 0x090 ecSTATE m)) ∧
  (∀ (m : Master) (z s : State), s = z.sent m → s.grants m pgLST → s.setHeld = true → ∃ t u : State,
    exec (.csAbort m) z = .next t ∧ t.lst.staged = [] ∧ t.lst.list = [] ∧ t.lst.spares = s.lst.spares ∧
    t.lst.mem = s.lst.mem ∧ t.lst.ind = s.lst.ind ∧ t.lst.held = s.lst.held ∧ t.lst.secs = s.lst.secs ∧
    t.get Reg.LST_STAT_STATE = 0 ∧ t.get Reg.LST_STAT_PENDING = 0 ∧ t.get Reg.LST_STAT_ERR = 0x10 ∧
    (s.flag Reg.LST_STAT_PENDING = true → t.get Reg.LST_IRQ_REFUSED = 1) ∧
    u = ((s.put Reg.LST_STAT_STATE 0).put Reg.LST_STAT_PENDING 0).put Reg.LST_STAT_ERR 0x10 ∧
    t = { (if s.flag Reg.LST_STAT_PENDING = true then u.raise Reg.LST_IRQ_REFUSED else u) with lst := t.lst }) ∧
  (∀ (m : Master) (z s : State), s = z.sent m → s.grants m pgLST → s.setHeld = false →
    exec (.csAbort m) z = .next (s.err pgLST 0x090 ecSTATE m))

/-- STAGING_WRITE and CHANGE_SET_LIST_WRITE (R51, R52, R54), with their memory frames; a refused one of the host is one entry of the posted-error log (R302). -/
def Obligations.StagingWritesChangeOnlyTheirBytes : Prop :=
  (∀ (m : Master) (z s : State) (off : Nat) (bs : List Byte) (x : Nat), s = z.sent m → s.grants m pgLST → s.lsState = lsOPEN →
    s.lst.undef = none → stagingSize off bs.length = true → off < 0xE00000 → s.livePage (off / 256) = true →
    AMap.find s.lst.staged (off / 256) = some x → ∃ t,
    exec (.stagingWrite m off bs) z = .next t ∧ t.regs = s.regs ∧ t.lst.staged = s.lst.staged ∧ t.lst.ind = s.lst.ind ∧
    ∀ a, t.lst.byte a = if x * 256 + off % 256 ≤ a ∧ a < x * 256 + off % 256 + bs.length
      then bs.getD (a - (x * 256 + off % 256)) 0 else s.lst.byte a) ∧
  (∀ (m : Master) (z s : State) (off : Nat) (bs : List Byte), s = z.sent m → s.grants m pgLST → s.lsState = lsOPEN →
    s.lst.undef = none → stagingSize off bs.length = true → off < 0xE00000 → s.livePage (off / 256) = true →
    AMap.find s.lst.staged (off / 256) = none → s.lst.free ≠ 0 → ∃ t x,
    exec (.stagingWrite m off bs) z = .next t ∧ s.lst.alloc.map (fun r => r.1) = some x ∧ t.regs = s.regs ∧
    AMap.find t.lst.staged (off / 256) = some x ∧ t.lst.ind = s.lst.ind ∧
    ∀ a, t.lst.byte a = if x * 256 + off % 256 ≤ a ∧ a < x * 256 + off % 256 + bs.length
      then bs.getD (a - (x * 256 + off % 256)) 0
      else if x * 256 ≤ a ∧ a < x * 256 + 256 then s.lst.byte (s.lst.phys (off / 256) * 256 + (a - x * 256)) else s.lst.byte a) ∧
  (∀ (m : Master) (z s : State) (off : Nat) (bs : List Byte), s = z.sent m → s.grants m pgLST → s.lsState = lsOPEN →
    stagingSize (0xE00000 + off) bs.length = true → off < 0x10000 → ∃ t,
    exec (.changeSetListWrite m off bs) z = .next t ∧ t.regs = s.regs ∧ t.lst.mem = s.lst.mem ∧ t.lst.staged = s.lst.staged ∧
    ∀ a, AMap.get zeroByte t.lst.list a =
      if off ≤ a ∧ a < off + bs.length then bs.getD (a - off) 0 else AMap.get zeroByte s.lst.list a) ∧
  (∀ (z s : State) (off : Nat) (bs : List Byte), s = z.sent .host → s.grants .host pgLST → s.lsState ≠ lsOPEN → s.lsState ≠ lsHOST_LOAD →
    stagingSize off bs.length = true → off < 0xE10000 → exec (.stagingWrite .host off bs) z =
      .next (s.perr ⟨0x1000000 + off, 0xF, bs, s.get Reg.WLT_WR_SEQ_SEQ, s.confirmed (0x1000000 + off)⟩ 6)) ∧
  (∀ (z s : State) (off : Nat) (bs : List Byte), s = z.sent .host → s.grants .host pgLST → s.lsState ≠ lsOPEN → s.lsState ≠ lsHOST_LOAD →
    stagingSize (0xE00000 + off) bs.length = true → off < 0x10000 → exec (.changeSetListWrite .host off bs) z =
      .next (s.perr ⟨0x1E00000 + off, 0xF, bs, s.get Reg.WLT_WR_SEQ_SEQ, s.confirmed (0x1E00000 + off)⟩ 6))

/-- COMMIT_GO and COMMIT_VALIDATED (R56–R58). -/
def Obligations.CommitsAreValidatedOrRefused : Prop :=
  (∀ (m : Master) (z s : State), s = z.sent m → s.grants m pgLST → s.lsState = lsOPEN →
    exec (.commitGo m) z = .next ((s.put Reg.LST_STAT_STATE 2).put Reg.LST_STAT_PENDING 1)) ∧
  (∀ (m : Master) (z s : State), s = z.sent m → s.grants m pgLST → s.lsState ≠ lsOPEN →
    exec (.commitGo m) z = .next (s.err pgLST 0x0A0 ecSTATE m)) ∧
  (∀ s : State, s.lsState = lsVALIDATING → s.commitCheck = none → exec .commitValidated s = .next (s.put Reg.LST_STAT_STATE 3)) ∧
  (∀ (s : State) (code page : Nat), s.lsState = lsVALIDATING → s.commitCheck = some (code, page) → code ≠ 7 →
    exec .commitValidated s = .next ((((s.put Reg.LST_STAT_STATE 1).put Reg.LST_STAT_PENDING 0).put
      Reg.LST_STAT_ERR code).raise Reg.LST_IRQ_REFUSED)) ∧
  (∀ (s : State) (page : Nat), s.lsState = lsVALIDATING → s.commitCheck = some (7, page) →
    exec .commitValidated s = .next (((((s.put Reg.LST_STAT_STATE 1).put Reg.LST_STAT_PENDING 0).put
      Reg.LST_STAT_ERR 7).put Reg.LST_ERR_PAGE_LPAGE page).raise Reg.LST_IRQ_REFUSED))

/-- FLIP and EPOCH_DRAIN_END (R56, R64).  An event that is not due changes nothing (assumption log 1, the model's choice). -/
def Obligations.FlipsTakeStagedPagesAndDrainsFreeThem : Prop :=
  (∀ s : State, s.lsState = lsPENDING → s.flag Reg.LST_STAT_DRAINING = false → ∃ u : State,
    exec .flip s = .next (((List.range 37).foldl State.creditSync s).flipBlocks u) ∧
    u.lst = { ((List.range 37).foldl State.creditSync s).lst.flip with
      flipAt := ((List.range 37).foldl State.creditSync s).now } ∧
    u.get Reg.LST_EPOCH_PREV = ((List.range 37).foldl State.creditSync s).get Reg.LST_EPOCH_CUR ∧
    u.get Reg.LST_EPOCH_CUR = (((List.range 37).foldl State.creditSync s).get Reg.LST_EPOCH_CUR + 1) % 4 ∧
    u.get Reg.LST_STAT_STATE = 0 ∧ u.get Reg.LST_STAT_PENDING = 0 ∧ u.get Reg.LST_STAT_DRAINING = 1 ∧
    u.get Reg.LST_STAT_LIVE = 1 ∧ u.get Reg.LST_IRQ_FLIPPED = 1 ∧
    u.get Reg.LST_GEN_GEN = (((List.range 37).foldl State.creditSync s).get Reg.LST_GEN_GEN + 1) % 2 ^ 32 ∧
    u.get Reg.LST_FLIP_TIME_NS = ((List.range 37).foldl State.creditSync s).time32) ∧
  (∀ s : State, (s.lsState ≠ lsPENDING ∨ s.flag Reg.LST_STAT_DRAINING = true) → exec .flip s = .next s) ∧
  (∀ s : State, s.flag Reg.LST_STAT_DRAINING = true → s.epochLive (s.get Reg.LST_EPOCH_PREV) = false →
    exec .epochDrainEnd s = .next (((s.lstSet (fun l => { l.dropHeld with purged := false })).put
      Reg.LST_STAT_DRAINING 0).raise Reg.LST_IRQ_DRAINED)) ∧
  (∀ s : State, s.flag Reg.LST_STAT_DRAINING = true → s.epochLive (s.get Reg.LST_EPOCH_PREV) = true →
    exec .epochDrainEnd s = .next s)

/-- Spare pages are neither made nor lost (R43). -/
def Obligations.SparePagesAreConserved : Prop :=
  (∀ (m : Master) (off : Nat) (bs : List Byte) (s t : State), s.lst.fresh ≤ physicalPages → AMap.Sorted s.lst.staged →
    exec (.stagingWrite m off bs) s = .next t →
    t.lst.spares = s.lst.spares ∧ t.lst.fresh ≤ physicalPages ∧ AMap.Sorted t.lst.staged) ∧
  (∀ (m : Master) (s t : State), exec (.csAbort m) s = .next t → t.lst.spares = s.lst.spares) ∧
  (∀ s t : State, exec .epochDrainEnd s = .next t → t.lst.spares = s.lst.spares) ∧
  (∀ l : Lst, l.held = [] → l.flip.spares = l.spares) ∧
  State.reset.lst.spares = 8192

/-- DRAIN_LIMIT_EXPIRY (R65).  A second expiry, or one with no drain, changes nothing (assumption log 1, the model's choice). -/
def Obligations.DrainLimitPurgesThePreviousEpoch : Prop :=
  (∀ s : State, s.flag Reg.LST_STAT_DRAINING = true → s.lst.purged = false → ∃ t,
    exec .drainLimitExpiry s = .next t ∧ t.get Reg.LST_IRQ_DRAIN_LIMIT = 1 ∧ t.lst = { s.lst with purged := true } ∧
    (∀ c ∈ t.clr.copies, c ∈ s.clr.copies ∧ (c.epoch = s.get Reg.LST_EPOCH_PREV → c.begun = true)) ∧
    (∀ e q f, (e, q) ∈ t.awl.ap → f ∈ q → f.epoch ≠ s.get Reg.LST_EPOCH_PREV)) ∧
  (∀ s : State, (s.flag Reg.LST_STAT_DRAINING = false ∨ s.lst.purged = true) → exec .drainLimitExpiry s = .next s)

/-- The full reload (R69, R70).  That LOADED is 0 from its start, and what the Laces and domain clocks do, is assumption log 95; a reload during a boot, DRAINING and modes that change, assumption log 38: the model's choices. -/
def Obligations.ReloadsTakeTheirImage : Prop :=
  (∀ (m : Master) (z s : State), s = z.sent m → s.grants m pgLST → s.reloading = false → s.booting = false →
    exec (.reloadFlash m) z = .next (s.reloadStart false) ∧ exec (.reloadHost m) z = .next (s.reloadStart true)) ∧
  (∀ (m : Master) (z s : State), s = z.sent m → s.grants m pgLST → s.lsState = lsHOST_LOAD →
    exec (.reloadGo m) z = .next ((s.put Reg.LST_STAT_STATE 4).lstSet (fun l => { l with fromHost := true }))) ∧
  (∀ s : State, s.lsState = lsHOST_LOAD → exec .hostLoadTimeout s = .next (s.put Reg.LST_STAT_STATE 4)) ∧
  (∀ (ok : Bool) (s : State), s.lsState = lsRELOADING → s.lst.applying = false → s.lst.fromHost = true →
    imageOk s.lst.byte = true → exec (.reloadImageReadDone ok) s =
      .next ((s.imageTable s.lst.byte).lstSet (fun l => { l with applying := true }))) ∧
  (∀ (ok : Bool) (s : State), s.lsState = lsRELOADING → s.lst.applying = false → s.lst.fromHost = true →
    imageOk s.lst.byte = false → exec (.reloadImageReadDone ok) s =
      .next (((s.put Reg.LST_STAT_ERR 0x11).raise Reg.LST_IRQ_RELOAD_FAIL).lstSet (fun l => { l with fromHost := false }))) ∧
  (∀ s : State, s.lsState = lsRELOADING → s.lst.applying = false → s.lst.fromHost = false →
    exec (.reloadImageReadDone false) s = .next s.lastLost) ∧
  (∀ (ok : Bool) (s : State) (e : ManEntry) (img : Image), s.lsState = lsRELOADING → s.lst.applying = false → s.lst.fromHost = false →
    manPart (s.upd.manifest s.activeSlot) 5 = some e → img = (fun a => s.upd.byte (slotBase s.activeSlot + e.offset + a)) → (ok = false ∨ imageOk img = false) →
    exec (.reloadImageReadDone ok) s = .next s.lastLost) ∧
  (∀ (s : State) (e : ManEntry) (img : Image), s.lsState = lsRELOADING → s.lst.applying = false → s.lst.fromHost = false →
    manPart (s.upd.manifest s.activeSlot) 5 = some e → img = (fun a => s.upd.byte (slotBase s.activeSlot + e.offset + a)) → imageOk img = true → exec (.reloadImageReadDone true) s =
      .next (((s.imageStore img).imageTable img).lstSet (fun l => { l with applying := true }))) ∧
  (∀ s : State, s.lastLost = ((((List.range 32).foldl State.laceStop ((((s.put Reg.LST_STAT_STATE 6).put
      Reg.LST_STAT_LOADED 0).put Reg.LST_STAT_ERR 0x12).lstSet (fun l => { l with apart := none }))).clocksApply).raise
      Reg.LST_IRQ_RELOAD_FAIL).fault pgLST 0x0E01) ∧
  (∀ s : State, s.lsState = lsRELOADING → s.lst.applying = true → exec .reloadDone s =
    .next (((((s.put Reg.LST_STAT_LOADED 1).lstSet (fun l => { l with apart := none })).modesChanged ((((s.incWrap Reg.LST_GEN_GEN).incWrap Reg.LST_EPOCH_CUR).put
      Reg.LST_STAT_DRAINING 0).put Reg.LST_STAT_LIVE (b2n s.lst.fromHost))).lastApply (fun _ => true)).raise
      Reg.LST_IRQ_RELOAD_DONE))


/-! ### The path of a frame (chapters 01, 03, 04, 06, 07) -/

/-- ETH_FRAME_ARRIVAL (R94 step 1, R163, R188, R220, R221).  The model's choices: a MAC control frame is nothing to this command
(assumption log 57, and 67 behind tags); which PTP frames go to no Clicker (92); frames during a reload (38); a port that is neither in service
nor held takes no frame (1). -/
def Obligations.ArrivalsAreRecordedOrCounted : Prop :=
  (∀ (p : Fin 32) (b : List Byte) (z s : State), s = z.fabNow → z.inService p.val = true → macControl b = false →
    s.fifoFill p.val + min (s.maxFrame p.val) 2048 ≤ fifoSize p.val → exec (.ethFrameArrival p b) z =
      .next (if s.ptpOwn p.val b = true then s.addFrame { s.newFrame p.val b with
          fifo := min (s.maxFrame p.val) 2048, stage := .out, fate := .drop, toecap := s.rxFails p.val b }
        else (s.addFrame { s.newFrame p.val b with fifo := min (s.maxFrame p.val) 2048 }).takeSlots p.val)) ∧
  (∀ (p : Fin 32) (b : List Byte) (z : State), macControl b = true → exec (.ethFrameArrival p b) z = .next z) ∧
  (∀ (p : Fin 32) (b : List Byte) (z s : State), s = z.fabNow → z.inService p.val = true → macControl b = false →
    fifoSize p.val < s.fifoFill p.val + min (s.maxFrame p.val) 2048 → exec (.ethFrameArrival p b) z =
      .next ((s.macCnt p.val 11).addFrame { s.newFrame p.val b with stage := .out, fate := .drop, lost := some true })) ∧
  (∀ (p : Fin 32) (b : List Byte) (z : State), z.inService p.val = false → macControl b = false →
    (z.portState p.val = psHELD ∨ z.reloading = true) → exec (.ethFrameArrival p b) z =
      .next ((z.rxFlush p.val).addFrame { z.newFrame p.val b with stage := .out, fate := .drop, lost := some false })) ∧
  (∀ (p : Fin 32) (b : List Byte) (z : State), z.inService p.val = false → z.portState p.val ≠ psHELD → z.reloading = false →
    exec (.ethFrameArrival p b) z = .next z)

/-- CLICKER_DISPATCH (R26, R61, R94 step 2, R278).  The model's choices: the first turn (assumption log 18), a frame that is whole before its dispatch (91), and that with nothing to dispatch nothing changes (1). -/
def Obligations.DispatchStampsTheCurrentEpoch : Prop :=
  (∀ (s : State) (f : Frame) (c k : Nat), s.nextDispatch = some (f, c, k) → f.port ≤ 32 →
    (f.port = 32 ∨ (s.clrSet (fun x => { x with rrPort := (f.port + 1) % 37 })).rxCheck f.port f.bytes = .pass) → ∃ t,
    exec .clickerDispatch s = .next t ∧ t.regs = s.regs ∧ t.clr.copies = s.clr.copies ∧ t.lst = s.lst ∧
    t.clr.rrPort = (f.port + 1) % 37 ∧ t.clr.rrClk = (c + 1) % 24 ∧
    t.clr.frames = s.clr.frames.map (fun g => if g.id = f.id then
      { g with epoch := s.get Reg.LST_EPOCH_CUR, stage := .clicker c k, timer := some (max s.now (s.headerAt f)) } else g)) ∧
  (∀ (s : State) (f : Frame) (c k : Nat), s.nextDispatch = some (f, c, k) → 33 ≤ f.port → ∃ t,
    exec .clickerDispatch s = .next t ∧ t.regs = s.regs ∧ t.clr.copies = s.clr.copies ∧ t.lst = s.lst ∧
    t.clr.rrPort = (f.port + 1) % 37 ∧ t.clr.rrClk = (c + 1) % 24 ∧
    t.clr.frames = s.clr.frames.map (fun g => if g.id = f.id then
      { g with epoch := f.epoch, stage := .clicker c k, timer := some (max s.now (s.headerAt f)) } else g)) ∧
  (∀ (s : State) (f : Frame) (c k n : Nat) (e : Option (Nat × Nat)), s.nextDispatch = some (f, c, k) → f.port < 32 → f.whole = false →
    (s.clrSet (fun x => { x with rrPort := (f.port + 1) % 37 })).rxCheck f.port f.bytes = .drop n e → ∃ t,
    exec .clickerDispatch s = .next t ∧ t.regs = s.regs ∧
    t.clr.frames = s.clr.frames.map (fun g => if g.id = f.id then
      { g with fate := .drop, toecap := some (n, e), stage := .ready } else g)) ∧
  (∀ (s : State) (f : Frame) (c k n : Nat) (e : Option (Nat × Nat)), s.nextDispatch = some (f, c, k) → f.port < 32 → f.whole = true →
    (s.clrSet (fun x => { x with rrPort := (f.port + 1) % 37 })).rxCheck f.port f.bytes = .drop n e → exec .clickerDispatch s =
      .next (((s.clrSet (fun x => { x with rrPort := (f.port + 1) % 37 })).modFrame f.id (fun g =>
        { g with fate := .drop, toecap := some (n, e), stage := .ready })).toecapDrop f.port n e)) ∧
  (∀ s : State, s.nextDispatch = none → exec .clickerDispatch s = .next s)

/-- PARSE_STEP and FLOW_LOOKUP (R75, R87, R94, R96, R98, R103).  The model's choices: what the graph and the index are (assumption log 5), when a step is due (89), and that a step or a lookup which is not due changes nothing (1). -/
def Obligations.ParsesEndInALookupOrAPortDefault : Prop :=
  (∀ (c : Fin 24) (k : Fin 4) (s : State) (f : Frame) (p : Parse), s.worksOn c.val k.val = some f → f.parse.ended = false →
    s.stepReady f = true → s.parseOn f = p → p.outcome = none →
    exec (.parseStep c k) s = .next (s.modFrame f.id (fun f => { f with parse := p }))) ∧
  (∀ (c : Fin 24) (k : Fin 4) (s : State) (f : Frame) (p : Parse) (r : Nat), s.worksOn c.val k.val = some f →
    f.parse.ended = false → s.stepReady f = true → s.parseOn f = p → p.outcome = some r → (r ≠ 4 ∨ f.whole = true) →
    exec (.parseStep c k) s =
      .next (((s.modFrame f.id (fun f => { f with parse := p })).portDefault f.id r).classified f.id c.val)) ∧
  (∀ (c : Fin 24) (k : Fin 4) (s : State) (f : Frame), s.worksOn c.val k.val = some f → f.parse.ended = false →
    (s.stepReady f = false ∨ ((s.parseOn f).outcome = some 4 ∧ f.whole = false)) → exec (.parseStep c k) s = .next s) ∧
  (∀ (c : Fin 24) (k : Fin 4) (s : State), s.flag Reg.CLR_STAT_ROTATION c.val = false →
    exec (.parseStep c k) s = .next s ∧ exec (.flowLookup c k) s = .next s) ∧
  (∀ (c : Fin 24) (k : Fin 4) (s : State) (f : Frame) (h : Nat), s.worksOn c.val k.val = some f → f.parse.ended = true →
    f.parse.outcome = none → f.whole = false →
    s.exactMatch (s.prevEpoch f.epoch) ((s.graph f.port).profile f.parse.path) (f.key (s.graph f.port)) = some h →
    exec (.flowLookup c k) s = .next ((s.rulesStage f.id h).classified f.id c.val)) ∧
  (∀ (c : Fin 24) (k : Fin 4) (s : State) (f : Frame), s.worksOn c.val k.val = some f → f.parse.ended = true →
    f.parse.outcome = none → f.whole = false →
    s.exactMatch (s.prevEpoch f.epoch) ((s.graph f.port).profile f.parse.path) (f.key (s.graph f.port)) = none →
    exec (.flowLookup c k) s = .next ((match (s.treeBucket (s.prevEpoch f.epoch) ((s.graph f.port).profile f.parse.path)
        (f.key (s.graph f.port))).bind (fun b => s.leafMatch (s.prevEpoch f.epoch) b ((s.graph f.port).profile f.parse.path)
          (f.key (s.graph f.port))) with
      | some h => s.rulesStage f.id h
      | none => s.modFrame f.id (fun f => { f with parse := { f.parse with outcome := some 0 } })).classified f.id c.val))

/-- INGRESS_FRAME_END (R217, R218, R220, R226, R368).  With no frame arriving nothing happens (assumption log 1, the model's choice). -/
def Obligations.FrameEndsMeetTheMacChecks : Prop :=
  (∀ (p : Fin 32) (s u w : State) (f : Frame), s.arriving p.val = some f → f.lost = none →
    u = ((s.rxLine p.val .clean).fabNow).modFrame f.id (fun f => { f with whole := true }) →
    u.fifoFill p.val + fifoClaim (u.maxFrame p.val) f.rxLen ≤ fifoSize p.val + u.fifoOf { f with whole := true } →
    u.frame f.id = some { f with whole := true } →
    w = (if f.fifo < fifoClaim (u.maxFrame p.val) f.rxLen then u.modFrame f.id (fun g => { g with fifo := fifoClaim (u.maxFrame p.val) f.rxLen })
      else u).egressLimits f.id →
    u.maxFrame p.val < f.rxLen →
    exec (.ingressFrameEnd p .clean) s = .next (goodFrameTraffic p.val s (w.macError f 9 1))) ∧
  (∀ (p : Fin 32) (s u w : State) (f : Frame), s.arriving p.val = some f → f.lost = none →
    u = ((s.rxLine p.val .clean).fabNow).modFrame f.id (fun f => { f with whole := true }) →
    u.fifoFill p.val + fifoClaim (u.maxFrame p.val) f.rxLen ≤ fifoSize p.val + u.fifoOf { f with whole := true } →
    u.frame f.id = some { f with whole := true } →
    w = (if f.fifo < fifoClaim (u.maxFrame p.val) f.rxLen then u.modFrame f.id (fun g => { g with fifo := fifoClaim (u.maxFrame p.val) f.rxLen })
      else u).egressLimits f.id →
    f.rxLen ≤ u.maxFrame p.val → f.rxLen ≤ w.maxFrame p.val → f.rxLen < 64 →
    exec (.ingressFrameEnd p .clean) s = .next (goodFrameTraffic p.val s (w.macError f 8 2))) ∧
  (∀ (p : Fin 32) (s u w : State) (f : Frame), s.arriving p.val = some f → f.lost = none →
    u = ((s.rxLine p.val .clean).fabNow).modFrame f.id (fun f => { f with whole := true }) →
    u.fifoFill p.val + fifoClaim (u.maxFrame p.val) f.rxLen ≤ fifoSize p.val + u.fifoOf { f with whole := true } →
    u.frame f.id = some { f with whole := true } →
    w = (if f.fifo < fifoClaim (u.maxFrame p.val) f.rxLen then u.modFrame f.id (fun g => { g with fifo := fifoClaim (u.maxFrame p.val) f.rxLen })
      else u).egressLimits f.id →
    f.rxLen ≤ u.maxFrame p.val → f.rxLen ≤ w.maxFrame p.val → 64 ≤ f.rxLen → f.fcsOk = false →
    exec (.ingressFrameEnd p .clean) s = .next (goodFrameTraffic p.val s (w.macError f 10 0))) ∧
  (∀ (p : Fin 32) (s u w : State) (f : Frame), s.arriving p.val = some f → f.lost = none →
    u = ((s.rxLine p.val .clean).fabNow).modFrame f.id (fun f => { f with whole := true }) →
    u.fifoFill p.val + fifoClaim (u.maxFrame p.val) f.rxLen ≤ fifoSize p.val + u.fifoOf { f with whole := true } →
    u.frame f.id = some { f with whole := true } →
    w = (if f.fifo < fifoClaim (u.maxFrame p.val) f.rxLen then u.modFrame f.id (fun g => { g with fifo := fifoClaim (u.maxFrame p.val) f.rxLen })
      else u).egressLimits f.id →
    f.rxLen ≤ u.maxFrame p.val → f.rxLen ≤ w.maxFrame p.val → 64 ≤ f.rxLen → f.fcsOk = true →
    f.toecap = none → f.rxSa = none → f.stage ≠ .out → f.parse.ended = false → f.pdrop = none →
    (∀ g, w.frame f.id = some g → g.rxSa = none) →
    exec (.ingressFrameEnd p .clean) s =
      .next (goodFrameTraffic p.val s ((w.rxOk p.val f.bytes).modFrame f.id (fun g => { g with fifo := f.rxLen })))) ∧
  (∀ (p : Fin 32) (s u : State) (f : Frame), s.arriving p.val = some f → f.lost = none →
    u = ((s.rxLine p.val .clean).fabNow).modFrame f.id (fun f => { f with whole := true }) →
    u.frame f.id = some { f with whole := true } → f.fifo < fifoClaim (u.maxFrame p.val) f.rxLen →
    fifoSize p.val + u.fifoOf { f with whole := true } < u.fifoFill p.val + fifoClaim (u.maxFrame p.val) f.rxLen →
    exec (.ingressFrameEnd p .clean) s = .next (goodFrameTraffic p.val s (u.macError { f with whole := true } 11 3))) ∧
  (∀ (p : Fin 32) (s u : State) (f : Frame), s.arriving p.val = some f →
    u = ((s.rxLine p.val .clean).fabNow).modFrame f.id (fun f => { f with whole := true }) →
    (f.lost = some true → exec (.ingressFrameEnd p .clean) s = .next (goodFrameTraffic p.val s (u.killFrame f.id))) ∧
    (f.lost = some false → f.rxLen ≤ u.maxFrame p.val → 64 ≤ f.rxLen → f.fcsOk = true → exec (.ingressFrameEnd p .clean) s =
      .next (goodFrameTraffic p.val s ((u.rxOk p.val f.bytes).killFrame f.id)))) ∧
  (∀ (p : Fin 32) (s : State), s.arriving p.val = none → exec (.ingressFrameEnd p .clean) s = .next s)

/-- REORDER_RELEASE, REORDER_TIMEOUT and CLICKER_REJOIN (R94 step 6, R95, R96).  The model's choices: how writes that wait hold a
frame (assumption log 90), and what a rejoin is (76). -/
def Obligations.SlotsReleaseInOrderAndStallsRetire : Prop :=
  (∀ (p : Fin 37) (s : State) (f : Frame), s.clr.frames.find? (fun f => f.port == p.val && f.slot) = some f → f.stage = .ready →
    (f.writes = false ∨ (s.slicesIn ≠ [] ∧ s.fabNow.portWaits p.val = false)) → exec (.reorderRelease p) s =
      .next (((s.modFrame f.id (fun f => { f with slot := false, stage := .out })).takeSlots p.val).enqueueFrame f.id)) ∧
  (∀ (p : Fin 37) (s : State) (f : Frame), s.clr.frames.find? (fun f => f.port == p.val && f.slot) = some f →
    (f.stage ≠ .ready ∨ (f.writes = true ∧ (s.slicesIn = [] ∨ s.fabNow.portWaits p.val = true))) → exec (.reorderRelease p) s = .next s) ∧
  (∀ (p : Fin 37) (s : State) (f : Frame) (c k : Nat),
    s.clr.frames.find? (fun f => f.port == p.val && f.slot && f.stage != .ready && f.timedOut s.now) = some f →
    f.stage = .clicker c k → exec (.reorderTimeout p false) s =
      .next ((((((s.inc Reg.CLR_RO_TIMEOUT_COUNT 1 0 p.val).modFrame f.id (fun f => { f with
        fate := .drop, stage := .ready, pdrop := none, parse := { f.parse with outcome := none } })).raise Reg.CLR_IRQ_STALL c).clickerOut
          c).fault (0x040 + c) 0x1001))) ∧
  (∀ (p : Fin 37) (s : State) (f : Frame) (c k : Nat),
    s.clr.frames.find? (fun f => f.port == p.val && f.slot && f.stage != .ready && f.timedOut s.now) = some f →
    f.stage = .clicker c k → exec (.reorderTimeout p true) s =
      .next ((((s.inc Reg.CLR_RO_TIMEOUT_COUNT 1 0 p.val).modFrame f.id (fun f => { f with
        fate := .drop, stage := .ready, pdrop := none, parse := { f.parse with outcome := none } })).raise Reg.RUL_IRQ_STALL).fault
          0x058 0x1101)) ∧
  (∀ (c : Fin 24) (n : Nat) (s u : State), s.clr.stalled.contains c.val = true →
    s.clr.frames.any (fun f => (List.range 4).any (fun k => f.stage == .clicker c.val k)) = false →
    u = s.clrSet (fun x =>
        { x with stalled := x.stalled.filter (· != c.val), rejoinAt := AMap.ins x.rejoinAt c.val s.now }) →
    exec (.clickerRejoin c n true) s = .next (((((u.rejoinTest (0x040 + c.val) n true).put Reg.CLR_STAT_ROTATION 1 c.val).raise
      Reg.CLR_IRQ_REJOINED c.val).budget)) ∧
    exec (.clickerRejoin c n false) s = .next (u.rejoinTest (0x040 + c.val) n false))

/-- SCHEDULER_CHOOSE and CUT_THROUGH_START (R155, R171, R179, R181, R229, R366).  The model's choices: what holds a keep-alive
(assumption log 99), and that an event which finds nothing to do changes nothing beyond the slices' present (1). -/
def Obligations.SchedulersTakeTheEligibleCopy : Prop :=
  (∀ (p : Fin 37) (z s : State), s = z.fabNow → s.inService p.val = true → s.slicesIn ≠ [] → s.kaHolds p.val = false →
    (isTP p.val = false ∨ s.get Reg.T1S_STAT_STATE (p.val - 24) ≠ 1) →
    (s.creditSync p.val).nextCopy p.val = none → (s.creditSync p.val).resumes p.val = none →
    exec (.schedulerChoose p) z = .next (s.creditSync p.val)) ∧
  (∀ (p : Fin 37) (z s : State) (c : Copy), s = z.fabNow → s.inService p.val = true → s.slicesIn ≠ [] → s.kaHolds p.val = false →
    (isTP p.val = false ∨ s.get Reg.T1S_STAT_STATE (p.val - 24) ≠ 1) →
    (s.creditSync p.val).nextCopy p.val = none → (s.creditSync p.val).resumes p.val = some c →
    exec (.schedulerChoose p) z = .next ((s.creditSync p.val).resumeCopy c)) ∧
  (∀ (p : Fin 37) (z s : State) (c : Copy) (ex : Bool) (f : Frame), s = z.fabNow → s.inService p.val = true → s.slicesIn ≠ [] →
    s.kaHolds p.val = false → (isTP p.val = false ∨ s.get Reg.T1S_STAT_STATE (p.val - 24) ≠ 1) →
    (s.creditSync p.val).nextCopy p.val = some (c, ex) → (s.creditSync p.val).resumes p.val = none →
    (s.creditSync p.val).frame c.frame = some f → (s.creditSync p.val).discardOf c f = none →
    exec (.schedulerChoose p) z = .next ((s.creditSync p.val).takeCopy c f ex)) ∧
  (∀ (p : Fin 37) (z s : State) (c r : Copy) (ex : Bool) (f : Frame), s = z.fabNow → s.inService p.val = true → s.slicesIn ≠ [] →
    s.kaHolds p.val = false → (isTP p.val = false ∨ s.get Reg.T1S_STAT_STATE (p.val - 24) ≠ 1) →
    (s.creditSync p.val).nextCopy p.val = some (c, ex) → (s.creditSync p.val).resumes p.val = some r →
    (s.creditSync p.val).frame c.frame = some f → (s.creditSync p.val).discardOf c f = none →
    exec (.schedulerChoose p) z = .next (if (s.creditSync p.val).preemptable p.val (c.svc % 8) = true then
      (s.creditSync p.val).resumeCopy r else (s.creditSync p.val).takeCopy c f ex)) ∧
  (∀ (p : Fin 37) (z s : State) (c : Copy) (ex : Bool) (f : Frame) (d : Discard), s = z.fabNow → s.inService p.val = true →
    s.slicesIn ≠ [] → s.kaHolds p.val = false → (isTP p.val = false ∨ s.get Reg.T1S_STAT_STATE (p.val - 24) ≠ 1) →
    (s.creditSync p.val).nextCopy p.val = some (c, ex) → (s.creditSync p.val).frame c.frame = some f →
    (s.creditSync p.val).discardOf c f = some d → exec (.schedulerChoose p) z =
      .next (((s.creditSync p.val).discard c f d).chooseLoop p.val s.clr.copies.length)) ∧
  (∀ (p : Fin 37) (z s : State), s = z.fabNow → (s.inService p.val = false ∨ (s.slicesIn = [] ∧ s.kaHolds p.val = false)) →
    exec (.schedulerChoose p) z = .next s) ∧
  (∀ (p : Fin 37) (z s : State) (b : List Byte), s = z.fabNow → p.val < 32 → s.inService p.val = true →
    (isTP p.val = false ∨ s.get Reg.T1S_STAT_STATE (p.val - 24) ≠ 1) → (s.mac p.val).ka = some b → (s.mac p.val).kaTx = none →
    s.clr.copies.any (fun c => c.port == p.val && c.st == .sending) = false → exec (.schedulerChoose p) z =
      .next ((s.macSet p.val { s.mac p.val with ka := none, kaTx := some b }).stampTx p.val b)) ∧
  (∀ (p : Fin 37) (z s : State) (c : Copy) (f : Frame), s = z.fabNow → s.nextStart p.val = some c → s.frame c.frame = some f →
    (f.whole = true ∨ s.startBytes f.port p.val ≤ s.held c f) → s.pauseLets p.val (c.svc % 8) = true → s.gateLets c = true →
    s.slicesIn ≠ [] → s.kaHolds p.val = false → exec (.cutThroughStart p) z = .next (match s.startBar c f with
      | some d => (s.chargeTo c 0).discard c f d
      | none => s.startCopy c f)) ∧
  (∀ (p : Fin 37) (z s : State) (c : Copy) (f : Frame), s = z.fabNow → s.nextStart p.val = some c → s.frame c.frame = some f →
    ((f.whole = false ∧ s.held c f < s.startBytes f.port p.val) ∨ s.pauseLets p.val (c.svc % 8) = false ∨ s.gateLets c = false ∨
      s.slicesIn = [] ∨ s.kaHolds p.val = true) → exec (.cutThroughStart p) z = .next s) ∧
  (∀ (p : Fin 37) (z s : State), s = z.fabNow → s.nextStart p.val = none → exec (.cutThroughStart p) z = .next s)

/-- COPY_TX_DONE and REPARENT (R19, R131, R170, R226, R366).  The model's choices: when the fabric falls short (assumption log 90),
a place that is none (66), and events that find nothing to do (1). -/
def Obligations.CopiesLeaveAndParentsChange : Prop :=
  (∀ (p : Fin 32) (z s u : State) (c : Copy) (f : Frame), s = z.fabNow → (s.mac p.val).kaTx = none →
    s.clr.copies.find? (fun c => c.port == p.val && c.st == .sending) = some c → s.frame c.frame = some f → f.whole = true →
    s.readsWait c.id = 0 → u = s.creditSync p.val →
    exec (.copyTxDone p) z = .next (((((((u.macCnt p.val 21).macCnt p.val 22 (u.copyLen c f)).macCnt p.val
      (txKind (s.wireBytes c f))).wasSent p.val (s.wireBytes c f)).rmCopy c.id).reap))) ∧
  (∀ (p : Fin 32) (z s : State) (c : Copy) (f : Frame), s = z.fabNow → (s.mac p.val).kaTx = none →
    s.clr.copies.find? (fun c => c.port == p.val && c.st == .sending) = some c → s.frame c.frame = some f → f.whole = true →
    s.readsWait c.id ≠ 0 → exec (.copyTxDone p) z =
      .next (if c.ct = true ∧ s.fabShort = true then (s.poisonCopy c 7).reap else s)) ∧
  (∀ (p : Fin 32) (z s : State) (b : List Byte), s = z.fabNow → (s.mac p.val).kaTx = some b → exec (.copyTxDone p) z =
    .next (((((s.macCnt p.val 21).macCnt p.val 22 b.length).macCnt p.val (txKind b)).wasSent p.val b).kaDone p.val)) ∧
  (∀ (p : Fin 32) (z s : State), s = z.fabNow → (s.mac p.val).kaTx = none → s.leaving p.val = none →
    exec (.copyTxDone p) z = .next s) ∧
  (∀ (n : Fin 8192) (s u : State) (old i : Nat), AMap.find s.sch.sOld n.val = some old → s.subCopies n.val = [] →
    u = s.schSet (fun h => { h with sOld := AMap.del h.sOld n.val }) → u.subPlace n.val = some i →
    exec (.reparent false n) s =
      .next ((u.subSet n.val ⟨u.vt i, (u.sub_ n.val).v, (u.sub_ n.val).c, (u.sub_ n.val).p, (u.sub_ n.val).bytes⟩).raise
        Reg.SCH_IRQ_REPARENT (i / 8))) ∧
  (∀ (n : Fin 8192) (s u : State) (old : Nat), AMap.find s.sch.sOld n.val = some old → s.subCopies n.val = [] →
    u = s.schSet (fun h => { h with sOld := AMap.del h.sOld n.val }) → u.subPlace n.val = none →
    exec (.reparent false n) s = .next (u.raise Reg.SCH_IRQ_REPARENT (old / 8))) ∧
  (∀ (n : Fin 8192) (s : State), (AMap.find s.sch.sOld n.val = none ∨ s.subCopies n.val ≠ []) →
    exec (.reparent false n) s = .next s) ∧
  (∀ (n : Fin 8192) (s : State) (old : Nat), AMap.find s.sch.qOld n.val = some old → s.queueCopies n.val = [] → ∃ t,
    exec (.reparent true n) s = .next t ∧ t.sch.qOld = AMap.del s.sch.qOld n.val ∧ (n.val ≠ s.puntQ 32 → t.sch.sOld = s.sch.sOld) ∧
    t.clr = s.clr ∧ t.lst = s.lst) ∧
  (∀ (n : Fin 8192) (s : State), (AMap.find s.sch.qOld n.val = none ∨ s.queueCopies n.val ≠ []) →
    exec (.reparent true n) s = .next s)


/-! ### Fabric, pace and the Cobbler (chapters 05, 06) -/

/-- PACE_WINDOW_END and DEMAND_WINDOW_END (R130, R132, R138).  A slice out of service or a fabric that is off ends no window (assumption
log 1, the model's choice). -/
def Obligations.PaceAndDemandWindowsEnd : Prop :=
  (∀ (n : Fin 4) (w pace : Nat) (s : State), s.flag Reg.FAB_STAT_IN_SERVICE n.val = true →
    pace = min 4095 (if s.flag Reg.CGU_STAT_LOADS = true then w * 98 / 100 else w) → 500 ≤ pace → ∃ t,
    exec (.paceWindowEnd n w) s = .next t ∧ t.get Reg.FAB_PACE_PACE n.val = pace ∧
    t.get Reg.FAB_PACE_HRC n.val = b2n (s.flag Reg.CGU_STAT_LOADS) ∧
    t.get Reg.FAB_PACE_MIN_PACE n.val = min pace (s.get Reg.FAB_PACE_MIN_PACE n.val) % 4096 ∧
    t.get Reg.FAB_PACE_MAX_PACE n.val = max pace (s.get Reg.FAB_PACE_MAX_PACE n.val) % 4096 ∧
    t.fab.lowest = some (min (s.fab.lowest.getD pace) pace) ∧ t.clr = s.clr ∧ t.lst = s.lst ∧ t.tim = s.tim) ∧
  (∀ (n : Fin 4) (w pace : Nat) (s : State), s.flag Reg.FAB_STAT_IN_SERVICE n.val = true →
    pace = min 4095 (if s.flag Reg.CGU_STAT_LOADS = true then w * 98 / 100 else w) → pace < 500 → ∃ u : State,
    exec (.paceWindowEnd n w) s = .next (u.devCause Reg.DEV_CAUTIOUS_PACE true) ∧ u.get Reg.FAB_PACE_PACE n.val = pace ∧
    u.get Reg.FAB_PACE_MIN_PACE n.val = min pace (s.get Reg.FAB_PACE_MIN_PACE n.val) % 4096 ∧
    u.get Reg.FAB_PACE_MAX_PACE n.val = max pace (s.get Reg.FAB_PACE_MAX_PACE n.val) % 4096 ∧
    u.fab.lowest = some (min (s.fab.lowest.getD pace) pace) ∧ u.clr = s.clr ∧ u.lst = s.lst ∧ u.tim = s.tim ∧
    ((s.get Reg.FAB_PACE_PACE n.val = 0 ∨ 500 ≤ s.get Reg.FAB_PACE_PACE n.val) → u.get Reg.FAB_IRQ_BELOW_FLOOR n.val = 1) ∧
    (0 < s.get Reg.FAB_PACE_PACE n.val → s.get Reg.FAB_PACE_PACE n.val < 500 →
      u.get Reg.FAB_IRQ_BELOW_FLOOR n.val = s.get Reg.FAB_IRQ_BELOW_FLOOR n.val)) ∧
  (∀ (n : Fin 4) (w : Nat) (s : State), s.flag Reg.FAB_STAT_IN_SERVICE n.val = false →
    exec (.paceWindowEnd n w) s = .next s) ∧
  (∀ s : State, s.pagePowered 0x060 = true → s.fab.cells ≠ 0 → s.paceSum ≠ 0 → ∃ t,
    exec .demandWindowEnd s = .next t ∧ t.get Reg.FAB_REP_REP = min 65535 (s.fab.copies * 256 / s.fab.cells) ∧
    t.get Reg.FAB_DEMAND_DEMAND = min 65535 (s.fab.demandBits * 1024 / (512000 * s.paceSum)) ∧
    t.get Reg.FAB_DEMAND_OVER = b2n (decide (512000 * s.paceSum < s.fab.demandBits)) ∧
    (512000 * s.paceSum < s.fab.demandBits → t.get Reg.FAB_IRQ_OVERLOAD = 1) ∧
    (s.fab.demandBits ≤ 512000 * s.paceSum → t.get Reg.FAB_IRQ_OVERLOAD = s.get Reg.FAB_IRQ_OVERLOAD) ∧
    t.fab.demand = s.fab.demandBits ∧ t.fab.cells = 0 ∧ t.fab.copies = 0 ∧ t.fab.written = 0 ∧ t.fab.read = 0 ∧
    t.clr.frames = s.clr.frames ∧ t.clr.copies = s.clr.copies ∧ t.lst = s.lst) ∧
  (∀ s : State, s.pagePowered 0x060 = false → exec .demandWindowEnd s = .next s)

/-- FABRIC_STALL and SLICE_REJOIN (R142, R143).  The model's choices: what a slice had carried and what is reissued (assumption log 90),
what counts as a rejoin (76), events that are not due (1). -/
def Obligations.StalledSlicesLeaveAndRejoin : Prop :=
  (∀ (n : Fin 4) (s u v w : State), s.flag Reg.FAB_STAT_IN_SERVICE n.val = true →
    u = s.sliceStuck n.val (s.now - s.get Reg.FAB_STALL_LIMIT) →
    v = (u.slice n.val).framesWritten.foldl (fun s f => s.abandon n.val f) (((u.put Reg.FAB_STAT_STALLS
      (min 255 (u.get Reg.FAB_STAT_STALLS n.val + 1)) n.val).raise Reg.FAB_IRQ_STALL n.val).fault (0x060 + n.val) 0x1301) →
    w = v.sliceServe n.val false →
    ((∀ t, AMap.find s.fab.rejoinAt n.val = some t → t + 1000000000 ≤ s.now) → exec (.fabricStall n) s =
      .next ((if w.flag Reg.FAB_CTRL_AUTO_REJOIN = true then w.fabSet (fun f => { f with stalled := f.stalled ++ [n.val] })
        else (w.put Reg.FAB_STAT_RETIRED 1 n.val).raise Reg.FAB_IRQ_RETIRED n.val).readsComplain (v.slice n.val))) ∧
    (∀ t, AMap.find s.fab.rejoinAt n.val = some t → s.now < t + 1000000000 → exec (.fabricStall n) s =
      .next (((w.put Reg.FAB_STAT_RETIRED 1 n.val).raise Reg.FAB_IRQ_RETIRED n.val).readsComplain (v.slice n.val)))) ∧
  (∀ (n : Fin 4) (s : State), s.flag Reg.FAB_STAT_IN_SERVICE n.val = false → exec (.fabricStall n) s = .next s) ∧
  (∀ (n : Fin 4) (k : Nat) (s u : State), s.fab.stalled.contains n.val = true → s.pagePowered (0x060 + n.val) = true →
    u = s.fabSet (fun f => { f with stalled := f.stalled.filter (· != n.val), rejoinAt := AMap.ins f.rejoinAt n.val s.now }) →
    exec (.sliceRejoin n k true) s =
      .next (((u.rejoinTest (0x060 + n.val) k true).sliceServe n.val true).raise Reg.FAB_IRQ_REJOINED n.val) ∧
    exec (.sliceRejoin n k false) s = .next (u.rejoinTest (0x060 + n.val) k false)) ∧
  (∀ (n : Fin 4) (k : Nat) (ok : Bool) (s : State), (s.fab.stalled.contains n.val = false ∨ s.pagePowered (0x060 + n.val) = false) →
    exec (.sliceRejoin n k ok) s = .next s)

/-- GOVERNOR_ENABLE, GOVERNOR_INTERVAL and PMBUS_TRANSACTION_DONE (R139–R141).  With no transaction nothing happens (assumption log 1,
the model's choice). -/
def Obligations.TheGovernorRequestsAndFails : Prop :=
  (∀ (m : Master) (pec : Bool) (a : Fin 128) (st : Fin 16) (iv : Fin 256) (z s : State), s = z.sent m → s.grants m 0x060 →
    s.flag Reg.FAB_GOV_CTRL_EN = false → ∃ u : State,
    u = ((((s.put Reg.FAB_GOV_CTRL_EN 1).put Reg.FAB_GOV_CTRL_PEC (b2n pec)).put Reg.FAB_GOV_CTRL_ADDR a.val).put
      Reg.FAB_GOV_CTRL_STEP (max 1 st.val)).put Reg.FAB_GOV_CTRL_INTERVAL (max 1 iv.val) ∧
    exec (.governorEnable m true pec a st iv) z = .next ((u.put Reg.FAB_GOV_STAT_STATE 1).fabSet (fun f =>
      { f with bus := [0], retry := false, limited := false }))) ∧
  (∀ (m : Master) (pec : Bool) (a : Fin 128) (st : Fin 16) (iv : Fin 256) (z s : State), s = z.sent m → s.grants m 0x060 →
    s.flag Reg.FAB_GOV_CTRL_EN = true → ∃ u : State,
    u = ((((s.put Reg.FAB_GOV_CTRL_EN 0).put Reg.FAB_GOV_CTRL_PEC (b2n pec)).put Reg.FAB_GOV_CTRL_ADDR a.val).put
      Reg.FAB_GOV_CTRL_STEP (max 1 st.val)).put Reg.FAB_GOV_CTRL_INTERVAL (max 1 iv.val) ∧
    exec (.governorEnable m false pec a st iv) z = .next (if s.get Reg.FAB_GOV_STAT_STATE = 3
      then u.fabSet (fun f => { f with bus := [], retry := false })
      else (u.fabSet (fun f => { f with bus := [], retry := false })).put Reg.FAB_GOV_STAT_STATE 0)) ∧
  (∀ s : State, s.pagePowered 0x060 = true → bit s.pwr.powered 1 = true → s.flag Reg.FAB_GOV_CTRL_EN = true →
    s.get Reg.FAB_GOV_STAT_STATE ≠ 3 → s.paceLow = none → s.warnRecent = false → exec .governorInterval s =
      .next ((((s.put Reg.FAB_GOV_STAT_STATE 1).fabSet (fun f => { f with lowest := none })).fabSet
        (fun f => { f with limited := false })).fabSet (fun f => { f with bus := f.bus ++ [2] }))) ∧
  (∀ (s : State) (p : Nat), s.pagePowered 0x060 = true → bit s.pwr.powered 1 = true → s.flag Reg.FAB_GOV_CTRL_EN = true →
    s.get Reg.FAB_GOV_STAT_STATE ≠ 3 → ((s.paceLow = some p ∧ p < s.get Reg.FAB_GOV_TARGET_TARGET) ∨ s.warnRecent = true) →
    0 < s.get Reg.FAB_GOV_STAT_VREQ → s.get Reg.FAB_GOV_VLIM_VMIN ≤ s.get Reg.FAB_GOV_STAT_VREQ →
    s.get Reg.FAB_GOV_STAT_VREQ < s.get Reg.FAB_GOV_VLIM_VMAX → s.get Reg.FAB_GOV_VLIM_VMAX < 1024 →
    0 < s.get Reg.FAB_GOV_CTRL_STEP → ∃ t, exec .governorInterval s = .next t ∧
    t.get Reg.FAB_GOV_STAT_VREQ =
      min (s.get Reg.FAB_GOV_VLIM_VMAX) (s.get Reg.FAB_GOV_STAT_VREQ + s.get Reg.FAB_GOV_CTRL_STEP) ∧
    t.fab.bus = s.fab.bus ++ [1, 2] ∧ t.fab.lowest = none ∧ t.clr = s.clr) ∧
  (∀ (mv : Fin 65536) (s : State) (r : List Nat), s.fab.bus = 2 :: r → exec (.pmbusTransactionDone true mv) s =
    .next ((s.fabSet (fun f => { f with bus := r, retry := false })).put Reg.FAB_GOV_STAT_VREAD mv.val)) ∧
  (∀ (mv : Fin 65536) (s : State) (x : Nat) (r : List Nat), s.fab.bus = x :: r → x ≠ 2 → exec (.pmbusTransactionDone true mv) s =
    .next (s.fabSet (fun f => { f with bus := r, retry := false }))) ∧
  (∀ (ok : Bool) (mv : Fin 65536) (s : State), s.fab.bus = [] → exec (.pmbusTransactionDone ok mv) s = .next s) ∧
  (∀ (mv : Fin 65536) (s : State) (x : Nat) (r : List Nat), s.fab.bus = x :: r → s.fab.retry = false →
    exec (.pmbusTransactionDone false mv) s = .next (s.fabSet (fun f => { f with retry := true }))) ∧
  (∀ (mv : Fin 65536) (s : State) (x : Nat) (r : List Nat), s.fab.bus = x :: r → s.fab.retry = true →
    exec (.pmbusTransactionDone false mv) s = .next ((((s.fabSet (fun f => { f with bus := [], retry := false })).put
      Reg.FAB_GOV_STAT_STATE 3).raise Reg.FAB_IRQ_GOV_FAIL).fault 0x060 0x1302))

/-- COBBLER_PASS_END and COBBLER_ENABLE (R165, R166).  A Cobbler that is off ends no pass (assumption log 1, the model's choice). -/
def Obligations.TheCobblerMarksAndReclaims : Prop :=
  (∀ (d : Nat) (s : State), s.flag Reg.CBR_CTRL_EN = true → s.pagePowered 0x069 = true → s.doubles = [] →
    (∀ x ∈ s.suspects, x ∉ s.sole.marks) → ∃ t, exec (.cobblerPassEnd d) s = .next t ∧ t.sole.marks = s.suspects ∧
    t.get Reg.CBR_PASSES_COUNT = (s.get Reg.CBR_PASSES_COUNT + 1) % 4294967296 ∧
    t.get Reg.CBR_LAST_DURATION = min 65535 d ∧ t.get Reg.CBR_LAST_SUSPECT = min 65535 s.suspects.length ∧
    t.sole.taken = s.sole.taken ∧ t.clr = s.clr ∧ t.flt = s.flt) ∧
  (∀ (d : Nat) (s : State), s.flag Reg.CBR_CTRL_EN = true → s.pagePowered 0x069 = true → s.doubles = [] →
    (∀ x ∈ s.suspects, x ∈ s.sole.marks) → s.suspects ≠ [] → s.get Reg.CBR_LIMIT_LIMIT < s.suspects.length → ∃ u : State,
    exec (.cobblerPassEnd d) s = .next ((u.raise Reg.CBR_IRQ_LEAK_RATE).fault 0x069 0x1502) ∧ u.sole.marks = [] ∧
    u.get Reg.CBR_IRQ_LEAK = 1 ∧ u.sole.taken = s.suspects.foldl (fun m c => AMap.del m c.1) s.sole.taken ∧
    u.get Reg.CBR_RECLAIMED_COUNT =
      min (2 ^ Reg.CBR_RECLAIMED_COUNT.width - 1) (s.get Reg.CBR_RECLAIMED_COUNT + s.suspects.length)) ∧
  (∀ (d : Nat) (s : State), s.flag Reg.CBR_CTRL_EN = true → s.pagePowered 0x069 = true → s.doubles = [] →
    (∀ x ∈ s.suspects, x ∈ s.sole.marks) → s.suspects ≠ [] → s.suspects.length ≤ s.get Reg.CBR_LIMIT_LIMIT → ∃ t,
    exec (.cobblerPassEnd d) s = .next t ∧ t.sole.marks = [] ∧
    t.get Reg.CBR_IRQ_LEAK = 1 ∧ t.get Reg.CBR_IRQ_LEAK_RATE = s.get Reg.CBR_IRQ_LEAK_RATE ∧ t.flt = s.flt ∧ t.clr = s.clr ∧
    t.sole.taken = s.suspects.foldl (fun m c => AMap.del m c.1) s.sole.taken ∧
    t.get Reg.CBR_RECLAIMED_COUNT =
      min (2 ^ Reg.CBR_RECLAIMED_COUNT.width - 1) (s.get Reg.CBR_RECLAIMED_COUNT + s.suspects.length)) ∧
  (∀ (d c : Nat) (s : State), s.flag Reg.CBR_CTRL_EN = true → s.pagePowered 0x069 = true → s.doubles = [c] → s.suspects = [] → ∃ t,
    exec (.cobblerPassEnd d) s = .next t ∧ t.get Reg.CBR_IRQ_DOUBLE = 1 ∧ AMap.find t.sole.taken c = some .shared ∧
    t.get Reg.CBR_DOUBLE_COUNT = min (2 ^ Reg.CBR_DOUBLE_COUNT.width - 1) (s.get Reg.CBR_DOUBLE_COUNT + 1)) ∧
  (∀ (d : Nat) (s : State), (s.flag Reg.CBR_CTRL_EN = false ∨ s.pagePowered 0x069 = false) →
    exec (.cobblerPassEnd d) s = .next s) ∧
  (∀ (m : Master) (z s : State), s = z.sent m → s.grants m 0x069 → exec (.cobblerEnable m true) z = .next (s.put Reg.CBR_CTRL_EN 1)) ∧
  (∀ (m : Master) (z s : State), s = z.sent m → s.grants m 0x069 → exec (.cobblerEnable m false) z =
    .next { s.put Reg.CBR_CTRL_EN 0 with sole := { s.sole with marks := [] } })


/-! ### Ethernet ports (chapters 06, 08, 09) -/

/-- LINK_UP, LINK_DOWN and INBAND_RATE_CHANGE (R211, R212, R214).  An event that is not due changes nothing (assumption log 1, the
model's choice). -/
def Obligations.LinksComeUpAndFail : Prop :=
  (∀ (p : Fin 32) (r : Fin 8) (s : State), s.flag Reg.MAC_LINK_UP p.val = false → s.mayLink p.val = true →
    rateOk (s.portMode p.val) r.val = true → ∃ u : State, exec (.linkUp p r) s = .next (u.portSync p.val) ∧
    u.get Reg.MAC_LINK_UP p.val = 1 ∧ u.get Reg.MAC_LINK_RATE p.val = modeRate (s.portMode p.val) r.val % 8 ∧
    u.get Reg.MAC_LINK_LF p.val = 0 ∧ u.get Reg.MAC_LINK_RF p.val = 0 ∧ u.get Reg.MAC_IRQ_LINK_UP p.val = 1 ∧ u.clr = s.clr) ∧
  (∀ (p : Fin 32) (r : Fin 8) (s : State), s.flag Reg.MAC_LINK_UP p.val = false → s.mayLink p.val = true →
    rateOk (s.portMode p.val) r.val = false → exec (.linkUp p r) s =
      .next ((s.put Reg.MAC_LINK_RATE_UNSUP 1 p.val).raise Reg.MAC_IRQ_RATE_UNSUP p.val)) ∧
  (∀ (p : Fin 32) (r : Fin 8) (s : State), (s.flag Reg.MAC_LINK_UP p.val = true ∨ s.mayLink p.val = false) →
    exec (.linkUp p r) s = .next s) ∧
  (∀ (p : Fin 32) (w : LinkFail) (s : State), bit s.pwr.powered (macDomain p.val) = true → s.portHeld p.val = false →
    (s.portMode p.val ≠ 0 ∨ s.flag Reg.MAC_LINK_UP p.val = true) → exec (.linkDown p w) s = .next ((s.linkWhy p.val w).linkLost p.val)) ∧
  (∀ (p : Fin 32) (w : LinkFail) (s : State), (bit s.pwr.powered (macDomain p.val) = false ∨ s.portHeld p.val = true ∨
    (s.portMode p.val = 0 ∧ s.flag Reg.MAC_LINK_UP p.val = false)) → exec (.linkDown p w) s = .next s) ∧
  (∀ (p : Fin 32) (r : Fin 8) (s : State), (s.portMode p.val = 3 ∨ s.portMode p.val = 6) →
    exec (.inbandRateChange p r) s = .next ((s.linkLost p.val).linkGained p.val r.val)) ∧
  (∀ (p : Fin 32) (r : Fin 8) (s : State), s.portMode p.val ≠ 3 → s.portMode p.val ≠ 6 → exec (.inbandRateChange p r) s = .next s)

/-- PLL_LOST, PRBS_ERROR, PHY_INTERNAL_FAULT, RX_FIFO_MEMORY_ERROR, MDIO_CMD and MDIO_DONE (R225, R233, R234).  An event that
is not due changes nothing (assumption log 1, the model's choice). -/
def Obligations.PortFaultsAndMdioTransactions : Prop :=
  (∀ (l : Fin 24) (s : State), s.get Reg.CGU_STAT_SDSREF = 2 → exec (.pllLost l) s = .next ((((s.put Reg.SDS_STAT_PLL_LOCK 0 l.val).raise
    Reg.SDS_IRQ_PLL_LOST l.val).linkLost l.val true).fault (0x0F0 + l.val) 0x1B01)) ∧
  (∀ (l : Fin 24) (s : State), s.get Reg.CGU_STAT_SDSREF ≠ 2 → exec (.pllLost l) s = .next s) ∧
  (∀ (l : Fin 24) (s : State), 1 ≤ s.get Reg.SDS_TEST_PRBS_RX l.val → s.get Reg.SDS_TEST_PRBS_RX l.val ≤ 4 →
    exec (.prbsError l) s = .next ((s.inc Reg.SDS_PRBS_ERR_COUNT 1 l.val).raise Reg.SDS_IRQ_PRBS_ERR l.val)) ∧
  (∀ (l : Fin 24) (s : State), (s.get Reg.SDS_TEST_PRBS_RX l.val = 0 ∨ 4 < s.get Reg.SDS_TEST_PRBS_RX l.val) →
    exec (.prbsError l) s = .next s) ∧
  (∀ (t : Fin 8) (s : State), exec (.phyInternalFault t) s =
    .next ((s.t1sEnter (24 + t.val) 2 true).fault (0x108 + t.val) 0x1C01)) ∧
  (∀ (p : Fin 32) (k : Nat) (s : State), (s.clr.frames.filter (fun f => f.port == p.val && decide (0 < s.fifoOf f)))[k]? = none →
    exec (.rxFifoMemoryError p k) s = .next ((s.macCnt p.val 11).fault (0x0D0 + p.val) 0x1A02)) ∧
  (∀ (p : Fin 32) (k : Nat) (f : Frame) (s : State),
    (s.clr.frames.filter (fun f => f.port == p.val && decide (0 < s.fifoOf f)))[k]? = some f →
    exec (.rxFifoMemoryError p k) s = .next ((s.macError f 11 3 true).fault (0x0D0 + p.val) 0x1A02)) ∧
  (∀ (m : Master) (b : Fin 4) (c45 : Bool) (op : Fin 4) (phy reg : Fin 32) (d : Fin 65536) (z s : State), s = z.sent m → s.grants m 0x0D0 →
    s.flag Reg.MDIO_STAT_BUSY 0 b.val m.code = false → (c45 = true ∨ op.val = 1 ∨ op.val = 2) →
    exec (.mdioCmd m b c45 op phy reg d) z = .next { s.put Reg.MDIO_STAT_BUSY 1 0 b.val m.code with
      mdio := s.mdio ++ [⟨b.val, m.code, c45, op.val, phy.val, reg.val, d.val⟩] }) ∧
  (∀ (m : Master) (b : Fin 4) (c45 : Bool) (op : Fin 4) (phy reg : Fin 32) (d : Fin 65536) (z s : State), s = z.sent m → s.grants m 0x0D0 →
    s.flag Reg.MDIO_STAT_BUSY 0 b.val m.code = true →
    exec (.mdioCmd m b c45 op phy reg d) z = .next (s.err 0x0D0 (0x404 + 16 * b.val) ecBUSY m)) ∧
  (∀ (m : Master) (b : Fin 4) (op : Fin 4) (phy reg : Fin 32) (d : Fin 65536) (z s : State), s = z.sent m → s.grants m 0x0D0 →
    s.flag Reg.MDIO_STAT_BUSY 0 b.val m.code = false → (op.val = 0 ∨ op.val = 3) →
    exec (.mdioCmd m b false op phy reg d) z = .next (s.err 0x0D0 (0x404 + 16 * b.val) ecINVALID m)) ∧
  (∀ (b : Fin 4) (d : Fin 65536) (r : MdioReq) (s : State), s.mdio.find? (fun r => r.bus == b.val) = some r →
    r.master ≠ Master.firmware.code → ∃ t, exec (.mdioDone b d) s = .next t ∧ t.get Reg.MDIO_STAT_BUSY 0 b.val r.master = 0 ∧
    ((r.op = 2 ∨ (r.c45 = true ∧ r.op = 3)) → t.get Reg.MDIO_STAT_RDATA 0 b.val r.master = d.val) ∧
    t.clr = s.clr ∧ (∀ x ∈ t.mdio, x ∈ s.mdio) ∧ (∀ x ∈ s.mdio, x.bus ≠ b.val → x ∈ t.mdio)) ∧
  (∀ (b : Fin 4) (d : Fin 65536) (r : MdioReq) (s : State), s.mdio.find? (fun r => r.bus == b.val) = some r →
    r.master = Master.firmware.code → ∃ t, exec (.mdioDone b d) s = .next t ∧ t.regs = s.regs ∧ (∀ x ∈ t.mdio, x ∈ s.mdio)) ∧
  (∀ (b : Fin 4) (d : Fin 65536) (s : State), s.mdio.find? (fun r => r.bus == b.val) = none → exec (.mdioDone b d) s = .next s)

/-- FLUSH_COMPLETE, PORT_RETURN_END and CAUTIOUS_CONDITION_END (R34, R161, R164).  The model's choices: a slice that has not reported
(assumption log 90), events that are not due (1). -/
def Obligations.FlushesCompleteAndConditionsEnd : Prop :=
  (∀ (p : Fin 37) (s : State), s.flushDone p.val = true → s.portState p.val = psFLUSHING → exec (.flushComplete p) s =
    .next ((s.put Reg.SOL_PORT_STATE_STATE psDOWN 0 p.val).raise Reg.SOL_IRQ_FLUSH_DONE)) ∧
  (∀ (p : Fin 37) (s : State), s.flushDone p.val = true → s.portState p.val = psHELD → p.val < 32 →
    exec (.flushComplete p) s = .next ((((s.put Reg.SOL_PORT_STATE_STATE psRETURNING 0 p.val).raise
      Reg.SOL_IRQ_FLUSH_DONE).portCauseSet Reg.MAC_CAUTIOUS_RETURN p.val true).budget)) ∧
  (∀ (p : Fin 37) (s : State), s.flushDone p.val = true → s.portState p.val = psHELD → 32 ≤ p.val →
    exec (.flushComplete p) s = .next (((s.put Reg.SOL_PORT_STATE_STATE psRETURNING 0 p.val).raise Reg.SOL_IRQ_FLUSH_DONE).budget)) ∧
  (∀ (p : Fin 37) (s : State), (s.flushDone p.val = false ∨ (s.portState p.val ≠ psFLUSHING ∧ s.portState p.val ≠ psHELD)) →
    exec (.flushComplete p) s = .next s) ∧
  (∀ (p : Fin 37) (s : State), s.portState p.val ≠ psRETURNING → exec (.portReturnEnd p) s = .next s) ∧
  (∀ (p : Fin 37) (s : State), s.portState p.val = psRETURNING → p.val < 32 → exec (.portReturnEnd p) s =
    .next ((s.put Reg.SOL_PORT_STATE_STATE psUP 0 p.val).portCauseSet Reg.MAC_CAUTIOUS_RETURN p.val false)) ∧
  (∀ (p : Fin 37) (s : State), s.portState p.val = psRETURNING → 32 ≤ p.val → exec (.portReturnEnd p) s =
    .next (s.put Reg.SOL_PORT_STATE_STATE psUP 0 p.val)) ∧
  (∀ s : State, exec (.cautiousConditionEnd .fault) s = .next (s.devCause Reg.DEV_CAUTIOUS_FAULT false)) ∧
  (∀ s : State, s.supplyLow = false → exec (.cautiousConditionEnd .supply) s =
    .next (s.devCause Reg.DEV_CAUTIOUS_SUPPLY false)) ∧
  (∀ s : State, s.supplyLow = true → exec (.cautiousConditionEnd .supply) s = .next s) ∧
  (∀ s : State, (∀ n ∈ s.slicesIn, (s.slice n).reported = true ∧ 500 ≤ s.get Reg.FAB_PACE_PACE n) →
    exec (.cautiousConditionEnd .pace) s = .next (s.devCause Reg.DEV_CAUTIOUS_PACE false)) ∧
  (∀ (s : State) (n : Nat), n ∈ s.slicesIn → ((s.slice n).reported = false ∨ s.get Reg.FAB_PACE_PACE n < 500) →
    exec (.cautiousConditionEnd .pace) s = .next s) ∧
  (∀ (p : Nat) (s : State), p < 32 → exec (.cautiousConditionEnd (.portFault p)) s =
    .next (s.portCauseSet Reg.MAC_CAUTIOUS_FAULT p false))

/-- PAUSE_FRAME_RX, PAUSE_EXPIRY, PAUSE_WATCHDOG_EXPIRY, PAUSE_IGNORE_END, TX_PAUSE_SEND and TX_PAUSE_REPEAT (R221–R224).  An event
that is not due changes nothing (assumption log 1, the model's choice). -/
def Obligations.PausesAreHonouredSentAndEnd : Prop :=
  (∀ (p : Fin 32) (b : List Byte) (s : State), s.flag Reg.MAC_LINK_UP p.val = true → macControl b = true →
    s.fifoFill p.val + min (s.maxFrame p.val) 2048 ≤ fifoSize p.val → b.length ≤ s.maxFrame p.val → 64 ≤ b.length →
    leNat (b.drop (b.length - 4)) = crc32Eth (b.take (b.length - 4)) → beNat (sub b (ctlOff b + 2) 2) = 1 → b.take 6 = pauseDA →
    isTP p.val = false → (s.macCnt p.val 5).rxPause p.val = true →
    (s.macCnt p.val 5).flag Reg.MAC_PAUSE_STAT_IGNORING p.val = false →
    exec (.pauseFrameRx p b false) s = .next ((s.macCnt p.val 5).honour p.val 1 b)) ∧
  (∀ (p : Fin 32) (b : List Byte) (s : State), s.flag Reg.MAC_LINK_UP p.val = true → macControl b = true →
    s.fifoFill p.val + min (s.maxFrame p.val) 2048 ≤ fifoSize p.val → b.length ≤ s.maxFrame p.val → 64 ≤ b.length →
    leNat (b.drop (b.length - 4)) = crc32Eth (b.take (b.length - 4)) → beNat (sub b (ctlOff b + 2) 2) = 0x101 → b.take 6 = pauseDA →
    isTP p.val = false → (s.macCnt p.val 6).pfc p.val = true →
    (s.macCnt p.val 6).flag Reg.MAC_PAUSE_STAT_IGNORING p.val = false →
    exec (.pauseFrameRx p b false) s = .next ((s.macCnt p.val 6).honour p.val 0x101 b)) ∧
  (∀ (p : Fin 32) (b : List Byte) (s u : State), s.flag Reg.MAC_LINK_UP p.val = true → macControl b = true →
    s.fifoFill p.val + min (s.maxFrame p.val) 2048 ≤ fifoSize p.val → b.length ≤ s.maxFrame p.val → 64 ≤ b.length →
    leNat (b.drop (b.length - 4)) = crc32Eth (b.take (b.length - 4)) → (beNat (sub b (ctlOff b + 2) 2) = 1 ∨ beNat (sub b (ctlOff b + 2) 2) = 0x101) →
    u = s.macCnt p.val (if beNat (sub b (ctlOff b + 2) 2) = 1 then 5 else 6) → u.flag Reg.MAC_PAUSE_STAT_IGNORING p.val = true →
    exec (.pauseFrameRx p b false) s = .next (u.macCnt p.val 31)) ∧
  (∀ (p : Fin 32) (b : List Byte) (s : State), s.flag Reg.MAC_LINK_UP p.val = true → macControl b = true →
    s.fifoFill p.val + min (s.maxFrame p.val) 2048 ≤ fifoSize p.val → b.length ≤ s.maxFrame p.val → 64 ≤ b.length →
    leNat (b.drop (b.length - 4)) = crc32Eth (b.take (b.length - 4)) → beNat (sub b (ctlOff b + 2) 2) ≠ 1 → beNat (sub b (ctlOff b + 2) 2) ≠ 0x101 →
    exec (.pauseFrameRx p b false) s = .next (s.macCnt p.val 7)) ∧
  (∀ (p : Fin 32) (s : State), exec (.pauseExpiry p none) s = .next ((s.put Reg.MAC_PAUSE_STAT_PAUSED 0 p.val).pauseTrack p.val)) ∧
  (∀ (p : Fin 32) (c : Fin 8) (s : State), exec (.pauseExpiry p (some c)) s = .next ((s.put Reg.MAC_PAUSE_STAT_CLASSES
    (setBit (s.get Reg.MAC_PAUSE_STAT_CLASSES p.val) c.val false) p.val).pauseTrack p.val)) ∧
  (∀ (p : Fin 32) (s : State) (at_ : Nat), (s.mac p.val).heldAt = some at_ → isTP p.val = false →
    exec (.pauseWatchdogExpiry p) s = .next (((((s.pauseEnd p.val).put Reg.MAC_PAUSE_STAT_IGNORING 1 p.val).macCnt p.val 30).raise
      Reg.MAC_IRQ_PAUSE_WD p.val).fault (0x0D0 + p.val) 0x1A01)) ∧
  (∀ (p : Fin 32) (s : State), (s.mac p.val).heldAt = none → exec (.pauseWatchdogExpiry p) s = .next s) ∧
  (∀ (p : Fin 32) (s : State), exec (.pauseIgnoreEnd p) s = .next (s.put Reg.MAC_PAUSE_STAT_IGNORING 0 p.val)) ∧
  (∀ (p : Fin 32) (s : State), s.txPause p.val = true → s.flag Reg.MAC_LINK_UP p.val = true → (s.mac p.val).xoff = false →
    s.xoff p.val * fifoSize p.val ≤ 16 * s.fifoFill p.val →
    exec (.txPauseSend p) s = .next (s.sendPause p.val 0xFFFF)) ∧
  (∀ (p : Fin 32) (s : State), s.txPause p.val = true → s.flag Reg.MAC_LINK_UP p.val = true → (s.mac p.val).xoff = true →
    16 * s.fifoFill p.val < s.xon p.val * fifoSize p.val →
    exec (.txPauseSend p) s = .next (s.sendPause p.val 0)) ∧
  (∀ (p : Fin 32) (s : State), (s.txPause p.val = false ∨ s.flag Reg.MAC_LINK_UP p.val = false) →
    exec (.txPauseSend p) s = .next s) ∧
  (∀ (p : Fin 32) (s : State), ((s.mac p.val).xoff = false ∧ 16 * s.fifoFill p.val < s.xoff p.val * fifoSize p.val) ∨
    ((s.mac p.val).xoff = true ∧ s.xon p.val * fifoSize p.val ≤ 16 * s.fifoFill p.val) → exec (.txPauseSend p) s = .next s) ∧
  (∀ (p : Fin 32) (s : State), s.txPause p.val = true → (s.mac p.val).xoff = true → s.xon p.val * fifoSize p.val ≤ 16 * s.fifoFill p.val →
    s.flag Reg.MAC_LINK_UP p.val = true → exec (.txPauseRepeat p) s = .next (s.sendPause p.val 0xFFFF)) ∧
  (∀ (p : Fin 32) (s : State), (s.txPause p.val = false ∨ (s.mac p.val).xoff = false ∨ s.flag Reg.MAC_LINK_UP p.val = false) →
    exec (.txPauseRepeat p) s = .next s)

/-- The T1S commands and TEST_MODE_SET (R225, R228–R232).  The model's choices: a follower without a first beacon (assumption log 56),
events that are not due (1). -/
def Obligations.T1sPortsFollowTheirRequests : Prop :=
  (∀ (m : Master) (t : Fin 8) (st : Fin 4) (z s : State), s = z.sent m → s.grants m (0x108 + t.val) →
    exec (.t1sStateRequest m t st) z = .next (s.t1sRequest (24 + t.val) st.val)) ∧
  (∀ (t : Fin 8) (s : State), s.pllRuns = true → bit s.pwr.powered 15 = true → s.pageHeld (0x108 + t.val) = false →
    exec (.t1sStateReached t) s = .next (s.t1sEnter (24 + t.val) (s.get Reg.T1S_CTRL_REQ t.val))) ∧
  (∀ (t : Fin 8) (s : State), s.follower (24 + t.val) = true → s.pllRuns = true → s.flag Reg.T1S_STAT_PLCA_ACTIVE t.val = true →
    exec (.plcaBeaconTimeout t) s =
      .next ((s.put Reg.T1S_STAT_PLCA_ACTIVE 0 t.val).raise Reg.T1S_IRQ_PLCA_LOST t.val)) ∧
  (∀ (t : Fin 8) (s : State), s.pllRuns = true → s.get Reg.T1S_STAT_STATE t.val < 2 → (s.inc Reg.T1S_BEACONS_COUNT 1 t.val).follower (24 + t.val) = true →
    (s.inc Reg.T1S_BEACONS_COUNT 1 t.val).flag Reg.T1S_STAT_PLCA_ACTIVE t.val = false → exec (.plcaBeaconRx t) s =
      .next (((s.inc Reg.T1S_BEACONS_COUNT 1 t.val).put Reg.T1S_STAT_PLCA_ACTIVE 1 t.val).raise Reg.T1S_IRQ_PLCA_BACK t.val)) ∧
  (∀ (t : Fin 8) (s : State) (c : Copy), s.pllRuns = true → s.clr.copies.find? (fun c => c.port == 24 + t.val && c.st == .sending) = some c →
    (s.mac (24 + t.val)).attempts < 15 → exec (.t1sCollision t) s = .next ((s.inc Reg.T1S_COLL_COUNT 1 t.val).macSet (24 + t.val)
      { s.mac (24 + t.val) with attempts := (s.mac (24 + t.val)).attempts + 1 })) ∧
  (∀ (t : Fin 8) (s : State) (c : Copy), s.pllRuns = true → s.clr.copies.find? (fun c => c.port == 24 + t.val && c.st == .sending) = some c →
    15 ≤ (s.mac (24 + t.val)).attempts → ∃ u : State, exec (.t1sCollision t) s = .next ((u.rmCopy c.id).reap) ∧
    u.get Reg.T1S_IRQ_XCOLL t.val = 1 ∧ (u.mac (24 + t.val)).attempts = 0) ∧
  (∀ (t : Fin 8) (s : State), s.pllRuns = false → exec (.t1sStateReached t) s = .next s ∧
    exec (.plcaBeaconRx t) s = .next s ∧ exec (.plcaBeaconTimeout t) s = .next s ∧ exec (.t1sCollision t) s = .next s) ∧
  (∀ (m : Master) (t : Fin 8) (z s : State), s = z.sent m → s.grants m (0x108 + t.val) → s.get Reg.T1S_STAT_STATE t.val = 2 →
    exec (.cableGo m t) z = .next (s.put Reg.T1S_STAT_CABLE 1 t.val)) ∧
  (∀ (m : Master) (t : Fin 8) (z s : State), s = z.sent m → s.grants m (0x108 + t.val) → s.get Reg.T1S_STAT_STATE t.val ≠ 2 →
    exec (.cableGo m t) z = .next (s.err (0x108 + t.val) 0x080 ecSTATE m)) ∧
  (∀ (t r : Fin 8) (s : State), s.get Reg.T1S_STAT_CABLE t.val = 1 → exec (.cableCheckDone t r) s =
    .next ((s.put Reg.T1S_STAT_CABLE r.val t.val).raise Reg.T1S_IRQ_CABLE_DONE t.val)) ∧
  (∀ (m : Master) (p : Fin 32) (l : Nat) (z s : State), s = z.sent m → s.grants m (0x0D0 + p.val) →
    exec (.testModeSet m p (.mac l)) z = .next ((s.put Reg.MAC_TEST_LOOP l p.val).testSync p.val)) ∧
  (∀ (m : Master) (p : Fin 32) (l tx rx : Nat) (z s : State), s = z.sent m → s.grants m (0x0F0 + p.val) → p.val < 24 →
    exec (.testModeSet m p (.sds l tx rx)) z = .next ((((s.put Reg.SDS_TEST_LOOP l p.val).put Reg.SDS_TEST_PRBS_TX tx p.val).put
      Reg.SDS_TEST_PRBS_RX rx p.val).testSync p.val))



/-! ### The Awl, CAN and LIN (chapter 10) -/

/-- CAN_FRAME_RX and CAN_FIFO_ERROR (R238, R239, R265, R366).  RESTRICTED moves no error counter.  The model's choices: how REC falls, which is ISO 11898-1's (assumption log 12), the start of a frame and the first activity that ends an integration (49), and that a controller which takes no frame changes nothing (1). -/
def Obligations.CanFramesAreReceived : Prop :=
  (∀ (c : Fin 64) (w : CanWire) (ago : Nat) (s v u : State), (s.get Reg.CAN_STAT_STATE c.val = csRESTRICTED ∨ s.canLive c.val = true) →
    s.canTakes c.val w.fmt = true →
    v = (if s.get Reg.CAN_STAT_STATE c.val = csRESTRICTED then s else (s.recDown c.val).canConfine c.val) →
    u = (v.validTraffic (v.clusterOfCan c.val)).kaSeen (.can c.val w.id w.ide) → (u.can c.val).rx.length < 64 →
    (u.can c.val).rxBytes + (if w.rtr then 0 else w.data.length) ≤ 16384 →
    exec (.canFrameRx c w ago) s = .next ((u.canSet c.val { u.can c.val with rx := (u.can c.val).rx ++ [⟨c.val, w.fmt, w.id, w.ide, w.rtr, w.brs, w.esi, w.sec, w.sdt, w.vcid, w.af, w.data, u.get Reg.LST_EPOCH_CUR, u.now, u.dom 0 - ago, u.dom 1 - ago, false⟩] }).inc Reg.CAN_RX_OK_COUNT 1 c.val)) ∧
  (∀ (c : Fin 64) (w : CanWire) (ago : Nat) (s v u : State), (s.get Reg.CAN_STAT_STATE c.val = csRESTRICTED ∨ s.canLive c.val = true) →
    s.canTakes c.val w.fmt = true →
    v = (if s.get Reg.CAN_STAT_STATE c.val = csRESTRICTED then s else (s.recDown c.val).canConfine c.val) →
    u = (v.validTraffic (v.clusterOfCan c.val)).kaSeen (.can c.val w.id w.ide) →
    (64 ≤ (u.can c.val).rx.length ∨ 16384 < (u.can c.val).rxBytes + (if w.rtr then 0 else w.data.length)) →
    exec (.canFrameRx c w ago) s = .next ((u.inc Reg.CAN_RX_OVF_COUNT 1 c.val).raise Reg.CAN_IRQ_RX_OVF c.val)) ∧
  (∀ (c : Fin 64) (s : State), s.get Reg.CAN_STAT_REC c.val ≤ 127 →
    s.recDown c.val = s.put Reg.CAN_STAT_REC (s.get Reg.CAN_STAT_REC c.val - 1) c.val) ∧
  (∀ (c : Fin 64) (s : State), 127 < s.get Reg.CAN_STAT_REC c.val → 119 ≤ (s.recDown c.val).get Reg.CAN_STAT_REC c.val ∧
    (s.recDown c.val).get Reg.CAN_STAT_REC c.val ≤ 127) ∧
  (∀ (c : Fin 64) (s : State), s.canLive c.val = true → (s.canConfine c.val).get Reg.CAN_STAT_STATE c.val =
    (if 127 < s.get Reg.CAN_STAT_TEC c.val ∨ 127 < s.get Reg.CAN_STAT_REC c.val then csPASSIVE else csACTIVE)) ∧
  (∀ (c : Fin 64) (w : CanWire) (ago : Nat) (s : State), (s.get Reg.CAN_STAT_STATE c.val = csOFF ∨
    s.get Reg.CAN_STAT_STATE c.val = csBUSOFF) → exec (.canFrameRx c w ago) s = .next s) ∧
  (∀ (c : Fin 64) (w : CanWire) (ago : Nat) (s : State), s.canLive c.val = true → s.canTakes c.val w.fmt = false →
    exec (.canFrameRx c w ago) s = .next (s.put Reg.CAN_STAT_STATE csINTEGRATING c.val)) ∧
  (∀ (c : Fin 64) (w : CanWire) (ago : Nat) (s : State), s.get Reg.CAN_STAT_STATE c.val = csRESTRICTED →
    s.canTakes c.val w.fmt = false → exec (.canFrameRx c w ago) s = .next s) ∧
  (∀ (c : Fin 64) (k : Nat) (s : State), exec (.canFifoError c k) s = .next ((((s.canSet c.val { s.can c.val with
    rx := (s.can c.val).rx.eraseIdx k }).inc Reg.CAN_RX_OVF_COUNT 1 c.val).raise Reg.CAN_IRQ_RX_OVF c.val).fault
      (0x120 + c.val) 0x1E01))

/-- CAN_TX_START, CAN_TX_DONE, CAN_BUS_OFF, REC_DELAY_EXPIRY, CAN_RECOVER, CAN_RECOVERED, CAN_SLOT_START and CAN_SLOT_WINDOW_CLOSE (R240, R241, R258, R259).  The model's choices: the counting of TEC, which is ISO 11898-1's (assumption log 12), a window that opens only for a slot with a frame and how buffered frames are held (49), and that an event which is not due changes nothing (1). -/
def Obligations.CanChannelsSendRecoverAndSlot : Prop :=
  (∀ (c : Fin 64) (s u : State), s.canLive c.val = true → (s.can c.val).sending = .idle →
    u = (s.canConfine c.val).ageBuffers c.val → (u.can c.val).ka.isSome = true →
    exec (.canTxStart c) s = .next ((u.canSet c.val { u.can c.val with sending := .keepAlive }).stampCan c.val)) ∧
  (∀ (c : Fin 64) (s : State), (s.canLive c.val = false ∨ (s.can c.val).sending ≠ .idle) → exec (.canTxStart c) s = .next s) ∧
  (∀ (c : Fin 64) (s : State), (s.can c.val).sending ≠ .idle →
    exec (.canTxDone c .ok) s = .next (((s.txSent c.val).canConfine c.val).canSettle c.val) ∧
    exec (.canTxDone c .lostArbitration) s = .next ((s.txFailed c.val).canSettle c.val) ∧
    exec (.canTxDone c .error) s = .next (((((s.txFailed c.val).inc Reg.CAN_ERR_FRAMES_COUNT 1 c.val).put Reg.CAN_STAT_TEC
      (min 255 (((s.txFailed c.val).inc Reg.CAN_ERR_FRAMES_COUNT 1 c.val).get Reg.CAN_STAT_TEC c.val + 8)) c.val).canConfine c.val).canSettle c.val)) ∧
  (∀ (c : Fin 64) (s : State), s.canLive c.val = true → (s.can c.val).due = false → ∃ t, exec (.canBusOff c) s = .next t ∧
    t.get Reg.CAN_STAT_STATE c.val = 4 ∧ t.get Reg.CAN_IRQ_BUS_OFF c.val = 1 ∧
    t.get Reg.CAN_BUSOFFS_COUNT c.val = min (2 ^ Reg.CAN_BUSOFFS_COUNT.width - 1) (s.get Reg.CAN_BUSOFFS_COUNT c.val + 1) ∧
    (t.can c.val).recovering = false ∧ (t.can c.val).waiting = s.canFlag c.val 4 ∧ (t.can c.val).sending = .idle ∧
    t.clr = s.clr ∧ t.lst = s.lst ∧ t.tim = s.tim) ∧
  (∀ (c : Fin 64) (s : State), (s.can c.val).waiting = true → s.get Reg.CAN_STAT_STATE c.val = 4 →
    exec (.recDelayExpiry c) s = .next (s.canSet c.val { s.can c.val with recovering := true, waiting := false })) ∧
  (∀ (m : Master) (c : Fin 64) (z s : State), s = z.sent m → s.grants m (0x120 + c.val) → s.get Reg.CAN_STAT_STATE c.val = 4 →
    exec (.canRecover m c) z = .next (s.canSet c.val { s.can c.val with recovering := true, waiting := false })) ∧
  (∀ (m : Master) (c : Fin 64) (z s : State), s = z.sent m → s.grants m (0x120 + c.val) → s.get Reg.CAN_STAT_STATE c.val ≠ 4 →
    exec (.canRecover m c) z = .next s) ∧
  (∀ (c : Fin 64) (s : State), (s.can c.val).recovering = true → s.get Reg.CAN_STAT_STATE c.val = 4 →
    exec (.canRecovered c) s = .next (((((s.canSet c.val { s.can c.val with recovering := false }).put Reg.CAN_STAT_TEC 0 c.val).put
      Reg.CAN_STAT_REC 0 c.val).put Reg.CAN_STAT_STATE (if (s.can c.val).hold = 1 then 5 else 2) c.val).raise Reg.CAN_IRQ_RECOVERED c.val)) ∧
  (∀ (c : Fin 64) (n : Fin 256) (m : Msg) (s : State), s.slotRuns c.val n.val = true →
    AMap.find (s.can c.val).slots n.val = some m → s.now - m.at_ ≤ (s.refLace c.val).oper.cycle →
    exec (.canSlotStart c n) s = .next (s.canSet c.val { s.can c.val with windows := s.slotQueue c.val n.val ((s.can c.val).windows.filter (· != n.val)) })) ∧
  (∀ (c : Fin 64) (n : Fin 256) (m : Msg) (s : State), s.slotRuns c.val n.val = true →
    AMap.find (s.can c.val).slots n.val = some m → (s.refLace c.val).oper.cycle < s.now - m.at_ →
    exec (.canSlotStart c n) s = .next ((s.canSet c.val { s.can c.val with slots := AMap.del (s.can c.val).slots n.val }).inc Reg.CAN_AGED_COUNT 1 c.val)) ∧
  (∀ (c : Fin 64) (n : Fin 256) (s : State), (s.slotRuns c.val n.val = false ∨ AMap.find (s.can c.val).slots n.val = none) →
    exec (.canSlotStart c n) s = .next s) ∧
  (∀ (c : Fin 64) (n : Fin 256) (s : State), (s.can c.val).windows.contains n.val = true → ∃ u : State,
    u = s.canSet c.val { s.can c.val with windows := (s.can c.val).windows.filter (· != n.val), slots := AMap.del (s.can c.val).slots n.val } ∧
    exec (.canSlotWindowClose c n) s = .next (if (AMap.find (s.can c.val).slots n.val).isSome = true
      then (u.inc Reg.CAN_SLOT_MISSED_COUNT 1 c.val).raise Reg.CAN_IRQ_SLOT_MISSED c.val else u)) ∧
  (∀ (c : Fin 64) (n : Fin 256) (s : State), (s.can c.val).windows.contains n.val = false →
    exec (.canSlotWindowClose c n) s = .next s)

/-- LIN_HEADER_RX, LIN_RESPONSE_RX, LIN_TABLE_WRITE, LIN_ENTRY_START, LIN_WAKE_TX, LIN_WAKE_REPEAT and LIN_WAKE_RX (R260–R263, R366, R368).  The model's choices: what counts as which error and when NO_RESP is judged (assumption log 50), and that an event which is not due changes nothing (1). -/
def Obligations.LinChannelsScheduleAndWake : Prop :=
  (∀ (l : Fin 16) (k : Fin 64) (r : Nat) (b : Bool) (s : State), s.linRuns l.val = true → s.linCommander l.val = false →
    (14 * s.linRate l.val < 100 * (r - s.linRate l.val) ∨ 14 * s.linRate l.val < 100 * (s.linRate l.val - r)) →
    exec (.linHeaderRx l k r b) s = .next ((s.inc Reg.LIN_SYNC_ERR_COUNT 1 l.val).raise Reg.LIN_IRQ_SYNC_ERR l.val)) ∧
  (∀ (l : Fin 16) (k : Fin 64) (r : Nat) (b : Bool) (s u : State), s.linRuns l.val = true → s.linCommander l.val = false →
    100 * (r - s.linRate l.val) ≤ 14 * s.linRate l.val → 100 * (s.linRate l.val - r) ≤ 14 * s.linRate l.val →
    u = ((s.put Reg.LIN_STAT_RATE r l.val).linSet l.val { (s.put Reg.LIN_STAT_RATE r l.val).lin l.val with wakes := 0, expect := none, event := none }) →
    ((u.validTraffic (u.clusterOfLin l.val)).kaSeen (.linHeader l.val)).linPub l.val k.val = false → exec (.linHeaderRx l k r b) s =
      .next (((u.validTraffic (u.clusterOfLin l.val)).kaSeen (.linHeader l.val)).linSet l.val
        { ((u.validTraffic (u.clusterOfLin l.val)).kaSeen (.linHeader l.val)).lin l.val with expect := some k.val })) ∧
  (∀ (l : Fin 16) (d : List Byte) (k : Nat) (s u : State), (s.lin l.val).expect = some k →
    u = s.linSet l.val { s.lin l.val with expect := none, event := none } → d.length = u.linLen l.val k →
    exec (.linResponseRx l (.ok d)) s = .next (((u.inc Reg.LIN_RX_OK_COUNT 1 l.val).kaSeen
      (.linResponse l.val k)).linRoute l.val k d)) ∧
  (∀ (l : Fin 16) (k : Nat) (s u : State), (s.lin l.val).expect = some k →
    u = s.linSet l.val { s.lin l.val with expect := none, event := none } →
    exec (.linResponseRx l .checksum) s = .next ((u.inc Reg.LIN_CHK_ERR_COUNT 1 l.val).raise Reg.LIN_IRQ_CHK_ERR l.val) ∧
    exec (.linResponseRx l .bitError) s = .next (u.inc Reg.LIN_BIT_ERR_COUNT 1 l.val)) ∧
  (∀ (l : Fin 16) (e : LinEnd) (s : State), (s.lin l.val).expect = none → exec (.linResponseRx l e) s = .next s) ∧
  (∀ (m : Master) (l : Fin 16) (t : Fin 8) (z s : State), s = z.sent m → s.grants m (0x160 + l.val) → s.get Reg.LIN_CTRL_TABLE l.val ≠ t.val →
    exec (.linTableWrite m l t) z = .next ((s.put Reg.LIN_CTRL_TABLE t.val l.val).linSet l.val { (s.put Reg.LIN_CTRL_TABLE t.val l.val).lin l.val with req := some t.val })) ∧
  (∀ (l : Fin 16) (b : Bool) (s : State), (s.linRuns l.val = false ∨ s.linCommander l.val = false) →
    exec (.linEntryStart l b) s = .next (s.linSync l.val)) ∧
  (∀ (l : Fin 16) (s v w : State) (n : (Nat × Nat) × List (Nat × Nat)), s.linRuns l.val = true → s.linCommander l.val = true →
    (s.lin l.val).req = none → (s.lin l.val).expect = none → n = s.linNext l.val → n.1.2 ≠ 0 →
    (s.linEntry l.val n.1.1 n.1.2).2.1 = 0 → (s.linEntry l.val n.1.1 n.1.2).2.2.2 ≠ 0 →
    v = ((s.put Reg.LIN_STAT_TABLE n.1.1 l.val).put Reg.LIN_STAT_ENTRY n.1.2 l.val).linSet l.val
      { s.lin l.val with next := n.1.2 + 1, back := n.2, wakes := 0 } →
    v.linPub l.val (s.linEntry l.val n.1.1 n.1.2).1 = false → w = v.validTraffic (v.clusterOfLin l.val) →
    exec (.linEntryStart l true) s = .next ((v.inc Reg.LIN_BIT_ERR_COUNT 1 l.val).linSync l.val) ∧
    (w.linPub l.val (s.linEntry l.val n.1.1 n.1.2).1 = false → exec (.linEntryStart l false) s =
      .next (((w.inc Reg.LIN_TX_OK_COUNT 1 l.val).linSet l.val
        { w.lin l.val with expect := some (s.linEntry l.val n.1.1 n.1.2).1, event := none }).linSync l.val))) ∧
  (∀ (m : Master) (l : Fin 16) (z s : State), s = z.sent m → s.grants m (0x160 + l.val) → s.get Reg.LIN_STAT_STATE l.val ≠ 0 →
    exec (.linWakeTx m l) z = .next (s.linSet l.val { s.lin l.val with wakes := 1 })) ∧
  (∀ (m : Master) (l : Fin 16) (z s : State), s = z.sent m → s.grants m (0x160 + l.val) → s.get Reg.LIN_STAT_STATE l.val = 0 →
    exec (.linWakeTx m l) z = .next s) ∧
  (∀ (l : Fin 16) (s : State), 1 ≤ (s.lin l.val).wakes → (s.lin l.val).wakes < 3 →
    exec (.linWakeRepeat l) s = .next (s.linSet l.val { s.lin l.val with wakes := (s.lin l.val).wakes + 1 })) ∧
  (∀ (l : Fin 16) (s : State), ((s.lin l.val).wakes = 0 ∨ 3 ≤ (s.lin l.val).wakes) → exec (.linWakeRepeat l) s = .next s) ∧
  (∀ (l : Fin 16) (s : State), s.linRuns l.val = true → exec (.linWakeRx l) s = .next (s.raise Reg.LIN_IRQ_WAKE_RX l.val)) ∧
  (∀ (l : Fin 16) (s : State), s.linRuns l.val = false → exec (.linWakeRx l) s = .next s)

/-- AWL_ACCEPT, AP_FRAME_TO_AWL, STREAM_HOLD_EXPIRY and AWL_WATCHDOG (R237, R245, R254, R265).  The model's choices: the first turn (assumption log 18), the message in progress that a watchdog loses (51), and that an event which is not due changes nothing (1). -/
def Obligations.EnginesTakeTheirMessages : Prop :=
  (∀ (e : Fin 16) (s v u : State) (m : Msg), s.awlRuns e.val = true → s.takeTurn e.val = some (.msg m, v) →
    u = v.incWrap Reg.AWL_MSGS_FULL 1 e.val → exec (.awlAccept e) s =
      .next (u.routeMessage e.val { m with epoch := u.get Reg.LST_EPOCH_CUR, at_ := u.now }).clusterSync) ∧
  (∀ (e : Fin 16) (s v u : State) (f : ApFrame), s.awlRuns e.val = true → s.takeTurn e.val = some (.eth f, v) →
    u = v.incWrap Reg.AWL_MSGS_FULL 1 e.val → exec (.awlAccept e) s =
      .next (u.chain e.val f.route 8 (.eth f) (fun s r => s.routeEth e.val r f)).clusterSync) ∧
  (∀ (e : Fin 16) (s : State), (s.awlRuns e.val = false ∨ s.takeTurn e.val = none) →
    exec (.awlAccept e) s = .next s.clusterSync) ∧
  (∀ (a : Fin 4) (z s : State) (c : Copy) (f : Frame), s = z.fabNow →
    s.clr.copies.find? (fun c => c.port == 33 + a.val && c.st == .sending) = some c →
    s.frame c.frame = some f → f.whole = true → s.readsWait c.id = 0 →
    (s.apQueue (f.route.getD 0 / 1024)).length < 256 → exec (.apFrameToAwl a) z =
      .next (((s.apQueueSet (f.route.getD 0 / 1024) (s.apQueue (f.route.getD 0 / 1024) ++
        [⟨s.copyBody c f, f.rxLen, c.epoch, f.at_, f.route.getD 0, f.dei⟩])).rmCopy c.id).reap)) ∧
  (∀ (a : Fin 4) (z s : State) (c : Copy) (f : Frame), s = z.fabNow →
    s.clr.copies.find? (fun c => c.port == 33 + a.val && c.st == .sending) = some c →
    s.frame c.frame = some f → f.whole = true → s.readsWait c.id = 0 →
    256 ≤ (s.apQueue (f.route.getD 0 / 1024)).length → exec (.apFrameToAwl a) z =
      .next ((((s.inc Reg.AWL_OVERLOAD_COUNT 1 (f.route.getD 0 / 1024)).raise Reg.AWL_IRQ_OVERLOAD (f.route.getD 0 / 1024)).rmCopy c.id).reap)) ∧
  (∀ (a : Fin 4) (z s : State) (c : Copy) (f : Frame), s = z.fabNow →
    s.clr.copies.find? (fun c => c.port == 33 + a.val && c.st == .sending) = some c →
    s.frame c.frame = some f → (f.whole = false ∨ s.readsWait c.id ≠ 0) → exec (.apFrameToAwl a) z = .next s) ∧
  (∀ (k : Fin 512) (s : State), (s.stream k.val).msgs = [] → exec (.streamHoldExpiry k) s = .next s) ∧
  (∀ (k : Fin 512) (s : State) (m : Msg) (r : List Msg) (b : List Byte), (s.stream k.val).msgs = m :: r →
    (s.draw 65536).2.streamFrame k.val ((m :: r).map (fun x => (x.sdt, x))) (s.draw 65536).1 = some b → ∃ (u : State) (q : Nat),
    u = (s.draw 65536).2.streamSet k.val ⟨[], ((s.stream k.val).seq + 1) % q⟩ ∧ (q = 256 ∨ q = 65536) ∧
    exec (.streamHoldExpiry k) s = .next (if u.inService (33 + k.val / 128) = true
      then (u.handOver (33 + k.val / 128) m.epoch b id).takeSlots (33 + k.val / 128) else u.apRefused (33 + k.val / 128))) ∧
  (∀ (e : Fin 16) (s v u : State) (x : AwlIn), s.awlRuns e.val = true → s.takeTurn e.val = some (x, v) →
    u = (v.inc Reg.AWL_OVERLOAD_COUNT 1 e.val).raise Reg.AWL_IRQ_OVERLOAD e.val → exec (.awlWatchdog e) s =
      .next (((u.put Reg.AWL_STAT_WDOGS (min 255 (u.get Reg.AWL_STAT_WDOGS e.val + 1)) e.val).raise Reg.AWL_IRQ_WDOG e.val).fault
        (0x110 + e.val) 0x1D01))


/-! ### Toecap (chapter 11) -/

/-- TOECAP_START, KEY_RESTORE_DONE, KEY_LOAD, KEY_ERASE, KEY_LOAD_DONE and TKM_LOCK (R270–R274).  The model's choices: how Toecap becomes READY and what a load clears (assumption log 48), which keys unwrap which (91), and that an event which is not due changes nothing (1). -/
def Obligations.ToecapStartsAndLoadsKeys : Prop :=
  (∀ s : State, s.tcaLives = true → s.get Reg.TCA_STAT_STATE = 0 → bit s.pwr.tested 18 = true → s.get Reg.CGU_STAT_SDSREF = 2 →
    s.tca.locked = false → ∃ t, exec .toecapStart s = .next t ∧ t.get Reg.TCA_STAT_STATE = 1 ∧ t.get Reg.TCA_STAT_DRBG_OK = 1 ∧
    t.get Reg.TCA_STAT_RESTORING = b2n (!s.tca.kept.isEmpty) ∧ t.slot 0 0 = some ⟨true, false, kw0⟩ ∧ t.tca.kept = s.tca.kept ∧
    t.clr = s.clr ∧ t.lst = s.lst) ∧
  (∀ s : State, s.tcaLives = true → s.get Reg.TCA_STAT_STATE = 0 → bit s.pwr.tested 18 = true → s.get Reg.CGU_STAT_SDSREF = 2 →
    s.tca.locked = true → exec .toecapStart s = .next (s.put Reg.TCA_STAT_STATE 3)) ∧
  (∀ s : State, s.get Reg.TCA_STAT_STATE = 1 → exec .keyRestoreDone s = .next (((s.tcaSet (fun t =>
    { t with keys := t.kept.foldl (fun m c => AMap.ins m c.1 c.2) t.keys })).put Reg.TCA_STAT_RESTORING 0).put Reg.TCA_STAT_STATE 2)) ∧
  (∀ (m : Master) (k : Fin 2048) (cl : Fin 4) (l p : Bool) (w : Fin 16) (z s : State), s = z.sent m → s.grants m pgTKM → s.flag Reg.TKM_LD_STAT_BUSY = false →
    ∃ t, exec (.keyLoad m k cl l p w) z = .next t ∧ t.get Reg.TKM_LD_STAT_BUSY = 1 ∧ t.tca = { s.tca with op := 1 } ∧
    t.get Reg.TKM_LD_CTRL_INDEX = k.val ∧ t.get Reg.TKM_LD_CTRL_CLASS = cl.val ∧ t.get Reg.TKM_LD_CTRL_WRAP = w.val ∧
    t.get Reg.TKM_LD_CTRL_KLEN = b2n l ∧ t.get Reg.TKM_LD_CTRL_PLAIN = b2n p ∧ t.clr = s.clr ∧ t.lst = s.lst) ∧
  (∀ (m : Master) (k : Fin 2048) (cl : Fin 4) (l p : Bool) (w : Fin 16) (z s : State), s = z.sent m → s.grants m pgTKM → s.flag Reg.TKM_LD_STAT_BUSY = true →
    exec (.keyLoad m k cl l p w) z = .next (s.err pgTKM 0x084 ecBUSY m) ∧ exec (.keyErase m k cl) z = .next (s.err pgTKM 0x084 ecBUSY m)) ∧
  (∀ (m : Master) (k : Fin 2048) (cl : Fin 4) (z s : State), s = z.sent m → s.grants m pgTKM → s.flag Reg.TKM_LD_STAT_BUSY = false →
    ∃ t, exec (.keyErase m k cl) z = .next t ∧ t.get Reg.TKM_LD_STAT_BUSY = 1 ∧ t.tca = { s.tca with op := 2 } ∧
    t.get Reg.TKM_LD_CTRL_INDEX = k.val ∧ t.get Reg.TKM_LD_CTRL_CLASS = cl.val) ∧
  (∀ s : State, s.tca.op ≠ 0 → ∃ t, exec .keyLoadDone s = .next t ∧ t.get Reg.TKM_LD_STAT_BUSY = 0 ∧ t.tca.op = 0 ∧
    t.get Reg.TKM_LD_STAT_RESULT = s.ldResult.1 ∧
    (if s.ldResult.1 = 0 then t.get Reg.TKM_IRQ_LOAD_DONE = 1 else t.get Reg.TKM_IRQ_LOAD_ERR = 1) ∧
    (s.ldResult.1 ≠ 0 → t.tca.keys = s.tca.keys ∧ t.tca.kept = s.tca.kept ∧ t.tca.sas = s.tca.sas) ∧
    (∀ k, s.ldResult = (0, some k) → t.slot (s.get Reg.TKM_LD_CTRL_CLASS) (s.get Reg.TKM_LD_CTRL_INDEX) = some k) ∧
    (s.ldResult = (0, none) → t.slot (s.get Reg.TKM_LD_CTRL_CLASS) (s.get Reg.TKM_LD_CTRL_INDEX) = none)) ∧
  (∀ s : State, s.tca.op = 0 → exec .keyLoadDone s = .next s) ∧
  (∀ (m : Master) (z s : State), s = z.sent m → s.grants m pgTKM → exec (.tkmLock m) z = .next (s.put Reg.TKM_CTRL_LOCK 1))

/-- TOECAP_ALARM and DRBG_RESEED (R269, R289–R291).  An alarm of no source, or with PD18 off, is nothing (assumption log 1, the model's
choice). -/
def Obligations.AlarmsEraseTheKeysAndLock : Prop :=
  (∀ (c : Fin 64) (s u : State), bit s.pwr.powered 18 = true → c.val ≠ 0 → u = (if s.tcaReady = true then s.cryptoLost else s) → ∃ t, exec (.toecapAlarm c) s = .next t ∧
    t.tca.keys = [] ∧ t.tca.kept = [] ∧ t.tca.locked = true ∧ t.get Reg.TCA_STAT_STATE = 3 ∧ t.get Reg.TCA_STAT_DRBG_OK = 0 ∧
    t.get Reg.TCA_STAT_RESTORING = 0 ∧ t.get Reg.TKM_ALARM_CAUSE = Nat.lor (u.get Reg.TKM_ALARM_CAUSE) c.val % 64 ∧ t.tca.op = 0) ∧
  (∀ (c : Fin 64) (s : State), (bit s.pwr.powered 18 = false ∨ c.val = 0) → exec (.toecapAlarm c) s = .next s) ∧
  (∀ s : State, exec (.drbgReseed true) s = .next s) ∧
  (∀ s : State, exec (.drbgReseed false) s = exec (.toecapAlarm 32) s)

/-- TCA_EVT_READ, FV_READ, FV_WRITE, TCA_PORT_SNAPSHOT, TCA_PORT_CLEAR and KEY_SLOT_SNAPSHOT (R274, R287, R292).  The model's choices: that FV_READ and the selectors pass ownership and the page lock (assumption log 48), and what a read command keeps (62). -/
def Obligations.ToecapReadsAndFreshness : Prop :=
  (∀ (m : Master) (s : State) (k w : Nat) (r : List (Nat × Nat)), s.serves m pgTCA → s.tca.evt = (k, w) :: r →
    exec (.tcaEvtRead m) s = .next { s.tcaSet (fun t => { t with evt := r }) with
      rd := AMap.ins s.rd m.code (k % 2048 + w % 8 * 2 ^ 28 + 2 ^ 31) }) ∧
  (∀ (m : Master) (s : State), s.serves m pgTCA → s.tca.evt = [] →
    exec (.tcaEvtRead m) s = .next { s.tcaSet (fun t => { t with evtArmed := true }) with rd := AMap.ins s.rd m.code 0 }) ∧
  (∀ (m : Master) (z s : State), s = z.sent m → s.serves m pgTKM → exec (.fvRead m) z =
    .next ((s.put Reg.TKM_FV_LO_FV (s.fv (s.get Reg.TKM_FV_IDX_INDEX 0 0 m.code)) 0 0 m.code).put Reg.TKM_FV_HI_FV
      (s.fv (s.get Reg.TKM_FV_IDX_INDEX 0 0 m.code) / 2 ^ 32) 0 0 m.code)) ∧
  (∀ (m : Master) (z s : State), s = z.sent m → s.grants m pgTKM → s.flag Reg.TKM_CTRL_LOCK = true →
    s.get Reg.TKM_FV_LO_FV 0 0 m.code + s.get Reg.TKM_FV_HI_FV 0 0 m.code * 2 ^ 32 < s.fv (s.get Reg.TKM_FV_IDX_INDEX 0 0 m.code) →
    exec (.fvWrite m) z = .next (s.err pgTKM 0x12C ecSTATE m)) ∧
  (∀ (m : Master) (z s : State) (n v : Nat), s = z.sent m → s.grants m pgTKM → n = s.get Reg.TKM_FV_IDX_INDEX 0 0 m.code →
    v = s.get Reg.TKM_FV_LO_FV 0 0 m.code + s.get Reg.TKM_FV_HI_FV 0 0 m.code * 2 ^ 32 →
    (s.flag Reg.TKM_CTRL_LOCK = false ∨ s.fv n ≤ v) → ∃ u : State, exec (.fvWrite m) z = .next ((u.fvSet n v).fvEvents n v) ∧
    u.regs = s.regs ∧ u.clr = s.clr ∧ u.tca.keys = s.tca.keys ∧ u.tca.fv = s.tca.fv) ∧
  (∀ (m : Master) (p : Fin 32) (z s : State), s = z.sent m → s.serves m pgTCA → p.val < 24 → ∃ t, exec (.tcaPortSnapshot m p) z = .next t ∧
    t.get Reg.TCA_TX_PROTECTED_COUNT 0 0 m.code = AMap.get cellDflt s.tca.counts (p.val * 16) % 2 ^ Reg.TCA_TX_PROTECTED_COUNT.width ∧
    t.get Reg.TCA_NOTREADY_DROPS_COUNT 0 0 m.code = AMap.get cellDflt s.tca.counts (p.val * 16 + 10) % 2 ^ Reg.TCA_NOTREADY_DROPS_COUNT.width ∧
    t.tca = s.tca) ∧
  (∀ (m : Master) (p : Fin 32) (z s : State), s = z.sent m → s.grants m pgTCA → p.val < 24 → ∃ t, exec (.tcaPortClear m p) z = .next t ∧
    t.tca = { s.tca with counts := s.tca.counts.filter (fun c => c.1 / 16 != p.val) }) ∧
  (∀ (m : Master) (p : Fin 32) (z s : State), s = z.sent m → s.grants m pgTCA → 24 ≤ p.val → exec (.tcaPortClear m p) z =
    .next (s.err pgTCA 0x0A0 ecINVALID m)) ∧
  (∀ (m : Master) (k : Fin 2048) (z s : State), s = z.sent m → s.serves m pgTKM → ∃ t, exec (.keySlotSnapshot m k 2) z = .next t ∧
    t.get Reg.TKM_SEL_STAT_PRESENT 0 0 m.code = b2n (s.slot 2 k.val).isSome ∧ t.tca = s.tca)


/-! ### The host interface and the sideband (chapters 12, 13) -/

/-- PCIE_READ, PCIE_WRITE_POSTED, PCIE_WRITE_CONFIRMED, READ_ANSWER, READ_TIMEOUT, WRITE_ACK and WRITE_TIMEOUT (R298–R302, R414).  The model's choices: which write is of which kind (assumption log 23), what is withheld, and which request an event acts on (24), whether one that timed out has taken effect (26, a free value), and that a request whose turn has not come is not answered (1). -/
def Obligations.TheWeltAcceptsAndAnswers : Prop :=
  (∀ (a n t : Nat) (s : State), s.flag Reg.WLT_STAT_LINK_UP = true → s.wlt.held = [] →
    s.wlt.flight.any HostReq.isConfirmed = false → s.freeTag = some t → exec (.pcieRead a n) s = .next { s with
      wlt := { s.wlt with flight := s.wlt.flight ++ [.read t a n], held := [] } }) ∧
  (∀ (a n : Nat) (s : State), s.flag Reg.WLT_STAT_LINK_UP = true → s.wlt.flight.any HostReq.isConfirmed = true →
    exec (.pcieRead a n) s = .next { s with wlt := { s.wlt with held := s.wlt.held ++ [.read 0 a n] } }) ∧
  (∀ (a n : Nat) (bs : List Byte) (s : State), s.flag Reg.WLT_STAT_LINK_UP = false → exec (.pcieRead a n) s = .next s ∧
    exec (.pcieWritePosted a bs) s = .next s ∧ exec (.pcieWriteConfirmed a bs) s = .next s) ∧
  (∀ (a : Nat) (bs : List Byte) (s : State) (q : Nat), s.flag Reg.WLT_STAT_LINK_UP = true → s.wlt.held = [] →
    s.wlt.flight.any HostReq.isConfirmed = false → q = (s.get Reg.WLT_WR_SEQ_SEQ + 1) % 2 ^ 32 →
    exec (if s.confirmed a = true then .pcieWriteConfirmed a bs else .pcieWritePosted a bs) s =
      .next { s.put Reg.WLT_WR_SEQ_SEQ q with
        wlt := { s.wlt with flight := s.wlt.flight ++ [.write ⟨a, firstBE a bs.length, bs, q, s.confirmed a⟩], held := [] } } ∧
    exec (if s.confirmed a = true then .pcieWritePosted a bs else .pcieWriteConfirmed a bs) s = .next s) ∧
  (∀ (tag : Fin 64) (x a n : Nat) (s t : State) (bs : List Byte), s.weltTurn (HostReq.hasTag tag.val) = some (.read x a n) →
    s.busRead .host a n = (none, bs, t) → exec (.readAnswer tag false) s =
      .next ((t.complete tag.val bs 0).weltEnd (HostReq.hasTag tag.val))) ∧
  (∀ (tag : Fin 64) (x a n : Nat) (s t : State) (e : AccErr) (bs : List Byte),
    s.weltTurn (HostReq.hasTag tag.val) = some (.read x a n) → s.busRead .host a n = (some e, bs, t) →
    exec (.readAnswer tag false) s = .next (((t.complete tag.val [] e.code).readFail a e.code).weltEnd (HostReq.hasTag tag.val)) ∧
    exec (.readAnswer tag true) s = .next (((s.complete tag.val [] 8).readFail a 8).weltEnd (HostReq.hasTag tag.val))) ∧
  (∀ (tag : Fin 64) (x a n : Nat) (s : State), s.weltTurn (HostReq.hasTag tag.val) = some (.read x a n) → ∃ u : State,
    (u = (s.draw 2).2 ∨ u = ((s.draw 2).2.busRead .host a n).2.2) ∧ exec (.readTimeout tag) s = .next
      (((((u.complete tag.val [] 7).readFail a 7).inc Reg.WLT_RD_TIMEOUTS_COUNT).raise Reg.WLT_IRQ_RD_TIMEOUT).weltEnd
        (HostReq.hasTag tag.val))) ∧
  (∀ (n : Nat) (s : State) (w : HostWrite), s.weltTurn (HostReq.hasSeq n) = some (.write w) →
    exec (.writeAck n true) s = .next ((s.perr w 8).weltEnd (HostReq.hasSeq n)).dueReset ∧
    ((s.busWrite .host w.addr w.data).1 = none →
      exec (.writeAck n false) s = .next ((s.busWrite .host w.addr w.data).2.weltEnd (HostReq.hasSeq n)).dueReset) ∧
    (∀ e, (s.busWrite .host w.addr w.data).1 = some e →
      exec (.writeAck n false) s = .next (((s.busWrite .host w.addr w.data).2.perr w e.code).weltEnd (HostReq.hasSeq n)).dueReset)) ∧
  (∀ (n : Nat) (s : State) (w : HostWrite), s.weltTurn (HostReq.hasSeq n) = some (.write w) → ∃ u : State,
    (u = (s.draw 2).2 ∨ u = ((s.draw 2).2.busWrite .host w.addr w.data).2) ∧
    exec (.writeTimeout n) s = .next ((u.perr w 7).weltEnd (HostReq.hasSeq n)).dueReset) ∧
  (∀ s : State, s.wdg.resetDue = false → s.dueReset = s) ∧
  (∀ s : State, s.wdg.resetDue = true →
    s.dueReset = { (s.wdgSet (fun w => { w with resetDue := false })).warmReset 4 0 true with sbResp := s.sbResp }) ∧
  (∀ (tag : Fin 64) (b : Bool) (n : Nat) (s : State), s.weltTurn (HostReq.hasTag tag.val) = none → s.weltTurn (HostReq.hasSeq n) = none →
    exec (.readAnswer tag b) s = .next s ∧ exec (.readTimeout tag) s = .next s ∧ exec (.writeAck n b) s = .next s ∧
    exec (.writeTimeout n) s = .next s)

/-- PCIE_LINK_UP, PCIE_LINK_DOWN, PERR_ACK and OWNER_WRITE (R294, R302, R304).  The model's choices: what a link-down leaves of the requests (assumption log 24), and that a link which does not fit does not come up (1). -/
def Obligations.TheLinkTheLogAndOwnership : Prop :=
  (∀ (w v : Fin 8) (b : Bool) (s : State), bit s.pwr.powered 2 = true → bit s.pwr.tested 2 = true →
    (w.val = 1 ∨ w.val = 2 ∨ w.val = 4) → 1 ≤ v.val → v.val ≤ 4 → ∃ u : State,
    u = (((s.put Reg.WLT_STAT_LINK_UP 1).put Reg.WLT_STAT_WIDTH w.val).put Reg.WLT_STAT_SPEED v.val).put Reg.WLT_STAT_BME (b2n b) ∧
    exec (.pcieLinkUp w v b) s = .next (u.portSync 32)) ∧
  (∀ (w v : Fin 8) (b : Bool) (s : State), (bit s.pwr.powered 2 = false ∨ bit s.pwr.tested 2 = false ∨ linkFits w.val v.val = false) →
    exec (.pcieLinkUp w v b) s = .next s) ∧
  (∀ s : State, bit s.pwr.powered 2 = true → s.flag Reg.WLT_STAT_LINK_UP = true →
    exec .pcieLinkDown s = .next ((s.hostLost.raise Reg.WLT_IRQ_LINK_DOWN).portSync 32) ∧ s.hostLost.perrs = [] ∧
    s.hostLost.wlt.held = [] ∧ (∀ q ∈ s.hostLost.wlt.flight, q.isWrite = true) ∧ (∀ q ∈ s.wlt.flight, q.isWrite = true → q ∈ s.hostLost.wlt.flight) ∧
    s.hostLost.hdm.wb = []) ∧
  (∀ s : State, bit s.pwr.powered 2 = true → s.flag Reg.WLT_STAT_LINK_UP = false →
    exec .pcieLinkDown s = .next (s.hostLost.portSync 32)) ∧
  (∀ s : State, bit s.pwr.powered 2 = false → exec .pcieLinkDown s = .next s) ∧
  (∀ (m : Master) (n : Fin 32) (z s : State), s = z.sent m → s.grants m pgWLT → ∃ t, exec (.perrAck m n) z = .next t ∧
    t.perrs = s.perrs.drop n.val ∧ t.get Reg.WLT_PERR_STAT_COUNT = (s.perrs.length - n.val) % 32 ∧ t.wlt = s.wlt) ∧
  (∀ (v : Word) (s : State), s.heelStands = false →
    exec (.ownerWrite .firmware v) s = .next (s.put Reg.DEV_OWNER_OWNER v.toNat)) ∧
  (∀ (m : Master) (v : Word) (z s : State), s = z.sent m → (m = .sideband → s.sbOn = true) → s.heelStands = false →
    s.flag Reg.PG_LOCK_LOCK 0 = true → m ≠ .firmware → exec (.ownerWrite m v) z = .next (s.err 0 0x0D0 ecLOCKED m)) ∧
  (∀ (m : Master) (v : Word) (z s : State) (old : Nat), s = z.sent m → (m = .sideband → s.sbOn = true) → s.heelStands = false →
    (s.flag Reg.PG_LOCK_LOCK 0 = false ∨ m = .firmware) → old = s.get Reg.DEV_OWNER_OWNER →
    (∀ g ∈ List.range 16, bits old (2 * g) 2 = bits v.toNat (2 * g) 2 ∨ s.mayOwn m (bits old (2 * g) 2) (bits v.toNat (2 * g) 2) = true) →
    exec (.ownerWrite m v) z = .next (s.put Reg.DEV_OWNER_OWNER v.toNat)) ∧
  (∀ (m : Master) (v : Word) (z s : State) (old : Nat), s = z.sent m → (m = .sideband → s.sbOn = true) →
    s.heelStands = false → (s.flag Reg.PG_LOCK_LOCK 0 = false ∨ m = .firmware) → old = s.get Reg.DEV_OWNER_OWNER →
    (∃ g ∈ List.range 16, bits old (2 * g) 2 ≠ bits v.toNat (2 * g) 2 ∧ s.mayOwn m (bits old (2 * g) 2) (bits v.toNat (2 * g) 2) = false) →
    exec (.ownerWrite m v) z = .next (s.answer m 0 0x0D0 (some .ownership, (s.ownerWrite m v.toNat).2)) ∧
    (∀ g ∈ List.range 16, bits ((s.ownerWrite m v.toNat).2.get Reg.DEV_OWNER_OWNER) (2 * g) 2 =
      (if bits old (2 * g) 2 = bits v.toNat (2 * g) 2 ∨ s.mayOwn m (bits old (2 * g) 2) (bits v.toNat (2 * g) 2) = true
        then bits v.toNat (2 * g) 2 else bits old (2 * g) 2)))

/-- RING_ENABLE, TAIL_WRITE, HDM_RX_DELIVER, HDM_TX_FRAME, DMA_ERROR and MODERATION_TIMER (R281, R308–R314).  The model's choices: the first turn
of the transmit rings (assumption log 18), what a write of CFG to a running ring counts (27), events that are not due (1). -/
def Obligations.RingsMoveFrames : Prop :=
  (∀ (m : Master) (tx kd : Bool) (r : Fin 8) (sz : Fin 32) (b : Fin 128) (z s : State), s = z.sent m → s.grants m pgHDM →
    s.flag (rEN tx) 0 r.val = false → ∃ u : State, exec (.ringEnable m tx r true kd sz b) z = .next (u.portSync 32) ∧
    u.get (rEN tx) 0 r.val = 1 ∧ u.get (rERR tx) 0 r.val = 0 ∧ u.get (rHEAD tx) 0 r.val = 0 ∧ u.get (rTAIL tx) 0 r.val = 0 ∧
    u.get (rSIZE tx) 0 r.val = clampNat 6 16 sz.val ∧ u.get (rBUF tx) 0 r.val = clampNat 1 64 b.val ∧
    u.get (rKIND tx) 0 r.val = b2n (tx && kd) ∧ u.hdm = s.hdm ∧ u.clr = s.clr) ∧
  (∀ (m : Master) (tx en kd : Bool) (r : Fin 8) (sz : Fin 32) (b : Fin 128) (z s u : State), s = z.sent m → s.grants m pgHDM →
    s.flag (rEN tx) 0 r.val = true → u = s.err pgHDM (ringOff tx r.val + 8) ecSTATE m → exec (.ringEnable m tx r en kd sz b) z =
      .next ((if en = true then (u.put (rEN tx) 1 0 r.val).put (rERR tx) 0 0 r.val else u.put (rEN tx) 0 0 r.val).portSync 32)) ∧
  (∀ (m : Master) (tx : Bool) (r : Fin 8) (t : Fin 65536) (z s : State), s = z.sent m → s.grants m pgHDM → t.val < s.ringSize tx r.val →
    ((t.val : Int) - s.get (rTAIL tx) 0 r.val) % s.ringSize tx r.val ≤
      ((s.get (rHEAD tx) 0 r.val : Int) - 1 - s.get (rTAIL tx) 0 r.val) % s.ringSize tx r.val →
    exec (.tailWrite m tx r t) z = .next (s.put (rTAIL tx) t.val 0 r.val)) ∧
  (∀ (m : Master) (tx : Bool) (r : Fin 8) (t : Fin 65536) (z s : State), s = z.sent m → s.grants m pgHDM → (s.ringSize tx r.val ≤ t.val ∨
      ((s.get (rHEAD tx) 0 r.val : Int) - 1 - s.get (rTAIL tx) 0 r.val) % s.ringSize tx r.val <
        ((t.val : Int) - s.get (rTAIL tx) 0 r.val) % s.ringSize tx r.val) →
    exec (.tailWrite m tx r t) z = .next (s.err pgHDM (ringOff tx r.val + 0xC) ecINVALID m)) ∧
  (∀ (b : List Nat) (z s : State) (c : Copy) (f : Frame), s = z.fabNow →
    s.clr.copies.find? (fun c => c.port == 32 && c.st == .sending) = some c →
    s.frame c.frame = some f → f.whole = true → s.readsWait c.id = 0 → (s.flag (rEN false) 0 (c.svc % 8) = false ∨
    s.posted false (c.svc % 8) < ceilDiv (s.hpBytes c f).length (s.ringBuf false (c.svc % 8))) → exec (.hdmRxDeliver b) z =
      .next ((((s.inc (rDROPS false) 1 0 (c.svc % 8)).raise Reg.HDM_IRQ_RX_NO_DESC).rmCopy c.id).reap)) ∧
  (∀ (b : List Nat) (z s u v : State) (c : Copy) (f : Frame) (n : Nat), s = z.fabNow →
    s.clr.copies.find? (fun c => c.port == 32 && c.st == .sending) = some c →
    s.frame c.frame = some f → f.whole = true → s.readsWait c.id = 0 → n = ceilDiv (s.hpBytes c f).length (s.ringBuf false (c.svc % 8)) →
    s.flag (rEN false) 0 (c.svc % 8) = true → n ≤ s.posted false (c.svc % 8) → s.flag Reg.WLT_STAT_BME = true →
    u = s.rxWrite (c.svc % 8) c f b →
    v = (if c.tagFail = true ∧ f.poisoned = false then (u.tcCount f.port tcReleasedFail).raise Reg.TCA_IRQ_RELEASED_FAIL else u) →
    exec (.hdmRxDeliver b) z = .next ((((v.inc (rFRAMES false) 1 0 (c.svc % 8)).wroteBack false (c.svc % 8) n).rmCopy c.id).reap)) ∧
  (∀ (b : List Nat) (z s : State), s = z.fabNow → s.clr.copies.find? (fun c => c.port == 32 && c.st == .sending) = none →
    exec (.hdmRxDeliver b) z = .next s) ∧
  (∀ (b : List Nat) (z s : State) (c : Copy) (f : Frame), s = z.fabNow →
    s.clr.copies.find? (fun c => c.port == 32 && c.st == .sending) = some c → s.frame c.frame = some f →
    (f.whole = false ∨ s.readsWait c.id ≠ 0) → exec (.hdmRxDeliver b) z = .next s) ∧
  (∀ (ds : List TxDesc) (d : List Byte) (s : State), (s.flag Reg.WLT_STAT_BME = false ∨ s.txTurn = none ∨ ds = []) →
    exec (.hdmTxFrame ds d) s = .next s) ∧
  (∀ (x : TxDesc) (r : List TxDesc) (k : Nat) (d : List Byte) (s u : State), s.flag Reg.WLT_STAT_BME = true → s.txTurn = some k →
    (x :: r).length ≤ s.posted true k → u = s.hdmSet (fun h => { h with turn := (k + 1) % 8 }) → u.descsOk k (x :: r) = false →
    exec (.hdmTxFrame (x :: r) d) s = .next (((u.inc (rDROPS true) 1 0 k).raise Reg.HDM_IRQ_TX_BAD).txWriteBack k (x :: r).length 3)) ∧
  (∀ (x : TxDesc) (r : List TxDesc) (k n : Nat) (d : List Byte) (s u v : State), s.flag Reg.WLT_STAT_BME = true → s.txTurn = some k →
    (x :: r).length ≤ s.posted true k → u = s.hdmSet (fun h => { h with turn := (k + 1) % 8 }) → u.descsOk k (x :: r) = true →
    n = (x :: r).foldl (fun a y => a + y.len) 0 → n ≤ 9212 → u.inService 32 = true →
    (x.directed = false ∨ u.hostPolicy x = true) → v = u.txHand x (padTo (max 60 n) (padTo n d)) →
    exec (.hdmTxFrame (x :: r) d) s = .next ((v.inc (rFRAMES true) 1 0 k).txWriteBack k (x :: r).length 0)) ∧
  (∀ (tx : Bool) (r : Fin 8) (n : Nat) (s : State), s.flag (rEN tx) 0 r.val = true → ∃ u : State,
    exec (.dmaError tx r n) s = .next ((u.raise Reg.HDM_IRQ_DMA_ERR).portSync 32) ∧ u.get (rEN tx) 0 r.val = 0 ∧
    u.get (rERR tx) 0 r.val = 1) ∧
  (∀ (tx : Bool) (r : Fin 8) (n : Nat) (s : State), s.flag (rEN tx) 0 r.val = false → exec (.dmaError tx r n) s = .next s) ∧
  (∀ (tx : Bool) (r : Fin 8) (s : State), AMap.get cellDflt s.hdm.wb (r.val + 8 * b2n tx) ≠ 0 →
    exec (.moderationTimer tx r) s = .next (s.raise (rIRQ tx) 0 r.val)) ∧
  (∀ (tx : Bool) (r : Fin 8) (s : State), AMap.get cellDflt s.hdm.wb (r.val + 8 * b2n tx) = 0 →
    exec (.moderationTimer tx r) s = .next s)

/-- The sideband's requests (R315–R319, R414).  A SOFT reset that a WRITE has asked for begins once the request has ended.  The model's choices: the order of the checks and what SBP_FRAMES counts (assumption log 25), whether a word that timed out has taken effect (26, a free value), and that a sideband which is strapped off answers nothing (1). -/
def Obligations.TheSidebandAnswers : Prop :=
  (∀ (a w : Word) (ws : List Word) (n : Fin 65536) (q : SbReq) (k : Nat) (x : Option Nat) (l : List Byte) (s : State), s.sbOn = false →
    exec (.sbWrite a ws x) s = .next s ∧ exec (.sbRead a n x) s = .next s ∧ exec (.sbPeek a n x) s = .next s ∧
    exec (.sbStatus a n) s = .next s ∧ exec (.sbIdent a n) s = .next s ∧ exec (.sbPower a n w) s = .next s ∧
    exec (.sbCrcErr l) s = .next s ∧ exec .sbShort s = .next s ∧ exec (.sbResponseTimeout q k) s = .next s) ∧
  (∀ (a : Word) (ws : List Word) (x : Option Nat) (s : State) (e : Nat), s.sbOn = true → sbCheck a.toNat ws.length false = some e →
    exec (.sbWrite a ws x) s = .next { s with sbResp := ⟨e, 0, []⟩ }) ∧
  (∀ (a : Word) (ws : List Word) (s u : State) (e d : Nat), s.sbOn = true → sbCheck a.toNat ws.length false = none →
    (s.inc Reg.SBP_FRAMES_COUNT).sbWords a.toNat (ws.map BitVec.toNat) 0 = (e, d, u) →
    exec (.sbWrite a ws none) s = .next (({ u with sbResp := ⟨e, d, []⟩ } : State).dueReset)) ∧
  (∀ (a : Word) (ws : List Word) (k : Nat) (s u : State) (d : Nat), s.sbOn = true → sbCheck a.toNat ws.length false = none →
    k < ws.length → (s.inc Reg.SBP_FRAMES_COUNT).sbWords a.toNat ((ws.map BitVec.toNat).take k) 0 = (0x80, d, u) →
    exec (.sbWrite a ws (some k)) s = .next (({ u with sbResp := ⟨0x8B, k, []⟩ } : State).dueReset)) ∧
  (∀ (a : Word) (n : Fin 65536) (s u : State) (e : Nat) (g : List Nat), s.sbOn = true → sbCheck a.toNat n.val false = none →
    (s.inc Reg.SBP_FRAMES_COUNT).sbFetch false a.toNat n.val [] = (e, g, u) →
    exec (.sbRead a n none) s = .next { u with sbResp := ⟨e, g.length, g ++ List.replicate (n.val - g.length) 0⟩ }) ∧
  (∀ (a : Word) (n : Fin 65536) (s u : State) (e : Nat) (g : List Nat), s.sbOn = true → sbCheck a.toNat n.val true = none →
    (s.inc Reg.SBP_FRAMES_COUNT).sbFetch true a.toNat n.val [] = (e, g, u) →
    exec (.sbPeek a n none) s = .next { u with sbResp := ⟨e, g.length, g ++ List.replicate (n.val - g.length) 0⟩ }) ∧
  (∀ (a : Word) (n : Fin 65536) (k : Nat) (s u : State) (g : List Nat), s.sbOn = true → sbCheck a.toNat n.val false = none → k < n.val →
    (s.inc Reg.SBP_FRAMES_COUNT).sbFetch false a.toNat k [] = (0x80, g, u) →
    exec (.sbRead a n (some k)) s = .next { u with sbResp := ⟨0x8B, g.length, g ++ List.replicate (n.val - g.length) 0⟩ }) ∧
  (∀ s : State, s.sbOn = true →
    exec (.sbStatus 0 2) s = .next { s.inc Reg.SBP_FRAMES_COUNT with sbResp := ⟨0x80, 2, s.sbStatusWords⟩ } ∧
    exec (.sbIdent 0 2) s = .next { s.inc Reg.SBP_FRAMES_COUNT with sbResp := ⟨0x80, 2, s.sbIdentWords⟩ }) ∧
  (∀ (a w : Word) (n : Fin 65536) (s : State), s.sbOn = true → n.val ≠ 2 →
    exec (.sbStatus a n) s = .next { s with sbResp := ⟨0x83, 0, []⟩ } ∧ exec (.sbIdent a n) s = .next { s with sbResp := ⟨0x83, 0, []⟩ } ∧
    (n.val ≠ 1 → exec (.sbPower a n w) s = .next { s with sbResp := ⟨0x83, 0, []⟩ })) ∧
  (∀ (w : Word) (s u : State), s.sbOn = true → s.heelStands = false → u = s.inc Reg.SBP_FRAMES_COUNT → u.ownedByOther .sideband 10 = false →
    1 ≤ bits w.toNat 0 5 → bits w.toNat 0 5 ≤ 18 → bit w.toNat 8 = true →
    exec (.sbPower 0 1 w) s = .next { u.domainAsk .sideband (bits w.toNat 0 5) true with sbResp := ⟨0x80, 1, []⟩ }) ∧
  (∀ (w : Word) (s u : State), s.sbOn = true → s.heelStands = false → u = s.inc Reg.SBP_FRAMES_COUNT → u.ownedByOther .sideband 10 = false →
    (bits w.toNat 0 5 = 0 ∨ 18 < bits w.toNat 0 5) →
    exec (.sbPower 0 1 w) s = .next { u.domainErr (bits w.toNat 0 5) 3 true with sbResp := ⟨0x89, 0, []⟩ }) ∧
  (∀ (w : Word) (s : State), s.sbOn = true → s.heelStands = true →
    exec (.sbPower 0 1 w) s = .next { s.inc Reg.SBP_FRAMES_COUNT with sbResp := ⟨0x87, 0, []⟩ }) ∧
  (∀ (l : List Byte) (w : Nat) (s : State), s.sbOn = true → w = 7 + 4 * sbDataWords (leNat (l.take 1)) (beNat (sub l 5 2)) →
    w < l.length →
    (crc8 (l.take w) ≠ leNat (sub l w 1) → exec (.sbCrcErr l) s =
      .next { (s.inc Reg.SBP_CRC_ERRS_COUNT).raise Reg.SBP_IRQ_CRC_ERR with sbResp := ⟨0x81, 0, []⟩ }) ∧
    (crc8 (l.take w) = leNat (sub l w 1) → leNat (l.take 1) ∉ sbOpcodes →
      exec (.sbCrcErr l) s = .next { s with sbResp := ⟨0x82, 0, []⟩ })) ∧
  (∀ s : State, s.sbOn = true → exec .sbShort s = .next ((s.inc Reg.SBP_SHORT_COUNT).raise Reg.SBP_IRQ_SHORT)) ∧
  (∀ (b : Bool) (a n k : Nat) (s u : State) (g : List Nat), s.sbOn = true → sbCheck a n b = none → k < n →
    (s.inc Reg.SBP_FRAMES_COUNT).sbFetch b a k [] = (0x80, g, u) → ∃ t,
    exec (.sbResponseTimeout (.read b a n) k) s = .next t ∧
    t.sbResp = ⟨0x87, k, g ++ List.replicate (n - g.length) 0⟩)

/-- MBX_GO, MBX_RESPONSE and LOOPBACK_TEST (R320, R335, R386).  With none waiting nothing happens (assumption log 1, the model's choice). -/
def Obligations.TheMailboxAnswers : Prop :=
  (∀ (m : Master) (n : Fin 2048) (z s : State), s = z.sent m → s.grants m pgMBX → s.firmwareRuns = true → s.flag Reg.MBX_STAT_BUSY = false → 8 ≤ n.val → n.val ≤ 1024 →
    exec (.mbxGo m n) z = .next ((s.put Reg.MBX_CMD_LEN n.val).put Reg.MBX_STAT_BUSY 1)) ∧
  (∀ (m : Master) (n : Fin 2048) (z s : State), s = z.sent m → s.grants m pgMBX → s.firmwareRuns = true → s.flag Reg.MBX_STAT_BUSY = true →
    exec (.mbxGo m n) z = .next (s.err pgMBX 0x080 ecBUSY m)) ∧
  (∀ (m : Master) (n : Fin 2048) (z s : State), s = z.sent m → s.grants m pgMBX → s.firmwareRuns = true → s.flag Reg.MBX_STAT_BUSY = false → (n.val < 8 ∨ 1024 < n.val) →
    exec (.mbxGo m n) z = .next (s.err pgMBX 0x080 ecINVALID m)) ∧
  (∀ (r : Fin 256) (b : List Byte) (s : State), bit s.pwr.powered 1 = true → s.firmwareRuns = true → s.flag Reg.MBX_STAT_BUSY = true → b.length ≤ 1016 →
    ∃ t, exec (.mbxResponse r b) s = .next t ∧ t.get Reg.MBX_STAT_BUSY = 0 ∧ t.get Reg.MBX_STAT_RESULT = r.val ∧
    t.get Reg.MBX_STAT_RLEN = 8 + b.length ∧ t.get Reg.MBX_IRQ_DONE = 1 ∧ t.mbx.req = s.mbx.req ∧
    (∀ k x, b[k]? = some x → AMap.get (fun _ => 0) t.mbx.rsp (8 + k) = x) ∧
    (∀ k, k < 4 → AMap.get (fun _ => 0) t.mbx.rsp k = AMap.get (fun _ => 0) s.mbx.req k)) ∧
  (∀ (m : Master) (n : Fin 2048) (z s : State), s = z.sent m → s.grants m pgMBX → s.firmwareRuns = false → exec (.mbxGo m n) z = .next s) ∧
  (∀ (r : Fin 256) (b : List Byte) (s : State), (s.flag Reg.MBX_STAT_BUSY = false ∨ s.firmwareRuns = false) → exec (.mbxResponse r b) s = .next s) ∧
  (∀ (g b : Nat) (s : State), bit s.pwr.powered 1 = true → s.firmwareRuns = true → s.flag Reg.MBX_STAT_BUSY = true → beNat (s.mbxReq 0 2) = 0x0D01 →
    (beNat (s.mbxReq 4 2) ≠ 4 ∨ s.get Reg.MBX_CMD_LEN ≠ 12) → exec (.loopbackTest g b) s = .next (s.mbxAnswer 2 [])) ∧
  (∀ (g b p n : Nat) (s u : State), bit s.pwr.powered 1 = true → s.firmwareRuns = true → s.flag Reg.MBX_STAT_BUSY = true → beNat (s.mbxReq 0 2) = 0x0D01 →
    beNat (s.mbxReq 4 2) = 4 → s.get Reg.MBX_CMD_LEN = 12 → p = leNat (sub (s.mbxReq 8 4) 0 1) → p < 24 → s.portMode p ≠ 0 →
    leNat (sub (s.mbxReq 8 4) 1 1) = 1 → n = beNat (sub (s.mbxReq 8 4) 2 2) → n ≠ 0 →
    u = ((((s.put Reg.MAC_TEST_LOOP 1 p).testSync p).put Reg.MAC_TEST_LOOP 0 p).testSync p) → exec (.loopbackTest g b) s =
      .next (u.mbxAnswer 0 (beBytes 4 n ++ beBytes 4 (min g n) ++ beBytes 4 (min b (n - min g n))))) ∧
  (∀ (g b : Nat) (s : State), beNat (s.mbxReq 0 2) ≠ 0x0D01 → exec (.loopbackTest g b) s = .next s)


/-! ### Faults and watchdogs (chapter 13) -/

/-- FAULT_REPORT, STORM_PERIOD_END, FLT_CLEAR, FAULT_COUNT_SNAPSHOT, FAULT_COUNT_CLEAR and NMI_CLEAR (R321–R329).  A report that is
no defined code of its page, and an event that is not due, change nothing (assumption log 1, the model's choice). -/
def Obligations.FaultsAreRecorded : Prop :=
  (∀ (p : Fin 4096) (k : Fin 65536) (s : State), s.heelStands = false → (k.val ≠ 0x1B01 ∨ s.get Reg.CGU_STAT_SDSREF ≠ 3) →
    faultCodes.contains k.val = true → pageDefined p.val = true →
    pageType p.val = k.val / 256 → exec (.faultReport p k) s = .next (s.fault p.val k.val)) ∧
  (∀ (p : Fin 4096) (k : Fin 65536) (s : State), (s.heelStands = true ∨
    faultCodes.contains k.val = false ∨ pageType p.val ≠ k.val / 256 ∨ (k.val = 0x1B01 ∧ s.get Reg.CGU_STAT_SDSREF = 3)) →
    exec (.faultReport p k) s = .next s) ∧
  (∀ (p : Fin 4096) (k : Fin 65536) (s : State), s.heelStands = false → (k.val ≠ 0x1B01 ∨ s.get Reg.CGU_STAT_SDSREF ≠ 3) →
    faultCodes.contains k.val = true → pageDefined p.val = true →
    pageType p.val = k.val / 256 → faultPrimary k.val = true → s.flag Reg.FLT_STAT_STORM = false → s.flt.recent = [] →
    s.get Reg.FLT_STAT_ENTRIES < 8 → ∃ t, exec (.faultReport p k) s = .next t ∧
    t.get Reg.FLT_FIRST_W0_CODE 0 (s.get Reg.FLT_STAT_ENTRIES) = k.val ∧ t.get Reg.FLT_FIRST_W0_PAGE 0 (s.get Reg.FLT_STAT_ENTRIES) = p.val ∧
    t.get Reg.FLT_FIRST_W0_VALID 0 (s.get Reg.FLT_STAT_ENTRIES) = 1 ∧ t.get Reg.FLT_STAT_ENTRIES = s.get Reg.FLT_STAT_ENTRIES + 1 ∧
    t.get Reg.FLT_IRQ_PRIMARY = 1 ∧ AMap.get cellDflt t.flt.codes k.val = min 65535 (AMap.get cellDflt s.flt.codes k.val + 1) ∧
    t.clr = s.clr ∧ t.lst = s.lst ∧ t.tim = s.tim) ∧
  (∀ s : State, s.heelStands = false → s.flag Reg.FLT_STAT_STORM = true → s.flt.period < 16 → exec .stormPeriodEnd s =
    .next ((s.put Reg.FLT_STAT_STORM 0).fltSet (fun f => { f with period := 0 }))) ∧
  (∀ s : State, s.heelStands = false → s.flag Reg.FLT_STAT_STORM = true → 16 ≤ s.flt.period → exec .stormPeriodEnd s =
    .next (s.fltSet (fun f => { f with period := 0 }))) ∧
  (∀ (p : Fin 4096) (k : Fin 65536) (s : State), s.heelStands = false → (k.val ≠ 0x1B01 ∨ s.get Reg.CGU_STAT_SDSREF ≠ 3) →
    faultCodes.contains k.val = true → pageDefined p.val = true → pageType p.val = k.val / 256 → faultPrimary k.val = true →
    s.flag Reg.FLT_STAT_STORM = true → 8 ≤ s.get Reg.FLT_STAT_ENTRIES → ∃ t, exec (.faultReport p k) s = .next t ∧
    t.get Reg.FLT_STAT_LOST = min (2 ^ Reg.FLT_STAT_LOST.width - 1) (s.get Reg.FLT_STAT_LOST + 1)) ∧
  (∀ s : State, (s.heelStands = true ∨ s.flag Reg.FLT_STAT_STORM = false) → exec .stormPeriodEnd s = .next s) ∧
  (∀ (m : Master) (z s : State), s = z.sent m → s.grants m pgFLT → ∃ t, exec (.fltClear m) z = .next t ∧ t.get Reg.FLT_STAT_ENTRIES = 0 ∧
    t.get Reg.FLT_STAT_LOST = 0 ∧ (∀ n, n < 8 → t.get Reg.FLT_FIRST_W0_VALID 0 n = 0 ∧ t.get Reg.FLT_FIRST_W0_CODE 0 n = 0) ∧ t.flt = s.flt) ∧
  (∀ (m : Master) (k : Fin 65536) (z s : State), s = z.sent m → s.serves m pgFLT → faultCodes.contains k.val = true →
    exec (.faultCountSnapshot m k) z = .next ((s.put Reg.FLT_CNT_SEL_CODE k.val 0 0 m.code).put Reg.FLT_CNT_COUNT
      (AMap.get cellDflt s.flt.codes k.val) 0 0 m.code)) ∧
  (∀ (m : Master) (k : Fin 65536) (z s : State), s = z.sent m → s.grants m pgFLT → faultCodes.contains k.val = true → ∃ t,
    exec (.faultCountClear m k) z = .next t ∧ t.get Reg.FLT_CNT_COUNT 0 0 m.code = AMap.get cellDflt s.flt.codes k.val % 65536 ∧
    t.flt = { s.flt with codes := AMap.del s.flt.codes k.val }) ∧
  (∀ (m : Master) (k : Fin 65536) (z s : State), s = z.sent m → s.serves m pgFLT → faultCodes.contains k.val = false → ∃ t,
    exec (.faultCountSnapshot m k) z = .next t ∧ t.get Reg.FLT_CNT_COUNT 0 0 m.code = 0 ∧
    t.get Reg.PG_ERR_CAPT1_CODE pgFLT = ecINVALID ∧ t.flt = s.flt) ∧
  (∀ (m : Master) (b : Fin 32) (z s : State), s = z.sent m → s.grants m pgFLT → exec (.nmiClear m b) z =
    .next (s.put Reg.FLT_NMI_STAT_CAUSE (Nat.land (s.get Reg.FLT_NMI_STAT_CAUSE) (31 - b.val))))

/-- FW_KICK, FW_WATCHDOG_WARN, FW_WATCHDOG_EXPIRY, LOCKSTEP_MISMATCH, HB_ENABLE, HB_KICK and HB_EXPIRY (R330–R332).  An event that
is not due changes nothing (assumption log 1, the model's choice). -/
def Obligations.WatchdogsRunAndExpire : Prop :=
  (∀ (v : Fin 65536) (s : State), s.serves .firmware pgWDG → s.fwRuns = true →
    v.val = (if s.flag Reg.WDG_FW_STAT_NEXT = true then 0xA5A5 else 0x5A5A) → exec (.fwKick .firmware v) s =
      .next ((s.wdgSet (fun w => { w with fwAt := some s.now })).put Reg.WDG_FW_STAT_NEXT (1 - s.get Reg.WDG_FW_STAT_NEXT))) ∧
  (∀ (v : Fin 65536) (s : State), s.serves .firmware pgWDG → s.fwRuns = true →
    v.val ≠ (if s.flag Reg.WDG_FW_STAT_NEXT = true then 0xA5A5 else 0x5A5A) → exec (.fwKick .firmware v) s = .next (s.wdogReset 1)) ∧
  (∀ (m : Master) (v : Fin 65536) (z s : State), s = z.sent m → s.serves m pgWDG → s.ownedByOther m (pageGroup pgWDG) = false → m ≠ .firmware →
    exec (.fwKick m v) z = .next (s.err pgWDG 0x084 ecSOURCE m)) ∧
  (∀ (k : Fin 2) (s : State), s.fwRuns = true → exec .fwWatchdogWarn s = .next ((s.nmi 4).raise Reg.WDG_IRQ_FW_WARN) ∧
    exec .fwWatchdogExpiry s = .next (s.wdogReset 0) ∧
    exec (.lockstepMismatch k) s = .next (((s.fault pgWDG (0x0801 + k.val)).nmi (2 + k.val)).wdogReset (2 + k.val))) ∧
  (∀ (k : Fin 2) (s : State), s.fwRuns = false → exec .fwWatchdogWarn s = .next s ∧ exec .fwWatchdogExpiry s = .next s ∧
    exec (.lockstepMismatch k) s = .next s) ∧
  (∀ (m : Master) (n : Fin 65536) (z s : State), s = z.sent m → s.grants m pgWDG → s.flag Reg.WDG_HB_CFG_EN = false → exec (.hbEnable m true n) z =
    .next (((s.put Reg.WDG_HB_CFG_EN 1).put Reg.WDG_HB_CFG_TIMEOUT (max 10 n.val)).wdgSet (fun w => { w with hbAt := some s.now }))) ∧
  (∀ (m : Master) (n : Fin 65536) (z s : State), s = z.sent m → s.grants m pgWDG → exec (.hbEnable m false n) z =
    .next ((((s.put Reg.WDG_HB_CFG_EN 0).put Reg.WDG_HB_CFG_TIMEOUT (max 10 n.val)).wdgSet (fun w => { w with hbAt := none })).put
      Reg.WDG_HB_STAT_EXPIRED 0)) ∧
  (∀ z s : State, s = z.sent .host → s.serves .host pgWDG → s.ownedByOther .host (pageGroup pgWDG) = false → s.flag Reg.WDG_HB_CFG_EN = true →
    s.flag Reg.WDG_HB_STAT_EXPIRED = true → exec (.hbKick .host) z =
      .next (((s.wdgSet (fun w => { w with hbAt := some s.now })).put Reg.WDG_HB_STAT_EXPIRED 0).raise Reg.WDG_IRQ_HB_BACK)) ∧
  (∀ z s : State, s = z.sent .host → s.serves .host pgWDG → s.ownedByOther .host (pageGroup pgWDG) = false → s.flag Reg.WDG_HB_CFG_EN = false →
    exec (.hbKick .host) z = .next s) ∧
  (∀ (m : Master) (z s : State), s = z.sent m → s.serves m pgWDG → s.ownedByOther m (pageGroup pgWDG) = false → m ≠ .host →
    exec (.hbKick m) z = .next (s.err pgWDG 0x094 ecSOURCE m)) ∧
  (∀ s : State, s.heelStands = false → s.flag Reg.WDG_HB_CFG_EN = true → s.flag Reg.WDG_HB_STAT_EXPIRED = false → exec .hbExpiry s =
    .next ((((s.put Reg.WDG_HB_STAT_EXPIRED 1).inc Reg.WDG_HB_STAT_EXPIRIES).fault pgWDG 0x0803).raise Reg.WDG_IRQ_HB_EXPIRED)) ∧
  (∀ s : State, (s.heelStands = true ∨ s.flag Reg.WDG_HB_CFG_EN = false ∨ s.flag Reg.WDG_HB_STAT_EXPIRED = true) → exec .hbExpiry s = .next s)


/-! ### Clocks (chapter 14) -/

/-- LRC_COUNT_DONE, LRC_COUNT_TIMEOUT, HRC_QUALIFY_DONE, XTAL_QUALIFY_DONE, SDSREF_QUALIFY_DONE, XTAL_START_TIMEOUT, DWELL_END and AUTO_RETURN_WRITE (R337–R339, R342, R426).  The model's choices: a qualification that waits for LRC, and a count outside its window that leaves the source qualifying (assumption log 88), and that an event which is not due changes nothing (1). -/
def Obligations.ClockSourcesQualify : Prop :=
  (∀ s : State, s.lrc = 1 → s.awake = true → s.hrc = 0 → s.holding = false →
    exec .lrcCountDone s = .next ((s.put Reg.CGU_STAT_LRC 2).put Reg.CGU_STAT_HRC 1) ∧ exec .lrcCountTimeout s = .next s.clockHold) ∧
  (∀ s : State, s.lrc = 1 → s.hrc ≠ 0 → exec .lrcCountDone s = .next (s.put Reg.CGU_STAT_LRC 2) ∧ exec .lrcCountTimeout s = .next s) ∧
  (∀ s : State, s.lrc ≠ 1 → exec .lrcCountDone s = .next s ∧ exec .lrcCountTimeout s = .next s) ∧
  (∀ (n : Nat) (s u : State), s.hrc = 1 → s.lrc = 2 → s.holding = false → 23750 ≤ n → n ≤ 26250 → s.xtal = 0 →
    u = (s.put Reg.CGU_STAT_HRC 2).put Reg.CGU_STAT_XTAL 1 →
    exec (.hrcQualifyDone true n) s = .next { u with cgu := { u.cgu with starting := true, amp := true } }.domSync) ∧
  (∀ (n : Nat) (s : State), s.hrc = 1 → s.lrc = 2 → s.holding = false → 23750 ≤ n → n ≤ 26250 → s.xtal ≠ 0 →
    exec (.hrcQualifyDone true n) s = .next (s.put Reg.CGU_STAT_HRC 2).domSync) ∧
  (∀ (b : Bool) (n : Nat) (s : State), s.hrc = 1 → s.lrc = 2 → s.holding = false → (b = false ∨ n < 23750 ∨ 26250 < n) →
    exec (.hrcQualifyDone b n) s = .next (if s.flag Reg.CGU_STAT_SYSREF = true then s.put Reg.CGU_STAT_HRC 3 else s.clockHold)) ∧
  (∀ (b : Bool) (n : Nat) (s : State), (s.hrc ≠ 1 ∨ s.lrc ≠ 2 ∨ s.holding = true) → exec (.hrcQualifyDone b n) s = .next s) ∧
  (∀ (n : Nat) (s : State), (s.xtal = 1 ∨ s.xtal = 3) → s.hrc = 2 → s.holding = false → 2450 ≤ n → n ≤ 2550 → ∃ t,
    exec (.xtalQualifyDone n) s = .next t ∧ t.xtal = 2 ∧
    t.cgu.starting = false ∧ (s.sdsref = 0 → t.sdsref = 1) ∧ (s.sdsref ≠ 0 → t.sdsref = s.sdsref) ∧
    (s.flag Reg.CGU_STAT_LOADS = true → s.flag Reg.CGU_CTRL_AUTO_RETURN = true → t.get Reg.CGU_STAT_DWELL = 1)) ∧
  (∀ (n : Nat) (s : State), ((s.xtal ≠ 1 ∧ s.xtal ≠ 3) ∨ s.hrc ≠ 2 ∨ s.holding = true ∨ n < 2450 ∨ 2550 < n) → exec (.xtalQualifyDone n) s = .next s) ∧
  (∀ (n : Nat) (s : State), s.sdsref = 1 → s.xtal = 2 → s.holding = false → 156094 ≤ n → n ≤ 156406 →
    exec (.sdsrefQualifyDone n) s = .next (s.put Reg.CGU_STAT_SDSREF 2)) ∧
  (∀ (n : Nat) (s : State), (s.sdsref ≠ 1 ∨ s.xtal ≠ 2 ∨ s.holding = true ∨ n < 156094 ∨ 156406 < n) →
    exec (.sdsrefQualifyDone n) s = .next s) ∧
  (∀ s : State, s.cgu.starting = true → s.holding = false → exec .xtalStartTimeout s =
    .next (({ s with cgu := { s.cgu with starting := false } }.put Reg.CGU_STAT_XTAL 3).xtalFailover)) ∧
  (∀ s : State, (s.cgu.starting = false ∨ s.holding = true) → exec .xtalStartTimeout s = .next s) ∧
  (∀ s : State, s.flag Reg.CGU_STAT_DWELL = true → s.xtal = 2 → s.holding = false → exec .dwellEnd s =
    .next ((((s.put Reg.CGU_STAT_DWELL 0).put Reg.CGU_STAT_LOADS 0).raise Reg.CGU_IRQ_XTAL_BACK).devCause Reg.DEV_CAUTIOUS_CLOCK false)) ∧
  (∀ s : State, (s.flag Reg.CGU_STAT_DWELL = false ∨ s.xtal ≠ 2 ∨ s.holding = true) → exec .dwellEnd s = .next s) ∧
  (∀ (m : Master) (z s : State), s = z.sent m → s.grants m pgCGU → ∃ t, exec (.autoReturnWrite m false) z = .next t ∧
    t.get Reg.CGU_CTRL_AUTO_RETURN = 0 ∧ t.get Reg.CGU_STAT_DWELL = 0 ∧ t.clr = s.clr ∧ t.lst = s.lst ∧ t.cgu = s.cgu) ∧
  (∀ (m : Master) (z s : State), s = z.sent m → s.grants m pgCGU → s.flag Reg.CGU_STAT_LOADS = true → s.xtal = 2 → ∃ t,
    exec (.autoReturnWrite m true) z = .next t ∧ t.get Reg.CGU_CTRL_AUTO_RETURN = 1 ∧ t.get Reg.CGU_STAT_DWELL = 1)

/-- CLOCK_STOP_DETECT, MONITOR_WINDOW_END and CLOCK_EDGES_RETURN (R340–R344).  The model's choices: which clock detects which (assumption log 88), HRC out against LRC without a GOOD XTAL (98), and that an event which is not due changes nothing (1). -/
def Obligations.ClockFailuresAreHandled : Prop :=
  (∀ s : State, s.lrc = 2 → (s.hrc = 2 ∨ s.mode = mdSLEEP) → exec (.clockStopDetect .lrc) s = .next s.lrcFail) ∧
  (∀ s : State, s.heelStands = false → s.hrc = 2 → (s.xtal = 2 ∨ s.flag Reg.CGU_STAT_LOADS = true) →
    exec (.clockStopDetect .hrc) s = .next s.hrcFail) ∧
  (∀ s : State, s.heelStands = false → s.xtal = 2 → (s.hrc = 2 ∨ s.flag Reg.CGU_STAT_SYSREF = true) →
    exec (.clockStopDetect .xtal) s = .next s.xtalFail) ∧
  (∀ s : State, s.heelStands = false → s.sdsref = 2 → exec (.clockStopDetect .sdsref) s = .next s.sdsrefFail) ∧
  (∀ (c : Clock) (s : State), (s.clock c ≠ 2 ∨ s.stopSeen c = false ∨ s.heelStands = true) → exec (.clockStopDetect c) s = .next s) ∧
  (∀ (x h d : Nat) (s : State), xtalInWindow x = true → hrcInWindow h = true → sdsrefInWindow d = true →
    exec (.monitorWindowEnd x h d) s = .next s) ∧
  (∀ (x h d : Nat) (s : State), s.lrc = 2 → s.hrc = 2 → s.xtal = 2 → sdsrefInWindow d = true →
    (xtalInWindow x = false → hrcInWindow h = false → exec (.monitorWindowEnd x h d) s = .next s.hrcFail) ∧
    (xtalInWindow x = false → hrcInWindow h = true → exec (.monitorWindowEnd x h d) s = .next s.xtalFail) ∧
    (xtalInWindow x = true → hrcInWindow h = false → exec (.monitorWindowEnd x h d) s = .next s.lrcFail)) ∧
  (∀ (x h d : Nat) (s : State), s.lrc = 2 → s.hrc = 2 → s.xtal ≠ 2 → hrcInWindow h = false →
    exec (.monitorWindowEnd x h d) s = .next s.hrcFail) ∧
  (∀ (x h d : Nat) (s : State), s.heelStands = false → s.sdsref = 2 → s.xtal = 2 → xtalInWindow x = true → hrcInWindow h = true →
    sdsrefInWindow d = false → exec (.monitorWindowEnd x h d) s = .next s.sdsrefFail) ∧
  (∀ s : State, s.heelStands = false → s.flag Reg.CGU_STAT_SYSREF = false → s.flag Reg.CGU_STAT_LOADS = false → s.xtal = 2 →
    s.hrc = 2 → ∃ t,
    exec (.clockStopDetect .xtal) s = .next t ∧ t.xtal = 3 ∧ t.get Reg.CGU_STAT_LOADS = 1 ∧
    t.get Reg.CGU_STAT_FAILOVERS = min (2 ^ Reg.CGU_STAT_FAILOVERS.width - 1) (s.get Reg.CGU_STAT_FAILOVERS + 1) ∧
    t.get Reg.CGU_IRQ_XTAL_FAIL = 1 ∧ bit (t.get Reg.FLT_NMI_STAT_CAUSE) 1 = true ∧ t.get Reg.DEV_CAUTIOUS_CLOCK = 1 ∧
    t.clr = s.clr ∧ t.lst = s.lst) ∧
  (∀ s u : State, s.heelStands = false → s.hrc = 2 → s.flag Reg.CGU_STAT_LOADS = true →
    u = ((s.put Reg.CGU_STAT_HRC 3).raise Reg.CGU_IRQ_HRC_FAIL).fault pgCGU 0x0302 →
    exec (.clockStopDetect .hrc) s = .next u.clockHold) ∧
  (∀ s u : State, s.heelStands = false → s.hrc = 2 → s.xtal = 2 → s.flag Reg.CGU_STAT_LOADS = false →
    u = ((s.put Reg.CGU_STAT_HRC 3).raise Reg.CGU_IRQ_HRC_FAIL).fault pgCGU 0x0302 →
    exec (.clockStopDetect .hrc) s = .next (u.put Reg.CGU_STAT_SYSREF 1)) ∧
  (∀ s : State, (s.lrc = 3 → exec (.clockEdgesReturn .lrc) s = .next (s.put Reg.CGU_STAT_LRC 1)) ∧
    (s.hrc = 3 → exec (.clockEdgesReturn .hrc) s = .next (s.put Reg.CGU_STAT_HRC 1)) ∧
    (s.xtal = 3 → exec (.clockEdgesReturn .xtal) s = .next (s.put Reg.CGU_STAT_XTAL 1)) ∧
    (s.sdsref = 3 → exec (.clockEdgesReturn .sdsref) s = .next (s.put Reg.CGU_STAT_SDSREF 1)))

/-- HRC_TRIM_WINDOW, CAN_TRIM_WINDOW, BEACON_TRIM_WINDOW and LRC_TRIM_WINDOW (R346–R350).  How far an LRC window moves is free
(assumption log 3); a window whose source is not chosen or not good is nothing (assumption log 1, the model's choice). -/
def Obligations.TrimWindowsMoveTheCodes : Prop :=
  (∀ (n : Nat) (e : Int) (s : State), s.xtal = 2 → s.flag Reg.CGU_STAT_LOADS = false → s.hrc = 2 → e = 10 * ((n : Int) - 100000) → ∃ t,
    exec (.hrcTrimWindow n) s = .next t ∧ t.get Reg.CGU_HRC_ERR_PPM = ofSigned 16 e % 65536 ∧ t.get Reg.CGU_HRC_ERR_REF = 0 ∧
    (s.flag Reg.CGU_CTRL_TRIM_HOLD = true → t.cgu.auto = s.cgu.auto) ∧
    (s.flag Reg.CGU_CTRL_TRIM_HOLD = false → s.hrcUser + s.cgu.auto - 4 ≥ -(s.get Reg.CGU_SPAN_HRC : Int) →
      s.hrcUser + s.cgu.auto + 4 ≤ (s.get Reg.CGU_SPAN_HRC : Int) → t.cgu.auto = s.cgu.auto + clampInt (-4) 4 (-roundDiv e 50)) ∧
    t.clr = s.clr ∧ t.lst = s.lst ∧ t.cgu.lauto = s.cgu.lauto) ∧
  (∀ (n : Nat) (s : State), (s.xtal ≠ 2 ∨ s.flag Reg.CGU_STAT_LOADS = true ∨ s.hrc ≠ 2) → exec (.hrcTrimWindow n) s = .next s) ∧
  (∀ (l : List TrimFrame) (s : State) (n : Nat), s.flag Reg.CGU_STAT_LOADS = true → s.hrc = 2 → s.fbSrc = 1 →
    n = (l.filter (fun x => !x.own && !x.bad)).length → n < 16 → exec (.canTrimWindow l) s =
      .next (((s.put Reg.CGU_HRC_ERR_SAMPLES n).inc Reg.CGU_TRIM_STARVED_COUNT).raise Reg.CGU_IRQ_TRIM_STARVED)) ∧
  (∀ (l v : List TrimFrame) (s : State) (g : List (Nat × Nat)) (m x : Nat), s.flag Reg.CGU_STAT_LOADS = true → s.hrc = 2 → s.fbSrc = 1 →
    v = l.filter (fun y => !y.own && !y.bad) → 16 ≤ v.length →
    g = (v.flatMap (fun y => y.gaps)).filterMap (fun d => (gapBits (s.nominalBit s.fbIdx) d).map (fun k => (d, k * s.nominalBit s.fbIdx))) →
    m = (g.map Prod.fst).sum → x = (g.map Prod.snd).sum → exec (.canTrimWindow l) s =
      .next ((s.put Reg.CGU_HRC_ERR_SAMPLES (min 255 v.length)).hrcTrim (roundDiv (((m : Int) - x) * 1000000) x)
        (-roundDiv (((m : Int) - x) * 20000) x) 20 1)) ∧
  (∀ (l v : List PlcaCycle) (s : State), s.flag Reg.CGU_STAT_LOADS = true → s.hrc = 2 → s.fbSrc = 2 → v = l.filter (fun y => y.empty) →
    exec (.beaconTrimWindow l) s = .next (s.fallbackTrim 2 v.length (v.map (fun y => y.ns)).sum (v.length * s.beaconNs)
      (!(s.plcaEn s.fbIdx && s.plcaOk s.fbIdx && s.pm 0 s.fbIdx 19 1 0 8 == 0) && s.beaconNs != 0))) ∧
  (∀ (l : List PlcaCycle) (s : State) (n : Nat), s.flag Reg.CGU_STAT_LOADS = true → s.hrc = 2 → s.fbSrc = 2 →
    n = (l.filter (fun y => y.empty)).length → (n < 16 ∨ s.beaconNs = 0) → exec (.beaconTrimWindow l) s =
      .next (((s.put Reg.CGU_HRC_ERR_SAMPLES (min 255 n)).inc Reg.CGU_TRIM_STARVED_COUNT).raise Reg.CGU_IRQ_TRIM_STARVED)) ∧
  (∀ (l : List TrimFrame) (v : List PlcaCycle) (s : State), (s.flag Reg.CGU_STAT_LOADS = false ∨ s.fbSrc = 0 ∨ s.hrc ≠ 2) →
    exec (.canTrimWindow l) s = .next s ∧ exec (.beaconTrimWindow v) s = .next s) ∧
  (∀ (e : Int) (s : State), s.xtal = 2 → s.lrc = 2 → ∃ t, exec (.lrcTrimWindow e) s = .next t ∧
    t.get Reg.CGU_LRC_EFFECTIVE = t.effective Reg.CGU_LRC_FACTORY Reg.CGU_SPAN_LRC (t.lrcUser + t.cgu.lauto) % 2 ^ Reg.CGU_LRC_EFFECTIVE.width ∧
    (s.flag Reg.CGU_CTRL_TRIM_HOLD = true → t.cgu.lauto = s.cgu.lauto) ∧
    (t.cgu.lauto ≠ s.cgu.lauto → t.get Reg.CGU_TRIM_UPDATES_COUNT =
      min (2 ^ Reg.CGU_TRIM_UPDATES_COUNT.width - 1) (s.get Reg.CGU_TRIM_UPDATES_COUNT + 1)) ∧ t.clr = s.clr ∧ t.lst = s.lst ∧ t.cgu.auto = s.cgu.auto) ∧
  (∀ (e : Int) (s : State), (s.xtal ≠ 2 ∨ s.lrc ≠ 2) → exec (.lrcTrimWindow e) s = .next s)


/-! ### Power, supplies and resets (chapters 00, 15) -/

/-- DOMAIN_REQUEST, DOMAIN_POWER_GOOD, DOMAIN_POWER_TIMEOUT, PD8_DRAINED, PD8_DRAIN_TIMEOUT, SELF_TEST_DONE, SUPPLY_WARNING and SUPPLY_RECOVER (R333, R353–R356, R362).  The model's choices: what a self-test brings as its operands (assumption log 61), and that an event which is not due changes nothing (1). -/
def Obligations.DomainsAndSuppliesFollow : Prop :=
  (∀ (m : Master) (d : Fin 19) (z s : State), s = z.sent m → s.grants m pgPWR → d.val ≠ 0 → bit (s.domReq m) d.val = false →
    m ≠ .sideband → exec (.domainRequest m d true false) z = .next (((s.put Reg.PWR_DOM_REQ_REQ (setBit (s.domReq m) d.val true / 2) 0 0
      m.code).abortDescent wkHOST 0).domSync)) ∧
  (∀ (m : Master) (d : Fin 19) (on : Bool) (z s : State), s = z.sent m → s.grants m pgPWR → (d.val = 0 ∨ bit (s.domReq m) d.val = on) →
    exec (.domainRequest m d on false) z = .next s) ∧
  (∀ (m : Master) (d : Fin 19) (z s : State), s = z.sent m → s.serves m pgPWR → s.ownedByOther m (pageGroup pgPWR) = false → d.val ≠ 0 →
    bit (s.domReq m) d.val = true → (m = .host → d.val ≠ 2) → exec (.domainRequest m d false true) z =
      .next ((s.put Reg.PWR_DOM_REQ_REQ (setBit (s.domReq m) d.val false / 2) 0 0 m.code).domSync)) ∧
  (∀ z s : State, s = z.sent .host → s.grants .host pgPWR → bit (s.domReq .host) 2 = true → exec (.domainRequest .host 2 false false) z =
    .next ((s.domainErr 2 2 false).err pgPWR 0x08C ecSTATE .host)) ∧
  (∀ (d : Fin 19) (s : State), bit s.pwr.rising d.val = true → d.val ≠ 8 → exec (.domainPowerGood d) s =
    .next (((s.pwrSet (fun w => { w with
      powered := setBit w.powered d.val true,
      rising := setBit w.rising d.val false,
      cut := setBit w.cut d.val false,
      bist := w.bist.filter (fun b => pageDomain b != d.val) })).put Reg.FLT_BIST_FAIL_DOMAIN
        (setBit (2 * s.get Reg.FLT_BIST_FAIL_DOMAIN) d.val false / 2)).portSyncAll.domSync)) ∧
  (∀ (d : Fin 19) (s : State), bit s.pwr.rising d.val = true → exec (.domainPowerTimeout d) s =
    .next (((s.pwrSet (fun w => { w with
      rising := setBit w.rising d.val false,
      failed := setBit w.failed d.val true,
      cut := setBit w.cut d.val false })).domainErr
      d.val 5 false).fault pgPWR 0x0402)) ∧
  (∀ (d : Fin 19) (s : State), bit s.pwr.rising d.val = false → exec (.domainPowerGood d) s = .next s ∧
    exec (.domainPowerTimeout d) s = .next s) ∧
  (∀ s : State, s.pwr.drain = true → (∀ c ∈ s.sole.taken, c.1 < 65536) → exec .pd8Drained s = .next ((s.domainDown 8).domSync)) ∧
  (∀ s : State, s.pwr.drain = true → (∃ c ∈ s.sole.taken, 65536 ≤ c.1) → exec .pd8Drained s = .next s) ∧
  (∀ s : State, s.pwr.drain = true → exec .pd8DrainTimeout s =
    .next ((s.pwrSet (fun w => { w with drain := false, failed := setBit w.failed 8 true })).domainErr 8 4 false)) ∧
  (∀ s : State, s.pwr.drain = false → exec .pd8Drained s = .next s ∧ exec .pd8DrainTimeout s = .next s) ∧
  (∀ (d : Fin 19) (r : Nat) (s : State), bit s.pwr.powered d.val = true → bit s.pwr.tested d.val = false → d.val ≠ 0 →
    exec (.selfTestDone d r [] true) s = .next (((s.inc Reg.FLT_BIST_REPAIRS_COUNT r).pwrSet (fun w =>
      { w with tested := setBit w.tested d.val true, bist := w.bist ++ [] })).domainServes d.val)) ∧
  (∀ (n : Fin 2) (s : State), s.heelStands = false → bit s.pwr.low n.val = false → s.mode ≠ mdSLEEP → s.mode ≠ mdOFF → s.pwr.down = false → ∃ u : State,
    exec (.supplyWarning n) s = .next (u.fault pgPWR 0x0401) ∧ bit u.pwr.low n.val = true ∧
    AMap.find u.pwr.dipAt n.val = some s.now ∧ u.get Reg.PWR_IRQ_SUPPLY_WARN = 1 ∧ u.get Reg.DEV_CAUTIOUS_SUPPLY = 1 ∧
    u.fab.warnAt = some s.now ∧ u.clr = s.clr ∧ u.lst = s.lst) ∧
  (∀ (n : Fin 2) (s : State), (s.heelStands = true ∨ bit s.pwr.low n.val = true ∨ s.mode = mdSLEEP ∨ s.mode = mdOFF ∨ s.pwr.down = true) →
    exec (.supplyWarning n) s = .next s) ∧
  (∀ (n : Fin 2) (v : Fin 8192) (s : State), s.heelStands = false → bit s.pwr.low n.val = true → ∃ t, exec (.supplyRecover n v) s = .next t ∧
    bit t.pwr.low n.val = false ∧ AMap.find t.pwr.dipAt n.val = none ∧ t.get Reg.PWR_DIP_MIN_MIN_MV = v.val % 2 ^ Reg.PWR_DIP_MIN_MIN_MV.width ∧
    t.get Reg.PWR_DIP_MIN_SUPPLY = n.val ∧ t.get Reg.PWR_DIPS_COUNT = min (2 ^ Reg.PWR_DIPS_COUNT.width - 1) (s.get Reg.PWR_DIPS_COUNT + 1) ∧
    t.get Reg.PWR_DIP_DUR_US = min 4294967295 ((s.now - AMap.get (fun _ => s.now) s.pwr.dipAt n.val) / 1000) ∧ t.clr = s.clr)

/-- POR, VSTBY_BELOW_POR, SUPPLY_RESET, SUPPLY_RESET_RELEASE, PIN_RESET and SOFT_RESET (R14–R16, R361, R414, R426, R433).  When Last
memory holds a whole Last is assumption log 38, and an event that is not due changes nothing (1): the model's choices. -/
def Obligations.ResetsClearAndSample : Prop :=
  (∀ (x : Straps) (s : State), ∃ t, exec (.por x) s = .next t ∧ t.pending = s.pending ∧ t.regs.t = [] ∧ t.lst = State.reset.lst ∧
    t.clr = State.reset.clr ∧ t.pwr = State.reset.pwr ∧ t.get Reg.DEV_STRAPS_BOOT_MODE = x.bootMode % 2 ^ Reg.DEV_STRAPS_BOOT_MODE.width ∧
    t.get Reg.DEV_STRAPS_SB_EN = b2n x.sbEn ∧ t.get Reg.DEV_STRAPS_IO_VSEL = b2n x.ioVsel ∧
    t.get Reg.WDG_LAST_RESET_KIND = 0 ∧ t.mode = State.reset.mode ∧ (∀ c ∈ t.regs.v, c.1 ∈ [Reg.DEV_CAUTIOUS_TEST.key 0 0 0, Reg.DEV_CAUTIOUS_CLOCK.key 0 0 0, Reg.DEV_CAUTIOUS_SUPPLY.key 0 0 0,
      Reg.CGU_STAT_DWELL.key 0 0 0, Reg.PWR_MODE_MODE.key 0 0 0])) ∧
  (∀ s : State, ∃ t, exec .vstbyBelowPor s = .next t ∧ t.mode = mdOFF ∧ t.lrc = 0 ∧ t.pwr.powered = State.reset.pwr.powered ∧
    t.pending = s.pending ∧ (∀ c ∈ t.regs.v, c.1 ∈ [Reg.DEV_CAUTIOUS_TEST.key 0 0 0, Reg.DEV_CAUTIOUS_CLOCK.key 0 0 0, Reg.DEV_CAUTIOUS_SUPPLY.key 0 0 0,
      Reg.CGU_STAT_DWELL.key 0 0 0, Reg.PWR_MODE_MODE.key 0 0 0])) ∧
  (∀ (n : Fin 2) (s : State), s.mode ≠ mdSLEEP → s.mode ≠ mdOFF → s.pwr.down = false → ∃ t, exec (.supplyReset n) s = .next t ∧
    t.get Reg.WDG_LAST_RESET_KIND = 1 ∧ t.pwr.down = true ∧ t.pwr.gone = 2 ^ n.val ∧ t.pwr.low = 0 ∧ t.pwr.powered = 0 ∧ (s.pwr.low = 0 → t.regs.t = [(Reg.CGU_STAT_HRC.key 0 0 0, 1)]) ∧ t.hrc = 1 ∧ t.clr.frames = [] ∧ t.clr.copies = [] ∧
    t.lst = State.reset.lst ∧ t.tca.keys = [] ∧ t.tca.kept = [] ∧ t.tca.locked = false ∧ t.pending = s.pending ∧
    (∀ c ∈ t.regs.v, c.1 ∈ [Reg.DEV_CAUTIOUS_TEST.key 0 0 0, Reg.DEV_CAUTIOUS_CLOCK.key 0 0 0, Reg.DEV_CAUTIOUS_SUPPLY.key 0 0 0,
      Reg.CGU_STAT_DWELL.key 0 0 0, Reg.PWR_MODE_MODE.key 0 0 0])) ∧
  (∀ (n : Fin 2) (s : State), (s.mode = mdSLEEP ∨ s.mode = mdOFF) → exec (.supplyReset n) s = .next s) ∧
  (∀ (n : Fin 2) (s : State), s.mode ≠ mdSLEEP → s.mode ≠ mdOFF → s.pwr.down = true → exec (.supplyReset n) s =
    .next (s.pwrSet (fun w => { w with gone := setBit w.gone n.val true }))) ∧
  (∀ (x : Straps) (s : State), s.pwr.down = true → exec (.supplyResetRelease x) s =
    .next (((s.sample x).pwrSet (fun w => { w with down := false, gone := 0 })).domSync)) ∧
  (∀ (x : Straps) (s : State), s.pwr.down = false → exec (.supplyResetRelease x) s = .next s) ∧
  (∀ (x : Straps) (s : State), s.mode ≠ mdOFF → s.mode ≠ mdSLEEP → exec (.pinReset x) s =
    .next (((s.coldReset 2).sample x).put Reg.SBP_ALERT_STAT_CLOCK_HOLD 0)) ∧
  (∀ (x : Straps) (s : State), s.mode = mdSLEEP → exec (.pinReset x) s =
    .next ((((s.coldReset 2).sample x).put Reg.SBP_ALERT_STAT_CLOCK_HOLD 0).xtalAmp.wakeCause wkPIN 0 false)) ∧
  (∀ (x : Straps) (s : State), s.mode ≠ mdOFF → ∃ t, exec (.pinReset x) s = .next t ∧ t.pending = s.pending ∧ t.lst = State.reset.lst ∧
    t.get Reg.WDG_LAST_RESET_KIND = 2 ∧ (∀ c ∈ t.regs.v, c.1 ∈ [Reg.DEV_CAUTIOUS_TEST.key 0 0 0, Reg.DEV_CAUTIOUS_CLOCK.key 0 0 0, Reg.DEV_CAUTIOUS_SUPPLY.key 0 0 0,
      Reg.CGU_STAT_DWELL.key 0 0 0, Reg.PWR_MODE_MODE.key 0 0 0])) ∧
  (∀ (x : Straps) (s : State), s.mode = mdOFF → exec (.pinReset x) s = .next s) ∧
  (∀ (m : Master) (z s : State), s = z.sent m → s.grants m 0 → exec (.softReset m 0x5AFE) z =
    .next { (s.wdgSet (fun w => { w with resetDue := false })).warmReset 4 0 true with sbResp := s.sbResp }) ∧
  (∀ (m : Master) (z s : State), s = z.sent m → s.grants m 0 → ∃ t, exec (.softReset m 0x5AFE) z = .next t ∧ t.pending = s.pending ∧
    t.get Reg.WDG_LAST_RESET_KIND = 4 ∧ (s.lastWhole = true → t.lst.mem = s.lst.mem ∧ t.lst.ind = s.lst.ind ∧ t.lst.secs = s.lst.secs) ∧
    (s.lastWhole = false → t.lst = State.reset.lst) ∧ (∀ c ∈ t.regs.v, c.1 ∈ [Reg.DEV_CAUTIOUS_TEST.key 0 0 0, Reg.DEV_CAUTIOUS_CLOCK.key 0 0 0, Reg.DEV_CAUTIOUS_SUPPLY.key 0 0 0,
      Reg.CGU_STAT_DWELL.key 0 0 0, Reg.PWR_MODE_MODE.key 0 0 0])) ∧
  (∀ (m : Master) (k : Fin 65536) (z s : State), s = z.sent m → s.grants m 0 → k.val ≠ 0x5AFE →
    exec (.softReset m k) z = .next (s.err 0 0x084 ecINVALID m).dueReset)


/-! ### The register pages (chapters 00, 17) -/

/-- BLOCK_RESET, BLOCK_RESET_END, PAGE_ENABLE_WRITE, IRQ_FORCE, IRQ_STAT_CLEAR, PAGE_LOCK, REGISTER_WRITE, CLEAR_ON_READ and COUNTER_LOW_READ (R9, R17, R227, R402, R405–R411).  The model's choices: what the words that have no writable field do (assumption log 22), what a read command keeps (62), and that a BLOCK_RESET_END which is not due changes nothing (1). -/
def Obligations.PagesTakeTheirCommands : Prop :=
  (∀ (m : Master) (p : Fin 4096) (z s : State), s = z.sent m → s.grants m p.val → fixedType (pageType p.val) = false →
    exec (.blockReset m p) z = .next (s.blockReset p.val)) ∧
  (∀ (m : Master) (p : Fin 4096) (z s : State), s = z.sent m → s.grants m p.val → fixedType (pageType p.val) = true →
    exec (.blockReset m p) z = .next (s.err p.val 0x008 ecINVALID m)) ∧
  (∀ (p : Fin 4096) (s : State), s.pageHeld p.val = true → s.resetRuns p.val = false → exec (.blockResetEnd p) s =
    .next (((s.put Reg.PG_CTRL_BLOCK_RESET 0 p.val).blockEnds p.val).checkStartup)) ∧
  (∀ (p : Fin 4096) (s : State), (s.pageHeld p.val = false ∨ s.resetRuns p.val = true) → exec (.blockResetEnd p) s = .next s) ∧
  (∀ (m : Master) (p : Fin 4096) (on : Bool) (z s : State), s = z.sent m → s.grants m p.val → fixedType (pageType p.val) = false →
    pageType p.val ≠ 0x1A → s.flag Reg.PG_CTRL_ENABLE p.val = !on →
    exec (.pageEnableWrite m p on) z = .next (s.put Reg.PG_CTRL_ENABLE (b2n on) p.val)) ∧
  (∀ (m : Master) (p : Fin 4096) (on : Bool) (z s : State), s = z.sent m → s.heelStands = false → pageDefined p.val = true →
    (fixedType (pageType p.val) = true ∨ s.flag Reg.PG_CTRL_ENABLE p.val = on) →
    exec (.pageEnableWrite m p on) z = .next s) ∧
  (∀ (m : Master) (p : Fin 4096) (on : Bool) (z s : State), s = z.sent m → (m = .sideband → s.sbOn = true) → s.heelStands = false →
    pageDefined p.val = false → exec (.pageEnableWrite m p on) z = .next (s.answer m p.val 0x008 (some .reserved, s))) ∧
  (∀ (m : Master) (p : Fin 4096) (w : Word) (z s : State), s = z.sent m → s.serves m p.val → s.ownedByOther m (pageGroup p.val) = false →
    exec (.irqForce m p w) z = .next (s.irqBits p.val w.toNat true) ∧
    exec (.irqStatClear m p w) z = .next (s.irqBits p.val w.toNat false) ∧
    exec (.pageLock m p) z = .next (s.put Reg.PG_LOCK_LOCK 1 p.val)) ∧
  (∀ (m : Master) (p o : Fin 4096) (w : Word) (z s : State), s = z.sent m → s.grants m p.val → 0x80 ≤ o.val →
    s.writePath m p.val o.val w.toNat = .gate (fun t => t.writeFields m p.val o.val w.toNat) →
    exec (.registerWrite m p o w) z = .next (s.writeFields m p.val o.val w.toNat).dueReset) ∧
  (∀ (p o : Fin 4096) (w : Word) (k : State → State) (s : State), s.sbOn = true → s.heelStands = false → 0x80 ≤ o.val →
    s.writePath .sideband p.val o.val w.toNat = .gate k → s.pagePowered p.val = false → pageDefined p.val = true →
    exec (.registerWrite .sideband p o w) s = .next (({ s with sbResp := ⟨0x85, 0, []⟩ } : State).dueReset)) ∧
  (∀ (m : Master) (p o : Fin 4096) (s : State), (m = .sideband → s.sbOn = true) → s.readErr p.val o.val = none →
    exec (.clearOnRead m p o) s = .next { s.readEffect m p.val o.val with rd := AMap.ins s.rd m.code (s.readWord m p.val o.val) }) ∧
  (∀ (p o : Fin 4096) (e : AccErr) (s : State), s.readErr p.val o.val = some e →
    exec (.clearOnRead .host p o) s = .next (s.readFail (p.val * 4096 + o.val) e.code) ∧
    (s.sbOn = true → exec (.clearOnRead .sideband p o) s = .next { s with sbResp := ⟨e.status, 0, []⟩ })) ∧
  (∀ (p o : Fin 4096) (w : Word) (s : State), s.sbOn = false → exec (.registerWrite .sideband p o w) s = .next s.dueReset ∧
    exec (.clearOnRead .sideband p o) s = .next s) ∧
  (∀ (m : Master) (n : Fin 4) (s : State), s.serves m (0x060 + n.val) → ∃ t, exec (.counterLowRead m (.fabXfer n)) s = .next t ∧
    t.get Reg.FAB_XFER_FULL n.val = 0 ∧ t.get Reg.FAB_XFER_HI_HI n.val 0 m.code = s.fabNow.get Reg.FAB_XFER_FULL n.val / 2 ^ 32 % 2 ^ 32 ∧
    AMap.find t.rd m.code = some (s.fabNow.get Reg.FAB_XFER_FULL n.val % 2 ^ 32) ∧ t.clr = s.clr ∧ t.lst = s.lst ∧ t.fab = s.fabNow.fab) ∧
  (∀ (m : Master) (c : Fin 24) (s : State), s.serves m (0x040 + c.val) → ∃ t, exec (.counterLowRead m (.clrFrames c)) s = .next t ∧
    t.get Reg.CLR_FRAMES_FULL c.val = 0 ∧ t.get Reg.CLR_FRAMES_HI_HI c.val 0 m.code = s.get Reg.CLR_FRAMES_FULL c.val / 2 ^ 32 % 2 ^ 32 ∧
    AMap.find t.rd m.code = some (s.get Reg.CLR_FRAMES_FULL c.val % 2 ^ 32) ∧ t.clr = s.clr ∧ t.lst = s.lst ∧ t.fab = s.fab) ∧
  (∀ (m : Master) (p : Fin 32) (k : Fin 40) (s u : State), s.serves m (0x0D0 + p.val) → u = (if k.val = 29 then s.heldSync p.val else s) →
    ∃ t, exec (.counterLowRead m (.macCnt p k)) s = .next t ∧ t.get Reg.MAC_CNT_FULL p.val k.val = 0 ∧
    t.get Reg.MAC_CNT_HI_HI p.val k.val m.code = u.get Reg.MAC_CNT_FULL p.val k.val / 2 ^ 32 % 2 ^ 32 ∧
    (k.val ≠ 29 → AMap.find t.rd m.code = some (s.get Reg.MAC_CNT_FULL p.val k.val % 2 ^ 32)) ∧ t.clr = s.clr ∧ t.lst = s.lst ∧ t.fab = s.fab) ∧
  (∀ (m : Master) (e : Fin 16) (s : State), s.serves m (0x110 + e.val) → ∃ t, exec (.counterLowRead m (.awlMsgs e)) s = .next t ∧
    t.get Reg.AWL_MSGS_FULL e.val = 0 ∧ t.get Reg.AWL_MSGS_HI_HI e.val 0 m.code = s.get Reg.AWL_MSGS_FULL e.val / 2 ^ 32 % 2 ^ 32 ∧
    AMap.find t.rd m.code = some (s.get Reg.AWL_MSGS_FULL e.val % 2 ^ 32) ∧ t.awl = s.awl ∧ t.clr = s.clr ∧ t.lst = s.lst)


/-! ### Snapshots (chapter 04) -/

/-- The snapshot, clear and fill commands, from the flow counters to TIME_SNAPSHOT (R118 for the flow counters, and what the other chapters say of their selectors).  The model's choices: which registers a service snapshot fills (assumption log 77), and an entry past the last port (87). -/
def Obligations.SnapshotsGiveCountsToTheirMaster : Prop :=
  (∀ (m : Master) (h : Fin 65536) (z s : State), s = z.sent m → s.serves m pgRUL → ∃ t, exec (.flowCounterSnapshot m h) z = .next t ∧
    t.get Reg.RUL_FC_SEL_HANDLE 0 0 m.code = h.val ∧
    t.get Reg.RUL_FC_FRAMES_LO_LO 0 0 m.code = AMap.get cellDflt s.clr.fcFrames h.val % 2 ^ 32 ∧
    t.get Reg.RUL_FC_FRAMES_HI_HI 0 0 m.code = AMap.get cellDflt s.clr.fcFrames h.val / 2 ^ 32 % 2 ^ Reg.RUL_FC_FRAMES_HI_HI.width ∧
    t.get Reg.RUL_FC_BYTES_LO_LO 0 0 m.code = AMap.get cellDflt s.clr.fcBytes h.val % 2 ^ 32 ∧
    t.get Reg.RUL_FC_BYTES_HI_HI 0 0 m.code = AMap.get cellDflt s.clr.fcBytes h.val / 2 ^ 32 % 2 ^ Reg.RUL_FC_BYTES_HI_HI.width ∧
    (∀ n : Master, n ≠ m → ∀ f ∈ [Reg.RUL_FC_SEL_HANDLE, Reg.RUL_FC_FRAMES_LO_LO, Reg.RUL_FC_FRAMES_HI_HI, Reg.RUL_FC_BYTES_LO_LO, Reg.RUL_FC_BYTES_HI_HI],
      t.get f 0 0 n.code = s.get f 0 0 n.code) ∧ t.clr = s.clr ∧ t.lst = s.lst) ∧
  (∀ (m : Master) (h : Fin 65536) (z s : State), s = z.sent m → s.grants m pgRUL → ∃ t, exec (.flowCounterClear m h) z = .next t ∧
    t.get Reg.RUL_FC_SEL_HANDLE 0 0 m.code = h.val ∧
    t.get Reg.RUL_FC_FRAMES_LO_LO 0 0 m.code = AMap.get cellDflt s.clr.fcFrames h.val % 2 ^ 32 ∧
    t.get Reg.RUL_FC_FRAMES_HI_HI 0 0 m.code = AMap.get cellDflt s.clr.fcFrames h.val / 2 ^ 32 % 2 ^ Reg.RUL_FC_FRAMES_HI_HI.width ∧
    t.get Reg.RUL_FC_BYTES_LO_LO 0 0 m.code = AMap.get cellDflt s.clr.fcBytes h.val % 2 ^ 32 ∧
    t.get Reg.RUL_FC_BYTES_HI_HI 0 0 m.code = AMap.get cellDflt s.clr.fcBytes h.val / 2 ^ 32 % 2 ^ Reg.RUL_FC_BYTES_HI_HI.width ∧
    (∀ n : Master, n ≠ m → ∀ f ∈ [Reg.RUL_FC_SEL_HANDLE, Reg.RUL_FC_FRAMES_LO_LO, Reg.RUL_FC_FRAMES_HI_HI, Reg.RUL_FC_BYTES_LO_LO, Reg.RUL_FC_BYTES_HI_HI],
      t.get f 0 0 n.code = s.get f 0 0 n.code) ∧
    AMap.get cellDflt t.clr.fcFrames h.val = 0 ∧ AMap.get cellDflt t.clr.fcBytes h.val = 0 ∧
    (∀ k, k ≠ h.val → AMap.get cellDflt t.clr.fcFrames k = AMap.get cellDflt s.clr.fcFrames k ∧
      AMap.get cellDflt t.clr.fcBytes k = AMap.get cellDflt s.clr.fcBytes k)) ∧
  (∀ (m : Master) (h : Fin 65536) (z s : State), s = z.sent m → s.serves m pgRUL → s.ownedByOther m (pageGroup pgRUL) = true → ∃ t,
    exec (.flowCounterClear m h) z = .next t ∧ t.clr = s.clr ∧
    t.get Reg.RUL_FC_SEL_HANDLE 0 0 m.code = s.get Reg.RUL_FC_SEL_HANDLE 0 0 m.code ∧
    t.get Reg.RUL_FC_FRAMES_LO_LO 0 0 m.code = s.get Reg.RUL_FC_FRAMES_LO_LO 0 0 m.code) ∧
  (∀ (m : Master) (n : Fin 16384) (z s : State), s = z.sent m → s.serves m pgMTR → ∃ t, exec (.meterSnapshot m n) z = .next t ∧
    t.get Reg.MTR_GREEN_COUNT 0 0 m.code = (s.meter n.val).green % 2 ^ 32 ∧ t.get Reg.MTR_YELLOW_COUNT 0 0 m.code = (s.meter n.val).yellow % 2 ^ 32 ∧
    t.get Reg.MTR_RED_COUNT 0 0 m.code = (s.meter n.val).red % 2 ^ 32 ∧ t.clr = s.clr) ∧
  (∀ (m : Master) (n : Fin 16384) (z s : State), s = z.sent m → s.grants m pgMTR → ∃ t, exec (.meterClear m n) z = .next t ∧
    (t.meter n.val).green = 0 ∧ (t.meter n.val).yellow = 0 ∧ (t.meter n.val).red = 0 ∧ (t.meter n.val).tc = (s.meter n.val).tc ∧
    t.get Reg.MTR_GREEN_COUNT 0 0 m.code = (s.meter n.val).green % 2 ^ 32) ∧
  (∀ (m : Master) (n : Fin 16384) (z s : State), s = z.sent m → s.grants m pgMTR → ∃ t, exec (.meterFill m n) z = .next t ∧
    (t.meter n.val).tc = (s.meterCfg false n.val).cbs * 65536 ∧ (t.meter n.val).tp = (s.meterCfg false n.val).pbs * 65536 ∧
    (t.meter n.val).green = (s.meter n.val).green) ∧
  (∀ (m : Master) (p : Fin 64) (v : Fin 8) (z s : State), s = z.sent m → s.serves m pgSOL → p.val ≤ 36 → ∃ t, exec (.serviceSnapshot m p v) z = .next t ∧
    t.get Reg.SOL_SVC_FULL_COUNT 0 0 m.code = AMap.get cellDflt s.sole.drops (4 * (8 * p.val + v.val) + dkFull) % 2 ^ 32 ∧
    t.get Reg.SOL_SVC_EPOCH_COUNT 0 0 m.code = AMap.get cellDflt s.sole.drops (4 * (8 * p.val + v.val) + dkEpoch) % 2 ^ 32 ∧ t.sole = s.sole) ∧
  (∀ (m : Master) (p : Fin 64) (v : Fin 8) (z s : State), s = z.sent m → s.grants m pgSOL → p.val ≤ 36 → ∃ t, exec (.serviceDropsClear m p v) z = .next t ∧
    (∀ k, k < 4 → AMap.get cellDflt t.sole.drops (4 * (8 * p.val + v.val) + k) = 0)) ∧
  (∀ (m : Master) (p : Fin 64) (v : Fin 8) (z s : State), s = z.sent m → s.grants m pgSOL → 36 < p.val →
    exec (.serviceSnapshot m p v) z = .next (s.err pgSOL 0x300 ecINVALID m) ∧
    exec (.serviceDropsClear m p v) z = .next (s.err pgSOL 0x300 ecINVALID m)) ∧
  (∀ (m : Master) (p : Fin 37) (u : Fin 2048) (k : Nat) (z s : State), s = z.sent m → s.serves m (0x070 + p.val) → s.subPlace u.val = some k → k / 8 = p.val →
    ∃ t, exec (.subscriberSnapshot m p u) z = .next t ∧ t.get Reg.SCH_SUB_SEL_SUB p.val 0 m.code = u.val ∧
    t.get Reg.SCH_SUB_STAT_SVC p.val 0 m.code = k % 8 ∧ t.sch = s.sch ∧ t.clr = s.clr) ∧
  (∀ (m : Master) (p : Fin 37) (u : Fin 2048) (z s : State), s = z.sent m → s.serves m (0x070 + p.val) → s.subPlace u.val = none →
    exec (.subscriberSnapshot m p u) z = .next (s.err (0x070 + p.val) 0x100 ecINVALID m)) ∧
  (∀ (m : Master) (p : Fin 37) (q : Fin 8192) (z s : State), s = z.sent m → s.serves m (0x070 + p.val) → s.ownsQueue p.val q.val = true → ∃ t,
    exec (.queueSnapshot m p q) z = .next t ∧ t.get Reg.SCH_Q_SEL_Q p.val 0 m.code = q.val ∧ t.sch = s.sch ∧ t.clr = s.clr) ∧
  (∀ (m : Master) (p : Fin 37) (q : Fin 8192) (z s : State), s = z.sent m → s.serves m (0x070 + p.val) → s.ownsQueue p.val q.val = false →
    exec (.queueSnapshot m p q) z = .next (s.err (0x070 + p.val) 0x140 ecINVALID m)) ∧
  (∀ (m : Master) (e : Fin 16) (r : Fin 16384) (z s : State), s = z.sent m → s.serves m (0x110 + e.val) → r.val / 1024 = e.val → ∃ t,
    exec (.routeSnapshot m e r) z = .next t ∧ t.get Reg.AWL_RT_HITS_COUNT e.val 0 m.code = AMap.get cellDflt s.awl.hits r.val % 2 ^ 32 ∧
    t.get Reg.AWL_RT_DROPS_COUNT e.val 0 m.code = AMap.get cellDflt s.awl.drops r.val % 2 ^ 32 ∧ t.awl = s.awl) ∧
  (∀ (m : Master) (e : Fin 16) (r : Fin 16384) (z s : State), s = z.sent m → s.grants m (0x110 + e.val) → r.val / 1024 = e.val → ∃ t,
    exec (.routeCountsClear m e r) z = .next t ∧ AMap.get cellDflt t.awl.hits r.val = 0 ∧ AMap.get cellDflt t.awl.drops r.val = 0) ∧
  (∀ (m : Master) (e : Fin 16) (r : Fin 16384) (z s : State), s = z.sent m → s.serves m (0x110 + e.val) → r.val / 1024 ≠ e.val →
    exec (.routeSnapshot m e r) z = .next (s.err (0x110 + e.val) 0x100 ecINVALID m)) ∧
  (∀ (m : Master) (n : Fin 32) (z s : State), s = z.sent m → s.serves m pgWAK → ∃ t, exec (.clusterSnapshot m n) z = .next t ∧
    t.get Reg.WAK_CL_SEL_CL 0 0 m.code = n.val ∧
    t.get Reg.WAK_CL_COUNTS_WAKES 0 0 m.code = AMap.get cellDflt s.wak.wakes n.val % 2 ^ Reg.WAK_CL_COUNTS_WAKES.width ∧ t.wak = s.wak) ∧
  (∀ (m : Master) (c : Fin 64) (z s : State), s = z.sent m → s.serves m pgTXM → ∃ t, exec (.txmChannelSnapshot m c) z = .next t ∧
    t.get Reg.TXM_CH_SEL_CHAN 0 0 m.code = c.val ∧ t.get Reg.TXM_CH_STAT_BUSY 0 0 m.code = b2n (!(s.txm c.val).todo.isEmpty) ∧
    t.wak = s.wak) ∧
  (∀ (m : Master) (d : Fin 2) (z s : State), s = z.sent m → s.serves m pgTIM → ∃ t, exec (.timeSnapshot m) z = .next t ∧
    t.get Reg.TIM_T_NS_NS 0 d.val m.code = s.dom d.val % 1000000000 ∧
    t.get Reg.TIM_T_SEC_LO_SEC 0 d.val m.code = s.dom d.val / 1000000000 % 2 ^ 32 ∧ t.tim = s.tim ∧ t.clr = s.clr)


/-! ### Time, the time pins and the Laces (chapter 08) -/

/-- TIME_BASE_TICK, DOMAIN_STEP, RATE_ADJUST, SYNC_RX, SYNC_RECEIPT_TIMEOUT, HOLDOVER_EXPIRY and GRANDMASTER_CHANGE (R184–R187).  The model's choices: elapsed time while the time base is off (assumption log 13), the first Sync, a step and RATE_ADJUST in HOLDOVER (52), the slices and the arriving bytes that a tick moves (71 and 90), and that an event which is not admitted changes nothing (1). -/
def Obligations.DomainsKeepTime : Prop :=
  (∀ s u : State, s.timOn = true → u = { s with tim := { s.tim with
      elapsed := tickBy (s.rate 0) s.tim.elapsed,
      clk0 := if s.domEn 0 = true then tickBy (s.rate 0) s.tim.clk0 else s.tim.clk0,
      clk1 := if s.domEn 1 = true then tickBy (s.rate 1) s.tim.clk1 else s.tim.clk1 } } →
    exec .timeBaseTick s = .next u.fabNow.arriveAll ∧
    ((∀ f ∈ u.fabNow.clr.frames, f.whole = true ∨ f.lost.isSome = true) → exec .timeBaseTick s = .next u.fabNow)) ∧
  (∀ s u : State, s.timOn = false → u = { s with
      tim := { s.tim with elapsed := tickBy (if s.timHere = true then s.rate 0 else 0) s.tim.elapsed } } →
    exec .timeBaseTick s = .next u.fabNow.arriveAll) ∧
  (∀ (d : Fin 2) (n : Nat) (s u : State), s.timOn = true →
    u = ((s.clkSet d.val (n * 2 ^ 32)).goodSet d.val 0).put Reg.TIM_DOM_STAT_STEPS (min 255
      (((s.clkSet d.val (n * 2 ^ 32)).goodSet d.val 0).get Reg.TIM_DOM_STAT_STEPS 0 d.val + 1)) 0 d.val →
    exec (.domainStep d n) s = .next (if s.domEn d.val = false then s else if ((u.domState d.val 1).raise Reg.TIM_IRQ_STEP 0 d.val).flag Reg.TIM_DOM_STAT_GM 0 d.val = true
      then ((u.domState d.val 1).raise Reg.TIM_IRQ_STEP 0 d.val).domState d.val 2
      else (u.domState d.val 1).raise Reg.TIM_IRQ_STEP 0 d.val)) ∧
  (∀ (d : Fin 2) (r : Int) (s : State), s.timHere = true → s.get Reg.TIM_DOM_STAT_STATE 0 d.val ≠ 3 → exec (.rateAdjust d r) s =
    .next (s.put Reg.TIM_RATE_RATE (ofSigned 32 (clampInt (-4294967) 4294967 r)) 0 d.val)) ∧
  (∀ (d : Fin 2) (r : Int) (s : State), s.get Reg.TIM_DOM_STAT_STATE 0 d.val = 3 → exec (.rateAdjust d r) s = .next s) ∧
  (∀ (d : Fin 2) (o : Int) (s u : State), s.timOn = true → s.flag Reg.TIM_DOM_STAT_GM 0 d.val = false →
    s.get Reg.TIM_DOM_STAT_STATE 0 d.val = 1 → s.goodSyncs d.val = 7 →
    u = s.put Reg.TIM_OFFSET_OFFSET (ofSigned 32 (clampInt (-2147483648) 2147483647 o)) 0 d.val →
    exec (.syncRx d o) s = .next (if s.domEn d.val = false then s else if o.natAbs ≤ s.lockThr d.val
      then (u.goodSet d.val 8).domState d.val 2 else u.goodSet d.val 0)) ∧
  (∀ (d : Fin 2) (s : State), s.get Reg.TIM_DOM_STAT_STATE 0 d.val = 2 → s.flag Reg.TIM_DOM_STAT_GM 0 d.val = false →
    exec (.syncReceiptTimeout d) s = .next ((s.goodSet d.val 0).domState d.val 3)) ∧
  (∀ (d : Fin 2) (s : State), s.get Reg.TIM_DOM_STAT_STATE 0 d.val = 3 →
    exec (.holdoverExpiry d) s = .next ((s.goodSet d.val 0).domState d.val 0)) ∧
  (∀ (d : Fin 2) (s : State), s.get Reg.TIM_DOM_STAT_STATE 0 d.val < 2 → exec (.syncReceiptTimeout d) s = .next s ∧
    exec (.holdoverExpiry d) s = .next s) ∧
  (∀ (d : Fin 2) (b : Bool) (s : State), s.timOn = true → exec (.grandmasterChange d true b) s =
    .next (if s.domEn d.val = false then s else (s.put Reg.TIM_DOM_STAT_GM 1 0 d.val).domState d.val 2)) ∧
  (∀ (d : Fin 2) (s : State), s.timOn = true → s.flag Reg.TIM_DOM_STAT_GM 0 d.val = true →
    exec (.grandmasterChange d false true) s = .next (if s.domEn d.val = false then s else ((s.put Reg.TIM_DOM_STAT_GM 0 0 d.val).goodSet d.val 0).domState d.val 0))

/-- SYNC_ENABLE, SYNC_IN_EDGE, SYNC_PERIOD_BOUNDARY, PPS_PULSE, EVT_IN_EDGE, EVT_READ, TRG_ARM and TRG_EDGE (R205–R210).  Model's
choices: the base and the step of the follower (log 14), the start of a trigger that is past (log 53), and that an event that is not
admitted changes nothing (log 1). -/
def Obligations.TimePinsWork : Prop :=
  (∀ (m : Master) (z s : State), s = z.sent m → s.grants m pgTIM → s.flag Reg.TIM_SYNC_CFG_EN = false → ∃ t, exec (.syncEnable m true) z = .next t ∧
    t.get Reg.TIM_SYNC_CFG_EN = 1 ∧ t.get Reg.TIM_SYNC_STAT_STATE = 1 ∧ t.tim.syncDomain = s.get Reg.TIM_SYNC_CFG_DOMAIN ∧
    t.tim.syncPeriod = s.get Reg.TIM_SYNC_PERIOD_PERIOD ∧ t.tim.syncTarget = none ∧ t.tim.syncO = s.tim.syncO ∧ t.clr = s.clr ∧ t.lst = s.lst) ∧
  (∀ (m : Master) (z s : State), s = z.sent m → s.grants m pgTIM → s.flag Reg.TIM_SYNC_CFG_EN = true → s.tim.syncO = 0 → ∃ t,
    exec (.syncEnable m false) z = .next t ∧ t.get Reg.TIM_SYNC_CFG_EN = 0 ∧ t.get Reg.TIM_SYNC_STAT_STATE = 0 ∧ t.tim.syncTarget = none) ∧
  (∀ (r : Bool) (s : State), (s.timOn = false ∨ s.get Reg.TIM_SYNC_STAT_STATE ≠ 1 ∨ r = (s.tim.syncPol == 1)) →
    exec (.syncInEdge r) s = .next s) ∧
  (∀ (r : Bool) (s : State) (p e o : Int), s.timOn = true → s.get Reg.TIM_SYNC_STAT_STATE = 1 → r = !(s.tim.syncPol == 1) →
    p = max 1 (s.tim.syncPeriod : Int) → e = (s.dom s.tim.syncDomain : Int) - toSigned 16 (s.get Reg.TIM_SYNC_DELAY_DELAY) →
    o = (e - s.tim.syncO - s.syncBase + p / 2) % p - p / 2 → 4 * (o.natAbs : Int) ≤ p → s.tim.syncTarget = none →
    (s.tim.syncO + o).natAbs ≤ 250000 → exec (.syncInEdge r) s = .next (s.timSet (fun t => { t with syncTarget := some (s.tim.syncO + o) }))) ∧
  (∀ (s : State) (x : Int), s.timOn = true → s.get Reg.TIM_SYNC_STAT_STATE = 1 → s.tim.syncTarget = some x →
    exec .syncPeriodBoundary s = .next ((s.syncSetO (s.tim.syncO + s.syncDue)).timSet (fun t =>
      { t with syncTarget := none, syncRest := s.syncWant - s.syncDue, syncMissed := 0 }))) ∧
  (∀ s u : State, s.timOn = true → s.get Reg.TIM_SYNC_STAT_STATE = 1 → s.tim.syncTarget = none →
    u = (s.syncSetO (s.tim.syncO + s.syncDue)).timSet (fun t => { t with syncTarget := none, syncRest := s.syncWant - s.syncDue }) →
    exec .syncPeriodBoundary s = .next (if s.get Reg.TIM_SYNC_CFG_MISS ≤ s.tim.syncMissed + 1 then u.syncLoses
      else u.timSet (fun t => { t with syncMissed := s.tim.syncMissed + 1 }))) ∧
  (∀ s : State, s.timOn = true → s.flag Reg.TIM_PPS_EN = true → s.get Reg.TIM_DOM_STAT_STATE 0 (s.get Reg.TIM_PPS_DOMAIN) ≠ 0 →
    exec .ppsPulse s = .next (s.timSet (fun t => { t with ppsAt := some s.now }))) ∧
  (∀ s : State, (s.timOn = false ∨ s.flag Reg.TIM_PPS_EN = false ∨ s.get Reg.TIM_DOM_STAT_STATE 0 (s.get Reg.TIM_PPS_DOMAIN) = 0) →
    exec .ppsPulse s = .next s) ∧
  (∀ (k : Fin 4) (w : Nat) (s : State), s.timOn = true → s.flag Reg.TIM_EVT_CFG_EN 0 k.val = true → s.get Reg.TIM_EVT_CFG_EDGE 0 k.val = 3 →
    2 * s.get Reg.TIM_EVT_CFG_FILTER 0 k.val ≤ w → (s.evts k.val).length < 16 → exec (.evtInEdge k true w) s = .next ((s.timSet (fun x =>
      { x with evt := x.evt ++ [(k.val, s.dom (s.get Reg.TIM_EVT_CFG_DOMAIN 0 k.val), true)] })).raise Reg.TIM_IRQ_EVT 0 k.val)) ∧
  (∀ (k : Fin 4) (w : Nat) (s : State), s.timOn = true → s.flag Reg.TIM_EVT_CFG_EN 0 k.val = true → s.get Reg.TIM_EVT_CFG_EDGE 0 k.val = 3 →
    2 * s.get Reg.TIM_EVT_CFG_FILTER 0 k.val ≤ w → 16 ≤ (s.evts k.val).length →
    exec (.evtInEdge k true w) s = .next ((s.inc Reg.TIM_EVT_LOST_COUNT 1 0 k.val).raise Reg.TIM_IRQ_EVT_OVF)) ∧
  (∀ (m : Master) (k : Fin 4) (t : Nat) (s : State), s.serves m pgTIM → (s.evts k.val).head? = some (k.val, t, true) → ∃ u,
    exec (.evtRead m k) s = .next u ∧ AMap.find u.rd m.code = some (t % 1000000000 + 2 ^ 30 + 2 ^ 31) ∧
    u.evts k.val = (s.evts k.val).drop 1 ∧ u.get Reg.TIM_EVT_SEC_LO_SEC 0 k.val = t / 1000000000 % 2 ^ 32 ∧
    u.clr = s.clr ∧ u.lst = s.lst) ∧
  (∀ (m : Master) (k : Fin 4) (z s : State), s = z.sent m → s.grants m pgTIM → exec (.trgArm m k false) z =
    .next ((s.put Reg.TIM_TRG_CFG_EN 0 0 k.val).timSet (fun t => { t with trg := AMap.del t.trg k.val }))) ∧
  (∀ (m : Master) (k : Fin 4) (z s : State), s = z.sent m → s.grants m pgTIM → s.flag Reg.TIM_TRG_CFG_EN 0 k.val = true →
    exec (.trgArm m k true) z = .next (s.put Reg.TIM_TRG_CFG_EN 1 0 k.val)) ∧
  (∀ (m : Master) (k : Fin 4) (z s : State) (d n h : Nat), s = z.sent m → s.grants m pgTIM → s.flag Reg.TIM_TRG_CFG_EN 0 k.val = false →
    s.get Reg.TIM_TRG_CFG_MODE 0 k.val = 0 → d = s.get Reg.TIM_TRG_CFG_DOMAIN 0 k.val → h = s.dom d / 1000000000 / 2 ^ 32 →
    n = (h * 2 ^ 32 + s.get Reg.TIM_TRG_START_SEC_SEC 0 k.val) * 1000000000 + s.get Reg.TIM_TRG_START_NS_NS 0 k.val →
    s.dom d + 2000 ≤ n → ∃ t, exec (.trgArm m k true) z = .next t ∧ AMap.find t.tim.trg k.val = some ⟨0, d,
      s.get Reg.TIM_TRG_CFG_WIDTH 0 k.val, max 1 (s.get Reg.TIM_TRG_PERIOD_PERIOD 0 k.val), some n, none, false⟩ ∧
    t.get Reg.TIM_TRG_CFG_EN 0 k.val = 1 ∧ t.get Reg.TIM_TRG_CFG_LATE 0 k.val = 0 ∧ t.clr = s.clr ∧ t.lst = s.lst) ∧
  (∀ (k : Fin 4) (x : Trg) (t : Nat) (s : State), s.timOn = true → AMap.find s.tim.trg k.val = some x → x.next = some t → x.mode = 0 →
    exec (.trgEdge k) s = .next ((s.timSet (fun z => { z with trg := AMap.ins z.trg k.val { x with next := none, pulseAt := some s.now } })).raise
      Reg.TIM_IRQ_TRG 0 k.val)) ∧
  (∀ (k : Fin 4) (s : State), AMap.find s.tim.trg k.val = none → exec (.trgEdge k) s = .next s)


/-- LACE_START, LACE_CYCLE_BOUNDARY, GATE_ENTRY_END, HOLD_ADV_REQUEST, LACE_SWAP and PREEMPT_VERIFY (R194–R202); CAN slots that
wait for a cycle of the port take effect with one that begins (R62, R258).  Model's choices: a hold that stays at a swap under which
preemption stays active (log 54), the moment of a preemption (log 68), and that an event that is not admitted changes nothing (log 1). -/
def Obligations.LacesRunTheirLists : Prop :=
  (∀ (p : Fin 32) (s : State), s.pllRuns = true → s.get Reg.LCE_STAT_STATE p.val = 1 → s.domOk (s.lce p.val).oper.domain = true →
    (s.lce p.val).oper.base ≤ s.dom (s.lce p.val).oper.domain + 4 → exec (.laceStart p) s =
      .next ((((s.lceState p.val 2).beginCycle p.val (s.nearBoundary p.val)).raise Reg.LCE_IRQ_LOCKED p.val).cycleSchedules p.val)) ∧
  (∀ (p : Fin 32) (s : State), (s.pllRuns = false ∨ s.get Reg.LCE_STAT_STATE p.val ≠ 1 ∨ s.domOk (s.lce p.val).oper.domain = false ∨
    s.dom (s.lce p.val).oper.domain + 4 < (s.lce p.val).oper.base) → exec (.laceStart p) s = .next s) ∧
  (∀ (p : Fin 32) (s : State), s.laceRuns p.val = true → (s.lce p.val).oper.len ≠ 0 → (s.lce p.val).admin = none →
    exec (.laceCycleBoundary p) s = .next ((s.beginCycle p.val (s.nearBoundary p.val)).cycleSchedules p.val)) ∧
  (∀ (p : Fin 32) (g : GateList) (s : State), s.laceRuns p.val = true → (s.lce p.val).oper.len ≠ 0 → (s.lce p.val).admin = some g →
    s.nearBoundary p.val < s.swapAt p.val g → s.swapAt p.val g < s.nearBoundary p.val + (s.lce p.val).oper.ext →
    exec (.laceCycleBoundary p) s = .next (s.lceSet p.val { s.lce p.val with tail := true })) ∧
  (∀ (p : Fin 32) (s : State), s.laceRuns p.val = true → (s.lce p.val).tail = false → (s.lce p.val).oper.len ≠ 0 →
    exec (.gateEntryEnd p) s = .next (s.beginEntry p.val (s.get Reg.LCE_STAT_ENTRY p.val + 1))) ∧
  (∀ (p : Fin 32) (s : State), (s.laceRuns p.val = false ∨ (s.lce p.val).tail = true) → exec (.gateEntryEnd p) s = .next s) ∧
  (∀ (p : Fin 32) (e a b : Nat) (s : State), s.laceRuns p.val = true → s.flag Reg.LCE_STAT_PREEMPT_ACTIVE p.val = true →
    ((s.lce p.val).oper.entries[e]? = some (a, b, 1) → exec (.holdAdvRequest p e) s = .next ((s.lceSet p.val { s.lce p.val with hold := true }).gateCut p.val)) ∧
    ((s.lce p.val).oper.entries[e]? = some (a, b, 2) → exec (.holdAdvRequest p e) s = .next (s.lceSet p.val { s.lce p.val with hold := false })) ∧
    ((s.lce p.val).oper.entries[e]? = some (a, b, 0) → exec (.holdAdvRequest p e) s = .next s)) ∧
  (∀ (p : Fin 32) (g : GateList) (s u : State), (s.lce p.val).admin = some g → u = (s.setOper p.val g).raise Reg.LCE_IRQ_SWAPPED p.val →
    u.domOk g.domain = true → exec (.laceSwap p) s =
      .next (((u.lceState p.val 2).beginCycle p.val (s.lce p.val).cct).cycleSchedules p.val)) ∧
  (∀ (p : Fin 32) (s : State), (s.lce p.val).admin = none → exec (.laceSwap p) s = .next s) ∧
  (∀ (p : Fin 32) (a : Bool) (s u : State), (s.lce p.val).oper.preempt = true → (s.lce p.val).oper.verifyDis = false →
    (s.lce p.val).verified = false → (s.lce p.val).attempts < 3 → s.flag Reg.MAC_LINK_UP p.val = true →
    u = (s.lceSet p.val { s.lce p.val with attempts := (s.lce p.val).attempts + 1, verified := a }).preemptSync p.val →
    exec (.preemptVerify p a) s = .next (if a = false ∧ (s.lce p.val).attempts = 2 then u.raise Reg.LCE_IRQ_VERIFY_FAIL p.val else u)) ∧
  (∀ (p : Fin 32) (a : Bool) (s : State), ((s.lce p.val).oper.preempt = false ∨ (s.lce p.val).verified = true) →
    exec (.preemptVerify p a) s = .next s)


/-! ### Clusters, descents, wakes and transceivers (chapter 15) -/

/-- The cluster timers and requests: KEEPALIVE_RX … LIN_GOTOSLEEP_RX (R366–R368).  Model's choices: IDE compared whatever KA_MASK
(log 99), and that an event that is not admitted changes nothing (log 1). -/
def Obligations.ClustersFollowRequestsAndTimers : Prop :=
  (∀ (e : KaRx) (n : Nat) (s : State), (List.range 32).find? (fun k => s.isKa k e) = some n →
    exec (.keepaliveRx e) s = .next (if s.clState n = clREADY then s.clTimer n
      else if s.clState n = clPREPARE ∨ s.clState n = clWOKEN then s.clEnter n clREADY else s)) ∧
  (∀ (e : KaRx) (s : State), (∀ k : Fin 32, s.isKa k.val e = false) → exec (.keepaliveRx e) s = .next s) ∧
  (∀ (c n x : Nat) (ide : Bool) (s : State), n < 32 → s.clusterOfCan c = some n → (s.isKa n (.can c x ide) = true ↔
    Nat.land x (s.nm n 28 4 % 2 ^ 29) = Nat.land (s.nm n 24 4 % 2 ^ 29) (s.nm n 28 4 % 2 ^ 29) ∧ ide = bit (s.nm n 24 4) 29)) ∧
  (∀ (n : Fin 32) (s : State), s.clState n.val = clASLEEP → exec (.keepalivePeriod n) s = .next s ∧
    exec (.readyTimerExpiry n) s = .next s ∧ exec (.prepareTimerExpiry n) s = .next s ∧ exec (.wakeTimeout n) s = .next s) ∧
  (∀ (n : Fin 32) (s : State), s.clState n.val = clREQUESTED → exec (.keepalivePeriod n) s = .next (s.sendKa n.val)) ∧
  (∀ (n : Fin 32) (s : State), s.heelStands = false → s.clState n.val = clREADY → exec (.readyTimerExpiry n) s = .next (s.clEnter n.val clPREPARE)) ∧
  (∀ (n : Fin 32) (s : State), s.heelStands = false → s.clState n.val = clPREPARE → exec (.prepareTimerExpiry n) s = .next ((s.clEnter n.val clASLEEP).domSync)) ∧
  (∀ (n : Fin 32) (s : State), s.heelStands = false → s.clState n.val = clWOKEN → exec (.wakeTimeout n) s = .next
    ((((s.wakSet (fun w => { w with falses := bump16 w.falses n.val })).clEnter n.val clASLEEP).raise Reg.WAK_IRQ_FALSE_WAKE).domSync)) ∧
  (∀ (v : Word) (z s : State), s = z.sent .host → s.grants .host pgWAK → newBit (s.get Reg.WAK_REQ_HOST_CL) v.toNat = none →
    exec (.wakeRequestHost .host v) z = .next ((s.put Reg.WAK_REQ_HOST_CL v.toNat).requestsChanged)) ∧
  (∀ (v : Word) (n : Nat) (z s : State), s = z.sent .host → s.grants .host pgWAK → newBit (s.get Reg.WAK_REQ_HOST_CL) v.toNat = some n →
    exec (.wakeRequestHost .host v) z = .next (((s.put Reg.WAK_REQ_HOST_CL v.toNat).abortDescent wkHOST n).requestsChanged)) ∧
  (∀ (v : Word) (z s : State), s = z.sent .sideband → s.grants .sideband pgWAK → s.flag Reg.WDG_HB_STAT_EXPIRED = false → s.flag Reg.WLT_STAT_LINK_UP = true →
    exec (.wakeRequestHost .sideband v) z = .next (s.err pgWAK 0x088 ecSOURCE .sideband)) ∧
  (∀ (v : Word) (z s : State), s = z.sent .host → s.grants .host pgWAK → exec (.wakeRequestSb .host v) z = .next s) ∧
  (∀ (v : Word) (z s : State), s = z.sent .sideband → s.grants .sideband pgWAK → s.mode = mdNORMAL → newBit (s.get Reg.WAK_REQ_SB_CL) v.toNat = none →
    exec (.wakeRequestSb .sideband v) z = .next ((s.put Reg.WAK_REQ_SB_CL v.toNat).requestsChanged)) ∧
  (∀ (k : Fin 4) (s u : State), s.heelStands = false → u = s.wakSet (fun w => { w with pins := AMap.set (fun _ => false) w.pins k.val false }) →
    exec (.wakePinChange k false) s = .next (if u.awake = true then u.pinRequests.requestsChanged else u.pinRequests)) ∧
  (∀ (k : Fin 4) (s u : State), s.heelStands = false → u = s.wakSet (fun w => { w with pins := AMap.set (fun _ => false) w.pins k.val true }) →
    u.awake = true → u.pinMode k.val = 1 →
    exec (.wakePinChange k true) s = .next ((u.abortDescent wkWAKE_IN k.val).pinRequests.requestsChanged)) ∧
  (∀ (k : Fin 4) (b : Bool) (s u : State), s.heelStands = false → u = s.wakSet (fun w => { w with pins := AMap.set (fun _ => false) w.pins k.val b }) →
    u.awake = false → exec (.wakePinChange k b) s = .next u.pinRequests) ∧
  (∀ (n : Fin 32) (s : State), s.heelStands = false → exec (.routeHoldExpiry n) s = .next ((s.put Reg.WAK_REQ_ROUTE_CL
    (setBit (s.get Reg.WAK_REQ_ROUTE_CL) n.val false)).requestsChanged)) ∧
  (∀ (n : Fin 32) (k : Fin 4) (b : Bool) (s : State), s.heelStands = true → exec (.readyTimerExpiry n) s = .next s ∧
    exec (.prepareTimerExpiry n) s = .next s ∧ exec (.wakeTimeout n) s = .next s ∧ exec (.wakePinChange k b) s = .next s ∧
    exec (.routeHoldExpiry n) s = .next s ∧ exec .wakTimerExpiry s = .next s) ∧
  (∀ (l : Fin 16) (n : Nat) (s : State), s.clusterOfLin l.val = some n → s.linCommander l.val = false → s.clState n ≠ clUNUSED →
    s.clState n ≠ clASLEEP → exec (.linGotosleepRx l) s = .next ((s.clEnter n clPREPARE).clUpdate n)) ∧
  (∀ (l : Fin 16) (s : State), s.clusterOfLin l.val = none → exec (.linGotosleepRx l) s = .next s)

/-- DESCENT_START, DESCENT_COMMIT, DESCENT_STANDBY, DESCENT_SLEEP, WAKE_LATCH, WAK_TIMER_EXPIRY and CONVERTER_UPDATE (R358–R373).
Model's choices: a latch that is no cluster's is spent at once (log 99), and an event that is not admitted changes nothing (log 1). -/
def Obligations.TheDeviceSleepsAndWakes : Prop :=
  (∀ s u : State, s.mayDescend = true →
    u = ((s.put Reg.WAK_STAT_DESCENT 1).wakSet (fun w => { w with armed := s.armList })).pwrSet (fun w => { w with before := s.mode, cut := 0 }) →
    (u.wak.latched.find? u.latchNamed = none → exec .descentStart s = .next u) ∧
    (∀ k n, u.wak.latched.find? u.latchNamed = some (k, n) →
      exec .descentStart s = .next ((((u.abortDescent k n).latchWakes k n).pinRequests).requestsChanged))) ∧
  (∀ s : State, s.mayDescend = false → exec .descentStart s = .next s) ∧
  (∀ s : State, s.get Reg.WAK_STAT_DESCENT = 1 → bit s.pwr.powered 15 = false → bit s.pwr.powered 16 = false →
    exec .descentCommit s = .next (s.put Reg.WAK_STAT_DESCENT 2)) ∧
  (∀ s : State, s.get Reg.WAK_STAT_DESCENT ≠ 1 → exec .descentCommit s = .next s) ∧
  (∀ s : State, s.get Reg.WAK_STAT_DESCENT = 2 → s.awake = true → s.toStandby = true → ∃ t, exec .descentStandby s = .next t ∧
    (∀ d, d < 19 → d ≠ 0 → d ≠ 1 → d ≠ 10 → bit t.pwr.powered d = false) ∧ bit t.pwr.powered 1 = bit s.pwr.powered 1 ∧
    bit t.pwr.powered 10 = bit s.pwr.powered 10 ∧
    t.get Reg.WAK_STAT_DESCENT = 0 ∧ t.wak.timing = (t.get Reg.WAK_TIMER_SECONDS != 0) ∧ t.mode = mdSTANDBY) ∧
  (∀ s : State, (s.get Reg.WAK_STAT_DESCENT ≠ 2 ∨ s.awake = false) → exec .descentStandby s = .next s ∧ exec .descentSleep s = .next s) ∧
  (∀ s : State, s.get Reg.WAK_STAT_DESCENT = 2 → s.awake = true → s.toStandby = false →
    Nat.land s.pwr.powered (2 ^ 19 - 1 - (2 ^ 1 + 2 ^ 10)) = 0 → ∃ t, exec .descentSleep s = .next t ∧ t.mode = mdSLEEP ∧
    t.pwr.powered = 0 ∧ t.regs.t = [] ∧ t.tca.keys = [] ∧ t.tca.kept = [] ∧ t.wak.armed = s.wak.armed ∧ t.clr.frames = [] ∧ t.lst = State.reset.lst) ∧
  (∀ (k n : Nat) (s u : State), s.latchArmed k n = true → s.mode = mdSLEEP → k ≠ wkWAKE_IN →
    u = s.wakSet (fun w => { w with latched := w.latched ++ [(k, n)] }) → exec (.wakeLatch k n) s = .next (u.deviceWakes k n)) ∧
  (∀ (k n : Nat) (s u v : State), s.latchArmed k n = true → s.mode ≠ mdSLEEP → k ≠ wkWAKE_IN →
    u = s.wakSet (fun w => { w with latched := w.latched ++ [(k, n)] }) →
    v = ((((if s.mode = mdSTANDBY then u.deviceWakes k n else u.abortDescent k n).latchWakes k n).pinRequests).requestsChanged) →
    exec (.wakeLatch k n) s = .next (if v.wak.setup = 2 then v else v.wakSet (fun w => { w with latched := w.latched.filter v.latchNamed }))) ∧
  (∀ (k n : Nat) (s : State), s.latchArmed k n = false → exec (.wakeLatch k n) s = .next s) ∧
  (∀ s : State, s.heelStands = false → s.wak.timing = true → s.mode = mdSLEEP → exec .wakTimerExpiry s =
    .next (((s.put Reg.WAK_TIMER_SECONDS 0).wakSet (fun w => { w with timing := false })).deviceWakes wkTIMER 0)) ∧
  (∀ s : State, s.wak.timing = false → exec .wakTimerExpiry s = .next s) ∧
  (∀ (vs : List (Fin 65536)) (s : State), s.mode ≠ mdSLEEP → s.mode ≠ mdOFF → ∃ t, exec (.converterUpdate vs) s = .next t ∧
    (∀ k x, k < 6 → vs[k]? = some x → t.get Reg.PWR_MEAS_VALUE 0 k = if k = 4 then min vbatFullScale x.val else x.val) ∧ t.wak = s.wak ∧ t.pwr = s.pwr ∧ t.clr = s.clr) ∧
  (∀ (vs : List (Fin 65536)) (s : State), s.mode = mdSLEEP → exec (.converterUpdate vs) s = .next s)

/-- TXM_CMD, TXM_SEQUENCE_DONE and the ops of a sequence (R376, R377).  Model's choices: the lowest-numbered waiting channel goes first, a
sequence that runs past its last op ends there (log 99), and an event that is not admitted changes nothing (log 1). -/
def Obligations.TransceiversAreSequenced : Prop :=
  (∀ (m : Master) (c : Fin 64) (st : Fin 4) (z s : State), s = z.sent m → s.grants m pgTXM →
    exec (.txmCmd m c st) z = .next (s.txmRequest c.val st.val false true)) ∧
  (∀ (c : Fin 64) (k : Nat) (rx sent : List Byte) (s : State), (s.txm c.val).todo = [k] → s.txmRuns c.val = true →
    s.txmRunOf c.val k rx = some (sent, true) → (s.txm c.val).cmd = true → exec (.txmSequenceDone c rx) s =
    .next ((((s.txmSet c.val { s.txm c.val with sent := sent, state := (s.txm c.val).target, err := false, todo := [], cmd := false, again := false }).raise
      Reg.TXM_IRQ_CMD_DONE).txmNext (c.val / 16)).canHold c.val (txmHold (s.txm c.val).target))) ∧
  (∀ (c : Fin 64) (k j : Nat) (r : List Nat) (rx sent : List Byte) (s : State), (s.txm c.val).todo = k :: j :: r → s.txmRuns c.val = true →
    s.txmRunOf c.val k rx = some (sent, true) → exec (.txmSequenceDone c rx) s =
    .next (s.txmSet c.val { s.txm c.val with sent := sent, todo := j :: r, again := false })) ∧
  (∀ (c : Fin 64) (k : Nat) (r : List Nat) (rx sent : List Byte) (s : State), (s.txm c.val).todo = k :: r → s.txmRuns c.val = true →
    s.txmRunOf c.val k rx = some (sent, false) → (s.txm c.val).again = false →
    exec (.txmSequenceDone c rx) s = .next ((s.inc Reg.TXM_ERRS_COUNT).txmSet c.val { s.txm c.val with sent := sent, again := true })) ∧
  (∀ (c : Fin 64) (k : Nat) (r : List Nat) (rx sent : List Byte) (s : State), (s.txm c.val).todo = k :: r → s.txmRuns c.val = true →
    s.txmRunOf c.val k rx = some (sent, false) → (s.txm c.val).again = true →
    (s.txm c.val).cmd = false → exec (.txmSequenceDone c rx) s =
      .next (((((s.inc Reg.TXM_ERRS_COUNT).txmSet c.val { s.txm c.val with sent := sent, err := true, todo := [], cmd := false, again := false }).txmNext
        (c.val / 16)).raise Reg.TXM_IRQ_SEQ_ERR).fault pgPWR 0x0403)) ∧
  (∀ (c : Fin 64) (rx : List Byte) (s : State), (s.txm c.val).todo = [] → exec (.txmSequenceDone c rx) s = .next s) ∧
  (∀ (c : Fin 64) (k : Nat) (r : List Nat) (rx : List Byte) (s : State), (s.txm c.val).todo = k :: r →
    (s.txmRuns c.val = false ∨ s.txmRunOf c.val k rx = none) → exec (.txmSequenceDone c rx) s = .next s) ∧
  (∀ (c i n : Nat) (d rx sent : List Byte) (s : State) (fuel : Nat), i < 30 →
    (∀ a e, s.txmOp c i = (0, n, false, a, e, d) → s.txmOps c (fuel + 1) i rx sent = some (sent, true)) ∧ s.txmRunOf c 0 rx = s.txmOps c 30 (s.profByte c 0) rx [] ∧
    (∀ a e, s.txmOp c i = (1, n, false, a, e, d) → s.txmOps c (fuel + 1) i rx sent = s.txmOps c fuel (i + 1) rx (sent ++ d.take n)) ∧
    (∀ a e, s.txmOp c i = (1, n, true, a, e, d) → s.txmOps c (fuel + 1) i rx sent =
      s.txmOps c fuel (i + 1) rx (sent ++ (List.range n).map (fun k => s.paramByte c (a + k)))) ∧
    (∀ p a e, s.txmOp c i = (3, n, p, a, e, d) → s.txmOps c (fuel + 1) i rx sent = s.txmOps c fuel (i + 1) rx sent) ∧
    (∀ a e b q, s.txmOp c i = (2, n, false, a, e, d) → rx = b :: q → s.txmOps c (fuel + 1) i rx sent =
      (if Nat.land b.toNat a = e then s.txmOps c fuel (i + 1) q (sent ++ d.take n) else some (sent ++ d.take n, false))))


/-! ### Boot, update and the owner lock (chapter 16) -/

/-- BOOT_START, BOOT_PART_CHECKED and BOOT_RECORD_WRITE_DONE (R362, R385–R389, R399, R430).  Model's choices: the flash whose 8D mode no
boot has set (log 33), and that an event that is not admitted changes nothing (log 1). -/
def Obligations.TheBootEngineReadsItsImage : Prop :=
  (∀ s : State, (bit s.pwr.tested 1 = false ∨ s.upd.stage ≠ .due ∨ s.domainsLive = false) → exec .bootStart s = .next s) ∧
  (∀ s : State, bit s.pwr.tested 1 = true → s.upd.stage = .due → s.domainsLive = true →
    ((s.get Reg.DEV_STRAPS_BOOT_MODE = 1 ∨ s.get Reg.DEV_STRAPS_BOOT_MODE = 2) → ∃ t, exec .bootStart s = .next t ∧
      t.upd.stage = .load ∧ t.get Reg.UPD_STAT_SOURCE = s.get Reg.DEV_STRAPS_BOOT_MODE ∧ t.wdg.fwAt = some s.now ∧ t.upd.octal = true ∧
      t.lst = s.lst) ∧
    (s.get Reg.DEV_STRAPS_BOOT_MODE = 3 → ∃ t, exec .bootStart s = .next t ∧ t.upd.stage = .done ∧
      t.get Reg.UPD_STAT_SOURCE = 3 ∧ t.wdg.fwAt = some s.now ∧ t.lst = s.lst) ∧
    (s.get Reg.DEV_STRAPS_BOOT_MODE = 0 → s.upd.octal = true → s.upd.bootRec.state = 0 → ∃ t, exec .bootStart s = .next t ∧
      t.upd.stage = .manifest ∧ t.upd.slot = s.upd.bootRec.active ∧ t.get Reg.UPD_STAT_STATE = 0 ∧ t.upd.fell = false ∧
      t.wdg.fwAt = some s.now ∧ t.upd.write = s.upd.write) ∧
    (s.get Reg.DEV_STRAPS_BOOT_MODE = 0 → s.upd.octal = true → s.upd.bootRec.state = 1 → ∃ t, exec .bootStart s = .next t ∧
      t.upd.stage = .record ∧ t.upd.slot = s.upd.bootRec.active ∧ t.upd.fell = false ∧
      t.upd.write = some ({ s.upd.bootRec with state := 2, gen := (s.upd.bootRec.gen + 1) % 2 ^ 32 }, .trial, 4)) ∧
    (s.get Reg.DEV_STRAPS_BOOT_MODE = 0 → s.upd.octal = true → s.upd.bootRec.state = 2 → ∃ t, exec .bootStart s = .next t ∧
      t.upd.stage = .record ∧ t.upd.slot = s.upd.bootRec.prev ∧ t.upd.fell = true ∧ t.get Reg.UPD_BOOT_INFO_REASON = 6)) ∧
  (∀ s : State, s.upd.stage = .manifest → exec (.bootPartChecked false) s = .next (s.bootFails 5 0xFF)) ∧
  (∀ s : State, s.upd.stage = .manifest → exec (.bootPartChecked true) s =
    .next (if s.upd.octal = false then s.bootFails 5 0xFF
      else if manifestPrio (s.upd.slotImage s.upd.slot) = false then s.bootFails 1 0xFF
      else if s.upd.manifestCheck (s.upd.slotImage s.upd.slot) = 0 then (s.fuseKey (s.upd.slotImage s.upd.slot)).bootStage .fw
      else s.bootFails (s.upd.manifestCheck (s.upd.slotImage s.upd.slot)) 0xFF)) ∧
  (∀ s : State, s.upd.stage = .fw → s.upd.octal = true → exec (.bootPartChecked true) s =
    .next (if partHash (s.upd.slotImage s.upd.slot) 1 = true then s.bootStage .ucode
      else s.bootFails 3 (manIndex (imgManifest (s.upd.slotImage s.upd.slot)) 1))) ∧
  (∀ (b : Bool) (s : State), (s.upd.stage = .due ∨ s.upd.stage = .done ∨ s.upd.stage = .record ∨ s.upd.stage = .load) →
    exec (.bootPartChecked b) s = .next s) ∧
  (∀ (b : Bool) (s : State), s.upd.write = none → exec (.bootRecordWriteDone b) s = .next s) ∧
  (∀ (b : Bool) (s : State), s.supplyLow = true → exec (.bootRecordWriteDone b) s = .next s) ∧
  (∀ (r : BootRec) (w : RecFor) (n : Nat) (s : State), s.supplyLow = false → s.upd.octal = true → s.upd.write = some (r, w, n) → exec (.bootRecordWriteDone true) s =
    .next ((s.updSet (fun u => { (u.erase s.upd.recTarget).store s.upd.recTarget r.bytes with write := none })).recEnd w true)) ∧
  (∀ (r : BootRec) (w : RecFor) (n : Nat) (s : State), s.supplyLow = false → s.upd.write = some (r, w, n) → 1 < n → exec (.bootRecordWriteDone false) s =
    .next (s.updSet (fun u => { u with write := some (r, w, n - 1) }))) ∧
  (∀ (r : BootRec) (w : RecFor) (s : State), s.supplyLow = false → s.upd.write = some (r, w, 1) → exec (.bootRecordWriteDone false) s =
    .next ((((s.updSet (fun u => { u with write := none })).flashWild s.upd.recTarget sectorBytes).fault pgUPD 0x0D01).recEnd w false))

/-- The commands of UPD_CMD, and UPD_OP_DONE (R362, R390, R391, R399).  Model's choices: the code of a load command that is refused
(log 3, a free value), and that an event that is not admitted changes nothing (log 1). -/
def Obligations.StagingOperationsStartAndEnd : Prop :=
  (∀ (m : Master) (z s : State), s = z.sent m → s.grants m pgUPD → s.flag Reg.UPD_STAT_BUSY = true →
    exec (.updOpen m) z = .next (s.updResult 1 6) ∧ exec (.updErase m) z = .next (s.updResult 2 6) ∧
    exec (.updProgram m) z = .next (s.updResult 3 6) ∧ exec (.updRead m) z = .next (s.updResult 4 6) ∧
    exec (.updClose m) z = .next (s.updResult 5 6) ∧ exec (.updLoadPage m) z = .next (s.updResult 6 6) ∧
    exec (.updLoadDone m) z = .next (s.updResult 7 6)) ∧
  (∀ (m : Master) (z s u : State), s = z.sent m → s.grants m pgUPD → s.flag Reg.UPD_STAT_BUSY = false → s.ownerLocked = false → s.inTrial = false →
    u = (s.put Reg.UPD_STAT_ARMED 0).put Reg.UPD_STAT_STAGED 0 →
    exec (.updOpen m) z = .next (u.opStart 1 (slotBase u.inactiveSlot) [])) ∧
  (∀ (m : Master) (z s : State), s = z.sent m → s.grants m pgUPD → s.flag Reg.UPD_STAT_BUSY = false → s.get Reg.UPD_ADDR_ADDR % 256 = 0 →
    exec (.updRead m) z = .next (s.opStart 4 (s.get Reg.UPD_ADDR_ADDR) [])) ∧
  (∀ (m : Master) (z s : State), s = z.sent m → s.grants m pgUPD → s.flag Reg.UPD_STAT_BUSY = false → s.get Reg.UPD_ADDR_ADDR % 256 ≠ 0 →
    exec (.updRead m) z = .next (s.updResult 4 urBAD_ADDR)) ∧
  (∀ (m : Master) (z s : State), s = z.sent m → s.grants m pgUPD → s.flag Reg.UPD_STAT_BUSY = false → s.flag Reg.UPD_STAT_SESSION = false →
    exec (.updErase m) z = .next (s.updResult 2 19) ∧ exec (.updProgram m) z = .next (s.updResult 3 19) ∧
    exec (.updClose m) z = .next (s.updResult 5 19)) ∧
  (∀ (m : Master) (z s : State), s = z.sent m → s.grants m pgUPD → s.flag Reg.UPD_STAT_BUSY = false → s.flag Reg.UPD_STAT_SESSION = true →
    s.inInactive (s.get Reg.UPD_ADDR_ADDR) = true →
    (s.get Reg.UPD_ADDR_ADDR % sectorBytes = 0 → exec (.updErase m) z = .next (s.opStart 2 (s.get Reg.UPD_ADDR_ADDR) [])) ∧
    (s.get Reg.UPD_ADDR_ADDR % 256 = 0 → exec (.updProgram m) z = .next (s.opStart 3 (s.get Reg.UPD_ADDR_ADDR) s.updBuf))) ∧
  (∀ (m : Master) (z s : State), s = z.sent m → s.grants m pgUPD → s.flag Reg.UPD_STAT_BUSY = false → s.flag Reg.UPD_STAT_SESSION = true →
    (s.opStart 5 (s.get Reg.UPD_ADDR_ADDR) []).loadMode = false →
    exec (.updClose m) z = .next (s.opStart 5 (s.get Reg.UPD_ADDR_ADDR) [])) ∧
  (∀ (m : Master) (z s : State), s = z.sent m → s.grants m pgUPD → s.flag Reg.UPD_STAT_BUSY = false → s.upd.stage = .load →
    s.mayLoad m = true → exec (.updLoadPage m) z = .next (if s.get Reg.UPD_ADDR_ADDR = s.upd.next
      then s.opStart 6 (s.get Reg.UPD_ADDR_ADDR) s.updBuf else s.updResult 6 13) ∧
    exec (.updLoadDone m) z = .next ((if s.get Reg.DEV_STRAPS_BOOT_MODE = 0 then s.loadSource (if m = .host then 2 else 1) else s).opStart 7
      (s.get Reg.UPD_ADDR_ADDR) [])) ∧
  (∀ (m : Master) (z s : State), s = z.sent m → s.grants m pgUPD → s.flag Reg.UPD_STAT_BUSY = false →
    (s.upd.stage ≠ .load ∨ s.mayLoad m = false) →
    exec (.updLoadPage m) z = .next (s.updUnnamed 6) ∧ exec (.updLoadDone m) z = .next (s.updUnnamed 7)) ∧
  (∀ (k a : Nat) (bs : List Byte) (d : Bool) (r : FlashEnd) (s : State), s.upd.op = some (k, a, bs, d) → k ≤ 3 → s.supplyLow = true →
    exec (.updOpDone r) s = .next s) ∧
  (∀ (a : Nat) (bs : List Byte) (d : Bool) (s : State), s.supplyLow = false → s.upd.op = some (2, a, bs, d) →
    exec (.updOpDone .done) s = .next ((s.updSet (fun u => u.erase a)).opEnd 0)) ∧
  (∀ (a : Nat) (bs : List Byte) (d : Bool) (s : State), s.supplyLow = false → s.upd.op = some (3, a, bs, d) →
    exec (.updOpDone .done) s = .next ((s.flashProgram a bs).opEnd 0)) ∧
  (∀ (a : Nat) (bs : List Byte) (d : Bool) (s : State), s.upd.op = some (4, a, bs, d) →
    exec (.updOpDone .done) s = .next ((s.updBufSet (s.upd.bytes a 256)).opEnd 0)) ∧
  (∀ (r : FlashEnd) (s : State), s.upd.op = none → exec (.updOpDone r) s = .next s)

/-- UPD_ARM, UPD_DISARM, UPD_RESTART, UPD_CONFIRM, TRIAL_EXPIRY, SPEED_FRAME_RX, SPEED_STALE, VMOVE_IN_CHANGE, NONCE_REQ,
NONCE_EXPIRY, OWNER_LOCK, OWNER_UNLOCK and OWNER_PROVISION (R392–R398).  Model's choices: the code of a key that does not unwrap, and a
speed field beyond the payload (log 3, free values); an event that is not admitted changes nothing (log 1). -/
def Obligations.ArmingRestartAndOwnership : Prop :=
  (∀ (m : Master) (z s : State), s = z.sent m → s.grants m pgUPD → s.loadMode = false → exec (.updArm m) z = .next (if s.armRefusal = 0
    then (s.put Reg.UPD_STAT_ARMED 1).updResult 8 0 else s.updResult 8 s.armRefusal)) ∧
  (∀ (m : Master) (z s : State), s = z.sent m → s.grants m pgUPD → exec (.updDisarm m) z = .next (s.put Reg.UPD_STAT_ARMED 0)) ∧
  (∀ (m : Master) (z s : State), s = z.sent m → s.grants m pgUPD → s.loadMode = false → s.flag Reg.UPD_STAT_ARMED = false →
    exec (.updRestart m) z = .next (s.updResult 9 5)) ∧
  (∀ (m : Master) (z s : State), s = z.sent m → s.grants m pgUPD → s.loadMode = false → s.flag Reg.UPD_STAT_ARMED = true → s.upd.op = none →
    s.upd.write = none → s.descending = false → s.armRefusal = 0 → exec (.updRestart m) z = .next ((s.updResult 9 0).recWrite
      { (s.updResult 9 0).upd.bootRec with active := (s.updResult 9 0).inactiveSlot, prev := (s.updResult 9 0).activeSlot, state := 1 } .restart)) ∧
  (∀ (m : Master) (z s : State), s = z.sent m → s.grants m pgUPD → s.inTrial = true → s.loadMode = false →
    (s.upd.stage ≠ .done ∨ s.upd.trialAt.isSome = true) → s.upd.write = none →
    exec (.updConfirm m) z = .next (s.recWrite { s.upd.bootRec with state := 0 } .confirm)) ∧
  (∀ (m : Master) (z s : State), s = z.sent m → s.grants m pgUPD → (s.inTrial = false ∨ s.loadMode = true) →
    exec (.updConfirm m) z = .next (s.updResult 10 7)) ∧
  (∀ (m : Master) (z s : State), s = z.sent m → s.grants m pgUPD → s.inTrial = true → s.loadMode = false → s.upd.stage = .done →
    s.upd.trialAt = none → exec (.updConfirm m) z = .next (s.updResult 10 8)) ∧
  (∀ (n : Nat) (s : State), s.upd.trialAt = some n → exec .trialExpiry s =
    .next (((s.updSet (fun u => { u with trialAt := none })).put Reg.UPD_STAT_EXPIRED 1).raise Reg.UPD_IRQ_TRIAL_EXPIRED)) ∧
  (∀ (c : Fin 64) (k : Nat) (x : Bool) (d : List Byte) (s : State), (s.flag Reg.UPD_SPD_CFG_EN = false ∨
    s.get Reg.UPD_SPD_CFG_CHAN ≠ c.val ∨ s.get Reg.UPD_SPD_ID_ID ≠ k ∨ s.flag Reg.UPD_SPD_CFG_IDE ≠ x) →
    exec (.speedFrameRx c k x d) s = .next s) ∧
  (∀ (c : Fin 64) (k : Nat) (x : Bool) (d : List Byte) (s : State), s.flag Reg.UPD_SPD_CFG_EN = true →
    s.get Reg.UPD_SPD_CFG_CHAN = c.val → s.get Reg.UPD_SPD_ID_ID = k → s.flag Reg.UPD_SPD_CFG_IDE = x → ∃ t,
    exec (.speedFrameRx c k x d) s = .next t ∧ t.get Reg.UPD_VEH_STATE_STALE = 0 ∧ t.upd = { s.upd with speed := t.upd.speed } ∧ t.clr = s.clr ∧ t.lst = s.lst ∧
    (s.get Reg.UPD_SPD_CFG_START = 0 → s.get Reg.UPD_SPD_CFG_WIDTH = 8 → s.flag Reg.UPD_SPD_CFG_ORDER = false → ∀ b q, d = b :: q →
      t.upd.speed = b.toNat)) ∧
  (∀ s : State, exec .speedStale s = .next (s.put Reg.UPD_VEH_STATE_STALE 1)) ∧
  (∀ (h : Bool) (s : State), exec (.vmoveInChange h) s = .next (s.updSet (fun u => { u with vmove := h }))) ∧
  (∀ (m : Master) (z s : State), s = z.sent m → s.grants m pgUPD → s.flag Reg.TCA_STAT_DRBG_OK = true → ∃ t, exec (.nonceReq m) z = .next t ∧
    t.get Reg.UPD_OWN_STAT_NONCE_VALID = 1 ∧ t.freeCtr = s.freeCtr + 1 ∧ t.upd = s.upd ∧ t.tca = s.tca) ∧
  (∀ (m : Master) (z s : State), s = z.sent m → s.grants m pgUPD → s.flag Reg.TCA_STAT_DRBG_OK = false →
    exec (.nonceReq m) z = .next (s.updResult 11 16)) ∧
  (∀ s : State, exec .nonceExpiry s = .next (s.put Reg.UPD_OWN_STAT_NONCE_VALID 0)) ∧
  (∀ (m : Master) (z s : State), s = z.sent m → s.grants m pgUPD → s.tcaReady = true → s.flag Reg.UPD_OWN_STAT_NONCE_VALID = false →
    exec (.ownerLock m) z = .next ((s.put Reg.UPD_OWN_STAT_NONCE_VALID 0).updResult 11 15) ∧
    exec (.ownerUnlock m) z = .next ((s.put Reg.UPD_OWN_STAT_NONCE_VALID 0).updResult 11 15)) ∧
  (∀ (m : Master) (k : List Byte) (z s : State), s = z.sent m → s.grants m pgUPD → s.upd.ownerKey = some k → s.tcaReady = true →
    s.flag Reg.UPD_OWN_STAT_NONCE_VALID = true → s.ownerLocked = false → s.upd.burnt < 63 →
    ∃ t, exec (.ownerLock m) z = .next t ∧ t.get Reg.UPD_OWN_STAT_NONCE_VALID = 0 ∧
    (aesCmac k (ownerMessage 1 s.nonce) = s.ownMac → t.upd.burnt = s.upd.burnt + 1 ∧ t.ownerLocked = true ∧
      t.get Reg.UPD_IRQ_OWNER_CHG = 1 ∧ t.get Reg.UPD_RESULT_CODE = 0) ∧
    (aesCmac k (ownerMessage 1 s.nonce) ≠ s.ownMac → t.upd.burnt = s.upd.burnt ∧ t.get Reg.UPD_RESULT_CODE = urMAC_FAIL)) ∧
  (∀ (m : Master) (k : List Byte) (z s : State), s = z.sent m → s.grants m pgUPD → s.upd.ownerKey = some k → s.tcaReady = true →
    s.flag Reg.UPD_OWN_STAT_NONCE_VALID = true → s.ownerLocked = true → s.upd.burnt < 63 →
    ∃ t, exec (.ownerUnlock m) z = .next t ∧ t.get Reg.UPD_OWN_STAT_NONCE_VALID = 0 ∧
    (aesCmac k (ownerMessage 2 s.nonce) = s.ownMac → t.upd.burnt = s.upd.burnt + 1 ∧ t.ownerLocked = false ∧
      t.get Reg.UPD_IRQ_OWNER_CHG = 1 ∧ t.get Reg.UPD_RESULT_CODE = 0) ∧
    (aesCmac k (ownerMessage 2 s.nonce) ≠ s.ownMac → t.upd.burnt = s.upd.burnt ∧ t.get Reg.UPD_RESULT_CODE = urMAC_FAIL)) ∧
  (∀ (m : Master) (z s : State), s = z.sent m → s.grants m pgUPD → s.upd.ownerKey = none → s.tcaReady = true → exec (.ownerProvision m) z =
    .next (match keyUnwrap kw0 (s.updBuf.take 40) with
      | some k => ((s.updSet (fun u => { u with ownerKey := some (padTo 32 k) })).showFuses).updResult 11 0
      | none => s.updUnnamed 11)) ∧
  (∀ (m : Master) (z s : State), s = z.sent m → s.grants m pgUPD → s.upd.ownerKey.isSome = true → exec (.ownerProvision m) z = .next (s.updResult 11 18))


/-! ### The machine as a whole -/

/-- The queue, which is the model's own (assumption log 16). -/
def Obligations.StepRunsTheFrontCommand : Prop :=
  (∀ (c : Instr) (r : List Instr) (s : State), s.pending = c :: r → step s = exec c { s with pending := r }) ∧
  (∀ s : State, s.pending = [] → step s = .next s)

/-- The frame of the queue, over all 255 commands (assumption log 16). -/
def Obligations.CommandsLeaveTheQueue : Prop :=
  (∀ (c : Instr) (s t : State), exec c s = .next t → t.pending = s.pending) ∧
  (∀ s t : State, step s = .next t → t.pending = s.pending.tail)

/-- The invariant of the register maps, and that of all the maps and memories (the model's own form), kept by every step from every state that has it. -/
def Obligations.StepsKeepRegistersCanonical : Prop :=
  (∀ s t : State, RegFile.Canonical s.regs → step s = .next t → RegFile.Canonical t.regs) ∧
  (∀ s t : State, Memory.wf s → step s = .next t → Memory.wf t)

/-- The state at the release of a power-on reset. -/
def Obligations.ResetIsAsTheTablesSay : Prop :=
  (∀ (f : Fld) (i j m : Nat), (f.keep ≠ .H ∨ f.key i j m ≠ Reg.CGU_STAT_LRC.key 0 0 0) → State.reset.get f i j m = f.dflt j) ∧
  State.reset.get Reg.CGU_STAT_LRC = 1 ∧ RegFile.Canonical State.reset.regs ∧ Memory.wf State.reset ∧
  State.reset.lst.mem = [] ∧ State.reset.lst.ind = [] ∧ State.reset.lst.staged = [] ∧ State.reset.lst.held = [] ∧
  State.reset.clr.frames = [] ∧ State.reset.clr.copies = [] ∧ State.reset.wlt.flight = [] ∧ State.reset.wlt.held = [] ∧
  State.reset.awl.ap = [] ∧ State.reset.awl.can = [] ∧ State.reset.awl.lin = [] ∧ State.reset.awl.streams = [] ∧
  State.reset.mbx.req = [] ∧ State.reset.mbx.rsp = [] ∧ State.reset.mdio = [] ∧ State.reset.tca.keys = [] ∧
  State.reset.sbResp = ⟨0, 0, []⟩ ∧ State.reset.perrs = [] ∧ State.reset.rd = [] ∧ State.reset.pending = [] ∧
  (∀ d : Fin 19, d.val ≠ 0 → bit State.reset.pwr.powered d.val = false)

/-- R10, with the live high words of R227. -/
def Obligations.PeeksHaveNoEffect : Prop :=
  (∀ (m : Master) (a n : Nat) (s : State), a < 0x1000000 → (s.busRead m (0x2000000 + a) n).1 = (s.busRead m a n).1 ∧
    (s.busRead m (0x2000000 + a) n).2.2 = s) ∧
  (∀ (m : Master) (a n : Nat) (s : State), a < 0x1000000 →
    (∀ k ∈ [0, 1], ∀ x ∈ fieldsAt (a / 4096) (a % 4096 + 4 * k), liveCount x.1 = none) →
    (s.busRead m (0x2000000 + a) n).2.1 = (s.busRead m a n).2.1) ∧
  (∀ (m : Master) (n : Fin 4) (s : State), s.readErr (0x060 + n.val) 0x098 = none →
    s.busRead m (0x2000000 + (0x060 + n.val) * 4096 + 0x098) 4 = (none, leBytes 4 (s.fabNow.get Reg.FAB_XFER_FULL n.val / 2 ^ 32), s)) ∧
  (∀ (m : Master) (p : Fin 32) (k : Fin 40) (s : State), s.readErr (0x0D0 + p.val) (0x204 + 8 * k.val) = none → k.val ≠ 29 →
    s.busRead m (0x2000000 + (0x0D0 + p.val) * 4096 + 0x204 + 8 * k.val) 4 =
      (none, leBytes 4 (s.get Reg.MAC_CNT_FULL p.val k.val / 2 ^ 32), s)) ∧
  (∀ (m : Master) (a n : Nat) (s : State), (s.busReadReg m true a n).1 = (s.busReadReg m false a n).1 ∧
    (s.busReadReg m true a n).2.2 = s) ∧
  (∀ (a n : Nat) (got : List Nat) (s : State), (s.sbFetch true a n got).2.2 = s) ∧
  (∀ (m : Master) (a : Nat) (bs : List Byte) (s : State), 0x2000000 ≤ a → a < 0x3000000 → s.busWrite m a bs = (none, s))

/-- R402. -/
def Obligations.ReservedPagesAreErrors : Prop :=
  (∀ p : Fin 4096, pageDefined p.val = true ↔
    ∃ r ∈ [(0, 2), (8, 1), (0x10, 3), (0x18, 2), (0x20, 4), (0x28, 1), (0x30, 1), (0x40, 26), (0x60, 4), (0x68, 3), (0x70, 37), (0xA0, 1),
      (0xA8, 32), (0xD0, 32), (0xF0, 24), (0x108, 8), (0x110, 16), (0x120, 64), (0x160, 18)], r.1 ≤ p.val ∧ p.val < r.1 + r.2) ∧
  (∀ p : Fin 4096, 0x172 ≤ p.val → pageDefined p.val = false) ∧
  (∀ p : Fin 4096, pageType p.val ≠ 0x0F ∧ pageType p.val < 0x22) ∧
  AccErr.reserved.code = 2 ∧ AccErr.reserved.status = 0x84 ∧
  (∀ (page off : Nat) (s : State), s.heelStands = false → pageDefined page = false → s.readErr page off = some .reserved) ∧
  (∀ (m : Master) (page off w : Nat) (s : State), s.heelStands = false → pageDefined page = false → s.writeWord m page off w = (some .reserved, s)) ∧
  (∀ (p o : Fin 4096) (w : Word) (s : State), s.heelStands = false → s.sbOn = true → pageDefined p.val = false → s.wdg.resetDue = false →
    exec (.registerWrite .sideband p o w) s = .next { s with sbResp := ⟨0x84, 0, []⟩ } ∧
    exec (.clearOnRead .sideband p o) s = .next { s with sbResp := ⟨0x84, 0, []⟩ } ∧
    (∀ on, exec (.pageEnableWrite .sideband p on) s = .next { s with sbResp := ⟨0x84, 0, []⟩ })) ∧
  (∀ (p o : Fin 4096) (s : State), s.heelStands = false → pageDefined p.val = false →
    exec (.clearOnRead .host p o) s = .next (s.readFail (p.val * 4096 + o.val) 2))

/-- R60 and R396. -/
def Obligations.CommitAndOpenAreRefused : Prop :=
  (∀ (m : Master) (z s : State), s = z.sent m → s.grants m pgLST → s.lsState ≠ lsOPEN → ∃ t, exec (.commitGo m) z = .next t ∧
    t = s.err pgLST 0x0A0 ecSTATE m ∧ t.get Reg.PG_ERR_COUNT_COUNT pgLST = min 0xFFFF (s.get Reg.PG_ERR_COUNT_COUNT pgLST + 1) ∧
    t.lst = s.lst ∧ t.lsState = s.lsState ∧ t.get Reg.LST_STAT_PENDING = s.get Reg.LST_STAT_PENDING ∧
    t.get Reg.LST_GEN_GEN = s.get Reg.LST_GEN_GEN ∧ t.clr = s.clr) ∧
  (∀ (m : Master) (z s : State), s = z.sent m → s.grants m pgUPD → s.inTrial = true → s.flag Reg.UPD_STAT_BUSY = false → s.ownerLocked = false →
    ∃ t, exec (.updOpen m) z = .next t ∧ t = s.updResult 1 urTRIAL ∧ t.get Reg.UPD_RESULT_CODE = 7 ∧ t.get Reg.UPD_RESULT_SOURCE = 1 ∧
    t.flag Reg.UPD_IRQ_CMD_ERR = true ∧ t.get Reg.UPD_STAT_SESSION = s.get Reg.UPD_STAT_SESSION ∧ t.upd = s.upd)
end

