-- ==== Sys2Proof/Laws/Maps.lean ====
section
/-! SUPPORT. The canonical form of the sparse maps: every operation over a map keeps it, and so do the named operations over
the memories. -/
namespace Sys2Proof.Machine

variable {V : Type}

theorem AMap.mem_ins {m : AMap V} {k : Nat} {v : V} {c : Nat × V} (h : c ∈ AMap.ins m k v) : c = (k, v) ∨ c ∈ m := by
  induction m with
  | nil => simp_all [AMap.ins]
  | cons x r ih =>
    simp only [AMap.ins] at h
    split at h
    · simpa using h
    · split at h
      · rcases List.mem_cons.mp h with h | h
        · exact .inl h
        · exact .inr (List.mem_cons_of_mem _ h)
      · rcases List.mem_cons.mp h with h | h
        · exact .inr (h ▸ List.mem_cons_self)
        · rcases ih h with h | h
          · exact .inl h
          · exact .inr (List.mem_cons_of_mem _ h)

theorem AMap.sorted_ins {m : AMap V} {k : Nat} {v : V} (h : AMap.Sorted m) : AMap.Sorted (AMap.ins m k v) := by
  induction m with
  | nil => simp [AMap.ins, AMap.Sorted]
  | cons x r ih =>
    obtain ⟨h1, h2⟩ := List.pairwise_cons.mp h
    simp only [AMap.ins]
    split
    · rename_i hk
      refine List.pairwise_cons.mpr ⟨fun c hc => ?_, h⟩
      rcases List.mem_cons.mp hc with rfl | hc
      · exact hk
      · exact Nat.lt_trans hk (h1 c hc)
    · split
      · rename_i e
        exact List.pairwise_cons.mpr ⟨fun c hc => by simpa [e] using h1 c hc, h2⟩
      · refine List.pairwise_cons.mpr ⟨fun c hc => ?_, ih h2⟩
        rcases AMap.mem_ins hc with rfl | hc
        · simp only; omega
        · exact h1 c hc

theorem AMap.sorted_filter {m : AMap V} {p : Nat × V → Bool} (h : AMap.Sorted m) : AMap.Sorted (m.filter p) := h.filter _

theorem AMap.wf_nil {d : Nat → V} : AMap.Wf d [] := ⟨.nil, fun _ h => by cases h⟩

theorem AMap.wf_filter {d : Nat → V} {m : AMap V} {p : Nat × V → Bool} (h : AMap.Wf d m) : AMap.Wf d (m.filter p) :=
  ⟨AMap.sorted_filter h.1, fun c hc => h.2 c (List.mem_filter.mp hc).1⟩

theorem AMap.wf_set [DecidableEq V] {d : Nat → V} {m : AMap V} {k : Nat} {v : V} (h : AMap.Wf d m) : AMap.Wf d (AMap.set d m k v) := by
  unfold AMap.set
  split
  · exact AMap.wf_filter h
  · rename_i hv
    refine ⟨AMap.sorted_ins h.1, fun c hc => ?_⟩
    rcases AMap.mem_ins hc with rfl | hc
    · exact hv
    · exact h.2 c hc

/-! ### The memories -/

theorem Lst.setByte_wf {l : Lst} {a : Nat} {b : Byte} (h : AMap.Wf zeroByte l.mem) : AMap.Wf zeroByte (l.setByte a b).mem := by
  cases e : l.undef <;> simpa [Lst.setByte, e] using AMap.wf_set h

theorem Lst.setBytes_wf {l : Lst} {a : Nat} {bs : List Byte} (h : AMap.Wf zeroByte l.mem) :
    AMap.Wf zeroByte (l.setBytes a bs).mem := by
  induction bs generalizing l a with
  | nil => exact h
  | cons b r ih => exact ih (Lst.setByte_wf h)

theorem Upd.store_wf {u : Upd} {a : Nat} {bs : List Byte} (h : AMap.Wf erased u.flash) : AMap.Wf erased (u.store a bs).flash := by
  induction bs generalizing u a with
  | nil => exact h
  | cons b r ih => exact ih (AMap.wf_set h)

theorem Upd.erase_wf {u : Upd} {a : Nat} (h : AMap.Wf erased u.flash) : AMap.Wf erased (u.erase a).flash := AMap.wf_filter h

theorem hostWriteBytes_sorted {m : AMap Byte} {a : Nat} {bs : List Byte} (h : AMap.Sorted m) :
    AMap.Sorted (hostWriteBytes m a bs) := by
  induction bs generalizing m a with
  | nil => exact h
  | cons b r ih => exact ih (AMap.sorted_ins h)

theorem State.mbxPut_wf {s : State} {off w : Nat} (h : AMap.Wf zeroByte s.mbx.req) : AMap.Wf zeroByte (s.mbxPut off w).mbx.req := by
  have key : ∀ (l : List (Byte × Nat)) (m : AMap Byte), AMap.Wf zeroByte m →
      AMap.Wf zeroByte (l.foldl (fun b c => AMap.set (fun _ => 0) b (off - 0x800 + c.2) c.1) m) := by
    intro l
    induction l with
    | nil => exact fun _ h => h
    | cons c r ih => exact fun m h => ih _ (AMap.wf_set h)
  unfold State.mbxPut
  split
  · exact h
  · exact key _ _ h

theorem fold_set_wf {d : Nat → Byte} {f : Nat → Nat} (l : List (Byte × Nat)) {m : AMap Byte} (h : AMap.Wf d m) :
    AMap.Wf d (l.foldl (fun m c => AMap.set d m (f c.2) c.1) m) := by
  induction l generalizing m with
  | nil => exact h
  | cons c r ih => exact ih (AMap.wf_set h)

/-- The byte memories are in canonical form: Last memory, the flash, the mailbox buffers, and host memory as written. -/
structure MemOk (l : Lst) (u : Upd) (x : Mbx) (h : Hdm) : Prop where
  lst : AMap.Wf zeroByte l.mem
  flash : AMap.Wf erased u.flash
  req : AMap.Wf zeroByte x.req
  rsp : AMap.Wf zeroByte x.rsp
  host : AMap.Sorted h.mem

/-- The byte memories of a state. -/
abbrev State.memOk (s : State) : Prop := MemOk s.lst s.upd s.mbx s.hdm

end Sys2Proof.Machine
end

