-- ==== Sys2Proof/Laws/Closed.lean ====
section
/-! SUPPORT. Predicates of states that every command keeps: `Closed P` says what the named updates must keep, and one lemma per
function says that it keeps such a P.  The proofs are per function, each citing its callees' lemmas. -/
namespace Sys2Proof.Machine

/-- P is kept by what a command can do to the register file, and by any change of the other components that keeps the
canonical form of the byte memories. -/
structure Closed (P : State → Prop) : Prop where
  put : ∀ {s : State} {f v i j m}, P s → P (s.put f v i j m)
  clearV : ∀ {s : State} {p}, P s → P (s.clearV p)
  dropT : ∀ {s t : State}, P s → t.regs = { s.regs with t := [] } → t.pending = s.pending → (s.memOk → t.memOk) → P t
  dropV : ∀ {s t : State}, P s → t.regs = { s.regs with v := [] } → t.pending = s.pending → (s.memOk → t.memOk) → P t
  blank : ∀ {s t : State}, P s → t.regs = State.reset.regs → t.pending = s.pending → (s.memOk → t.memOk) → P t
  upd : ∀ {s t : State}, P s → t.regs = s.regs → t.pending = s.pending → (s.memOk → t.memOk) → P t

/-- The state that a write path leaves. -/
def WritePath.Keeps (P : State → Prop) (w : WritePath) : Prop :=
  match w with
  | .gate k => ∀ u, P u → P (k u)
  | .free k => ∀ u, P u → P (k u)
  | .sel _ k => ∀ u, P u → P (k u)
  | .own a => P a.2

variable {P : State → Prop}

theorem keeps_mk (hP : Closed P) {s : State} (h : P s) {freeCtr lst flt clr sole sch fab tim lace macs mdio tca awl wak pwr wdg wlt hdm mbx cgu upd rd perrs sbResp}
    (hm : s.memOk → MemOk lst upd mbx hdm := by
      exact fun h => ⟨by first | exact h.lst | exact AMap.wf_nil, h.flash, by first | exact h.req | exact AMap.wf_nil, by first | exact h.rsp | exact AMap.wf_nil, h.host⟩) :
    P ⟨s.regs, freeCtr, lst, flt, clr, sole, sch, fab, tim, lace, macs, mdio, tca, awl, wak, pwr, wdg, wlt, hdm, mbx, cgu, upd, rd, perrs, sbResp, s.pending⟩ := hP.upd h rfl rfl hm

theorem keeps_ite {c : Prop} [Decidable c] {s t : State} (h : P s) (h' : P t) : P (if c then s else t) := by
  split <;> assumption

theorem keeps_ite_snd {α : Type} {c : Prop} [Decidable c] {x y : α × State} (h : P x.2) (h' : P y.2) :
    P (if c then x else y).2 := by
  split <;> assumption

theorem keeps_foldl {α : Type} {f : State → α → State} {l : List α} {s : State} (hf : ∀ u x, P u → P (f u x)) (h : P s) :
    P (l.foldl f s) := by
  induction l generalizing s with
  | nil => exact h
  | cons x r ih => exact ih (hf _ _ h)

theorem keeps_snd {α : Type} {x : α × State} {a : α} {t : State} (e : x = (a, t)) (h : P x.2) : P t := by
  rw [e] at h; exact h

theorem keeps_snd_snd {α β : Type} {x : α × β × State} {a : α} {b : β} {t : State} (e : x = (a, b, t)) (h : P x.2.2) : P t := by
  rw [e] at h; exact h

/-! ### The updates of a component that holds a byte memory -/

theorem State.lstSet_keeps (hP : Closed P) {a0 a1} (h0' : P a0)
    (hm : ∀ x, AMap.Wf zeroByte x.mem → AMap.Wf zeroByte (a1 x).mem := by
      first | exact fun _ h => h | exact fun _ h => Lst.setBytes_wf h) : P (State.lstSet a0 a1) :=
  hP.upd h0' rfl rfl (fun h => ⟨hm _ h.lst, h.flash, h.req, h.rsp, h.host⟩)

theorem State.updSet_keeps (hP : Closed P) {a0 a1} (h0' : P a0)
    (hm : ∀ x, AMap.Wf erased x.flash → AMap.Wf erased (a1 x).flash := by
      first | exact fun _ h => h | exact fun _ h => Upd.erase_wf h | exact fun _ h => Upd.store_wf h
            | exact fun _ h => Upd.store_wf (Upd.erase_wf h)) : P (State.updSet a0 a1) :=
  hP.upd h0' rfl rfl (fun h => ⟨h.lst, hm _ h.flash, h.req, h.rsp, h.host⟩)

theorem State.mbxSet_keeps (hP : Closed P) {a0 a1} (h0' : P a0)
    (hm : ∀ x, AMap.Wf zeroByte x.req → AMap.Wf zeroByte x.rsp →
        AMap.Wf zeroByte (a1 x).req ∧ AMap.Wf zeroByte (a1 x).rsp := by exact fun _ _ _ => ⟨AMap.wf_nil, AMap.wf_nil⟩) : P (State.mbxSet a0 a1) :=
  hP.upd h0' rfl rfl (fun h => ⟨h.lst, h.flash, (hm _ h.req h.rsp).1, (hm _ h.req h.rsp).2, h.host⟩)

theorem State.hdmSet_keeps (hP : Closed P) {a0 a1} (h0' : P a0)
    (hm : ∀ x, AMap.Sorted x.mem → AMap.Sorted (a1 x).mem := by
      first | exact fun _ h => h | exact fun _ h => AMap.sorted_ins h) : P (State.hdmSet a0 a1) :=
  hP.upd h0' rfl rfl (fun h => ⟨h.lst, h.flash, h.req, h.rsp, hm _ h.host⟩)

end Sys2Proof.Machine
end

