-- ==== Sys2Proof/Laws/Canonical.lean ====
section
/-! SUPPORT. The canonical form of the register maps and of the memories, and the queue, are predicates that every command
keeps. -/
namespace Sys2Proof.Machine

/-! ### The register maps -/

theorem RegFile.canonical_sel {r : RegFile} (h : r.Canonical) (k : Keep) : AMap.Wf cellDflt (r.sel k) := by
  cases k
  · exact h.1
  · exact h.2.1
  · exact AMap.wf_nil
  · exact h.2.2
  · exact AMap.wf_nil

theorem RegFile.canonical_upd {r : RegFile} {k : Keep} {a : AMap Nat} (h : r.Canonical) (ha : AMap.Wf cellDflt a) :
    (r.upd k a).Canonical := by
  obtain ⟨h1, h2, h3⟩ := h
  cases k
  · exact ⟨ha, h2, h3⟩
  · exact ⟨h1, ha, h3⟩
  · exact ⟨h1, h2, h3⟩
  · exact ⟨h1, h2, ha⟩
  · exact ⟨h1, h2, h3⟩

theorem RegFile.canonical_init : RegFile.Canonical .init := by unfold RegFile.Canonical; decide

/-- The canonical form of the register maps is kept by whatever a command does to them. -/
theorem canonical_closed : Closed (fun s => RegFile.Canonical s.regs) where
  put h := RegFile.canonical_upd h (AMap.wf_set (RegFile.canonical_sel h _))
  clearV h := ⟨h.1, h.2.1, AMap.wf_filter h.2.2⟩
  dropT h e _ _ := by rw [e]; exact ⟨h.1, AMap.wf_nil, h.2.2⟩
  dropV h e _ _ := by rw [e]; exact ⟨h.1, h.2.1, AMap.wf_nil⟩
  blank _ e _ _ := by rw [e]; exact RegFile.canonical_init
  upd h e _ _ := by rw [e]; exact h

/-- No operation below a command changes the queue. -/
theorem pending_closed (q : List Instr) : Closed (fun s => s.pending = q) where
  put h := h
  clearV h := h
  dropT h _ e _ := e.trans h
  dropV h _ e _ := e.trans h
  blank h _ e _ := e.trans h
  upd h _ e _ := e.trans h

/-! ### The memories -/

theorem Memory.wf_reset : Memory.wf State.reset := by decide

theorem Memory.wf_iff {s : State} : Memory.wf s ↔ RegFile.Canonical s.regs ∧ s.memOk :=
  ⟨fun ⟨h, t, v, l, f, q, r, m⟩ => ⟨⟨h, t, v⟩, ⟨l, f, q, r, m⟩⟩,
   fun ⟨⟨h, t, v⟩, ⟨l, f, q, r, m⟩⟩ => ⟨h, t, v, l, f, q, r, m⟩⟩

/-- The canonical form of every map and memory is kept by whatever a command does to them. -/
theorem memory_closed : Closed Memory.wf where
  put h := Memory.wf_iff.mpr ⟨canonical_closed.put (Memory.wf_iff.mp h).1, (Memory.wf_iff.mp h).2⟩
  clearV h := Memory.wf_iff.mpr ⟨canonical_closed.clearV (Memory.wf_iff.mp h).1, (Memory.wf_iff.mp h).2⟩
  dropT h e q k := Memory.wf_iff.mpr ⟨canonical_closed.dropT (Memory.wf_iff.mp h).1 e q k, k (Memory.wf_iff.mp h).2⟩
  dropV h e q k := Memory.wf_iff.mpr ⟨canonical_closed.dropV (Memory.wf_iff.mp h).1 e q k, k (Memory.wf_iff.mp h).2⟩
  blank h e q k := Memory.wf_iff.mpr ⟨canonical_closed.blank (Memory.wf_iff.mp h).1 e q k, k (Memory.wf_iff.mp h).2⟩
  upd h e q k := Memory.wf_iff.mpr ⟨canonical_closed.upd (Memory.wf_iff.mp h).1 e q k, k (Memory.wf_iff.mp h).2⟩

end Sys2Proof.Machine
end

