-- ==== Sys2Proof/Laws/KeepsA.lean ====
section
/-! SUPPORT. One lemma per function: it keeps a `Closed` predicate.  Functions of Machine: Ops, Gates, Slices, Macsec, Buffer, Shape, Flush, Rules, Enqueue. -/
namespace Sys2Proof.Machine

set_option Elab.async false
variable {P : State → Prop}

theorem State.put_keeps (hP : Closed P) {a0 a1 a2 a3 a4 a5} (h0' : P a0) : P (State.put a0 a1 a2 a3 a4 a5) := hP.put h0'

theorem State.inc_keeps (hP : Closed P) {a0 a1 a2 a3 a4} (h0' : P a0) : P (State.inc a0 a1 a2 a3 a4) := by
  unfold State.inc
  refine State.put_keeps hP ?_
  exact h0'

theorem State.incWrap_keeps (hP : Closed P) {a0 a1 a2 a3 a4} (h0' : P a0) : P (State.incWrap a0 a1 a2 a3 a4) := by
  unfold State.incWrap
  refine State.put_keeps hP ?_
  exact h0'

theorem State.raise_keeps (hP : Closed P) {a0 a1 a2 a3} (h0' : P a0) : P (State.raise a0 a1 a2 a3) := by
  unfold State.raise
  refine State.put_keeps hP ?_
  exact h0'

theorem State.draw_keeps (hP : Closed P) {a0 a1} (h0' : P a0) : P (State.draw a0 a1).2 := by
  unfold State.draw
  dsimp only
  refine keeps_mk hP ?_
  exact h0'

theorem State.xtalAmp_keeps (hP : Closed P) {a0} (h0' : P a0) : P (State.xtalAmp a0) := by
  unfold State.xtalAmp
  refine keeps_mk hP ?_
  exact h0'

theorem State.err_keeps (hP : Closed P) {a0 a1 a2 a3 a4 a5} (h0' : P a0) : P (State.err a0 a1 a2 a3 a4 a5) := by
  unfold State.err
  extract_lets +onlyGivenNames v1
  have h1 : P v1 := by
    unfold v1
    refine State.inc_keeps hP ?_
    exact h0'
  clear_value v1
  extract_lets +onlyGivenNames v2
  have h2 : P v2 := by
    unfold v2
    refine keeps_ite ?_ ?_
    · refine State.put_keeps hP ?_
      exact h1
    · refine keeps_ite ?_ ?_
      · refine State.put_keeps hP ?_
        exact h1
      · refine State.put_keeps hP ?_
        exact h1
  clear_value v2
  extract_lets +onlyGivenNames v3
  have h3 : P v3 := by
    unfold v3
    refine State.put_keeps hP ?_
    exact h2
  clear_value v3
  extract_lets +onlyGivenNames v4
  have h4 : P v4 := by
    unfold v4
    refine State.put_keeps hP ?_
    exact h3
  clear_value v4
  extract_lets +onlyGivenNames v5
  have h5 : P v5 := by
    unfold v5
    refine State.put_keeps hP ?_
    exact h4
  clear_value v5
  refine State.put_keeps hP ?_
  exact h5

theorem State.ownErr_keeps (hP : Closed P) {a0 a1} (h0' : P a0) : P (State.ownErr a0 a1) := by
  unfold State.ownErr
  split
  · refine State.inc_keeps hP ?_
    exact h0'
  · refine State.inc_keeps hP ?_
    exact h0'
  · exact h0'

theorem State.heel_keeps (hP : Closed P) {a0 a1} (h0' : P a0) (h1' : ∀ x0, P x0 → P (a1 x0)) : P (State.heel a0 a1) := by
  unfold State.heel
  refine keeps_ite ?_ ?_
  · exact h0'
  · refine h1' _ ?_
    exact h0'

theorem State.gate0_keeps (hP : Closed P) {a0 a1 a2 a3 a4} (h0' : P a0) (h4' : ∀ x0, P x0 → P (a4 x0)) : P (State.gate0 a0 a1 a2 a3 a4).2 := by
  unfold State.gate0
  split
  · dsimp only
    exact h0'
  · split
    · dsimp only
      exact h0'
    · split
      · dsimp only
        exact h0'
      · split
        · dsimp only
          exact h0'
        · split
          · dsimp only
            refine State.ownErr_keeps hP ?_
            exact h0'
          · dsimp only
            refine h4' _ ?_
            exact h0'

theorem State.gate_keeps (hP : Closed P) {a0 a1 a2 a3 a4} (h0' : P a0) (h4' : ∀ x0, P x0 → P (a4 x0)) : P (State.gate a0 a1 a2 a3 a4).2 := by
  unfold State.gate
  refine State.gate0_keeps hP ?_ ?_
  · exact h0'
  · intro u1_0 u1_1
    refine keeps_ite ?_ ?_
    · refine State.err_keeps hP ?_
      exact u1_1
    · refine h4' _ ?_
      exact u1_1

theorem State.perr_keeps (hP : Closed P) {a0 a1 a2} (h0' : P a0) : P (State.perr a0 a1 a2) := by
  unfold State.perr
  extract_lets +onlyGivenNames v1
  clear_value v1
  extract_lets +onlyGivenNames v2
  have h2 : P v2 := by
    unfold v2
    refine State.raise_keeps hP ?_
    exact h0'
  clear_value v2
  refine keeps_ite ?_ ?_
  · extract_lets +onlyGivenNames v3
    clear_value v3
    extract_lets +onlyGivenNames v4
    have h4 : P v4 := by
      unfold v4
      refine keeps_mk hP ?_
      exact h2
    clear_value v4
    refine State.put_keeps hP ?_
    exact h4
  · refine State.raise_keeps hP ?_
    refine State.inc_keeps hP ?_
    exact h2

theorem State.answer_keeps (hP : Closed P) {a0 a1 a2 a3 a4} (h' : P a4.2) : P (State.answer a0 a1 a2 a3 a4) := by
  rcases a4 with ⟨e, t⟩
  cases e with
  | none => exact h'
  | some e =>
    cases a1 with
    | host => exact State.perr_keeps hP h'
    | sideband => exact keeps_mk hP h'
    | firmware => exact h'

theorem State.numbered_keeps (hP : Closed P) {a0} (h0' : P a0) : P (State.numbered a0) := by
  unfold State.numbered
  refine keeps_ite ?_ ?_
  · refine State.put_keeps hP ?_
    exact h0'
  · exact h0'

theorem State.command_keeps (hP : Closed P) {a0 a1 a2 a3 a4} (h0' : P a0) (h4' : ∀ x0, P x0 → P (a4 x0).2) : P (State.command a0 a1 a2 a3 a4) := by
  unfold State.command
  split
  · refine State.answer_keeps hP ?_
    refine h4' _ ?_
    refine State.numbered_keeps hP ?_
    exact h0'
  · refine keeps_ite ?_ ?_
    · refine State.answer_keeps hP ?_
      refine h4' _ ?_
      exact h0'
    · exact h0'
  · refine State.answer_keeps hP ?_
    refine h4' _ ?_
    exact h0'

theorem State.direct_keeps (hP : Closed P) {a0 a1 a2 a3 a4} (h0' : P a0) (h4' : ∀ x0, P x0 → P (a4 x0)) : P (State.direct a0 a1 a2 a3 a4) := by
  unfold State.direct
  refine State.command_keeps hP ?_ ?_
  · exact h0'
  · intro u1_0 u1_1
    refine State.gate_keeps hP ?_ ?_
    · exact u1_1
    · intro u2_0 u2_1
      refine h4' _ ?_
      exact u2_1

theorem State.gateFree_keeps (hP : Closed P) {a0 a1 a2 a3} (h0' : P a0) (h3' : ∀ x0, P x0 → P (a3 x0)) : P (State.gateFree a0 a1 a2 a3).2 := by
  unfold State.gateFree
  split
  · dsimp only
    exact h0'
  · split
    · dsimp only
      exact h0'
    · split
      · dsimp only
        exact h0'
      · split
        · dsimp only
          exact h0'
        · dsimp only
          refine h3' _ ?_
          exact h0'

theorem State.directFree_keeps (hP : Closed P) {a0 a1 a2 a3 a4} (h0' : P a0) (h4' : ∀ x0, P x0 → P (a4 x0)) : P (State.directFree a0 a1 a2 a3 a4) := by
  unfold State.directFree
  refine State.command_keeps hP ?_ ?_
  · exact h0'
  · intro u1_0 u1_1
    refine State.gateFree_keeps hP ?_ ?_
    · exact u1_1
    · intro u2_0 u2_1
      refine h4' _ ?_
      exact u2_1

theorem State.devCause_keeps (hP : Closed P) {a0 a1 a2} (h0' : P a0) : P (State.devCause a0 a1 a2) := by
  unfold State.devCause
  extract_lets +onlyGivenNames v1
  clear_value v1
  extract_lets +onlyGivenNames v2
  have h2 : P v2 := by
    unfold v2
    refine State.put_keeps hP ?_
    exact h0'
  clear_value v2
  refine keeps_ite ?_ ?_
  · extract_lets +onlyGivenNames v3
    have h3 : P v3 := by
      unfold v3
      refine State.inc_keeps hP ?_
      exact h2
    clear_value v3
    refine keeps_foldl (fun u4 x4 h4 => ?_) ?_
    · refine keeps_ite ?_ ?_
      · exact h4
      · refine State.inc_keeps hP ?_
        exact h4
    · exact h3
  · exact h2

theorem State.portCauseSet_keeps (hP : Closed P) {a0 a1 a2 a3} (h0' : P a0) : P (State.portCauseSet a0 a1 a2 a3) := by
  unfold State.portCauseSet
  extract_lets +onlyGivenNames v1
  clear_value v1
  extract_lets +onlyGivenNames v2
  have h2 : P v2 := by
    unfold v2
    refine State.put_keeps hP ?_
    exact h0'
  clear_value v2
  refine keeps_ite ?_ ?_
  · refine State.inc_keeps hP ?_
    exact h2
  · exact h2

theorem State.checkStartup_keeps (hP : Closed P) {a0} (h0' : P a0) : P (State.checkStartup a0) := by
  unfold State.checkStartup
  refine keeps_ite ?_ ?_
  · refine State.devCause_keeps hP ?_
    exact h0'
  · exact h0'

theorem State.recordFault_keeps (hP : Closed P) {a0 a1 a2 a3} (h0' : P a0) : P (State.recordFault a0 a1 a2 a3) := by
  unfold State.recordFault
  extract_lets +onlyGivenNames v1
  clear_value v1
  refine keeps_ite ?_ ?_
  · extract_lets +onlyGivenNames v2
    clear_value v2
    extract_lets +onlyGivenNames v3
    clear_value v3
    extract_lets +onlyGivenNames v4
    have h4 : P v4 := by
      unfold v4
      refine State.put_keeps hP ?_
      exact h0'
    clear_value v4
    extract_lets +onlyGivenNames v5
    have h5 : P v5 := by
      unfold v5
      refine State.put_keeps hP ?_
      exact h4
    clear_value v5
    extract_lets +onlyGivenNames v6
    have h6 : P v6 := by
      unfold v6
      refine State.put_keeps hP ?_
      exact h5
    clear_value v6
    extract_lets +onlyGivenNames v7
    have h7 : P v7 := by
      unfold v7
      refine State.put_keeps hP ?_
      exact h6
    clear_value v7
    extract_lets +onlyGivenNames v8
    have h8 : P v8 := by
      unfold v8
      refine State.put_keeps hP ?_
      exact h7
    clear_value v8
    extract_lets +onlyGivenNames v9
    have h9 : P v9 := by
      unfold v9
      refine State.put_keeps hP ?_
      exact h8
    clear_value v9
    extract_lets +onlyGivenNames v10
    have h10 : P v10 := by
      unfold v10
      refine State.put_keeps hP ?_
      exact h9
    clear_value v10
    extract_lets +onlyGivenNames v11
    have h11 : P v11 := by
      unfold v11
      refine State.put_keeps hP ?_
      exact h10
    clear_value v11
    extract_lets +onlyGivenNames v12
    clear_value v12
    extract_lets +onlyGivenNames v13
    have h13 : P v13 := by
      unfold v13
      refine keeps_mk hP ?_
      exact h11
    clear_value v13
    refine keeps_ite ?_ ?_
    · exact h13
    · refine State.raise_keeps hP ?_
      exact h13
  · refine State.inc_keeps hP ?_
    exact h0'

theorem State.stormEnter_keeps (hP : Closed P) {a0} (h0' : P a0) : P (State.stormEnter a0) := by
  unfold State.stormEnter
  extract_lets +onlyGivenNames v1
  have h1 : P v1 := by
    unfold v1
    refine State.put_keeps hP ?_
    exact h0'
  clear_value v1
  extract_lets +onlyGivenNames v2
  have h2 : P v2 := by
    unfold v2
    refine State.inc_keeps hP ?_
    exact h1
  clear_value v2
  extract_lets +onlyGivenNames v3
  have h3 : P v3 := by
    unfold v3
    refine State.raise_keeps hP ?_
    exact h2
  clear_value v3
  extract_lets +onlyGivenNames v4
  clear_value v4
  refine keeps_mk hP ?_
  exact h3

theorem State.fault_keeps (hP : Closed P) {a0 a1 a2} (h0' : P a0) : P (State.fault a0 a1 a2) := by
  unfold State.fault
  extract_lets +onlyGivenNames v1
  clear_value v1
  extract_lets +onlyGivenNames v2
  clear_value v2
  extract_lets +onlyGivenNames v3
  clear_value v3
  extract_lets +onlyGivenNames v4
  clear_value v4
  extract_lets +onlyGivenNames v5
  have h5 : P v5 := by
    unfold v5
    refine keeps_mk hP ?_
    exact h0'
  clear_value v5
  extract_lets +onlyGivenNames v6
  clear_value v6
  extract_lets +onlyGivenNames v7
  have h7 : P v7 := by
    unfold v7
    refine keeps_ite ?_ ?_
    · refine State.stormEnter_keeps hP ?_
      exact h5
    · exact h5
  clear_value v7
  extract_lets +onlyGivenNames v8
  clear_value v8
  extract_lets +onlyGivenNames v9
  have h9 : P v9 := by
    unfold v9
    refine keeps_ite ?_ ?_
    · refine State.inc_keeps hP ?_
      exact h7
    · exact h7
  clear_value v9
  extract_lets +onlyGivenNames v10
  clear_value v10
  extract_lets +onlyGivenNames v11
  have h11 : P v11 := by
    unfold v11
    refine keeps_ite ?_ ?_
    · refine keeps_mk hP ?_
      exact h9
    · exact h9
  clear_value v11
  refine keeps_ite ?_ ?_
  · exact h11
  · extract_lets +onlyGivenNames v12
    have h12 : P v12 := by
      unfold v12
      refine State.recordFault_keeps hP ?_
      exact h11
    clear_value v12
    extract_lets +onlyGivenNames v13
    clear_value v13
    extract_lets +onlyGivenNames v14
    have h14 : P v14 := by
      unfold v14
      refine keeps_ite ?_ ?_
      · refine State.recordFault_keeps hP ?_
        exact h11
      · refine keeps_ite ?_ ?_
        · refine keeps_mk hP ?_
          exact h12
        · refine keeps_ite ?_ ?_
          · refine State.inc_keeps hP ?_
            exact h11
          · exact h11
    clear_value v14
    extract_lets +onlyGivenNames v15
    clear_value v15
    extract_lets +onlyGivenNames v16
    have h16 : P v16 := by
      unfold v16
      refine keeps_mk hP ?_
      exact h14
    clear_value v16
    refine keeps_ite ?_ ?_
    · refine State.devCause_keeps hP ?_
      exact h16
    · split
      · refine State.portCauseSet_keeps hP ?_
        exact h16
      · exact h16

theorem State.nmi_keeps (hP : Closed P) {a0 a1} (h0' : P a0) : P (State.nmi a0 a1) := by
  unfold State.nmi
  refine State.put_keeps hP ?_
  exact h0'

theorem State.clearV_keeps (hP : Closed P) {a0 a1} (h0' : P a0) : P (State.clearV a0 a1) := hP.clearV h0'

theorem State.lceSet_keeps (hP : Closed P) {a0 a1 a2} (h0' : P a0) : P (State.lceSet a0 a1 a2) := by
  unfold State.lceSet
  refine keeps_mk hP ?_
  exact h0'

theorem State.fabSet_keeps (hP : Closed P) {a0 a1} (h0' : P a0) : P (State.fabSet a0 a1) := by
  unfold State.fabSet
  refine keeps_mk hP ?_
  exact h0'

theorem State.sliceSet_keeps (hP : Closed P) {a0 a1 a2} (h0' : P a0) : P (State.sliceSet a0 a1 a2) := by
  unfold State.sliceSet
  refine State.fabSet_keeps hP ?_
  exact h0'

theorem State.sliceServed_keeps (hP : Closed P) {a0 a1} (h0' : P a0) : P (State.sliceServed a0 a1) := by
  unfold State.sliceServed
  extract_lets +onlyGivenNames v1
  clear_value v1
  refine keeps_ite ?_ ?_
  · exact h0'
  · extract_lets +onlyGivenNames v2
    clear_value v2
    refine State.sliceSet_keeps hP ?_
    refine State.incWrap_keeps hP ?_
    exact h0'

theorem State.fabNow_keeps (hP : Closed P) {a0} (h0' : P a0) : P (State.fabNow a0) := by
  unfold State.fabNow
  refine keeps_foldl (fun u1 x1 h1 => ?_) ?_
  · refine State.sliceServed_keeps hP ?_
    exact h1
  · exact h0'

theorem State.dealOne_keeps (hP : Closed P) {a0 a1 a2} (h0' : P a0) : P (State.dealOne a0 a1 a2) := by
  unfold State.dealOne
  split
  · refine State.fabSet_keeps hP ?_
    exact h0'
  · extract_lets +onlyGivenNames v1
    clear_value v1
    extract_lets +onlyGivenNames v2
    clear_value v2
    extract_lets +onlyGivenNames v3
    clear_value v3
    refine State.sliceSet_keeps hP ?_
    exact h0'

theorem State.deal_keeps (hP : Closed P) {a0 a1 a2} (h0' : P a0) : P (State.deal a0 a1 a2) := by
  unfold State.deal
  refine keeps_ite ?_ ?_
  · exact h0'
  · refine keeps_foldl (fun u1 x1 h1 => ?_) ?_
    · refine State.dealOne_keeps hP ?_
      exact h1
    · refine State.fabNow_keeps hP ?_
      exact h0'

theorem State.sliceClear_keeps (hP : Closed P) {a0 a1} (h0' : P a0) : P (State.sliceClear a0 a1) := by
  unfold State.sliceClear
  extract_lets +onlyGivenNames v1
  clear_value v1
  refine State.sliceSet_keeps hP ?_
  exact h0'

theorem State.dealWaiting_keeps (hP : Closed P) {a0} (h0' : P a0) : P (State.dealWaiting a0) := by
  unfold State.dealWaiting
  refine keeps_ite ?_ ?_
  · exact h0'
  · refine keeps_foldl (fun u1 x1 h1 => ?_) ?_
    · refine State.dealOne_keeps hP ?_
      exact h1
    · refine State.fabSet_keeps hP ?_
      exact h0'

theorem State.fabWrote_keeps (hP : Closed P) {a0 a1 a2 a3 a4} (h0' : P a0) : P (State.fabWrote a0 a1 a2 a3 a4) := by
  unfold State.fabWrote
  refine State.deal_keeps hP ?_
  refine State.fabSet_keeps hP ?_
  exact h0'

theorem State.fabLinked_keeps (hP : Closed P) {a0 a1 a2 a3} (h0' : P a0) : P (State.fabLinked a0 a1 a2 a3) := by
  unfold State.fabLinked
  refine State.deal_keeps hP ?_
  refine State.fabSet_keeps hP ?_
  exact h0'

theorem State.fabRead_keeps (hP : Closed P) {a0 a1 a2 a3 a4} (h0' : P a0) : P (State.fabRead a0 a1 a2 a3 a4) := by
  unfold State.fabRead
  refine State.deal_keeps hP ?_
  refine State.fabSet_keeps hP ?_
  exact h0'

theorem State.xferDrop_keeps (hP : Closed P) {a0 a1} (h0' : P a0) : P (State.xferDrop a0 a1) := by
  unfold State.xferDrop
  refine keeps_ite ?_ ?_
  · exact h0'
  · extract_lets +onlyGivenNames v1
    have h1 : P v1 := by
      unfold v1
      refine State.fabNow_keeps hP ?_
      exact h0'
    clear_value v1
    extract_lets +onlyGivenNames v2
    clear_value v2
    extract_lets +onlyGivenNames v3
    clear_value v3
    extract_lets +onlyGivenNames v4
    clear_value v4
    extract_lets +onlyGivenNames v5
    clear_value v5
    refine State.fabSet_keeps hP ?_
    exact h1

theorem State.tcaSet_keeps (hP : Closed P) {a0 a1} (h0' : P a0) : P (State.tcaSet a0 a1) := by
  unfold State.tcaSet
  refine keeps_mk hP ?_
  exact h0'

theorem State.saSet_keeps (hP : Closed P) {a0 a1 a2} (h0' : P a0) : P (State.saSet a0 a1 a2) := by
  unfold State.saSet
  refine State.tcaSet_keeps hP ?_
  exact h0'

theorem State.tcCount_keeps (hP : Closed P) {a0 a1 a2} (h0' : P a0) : P (State.tcCount a0 a1 a2) := by
  unfold State.tcCount
  extract_lets +onlyGivenNames v1
  clear_value v1
  extract_lets +onlyGivenNames v2
  clear_value v2
  refine State.tcaSet_keeps hP ?_
  exact h0'

theorem State.tcErr_keeps (hP : Closed P) {a0 a1 a2} (h0' : P a0) : P (State.tcErr a0 a1 a2) := by
  unfold State.tcErr
  extract_lets +onlyGivenNames v1
  have h1 : P v1 := by
    unfold v1
    refine State.inc_keeps hP ?_
    exact h0'
  clear_value v1
  extract_lets +onlyGivenNames v2
  have h2 : P v2 := by
    unfold v2
    refine State.raise_keeps hP ?_
    exact h1
  clear_value v2
  extract_lets +onlyGivenNames v3
  have h3 : P v3 := by
    unfold v3
    refine State.inc_keeps hP ?_
    exact h2
  clear_value v3
  refine State.put_keeps hP ?_
  exact h3

theorem State.tcEvent_keeps (hP : Closed P) {a0 a1 a2} (h0' : P a0) : P (State.tcEvent a0 a1 a2) := by
  unfold State.tcEvent
  refine keeps_ite ?_ ?_
  · extract_lets +onlyGivenNames v1
    have h1 : P v1 := by
      unfold v1
      refine keeps_ite ?_ ?_
      · refine State.raise_keeps hP ?_
        exact h0'
      · exact h0'
    clear_value v1
    refine State.tcaSet_keeps hP ?_
    exact h1
  · refine State.inc_keeps hP ?_
    exact h0'

theorem State.takePn_keeps (hP : Closed P) {a0 a1} (h0' : P a0) : P (State.takePn a0 a1).2 := by
  unfold State.takePn
  extract_lets +onlyGivenNames v1
  clear_value v1
  extract_lets +onlyGivenNames v2
  clear_value v2
  extract_lets +onlyGivenNames v3
  clear_value v3
  extract_lets +onlyGivenNames v4
  clear_value v4
  extract_lets +onlyGivenNames v5
  clear_value v5
  extract_lets +onlyGivenNames v6
  have h6 : P v6 := by
    unfold v6
    refine State.saSet_keeps hP ?_
    exact h0'
  clear_value v6
  extract_lets +onlyGivenNames v7
  have h7 : P v7 := by
    unfold v7
    refine keeps_ite ?_ ?_
    · refine State.tcEvent_keeps hP ?_
      exact h6
    · exact h6
  clear_value v7
  dsimp only
  refine keeps_ite ?_ ?_
  · refine State.tcEvent_keeps hP ?_
    exact h7
  · exact h7

theorem State.clrSet_keeps (hP : Closed P) {a0 a1} (h0' : P a0) : P (State.clrSet a0 a1) := by
  unfold State.clrSet
  refine keeps_mk hP ?_
  exact h0'

theorem State.modFrame_keeps (hP : Closed P) {a0 a1 a2} (h0' : P a0) : P (State.modFrame a0 a1 a2) := by
  unfold State.modFrame
  refine State.clrSet_keeps hP ?_
  exact h0'

theorem State.modCopy_keeps (hP : Closed P) {a0 a1 a2} (h0' : P a0) : P (State.modCopy a0 a1 a2) := by
  unfold State.modCopy
  refine State.clrSet_keeps hP ?_
  exact h0'

theorem State.stampTx_keeps (hP : Closed P) {a0 a1 a2} (h0' : P a0) : P (State.stampTx a0 a1 a2) := by
  unfold State.stampTx
  refine keeps_ite ?_ ?_
  · exact h0'
  · extract_lets +onlyGivenNames v1
    clear_value v1
    refine keeps_mk hP ?_
    exact h0'

theorem State.stampCan_keeps (hP : Closed P) {a0 a1} (h0' : P a0) : P (State.stampCan a0 a1) := by
  unfold State.stampCan
  refine keeps_mk hP ?_
  exact h0'

theorem State.addFrame_keeps (hP : Closed P) {a0 a1} (h0' : P a0) : P (State.addFrame a0 a1) := by
  unfold State.addFrame
  refine State.clrSet_keeps hP ?_
  exact h0'

theorem State.soleSet_keeps (hP : Closed P) {a0 a1} (h0' : P a0) : P (State.soleSet a0 a1) := by
  unfold State.soleSet
  refine keeps_mk hP ?_
  exact h0'

theorem State.allocCells_keeps (hP : Closed P) {a0 a1 a2} (h0' : P a0) : P (State.allocCells a0 a1 a2).2 := by
  induction a2 generalizing a0 with
  | zero => exact h0'
  | succ n ih =>
    simp only [State.allocCells]
    split
    · exact h0'
    · exact ih (State.soleSet_keeps hP h0')

theorem State.freeCells_keeps (hP : Closed P) {a0 a1} (h0' : P a0) : P (State.freeCells a0 a1) := by
  unfold State.freeCells
  extract_lets +onlyGivenNames v1
  have h1 : P v1 := by
    unfold v1
    refine State.soleSet_keeps hP ?_
    exact h0'
  clear_value v1
  refine State.soleSet_keeps hP ?_
  exact h1

theorem State.drawCells_keeps (hP : Closed P) {a0 a1 a2 a3} (h0' : P a0) : P (State.drawCells a0 a1 a2 a3).2 := by
  induction a2 generalizing a0 a3 with
  | nil => exact h0'
  | cons p r ih =>
    simp only [State.drawCells]
    split
    · exact ih h0'
    · refine ih (State.modFrame_keeps hP (State.allocCells_keeps hP ?_))
      split
      · exact State.raise_keeps hP h0'
      · exact h0'

theorem State.reap_keeps (hP : Closed P) {a0} (h0' : P a0) : P (State.reap a0) := by
  unfold State.reap
  extract_lets +onlyGivenNames v1
  clear_value v1
  extract_lets +onlyGivenNames v2
  have h2 : P v2 := by
    unfold v2
    refine State.freeCells_keeps hP ?_
    exact h0'
  clear_value v2
  refine State.clrSet_keeps hP ?_
  exact h2

theorem State.svcDrop_keeps (hP : Closed P) {a0 a1 a2} (h0' : P a0) : P (State.svcDrop a0 a1 a2) := by
  unfold State.svcDrop
  extract_lets +onlyGivenNames v1
  clear_value v1
  extract_lets +onlyGivenNames v2
  clear_value v2
  extract_lets +onlyGivenNames v3
  have h3 : P v3 := by
    unfold v3
    refine keeps_mk hP ?_
    exact h0'
  clear_value v3
  refine keeps_ite ?_ ?_
  · refine State.raise_keeps hP ?_
    exact h3
  · refine keeps_ite ?_ ?_
    · refine State.inc_keeps hP ?_
      exact h3
    · exact h3

theorem State.rxFlush_keeps (hP : Closed P) {a0 a1} (h0' : P a0) : P (State.rxFlush a0 a1) := by
  unfold State.rxFlush
  extract_lets +onlyGivenNames v1
  clear_value v1
  refine keeps_mk hP ?_
  exact h0'

theorem State.macCnt_keeps (hP : Closed P) {a0 a1 a2 a3} (h0' : P a0) : P (State.macCnt a0 a1 a2 a3) := by
  unfold State.macCnt
  refine keeps_ite ?_ ?_
  · exact h0'
  · refine keeps_ite ?_ ?_
    · exact h0'
    · refine State.incWrap_keeps hP ?_
      exact h0'

theorem State.mirrorDrop_keeps (hP : Closed P) {a0 a1 a2} (h0' : P a0) : P (State.mirrorDrop a0 a1 a2) := by
  unfold State.mirrorDrop
  extract_lets +onlyGivenNames v1
  have h1 : P v1 := by
    unfold v1
    refine State.inc_keeps hP ?_
    exact h0'
  clear_value v1
  extract_lets +onlyGivenNames v2
  have h2 : P v2 := by
    unfold v2
    refine keeps_ite ?_ ?_
    · refine State.inc_keeps hP ?_
      exact h1
    · exact h1
  clear_value v2
  refine State.raise_keeps hP ?_
  exact h2

theorem State.schSet_keeps (hP : Closed P) {a0 a1} (h0' : P a0) : P (State.schSet a0 a1) := by
  unfold State.schSet
  refine keeps_mk hP ?_
  exact h0'

theorem State.rmCopy_keeps (hP : Closed P) {a0 a1} (h0' : P a0) : P (State.rmCopy a0 a1) := by
  unfold State.rmCopy
  split
  · exact h0'
  · extract_lets +onlyGivenNames v1
    have h1 : P v1 := by
      unfold v1
      refine State.xferDrop_keeps hP ?_
      refine State.freeCells_keeps hP ?_
      exact h0'
    clear_value v1
    extract_lets +onlyGivenNames v2
    have h2 : P v2 := by
      unfold v2
      refine State.clrSet_keeps hP ?_
      exact h1
    clear_value v2
    extract_lets +onlyGivenNames v3
    have h3 : P v3 := by
      unfold v3
      refine keeps_ite ?_ ?_
      · exact h2
      · refine State.schSet_keeps hP ?_
        exact h2
    clear_value v3
    split
    · exact h3
    · refine keeps_ite ?_ ?_
      · exact h3
      · refine State.schSet_keeps hP ?_
        exact h3

theorem State.subSet_keeps (hP : Closed P) {a0 a1 a2} (h0' : P a0) : P (State.subSet a0 a1 a2) := by
  unfold State.subSet
  refine State.schSet_keeps hP ?_
  exact h0'

theorem State.portBucketSet_keeps (hP : Closed P) {a0 a1 a2} (h0' : P a0) : P (State.portBucketSet a0 a1 a2) := by
  unfold State.portBucketSet
  refine State.schSet_keeps hP ?_
  exact h0'

theorem State.creditSync_keeps (hP : Closed P) {a0 a1} (h0' : P a0) : P (State.creditSync a0 a1) := by
  unfold State.creditSync
  refine keeps_foldl (fun u1 x1 h1 => ?_) ?_
  · refine keeps_ite ?_ ?_
    · extract_lets +onlyGivenNames v2
      clear_value v2
      refine State.schSet_keeps hP ?_
      exact h1
    · exact h1
  · exact h0'

theorem State.askReads_keeps (hP : Closed P) {a0 a1} (h0' : P a0) : P (State.askReads a0 a1) := by
  unfold State.askReads
  split
  · exact h0'
  · split
    · exact h0'
    · extract_lets +onlyGivenNames v1
      clear_value v1
      refine keeps_ite ?_ ?_
      · exact h0'
      · refine State.fabRead_keeps hP ?_
        refine State.modCopy_keeps hP ?_
        exact h0'

theorem State.joinTags_keeps (hP : Closed P) {a0 a1 a2 a3} (h0' : P a0) : P (State.joinTags a0 a1 a2 a3) := by
  unfold State.joinTags
  extract_lets +onlyGivenNames v1
  have h1 : P v1 := by
    unfold v1
    refine keeps_foldl (fun u2 x2 h2 => ?_) ?_
    · extract_lets +onlyGivenNames v3
      clear_value v3
      refine State.schSet_keeps hP ?_
      exact h2
    · exact h0'
  clear_value v1
  refine keeps_ite ?_ ?_
  · refine keeps_foldl (fun u4 x4 h4 => ?_) ?_
    · refine State.subSet_keeps hP ?_
      exact h4
    · exact h1
  · exact h1

theorem State.chargeBytes_keeps (hP : Closed P) {a0 a1 a2 a3 a4 a5} (h0' : P a0) : P (State.chargeBytes a0 a1 a2 a3 a4 a5) := by
  unfold State.chargeBytes
  extract_lets +onlyGivenNames v1
  clear_value v1
  extract_lets +onlyGivenNames v2
  clear_value v2
  split
  · exact h0'
  · extract_lets +onlyGivenNames v3
    clear_value v3
    extract_lets +onlyGivenNames v4
    clear_value v4
    extract_lets +onlyGivenNames v5
    have h5 : P v5 := by
      unfold v5
      refine keeps_ite ?_ ?_
      · refine State.joinTags_keeps hP ?_
        exact h0'
      · exact h0'
    clear_value v5
    extract_lets +onlyGivenNames v6
    clear_value v6
    extract_lets +onlyGivenNames v7
    clear_value v7
    extract_lets +onlyGivenNames v8
    clear_value v8
    extract_lets +onlyGivenNames v9
    clear_value v9
    extract_lets +onlyGivenNames v10
    clear_value v10
    extract_lets +onlyGivenNames v11
    clear_value v11
    extract_lets +onlyGivenNames v12
    clear_value v12
    extract_lets +onlyGivenNames v13
    have h13 : P v13 := by
      unfold v13
      refine State.subSet_keeps hP ?_
      exact h5
    clear_value v13
    extract_lets +onlyGivenNames v14
    have h14 : P v14 := by
      unfold v14
      refine State.schSet_keeps hP ?_
      exact h13
    clear_value v14
    extract_lets +onlyGivenNames v15
    have h15 : P v15 := by
      unfold v15
      refine keeps_ite ?_ ?_
      · refine State.schSet_keeps hP ?_
        exact h14
      · exact h14
    clear_value v15
    extract_lets +onlyGivenNames v16
    have h16 : P v16 := by
      unfold v16
      refine keeps_ite ?_ ?_
      · refine State.schSet_keeps hP ?_
        exact h15
      · exact h15
    clear_value v16
    extract_lets +onlyGivenNames v17
    have h17 : P v17 := by
      unfold v17
      refine keeps_ite ?_ ?_
      · refine State.schSet_keeps hP ?_
        exact h16
      · exact h16
    clear_value v17
    extract_lets +onlyGivenNames v18
    clear_value v18
    extract_lets +onlyGivenNames v19
    clear_value v19
    extract_lets +onlyGivenNames v20
    clear_value v20
    extract_lets +onlyGivenNames v21
    have h21 : P v21 := by
      unfold v21
      refine keeps_ite ?_ ?_
      · refine State.schSet_keeps hP ?_
        exact h17
      · exact h17
    clear_value v21
    refine keeps_ite ?_ ?_
    · exact h21
    · refine State.portBucketSet_keeps hP ?_
      exact h21

theorem State.refundBytes_keeps (hP : Closed P) {a0 a1 a2 a3 a4} (h0' : P a0) : P (State.refundBytes a0 a1 a2 a3 a4) := by
  unfold State.refundBytes
  extract_lets +onlyGivenNames v1
  clear_value v1
  split
  · exact h0'
  · extract_lets +onlyGivenNames v2
    clear_value v2
    extract_lets +onlyGivenNames v3
    clear_value v3
    extract_lets +onlyGivenNames v4
    clear_value v4
    extract_lets +onlyGivenNames v5
    clear_value v5
    extract_lets +onlyGivenNames v6
    clear_value v6
    extract_lets +onlyGivenNames v7
    clear_value v7
    extract_lets +onlyGivenNames v8
    have h8 : P v8 := by
      unfold v8
      refine State.schSet_keeps hP ?_
      refine State.subSet_keeps hP ?_
      exact h0'
    clear_value v8
    extract_lets +onlyGivenNames v9
    clear_value v9
    extract_lets +onlyGivenNames v10
    clear_value v10
    extract_lets +onlyGivenNames v11
    clear_value v11
    extract_lets +onlyGivenNames v12
    have h12 : P v12 := by
      unfold v12
      refine keeps_ite ?_ ?_
      · refine State.schSet_keeps hP ?_
        exact h8
      · exact h8
    clear_value v12
    refine keeps_ite ?_ ?_
    · exact h12
    · refine State.portBucketSet_keeps hP ?_
      exact h12

theorem State.subSettle_keeps (hP : Closed P) {a0 a1 a2} (h0' : P a0) : P (State.subSettle a0 a1 a2) := by
  unfold State.subSettle
  extract_lets +onlyGivenNames v1
  clear_value v1
  refine keeps_ite ?_ ?_
  · refine State.schSet_keeps hP ?_
    exact h0'
  · refine keeps_ite ?_ ?_
    · refine State.schSet_keeps hP ?_
      exact h0'
    · extract_lets +onlyGivenNames v2
      have h2 : P v2 := by
        unfold v2
        refine State.schSet_keeps hP ?_
        exact h0'
      clear_value v2
      split
      · exact h2
      · extract_lets +onlyGivenNames v3
        clear_value v3
        extract_lets +onlyGivenNames v4
        clear_value v4
        extract_lets +onlyGivenNames v5
        clear_value v5
        extract_lets +onlyGivenNames v6
        clear_value v6
        refine State.subSet_keeps hP ?_
        exact h2

theorem State.queueSettle_keeps (hP : Closed P) {a0 a1 a2} (h0' : P a0) : P (State.queueSettle a0 a1 a2) := by
  unfold State.queueSettle
  extract_lets +onlyGivenNames v1
  clear_value v1
  refine keeps_ite ?_ ?_
  · refine State.schSet_keeps hP ?_
    exact h0'
  · refine keeps_ite ?_ ?_
    · refine State.schSet_keeps hP ?_
      exact h0'
    · extract_lets +onlyGivenNames v2
      have h2 : P v2 := by
        unfold v2
        refine State.schSet_keeps hP ?_
        exact h0'
      clear_value v2
      split
      · extract_lets +onlyGivenNames v3
        clear_value v3
        refine State.schSet_keeps hP ?_
        exact h2
      · exact h2

theorem State.chargeTo_keeps (hP : Closed P) {a0 a1 a2} (h0' : P a0) : P (State.chargeTo a0 a1 a2) := by
  unfold State.chargeTo
  extract_lets +onlyGivenNames v1
  have h1 : P v1 := by
    unfold v1
    refine keeps_ite ?_ ?_
    · refine State.chargeBytes_keeps hP ?_
      exact h0'
    · refine keeps_ite ?_ ?_
      · refine State.refundBytes_keeps hP ?_
        exact h0'
      · exact h0'
  clear_value v1
  refine State.modCopy_keeps hP ?_
  exact h1

theorem State.budget_keeps (hP : Closed P) {a0} (h0' : P a0) : P (State.budget a0) := by
  unfold State.budget
  extract_lets +onlyGivenNames v1
  clear_value v1
  extract_lets +onlyGivenNames v2
  have h2 : P v2.2 := by
    unfold v2
    split
    · refine State.draw_keeps hP ?_
      exact h0'
    · dsimp only
      exact h0'
  clear_value v2
  extract_lets +onlyGivenNames v3
  clear_value v3
  extract_lets +onlyGivenNames v4
  have h4 : P v4 := by
    unfold v4
    refine State.put_keeps hP ?_
    assumption
  clear_value v4
  extract_lets +onlyGivenNames v5
  have h5 : P v5 := by
    unfold v5
    refine State.put_keeps hP ?_
    exact h4
  clear_value v5
  extract_lets +onlyGivenNames v6
  have h6 : P v6 := by
    unfold v6
    refine State.put_keeps hP ?_
    exact h5
  clear_value v6
  refine keeps_ite ?_ ?_
  · refine State.raise_keeps hP ?_
    exact h6
  · exact h6

theorem State.macSet_keeps (hP : Closed P) {a0 a1 a2} (h0' : P a0) : P (State.macSet a0 a1 a2) := by
  unfold State.macSet
  refine keeps_mk hP ?_
  exact h0'

theorem State.wasSent_keeps (hP : Closed P) {a0 a1 a2} (h0' : P a0) : P (State.wasSent a0 a1 a2) := by
  unfold State.wasSent
  refine keeps_ite ?_ ?_
  · exact h0'
  · refine State.macSet_keeps hP ?_
    exact h0'

theorem State.attemptsClear_keeps (hP : Closed P) {a0 a1} (h0' : P a0) : P (State.attemptsClear a0 a1) := by
  unfold State.attemptsClear
  refine keeps_ite ?_ ?_
  · exact h0'
  · refine State.macSet_keeps hP ?_
    exact h0'

theorem State.dropCopy_keeps (hP : Closed P) {a0 a1 a2} (h0' : P a0) : P (State.dropCopy a0 a1 a2) := by
  unfold State.dropCopy
  refine State.rmCopy_keeps hP ?_
  refine State.svcDrop_keeps hP ?_
  refine State.creditSync_keeps hP ?_
  exact h0'

theorem State.poisonCopy_keeps (hP : Closed P) {a0 a1 a2 a3} (h0' : P a0) : P (State.poisonCopy a0 a1 a2 a3) := by
  unfold State.poisonCopy
  split
  · refine State.rmCopy_keeps hP ?_
    exact h0'
  · extract_lets +onlyGivenNames v1
    have h1 : P v1 := by
      unfold v1
      refine State.creditSync_keeps hP ?_
      exact h0'
    clear_value v1
    extract_lets +onlyGivenNames v2
    clear_value v2
    extract_lets +onlyGivenNames v3
    clear_value v3
    extract_lets +onlyGivenNames v4
    clear_value v4
    extract_lets +onlyGivenNames v5
    have h5 : P v5.2 := by
      unfold v5
      split
      · dsimp only
        exact h1
      · split
        · dsimp only
          exact h1
        · refine State.draw_keeps hP ?_
          exact h1
    clear_value v5
    extract_lets +onlyGivenNames v6
    clear_value v6
    extract_lets +onlyGivenNames v7
    have h7 : P v7 := by
      unfold v7
      refine State.inc_keeps hP ?_
      assumption
    clear_value v7
    extract_lets +onlyGivenNames v8
    have h8 : P v8 := by
      unfold v8
      refine State.raise_keeps hP ?_
      exact h7
    clear_value v8
    extract_lets +onlyGivenNames v9
    have h9 : P v9 := by
      unfold v9
      refine State.macCnt_keeps hP ?_
      exact h8
    clear_value v9
    extract_lets +onlyGivenNames v10
    have h10 : P v10 := by
      unfold v10
      refine keeps_ite ?_ ?_
      · exact h9
      · refine State.macCnt_keeps hP ?_
        exact h9
    clear_value v10
    extract_lets +onlyGivenNames v11
    have h11 : P v11 := by
      unfold v11
      refine State.modFrame_keeps hP ?_
      exact h10
    clear_value v11
    extract_lets +onlyGivenNames v12
    have h12 : P v12 := by
      unfold v12
      refine State.chargeTo_keeps hP ?_
      exact h11
    clear_value v12
    extract_lets +onlyGivenNames v13
    have h13 : P v13 := by
      unfold v13
      refine State.wasSent_keeps hP ?_
      refine State.rmCopy_keeps hP ?_
      exact h12
    clear_value v13
    refine keeps_ite ?_ ?_
    · refine State.fault_keeps hP ?_
      exact h13
    · refine keeps_ite ?_ ?_
      · refine State.fault_keeps hP ?_
        exact h13
      · exact h13

theorem State.mirrorLost_keeps (hP : Closed P) {a0 a1} (h0' : P a0) : P (State.mirrorLost a0 a1) := by
  unfold State.mirrorLost
  extract_lets +onlyGivenNames v1
  clear_value v1
  extract_lets +onlyGivenNames v2
  have h2 : P v2 := by
    unfold v2
    refine keeps_foldl (fun u3 x3 h3 => ?_) ?_
    · refine State.mirrorDrop_keeps hP ?_
      exact h3
    · exact h0'
  clear_value v2
  refine State.modFrame_keeps hP ?_
  exact h2

theorem State.spoil_keeps (hP : Closed P) {a0 a1 a2 a3} (h0' : P a0) : P (State.spoil a0 a1 a2 a3) := by
  unfold State.spoil
  extract_lets +onlyGivenNames v1
  have h1 : P v1 := by
    unfold v1
    refine keeps_foldl (fun u2 x2 h2 => ?_) ?_
    · refine keeps_ite ?_ ?_
      · refine State.rmCopy_keeps hP ?_
        refine State.mirrorDrop_keeps hP ?_
        refine State.creditSync_keeps hP ?_
        exact h2
      · extract_lets +onlyGivenNames v3
        have h3 : P v3 := by
          unfold v3
          refine keeps_ite ?_ ?_
          · refine State.svcDrop_keeps hP ?_
            exact h2
          · exact h2
        clear_value v3
        refine keeps_ite ?_ ?_
        · refine State.poisonCopy_keeps hP ?_
          exact h3
        · refine State.rmCopy_keeps hP ?_
          refine State.creditSync_keeps hP ?_
          exact h3
    · exact h0'
  clear_value v1
  refine State.mirrorLost_keeps hP ?_
  exact h1

theorem State.emptyFrame_keeps (hP : Closed P) {a0 a1} (h0' : P a0) : P (State.emptyFrame a0 a1) := by
  unfold State.emptyFrame
  extract_lets +onlyGivenNames v1
  have h1 : P v1 := by
    unfold v1
    refine State.xferDrop_keeps hP ?_
    refine State.freeCells_keeps hP ?_
    exact h0'
  clear_value v1
  refine State.modFrame_keeps hP ?_
  exact h1

theorem State.killFrame_keeps (hP : Closed P) {a0 a1} (h0' : P a0) : P (State.killFrame a0 a1) := by
  unfold State.killFrame
  refine State.reap_keeps hP ?_
  refine State.modFrame_keeps hP ?_
  refine State.emptyFrame_keeps hP ?_
  exact h0'

theorem State.dropFrame_keeps (hP : Closed P) {a0 a1 a2} (h0' : P a0) : P (State.dropFrame a0 a1 a2) := by
  unfold State.dropFrame
  refine keeps_ite ?_ ?_
  · refine State.killFrame_keeps hP ?_
    exact h0'
  · refine State.modFrame_keeps hP ?_
    refine State.emptyFrame_keeps hP ?_
    exact h0'

theorem State.flushStart_keeps (hP : Closed P) {a0 a1 a2} (h0' : P a0) : P (State.flushStart a0 a1 a2) := by
  unfold State.flushStart
  extract_lets +onlyGivenNames v1
  have h1 : P v1 := by
    unfold v1
    refine State.creditSync_keeps hP ?_
    exact h0'
  clear_value v1
  extract_lets +onlyGivenNames v2
  have h2 : P v2 := by
    unfold v2
    refine State.put_keeps hP ?_
    exact h1
  clear_value v2
  extract_lets +onlyGivenNames v3
  clear_value v3
  extract_lets +onlyGivenNames v4
  have h4 : P v4 := by
    unfold v4
    refine State.put_keeps hP ?_
    exact h2
  clear_value v4
  extract_lets +onlyGivenNames v5
  clear_value v5
  extract_lets +onlyGivenNames v6
  have h6 : P v6 := by
    unfold v6
    refine keeps_mk hP ?_
    exact h4
  clear_value v6
  extract_lets +onlyGivenNames v7
  have h7 : P v7 := by
    unfold v7
    refine State.attemptsClear_keeps hP ?_
    exact h6
  clear_value v7
  extract_lets +onlyGivenNames v8
  clear_value v8
  extract_lets +onlyGivenNames v9
  have h9 : P v9 := by
    unfold v9
    refine keeps_ite ?_ ?_
    · refine State.macSet_keeps hP ?_
      exact h7
    · exact h7
  clear_value v9
  extract_lets +onlyGivenNames v10
  have h10 : P v10 := by
    unfold v10
    refine keeps_ite ?_ ?_
    · refine State.portCauseSet_keeps hP ?_
      exact h9
    · exact h9
  clear_value v10
  extract_lets +onlyGivenNames v11
  have h11 : P v11 := by
    unfold v11
    refine keeps_foldl (fun u12 x12 h12 => ?_) ?_
    · extract_lets +onlyGivenNames v13
      have h13 : P v13 := by
        unfold v13
        refine keeps_ite ?_ ?_
        · refine State.macCnt_keeps hP ?_
          exact h12
        · exact h12
      clear_value v13
      extract_lets +onlyGivenNames v14
      have h14 : P v14 := by
        unfold v14
        refine State.dropCopy_keeps hP ?_
        exact h13
      clear_value v14
      split
      · refine keeps_ite ?_ ?_
        · refine State.fault_keeps hP ?_
          exact h14
        · exact h14
      · exact h14
    · exact h10
  clear_value v11
  extract_lets +onlyGivenNames v15
  have h15 : P v15 := by
    unfold v15
    refine keeps_foldl (fun u16 x16 h16 => ?_) ?_
    · extract_lets +onlyGivenNames v17
      have h17 : P v17 := by
        unfold v17
        refine State.rxFlush_keeps hP ?_
        refine State.spoil_keeps hP ?_
        exact h16
      clear_value v17
      refine keeps_ite ?_ ?_
      · refine State.dropFrame_keeps hP ?_
        exact h17
      · refine State.killFrame_keeps hP ?_
        exact h17
    · exact h11
  clear_value v15
  refine State.budget_keeps hP ?_
  refine State.reap_keeps hP ?_
  exact h15

theorem State.portSync_keeps (hP : Closed P) {a0 a1 a2} (h0' : P a0) : P (State.portSync a0 a1 a2) := by
  unfold State.portSync
  extract_lets +onlyGivenNames v1
  clear_value v1
  extract_lets +onlyGivenNames v2
  clear_value v2
  refine keeps_ite ?_ ?_
  · refine keeps_ite ?_ ?_
    · refine State.flushStart_keeps hP ?_
      exact h0'
    · refine keeps_ite ?_ ?_
      · refine State.put_keeps hP ?_
        exact h0'
      · exact h0'
  · refine keeps_ite ?_ ?_
    · extract_lets +onlyGivenNames v3
      have h3 : P v3 := by
        unfold v3
        refine State.put_keeps hP ?_
        exact h0'
      clear_value v3
      refine keeps_ite ?_ ?_
      · exact h3
      · extract_lets +onlyGivenNames v4
        clear_value v4
        extract_lets +onlyGivenNames v5
        have h5 : P v5 := by
          unfold v5
          refine keeps_mk hP ?_
          exact h3
        clear_value v5
        refine State.put_keeps hP ?_
        exact h5
    · refine keeps_ite ?_ ?_
      · extract_lets +onlyGivenNames v6
        have h6 : P v6 := by
          unfold v6
          refine State.put_keeps hP ?_
          exact h0'
        clear_value v6
        extract_lets +onlyGivenNames v7
        have h7 : P v7 := by
          unfold v7
          refine keeps_ite ?_ ?_
          · refine State.portCauseSet_keeps hP ?_
            exact h6
          · exact h6
        clear_value v7
        refine State.budget_keeps hP ?_
        exact h7
      · exact h0'

theorem State.portSyncAll_keeps (hP : Closed P) {a0} (h0' : P a0) : P (State.portSyncAll a0) := by
  unfold State.portSyncAll
  refine keeps_foldl (fun u1 x1 h1 => ?_) ?_
  · refine State.portSync_keeps hP ?_
    exact h1
  · exact h0'

theorem State.heldSync_keeps (hP : Closed P) {a0 a1} (h0' : P a0) : P (State.heldSync a0 a1) := by
  unfold State.heldSync
  split
  · exact h0'
  · extract_lets +onlyGivenNames v1
    clear_value v1
    extract_lets +onlyGivenNames v2
    clear_value v2
    refine State.macSet_keeps hP ?_
    refine State.macCnt_keeps hP ?_
    exact h0'

theorem State.pauseTrack_keeps (hP : Closed P) {a0 a1} (h0' : P a0) : P (State.pauseTrack a0 a1) := by
  unfold State.pauseTrack
  extract_lets +onlyGivenNames v1
  clear_value v1
  refine keeps_ite ?_ ?_
  · extract_lets +onlyGivenNames v2
    clear_value v2
    refine keeps_ite ?_ ?_
    · refine State.macSet_keeps hP ?_
      exact h0'
    · exact h0'
  · refine keeps_ite ?_ ?_
    · exact h0'
    · extract_lets +onlyGivenNames v3
      have h3 : P v3 := by
        unfold v3
        refine State.heldSync_keeps hP ?_
        exact h0'
      clear_value v3
      refine State.macSet_keeps hP ?_
      exact h3

theorem State.pauseEnd_keeps (hP : Closed P) {a0 a1} (h0' : P a0) : P (State.pauseEnd a0 a1) := by
  unfold State.pauseEnd
  refine State.pauseTrack_keeps hP ?_
  refine State.put_keeps hP ?_
  refine State.put_keeps hP ?_
  exact h0'

theorem State.linkLost_keeps (hP : Closed P) {a0 a1 a2} (h0' : P a0) : P (State.linkLost a0 a1 a2) := by
  unfold State.linkLost
  refine keeps_ite ?_ ?_
  · exact h0'
  · extract_lets +onlyGivenNames v1
    have h1 : P v1 := by
      unfold v1
      refine State.put_keeps hP ?_
      exact h0'
    clear_value v1
    extract_lets +onlyGivenNames v2
    have h2 : P v2 := by
      unfold v2
      refine State.inc_keeps hP ?_
      exact h1
    clear_value v2
    extract_lets +onlyGivenNames v3
    have h3 : P v3 := by
      unfold v3
      refine State.raise_keeps hP ?_
      exact h2
    clear_value v3
    extract_lets +onlyGivenNames v4
    have h4 : P v4 := by
      unfold v4
      refine State.pauseEnd_keeps hP ?_
      exact h3
    clear_value v4
    extract_lets +onlyGivenNames v5
    clear_value v5
    extract_lets +onlyGivenNames v6
    have h6 : P v6 := by
      unfold v6
      refine State.macSet_keeps hP ?_
      exact h4
    clear_value v6
    extract_lets +onlyGivenNames v7
    have h7 : P v7 := by
      unfold v7
      refine State.portSync_keeps hP ?_
      exact h6
    clear_value v7
    extract_lets +onlyGivenNames v8
    have h8 : P v8 := by
      unfold v8
      refine keeps_foldl (fun u9 x9 h9 => ?_) ?_
      · refine State.killFrame_keeps hP ?_
        exact h9
      · exact h7
    clear_value v8
    extract_lets +onlyGivenNames v10
    have h10 : P v10 := by
      unfold v10
      refine State.put_keeps hP ?_
      exact h8
    clear_value v10
    refine State.put_keeps hP ?_
    refine State.put_keeps hP ?_
    exact h10

theorem State.puntAdmit_keeps (hP : Closed P) {a0 a1} (h0' : P a0) : P (State.puntAdmit a0 a1).2 := by
  unfold State.puntAdmit
  extract_lets +onlyGivenNames v1
  clear_value v1
  extract_lets +onlyGivenNames v2
  clear_value v2
  extract_lets +onlyGivenNames v3
  have h3 : P v3 := by
    unfold v3
    refine State.clrSet_keeps hP ?_
    exact h0'
  clear_value v3
  split
  · dsimp only
    refine State.inc_keeps hP ?_
    refine State.clrSet_keeps hP ?_
    exact h3
  · extract_lets +onlyGivenNames v4
    have h4 : P v4 := by
      unfold v4
      refine State.clrSet_keeps hP ?_
      exact h3
    clear_value v4
    dsimp only
    refine State.raise_keeps hP ?_
    refine State.inc_keeps hP ?_
    exact h4

theorem State.puntFrame_keeps (hP : Closed P) {a0 a1 a2} (h0' : P a0) : P (State.puntFrame a0 a1 a2) :=
  State.modFrame_keeps hP (State.puntAdmit_keeps hP h0')

theorem State.portDefault_keeps (hP : Closed P) {a0 a1 a2} (h0' : P a0) : P (State.portDefault a0 a1 a2) := by
  unfold State.portDefault
  split
  · exact h0'
  · refine keeps_ite ?_ ?_
    · extract_lets +onlyGivenNames v1
      have h1 : P v1 := by
        unfold v1
        refine State.modFrame_keeps hP ?_
        exact h0'
      clear_value v1
      refine keeps_ite ?_ ?_
      · refine State.inc_keeps hP ?_
        exact h1
      · exact h1
    · refine State.puntFrame_keeps hP ?_
      exact h0'

theorem State.metersStart_keeps (hP : Closed P) {a0} (h0' : P a0) : P (State.metersStart a0) := by
  unfold State.metersStart
  extract_lets +onlyGivenNames v1
  clear_value v1
  refine State.clrSet_keeps hP ?_
  exact h0'

theorem State.meterSet_keeps (hP : Closed P) {a0 a1 a2} (h0' : P a0) : P (State.meterSet a0 a1 a2) := by
  unfold State.meterSet
  refine State.clrSet_keeps hP ?_
  exact h0'

theorem State.meterFrame_keeps (hP : Closed P) {a0 a1 a2 a3 a4} (h0' : P a0) : P (State.meterFrame a0 a1 a2 a3 a4).2 := by
  unfold State.meterFrame
  extract_lets +onlyGivenNames v1
  clear_value v1
  extract_lets +onlyGivenNames v2
  clear_value v2
  dsimp only
  refine State.meterSet_keeps hP ?_
  exact h0'

theorem State.mirrorMark_keeps (hP : Closed P) {a0 a1 a2} (h0' : P a0) : P (State.mirrorMark a0 a1 a2) := by
  unfold State.mirrorMark
  split
  · exact h0'
  · extract_lets +onlyGivenNames v1
    clear_value v1
    refine keeps_ite ?_ ?_
    · exact h0'
    · extract_lets +onlyGivenNames v2
      have h2 : P v2 := by
        unfold v2
        refine State.modFrame_keeps hP ?_
        exact h0'
      clear_value v2
      refine keeps_ite ?_ ?_
      · refine State.inc_keeps hP ?_
        exact h2
      · refine State.modFrame_keeps hP ?_
        exact h2

theorem State.mirrorMarks_keeps (hP : Closed P) {a0 a1} (h0' : P a0) : P (State.mirrorMarks a0 a1) := by
  unfold State.mirrorMarks
  split
  · exact h0'
  · extract_lets +onlyGivenNames v1
    have h1 : P v1 := by
      unfold v1
      refine keeps_foldl (fun u2 x2 h2 => ?_) ?_
      · refine keeps_ite ?_ ?_
        · refine State.mirrorMark_keeps hP ?_
          exact h2
        · exact h2
      · exact h0'
    clear_value v1
    split
    · extract_lets +onlyGivenNames v3
      clear_value v3
      refine keeps_ite ?_ ?_
      · exact h1
      · refine State.mirrorMark_keeps hP ?_
        exact h1
    · exact h1

theorem State.flowCount_keeps (hP : Closed P) {a0 a1 a2} (h0' : P a0) : P (State.flowCount a0 a1 a2) := by
  unfold State.flowCount
  refine State.clrSet_keeps hP ?_
  exact h0'

theorem State.rulesPermit_keeps (hP : Closed P) {a0 a1 a2 a3} (h0' : P a0) : P (State.rulesPermit a0 a1 a2 a3) := by
  unfold State.rulesPermit
  refine keeps_ite ?_ ?_
  · refine State.puntFrame_keeps hP ?_
    refine State.modFrame_keeps hP ?_
    exact h0'
  · extract_lets +onlyGivenNames v1
    clear_value v1
    refine keeps_ite ?_ ?_
    · refine State.modFrame_keeps hP ?_
      refine State.inc_keeps hP ?_
      exact h0'
    · extract_lets +onlyGivenNames v2
      have h2 : P v2 := by
        unfold v2
        refine keeps_ite ?_ ?_
        · refine State.inc_keeps hP ?_
          exact h0'
        · exact h0'
      clear_value v2
      refine State.modFrame_keeps hP ?_
      exact h2

theorem State.rulesStage_keeps (hP : Closed P) {a0 a1 a2} (h0' : P a0) : P (State.rulesStage a0 a1 a2) := by
  unfold State.rulesStage
  split
  · exact h0'
  · extract_lets +onlyGivenNames v1
    clear_value v1
    extract_lets +onlyGivenNames v2
    have h2 : P v2 := by
      unfold v2
      refine State.modFrame_keeps hP ?_
      exact h0'
    clear_value v2
    extract_lets +onlyGivenNames v3
    have h3 : P v3 := by
      unfold v3
      refine keeps_ite ?_ ?_
      · refine State.flowCount_keeps hP ?_
        exact h2
      · exact h2
    clear_value v3
    refine keeps_ite ?_ ?_
    · refine State.modFrame_keeps hP ?_
      refine State.inc_keeps hP ?_
      exact h3
    · split
      · refine State.rulesPermit_keeps hP ?_
        exact h3
      · extract_lets +onlyGivenNames v4
        clear_value v4
        extract_lets +onlyGivenNames v5
        have h5 : P v5.2 := by
          unfold v5
          refine State.meterFrame_keeps hP ?_
          exact h3
        clear_value v5
        split
        · refine keeps_ite ?_ ?_
          · refine State.puntFrame_keeps hP ?_
            assumption
          · refine State.modFrame_keeps hP ?_
            assumption
        · extract_lets +onlyGivenNames v6
          clear_value v6
          refine State.rulesPermit_keeps hP ?_
          refine State.modFrame_keeps hP ?_
          assumption
        · refine State.rulesPermit_keeps hP ?_
          assumption

theorem State.resolve_keeps (hP : Closed P) {a0 a1 a2 a3} (h0' : P a0) : P (State.resolve a0 a1 a2 a3).2 := by
  unfold State.resolve
  extract_lets +onlyGivenNames v1
  clear_value v1
  split
  · dsimp only
    exact h0'
  · extract_lets +onlyGivenNames v2
    have h2 : P v2 := by
      unfold v2
      refine State.raise_keeps hP ?_
      refine State.inc_keeps hP ?_
      exact h0'
    clear_value v2
    split
    · dsimp only
      exact h2
    · dsimp only
      exact h2

theorem State.resolvePunt_keeps (hP : Closed P) {a0} (h0' : P a0) : P (State.resolvePunt a0).2 := by
  unfold State.resolvePunt
  extract_lets +onlyGivenNames v1
  clear_value v1
  split
  · dsimp only
    exact h0'
  · dsimp only
    refine State.raise_keeps hP ?_
    refine State.inc_keeps hP ?_
    exact h0'

theorem State.noCell_keeps (hP : Closed P) {a0 a1} (h0' : P a0) : P (State.noCell a0 a1) := by
  unfold State.noCell
  extract_lets +onlyGivenNames v1
  clear_value v1
  refine keeps_ite ?_ ?_
  · refine State.dropFrame_keeps hP ?_
    refine State.spoil_keeps hP ?_
    exact h0'
  · refine keeps_foldl (fun u2 x2 h2 => ?_) ?_
    · refine State.rmCopy_keeps hP ?_
      refine State.mirrorDrop_keeps hP ?_
      refine State.creditSync_keeps hP ?_
      exact h2
    · exact h0'

theorem State.storeFrame_keeps (hP : Closed P) {a0 a1} (h0' : P a0) : P (State.storeFrame a0 a1).2 := by
  unfold State.storeFrame
  split
  · dsimp only
    exact h0'
  · extract_lets +onlyGivenNames v1
    clear_value v1
    extract_lets +onlyGivenNames v2
    clear_value v2
    extract_lets +onlyGivenNames v3
    have h3 : P v3.2 := by
      unfold v3
      refine State.drawCells_keeps hP ?_
      exact h0'
    clear_value v3
    split
    · dsimp only
      refine State.noCell_keeps hP ?_
      assumption
    · extract_lets +onlyGivenNames v4
      clear_value v4
      extract_lets +onlyGivenNames v5
      have h5 : P v5 := by
        unfold v5
        refine State.fabWrote_keeps hP ?_
        refine State.modFrame_keeps hP ?_
        assumption
      clear_value v5
      dsimp only
      refine State.fabLinked_keeps hP ?_
      exact h5

theorem State.addCopy_keeps (hP : Closed P) {a0 a1 a2 a3 a4 a5 a6 a7 a8} (h0' : P a0) : P (State.addCopy a0 a1 a2 a3 a4 a5 a6 a7 a8) := by
  unfold State.addCopy
  extract_lets +onlyGivenNames v1
  have h1 : P v1 := by
    unfold v1
    refine State.creditSync_keeps hP ?_
    exact h0'
  clear_value v1
  extract_lets +onlyGivenNames v2
  clear_value v2
  extract_lets +onlyGivenNames v3
  have h3 : P v3 := by
    unfold v3
    refine State.clrSet_keeps hP ?_
    exact h1
  clear_value v3
  refine keeps_ite ?_ ?_
  · extract_lets +onlyGivenNames v4
    clear_value v4
    refine State.fabLinked_keeps hP ?_
    refine State.modFrame_keeps hP ?_
    exact h3
  · refine State.fabLinked_keeps hP ?_
    refine State.fabWrote_keeps hP ?_
    exact h3

theorem State.admitCopy_keeps (hP : Closed P) {a0 a1 a2 a3} (h0' : P a0) : P (State.admitCopy a0 a1 a2 a3) := by
  unfold State.admitCopy
  split
  · refine keeps_ite ?_ ?_
    · refine State.svcDrop_keeps hP ?_
      exact h0'
    · split
      · refine State.svcDrop_keeps hP ?_
        exact h0'
      · refine State.modFrame_keeps hP ?_
        refine State.addCopy_keeps hP ?_
        exact h0'
  · exact h0'

theorem State.mirrorCopy_keeps (hP : Closed P) {a0 a1 a2 a3} (h0' : P a0) : P (State.mirrorCopy a0 a1 a2 a3) := by
  unfold State.mirrorCopy
  split
  · exact h0'
  · extract_lets +onlyGivenNames v1
    clear_value v1
    extract_lets +onlyGivenNames v2
    have h2 : P v2.2 := by
      unfold v2
      refine State.resolve_keeps hP ?_
      exact h0'
    clear_value v2
    extract_lets +onlyGivenNames v3
    have h3 : P v3 := by
      unfold v3
      assumption
    clear_value v3
    split
    · exact h3
    · split
      · exact h3
      · refine keeps_ite ?_ ?_
        · refine State.mirrorDrop_keeps hP ?_
          exact h3
        · refine keeps_ite ?_ ?_
          · extract_lets +onlyGivenNames v4
            have h4 : P v4.2 := by
              unfold v4
              refine State.allocCells_keeps hP ?_
              exact h3
            clear_value v4
            refine keeps_ite ?_ ?_
            · refine State.mirrorDrop_keeps hP ?_
              exact h3
            · refine State.inc_keeps hP ?_
              refine State.addCopy_keeps hP ?_
              assumption
          · extract_lets +onlyGivenNames v5
            clear_value v5
            refine keeps_ite ?_ ?_
            · refine State.mirrorDrop_keeps hP ?_
              exact h3
            · extract_lets +onlyGivenNames v6
              have h6 : P v6 := by
                unfold v6
                refine State.addCopy_keeps hP ?_
                exact h3
              clear_value v6
              refine State.inc_keeps hP ?_
              refine keeps_ite ?_ ?_
              · exact h6
              · refine State.storeFrame_keeps hP ?_
                exact h6

theorem State.fateCopies_keeps (hP : Closed P) {a0 a1 a2} (h0' : P a0) : P (State.fateCopies a0 a1 a2) := by
  have one : ∀ (p : Nat) (r : Option Nat × State), P r.2 →
      P (match r.1 with
        | some q => r.2.admitCopy a1 p q
        | none => r.2) := by
    intro p r h
    split
    · exact State.admitCopy_keeps hP h
    · exact h
  unfold State.fateCopies
  extract_lets f1
  split
  · exact keeps_foldl (fun u p hu => keeps_ite (one p _ (State.resolve_keeps hP hu)) hu) h0'
  · exact one 32 _ (State.resolvePunt_keeps hP h0')
  · exact one _ _ (State.resolve_keeps hP h0')
  · exact h0'

theorem State.enqueueFrame_keeps (hP : Closed P) {a0 a1} (h0' : P a0) : P (State.enqueueFrame a0 a1) := by
  unfold State.enqueueFrame
  split
  · exact h0'
  · extract_lets +onlyGivenNames v1
    have h1 : P v1 := by
      unfold v1
      refine State.fateCopies_keeps hP ?_
      exact h0'
    clear_value v1
    extract_lets +onlyGivenNames v2
    have h2 : P v2 := by
      unfold v2
      refine keeps_ite ?_ ?_
      · exact h1
      · refine State.storeFrame_keeps hP ?_
        exact h1
    clear_value v2
    extract_lets +onlyGivenNames v3
    clear_value v3
    extract_lets +onlyGivenNames v4
    have h4 : P v4 := by
      unfold v4
      refine keeps_foldl (fun u5 x5 h5 => ?_) ?_
      · refine State.mirrorCopy_keeps hP ?_
        exact h5
      · exact h2
    clear_value v4
    refine State.reap_keeps hP ?_
    refine State.modFrame_keeps hP ?_
    exact h4

theorem State.handOver_keeps (hP : Closed P) {a0 a1 a2 a3 a4} (h0' : P a0) : P (State.handOver a0 a1 a2 a3 a4) := by
  unfold State.handOver
  extract_lets +onlyGivenNames v1
  clear_value v1
  extract_lets +onlyGivenNames v2
  clear_value v2
  extract_lets +onlyGivenNames v3
  clear_value v3
  refine State.addFrame_keeps hP ?_
  exact h0'

end Sys2Proof.Machine
end

