-- ==== Sys2Proof/Laws/KeepsB.lean ====
section
/-! SUPPORT. One lemma per function: it keeps a `Closed` predicate.  Functions of Machine: Path, Choose, Pdu, Clusters, Lace. -/
namespace Sys2Proof.Machine

set_option Elab.async false
variable {P : State → Prop}

theorem State.takeSlots_keeps (hP : Closed P) {a0 a1} (h0' : P a0) : P (State.takeSlots a0 a1) := by
  unfold State.takeSlots
  extract_lets +onlyGivenNames v1
  clear_value v1
  extract_lets +onlyGivenNames v2
  clear_value v2
  refine State.clrSet_keeps hP ?_
  exact h0'

theorem State.flushedArrival_keeps (hP : Closed P) {a0 a1 a2} (h0' : P a0) : P (State.flushedArrival a0 a1 a2) := by
  unfold State.flushedArrival
  refine State.addFrame_keeps hP ?_
  refine State.rxFlush_keeps hP ?_
  exact h0'

theorem ethFrameArrival_keeps (hP : Closed P) {a0 a1 a2} (h2' : P a2) : P (ethFrameArrival a0 a1 a2) := by
  unfold ethFrameArrival
  refine keeps_ite ?_ ?_
  · exact h2'
  · refine keeps_ite ?_ ?_
    · refine keeps_ite ?_ ?_
      · refine State.flushedArrival_keeps hP ?_
        exact h2'
      · exact h2'
    · extract_lets +onlyGivenNames v1
      have h1 : P v1 := by
        unfold v1
        refine State.fabNow_keeps hP ?_
        exact h2'
      clear_value v1
      extract_lets +onlyGivenNames v2
      clear_value v2
      refine keeps_ite ?_ ?_
      · refine State.addFrame_keeps hP ?_
        refine State.macCnt_keeps hP ?_
        exact h1
      · refine keeps_ite ?_ ?_
        · refine State.addFrame_keeps hP ?_
          exact h1
        · refine State.takeSlots_keeps hP ?_
          refine State.addFrame_keeps hP ?_
          exact h1

theorem State.toecapDrop_keeps (hP : Closed P) {a0 a1 a2 a3} (h0' : P a0) : P (State.toecapDrop a0 a1 a2 a3) := by
  unfold State.toecapDrop
  split
  · refine State.tcErr_keeps hP ?_
    refine State.tcCount_keeps hP ?_
    exact h0'
  · refine State.tcCount_keeps hP ?_
    exact h0'

theorem State.icvVerify_keeps (hP : Closed P) {a0 a1} (h0' : P a0) : P (State.icvVerify a0 a1).2 := by
  unfold State.icvVerify
  split
  · dsimp only
    exact h0'
  · split
    · dsimp only
      exact h0'
    · extract_lets +onlyGivenNames v1
      clear_value v1
      extract_lets +onlyGivenNames v2
      clear_value v2
      extract_lets +onlyGivenNames v3
      have h3 : P v3 := by
        unfold v3
        refine State.modFrame_keeps hP ?_
        exact h0'
      clear_value v3
      split
      · extract_lets +onlyGivenNames v4
        have h4 : P v4 := by
          unfold v4
          refine State.saSet_keeps hP ?_
          exact h3
        clear_value v4
        dsimp only
        refine State.tcCount_keeps hP ?_
        exact h4
      · extract_lets +onlyGivenNames v5
        have h5 : P v5 := by
          unfold v5
          refine State.saSet_keeps hP ?_
          exact h3
        clear_value v5
        extract_lets +onlyGivenNames v6
        have h6 : P v6 := by
          unfold v6
          refine State.raise_keeps hP ?_
          refine State.tcCount_keeps hP ?_
          exact h5
        clear_value v6
        extract_lets +onlyGivenNames v7
        clear_value v7
        extract_lets +onlyGivenNames v8
        clear_value v8
        extract_lets +onlyGivenNames v9
        clear_value v9
        extract_lets +onlyGivenNames v10
        have h10 : P v10 := by
          unfold v10
          refine keeps_ite ?_ ?_
          · refine State.raise_keeps hP ?_
            refine State.tcCount_keeps hP ?_
            exact h6
          · exact h6
        clear_value v10
        extract_lets +onlyGivenNames v11
        have h11 : P v11 := by
          unfold v11
          refine keeps_ite ?_ ?_
          · refine keeps_foldl (fun u12 x12 h12 => ?_) ?_
            · refine State.modCopy_keeps hP ?_
              exact h12
            · exact h10
          · exact h10
        clear_value v11
        extract_lets +onlyGivenNames v13
        have h13 : P v13 := by
          unfold v13
          refine State.spoil_keeps hP ?_
          exact h11
        clear_value v13
        split
        · dsimp only
          refine State.modFrame_keeps hP ?_
          exact h13
        · dsimp only
          refine State.killFrame_keeps hP ?_
          exact h13

theorem State.reserve_keeps (hP : Closed P) {a0 a1 a2} (h0' : P a0) : P (State.reserve a0 a1 a2) := by
  unfold State.reserve
  extract_lets +onlyGivenNames v1
  clear_value v1
  refine State.clrSet_keeps hP ?_
  exact h0'

theorem clickerDispatch_keeps (hP : Closed P) {a0} (h0' : P a0) : P (clickerDispatch a0) := by
  unfold clickerDispatch
  split
  · exact h0'
  · extract_lets +onlyGivenNames v1
    have h1 : P v1 := by
      unfold v1
      refine State.clrSet_keeps hP ?_
      exact h0'
    clear_value v1
    extract_lets +onlyGivenNames v2
    clear_value v2
    split
    · extract_lets +onlyGivenNames v3
      have h3 : P v3 := by
        unfold v3
        refine State.modFrame_keeps hP ?_
        exact h1
      clear_value v3
      refine keeps_ite ?_ ?_
      · refine State.toecapDrop_keeps hP ?_
        exact h3
      · exact h3
    · extract_lets +onlyGivenNames v4
      have h4 : P v4 := by
        unfold v4
        refine State.clrSet_keeps hP ?_
        exact h1
      clear_value v4
      extract_lets +onlyGivenNames v5
      have h5 : P v5 := by
        unfold v5
        refine State.reserve_keeps hP ?_
        exact h4
      clear_value v5
      extract_lets +onlyGivenNames v6
      clear_value v6
      extract_lets +onlyGivenNames v7
      clear_value v7
      split
      · extract_lets +onlyGivenNames v8
        clear_value v8
        extract_lets +onlyGivenNames v9
        have h9 : P v9 := by
          unfold v9
          refine State.modFrame_keeps hP ?_
          exact h5
        clear_value v9
        refine keeps_ite ?_ ?_
        · refine State.icvVerify_keeps hP ?_
          exact h9
        · exact h9
      · refine State.modFrame_keeps hP ?_
        exact h5

theorem State.classified_keeps (hP : Closed P) {a0 a1 a2} (h0' : P a0) : P (State.classified a0 a1 a2) := by
  unfold State.classified
  extract_lets +onlyGivenNames v1
  have h1 : P v1 := by
    unfold v1
    refine State.incWrap_keeps hP ?_
    exact h0'
  clear_value v1
  extract_lets +onlyGivenNames v2
  have h2 : P v2 := by
    unfold v2
    refine State.modFrame_keeps hP ?_
    exact h1
  clear_value v2
  refine State.mirrorMarks_keeps hP ?_
  exact h2

theorem State.lateConflict_keeps (hP : Closed P) {a0 a1} (h0' : P a0) : P (State.lateConflict a0 a1) := by
  unfold State.lateConflict
  refine State.portDefault_keeps hP ?_
  refine State.spoil_keeps hP ?_
  exact h0'

theorem State.lateCheck_keeps (hP : Closed P) {a0 a1} (h0' : P a0) : P (State.lateCheck a0 a1) := by
  unfold State.lateCheck
  split
  · exact h0'
  · refine keeps_ite ?_ ?_
    · refine State.portDefault_keeps hP ?_
      refine State.modFrame_keeps hP ?_
      exact h0'
    · split
      · extract_lets +onlyGivenNames v1
        clear_value v1
        refine keeps_ite ?_ ?_
        · refine State.lateConflict_keeps hP ?_
          exact h0'
        · exact h0'
      · exact h0'

theorem parseStep_keeps (hP : Closed P) {a0 a1 a2} (h2' : P a2) : P (parseStep a0 a1 a2) := by
  unfold parseStep
  split
  · exact h2'
  · refine keeps_ite ?_ ?_
    · exact h2'
    · extract_lets +onlyGivenNames v1
      clear_value v1
      refine keeps_ite ?_ ?_
      · exact h2'
      · extract_lets +onlyGivenNames v2
        have h2 : P v2 := by
          unfold v2
          refine State.modFrame_keeps hP ?_
          exact h2'
        clear_value v2
        split
        · exact h2
        · refine State.classified_keeps hP ?_
          refine State.portDefault_keeps hP ?_
          exact h2

theorem flowLookup_keeps (hP : Closed P) {a0 a1 a2} (h2' : P a2) : P (flowLookup a0 a1 a2) := by
  unfold flowLookup
  split
  · exact h2'
  · refine keeps_ite ?_ ?_
    · exact h2'
    · extract_lets +onlyGivenNames v1
      have h1 : P v1 := by
        unfold v1
        split
        · refine State.rulesStage_keeps hP ?_
          exact h2'
        · refine State.modFrame_keeps hP ?_
          exact h2'
      clear_value v1
      extract_lets +onlyGivenNames v2
      have h2 : P v2 := by
        unfold v2
        refine State.classified_keeps hP ?_
        exact h1
      clear_value v2
      refine keeps_ite ?_ ?_
      · refine State.lateCheck_keeps hP ?_
        exact h2
      · exact h2

theorem State.rxOk_keeps (hP : Closed P) {a0 a1 a2} (h0' : P a0) : P (State.rxOk a0 a1 a2) := by
  unfold State.rxOk
  extract_lets +onlyGivenNames v1
  clear_value v1
  extract_lets +onlyGivenNames v2
  clear_value v2
  extract_lets +onlyGivenNames v3
  clear_value v3
  extract_lets +onlyGivenNames v4
  clear_value v4
  refine State.macCnt_keeps hP ?_
  refine State.macCnt_keeps hP ?_
  refine State.macCnt_keeps hP ?_
  refine State.macCnt_keeps hP ?_
  exact h0'

theorem State.macError_keeps (hP : Closed P) {a0 a1 a2 a3 a4} (h0' : P a0) : P (State.macError a0 a1 a2 a3 a4) := by
  unfold State.macError
  refine State.dropFrame_keeps hP ?_
  refine State.spoil_keeps hP ?_
  refine State.macCnt_keeps hP ?_
  exact h0'

theorem State.egressOver_keeps (hP : Closed P) {a0 a1 a2} (h0' : P a0) : P (State.egressOver a0 a1 a2) := by
  unfold State.egressOver
  split
  · refine State.poisonCopy_keeps hP ?_
    refine State.tcErr_keeps hP ?_
    exact h0'
  · refine State.poisonCopy_keeps hP ?_
    exact h0'

theorem State.egressLimits_keeps (hP : Closed P) {a0 a1} (h0' : P a0) : P (State.egressLimits a0 a1) := by
  unfold State.egressLimits
  split
  · exact h0'
  · extract_lets +onlyGivenNames v1
    clear_value v1
    refine keeps_foldl (fun u2 x2 h2 => ?_) ?_
    · refine keeps_ite ?_ ?_
      · refine State.egressOver_keeps hP ?_
        exact h2
      · exact h2
    · exact h0'

theorem State.bytesIn_keeps (hP : Closed P) {a0 a1} (h0' : P a0) : P (State.bytesIn a0 a1).2 := by
  unfold State.bytesIn
  split
  · dsimp only
    exact h0'
  · extract_lets +onlyGivenNames v1
    clear_value v1
    extract_lets +onlyGivenNames v2
    clear_value v2
    split
    · dsimp only
      refine State.macError_keeps hP ?_
      exact h0'
    · extract_lets +onlyGivenNames v3
      have h3 : P v3 := by
        unfold v3
        refine keeps_ite ?_ ?_
        · refine State.modFrame_keeps hP ?_
          exact h0'
        · exact h0'
      clear_value v3
      extract_lets +onlyGivenNames v4
      have h4 : P v4 := by
        unfold v4
        refine State.egressLimits_keeps hP ?_
        exact h3
      clear_value v4
      split
      · dsimp only
        refine State.macError_keeps hP ?_
        exact h4
      · dsimp only
        exact h4

theorem State.bytesOn_keeps (hP : Closed P) {a0 a1} (h0' : P a0) : P (State.bytesOn a0 a1).2 := by
  unfold State.bytesOn
  extract_lets +onlyGivenNames v1
  have h1 : P v1.2 := by
    unfold v1
    split
    · refine State.storeFrame_keeps hP ?_
      exact h0'
    · dsimp only
      exact h0'
  clear_value v1
  dsimp only
  refine keeps_foldl (fun u2 x2 h2 => ?_) ?_
  · refine State.askReads_keeps hP ?_
    exact h2
  · assumption

theorem State.settleCharges_keeps (hP : Closed P) {a0 a1} (h0' : P a0) : P (State.settleCharges a0 a1) := by
  unfold State.settleCharges
  split
  · exact h0'
  · refine keeps_foldl (fun u1 x1 h1 => ?_) ?_
    · refine State.chargeTo_keeps hP ?_
      exact h1
    · exact h0'

theorem State.macAdd_keeps (hP : Closed P) {a0 a1 a2 a3} (h0' : P a0) : P (State.macAdd a0 a1 a2 a3) := by
  unfold State.macAdd
  refine keeps_ite ?_ ?_
  · exact h0'
  · refine State.macCnt_keeps hP ?_
    exact h0'

theorem State.rxLine_keeps (hP : Closed P) {a0 a1 a2} (h0' : P a0) : P (State.rxLine a0 a1 a2) := by
  unfold State.rxLine
  extract_lets +onlyGivenNames v1
  clear_value v1
  extract_lets +onlyGivenNames v2
  have h2 : P v2 := by
    unfold v2
    refine keeps_ite ?_ ?_
    · refine State.macCnt_keeps hP ?_
      exact h0'
    · exact h0'
  clear_value v2
  extract_lets +onlyGivenNames v3
  have h3 : P v3 := by
    unfold v3
    refine State.macAdd_keeps hP ?_
    exact h2
  clear_value v3
  extract_lets +onlyGivenNames v4
  have h4 : P v4 := by
    unfold v4
    refine keeps_ite ?_ ?_
    · refine State.macAdd_keeps hP ?_
      refine State.macAdd_keeps hP ?_
      exact h3
    · exact h3
  clear_value v4
  extract_lets +onlyGivenNames v5
  have h5 : P v5 := by
    unfold v5
    refine State.macAdd_keeps hP ?_
    exact h4
  clear_value v5
  refine keeps_ite ?_ ?_
  · refine State.macCnt_keeps hP ?_
    exact h5
  · refine keeps_ite ?_ ?_
    · exact h5
    · refine State.macCnt_keeps hP ?_
      exact h5

theorem State.frameEnds_keeps (hP : Closed P) {a0 a1} (h0' : P a0) : P (State.frameEnds a0 a1) := by
  unfold State.frameEnds
  split
  · refine State.reap_keeps hP ?_
    refine State.toecapDrop_keeps hP ?_
    exact h0'
  · extract_lets +onlyGivenNames v1
    have h1 : P v1.2 := by
      unfold v1
      refine State.icvVerify_keeps hP ?_
      exact h0'
    clear_value v1
    refine keeps_ite ?_ ?_
    · assumption
    · extract_lets +onlyGivenNames v2
      have h2 : P v2 := by
        unfold v2
        assumption
      clear_value v2
      extract_lets +onlyGivenNames v3
      have h3 : P v3 := by
        unfold v3
        split
        · refine State.modFrame_keeps hP ?_
          refine State.inc_keeps hP ?_
          exact h2
        · exact h2
      clear_value v3
      extract_lets +onlyGivenNames v4
      have h4 : P v4 := by
        unfold v4
        refine keeps_ite ?_ ?_
        · refine State.lateCheck_keeps hP ?_
          exact h3
        · exact h3
      clear_value v4
      split
      · exact h4
      · refine keeps_ite ?_ ?_
        · exact h4
        · refine keeps_ite ?_ ?_
          · refine State.enqueueFrame_keeps hP ?_
            exact h4
          · refine State.reap_keeps hP ?_
            refine State.settleCharges_keeps hP ?_
            refine State.bytesOn_keeps hP ?_
            exact h4

theorem ingressFrameEnd_keeps (hP : Closed P) {a0 a1 a2} (h2' : P a2) : P (ingressFrameEnd a0 a1 a2) := by
  unfold ingressFrameEnd
  split
  · exact h2'
  · extract_lets +onlyGivenNames v1
    have h1 : P v1 := by
      unfold v1
      refine State.modFrame_keeps hP ?_
      refine State.fabNow_keeps hP ?_
      refine State.rxLine_keeps hP ?_
      exact h2'
    clear_value v1
    split
    · refine State.killFrame_keeps hP ?_
      exact h1
    · refine State.killFrame_keeps hP ?_
      split
      · refine State.macCnt_keeps hP ?_
        exact h1
      · refine State.rxOk_keeps hP ?_
        exact h1
    · extract_lets +onlyGivenNames v2
      have h2 : P v2.2 := by
        unfold v2
        refine State.bytesIn_keeps hP ?_
        exact h1
      clear_value v2
      refine keeps_ite ?_ ?_
      · assumption
      · split
        · refine State.macError_keeps hP ?_
          assumption
        · extract_lets +onlyGivenNames v3
          have h3 : P v3 := by
            unfold v3
            refine State.modFrame_keeps hP ?_
            refine State.rxOk_keeps hP ?_
            assumption
          clear_value v3
          refine State.frameEnds_keeps hP ?_
          exact h3

theorem reorderRelease_keeps (hP : Closed P) {a0 a1} (h1' : P a1) : P (reorderRelease a0 a1) := by
  unfold reorderRelease
  split
  · exact h1'
  · refine keeps_ite ?_ ?_
    · exact h1'
    · extract_lets +onlyGivenNames v1
      have h1 : P v1 := by
        unfold v1
        refine State.modFrame_keeps hP ?_
        exact h1'
      clear_value v1
      extract_lets +onlyGivenNames v2
      have h2 : P v2 := by
        unfold v2
        refine State.takeSlots_keeps hP ?_
        exact h1
      clear_value v2
      refine State.enqueueFrame_keeps hP ?_
      exact h2

theorem State.clickerOut_keeps (hP : Closed P) {a0 a1} (h0' : P a0) : P (State.clickerOut a0 a1) := by
  unfold State.clickerOut
  refine keeps_ite ?_ ?_
  · exact h0'
  · extract_lets +onlyGivenNames v1
    have h1 : P v1 := by
      unfold v1
      refine State.put_keeps hP ?_
      exact h0'
    clear_value v1
    extract_lets +onlyGivenNames v2
    have h2 : P v2 := by
      unfold v2
      refine State.put_keeps hP ?_
      exact h1
    clear_value v2
    extract_lets +onlyGivenNames v3
    clear_value v3
    extract_lets +onlyGivenNames v4
    have h4 : P v4 := by
      unfold v4
      refine keeps_ite ?_ ?_
      · refine State.clrSet_keeps hP ?_
        exact h2
      · refine State.raise_keeps hP ?_
        refine State.put_keeps hP ?_
        exact h2
    clear_value v4
    refine State.budget_keeps hP ?_
    exact h4

theorem reorderTimeout_keeps (hP : Closed P) {a0 a1 a2} (h2' : P a2) : P (reorderTimeout a0 a1 a2) := by
  unfold reorderTimeout
  split
  · exact h2'
  · split
    · extract_lets +onlyGivenNames v1
      have h1 : P v1 := by
        unfold v1
        refine State.inc_keeps hP ?_
        exact h2'
      clear_value v1
      extract_lets +onlyGivenNames v2
      have h2 : P v2 := by
        unfold v2
        refine State.modFrame_keeps hP ?_
        exact h1
      clear_value v2
      refine keeps_ite ?_ ?_
      · refine State.fault_keeps hP ?_
        refine State.raise_keeps hP ?_
        exact h2
      · refine State.fault_keeps hP ?_
        refine State.clickerOut_keeps hP ?_
        refine State.raise_keeps hP ?_
        exact h2
    · exact h2'

theorem State.rejoinTest_keeps (hP : Closed P) {a0 a1 a2 a3} (h0' : P a0) : P (State.rejoinTest a0 a1 a2 a3) := by
  unfold State.rejoinTest
  extract_lets +onlyGivenNames v1
  clear_value v1
  extract_lets +onlyGivenNames v2
  have h2 : P v2 := by
    unfold v2
    refine State.inc_keeps hP ?_
    exact h0'
  clear_value v2
  extract_lets +onlyGivenNames v3
  clear_value v3
  extract_lets +onlyGivenNames v4
  clear_value v4
  extract_lets +onlyGivenNames v5
  have h5 : P v5 := by
    unfold v5
    refine keeps_mk hP ?_
    exact h2
  clear_value v5
  refine keeps_ite ?_ ?_
  · exact h5
  · refine State.fault_keeps hP ?_
    refine State.put_keeps hP ?_
    exact h5

theorem clickerRejoin_keeps (hP : Closed P) {a0 a1 a2 a3} (h3' : P a3) : P (clickerRejoin a0 a1 a2 a3) := by
  unfold clickerRejoin
  refine keeps_ite ?_ ?_
  · extract_lets +onlyGivenNames v1
    clear_value v1
    extract_lets +onlyGivenNames v2
    have h2 : P v2 := by
      unfold v2
      refine State.clrSet_keeps hP ?_
      exact h3'
    clear_value v2
    extract_lets +onlyGivenNames v3
    have h3 : P v3 := by
      unfold v3
      refine State.rejoinTest_keeps hP ?_
      exact h2
    clear_value v3
    refine keeps_ite ?_ ?_
    · refine State.budget_keeps hP ?_
      refine State.raise_keeps hP ?_
      refine State.put_keeps hP ?_
      exact h3
    · exact h3
  · exact h3'

theorem State.discard_keeps (hP : Closed P) {a0 a1 a2 a3} (h0' : P a0) : P (State.discard a0 a1 a2 a3) := by
  unfold State.discard
  extract_lets +onlyGivenNames v1
  have h1 : P v1 := by
    unfold v1
    refine State.creditSync_keeps hP ?_
    exact h0'
  clear_value v1
  extract_lets +onlyGivenNames v2
  have h2 : P v2 := by
    unfold v2
    refine State.macCnt_keeps hP ?_
    exact h1
  clear_value v2
  extract_lets +onlyGivenNames v3
  have h3 : P v3 := by
    unfold v3
    split
    · refine State.svcDrop_keeps hP ?_
      exact h1
    · refine State.svcDrop_keeps hP ?_
      exact h1
    · refine State.raise_keeps hP ?_
      refine State.inc_keeps hP ?_
      exact h1
    · refine keeps_ite ?_ ?_
      · refine State.tcErr_keeps hP ?_
        exact h2
      · exact h2
    · refine State.tcErr_keeps hP ?_
      refine State.tcCount_keeps hP ?_
      exact h1
    · refine State.tcCount_keeps hP ?_
      exact h1
    · refine State.tcCount_keeps hP ?_
      exact h1
  clear_value v3
  refine State.reap_keeps hP ?_
  refine State.rmCopy_keeps hP ?_
  exact h3

theorem State.startCopy_keeps (hP : Closed P) {a0 a1 a2} (h0' : P a0) : P (State.startCopy a0 a1 a2) := by
  unfold State.startCopy
  extract_lets +onlyGivenNames v1
  clear_value v1
  extract_lets +onlyGivenNames v2
  have h2 : P v2 := by
    unfold v2
    refine State.stampTx_keeps hP ?_
    refine State.modCopy_keeps hP ?_
    exact h0'
  clear_value v2
  extract_lets +onlyGivenNames v3
  have h3 : P v3 := by
    unfold v3
    split
    · extract_lets +onlyGivenNames v4
      have h4 : P v4.2 := by
        unfold v4
        refine State.takePn_keeps hP ?_
        exact h2
      clear_value v4
      extract_lets +onlyGivenNames v5
      have h5 : P v5 := by
        unfold v5
        refine State.tcCount_keeps hP ?_
        assumption
      clear_value v5
      refine State.modCopy_keeps hP ?_
      exact h5
    · exact h2
  clear_value v3
  refine State.askReads_keeps hP ?_
  exact h3

theorem State.mirrorEgress_keeps (hP : Closed P) {a0 a1 a2} (h0' : P a0) : P (State.mirrorEgress a0 a1 a2) := by
  unfold State.mirrorEgress
  refine keeps_ite ?_ ?_
  · exact h0'
  · refine keeps_foldl (fun u1 x1 h1 => ?_) ?_
    · extract_lets +onlyGivenNames v2
      clear_value v2
      extract_lets +onlyGivenNames v3
      clear_value v3
      refine keeps_ite ?_ ?_
      · exact h1
      · extract_lets +onlyGivenNames v4
        have h4 : P v4 := by
          unfold v4
          refine State.modFrame_keeps hP ?_
          exact h1
        clear_value v4
        refine keeps_ite ?_ ?_
        · refine State.inc_keeps hP ?_
          exact h4
        · refine State.mirrorCopy_keeps hP ?_
          exact h4
    · exact h0'

theorem State.takeCopy_keeps (hP : Closed P) {a0 a1 a2 a3} (h0' : P a0) : P (State.takeCopy a0 a1 a2 a3) := by
  unfold State.takeCopy
  extract_lets +onlyGivenNames v1
  clear_value v1
  extract_lets +onlyGivenNames v2
  have h2 : P v2 := by
    unfold v2
    refine State.creditSync_keeps hP ?_
    exact h0'
  clear_value v2
  extract_lets +onlyGivenNames v3
  have h3 : P v3 := by
    unfold v3
    refine State.mirrorEgress_keeps hP ?_
    exact h2
  clear_value v3
  extract_lets +onlyGivenNames v4
  clear_value v4
  extract_lets +onlyGivenNames v5
  have h5 : P v5 := by
    unfold v5
    refine State.chargeBytes_keeps hP ?_
    exact h3
  clear_value v5
  extract_lets +onlyGivenNames v6
  have h6 : P v6 := by
    unfold v6
    refine State.inc_keeps hP ?_
    exact h5
  clear_value v6
  extract_lets +onlyGivenNames v7
  have h7 : P v7 := by
    unfold v7
    refine State.clrSet_keeps hP ?_
    exact h6
  clear_value v7
  extract_lets +onlyGivenNames v8
  have h8 : P v8 := by
    unfold v8
    refine State.modCopy_keeps hP ?_
    exact h7
  clear_value v8
  refine keeps_ite ?_ ?_
  · refine State.modCopy_keeps hP ?_
    exact h8
  · refine State.startCopy_keeps hP ?_
    exact h8

theorem State.resumeCopy_keeps (hP : Closed P) {a0 a1} (h0' : P a0) : P (State.resumeCopy a0 a1) := by
  unfold State.resumeCopy
  extract_lets +onlyGivenNames v1
  clear_value v1
  refine State.macCnt_keeps hP ?_
  refine State.modCopy_keeps hP ?_
  exact h0'

theorem State.chooseLoop_keeps (hP : Closed P) {a0 a1 a2} (h0' : P a0) : P (State.chooseLoop a0 a1 a2) := by
  induction a2 generalizing a0 with
  | zero => exact h0'
  | succ n ih =>
    simp only [State.chooseLoop]
    split
    · split
      · exact State.resumeCopy_keeps hP h0'
      · exact h0'
    · split
      · exact State.rmCopy_keeps hP h0'
      · split
        · exact ih (State.discard_keeps hP h0')
        · split
          · split
            · exact State.resumeCopy_keeps hP h0'
            · exact State.takeCopy_keeps hP h0'
          · exact State.takeCopy_keeps hP h0'

theorem State.kaStart_keeps (hP : Closed P) {a0 a1} (h0' : P a0) : P (State.kaStart a0 a1) := by
  unfold State.kaStart
  split
  · refine keeps_ite ?_ ?_
    · exact h0'
    · refine State.stampTx_keeps hP ?_
      refine State.macSet_keeps hP ?_
      exact h0'
  · exact h0'

theorem schedulerChoose_keeps (hP : Closed P) {a0 a1} (h1' : P a1) : P (schedulerChoose a0 a1) := by
  unfold schedulerChoose
  extract_lets +onlyGivenNames v1
  have h1 : P v1 := by
    unfold v1
    refine State.fabNow_keeps hP ?_
    exact h1'
  clear_value v1
  refine keeps_ite ?_ ?_
  · exact h1
  · refine keeps_ite ?_ ?_
    · refine State.kaStart_keeps hP ?_
      exact h1
    · refine keeps_ite ?_ ?_
      · refine State.chooseLoop_keeps hP ?_
        refine State.creditSync_keeps hP ?_
        exact h1
      · exact h1

theorem cutThroughStart_keeps (hP : Closed P) {a0 a1} (h1' : P a1) : P (cutThroughStart a0 a1) := by
  unfold cutThroughStart
  extract_lets +onlyGivenNames v1
  have h1 : P v1 := by
    unfold v1
    refine State.fabNow_keeps hP ?_
    exact h1'
  clear_value v1
  split
  · exact h1
  · split
    · refine State.rmCopy_keeps hP ?_
      exact h1
    · refine keeps_ite ?_ ?_
      · exact h1
      · split
        · refine State.discard_keeps hP ?_
          refine State.chargeTo_keeps hP ?_
          exact h1
        · refine State.startCopy_keeps hP ?_
          exact h1

theorem State.kaDone_keeps (hP : Closed P) {a0 a1} (h0' : P a0) : P (State.kaDone a0 a1) := by
  unfold State.kaDone
  refine State.macSet_keeps hP ?_
  exact h0'

theorem copyTxDone_keeps (hP : Closed P) {a0 a1} (h1' : P a1) : P (copyTxDone a0 a1) := by
  unfold copyTxDone
  refine keeps_ite ?_ ?_
  · exact h1'
  · extract_lets +onlyGivenNames v1
    have h1 : P v1 := by
      unfold v1
      refine State.fabNow_keeps hP ?_
      exact h1'
    clear_value v1
    split
    · refine State.kaDone_keeps hP ?_
      refine State.wasSent_keeps hP ?_
      refine State.macCnt_keeps hP ?_
      refine State.macCnt_keeps hP ?_
      refine State.macCnt_keeps hP ?_
      exact h1
    · split
      · exact h1
      · split
        · refine State.rmCopy_keeps hP ?_
          exact h1
        · refine keeps_ite ?_ ?_
          · exact h1
          · refine keeps_ite ?_ ?_
            · refine keeps_ite ?_ ?_
              · refine State.reap_keeps hP ?_
                refine State.poisonCopy_keeps hP ?_
                exact h1
              · exact h1
            · extract_lets +onlyGivenNames v2
              clear_value v2
              extract_lets +onlyGivenNames v3
              have h3 : P v3 := by
                unfold v3
                refine State.creditSync_keeps hP ?_
                exact h1
              clear_value v3
              extract_lets +onlyGivenNames v4
              have h4 : P v4 := by
                unfold v4
                refine State.wasSent_keeps hP ?_
                refine State.macCnt_keeps hP ?_
                refine State.macCnt_keeps hP ?_
                refine State.macCnt_keeps hP ?_
                exact h3
              clear_value v4
              refine State.reap_keeps hP ?_
              refine State.rmCopy_keeps hP ?_
              exact h4

theorem reparent_keeps (hP : Closed P) {a0 a1 a2} (h2' : P a2) : P (reparent a0 a1 a2) := by
  unfold reparent
  refine keeps_ite ?_ ?_
  · split
    · extract_lets +onlyGivenNames v1
      clear_value v1
      extract_lets +onlyGivenNames v2
      have h2 : P v2 := by
        unfold v2
        refine State.schSet_keeps hP ?_
        exact h2'
      clear_value v2
      extract_lets +onlyGivenNames v3
      clear_value v3
      extract_lets +onlyGivenNames v4
      clear_value v4
      extract_lets +onlyGivenNames v5
      have h5 : P v5 := by
        unfold v5
        refine keeps_ite ?_ ?_
        · refine State.schSet_keeps hP ?_
          exact h2
        · exact h2
      clear_value v5
      extract_lets +onlyGivenNames v6
      have h6 : P v6 := by
        unfold v6
        refine keeps_ite ?_ ?_
        · refine State.subSettle_keeps hP ?_
          refine State.subSettle_keeps hP ?_
          exact h5
        · exact h5
      clear_value v6
      extract_lets +onlyGivenNames v7
      clear_value v7
      refine State.raise_keeps hP ?_
      exact h6
    · exact h2'
  · split
    · extract_lets +onlyGivenNames v8
      have h8 : P v8 := by
        unfold v8
        refine State.schSet_keeps hP ?_
        exact h2'
      clear_value v8
      split
      · extract_lets +onlyGivenNames v9
        clear_value v9
        extract_lets +onlyGivenNames v10
        clear_value v10
        refine State.raise_keeps hP ?_
        refine State.subSet_keeps hP ?_
        exact h8
      · refine State.raise_keeps hP ?_
        exact h8
    · exact h2'

theorem State.fvSet_keeps (hP : Closed P) {a0 a1 a2} (h0' : P a0) : P (State.fvSet a0 a1 a2) := by
  unfold State.fvSet
  refine State.tcaSet_keeps hP ?_
  exact h0'

theorem State.fvEvents_keeps (hP : Closed P) {a0 a1 a2} (h0' : P a0) : P (State.fvEvents a0 a1 a2) := by
  unfold State.fvEvents
  extract_lets +onlyGivenNames v1
  have h1 : P v1 := by
    unfold v1
    refine keeps_ite ?_ ?_
    · refine State.tcaSet_keeps hP ?_
      refine State.tcEvent_keeps hP ?_
      exact h0'
    · exact h0'
  clear_value v1
  refine keeps_ite ?_ ?_
  · refine State.tcaSet_keeps hP ?_
    refine State.tcEvent_keeps hP ?_
    exact h1
  · exact h1

theorem State.pduSeal_keeps (hP : Closed P) {a0 a1 a2 a3} (h0' : P a0) : P (State.pduSeal a0 a1 a2 a3).2 := by
  unfold State.pduSeal
  extract_lets +onlyGivenNames v1
  clear_value v1
  split
  · dsimp only
    exact h0'
  · split
    · dsimp only
      refine State.tcErr_keeps hP ?_
      exact h0'
    · split
      · dsimp only
        refine State.tcErr_keeps hP ?_
        exact h0'
      · extract_lets +onlyGivenNames v2
        clear_value v2
        extract_lets +onlyGivenNames v3
        clear_value v3
        split
        · dsimp only
          exact h0'
        · split
          · split
            · dsimp only
              refine State.tcErr_keeps hP ?_
              exact h0'
            · split
              · dsimp only
                refine State.tcErr_keeps hP ?_
                exact h0'
              · split
                · dsimp only
                  refine State.fvEvents_keeps hP ?_
                  exact h0'
                · extract_lets +onlyGivenNames v4
                  clear_value v4
                  extract_lets +onlyGivenNames v5
                  have h5 : P v5 := by
                    unfold v5
                    refine keeps_ite ?_ ?_
                    · refine State.fvEvents_keeps hP ?_
                      refine State.fvSet_keeps hP ?_
                      exact h0'
                    · exact h0'
                  clear_value v5
                  split
                  · extract_lets +onlyGivenNames v6
                    clear_value v6
                    extract_lets +onlyGivenNames v7
                    clear_value v7
                    dsimp only
                    exact h5
                  · extract_lets +onlyGivenNames v8
                    clear_value v8
                    dsimp only
                    exact h5
          · split
            · dsimp only
              refine State.tcErr_keeps hP ?_
              exact h0'
            · split
              · dsimp only
                refine State.tcErr_keeps hP ?_
                exact h0'
              · split
                · dsimp only
                  refine State.fvEvents_keeps hP ?_
                  exact h0'
                · extract_lets +onlyGivenNames v9
                  clear_value v9
                  extract_lets +onlyGivenNames v10
                  have h10 : P v10 := by
                    unfold v10
                    refine keeps_ite ?_ ?_
                    · refine State.fvEvents_keeps hP ?_
                      refine State.fvSet_keeps hP ?_
                      exact h0'
                    · exact h0'
                  clear_value v10
                  split
                  · extract_lets +onlyGivenNames v11
                    clear_value v11
                    extract_lets +onlyGivenNames v12
                    clear_value v12
                    dsimp only
                    exact h10
                  · extract_lets +onlyGivenNames v13
                    clear_value v13
                    dsimp only
                    exact h10

theorem State.pduOpen_keeps (hP : Closed P) {a0 a1 a2 a3} (h0' : P a0) : P (State.pduOpen a0 a1 a2 a3).2 := by
  unfold State.pduOpen
  extract_lets +onlyGivenNames v1
  clear_value v1
  split
  · dsimp only
    exact h0'
  · split
    · dsimp only
      refine State.tcErr_keeps hP ?_
      exact h0'
    · split
      · dsimp only
        refine State.tcErr_keeps hP ?_
        exact h0'
      · extract_lets +onlyGivenNames v2
        clear_value v2
        split
        · extract_lets +onlyGivenNames v3
          clear_value v3
          split
          · dsimp only
            exact h0'
          · split
            · dsimp only
              refine State.tcErr_keeps hP ?_
              exact h0'
            · extract_lets +onlyGivenNames v4
              clear_value v4
              extract_lets +onlyGivenNames v5
              clear_value v5
              extract_lets +onlyGivenNames v6
              clear_value v6
              extract_lets +onlyGivenNames v7
              clear_value v7
              split
              · dsimp only
                refine State.fvEvents_keeps hP ?_
                refine State.fvSet_keeps hP ?_
                exact h0'
              · dsimp only
                exact h0'
        · extract_lets +onlyGivenNames v8
          clear_value v8
          extract_lets +onlyGivenNames v9
          clear_value v9
          split
          · dsimp only
            exact h0'
          · extract_lets +onlyGivenNames v10
            clear_value v10
            extract_lets +onlyGivenNames v11
            clear_value v11
            extract_lets +onlyGivenNames v12
            clear_value v12
            extract_lets +onlyGivenNames v13
            clear_value v13
            split
            · dsimp only
              refine State.tcErr_keeps hP ?_
              exact h0'
            · extract_lets +onlyGivenNames v14
              clear_value v14
              extract_lets +onlyGivenNames v15
              clear_value v15
              split
              · extract_lets +onlyGivenNames v16
                clear_value v16
                dsimp only
                refine keeps_ite ?_ ?_
                · exact h0'
                · refine State.fvEvents_keeps hP ?_
                  refine State.fvSet_keeps hP ?_
                  exact h0'
              · dsimp only
                exact h0'

theorem State.wakSet_keeps (hP : Closed P) {a0 a1} (h0' : P a0) : P (State.wakSet a0 a1) := by
  unfold State.wakSet
  refine keeps_mk hP ?_
  exact h0'

theorem State.clTimer_keeps (hP : Closed P) {a0 a1} (h0' : P a0) : P (State.clTimer a0 a1) := by
  unfold State.clTimer
  extract_lets +onlyGivenNames v1
  clear_value v1
  refine State.wakSet_keeps hP ?_
  exact h0'

theorem State.clPut_keeps (hP : Closed P) {a0 a1 a2} (h0' : P a0) : P (State.clPut a0 a1 a2) := by
  unfold State.clPut
  extract_lets +onlyGivenNames v1
  clear_value v1
  extract_lets +onlyGivenNames v2
  clear_value v2
  extract_lets +onlyGivenNames v3
  have h3 : P v3 := by
    unfold v3
    refine State.put_keeps hP ?_
    exact h0'
  clear_value v3
  refine keeps_ite ?_ ?_
  · exact h3
  · refine State.raise_keeps hP ?_
    exact h3

theorem State.awlSet_keeps (hP : Closed P) {a0 a1} (h0' : P a0) : P (State.awlSet a0 a1) := by
  unfold State.awlSet
  refine keeps_mk hP ?_
  exact h0'

theorem State.canSet_keeps (hP : Closed P) {a0 a1 a2} (h0' : P a0) : P (State.canSet a0 a1 a2) := by
  unfold State.canSet
  refine State.awlSet_keeps hP ?_
  exact h0'

theorem State.linSet_keeps (hP : Closed P) {a0 a1 a2} (h0' : P a0) : P (State.linSet a0 a1 a2) := by
  unfold State.linSet
  refine State.awlSet_keeps hP ?_
  exact h0'

theorem State.slotMissed_keeps (hP : Closed P) {a0 a1} (h0' : P a0) : P (State.slotMissed a0 a1) := by
  unfold State.slotMissed
  refine State.raise_keeps hP ?_
  refine State.inc_keeps hP ?_
  exact h0'

theorem State.txFailed_keeps (hP : Closed P) {a0 a1} (h0' : P a0) : P (State.txFailed a0 a1) := by
  unfold State.txFailed
  extract_lets +onlyGivenNames v1
  clear_value v1
  split
  · refine keeps_ite ?_ ?_
    · refine State.slotMissed_keeps hP ?_
      refine State.canSet_keeps hP ?_
      exact h0'
    · refine keeps_ite ?_ ?_
      · refine State.inc_keeps hP ?_
        refine State.canSet_keeps hP ?_
        exact h0'
      · refine State.canSet_keeps hP ?_
        exact h0'
  · refine State.canSet_keeps hP ?_
    exact h0'

theorem State.canFit_keeps (hP : Closed P) {a0 a1} (h0' : P a0) : P (State.canFit a0 a1) := by
  unfold State.canFit
  extract_lets +onlyGivenNames v1
  clear_value v1
  extract_lets +onlyGivenNames v2
  clear_value v2
  extract_lets +onlyGivenNames v3
  clear_value v3
  extract_lets +onlyGivenNames v4
  clear_value v4
  extract_lets +onlyGivenNames v5
  have h5 : P v5 := by
    unfold v5
    refine State.put_keeps hP ?_
    exact h0'
  clear_value v5
  refine keeps_ite ?_ ?_
  · extract_lets +onlyGivenNames v6
    have h6 : P v6 := by
      unfold v6
      refine State.txFailed_keeps hP ?_
      exact h5
    clear_value v6
    refine State.canSet_keeps hP ?_
    exact h6
  · refine keeps_ite ?_ ?_
    · refine State.txFailed_keeps hP ?_
      exact h5
    · exact h5

theorem State.canTake_keeps (hP : Closed P) {a0 a1} (h0' : P a0) : P (State.canTake a0 a1) := by
  unfold State.canTake
  split
  · exact h0'
  · extract_lets +onlyGivenNames v1
    have h1 : P v1 := by
      unfold v1
      refine State.awlSet_keeps hP ?_
      exact h0'
    clear_value v1
    extract_lets +onlyGivenNames v2
    clear_value v2
    extract_lets +onlyGivenNames v3
    have h3 : P v3 := by
      unfold v3
      refine State.canSet_keeps hP ?_
      exact h1
    clear_value v3
    extract_lets +onlyGivenNames v4
    clear_value v4
    extract_lets +onlyGivenNames v5
    have h5 : P v5 := by
      unfold v5
      refine State.canFit_keeps hP ?_
      exact h3
    clear_value v5
    extract_lets +onlyGivenNames v6
    clear_value v6
    refine keeps_ite ?_ ?_
    · refine State.put_keeps hP ?_
      exact h5
    · exact h5

theorem State.canDue_keeps (hP : Closed P) {a0 a1} (h0' : P a0) : P (State.canDue a0 a1) := by
  unfold State.canDue
  refine keeps_ite ?_ ?_
  · refine State.canTake_keeps hP ?_
    exact h0'
  · refine State.canSet_keeps hP ?_
    exact h0'

theorem State.canSettle_keeps (hP : Closed P) {a0 a1} (h0' : P a0) : P (State.canSettle a0 a1) := by
  unfold State.canSettle
  refine keeps_ite ?_ ?_
  · refine State.canTake_keeps hP ?_
    exact h0'
  · exact h0'

theorem State.canSync_keeps (hP : Closed P) {a0 a1} (h0' : P a0) : P (State.canSync a0 a1) := by
  unfold State.canSync
  refine State.canSettle_keeps hP ?_
  refine State.canFit_keeps hP ?_
  exact h0'

theorem State.cycleSchedules_keeps (hP : Closed P) {a0 a1} (h0' : P a0) : P (State.cycleSchedules a0 a1) := by
  unfold State.cycleSchedules
  extract_lets +onlyGivenNames v1
  clear_value v1
  refine keeps_foldl (fun u2 x2 h2 => ?_) ?_
  · refine State.canDue_keeps hP ?_
    exact h2
  · exact h0'

theorem State.canHold_keeps (hP : Closed P) {a0 a1 a2} (h0' : P a0) : P (State.canHold a0 a1 a2) := by
  unfold State.canHold
  refine State.canSync_keeps hP ?_
  refine State.canSet_keeps hP ?_
  exact h0'

theorem State.txmSet_keeps (hP : Closed P) {a0 a1 a2} (h0' : P a0) : P (State.txmSet a0 a1 a2) := by
  unfold State.txmSet
  refine State.wakSet_keeps hP ?_
  exact h0'

theorem State.txmNext_keeps (hP : Closed P) {a0 a1} (h0' : P a0) : P (State.txmNext a0 a1) := by
  unfold State.txmNext
  extract_lets +onlyGivenNames v1
  clear_value v1
  split
  · exact h0'
  · split
    · refine State.wakSet_keeps hP ?_
      exact h0'
    · refine State.wakSet_keeps hP ?_
      exact h0'

theorem State.txmRequest_keeps (hP : Closed P) {a0 a1 a2 a3 a4} (h0' : P a0) : P (State.txmRequest a0 a1 a2 a3 a4) := by
  unfold State.txmRequest
  extract_lets +onlyGivenNames v1
  clear_value v1
  extract_lets +onlyGivenNames v2
  clear_value v2
  refine keeps_ite ?_ ?_
  · exact h0'
  · refine keeps_ite ?_ ?_
    · extract_lets +onlyGivenNames v3
      have h3 : P v3 := by
        unfold v3
        refine State.txmSet_keeps hP ?_
        exact h0'
      clear_value v3
      refine State.canHold_keeps hP ?_
      refine State.txmNext_keeps hP ?_
      exact h3
    · extract_lets +onlyGivenNames v4
      have h4 : P v4 := by
        unfold v4
        refine State.txmSet_keeps hP ?_
        exact h0'
      clear_value v4
      extract_lets +onlyGivenNames v5
      have h5 : P v5 := by
        unfold v5
        refine keeps_ite ?_ ?_
        · refine State.raise_keeps hP ?_
          exact h4
        · exact h4
      clear_value v5
      refine State.canHold_keeps hP ?_
      refine State.txmNext_keeps hP ?_
      exact h5

theorem State.t1sRequest_keeps (hP : Closed P) {a0 a1 a2} (h0' : P a0) : P (State.t1sRequest a0 a1 a2) := by
  unfold State.t1sRequest
  extract_lets +onlyGivenNames v1
  have h1 : P v1 := by
    unfold v1
    refine State.put_keeps hP ?_
    exact h0'
  clear_value v1
  refine keeps_ite ?_ ?_
  · refine State.linkLost_keeps hP ?_
    exact h1
  · exact h1

theorem State.clUp_keeps (hP : Closed P) {a0 a1} (h0' : P a0) : P (State.clUp a0 a1) := by
  unfold State.clUp
  extract_lets +onlyGivenNames v1
  have h1 : P v1 := by
    unfold v1
    refine State.wakSet_keeps hP ?_
    exact h0'
  clear_value v1
  split
  · refine keeps_foldl (fun u2 x2 h2 => ?_) ?_
    · refine State.txmRequest_keeps hP ?_
      exact h2
    · exact h1
  · refine keeps_ite ?_ ?_
    · refine State.put_keeps hP ?_
      refine State.awlSet_keeps hP ?_
      exact h1
    · exact h1
  · refine State.t1sRequest_keeps hP ?_
    exact h1
  · exact h1

theorem State.sendKa_keeps (hP : Closed P) {a0 a1} (h0' : P a0) : P (State.sendKa a0 a1) := by
  unfold State.sendKa
  split
  · extract_lets +onlyGivenNames v1
    clear_value v1
    extract_lets +onlyGivenNames v2
    clear_value v2
    refine keeps_foldl (fun u3 x3 h3 => ?_) ?_
    · extract_lets +onlyGivenNames v4
      clear_value v4
      refine State.canSet_keeps hP ?_
      exact h3
    · exact h0'
  · refine keeps_ite ?_ ?_
    · refine State.macSet_keeps hP ?_
      exact h0'
    · exact h0'
  · exact h0'

theorem State.tc10_keeps (hP : Closed P) {a0 a1 a2} (h0' : P a0) : P (State.tc10 a0 a1 a2) := by
  unfold State.tc10
  extract_lets +onlyGivenNames v1
  have h1 : P v1 := by
    unfold v1
    refine State.wakSet_keeps hP ?_
    exact h0'
  clear_value v1
  refine keeps_ite ?_ ?_
  · extract_lets +onlyGivenNames v2
    have h2 : P v2.2 := by
      unfold v2
      refine State.draw_keeps hP ?_
      exact h1
    clear_value v2
    extract_lets +onlyGivenNames v3
    have h3 : P v3.2 := by
      unfold v3
      refine State.draw_keeps hP ?_
      assumption
    clear_value v3
    extract_lets +onlyGivenNames v4
    have h4 : P v4 := by
      unfold v4
      assumption
    clear_value v4
    refine keeps_mk hP ?_
    exact h4
  · exact h1

theorem State.wakeNet_keeps (hP : Closed P) {a0 a1} (h0' : P a0) : P (State.wakeNet a0 a1) := by
  unfold State.wakeNet
  split
  · refine State.sendKa_keeps hP ?_
    exact h0'
  · refine keeps_ite ?_ ?_
    · exact h0'
    · refine State.linSet_keeps hP ?_
      exact h0'
  · refine State.tc10_keeps hP ?_
    exact h0'
  · refine State.wakSet_keeps hP ?_
    exact h0'
  · exact h0'

theorem State.clEnter_keeps (hP : Closed P) {a0 a1 a2} (h0' : P a0) : P (State.clEnter a0 a1 a2) := by
  unfold State.clEnter
  extract_lets +onlyGivenNames v1
  clear_value v1
  extract_lets +onlyGivenNames v2
  have h2 : P v2 := by
    unfold v2
    refine State.clPut_keeps hP ?_
    exact h0'
  clear_value v2
  extract_lets +onlyGivenNames v3
  have h3 : P v3 := by
    unfold v3
    refine State.clTimer_keeps hP ?_
    exact h2
  clear_value v3
  refine keeps_ite ?_ ?_
  · refine keeps_ite ?_ ?_
    · exact h3
    · extract_lets +onlyGivenNames v4
      have h4 : P v4 := by
        unfold v4
        refine State.wakSet_keeps hP ?_
        exact h3
      clear_value v4
      split
      · refine keeps_foldl (fun u5 x5 h5 => ?_) ?_
        · refine State.txmRequest_keeps hP ?_
          exact h5
        · exact h4
      · refine keeps_ite ?_ ?_
        · refine State.put_keeps hP ?_
          refine keeps_ite ?_ ?_
          · refine State.inc_keeps hP ?_
            exact h4
          · exact h4
        · exact h4
      · refine State.t1sRequest_keeps hP ?_
        exact h4
      · refine State.tc10_keeps hP ?_
        exact h4
      · exact h4
  · extract_lets +onlyGivenNames v6
    have h6 : P v6 := by
      unfold v6
      refine keeps_ite ?_ ?_
      · refine State.clUp_keeps hP ?_
        exact h3
      · exact h3
    clear_value v6
    refine keeps_ite ?_ ?_
    · refine State.wakeNet_keeps hP ?_
      exact h6
    · exact h6

theorem State.clUpdate_keeps (hP : Closed P) {a0 a1} (h0' : P a0) : P (State.clUpdate a0 a1) := by
  unfold State.clUpdate
  extract_lets +onlyGivenNames v1
  clear_value v1
  refine keeps_ite ?_ ?_
  · exact h0'
  · refine keeps_ite ?_ ?_
    · refine keeps_ite ?_ ?_
      · exact h0'
      · refine State.clEnter_keeps hP ?_
        exact h0'
    · refine keeps_ite ?_ ?_
      · refine State.clEnter_keeps hP ?_
        exact h0'
      · exact h0'

theorem State.clUpdateAll_keeps (hP : Closed P) {a0} (h0' : P a0) : P (State.clUpdateAll a0) := by
  unfold State.clUpdateAll
  refine keeps_foldl (fun u1 x1 h1 => ?_) ?_
  · refine State.clUpdate_keeps hP ?_
    exact h1
  · exact h0'

theorem State.kaReceived_keeps (hP : Closed P) {a0 a1} (h0' : P a0) : P (State.kaReceived a0 a1) := by
  unfold State.kaReceived
  extract_lets +onlyGivenNames v1
  clear_value v1
  refine keeps_ite ?_ ?_
  · refine State.clTimer_keeps hP ?_
    exact h0'
  · refine keeps_ite ?_ ?_
    · refine State.clEnter_keeps hP ?_
      exact h0'
    · exact h0'

theorem State.kaSeen_keeps (hP : Closed P) {a0 a1} (h0' : P a0) : P (State.kaSeen a0 a1) := by
  unfold State.kaSeen
  split
  · refine State.kaReceived_keeps hP ?_
    exact h0'
  · exact h0'

theorem State.validTraffic_keeps (hP : Closed P) {a0 a1} (h0' : P a0) : P (State.validTraffic a0 a1) := by
  unfold State.validTraffic
  split
  · refine keeps_ite ?_ ?_
    · refine State.clEnter_keeps hP ?_
      exact h0'
    · exact h0'
  · exact h0'

theorem State.routeWake_keeps (hP : Closed P) {a0 a1} (h0' : P a0) : P (State.routeWake a0 a1) := by
  unfold State.routeWake
  extract_lets +onlyGivenNames v1
  clear_value v1
  split
  · refine keeps_ite ?_ ?_
    · extract_lets +onlyGivenNames v2
      clear_value v2
      extract_lets +onlyGivenNames v3
      have h3 : P v3 := by
        unfold v3
        refine State.wakSet_keeps hP ?_
        exact h0'
      clear_value v3
      refine State.clUpdate_keeps hP ?_
      refine State.put_keeps hP ?_
      exact h3
    · exact h0'
  · exact h0'

theorem State.lceState_keeps (hP : Closed P) {a0 a1 a2} (h0' : P a0) : P (State.lceState a0 a1 a2) := by
  unfold State.lceState
  extract_lets +onlyGivenNames v1
  have h1 : P v1 := by
    unfold v1
    refine State.creditSync_keeps hP ?_
    exact h0'
  clear_value v1
  extract_lets +onlyGivenNames v2
  have h2 : P v2 := by
    unfold v2
    refine State.put_keeps hP ?_
    exact h1
  clear_value v2
  extract_lets +onlyGivenNames v3
  clear_value v3
  extract_lets +onlyGivenNames v4
  have h4 : P v4 := by
    unfold v4
    refine keeps_ite ?_ ?_
    · exact h2
    · refine State.put_keeps hP ?_
      refine State.lceSet_keeps hP ?_
      exact h2
  clear_value v4
  refine State.portCauseSet_keeps hP ?_
  exact h4

theorem State.preemptSync_keeps (hP : Closed P) {a0 a1} (h0' : P a0) : P (State.preemptSync a0 a1) := by
  unfold State.preemptSync
  extract_lets +onlyGivenNames v1
  clear_value v1
  extract_lets +onlyGivenNames v2
  clear_value v2
  refine State.put_keeps hP ?_
  refine State.lceSet_keeps hP ?_
  exact h0'

theorem State.setOper_keeps (hP : Closed P) {a0 a1 a2} (h0' : P a0) : P (State.setOper a0 a1 a2) := by
  unfold State.setOper
  extract_lets +onlyGivenNames v1
  clear_value v1
  extract_lets +onlyGivenNames v2
  have h2 : P v2 := by
    unfold v2
    refine State.lceSet_keeps hP ?_
    exact h0'
  clear_value v2
  extract_lets +onlyGivenNames v3
  have h3 : P v3 := by
    unfold v3
    refine State.put_keeps hP ?_
    exact h2
  clear_value v3
  extract_lets +onlyGivenNames v4
  have h4 : P v4 := by
    unfold v4
    refine State.put_keeps hP ?_
    exact h3
  clear_value v4
  extract_lets +onlyGivenNames v5
  have h5 : P v5 := by
    unfold v5
    refine State.put_keeps hP ?_
    exact h4
  clear_value v5
  extract_lets +onlyGivenNames v6
  have h6 : P v6 := by
    unfold v6
    refine State.put_keeps hP ?_
    exact h5
  clear_value v6
  extract_lets +onlyGivenNames v7
  have h7 : P v7 := by
    unfold v7
    refine State.put_keeps hP ?_
    exact h6
  clear_value v7
  extract_lets +onlyGivenNames v8
  have h8 : P v8 := by
    unfold v8
    refine State.put_keeps hP ?_
    exact h7
  clear_value v8
  extract_lets +onlyGivenNames v9
  have h9 : P v9 := by
    unfold v9
    refine State.put_keeps hP ?_
    exact h8
  clear_value v9
  extract_lets +onlyGivenNames v10
  have h10 : P v10 := by
    unfold v10
    refine State.put_keeps hP ?_
    exact h9
  clear_value v10
  refine State.preemptSync_keeps hP ?_
  exact h10

theorem State.awaitList_keeps (hP : Closed P) {a0 a1} (h0' : P a0) : P (State.awaitList a0 a1) := by
  unfold State.awaitList
  extract_lets +onlyGivenNames v1
  clear_value v1
  extract_lets +onlyGivenNames v2
  have h2 : P v2 := by
    unfold v2
    refine State.put_keeps hP ?_
    refine State.lceSet_keeps hP ?_
    exact h0'
  clear_value v2
  extract_lets +onlyGivenNames v3
  have h3 : P v3 := by
    unfold v3
    refine keeps_ite ?_ ?_
    · refine State.put_keeps hP ?_
      refine State.lceState_keeps hP ?_
      exact h2
    · refine State.lceState_keeps hP ?_
      exact h2
  clear_value v3
  refine State.cycleSchedules_keeps hP ?_
  exact h3

theorem State.gateCut_keeps (hP : Closed P) {a0 a1} (h0' : P a0) : P (State.gateCut a0 a1) := by
  unfold State.gateCut
  refine State.clrSet_keeps hP ?_
  exact h0'

theorem State.beginEntry_keeps (hP : Closed P) {a0 a1 a2} (h0' : P a0) : P (State.beginEntry a0 a1 a2) := by
  unfold State.beginEntry
  extract_lets +onlyGivenNames v1
  have h1 : P v1 := by
    unfold v1
    refine State.creditSync_keeps hP ?_
    exact h0'
  clear_value v1
  extract_lets +onlyGivenNames v2
  clear_value v2
  extract_lets +onlyGivenNames v3
  clear_value v3
  extract_lets +onlyGivenNames v4
  have h4 : P v4 := by
    unfold v4
    refine State.lceSet_keeps hP ?_
    exact h1
  clear_value v4
  extract_lets +onlyGivenNames v5
  have h5 : P v5 := by
    unfold v5
    refine State.put_keeps hP ?_
    exact h4
  clear_value v5
  refine State.gateCut_keeps hP ?_
  refine State.put_keeps hP ?_
  exact h5

theorem State.beginCycle_keeps (hP : Closed P) {a0 a1 a2} (h0' : P a0) : P (State.beginCycle a0 a1 a2) := by
  unfold State.beginCycle
  extract_lets +onlyGivenNames v1
  clear_value v1
  extract_lets +onlyGivenNames v2
  have h2 : P v2 := by
    unfold v2
    refine State.lceSet_keeps hP ?_
    exact h0'
  clear_value v2
  refine State.beginEntry_keeps hP ?_
  refine State.incWrap_keeps hP ?_
  exact h2

theorem State.laceStop_keeps (hP : Closed P) {a0 a1} (h0' : P a0) : P (State.laceStop a0 a1) := by
  unfold State.laceStop
  refine State.cycleSchedules_keeps hP ?_
  refine State.lceState_keeps hP ?_
  refine State.setOper_keeps hP ?_
  refine State.lceSet_keeps hP ?_
  exact h0'

theorem State.laceApply_keeps (hP : Closed P) {a0 a1} (h0' : P a0) : P (State.laceApply a0 a1) := by
  unfold State.laceApply
  extract_lets +onlyGivenNames v1
  clear_value v1
  extract_lets +onlyGivenNames v2
  clear_value v2
  extract_lets +onlyGivenNames v3
  have h3 : P v3 := by
    unfold v3
    refine State.lceSet_keeps hP ?_
    exact h0'
  clear_value v3
  refine keeps_ite ?_ ?_
  · refine State.awaitList_keeps hP ?_
    refine State.setOper_keeps hP ?_
    exact h3
  · extract_lets +onlyGivenNames v4
    have h4 : P v4 := by
      unfold v4
      refine State.raise_keeps hP ?_
      refine State.put_keeps hP ?_
      exact h3
    clear_value v4
    refine State.awaitList_keeps hP ?_
    refine State.setOper_keeps hP ?_
    exact h4

theorem State.laceFlip_keeps (hP : Closed P) {a0 a1} (h0' : P a0) : P (State.laceFlip a0 a1) := by
  unfold State.laceFlip
  extract_lets +onlyGivenNames v1
  clear_value v1
  extract_lets +onlyGivenNames v2
  clear_value v2
  refine keeps_ite ?_ ?_
  · extract_lets +onlyGivenNames v3
    have h3 : P v3 := by
      unfold v3
      refine State.raise_keeps hP ?_
      refine State.put_keeps hP ?_
      exact h0'
    clear_value v3
    refine State.put_keeps hP ?_
    refine State.lceSet_keeps hP ?_
    exact h3
  · refine keeps_ite ?_ ?_
    · refine State.raise_keeps hP ?_
      refine State.awaitList_keeps hP ?_
      refine State.setOper_keeps hP ?_
      exact h0'
    · extract_lets +onlyGivenNames v4
      clear_value v4
      extract_lets +onlyGivenNames v5
      clear_value v5
      extract_lets +onlyGivenNames v6
      have h6 : P v6 := by
        unfold v6
        refine State.lceSet_keeps hP ?_
        exact h0'
      clear_value v6
      extract_lets +onlyGivenNames v7
      have h7 : P v7 := by
        unfold v7
        refine State.put_keeps hP ?_
        exact h6
      clear_value v7
      extract_lets +onlyGivenNames v8
      have h8 : P v8 := by
        unfold v8
        refine State.put_keeps hP ?_
        exact h7
      clear_value v8
      extract_lets +onlyGivenNames v9
      have h9 : P v9 := by
        unfold v9
        refine State.put_keeps hP ?_
        exact h8
      clear_value v9
      refine State.put_keeps hP ?_
      exact h9

theorem State.laceLost_keeps (hP : Closed P) {a0 a1} (h0' : P a0) : P (State.laceLost a0 a1) := by
  unfold State.laceLost
  extract_lets +onlyGivenNames v1
  clear_value v1
  refine keeps_ite ?_ ?_
  · exact h0'
  · extract_lets +onlyGivenNames v2
    have h2 : P v2 := by
      unfold v2
      refine State.inc_keeps hP ?_
      exact h0'
    clear_value v2
    extract_lets +onlyGivenNames v3
    have h3 : P v3 := by
      unfold v3
      refine State.raise_keeps hP ?_
      exact h2
    clear_value v3
    extract_lets +onlyGivenNames v4
    clear_value v4
    extract_lets +onlyGivenNames v5
    have h5 : P v5 := by
      unfold v5
      refine State.lceSet_keeps hP ?_
      exact h3
    clear_value v5
    split
    · refine State.raise_keeps hP ?_
      refine State.awaitList_keeps hP ?_
      refine State.setOper_keeps hP ?_
      exact h5
    · refine State.awaitList_keeps hP ?_
      exact h5

theorem State.domainLost_keeps (hP : Closed P) {a0 a1} (h0' : P a0) : P (State.domainLost a0 a1) := by
  unfold State.domainLost
  refine keeps_foldl (fun u1 x1 h1 => ?_) ?_
  · refine keeps_ite ?_ ?_
    · refine State.laceLost_keeps hP ?_
      exact h1
    · exact h1
  · exact h0'

theorem laceStart_keeps (hP : Closed P) {a0 a1} (h1' : P a1) : P (laceStart a0 a1) := by
  unfold laceStart
  extract_lets +onlyGivenNames v1
  clear_value v1
  refine keeps_ite ?_ ?_
  · exact h1'
  · refine State.raise_keeps hP ?_
    refine State.beginCycle_keeps hP ?_
    refine State.lceState_keeps hP ?_
    exact h1'

theorem laceCycleBoundary_keeps (hP : Closed P) {a0 a1} (h1' : P a1) : P (laceCycleBoundary a0 a1) := by
  unfold laceCycleBoundary
  extract_lets +onlyGivenNames v1
  clear_value v1
  refine keeps_ite ?_ ?_
  · exact h1'
  · extract_lets +onlyGivenNames v2
    clear_value v2
    split
    · extract_lets +onlyGivenNames v3
      clear_value v3
      refine keeps_ite ?_ ?_
      · refine State.lceSet_keeps hP ?_
        exact h1'
      · refine State.beginCycle_keeps hP ?_
        exact h1'
    · refine State.beginCycle_keeps hP ?_
      exact h1'

theorem gateEntryEnd_keeps (hP : Closed P) {a0 a1} (h1' : P a1) : P (gateEntryEnd a0 a1) := by
  unfold gateEntryEnd
  extract_lets +onlyGivenNames v1
  clear_value v1
  refine keeps_ite ?_ ?_
  · exact h1'
  · refine State.beginEntry_keeps hP ?_
    exact h1'

theorem holdAdvRequest_keeps (hP : Closed P) {a0 a1 a2} (h2' : P a2) : P (holdAdvRequest a0 a1 a2) := by
  unfold holdAdvRequest
  extract_lets +onlyGivenNames v1
  clear_value v1
  refine keeps_ite ?_ ?_
  · exact h2'
  · split
    · refine State.gateCut_keeps hP ?_
      refine State.lceSet_keeps hP ?_
      exact h2'
    · refine State.lceSet_keeps hP ?_
      exact h2'
    · exact h2'

theorem laceSwap_keeps (hP : Closed P) {a0 a1} (h1' : P a1) : P (laceSwap a0 a1) := by
  unfold laceSwap
  extract_lets +onlyGivenNames v1
  clear_value v1
  split
  · exact h1'
  · extract_lets +onlyGivenNames v2
    have h2 : P v2 := by
      unfold v2
      refine State.raise_keeps hP ?_
      refine State.setOper_keeps hP ?_
      exact h1'
    clear_value v2
    refine keeps_ite ?_ ?_
    · refine State.beginCycle_keeps hP ?_
      refine State.lceState_keeps hP ?_
      exact h2
    · refine State.awaitList_keeps hP ?_
      exact h2

theorem preemptVerify_keeps (hP : Closed P) {a0 a1 a2} (h2' : P a2) : P (preemptVerify a0 a1 a2) := by
  unfold preemptVerify
  extract_lets +onlyGivenNames v1
  clear_value v1
  refine keeps_ite ?_ ?_
  · exact h2'
  · extract_lets +onlyGivenNames v2
    have h2 : P v2 := by
      unfold v2
      refine State.lceSet_keeps hP ?_
      exact h2'
    clear_value v2
    extract_lets +onlyGivenNames v3
    have h3 : P v3 := by
      unfold v3
      refine State.preemptSync_keeps hP ?_
      exact h2
    clear_value v3
    refine keeps_ite ?_ ?_
    · refine State.raise_keeps hP ?_
      exact h3
    · exact h3

theorem State.verifyAgain_keeps (hP : Closed P) {a0 a1} (h0' : P a0) : P (State.verifyAgain a0 a1) := by
  unfold State.verifyAgain
  refine State.preemptSync_keeps hP ?_
  refine State.lceSet_keeps hP ?_
  exact h0'

end Sys2Proof.Machine
end

