-- ==== Sys2Proof/Laws/KeepsC.lean ====
section
/-! SUPPORT. One lemma per function: it keeps a `Closed` predicate.  Functions of Machine: Arrive, TimeBase, Ethernet, Toecap, Fabric. -/
namespace Sys2Proof.Machine

set_option Elab.async false
variable {P : State → Prop}

theorem State.starve_keeps (hP : Closed P) {a0 a1} (h0' : P a0) : P (State.starve a0 a1) := by
  unfold State.starve
  split
  · exact h0'
  · refine keeps_foldl (fun u1 x1 h1 => ?_) ?_
    · refine State.poisonCopy_keeps hP ?_
      exact h1
    · exact h0'

theorem State.arrive_keeps (hP : Closed P) {a0 a1} (h0' : P a0) : P (State.arrive a0 a1) := by
  unfold State.arrive
  extract_lets +onlyGivenNames v1
  have h1 : P v1.2 := by
    unfold v1
    refine State.bytesIn_keeps hP ?_
    exact h0'
  clear_value v1
  refine keeps_ite ?_ ?_
  · assumption
  · extract_lets +onlyGivenNames v2
    have h2 : P v2.2 := by
      unfold v2
      refine State.bytesOn_keeps hP ?_
      assumption
    clear_value v2
    refine keeps_ite ?_ ?_
    · refine State.starve_keeps hP ?_
      refine State.fabNow_keeps hP ?_
      assumption
    · assumption

theorem State.arriveAll_keeps (hP : Closed P) {a0} (h0' : P a0) : P (State.arriveAll a0) := by
  unfold State.arriveAll
  refine keeps_foldl (fun u1 x1 h1 => ?_) ?_
  · refine State.arrive_keeps hP ?_
    exact h1
  · exact h0'

theorem State.timSet_keeps (hP : Closed P) {a0 a1} (h0' : P a0) : P (State.timSet a0 a1) := by
  unfold State.timSet
  refine keeps_mk hP ?_
  exact h0'

theorem State.clkSet_keeps (hP : Closed P) {a0 a1 a2} (h0' : P a0) : P (State.clkSet a0 a1 a2) := by
  unfold State.clkSet
  refine State.timSet_keeps hP ?_
  exact h0'

theorem timeBaseTick_keeps (hP : Closed P) {a0} (h0' : P a0) : P (timeBaseTick a0) := by
  unfold timeBaseTick
  extract_lets +onlyGivenNames v1
  clear_value v1
  extract_lets +onlyGivenNames v2
  have h2 : P v2 := by
    unfold v2
    refine State.timSet_keeps hP ?_
    exact h0'
  clear_value v2
  extract_lets +onlyGivenNames v3
  have h3 : P v3 := by
    unfold v3
    refine keeps_ite ?_ ?_
    · exact h2
    · refine keeps_foldl (fun u4 x4 h4 => ?_) ?_
      · refine keeps_ite ?_ ?_
        · refine State.clkSet_keeps hP ?_
          exact h4
        · exact h4
      · exact h2
  clear_value v3
  refine State.arriveAll_keeps hP ?_
  refine State.fabNow_keeps hP ?_
  exact h3

theorem State.domState_keeps (hP : Closed P) {a0 a1 a2} (h0' : P a0) : P (State.domState a0 a1 a2) := by
  unfold State.domState
  extract_lets +onlyGivenNames v1
  clear_value v1
  extract_lets +onlyGivenNames v2
  have h2 : P v2 := by
    unfold v2
    refine State.put_keeps hP ?_
    exact h0'
  clear_value v2
  extract_lets +onlyGivenNames v3
  have h3 : P v3 := by
    unfold v3
    refine keeps_ite ?_ ?_
    · exact h2
    · refine State.raise_keeps hP ?_
      exact h2
  clear_value v3
  extract_lets +onlyGivenNames v4
  have h4 : P v4 := by
    unfold v4
    refine keeps_ite ?_ ?_
    · refine State.domainLost_keeps hP ?_
      exact h3
    · exact h3
  clear_value v4
  refine keeps_ite ?_ ?_
  · refine State.timSet_keeps hP ?_
    exact h4
  · exact h4

theorem State.clocksApply_keeps (hP : Closed P) {a0} (h0' : P a0) : P (State.clocksApply a0) := by
  unfold State.clocksApply
  refine keeps_foldl (fun u1 x1 h1 => ?_) ?_
  · refine keeps_ite ?_ ?_
    · exact h1
    · extract_lets +onlyGivenNames v2
      have h2 : P v2 := by
        unfold v2
        refine State.timSet_keeps hP ?_
        exact h1
      clear_value v2
      refine State.put_keeps hP ?_
      refine State.domState_keeps hP ?_
      exact h2
  · exact h0'

theorem State.goodSet_keeps (hP : Closed P) {a0 a1 a2} (h0' : P a0) : P (State.goodSet a0 a1 a2) := by
  unfold State.goodSet
  refine State.timSet_keeps hP ?_
  exact h0'

theorem domainStep_keeps (hP : Closed P) {a0 a1 a2} (h2' : P a2) : P (domainStep a0 a1 a2) := by
  unfold domainStep
  refine keeps_ite ?_ ?_
  · exact h2'
  · extract_lets +onlyGivenNames v1
    have h1 : P v1 := by
      unfold v1
      refine State.clkSet_keeps hP ?_
      exact h2'
    clear_value v1
    extract_lets +onlyGivenNames v2
    have h2 : P v2 := by
      unfold v2
      refine State.goodSet_keeps hP ?_
      exact h1
    clear_value v2
    extract_lets +onlyGivenNames v3
    have h3 : P v3 := by
      unfold v3
      refine State.put_keeps hP ?_
      exact h2
    clear_value v3
    extract_lets +onlyGivenNames v4
    have h4 : P v4 := by
      unfold v4
      refine State.domState_keeps hP ?_
      exact h3
    clear_value v4
    extract_lets +onlyGivenNames v5
    have h5 : P v5 := by
      unfold v5
      refine State.raise_keeps hP ?_
      exact h4
    clear_value v5
    refine keeps_ite ?_ ?_
    · refine State.domState_keeps hP ?_
      exact h5
    · exact h5

theorem rateAdjust_keeps (hP : Closed P) {a0 a1 a2} (h2' : P a2) : P (rateAdjust a0 a1 a2) := by
  unfold rateAdjust
  refine keeps_ite ?_ ?_
  · exact h2'
  · refine State.put_keeps hP ?_
    exact h2'

theorem syncRx_keeps (hP : Closed P) {a0 a1 a2} (h2' : P a2) : P (syncRx a0 a1 a2) := by
  unfold syncRx
  refine keeps_ite ?_ ?_
  · exact h2'
  · extract_lets +onlyGivenNames v1
    have h1 : P v1 := by
      unfold v1
      refine State.put_keeps hP ?_
      exact h2'
    clear_value v1
    extract_lets +onlyGivenNames v2
    clear_value v2
    extract_lets +onlyGivenNames v3
    clear_value v3
    extract_lets +onlyGivenNames v4
    have h4 : P v4 := by
      unfold v4
      refine State.goodSet_keeps hP ?_
      exact h1
    clear_value v4
    split
    · refine State.domState_keeps hP ?_
      exact h4
    · refine keeps_ite ?_ ?_
      · refine State.domState_keeps hP ?_
        exact h4
      · exact h4
    · refine State.domState_keeps hP ?_
      exact h4
    · exact h4

theorem syncReceiptTimeout_keeps (hP : Closed P) {a0 a1} (h1' : P a1) : P (syncReceiptTimeout a0 a1) := by
  unfold syncReceiptTimeout
  refine keeps_ite ?_ ?_
  · refine State.domState_keeps hP ?_
    refine State.goodSet_keeps hP ?_
    exact h1'
  · exact h1'

theorem holdoverExpiry_keeps (hP : Closed P) {a0 a1} (h1' : P a1) : P (holdoverExpiry a0 a1) := by
  unfold holdoverExpiry
  refine keeps_ite ?_ ?_
  · refine State.domState_keeps hP ?_
    refine State.goodSet_keeps hP ?_
    exact h1'
  · exact h1'

theorem grandmasterChange_keeps (hP : Closed P) {a0 a1 a2 a3} (h3' : P a3) : P (grandmasterChange a0 a1 a2 a3) := by
  unfold grandmasterChange
  refine keeps_ite ?_ ?_
  · exact h3'
  · extract_lets +onlyGivenNames v1
    clear_value v1
    extract_lets +onlyGivenNames v2
    have h2 : P v2 := by
      unfold v2
      refine State.put_keeps hP ?_
      exact h3'
    clear_value v2
    refine keeps_ite ?_ ?_
    · refine State.domState_keeps hP ?_
      exact h2
    · refine keeps_ite ?_ ?_
      · refine State.domState_keeps hP ?_
        refine State.goodSet_keeps hP ?_
        exact h2
      · exact h2

theorem State.timeSnap_keeps (hP : Closed P) {a0 a1} (h0' : P a0) : P (State.timeSnap a0 a1) := by
  unfold State.timeSnap
  refine keeps_foldl (fun u1 x1 h1 => ?_) ?_
  · extract_lets +onlyGivenNames v2
    clear_value v2
    extract_lets +onlyGivenNames v3
    have h3 : P v3 := by
      unfold v3
      refine State.put_keeps hP ?_
      exact h1
    clear_value v3
    extract_lets +onlyGivenNames v4
    have h4 : P v4 := by
      unfold v4
      refine State.put_keeps hP ?_
      exact h3
    clear_value v4
    refine State.put_keeps hP ?_
    exact h4
  · exact h0'

theorem timeSnapshot_keeps (hP : Closed P) {a0 a1} (h1' : P a1) : P (timeSnapshot a0 a1) := by
  unfold timeSnapshot
  refine State.directFree_keeps hP ?_ ?_
  · exact h1'
  · intro u1_0 u1_1
    refine State.timeSnap_keeps hP ?_
    exact u1_1

theorem State.syncSetO_keeps (hP : Closed P) {a0 a1} (h0' : P a0) : P (State.syncSetO a0 a1) := by
  unfold State.syncSetO
  refine State.put_keeps hP ?_
  refine State.timSet_keeps hP ?_
  exact h0'

theorem State.syncLoses_keeps (hP : Closed P) {a0} (h0' : P a0) : P (State.syncLoses a0) := by
  unfold State.syncLoses
  refine State.raise_keeps hP ?_
  refine State.put_keeps hP ?_
  refine State.timSet_keeps hP ?_
  exact h0'

theorem State.syncTakeCfg_keeps (hP : Closed P) {a0} (h0' : P a0) : P (State.syncTakeCfg a0) := by
  unfold State.syncTakeCfg
  extract_lets +onlyGivenNames v1
  clear_value v1
  extract_lets +onlyGivenNames v2
  clear_value v2
  refine State.timSet_keeps hP ?_
  exact h0'

theorem State.syncTakePeriod_keeps (hP : Closed P) {a0} (h0' : P a0) : P (State.syncTakePeriod a0) := by
  unfold State.syncTakePeriod
  extract_lets +onlyGivenNames v1
  clear_value v1
  refine State.timSet_keeps hP ?_
  exact h0'

theorem State.syncEn_keeps (hP : Closed P) {a0 a1} (h0' : P a0) : P (State.syncEn a0 a1) := by
  unfold State.syncEn
  extract_lets +onlyGivenNames v1
  clear_value v1
  extract_lets +onlyGivenNames v2
  have h2 : P v2 := by
    unfold v2
    refine State.put_keeps hP ?_
    exact h0'
  clear_value v2
  refine keeps_ite ?_ ?_
  · refine State.put_keeps hP ?_
    refine State.timSet_keeps hP ?_
    refine State.syncTakePeriod_keeps hP ?_
    refine State.syncTakeCfg_keeps hP ?_
    exact h2
  · refine keeps_ite ?_ ?_
    · extract_lets +onlyGivenNames v3
      have h3 : P v3 := by
        unfold v3
        refine State.timSet_keeps hP ?_
        exact h2
      clear_value v3
      refine State.put_keeps hP ?_
      exact h3
    · exact h2

theorem syncEnable_keeps (hP : Closed P) {a0 a1 a2} (h2' : P a2) : P (syncEnable a0 a1 a2) := by
  unfold syncEnable
  refine State.direct_keeps hP ?_ ?_
  · exact h2'
  · intro u1_0 u1_1
    refine State.syncEn_keeps hP ?_
    exact u1_1

theorem syncInEdge_keeps (hP : Closed P) {a0 a1} (h1' : P a1) : P (syncInEdge a0 a1) := by
  unfold syncInEdge
  refine keeps_ite ?_ ?_
  · exact h1'
  · extract_lets +onlyGivenNames v1
    clear_value v1
    extract_lets +onlyGivenNames v2
    clear_value v2
    extract_lets +onlyGivenNames v3
    clear_value v3
    extract_lets +onlyGivenNames v4
    have h4 : P v4 := by
      unfold v4
      refine State.inc_keeps hP ?_
      exact h1'
    clear_value v4
    refine keeps_ite ?_ ?_
    · exact h4
    · extract_lets +onlyGivenNames v5
      clear_value v5
      refine keeps_ite ?_ ?_
      · refine State.syncLoses_keeps hP ?_
        exact h1'
      · refine State.timSet_keeps hP ?_
        exact h1'

theorem syncPeriodBoundary_keeps (hP : Closed P) {a0} (h0' : P a0) : P (syncPeriodBoundary a0) := by
  unfold syncPeriodBoundary
  refine keeps_ite ?_ ?_
  · exact h0'
  · extract_lets +onlyGivenNames v1
    clear_value v1
    refine keeps_ite ?_ ?_
    · extract_lets +onlyGivenNames v2
      clear_value v2
      extract_lets +onlyGivenNames v3
      clear_value v3
      extract_lets +onlyGivenNames v4
      clear_value v4
      extract_lets +onlyGivenNames v5
      have h5 : P v5 := by
        unfold v5
        refine State.timSet_keeps hP ?_
        refine State.syncSetO_keeps hP ?_
        exact h0'
      clear_value v5
      refine keeps_ite ?_ ?_
      · refine State.timSet_keeps hP ?_
        exact h5
      · extract_lets +onlyGivenNames v6
        clear_value v6
        refine keeps_ite ?_ ?_
        · refine State.syncLoses_keeps hP ?_
          exact h5
        · refine State.timSet_keeps hP ?_
          exact h5
    · refine keeps_ite ?_ ?_
      · extract_lets +onlyGivenNames v7
        clear_value v7
        extract_lets +onlyGivenNames v8
        have h8 : P v8 := by
          unfold v8
          refine State.syncSetO_keeps hP ?_
          exact h0'
        clear_value v8
        refine keeps_ite ?_ ?_
        · refine State.put_keeps hP ?_
          exact h8
        · exact h8
      · exact h0'

theorem ppsPulse_keeps (hP : Closed P) {a0} (h0' : P a0) : P (ppsPulse a0) := by
  unfold ppsPulse
  refine keeps_ite ?_ ?_
  · extract_lets +onlyGivenNames v1
    clear_value v1
    refine State.timSet_keeps hP ?_
    exact h0'
  · exact h0'

theorem State.ppsWrite_keeps (hP : Closed P) {a0 a1 a2 a3} (h0' : P a0) : P (State.ppsWrite a0 a1 a2 a3) := by
  unfold State.ppsWrite
  extract_lets +onlyGivenNames v1
  clear_value v1
  extract_lets +onlyGivenNames v2
  have h2 : P v2 := by
    unfold v2
    refine State.put_keeps hP ?_
    refine State.put_keeps hP ?_
    refine State.put_keeps hP ?_
    exact h0'
  clear_value v2
  refine keeps_ite ?_ ?_
  · exact h2
  · refine State.timSet_keeps hP ?_
    exact h2

theorem evtInEdge_keeps (hP : Closed P) {a0 a1 a2 a3} (h3' : P a3) : P (evtInEdge a0 a1 a2 a3) := by
  unfold evtInEdge
  extract_lets +onlyGivenNames v1
  clear_value v1
  extract_lets +onlyGivenNames v2
  clear_value v2
  refine keeps_ite ?_ ?_
  · exact h3'
  · refine keeps_ite ?_ ?_
    · refine State.raise_keeps hP ?_
      refine State.inc_keeps hP ?_
      exact h3'
    · extract_lets +onlyGivenNames v3
      clear_value v3
      refine State.raise_keeps hP ?_
      refine State.timSet_keeps hP ?_
      exact h3'

theorem State.evtPop_keeps (hP : Closed P) {a0 a1} (h0' : P a0) : P (State.evtPop a0 a1) := by
  unfold State.evtPop
  split
  · extract_lets +onlyGivenNames v1
    have h1 : P v1 := by
      unfold v1
      refine State.timSet_keeps hP ?_
      exact h0'
    clear_value v1
    extract_lets +onlyGivenNames v2
    have h2 : P v2 := by
      unfold v2
      refine State.put_keeps hP ?_
      exact h1
    clear_value v2
    refine State.put_keeps hP ?_
    exact h2
  · exact h0'

theorem State.trgEn_keeps (hP : Closed P) {a0 a1 a2} (h0' : P a0) : P (State.trgEn a0 a1 a2) := by
  unfold State.trgEn
  extract_lets +onlyGivenNames v1
  clear_value v1
  extract_lets +onlyGivenNames v2
  have h2 : P v2 := by
    unfold v2
    refine State.put_keeps hP ?_
    exact h0'
  clear_value v2
  refine keeps_ite ?_ ?_
  · refine State.timSet_keeps hP ?_
    exact h2
  · refine keeps_ite ?_ ?_
    · exact h2
    · extract_lets +onlyGivenNames v3
      clear_value v3
      extract_lets +onlyGivenNames v4
      clear_value v4
      extract_lets +onlyGivenNames v5
      clear_value v5
      extract_lets +onlyGivenNames v6
      clear_value v6
      extract_lets +onlyGivenNames v7
      clear_value v7
      extract_lets +onlyGivenNames v8
      clear_value v8
      extract_lets +onlyGivenNames v9
      clear_value v9
      extract_lets +onlyGivenNames v10
      clear_value v10
      extract_lets +onlyGivenNames v11
      clear_value v11
      extract_lets +onlyGivenNames v12
      have h12 : P v12 := by
        unfold v12
        refine State.timSet_keeps hP ?_
        exact h2
      clear_value v12
      extract_lets +onlyGivenNames v13
      have h13 : P v13 := by
        unfold v13
        refine State.put_keeps hP ?_
        exact h12
      clear_value v13
      refine keeps_ite ?_ ?_
      · refine State.raise_keeps hP ?_
        exact h13
      · exact h13

theorem trgArm_keeps (hP : Closed P) {a0 a1 a2 a3} (h3' : P a3) : P (trgArm a0 a1 a2 a3) := by
  unfold trgArm
  refine State.direct_keeps hP ?_ ?_
  · exact h3'
  · intro u1_0 u1_1
    refine State.trgEn_keeps hP ?_
    exact u1_1

theorem trgEdge_keeps (hP : Closed P) {a0 a1} (h1' : P a1) : P (trgEdge a0 a1) := by
  unfold trgEdge
  refine keeps_ite ?_ ?_
  · exact h1'
  · split
    · exact h1'
    · split
      · exact h1'
      · extract_lets +onlyGivenNames v1
        clear_value v1
        extract_lets +onlyGivenNames v2
        clear_value v2
        extract_lets +onlyGivenNames v3
        have h3 : P v3 := by
          unfold v3
          refine State.timSet_keeps hP ?_
          exact h1'
        clear_value v3
        refine keeps_ite ?_ ?_
        · refine State.raise_keeps hP ?_
          exact h3
        · exact h3

theorem State.linkGained_keeps (hP : Closed P) {a0 a1 a2} (h0' : P a0) : P (State.linkGained a0 a1 a2) := by
  unfold State.linkGained
  extract_lets +onlyGivenNames v1
  clear_value v1
  refine keeps_ite ?_ ?_
  · exact h0'
  · refine keeps_ite ?_ ?_
    · refine State.raise_keeps hP ?_
      refine State.put_keeps hP ?_
      exact h0'
    · extract_lets +onlyGivenNames v2
      clear_value v2
      extract_lets +onlyGivenNames v3
      clear_value v3
      extract_lets +onlyGivenNames v4
      clear_value v4
      extract_lets +onlyGivenNames v5
      have h5 : P v5 := by
        unfold v5
        refine State.macSet_keeps hP ?_
        exact h0'
      clear_value v5
      extract_lets +onlyGivenNames v6
      have h6 : P v6 := by
        unfold v6
        refine State.put_keeps hP ?_
        exact h5
      clear_value v6
      extract_lets +onlyGivenNames v7
      have h7 : P v7 := by
        unfold v7
        refine State.put_keeps hP ?_
        exact h6
      clear_value v7
      extract_lets +onlyGivenNames v8
      have h8 : P v8 := by
        unfold v8
        refine State.put_keeps hP ?_
        exact h7
      clear_value v8
      extract_lets +onlyGivenNames v9
      have h9 : P v9 := by
        unfold v9
        refine State.put_keeps hP ?_
        exact h8
      clear_value v9
      extract_lets +onlyGivenNames v10
      have h10 : P v10 := by
        unfold v10
        refine State.put_keeps hP ?_
        exact h9
      clear_value v10
      extract_lets +onlyGivenNames v11
      have h11 : P v11 := by
        unfold v11
        refine State.put_keeps hP ?_
        exact h10
      clear_value v11
      extract_lets +onlyGivenNames v12
      have h12 : P v12 := by
        unfold v12
        refine State.put_keeps hP ?_
        refine State.put_keeps hP ?_
        exact h11
      clear_value v12
      extract_lets +onlyGivenNames v13
      have h13 : P v13 := by
        unfold v13
        refine State.put_keeps hP ?_
        exact h12
      clear_value v13
      extract_lets +onlyGivenNames v14
      have h14 : P v14 := by
        unfold v14
        refine State.put_keeps hP ?_
        exact h13
      clear_value v14
      extract_lets +onlyGivenNames v15
      have h15 : P v15 := by
        unfold v15
        refine State.put_keeps hP ?_
        exact h14
      clear_value v15
      extract_lets +onlyGivenNames v16
      have h16 : P v16 := by
        unfold v16
        refine keeps_ite ?_ ?_
        · refine State.put_keeps hP ?_
          refine State.put_keeps hP ?_
          exact h15
        · exact h12
      clear_value v16
      extract_lets +onlyGivenNames v17
      have h17 : P v17 := by
        unfold v17
        refine State.verifyAgain_keeps hP ?_
        refine State.raise_keeps hP ?_
        exact h16
      clear_value v17
      refine State.portSync_keeps hP ?_
      exact h17

theorem linkUp_keeps (hP : Closed P) {a0 a1 a2} (h2' : P a2) : P (linkUp a0 a1 a2) := by
  unfold linkUp
  refine State.linkGained_keeps hP ?_
  exact h2'

theorem State.linkWhy_keeps (hP : Closed P) {a0 a1 a2} (h0' : P a0) : P (State.linkWhy a0 a1 a2) := by
  unfold State.linkWhy
  split
  · exact h0'
  · refine State.put_keeps hP ?_
    exact h0'
  · refine State.put_keeps hP ?_
    exact h0'
  · refine State.put_keeps hP ?_
    exact h0'
  · refine keeps_ite ?_ ?_
    · refine State.raise_keeps hP ?_
      refine State.put_keeps hP ?_
      refine State.put_keeps hP ?_
      exact h0'
    · exact h0'
  · refine keeps_ite ?_ ?_
    · refine State.raise_keeps hP ?_
      refine State.put_keeps hP ?_
      exact h0'
    · exact h0'
  · exact h0'

theorem linkDown_keeps (hP : Closed P) {a0 a1 a2} (h2' : P a2) : P (linkDown a0 a1 a2) := by
  unfold linkDown
  refine keeps_ite ?_ ?_
  · refine State.linkLost_keeps hP ?_
    refine State.linkWhy_keeps hP ?_
    exact h2'
  · exact h2'

theorem inbandRateChange_keeps (hP : Closed P) {a0 a1 a2} (h2' : P a2) : P (inbandRateChange a0 a1 a2) := by
  unfold inbandRateChange
  extract_lets +onlyGivenNames v1
  clear_value v1
  refine keeps_ite ?_ ?_
  · refine State.linkGained_keeps hP ?_
    refine State.linkLost_keeps hP ?_
    exact h2'
  · exact h2'

theorem pllLost_keeps (hP : Closed P) {a0 a1} (h1' : P a1) : P (pllLost a0 a1) := by
  unfold pllLost
  refine keeps_ite ?_ ?_
  · exact h1'
  · extract_lets +onlyGivenNames v1
    have h1 : P v1 := by
      unfold v1
      refine State.raise_keeps hP ?_
      refine State.put_keeps hP ?_
      exact h1'
    clear_value v1
    refine State.fault_keeps hP ?_
    refine State.linkLost_keeps hP ?_
    exact h1

theorem flushComplete_keeps (hP : Closed P) {a0 a1} (h1' : P a1) : P (flushComplete a0 a1) := by
  unfold flushComplete
  refine keeps_ite ?_ ?_
  · exact h1'
  · refine keeps_ite ?_ ?_
    · refine State.raise_keeps hP ?_
      refine State.put_keeps hP ?_
      exact h1'
    · refine keeps_ite ?_ ?_
      · extract_lets +onlyGivenNames v1
        have h1 : P v1 := by
          unfold v1
          refine State.raise_keeps hP ?_
          refine State.put_keeps hP ?_
          exact h1'
        clear_value v1
        extract_lets +onlyGivenNames v2
        have h2 : P v2 := by
          unfold v2
          refine keeps_ite ?_ ?_
          · refine State.portCauseSet_keeps hP ?_
            exact h1
          · exact h1
        clear_value v2
        refine State.budget_keeps hP ?_
        exact h2
      · exact h1'

theorem portReturnEnd_keeps (hP : Closed P) {a0 a1} (h1' : P a1) : P (portReturnEnd a0 a1) := by
  unfold portReturnEnd
  refine keeps_ite ?_ ?_
  · extract_lets +onlyGivenNames v1
    have h1 : P v1 := by
      unfold v1
      refine State.put_keeps hP ?_
      exact h1'
    clear_value v1
    refine keeps_ite ?_ ?_
    · refine State.portCauseSet_keeps hP ?_
      exact h1
    · exact h1
  · exact h1'

theorem cautiousConditionEnd_keeps (hP : Closed P) {a0 a1} (h1' : P a1) : P (cautiousConditionEnd a0 a1) := by
  unfold cautiousConditionEnd
  split
  · refine keeps_ite ?_ ?_
    · exact h1'
    · refine State.devCause_keeps hP ?_
      exact h1'
  · refine keeps_ite ?_ ?_
    · refine State.devCause_keeps hP ?_
      exact h1'
    · exact h1'
  · refine State.devCause_keeps hP ?_
    exact h1'
  · refine keeps_ite ?_ ?_
    · refine State.portCauseSet_keeps hP ?_
      exact h1'
    · exact h1'

theorem State.honour_keeps (hP : Closed P) {a0 a1 a2 a3} (h0' : P a0) : P (State.honour a0 a1 a2 a3) := by
  unfold State.honour
  extract_lets +onlyGivenNames v1
  clear_value v1
  extract_lets +onlyGivenNames v2
  clear_value v2
  extract_lets +onlyGivenNames v3
  clear_value v3
  extract_lets +onlyGivenNames v4
  have h4 : P v4 := by
    unfold v4
    refine keeps_ite ?_ ?_
    · refine State.put_keeps hP ?_
      exact h0'
    · refine State.put_keeps hP ?_
      exact h0'
  clear_value v4
  refine State.pauseTrack_keeps hP ?_
  exact h4

theorem pauseFrameRx_keeps (hP : Closed P) {a0 a1 a2 a3} (h3' : P a3) : P (pauseFrameRx a0 a1 a2 a3) := by
  unfold pauseFrameRx
  extract_lets +onlyGivenNames v1
  clear_value v1
  refine keeps_ite ?_ ?_
  · exact h3'
  · extract_lets +onlyGivenNames v2
    have h2 : P v2 := by
      unfold v2
      refine keeps_ite ?_ ?_
      · refine State.macCnt_keeps hP ?_
        exact h3'
      · exact h3'
    clear_value v2
    extract_lets +onlyGivenNames v3
    clear_value v3
    refine keeps_ite ?_ ?_
    · refine State.macCnt_keeps hP ?_
      exact h2
    · refine keeps_ite ?_ ?_
      · refine State.macCnt_keeps hP ?_
        exact h2
      · refine keeps_ite ?_ ?_
        · refine State.macCnt_keeps hP ?_
          exact h2
        · refine keeps_ite ?_ ?_
          · refine State.macCnt_keeps hP ?_
            exact h2
          · extract_lets +onlyGivenNames v4
            clear_value v4
            refine keeps_ite ?_ ?_
            · refine State.macCnt_keeps hP ?_
              exact h2
            · extract_lets +onlyGivenNames v5
              have h5 : P v5 := by
                unfold v5
                refine State.macCnt_keeps hP ?_
                exact h2
              clear_value v5
              refine keeps_ite ?_ ?_
              · refine State.macCnt_keeps hP ?_
                exact h5
              · refine keeps_ite ?_ ?_
                · refine State.honour_keeps hP ?_
                  exact h5
                · exact h5

theorem pauseExpiry_keeps (hP : Closed P) {a0 a1 a2} (h2' : P a2) : P (pauseExpiry a0 a1 a2) := by
  unfold pauseExpiry
  extract_lets +onlyGivenNames v1
  have h1 : P v1 := by
    unfold v1
    split
    · refine State.put_keeps hP ?_
      exact h2'
    · refine State.put_keeps hP ?_
      exact h2'
  clear_value v1
  refine State.pauseTrack_keeps hP ?_
  exact h1

theorem State.sendPause_keeps (hP : Closed P) {a0 a1 a2} (h0' : P a0) : P (State.sendPause a0 a1 a2) := by
  unfold State.sendPause
  refine State.macCnt_keeps hP ?_
  refine State.macSet_keeps hP ?_
  exact h0'

theorem txPauseSend_keeps (hP : Closed P) {a0 a1} (h1' : P a1) : P (txPauseSend a0 a1) := by
  unfold txPauseSend
  extract_lets +onlyGivenNames v1
  clear_value v1
  refine keeps_ite ?_ ?_
  · exact h1'
  · refine keeps_ite ?_ ?_
    · refine State.sendPause_keeps hP ?_
      exact h1'
    · refine keeps_ite ?_ ?_
      · refine State.sendPause_keeps hP ?_
        exact h1'
      · exact h1'

theorem txPauseRepeat_keeps (hP : Closed P) {a0 a1} (h1' : P a1) : P (txPauseRepeat a0 a1) := by
  unfold txPauseRepeat
  refine keeps_ite ?_ ?_
  · refine State.sendPause_keeps hP ?_
    exact h1'
  · exact h1'

theorem pauseWatchdogExpiry_keeps (hP : Closed P) {a0 a1} (h1' : P a1) : P (pauseWatchdogExpiry a0 a1) := by
  unfold pauseWatchdogExpiry
  refine keeps_ite ?_ ?_
  · exact h1'
  · extract_lets +onlyGivenNames v1
    have h1 : P v1 := by
      unfold v1
      refine State.put_keeps hP ?_
      refine State.pauseEnd_keeps hP ?_
      exact h1'
    clear_value v1
    refine State.fault_keeps hP ?_
    refine State.raise_keeps hP ?_
    refine State.macCnt_keeps hP ?_
    exact h1

theorem pauseIgnoreEnd_keeps (hP : Closed P) {a0 a1} (h1' : P a1) : P (pauseIgnoreEnd a0 a1) := by
  unfold pauseIgnoreEnd
  refine State.put_keeps hP ?_
  exact h1'

theorem State.testSync_keeps (hP : Closed P) {a0 a1} (h0' : P a0) : P (State.testSync a0 a1) := by
  unfold State.testSync
  refine State.portSync_keeps hP ?_
  refine State.portCauseSet_keeps hP ?_
  exact h0'

theorem testModeSet_keeps (hP : Closed P) {a0 a1 a2 a3} (h3' : P a3) : P (testModeSet a0 a1 a2 a3) := by
  unfold testModeSet
  split
  · refine State.direct_keeps hP ?_ ?_
    · exact h3'
    · intro u1_0 u1_1
      refine State.testSync_keeps hP ?_
      refine State.put_keeps hP ?_
      exact u1_1
  · refine keeps_ite ?_ ?_
    · exact h3'
    · refine State.direct_keeps hP ?_ ?_
      · exact h3'
      · intro u2_0 u2_1
        refine State.testSync_keeps hP ?_
        refine State.put_keeps hP ?_
        refine State.put_keeps hP ?_
        refine State.put_keeps hP ?_
        exact u2_1

theorem prbsError_keeps (hP : Closed P) {a0 a1} (h1' : P a1) : P (prbsError a0 a1) := by
  unfold prbsError
  extract_lets +onlyGivenNames v1
  clear_value v1
  refine keeps_ite ?_ ?_
  · refine State.raise_keeps hP ?_
    refine State.inc_keeps hP ?_
    exact h1'
  · exact h1'

theorem rxFifoMemoryError_keeps (hP : Closed P) {a0 a1 a2} (h2' : P a2) : P (rxFifoMemoryError a0 a1 a2) := by
  unfold rxFifoMemoryError
  extract_lets +onlyGivenNames v1
  have h1 : P v1 := by
    unfold v1
    split
    · refine State.macError_keeps hP ?_
      exact h2'
    · refine State.macCnt_keeps hP ?_
      exact h2'
  clear_value v1
  refine State.fault_keeps hP ?_
  exact h1

theorem State.t1sEnter_keeps (hP : Closed P) {a0 a1 a2 a3} (h0' : P a0) : P (State.t1sEnter a0 a1 a2 a3) := by
  unfold State.t1sEnter
  extract_lets +onlyGivenNames v1
  clear_value v1
  extract_lets +onlyGivenNames v2
  clear_value v2
  extract_lets +onlyGivenNames v3
  clear_value v3
  extract_lets +onlyGivenNames v4
  clear_value v4
  extract_lets +onlyGivenNames v5
  have h5 : P v5 := by
    unfold v5
    refine State.put_keeps hP ?_
    exact h0'
  clear_value v5
  extract_lets +onlyGivenNames v6
  have h6 : P v6 := by
    unfold v6
    refine State.put_keeps hP ?_
    exact h5
  clear_value v6
  extract_lets +onlyGivenNames v7
  have h7 : P v7 := by
    unfold v7
    refine State.put_keeps hP ?_
    exact h6
  clear_value v7
  extract_lets +onlyGivenNames v8
  have h8 : P v8 := by
    unfold v8
    refine State.put_keeps hP ?_
    exact h7
  clear_value v8
  extract_lets +onlyGivenNames v9
  have h9 : P v9 := by
    unfold v9
    refine keeps_ite ?_ ?_
    · exact h8
    · refine State.raise_keeps hP ?_
      exact h8
  clear_value v9
  refine keeps_ite ?_ ?_
  · refine State.linkLost_keeps hP ?_
    exact h9
  · refine State.linkGained_keeps hP ?_
    exact h9

theorem t1sStateRequest_keeps (hP : Closed P) {a0 a1 a2 a3} (h3' : P a3) : P (t1sStateRequest a0 a1 a2 a3) := by
  unfold t1sStateRequest
  refine State.direct_keeps hP ?_ ?_
  · exact h3'
  · intro u1_0 u1_1
    refine State.t1sRequest_keeps hP ?_
    exact u1_1

theorem t1sStateReached_keeps (hP : Closed P) {a0 a1} (h1' : P a1) : P (t1sStateReached a0 a1) := by
  unfold t1sStateReached
  refine keeps_ite ?_ ?_
  · refine State.t1sEnter_keeps hP ?_
    exact h1'
  · exact h1'

theorem phyInternalFault_keeps (hP : Closed P) {a0 a1} (h1' : P a1) : P (phyInternalFault a0 a1) := by
  unfold phyInternalFault
  refine keeps_ite ?_ ?_
  · refine State.fault_keeps hP ?_
    refine State.t1sEnter_keeps hP ?_
    exact h1'
  · exact h1'

theorem plcaBeaconTimeout_keeps (hP : Closed P) {a0 a1} (h1' : P a1) : P (plcaBeaconTimeout a0 a1) := by
  unfold plcaBeaconTimeout
  refine keeps_ite ?_ ?_
  · refine State.raise_keeps hP ?_
    refine State.put_keeps hP ?_
    exact h1'
  · exact h1'

theorem plcaBeaconRx_keeps (hP : Closed P) {a0 a1} (h1' : P a1) : P (plcaBeaconRx a0 a1) := by
  unfold plcaBeaconRx
  refine keeps_ite ?_ ?_
  · exact h1'
  · extract_lets +onlyGivenNames v1
    have h1 : P v1 := by
      unfold v1
      refine State.inc_keeps hP ?_
      exact h1'
    clear_value v1
    refine keeps_ite ?_ ?_
    · refine State.raise_keeps hP ?_
      refine State.put_keeps hP ?_
      exact h1
    · exact h1

theorem t1sCollision_keeps (hP : Closed P) {a0 a1} (h1' : P a1) : P (t1sCollision a0 a1) := by
  unfold t1sCollision
  refine keeps_ite ?_ ?_
  · exact h1'
  · split
    · exact h1'
    · extract_lets +onlyGivenNames v1
      have h1 : P v1 := by
        unfold v1
        refine State.inc_keeps hP ?_
        exact h1'
      clear_value v1
      extract_lets +onlyGivenNames v2
      clear_value v2
      refine keeps_ite ?_ ?_
      · refine State.macSet_keeps hP ?_
        exact h1
      · extract_lets +onlyGivenNames v3
        clear_value v3
        extract_lets +onlyGivenNames v4
        have h4 : P v4 := by
          unfold v4
          refine State.macSet_keeps hP ?_
          exact h1
        clear_value v4
        extract_lets +onlyGivenNames v5
        have h5 : P v5 := by
          unfold v5
          refine State.raise_keeps hP ?_
          refine State.inc_keeps hP ?_
          exact h4
        clear_value v5
        refine State.reap_keeps hP ?_
        refine State.rmCopy_keeps hP ?_
        refine State.creditSync_keeps hP ?_
        exact h5

theorem State.cableStart_keeps (hP : Closed P) {a0 a1 a2} (h0' : P a0) : P (State.cableStart a0 a1 a2) := by
  unfold State.cableStart
  refine keeps_ite ?_ ?_
  · refine State.put_keeps hP ?_
    exact h0'
  · refine State.err_keeps hP ?_
    exact h0'

theorem cableGo_keeps (hP : Closed P) {a0 a1 a2} (h2' : P a2) : P (cableGo a0 a1 a2) := by
  unfold cableGo
  refine State.direct_keeps hP ?_ ?_
  · exact h2'
  · intro u1_0 u1_1
    refine State.cableStart_keeps hP ?_
    exact u1_1

theorem cableCheckDone_keeps (hP : Closed P) {a0 a1 a2} (h2' : P a2) : P (cableCheckDone a0 a1 a2) := by
  unfold cableCheckDone
  refine keeps_ite ?_ ?_
  · refine State.raise_keeps hP ?_
    refine State.put_keeps hP ?_
    exact h2'
  · exact h2'

theorem State.mdioStart_keeps (hP : Closed P) {a0 a1 a2 a3 a4 a5 a6 a7} (h0' : P a0) : P (State.mdioStart a0 a1 a2 a3 a4 a5 a6 a7) := by
  unfold State.mdioStart
  refine keeps_ite ?_ ?_
  · refine State.err_keeps hP ?_
    exact h0'
  · refine keeps_ite ?_ ?_
    · refine State.err_keeps hP ?_
      exact h0'
    · extract_lets +onlyGivenNames v1
      have h1 : P v1 := by
        unfold v1
        refine State.put_keeps hP ?_
        exact h0'
      clear_value v1
      refine keeps_mk hP ?_
      exact h1

theorem mdioCmd_keeps (hP : Closed P) {a0 a1 a2 a3 a4 a5 a6 a7} (h7' : P a7) : P (mdioCmd a0 a1 a2 a3 a4 a5 a6 a7) := by
  unfold mdioCmd
  refine State.direct_keeps hP ?_ ?_
  · exact h7'
  · intro u1_0 u1_1
    refine State.mdioStart_keeps hP ?_
    exact u1_1

theorem mdioDone_keeps (hP : Closed P) {a0 a1 a2} (h2' : P a2) : P (mdioDone a0 a1 a2) := by
  unfold mdioDone
  split
  · exact h2'
  · extract_lets +onlyGivenNames v1
    clear_value v1
    extract_lets +onlyGivenNames v2
    clear_value v2
    extract_lets +onlyGivenNames v3
    clear_value v3
    extract_lets +onlyGivenNames v4
    have h4 : P v4 := by
      unfold v4
      refine keeps_mk hP ?_
      exact h2'
    clear_value v4
    extract_lets +onlyGivenNames v5
    clear_value v5
    refine keeps_ite ?_ ?_
    · exact h4
    · extract_lets +onlyGivenNames v6
      have h6 : P v6 := by
        unfold v6
        refine keeps_ite ?_ ?_
        · refine State.put_keeps hP ?_
          exact h4
        · exact h4
      clear_value v6
      refine State.put_keeps hP ?_
      exact h6

theorem toecapStart_keeps (hP : Closed P) {a0} (h0' : P a0) : P (toecapStart a0) := by
  unfold toecapStart
  refine keeps_ite ?_ ?_
  · exact h0'
  · refine keeps_ite ?_ ?_
    · refine State.put_keeps hP ?_
      exact h0'
    · extract_lets +onlyGivenNames v1
      have h1 : P v1 := by
        unfold v1
        refine State.put_keeps hP ?_
        exact h0'
      clear_value v1
      extract_lets +onlyGivenNames v2
      have h2 : P v2 := by
        unfold v2
        refine State.put_keeps hP ?_
        exact h1
      clear_value v2
      extract_lets +onlyGivenNames v3
      have h3 : P v3 := by
        unfold v3
        refine State.put_keeps hP ?_
        exact h2
      clear_value v3
      refine State.tcaSet_keeps hP ?_
      exact h3

theorem keyRestoreDone_keeps (hP : Closed P) {a0} (h0' : P a0) : P (keyRestoreDone a0) := by
  unfold keyRestoreDone
  refine keeps_ite ?_ ?_
  · exact h0'
  · extract_lets +onlyGivenNames v1
    have h1 : P v1 := by
      unfold v1
      refine State.tcaSet_keeps hP ?_
      exact h0'
    clear_value v1
    refine State.put_keeps hP ?_
    refine State.put_keeps hP ?_
    exact h1

theorem State.ldEnd_keeps (hP : Closed P) {a0 a1} (h0' : P a0) : P (State.ldEnd a0 a1) := by
  unfold State.ldEnd
  extract_lets +onlyGivenNames v1
  have h1 : P v1 := by
    unfold v1
    refine State.tcaSet_keeps hP ?_
    exact h0'
  clear_value v1
  extract_lets +onlyGivenNames v2
  have h2 : P v2 := by
    unfold v2
    refine State.put_keeps hP ?_
    refine State.put_keeps hP ?_
    exact h1
  clear_value v2
  refine State.raise_keeps hP ?_
  exact h2

theorem State.ldCtrl_keeps (hP : Closed P) {a0 a1 a2 a3 a4 a5 a6 a7} (h0' : P a0) : P (State.ldCtrl a0 a1 a2 a3 a4 a5 a6 a7) := by
  unfold State.ldCtrl
  extract_lets +onlyGivenNames v1
  clear_value v1
  refine keeps_ite ?_ ?_
  · refine State.err_keeps hP ?_
    exact h0'
  · extract_lets +onlyGivenNames v2
    have h2 : P v2 := by
      unfold v2
      refine State.put_keeps hP ?_
      refine State.put_keeps hP ?_
      exact h0'
    clear_value v2
    extract_lets +onlyGivenNames v3
    have h3 : P v3 := by
      unfold v3
      refine State.put_keeps hP ?_
      refine State.put_keeps hP ?_
      exact h2
    clear_value v3
    extract_lets +onlyGivenNames v4
    have h4 : P v4 := by
      unfold v4
      refine State.put_keeps hP ?_
      exact h3
    clear_value v4
    refine keeps_ite ?_ ?_
    · refine State.put_keeps hP ?_
      refine State.tcaSet_keeps hP ?_
      exact h4
    · exact h4

theorem keyLoad_keeps (hP : Closed P) {a0 a1 a2 a3 a4 a5 a6} (h6' : P a6) : P (keyLoad a0 a1 a2 a3 a4 a5 a6) := by
  unfold keyLoad
  refine State.direct_keeps hP ?_ ?_
  · exact h6'
  · intro u1_0 u1_1
    refine State.ldCtrl_keeps hP ?_
    exact u1_1

theorem keyErase_keeps (hP : Closed P) {a0 a1 a2 a3} (h3' : P a3) : P (keyErase a0 a1 a2 a3) := by
  unfold keyErase
  refine State.direct_keeps hP ?_ ?_
  · exact h3'
  · intro u1_0 u1_1
    refine State.ldCtrl_keeps hP ?_
    exact u1_1

theorem keyLoadDone_keeps (hP : Closed P) {a0} (h0' : P a0) : P (keyLoadDone a0) := by
  unfold keyLoadDone
  refine keeps_ite ?_ ?_
  · exact h0'
  · extract_lets +onlyGivenNames v1
    clear_value v1
    extract_lets +onlyGivenNames v2
    clear_value v2
    extract_lets +onlyGivenNames v3
    clear_value v3
    extract_lets +onlyGivenNames v4
    clear_value v4
    extract_lets +onlyGivenNames v5
    clear_value v5
    extract_lets +onlyGivenNames v6
    have h6 : P v6 := by
      unfold v6
      refine State.tcaSet_keeps hP ?_
      exact h0'
    clear_value v6
    extract_lets +onlyGivenNames v7
    have h7 : P v7 := by
      unfold v7
      refine keeps_ite ?_ ?_
      · exact h0'
      · split
        · extract_lets +onlyGivenNames v8
          have h8 : P v8 := by
            unfold v8
            refine State.tcaSet_keeps hP ?_
            exact h0'
          clear_value v8
          refine keeps_ite ?_ ?_
          · refine State.saSet_keeps hP ?_
            exact h8
          · exact h8
        · refine keeps_ite ?_ ?_
          · refine State.tcaSet_keeps hP ?_
            exact h6
          · exact h6
    clear_value v7
    refine State.ldEnd_keeps hP ?_
    exact h7

theorem tkmLock_keeps (hP : Closed P) {a0 a1} (h1' : P a1) : P (tkmLock a0 a1) := by
  unfold tkmLock
  refine State.direct_keeps hP ?_ ?_
  · exact h1'
  · intro u1_0 u1_1
    refine State.put_keeps hP ?_
    exact u1_1

theorem State.cryptoLost_keeps (hP : Closed P) {a0} (h0' : P a0) : P (State.cryptoLost a0) := by
  unfold State.cryptoLost
  extract_lets +onlyGivenNames v1
  have h1 : P v1 := by
    unfold v1
    refine keeps_foldl (fun u2 x2 h2 => ?_) ?_
    · refine State.poisonCopy_keeps hP ?_
      exact h2
    · exact h0'
  clear_value v1
  refine keeps_foldl (fun u3 x3 h3 => ?_) ?_
  · refine State.modFrame_keeps hP ?_
    refine State.emptyFrame_keeps hP ?_
    refine State.spoil_keeps hP ?_
    exact h3
  · exact h1

theorem toecapAlarm_keeps (hP : Closed P) {a0 a1} (h1' : P a1) : P (toecapAlarm a0 a1) := by
  unfold toecapAlarm
  refine keeps_ite ?_ ?_
  · exact h1'
  · extract_lets +onlyGivenNames v1
    have h1 : P v1 := by
      unfold v1
      refine keeps_ite ?_ ?_
      · refine State.cryptoLost_keeps hP ?_
        exact h1'
      · exact h1'
    clear_value v1
    extract_lets +onlyGivenNames v2
    have h2 : P v2 := by
      unfold v2
      refine State.tcaSet_keeps hP ?_
      exact h1
    clear_value v2
    extract_lets +onlyGivenNames v3
    have h3 : P v3 := by
      unfold v3
      refine State.put_keeps hP ?_
      exact h2
    clear_value v3
    extract_lets +onlyGivenNames v4
    have h4 : P v4 := by
      unfold v4
      refine State.put_keeps hP ?_
      refine State.put_keeps hP ?_
      exact h3
    clear_value v4
    extract_lets +onlyGivenNames v5
    have h5 : P v5 := by
      unfold v5
      refine State.put_keeps hP ?_
      exact h4
    clear_value v5
    extract_lets +onlyGivenNames v6
    have h6 : P v6 := by
      unfold v6
      refine State.inc_keeps hP ?_
      exact h5
    clear_value v6
    extract_lets +onlyGivenNames v7
    have h7 : P v7 := by
      unfold v7
      refine State.raise_keeps hP ?_
      exact h6
    clear_value v7
    extract_lets +onlyGivenNames v8
    have h8 : P v8 := by
      unfold v8
      refine keeps_ite ?_ ?_
      · exact h7
      · refine State.ldEnd_keeps hP ?_
        exact h7
    clear_value v8
    refine State.fault_keeps hP ?_
    refine State.nmi_keeps hP ?_
    exact h8

theorem drbgReseed_keeps (hP : Closed P) {a0 a1} (h1' : P a1) : P (drbgReseed a0 a1) := by
  unfold drbgReseed
  refine keeps_ite ?_ ?_
  · exact h1'
  · refine toecapAlarm_keeps hP ?_
    exact h1'

theorem State.tcaEvtPop_keeps (hP : Closed P) {a0} (h0' : P a0) : P (State.tcaEvtPop a0) := by
  unfold State.tcaEvtPop
  split
  · refine State.tcaSet_keeps hP ?_
    exact h0'
  · refine State.tcaSet_keeps hP ?_
    exact h0'

theorem State.fvRead_keeps (hP : Closed P) {a0 a1} (h0' : P a0) : P (State.fvRead a0 a1) := by
  unfold State.fvRead
  extract_lets +onlyGivenNames v1
  clear_value v1
  refine State.put_keeps hP ?_
  refine State.put_keeps hP ?_
  exact h0'

theorem State.fvWrite_keeps (hP : Closed P) {a0 a1} (h0' : P a0) : P (State.fvWrite a0 a1) := by
  unfold State.fvWrite
  extract_lets +onlyGivenNames v1
  clear_value v1
  extract_lets +onlyGivenNames v2
  clear_value v2
  refine keeps_ite ?_ ?_
  · refine State.err_keeps hP ?_
    exact h0'
  · extract_lets +onlyGivenNames v3
    have h3 : P v3 := by
      unfold v3
      refine State.tcaSet_keeps hP ?_
      exact h0'
    clear_value v3
    refine State.fvEvents_keeps hP ?_
    refine State.fvSet_keeps hP ?_
    exact h3

theorem fvRead_keeps (hP : Closed P) {a0 a1} (h1' : P a1) : P (fvRead a0 a1) := by
  unfold fvRead
  refine State.directFree_keeps hP ?_ ?_
  · exact h1'
  · intro u1_0 u1_1
    refine State.fvRead_keeps hP ?_
    exact u1_1

theorem fvWrite_keeps (hP : Closed P) {a0 a1} (h1' : P a1) : P (fvWrite a0 a1) := by
  unfold fvWrite
  refine State.direct_keeps hP ?_ ?_
  · exact h1'
  · intro u1_0 u1_1
    refine State.fvWrite_keeps hP ?_
    exact u1_1

theorem State.tcaPortSel_keeps (hP : Closed P) {a0 a1 a2 a3} (h0' : P a0) : P (State.tcaPortSel a0 a1 a2 a3) := by
  unfold State.tcaPortSel
  refine keeps_ite ?_ ?_
  · refine State.err_keeps hP ?_
    exact h0'
  · extract_lets +onlyGivenNames v1
    have h1 : P v1 := by
      unfold v1
      refine State.put_keeps hP ?_
      exact h0'
    clear_value v1
    extract_lets +onlyGivenNames v2
    have h2 : P v2 := by
      unfold v2
      refine keeps_foldl (fun u3 x3 h3 => ?_) ?_
      · refine State.put_keeps hP ?_
        exact h3
      · exact h1
    clear_value v2
    refine keeps_ite ?_ ?_
    · refine State.tcaSet_keeps hP ?_
      exact h2
    · exact h2

theorem tcaPortSnapshot_keeps (hP : Closed P) {a0 a1 a2} (h2' : P a2) : P (tcaPortSnapshot a0 a1 a2) := by
  unfold tcaPortSnapshot
  refine State.directFree_keeps hP ?_ ?_
  · exact h2'
  · intro u1_0 u1_1
    refine State.tcaPortSel_keeps hP ?_
    exact u1_1

theorem tcaPortClear_keeps (hP : Closed P) {a0 a1 a2} (h2' : P a2) : P (tcaPortClear a0 a1 a2) := by
  unfold tcaPortClear
  refine State.direct_keeps hP ?_ ?_
  · exact h2'
  · intro u1_0 u1_1
    refine State.tcaPortSel_keeps hP ?_
    exact u1_1

theorem State.keySel_keeps (hP : Closed P) {a0 a1 a2 a3} (h0' : P a0) : P (State.keySel a0 a1 a2 a3) := by
  unfold State.keySel
  refine keeps_ite ?_ ?_
  · refine State.err_keeps hP ?_
    exact h0'
  · extract_lets +onlyGivenNames v1
    clear_value v1
    extract_lets +onlyGivenNames v2
    clear_value v2
    extract_lets +onlyGivenNames v3
    clear_value v3
    extract_lets +onlyGivenNames v4
    clear_value v4
    extract_lets +onlyGivenNames v5
    have h5 : P v5 := by
      unfold v5
      refine State.put_keeps hP ?_
      refine State.put_keeps hP ?_
      exact h0'
    clear_value v5
    extract_lets +onlyGivenNames v6
    have h6 : P v6 := by
      unfold v6
      refine State.put_keeps hP ?_
      exact h5
    clear_value v6
    extract_lets +onlyGivenNames v7
    have h7 : P v7 := by
      unfold v7
      refine State.put_keeps hP ?_
      exact h6
    clear_value v7
    extract_lets +onlyGivenNames v8
    have h8 : P v8 := by
      unfold v8
      refine State.put_keeps hP ?_
      exact h7
    clear_value v8
    extract_lets +onlyGivenNames v9
    have h9 : P v9 := by
      unfold v9
      refine State.put_keeps hP ?_
      exact h8
    clear_value v9
    extract_lets +onlyGivenNames v10
    have h10 : P v10 := by
      unfold v10
      refine State.put_keeps hP ?_
      exact h9
    clear_value v10
    extract_lets +onlyGivenNames v11
    have h11 : P v11 := by
      unfold v11
      refine State.put_keeps hP ?_
      exact h10
    clear_value v11
    extract_lets +onlyGivenNames v12
    have h12 : P v12 := by
      unfold v12
      refine State.put_keeps hP ?_
      refine State.put_keeps hP ?_
      exact h11
    clear_value v12
    refine State.put_keeps hP ?_
    refine State.put_keeps hP ?_
    exact h12

theorem keySlotSnapshot_keeps (hP : Closed P) {a0 a1 a2 a3} (h3' : P a3) : P (keySlotSnapshot a0 a1 a2 a3) := by
  unfold keySlotSnapshot
  refine State.directFree_keeps hP ?_ ?_
  · exact h3'
  · intro u1_0 u1_1
    refine State.keySel_keeps hP ?_
    exact u1_1

theorem State.sliceServe_keeps (hP : Closed P) {a0 a1 a2} (h0' : P a0) : P (State.sliceServe a0 a1 a2) := by
  unfold State.sliceServe
  extract_lets +onlyGivenNames v1
  have h1 : P v1 := by
    unfold v1
    refine keeps_ite ?_ ?_
    · refine State.sliceServed_keeps hP ?_
      exact h0'
    · exact h0'
  clear_value v1
  extract_lets +onlyGivenNames v2
  clear_value v2
  extract_lets +onlyGivenNames v3
  have h3 : P v3 := by
    unfold v3
    refine State.put_keeps hP ?_
    refine State.put_keeps hP ?_
    refine State.sliceClear_keeps hP ?_
    exact h1
  clear_value v3
  extract_lets +onlyGivenNames v4
  have h4 : P v4 := by
    unfold v4
    refine State.put_keeps hP ?_
    refine State.put_keeps hP ?_
    exact h3
  clear_value v4
  refine keeps_ite ?_ ?_
  · refine State.dealWaiting_keeps hP ?_
    exact h4
  · refine State.deal_keeps hP ?_
    refine State.deal_keeps hP ?_
    refine State.deal_keeps hP ?_
    exact h4

theorem paceWindowEnd_keeps (hP : Closed P) {a0 a1 a2} (h2' : P a2) : P (paceWindowEnd a0 a1 a2) := by
  unfold paceWindowEnd
  refine keeps_ite ?_ ?_
  · exact h2'
  · extract_lets +onlyGivenNames v1
    clear_value v1
    extract_lets +onlyGivenNames v2
    have h2 : P v2 := by
      unfold v2
      refine State.sliceServed_keeps hP ?_
      exact h2'
    clear_value v2
    extract_lets +onlyGivenNames v3
    clear_value v3
    extract_lets +onlyGivenNames v4
    have h4 : P v4 := by
      unfold v4
      refine State.sliceSet_keeps hP ?_
      exact h2
    clear_value v4
    extract_lets +onlyGivenNames v5
    clear_value v5
    extract_lets +onlyGivenNames v6
    clear_value v6
    extract_lets +onlyGivenNames v7
    have h7 : P v7 := by
      unfold v7
      refine State.put_keeps hP ?_
      refine State.put_keeps hP ?_
      exact h4
    clear_value v7
    extract_lets +onlyGivenNames v8
    have h8 : P v8 := by
      unfold v8
      refine State.put_keeps hP ?_
      exact h7
    clear_value v8
    extract_lets +onlyGivenNames v9
    have h9 : P v9 := by
      unfold v9
      refine State.put_keeps hP ?_
      exact h8
    clear_value v9
    extract_lets +onlyGivenNames v10
    have h10 : P v10 := by
      unfold v10
      refine State.fabSet_keeps hP ?_
      exact h9
    clear_value v10
    refine keeps_ite ?_ ?_
    · extract_lets +onlyGivenNames v11
      have h11 : P v11 := by
        unfold v11
        refine keeps_ite ?_ ?_
        · refine State.raise_keeps hP ?_
          exact h10
        · exact h10
      clear_value v11
      refine State.devCause_keeps hP ?_
      exact h11
    · exact h10

theorem State.windowLoads_keeps (hP : Closed P) {a0} (h0' : P a0) : P (State.windowLoads a0) := by
  unfold State.windowLoads
  extract_lets +onlyGivenNames v1
  have h1 : P v1 := by
    unfold v1
    refine keeps_foldl (fun u2 x2 h2 => ?_) ?_
    · extract_lets +onlyGivenNames v3
      have h3 : P v3 := by
        unfold v3
        refine State.sliceServed_keeps hP ?_
        exact h2
      clear_value v3
      extract_lets +onlyGivenNames v4
      clear_value v4
      extract_lets +onlyGivenNames v5
      have h5 : P v5.2 := by
        unfold v5
        refine State.draw_keeps hP ?_
        exact h3
      clear_value v5
      refine State.sliceSet_keeps hP ?_
      refine State.put_keeps hP ?_
      assumption
    · exact h0'
  clear_value v1
  extract_lets +onlyGivenNames v6
  have h6 : P v6 := by
    unfold v6
    refine keeps_foldl (fun u7 x7 h7 => ?_) ?_
    · extract_lets +onlyGivenNames v8
      clear_value v8
      extract_lets +onlyGivenNames v9
      have h9 : P v9.2 := by
        unfold v9
        refine State.draw_keeps hP ?_
        exact h7
      clear_value v9
      refine State.put_keeps hP ?_
      assumption
    · exact h1
  clear_value v6
  extract_lets +onlyGivenNames v10
  have h10 : P v10 := by
    unfold v10
    refine State.clrSet_keeps hP ?_
    exact h6
  clear_value v10
  extract_lets +onlyGivenNames v11
  have h11 : P v11 := by
    unfold v11
    refine keeps_foldl (fun u12 x12 h12 => ?_) ?_
    · refine State.put_keeps hP ?_
      exact h12
    · exact h10
  clear_value v11
  refine keeps_mk hP ?_
  exact h11

theorem demandWindowEnd_keeps (hP : Closed P) {a0} (h0' : P a0) : P (demandWindowEnd a0) := by
  unfold demandWindowEnd
  refine keeps_ite ?_ ?_
  · exact h0'
  · extract_lets +onlyGivenNames v1
    clear_value v1
    extract_lets +onlyGivenNames v2
    clear_value v2
    extract_lets +onlyGivenNames v3
    clear_value v3
    extract_lets +onlyGivenNames v4
    have h4 : P v4.2 := by
      unfold v4
      split
      · refine State.draw_keeps hP ?_
        exact h0'
      · dsimp only
        exact h0'
    clear_value v4
    extract_lets +onlyGivenNames v5
    have h5 : P v5 := by
      unfold v5
      refine State.put_keeps hP ?_
      assumption
    clear_value v5
    extract_lets +onlyGivenNames v6
    have h6 : P v6.2 := by
      unfold v6
      split
      · refine State.draw_keeps hP ?_
        exact h5
      · dsimp only
        exact h5
    clear_value v6
    extract_lets +onlyGivenNames v7
    have h7 : P v7 := by
      unfold v7
      refine State.put_keeps hP ?_
      assumption
    clear_value v7
    extract_lets +onlyGivenNames v8
    have h8 : P v8 := by
      unfold v8
      refine State.put_keeps hP ?_
      exact h7
    clear_value v8
    extract_lets +onlyGivenNames v9
    have h9 : P v9 := by
      unfold v9
      refine keeps_ite ?_ ?_
      · refine State.raise_keeps hP ?_
        exact h8
      · exact h8
    clear_value v9
    extract_lets +onlyGivenNames v10
    have h10 : P v10 := by
      unfold v10
      refine State.fabSet_keeps hP ?_
      exact h9
    clear_value v10
    refine State.windowLoads_keeps hP ?_
    exact h10

theorem State.sliceStuck_keeps (hP : Closed P) {a0 a1 a2} (h0' : P a0) : P (State.sliceStuck a0 a1 a2) := by
  unfold State.sliceStuck
  extract_lets +onlyGivenNames v1
  clear_value v1
  extract_lets +onlyGivenNames v2
  clear_value v2
  extract_lets +onlyGivenNames v3
  clear_value v3
  refine State.sliceSet_keeps hP ?_
  refine State.incWrap_keeps hP ?_
  exact h0'

theorem State.abandon_keeps (hP : Closed P) {a0 a1 a2} (h0' : P a0) : P (State.abandon a0 a1 a2) := by
  unfold State.abandon
  refine keeps_ite ?_ ?_
  · exact h0'
  · refine State.fault_keeps hP ?_
    refine State.dropFrame_keeps hP ?_
    refine State.spoil_keeps hP ?_
    refine State.inc_keeps hP ?_
    exact h0'

theorem State.readsComplain_keeps (hP : Closed P) {a0 a1} (h0' : P a0) : P (State.readsComplain a0 a1) := by
  unfold State.readsComplain
  extract_lets +onlyGivenNames v1
  clear_value v1
  refine keeps_foldl (fun u2 x2 h2 => ?_) ?_
  · refine State.fault_keeps hP ?_
    exact h2
  · exact h0'

theorem fabricStall_keeps (hP : Closed P) {a0 a1} (h1' : P a1) : P (fabricStall a0 a1) := by
  unfold fabricStall
  refine keeps_ite ?_ ?_
  · exact h1'
  · extract_lets +onlyGivenNames v1
    clear_value v1
    extract_lets +onlyGivenNames v2
    have h2 : P v2 := by
      unfold v2
      refine State.sliceStuck_keeps hP ?_
      exact h1'
    clear_value v2
    extract_lets +onlyGivenNames v3
    clear_value v3
    extract_lets +onlyGivenNames v4
    have h4 : P v4 := by
      unfold v4
      refine State.put_keeps hP ?_
      exact h2
    clear_value v4
    extract_lets +onlyGivenNames v5
    have h5 : P v5 := by
      unfold v5
      refine State.fault_keeps hP ?_
      refine State.raise_keeps hP ?_
      exact h4
    clear_value v5
    extract_lets +onlyGivenNames v6
    have h6 : P v6 := by
      unfold v6
      refine keeps_foldl (fun u7 x7 h7 => ?_) ?_
      · refine State.abandon_keeps hP ?_
        exact h7
      · exact h5
    clear_value v6
    extract_lets +onlyGivenNames v8
    clear_value v8
    extract_lets +onlyGivenNames v9
    have h9 : P v9 := by
      unfold v9
      refine State.sliceServe_keeps hP ?_
      exact h6
    clear_value v9
    extract_lets +onlyGivenNames v10
    have h10 : P v10 := by
      unfold v10
      refine keeps_ite ?_ ?_
      · refine State.fabSet_keeps hP ?_
        exact h9
      · refine State.raise_keeps hP ?_
        refine State.put_keeps hP ?_
        exact h9
    clear_value v10
    refine State.readsComplain_keeps hP ?_
    exact h10

theorem sliceRejoin_keeps (hP : Closed P) {a0 a1 a2 a3} (h3' : P a3) : P (sliceRejoin a0 a1 a2 a3) := by
  unfold sliceRejoin
  refine keeps_ite ?_ ?_
  · extract_lets +onlyGivenNames v1
    clear_value v1
    extract_lets +onlyGivenNames v2
    have h2 : P v2 := by
      unfold v2
      refine State.fabSet_keeps hP ?_
      exact h3'
    clear_value v2
    extract_lets +onlyGivenNames v3
    have h3 : P v3 := by
      unfold v3
      refine State.rejoinTest_keeps hP ?_
      exact h2
    clear_value v3
    refine keeps_ite ?_ ?_
    · refine State.raise_keeps hP ?_
      refine State.sliceServe_keeps hP ?_
      exact h3
    · exact h3
  · exact h3'

theorem governorInterval_keeps (hP : Closed P) {a0} (h0' : P a0) : P (governorInterval a0) := by
  unfold governorInterval
  refine keeps_ite ?_ ?_
  · exact h0'
  · extract_lets +onlyGivenNames v1
    clear_value v1
    extract_lets +onlyGivenNames v2
    clear_value v2
    extract_lets +onlyGivenNames v3
    clear_value v3
    extract_lets +onlyGivenNames v4
    clear_value v4
    extract_lets +onlyGivenNames v5
    clear_value v5
    extract_lets +onlyGivenNames v6
    clear_value v6
    extract_lets +onlyGivenNames v7
    clear_value v7
    extract_lets +onlyGivenNames v8
    clear_value v8
    extract_lets +onlyGivenNames v9
    clear_value v9
    extract_lets +onlyGivenNames v10
    clear_value v10
    extract_lets +onlyGivenNames v11
    clear_value v11
    extract_lets +onlyGivenNames v12
    clear_value v12
    extract_lets +onlyGivenNames v13
    have h13 : P v13 := by
      unfold v13
      refine State.fabSet_keeps hP ?_
      refine State.put_keeps hP ?_
      exact h0'
    clear_value v13
    extract_lets +onlyGivenNames v14
    have h14 : P v14.2 := by
      unfold v14
      refine State.draw_keeps hP ?_
      exact h13
    clear_value v14
    extract_lets +onlyGivenNames v15
    have h15 : P v15.2 := by
      unfold v15
      split
      · dsimp only
        assumption
      · dsimp only
        exact h13
    clear_value v15
    extract_lets +onlyGivenNames v16
    have h16 : P v16 := by
      unfold v16
      assumption
    clear_value v16
    extract_lets +onlyGivenNames v17
    clear_value v17
    extract_lets +onlyGivenNames v18
    clear_value v18
    extract_lets +onlyGivenNames v19
    have h19 : P v19 := by
      unfold v19
      refine keeps_ite ?_ ?_
      · refine State.fabSet_keeps hP ?_
        refine State.raise_keeps hP ?_
        exact h16
      · refine keeps_ite ?_ ?_
        · exact h16
        · refine State.fabSet_keeps hP ?_
          exact h16
    clear_value v19
    extract_lets +onlyGivenNames v20
    have h20 : P v20 := by
      unfold v20
      refine keeps_ite ?_ ?_
      · exact h19
      · refine State.fabSet_keeps hP ?_
        refine State.put_keeps hP ?_
        exact h19
    clear_value v20
    refine State.fabSet_keeps hP ?_
    exact h20

theorem pmbusTransactionDone_keeps (hP : Closed P) {a0 a1 a2} (h2' : P a2) : P (pmbusTransactionDone a0 a1 a2) := by
  unfold pmbusTransactionDone
  split
  · exact h2'
  · refine keeps_ite ?_ ?_
    · extract_lets +onlyGivenNames v1
      have h1 : P v1 := by
        unfold v1
        refine State.fabSet_keeps hP ?_
        exact h2'
      clear_value v1
      refine keeps_ite ?_ ?_
      · refine State.put_keeps hP ?_
        exact h1
      · exact h1
    · refine keeps_ite ?_ ?_
      · refine State.fabSet_keeps hP ?_
        exact h2'
      · extract_lets +onlyGivenNames v2
        have h2 : P v2 := by
          unfold v2
          refine State.fabSet_keeps hP ?_
          exact h2'
        clear_value v2
        extract_lets +onlyGivenNames v3
        have h3 : P v3 := by
          unfold v3
          refine State.put_keeps hP ?_
          exact h2
        clear_value v3
        refine State.fault_keeps hP ?_
        refine State.raise_keeps hP ?_
        exact h3

theorem State.govCtrl_keeps (hP : Closed P) {a0 a1 a2 a3 a4 a5} (h0' : P a0) : P (State.govCtrl a0 a1 a2 a3 a4 a5) := by
  unfold State.govCtrl
  extract_lets +onlyGivenNames v1
  clear_value v1
  extract_lets +onlyGivenNames v2
  have h2 : P v2 := by
    unfold v2
    refine State.put_keeps hP ?_
    refine State.put_keeps hP ?_
    exact h0'
  clear_value v2
  extract_lets +onlyGivenNames v3
  have h3 : P v3 := by
    unfold v3
    refine State.put_keeps hP ?_
    exact h2
  clear_value v3
  extract_lets +onlyGivenNames v4
  have h4 : P v4 := by
    unfold v4
    refine State.put_keeps hP ?_
    exact h3
  clear_value v4
  extract_lets +onlyGivenNames v5
  have h5 : P v5 := by
    unfold v5
    refine State.put_keeps hP ?_
    exact h4
  clear_value v5
  refine keeps_ite ?_ ?_
  · refine State.fabSet_keeps hP ?_
    refine State.put_keeps hP ?_
    exact h5
  · refine keeps_ite ?_ ?_
    · extract_lets +onlyGivenNames v6
      have h6 : P v6 := by
        unfold v6
        refine State.fabSet_keeps hP ?_
        exact h5
      clear_value v6
      refine keeps_ite ?_ ?_
      · exact h6
      · refine State.put_keeps hP ?_
        exact h6
    · exact h5

theorem governorEnable_keeps (hP : Closed P) {a0 a1 a2 a3 a4 a5 a6} (h6' : P a6) : P (governorEnable a0 a1 a2 a3 a4 a5 a6) := by
  unfold governorEnable
  refine State.direct_keeps hP ?_ ?_
  · exact h6'
  · intro u1_0 u1_1
    refine State.govCtrl_keeps hP ?_
    exact u1_1

theorem cobblerPassEnd_keeps (hP : Closed P) {a0 a1} (h1' : P a1) : P (cobblerPassEnd a0 a1) := by
  unfold cobblerPassEnd
  refine keeps_ite ?_ ?_
  · exact h1'
  · extract_lets +onlyGivenNames v1
    clear_value v1
    extract_lets +onlyGivenNames v2
    clear_value v2
    extract_lets +onlyGivenNames v3
    clear_value v3
    extract_lets +onlyGivenNames v4
    clear_value v4
    extract_lets +onlyGivenNames v5
    have h5 : P v5 := by
      unfold v5
      refine State.freeCells_keeps hP ?_
      refine State.soleSet_keeps hP ?_
      exact h1'
    clear_value v5
    extract_lets +onlyGivenNames v6
    have h6 : P v6 := by
      unfold v6
      refine State.incWrap_keeps hP ?_
      exact h5
    clear_value v6
    extract_lets +onlyGivenNames v7
    have h7 : P v7 := by
      unfold v7
      refine State.put_keeps hP ?_
      exact h6
    clear_value v7
    extract_lets +onlyGivenNames v8
    have h8 : P v8 := by
      unfold v8
      refine State.put_keeps hP ?_
      exact h7
    clear_value v8
    extract_lets +onlyGivenNames v9
    have h9 : P v9 := by
      unfold v9
      refine keeps_ite ?_ ?_
      · exact h8
      · refine keeps_foldl (fun u10 x10 h10 => ?_) ?_
        · refine State.fault_keeps hP ?_
          exact h10
        · refine State.raise_keeps hP ?_
          refine State.inc_keeps hP ?_
          exact h8
    clear_value v9
    extract_lets +onlyGivenNames v11
    have h11 : P v11 := by
      unfold v11
      refine keeps_ite ?_ ?_
      · exact h9
      · refine State.raise_keeps hP ?_
        refine State.inc_keeps hP ?_
        exact h9
    clear_value v11
    refine keeps_ite ?_ ?_
    · refine State.fault_keeps hP ?_
      refine State.raise_keeps hP ?_
      exact h11
    · exact h11

theorem State.cbrEnable_keeps (hP : Closed P) {a0 a1} (h0' : P a0) : P (State.cbrEnable a0 a1) := by
  unfold State.cbrEnable
  extract_lets +onlyGivenNames v1
  have h1 : P v1 := by
    unfold v1
    refine State.put_keeps hP ?_
    exact h0'
  clear_value v1
  refine keeps_ite ?_ ?_
  · exact h1
  · refine keeps_mk hP ?_
    exact h1

theorem cobblerEnable_keeps (hP : Closed P) {a0 a1 a2} (h2' : P a2) : P (cobblerEnable a0 a1 a2) := by
  unfold cobblerEnable
  refine State.direct_keeps hP ?_ ?_
  · exact h2'
  · intro u1_0 u1_1
    refine State.cbrEnable_keeps hP ?_
    exact u1_1

end Sys2Proof.Machine
end

