-- ==== Sys2Proof/Laws/KeepsD.lean ====
section
/-! SUPPORT. One lemma per function: it keeps a `Closed` predicate.  Functions of Machine: Faults, HostDma, Power, Flash, Wake. -/
namespace Sys2Proof.Machine

set_option Elab.async false
variable {P : State → Prop}

theorem State.fltSet_keeps (hP : Closed P) {a0 a1} (h0' : P a0) : P (State.fltSet a0 a1) := by
  unfold State.fltSet
  refine keeps_mk hP ?_
  exact h0'

theorem faultReport_keeps (hP : Closed P) {a0 a1 a2} (h2' : P a2) : P (faultReport a0 a1 a2) := by
  unfold faultReport
  extract_lets +onlyGivenNames v1
  clear_value v1
  refine keeps_ite ?_ ?_
  · refine State.fault_keeps hP ?_
    exact h2'
  · exact h2'

theorem stormPeriodEnd_keeps (hP : Closed P) {a0} (h0' : P a0) : P (stormPeriodEnd a0) := by
  unfold stormPeriodEnd
  refine keeps_ite ?_ ?_
  · exact h0'
  · extract_lets +onlyGivenNames v1
    have h1 : P v1 := by
      unfold v1
      refine keeps_ite ?_ ?_
      · refine State.put_keeps hP ?_
        exact h0'
      · exact h0'
    clear_value v1
    refine State.fltSet_keeps hP ?_
    exact h1

theorem State.fltClear_keeps (hP : Closed P) {a0} (h0' : P a0) : P (State.fltClear a0) := by
  unfold State.fltClear
  extract_lets +onlyGivenNames v1
  clear_value v1
  extract_lets +onlyGivenNames v2
  have h2 : P v2 := by
    unfold v2
    refine keeps_foldl (fun u3 x3 h3 => ?_) ?_
    · refine keeps_foldl (fun u4 x4 h4 => ?_) ?_
      · refine State.put_keeps hP ?_
        exact h4
      · exact h3
    · exact h0'
  clear_value v2
  refine State.put_keeps hP ?_
  refine State.put_keeps hP ?_
  exact h2

theorem fltClear_keeps (hP : Closed P) {a0 a1} (h1' : P a1) : P (fltClear a0 a1) := by
  unfold fltClear
  refine State.direct_keeps hP ?_ ?_
  · exact h1'
  · intro u1_0 u1_1
    refine State.fltClear_keeps hP ?_
    exact u1_1

theorem State.fltCntSel_keeps (hP : Closed P) {a0 a1 a2 a3} (h0' : P a0) : P (State.fltCntSel a0 a1 a2 a3) := by
  unfold State.fltCntSel
  extract_lets +onlyGivenNames v1
  have h1 : P v1 := by
    unfold v1
    refine State.put_keeps hP ?_
    exact h0'
  clear_value v1
  refine keeps_ite ?_ ?_
  · refine State.put_keeps hP ?_
    refine State.err_keeps hP ?_
    exact h1
  · extract_lets +onlyGivenNames v2
    have h2 : P v2 := by
      unfold v2
      refine State.put_keeps hP ?_
      exact h1
    clear_value v2
    refine keeps_ite ?_ ?_
    · refine State.fltSet_keeps hP ?_
      exact h2
    · exact h2

theorem faultCountSnapshot_keeps (hP : Closed P) {a0 a1 a2} (h2' : P a2) : P (faultCountSnapshot a0 a1 a2) := by
  unfold faultCountSnapshot
  refine State.directFree_keeps hP ?_ ?_
  · exact h2'
  · intro u1_0 u1_1
    refine State.fltCntSel_keeps hP ?_
    exact u1_1

theorem faultCountClear_keeps (hP : Closed P) {a0 a1 a2} (h2' : P a2) : P (faultCountClear a0 a1 a2) := by
  unfold faultCountClear
  refine State.direct_keeps hP ?_ ?_
  · exact h2'
  · intro u1_0 u1_1
    refine State.fltCntSel_keeps hP ?_
    exact u1_1

theorem nmiClear_keeps (hP : Closed P) {a0 a1 a2} (h2' : P a2) : P (nmiClear a0 a1 a2) := by
  unfold nmiClear
  refine State.direct_keeps hP ?_ ?_
  · exact h2'
  · intro u1_0 u1_1
    refine State.put_keeps hP ?_
    exact u1_1

theorem State.wdgSet_keeps (hP : Closed P) {a0 a1} (h0' : P a0) : P (State.wdgSet a0 a1) := by
  unfold State.wdgSet
  refine keeps_mk hP ?_
  exact h0'

theorem State.hbKick_keeps (hP : Closed P) {a0 a1} (h0' : P a0) : P (State.hbKick a0 a1) := by
  unfold State.hbKick
  refine keeps_ite ?_ ?_
  · refine State.err_keeps hP ?_
    exact h0'
  · refine keeps_ite ?_ ?_
    · exact h0'
    · extract_lets +onlyGivenNames v1
      clear_value v1
      extract_lets +onlyGivenNames v2
      have h2 : P v2 := by
        unfold v2
        refine State.wdgSet_keeps hP ?_
        exact h0'
      clear_value v2
      refine keeps_ite ?_ ?_
      · refine State.raise_keeps hP ?_
        refine State.put_keeps hP ?_
        exact h2
      · exact h2

theorem hbKick_keeps (hP : Closed P) {a0 a1} (h1' : P a1) : P (hbKick a0 a1) := by
  unfold hbKick
  refine State.command_keeps hP ?_ ?_
  · exact h1'
  · intro u1_0 u1_1
    refine State.gate0_keeps hP ?_ ?_
    · exact u1_1
    · intro u2_0 u2_1
      refine State.hbKick_keeps hP ?_
      exact u2_1

theorem State.hbCfg_keeps (hP : Closed P) {a0 a1 a2} (h0' : P a0) : P (State.hbCfg a0 a1 a2) := by
  unfold State.hbCfg
  extract_lets +onlyGivenNames v1
  clear_value v1
  extract_lets +onlyGivenNames v2
  clear_value v2
  extract_lets +onlyGivenNames v3
  have h3 : P v3 := by
    unfold v3
    refine State.put_keeps hP ?_
    refine State.put_keeps hP ?_
    exact h0'
  clear_value v3
  refine keeps_ite ?_ ?_
  · refine State.wdgSet_keeps hP ?_
    exact h3
  · refine keeps_ite ?_ ?_
    · exact h3
    · refine State.put_keeps hP ?_
      refine State.wdgSet_keeps hP ?_
      exact h3

theorem hbEnable_keeps (hP : Closed P) {a0 a1 a2 a3} (h3' : P a3) : P (hbEnable a0 a1 a2 a3) := by
  unfold hbEnable
  refine State.direct_keeps hP ?_ ?_
  · exact h3'
  · intro u1_0 u1_1
    refine State.hbCfg_keeps hP ?_
    exact u1_1

theorem hbExpiry_keeps (hP : Closed P) {a0} (h0' : P a0) : P (hbExpiry a0) := by
  unfold hbExpiry
  refine keeps_ite ?_ ?_
  · exact h0'
  · extract_lets +onlyGivenNames v1
    have h1 : P v1 := by
      unfold v1
      refine State.inc_keeps hP ?_
      refine State.put_keeps hP ?_
      exact h0'
    clear_value v1
    refine State.raise_keeps hP ?_
    refine State.fault_keeps hP ?_
    exact h1

theorem State.ringCleared_keeps (hP : Closed P) {a0 a1} (h0' : P a0) : P (State.ringCleared a0 a1) := by
  unfold State.ringCleared
  refine State.hdmSet_keeps hP ?_
  exact h0'

theorem State.ringCfg_keeps (hP : Closed P) {a0 a1 a2 a3 a4 a5 a6 a7} (h0' : P a0) : P (State.ringCfg a0 a1 a2 a3 a4 a5 a6 a7) := by
  unfold State.ringCfg
  extract_lets +onlyGivenNames v1
  clear_value v1
  extract_lets +onlyGivenNames v2
  clear_value v2
  extract_lets +onlyGivenNames v3
  clear_value v3
  extract_lets +onlyGivenNames v4
  clear_value v4
  extract_lets +onlyGivenNames v5
  have h5 : P v5 := by
    unfold v5
    refine keeps_ite ?_ ?_
    · refine State.err_keeps hP ?_
      exact h0'
    · refine State.put_keeps hP ?_
      refine State.put_keeps hP ?_
      refine State.put_keeps hP ?_
      exact h0'
  clear_value v5
  extract_lets +onlyGivenNames v6
  have h6 : P v6 := by
    unfold v6
    refine State.put_keeps hP ?_
    exact h5
  clear_value v6
  extract_lets +onlyGivenNames v7
  have h7 : P v7 := by
    unfold v7
    refine keeps_ite ?_ ?_
    · refine State.put_keeps hP ?_
      exact h6
    · exact h6
  clear_value v7
  extract_lets +onlyGivenNames v8
  have h8 : P v8 := by
    unfold v8
    refine keeps_ite ?_ ?_
    · refine State.put_keeps hP ?_
      refine State.put_keeps hP ?_
      exact h7
    · exact h7
  clear_value v8
  refine State.portSync_keeps hP ?_
  exact h8

theorem ringEnable_keeps (hP : Closed P) {a0 a1 a2 a3 a4 a5 a6 a7} (h7' : P a7) : P (ringEnable a0 a1 a2 a3 a4 a5 a6 a7) := by
  unfold ringEnable
  refine State.direct_keeps hP ?_ ?_
  · exact h7'
  · intro u1_0 u1_1
    refine State.ringCfg_keeps hP ?_
    exact u1_1

theorem State.ringTail_keeps (hP : Closed P) {a0 a1 a2 a3 a4} (h0' : P a0) : P (State.ringTail a0 a1 a2 a3 a4) := by
  unfold State.ringTail
  extract_lets +onlyGivenNames v1
  clear_value v1
  extract_lets +onlyGivenNames v2
  clear_value v2
  extract_lets +onlyGivenNames v3
  clear_value v3
  refine keeps_ite ?_ ?_
  · refine State.put_keeps hP ?_
    exact h0'
  · refine State.err_keeps hP ?_
    exact h0'

theorem tailWrite_keeps (hP : Closed P) {a0 a1 a2 a3 a4} (h4' : P a4) : P (tailWrite a0 a1 a2 a3 a4) := by
  unfold tailWrite
  refine State.direct_keeps hP ?_ ?_
  · exact h4'
  · intro u1_0 u1_1
    refine State.ringTail_keeps hP ?_
    exact u1_1

theorem State.wroteBack_keeps (hP : Closed P) {a0 a1 a2 a3} (h0' : P a0) : P (State.wroteBack a0 a1 a2 a3) := by
  unfold State.wroteBack
  extract_lets +onlyGivenNames v1
  clear_value v1
  extract_lets +onlyGivenNames v2
  have h2 : P v2 := by
    unfold v2
    refine State.put_keeps hP ?_
    exact h0'
  clear_value v2
  extract_lets +onlyGivenNames v3
  clear_value v3
  extract_lets +onlyGivenNames v4
  have h4 : P v4 := by
    unfold v4
    refine State.hdmSet_keeps hP ?_
    exact h2
  clear_value v4
  refine keeps_ite ?_ ?_
  · refine State.raise_keeps hP ?_
    exact h4
  · exact h4

theorem moderationTimer_keeps (hP : Closed P) {a0 a1 a2} (h2' : P a2) : P (moderationTimer a0 a1 a2) := by
  unfold moderationTimer
  refine keeps_ite ?_ ?_
  · exact h2'
  · refine State.raise_keeps hP ?_
    exact h2'

theorem State.rxWrite_keeps (hP : Closed P) {a0 a1 a2 a3 a4} (h0' : P a0) : P (State.rxWrite a0 a1 a2 a3 a4) := by
  unfold State.rxWrite
  extract_lets d buf n head
  refine keeps_foldl (fun u i hu => ?_) h0'
  extract_lets part m1 m2
  have h1 : AMap.Sorted u.hdm.mem → AMap.Sorted m2 := fun h => hostWriteBytes_sorted (hostWriteBytes_sorted h)
  clear_value m2
  exact hP.upd hu rfl rfl (fun h => ⟨h.lst, h.flash, h.req, h.rsp, h1 h.host⟩)

theorem State.rxNoDesc_keeps (hP : Closed P) {a0 a1} (h0' : P a0) : P (State.rxNoDesc a0 a1) := by
  unfold State.rxNoDesc
  refine State.raise_keeps hP ?_
  refine State.inc_keeps hP ?_
  exact h0'

theorem hdmRxDeliver_keeps (hP : Closed P) {a0 a1} (h1' : P a1) : P (hdmRxDeliver a0 a1) := by
  unfold hdmRxDeliver
  extract_lets +onlyGivenNames v1
  have h1 : P v1 := by
    unfold v1
    refine State.fabNow_keeps hP ?_
    exact h1'
  clear_value v1
  split
  · exact h1
  · split
    · refine State.rmCopy_keeps hP ?_
      exact h1
    · refine keeps_ite ?_ ?_
      · exact h1
      · extract_lets +onlyGivenNames v2
        clear_value v2
        extract_lets +onlyGivenNames v3
        clear_value v3
        refine keeps_ite ?_ ?_
        · refine State.reap_keeps hP ?_
          refine State.rmCopy_keeps hP ?_
          refine State.rxNoDesc_keeps hP ?_
          exact h1
        · refine keeps_ite ?_ ?_
          · exact h1
          · extract_lets +onlyGivenNames v4
            have h4 : P v4 := by
              unfold v4
              refine State.rxWrite_keeps hP ?_
              exact h1
            clear_value v4
            extract_lets +onlyGivenNames v5
            have h5 : P v5 := by
              unfold v5
              refine keeps_ite ?_ ?_
              · refine State.raise_keeps hP ?_
                refine State.tcCount_keeps hP ?_
                exact h4
              · exact h4
            clear_value v5
            extract_lets +onlyGivenNames v6
            have h6 : P v6 := by
              unfold v6
              refine State.wroteBack_keeps hP ?_
              refine State.inc_keeps hP ?_
              exact h5
            clear_value v6
            refine State.reap_keeps hP ?_
            refine State.rmCopy_keeps hP ?_
            exact h6

theorem State.txWriteBack_keeps (hP : Closed P) {a0 a1 a2 a3} (h0' : P a0) : P (State.txWriteBack a0 a1 a2 a3) := by
  unfold State.txWriteBack
  extract_lets +onlyGivenNames v1
  clear_value v1
  extract_lets +onlyGivenNames v2
  have h2 : P v2 := by
    unfold v2
    refine keeps_foldl (fun u3 x3 h3 => ?_) ?_
    · refine State.hdmSet_keeps hP ?_
      exact h3
    · exact h0'
  clear_value v2
  refine State.wroteBack_keeps hP ?_
  exact h2

theorem State.txHand_keeps (hP : Closed P) {a0 a1 a2} (h0' : P a0) : P (State.txHand a0 a1 a2) := by
  unfold State.txHand
  extract_lets +onlyGivenNames v1
  clear_value v1
  refine keeps_ite ?_ ?_
  · refine State.takeSlots_keeps hP ?_
    refine State.handOver_keeps hP ?_
    exact h0'
  · extract_lets +onlyGivenNames v2
    clear_value v2
    extract_lets +onlyGivenNames v3
    clear_value v3
    extract_lets +onlyGivenNames v4
    have h4 : P v4 := by
      unfold v4
      refine State.handOver_keeps hP ?_
      exact h0'
    clear_value v4
    extract_lets +onlyGivenNames v5
    have h5 : P v5 := by
      unfold v5
      refine keeps_ite ?_ ?_
      · refine State.flowCount_keeps hP ?_
        exact h4
      · exact h4
    clear_value v5
    refine State.enqueueFrame_keeps hP ?_
    exact h5

theorem hdmTxFrame_keeps (hP : Closed P) {a0 a1 a2} (h2' : P a2) : P (hdmTxFrame a0 a1 a2) := by
  unfold hdmTxFrame
  refine keeps_ite ?_ ?_
  · exact h2'
  · split
    · refine keeps_ite ?_ ?_
      · exact h2'
      · extract_lets +onlyGivenNames v1
        have h1 : P v1 := by
          unfold v1
          refine State.hdmSet_keeps hP ?_
          exact h2'
        clear_value v1
        extract_lets +onlyGivenNames v2
        clear_value v2
        extract_lets +onlyGivenNames v3
        have h3 : ∀ x0 x1, P x0 → P (v3 x0 x1) := by
          unfold v3
          intro u4_0 u4_1 u4_2
          refine State.txWriteBack_keeps hP ?_
          exact u4_2
        clear_value v3
        refine keeps_ite ?_ ?_
        · refine h3 _ _ ?_
          refine State.raise_keeps hP ?_
          refine State.inc_keeps hP ?_
          exact h1
        · refine keeps_ite ?_ ?_
          · refine h3 _ _ ?_
            refine State.raise_keeps hP ?_
            refine State.inc_keeps hP ?_
            exact h1
          · refine keeps_ite ?_ ?_
            · refine h3 _ _ ?_
              exact h1
            · refine keeps_ite ?_ ?_
              · refine h3 _ _ ?_
                refine State.raise_keeps hP ?_
                refine State.inc_keeps hP ?_
                exact h1
              · extract_lets +onlyGivenNames v5
                have h5 : P v5 := by
                  unfold v5
                  refine State.txHand_keeps hP ?_
                  exact h1
                clear_value v5
                refine State.txWriteBack_keeps hP ?_
                refine State.inc_keeps hP ?_
                exact h5
    · exact h2'

theorem dmaError_keeps (hP : Closed P) {a0 a1 a2 a3} (h3' : P a3) : P (dmaError a0 a1 a2 a3) := by
  unfold dmaError
  refine keeps_ite ?_ ?_
  · exact h3'
  · extract_lets +onlyGivenNames v1
    have h1 : P v1 := by
      unfold v1
      refine keeps_ite ?_ ?_
      · refine State.txWriteBack_keeps hP ?_
        exact h3'
      · split
        · refine State.reap_keeps hP ?_
          refine State.rmCopy_keeps hP ?_
          refine State.rxNoDesc_keeps hP ?_
          exact h3'
        · exact h3'
    clear_value v1
    extract_lets +onlyGivenNames v2
    have h2 : P v2 := by
      unfold v2
      refine State.put_keeps hP ?_
      refine State.put_keeps hP ?_
      exact h1
    clear_value v2
    refine State.portSync_keeps hP ?_
    refine State.raise_keeps hP ?_
    exact h2

theorem pcieLinkUp_keeps (hP : Closed P) {a0 a1 a2 a3} (h3' : P a3) : P (pcieLinkUp a0 a1 a2 a3) := by
  unfold pcieLinkUp
  refine keeps_ite ?_ ?_
  · exact h3'
  · extract_lets +onlyGivenNames v1
    have h1 : P v1 := by
      unfold v1
      refine State.put_keeps hP ?_
      exact h3'
    clear_value v1
    extract_lets +onlyGivenNames v2
    have h2 : P v2 := by
      unfold v2
      refine State.put_keeps hP ?_
      refine State.put_keeps hP ?_
      exact h1
    clear_value v2
    refine State.portSync_keeps hP ?_
    refine State.put_keeps hP ?_
    exact h2

theorem State.hostLost_keeps (hP : Closed P) {a0} (h0' : P a0) : P (State.hostLost a0) := by
  unfold State.hostLost
  exact State.clearV_keeps hP (hP.upd h0' rfl rfl (fun h => ⟨h.lst, h.flash, h.req, h.rsp, h.host⟩))

theorem pcieLinkDown_keeps (hP : Closed P) {a0} (h0' : P a0) : P (pcieLinkDown a0) := by
  unfold pcieLinkDown
  refine keeps_ite ?_ ?_
  · exact h0'
  · refine State.portSync_keeps hP ?_
    refine keeps_ite ?_ ?_
    · refine State.raise_keeps hP ?_
      refine State.hostLost_keeps hP ?_
      exact h0'
    · refine State.hostLost_keeps hP ?_
      exact h0'

theorem State.ownerWrite_keeps (hP : Closed P) {a0 a1 a2} (h0' : P a0) : P (State.ownerWrite a0 a1 a2).2 := by
  unfold State.ownerWrite
  extract_lets +onlyGivenNames v1
  clear_value v1
  extract_lets +onlyGivenNames v2
  clear_value v2
  extract_lets +onlyGivenNames v3
  clear_value v3
  extract_lets +onlyGivenNames v4
  have h4 : P v4 := by
    unfold v4
    refine State.put_keeps hP ?_
    exact h0'
  clear_value v4
  split
  · dsimp only
    exact h4
  · dsimp only
    refine State.ownErr_keeps hP ?_
    exact h4

theorem State.ownerAcc_keeps (hP : Closed P) {a0 a1 a2} (h0' : P a0) : P (State.ownerAcc a0 a1 a2).2 := by
  unfold State.ownerAcc
  split
  · dsimp only
    exact h0'
  · split
    · dsimp only
      refine State.err_keeps hP ?_
      exact h0'
    · refine State.ownerWrite_keeps hP ?_
      exact h0'

theorem ownerWrite_keeps (hP : Closed P) {a0 a1 a2} (h2' : P a2) : P (ownerWrite a0 a1 a2) := by
  unfold ownerWrite
  refine State.command_keeps hP ?_ ?_
  · exact h2'
  · intro u1_0 u1_1
    refine State.ownerAcc_keeps hP ?_
    exact u1_1

theorem State.mbxCmd_keeps (hP : Closed P) {a0 a1 a2 a3} (h0' : P a0) : P (State.mbxCmd a0 a1 a2 a3) := by
  unfold State.mbxCmd
  refine keeps_ite ?_ ?_
  · exact h0'
  · refine keeps_ite ?_ ?_
    · refine State.err_keeps hP ?_
      exact h0'
    · refine keeps_ite ?_ ?_
      · refine State.err_keeps hP ?_
        exact h0'
      · refine State.put_keeps hP ?_
        refine State.put_keeps hP ?_
        exact h0'

theorem mbxGo_keeps (hP : Closed P) {a0 a1 a2} (h2' : P a2) : P (mbxGo a0 a1 a2) := by
  unfold mbxGo
  refine State.direct_keeps hP ?_ ?_
  · exact h2'
  · intro u1_0 u1_1
    refine State.mbxCmd_keeps hP ?_
    exact u1_1

theorem State.mbxAnswer_keeps (hP : Closed P) {a0 a1 a2} (h0' : P a0) : P (State.mbxAnswer a0 a1 a2) := by
  unfold State.mbxAnswer
  extract_lets body bs t u
  have h1 : P t := State.mbxSet_keeps hP h0' (fun _ h _ => ⟨h, fold_set_wf (f := id) _ AMap.wf_nil⟩)
  exact keeps_ite h0' (State.raise_keeps hP (State.put_keeps hP (State.put_keeps hP (State.put_keeps hP h1))))

theorem mbxResponse_keeps (hP : Closed P) {a0 a1 a2} (h2' : P a2) : P (mbxResponse a0 a1 a2) := by
  unfold mbxResponse
  refine keeps_ite ?_ ?_
  · refine State.mbxAnswer_keeps hP ?_
    exact h2'
  · exact h2'

theorem loopbackTest_keeps (hP : Closed P) {a0 a1 a2} (h2' : P a2) : P (loopbackTest a0 a1 a2) := by
  unfold loopbackTest
  refine keeps_ite ?_ ?_
  · exact h2'
  · extract_lets +onlyGivenNames v1
    clear_value v1
    extract_lets +onlyGivenNames v2
    clear_value v2
    extract_lets +onlyGivenNames v3
    clear_value v3
    extract_lets +onlyGivenNames v4
    clear_value v4
    refine keeps_ite ?_ ?_
    · refine State.mbxAnswer_keeps hP ?_
      exact h2'
    · refine keeps_ite ?_ ?_
      · refine State.mbxAnswer_keeps hP ?_
        exact h2'
      · extract_lets +onlyGivenNames v5
        have h5 : P v5 := by
          unfold v5
          refine State.testSync_keeps hP ?_
          refine State.put_keeps hP ?_
          exact h2'
        clear_value v5
        extract_lets +onlyGivenNames v6
        have h6 : P v6 := by
          unfold v6
          refine State.testSync_keeps hP ?_
          refine State.put_keeps hP ?_
          exact h5
        clear_value v6
        refine State.mbxAnswer_keeps hP ?_
        exact h6

theorem State.pwrSet_keeps (hP : Closed P) {a0 a1} (h0' : P a0) : P (State.pwrSet a0 a1) := by
  unfold State.pwrSet
  refine keeps_mk hP ?_
  exact h0'

theorem State.clearTim_keeps (hP : Closed P) {a0} (h0' : P a0) : P (State.clearTim a0) := by
  unfold State.clearTim
  refine keeps_mk hP ?_
  exact h0'

theorem State.clearFrames_keeps (hP : Closed P) {a0} (h0' : P a0) : P (State.clearFrames a0) := by
  unfold State.clearFrames
  refine State.fabSet_keeps hP ?_
  refine State.clrSet_keeps hP ?_
  exact h0'

theorem State.clearSole_keeps (hP : Closed P) {a0} (h0' : P a0) : P (State.clearSole a0) := by
  unfold State.clearSole
  refine keeps_mk hP ?_
  exact h0'

theorem State.clearCls_keeps (hP : Closed P) {a0} (h0' : P a0) : P (State.clearCls a0) := by
  unfold State.clearCls
  extract_lets +onlyGivenNames v1
  clear_value v1
  extract_lets +onlyGivenNames v2
  have h2 : P v2 := by
    unfold v2
    refine State.clearFrames_keeps hP ?_
    exact h0'
  clear_value v2
  refine keeps_mk hP ?_
  exact h2

theorem State.clearPort_keeps (hP : Closed P) {a0 a1} (h0' : P a0) : P (State.clearPort a0 a1) := by
  unfold State.clearPort
  refine keeps_mk hP ?_
  exact h0'

theorem State.clearEngine_keeps (hP : Closed P) {a0 a1} (h0' : P a0) : P (State.clearEngine a0 a1) := by
  unfold State.clearEngine
  extract_lets +onlyGivenNames v1
  clear_value v1
  refine State.awlSet_keeps hP ?_
  exact h0'

theorem State.clearTxm_keeps (hP : Closed P) {a0} (h0' : P a0) : P (State.clearTxm a0) := by
  unfold State.clearTxm
  refine State.wakSet_keeps hP ?_
  exact h0'

theorem State.clearToecap_keeps (hP : Closed P) {a0} (h0' : P a0) : P (State.clearToecap a0) := by
  unfold State.clearToecap
  refine State.tcaSet_keeps hP ?_
  exact h0'

theorem State.clearLast_keeps (hP : Closed P) {a0} (h0' : P a0) : P (State.clearLast a0) := by
  unfold State.clearLast
  refine keeps_mk hP ?_
  exact h0'

theorem State.clearDomain_keeps (hP : Closed P) {a0 a1} (h0' : P a0) : P (State.clearDomain a0 a1) := by
  unfold State.clearDomain
  split
  · refine State.wdgSet_keeps hP ?_
    refine State.mbxSet_keeps hP ?_
    refine State.clearTim_keeps hP ?_
    exact h0'
  · refine keeps_mk hP ?_
    exact h0'
  · refine State.clearSole_keeps hP ?_
    refine State.clearFrames_keeps hP ?_
    exact h0'
  · refine State.clearCls_keeps hP ?_
    exact h0'
  · refine State.clearLast_keeps hP ?_
    exact h0'
  · refine State.clearTxm_keeps hP ?_
    refine keeps_foldl (fun u1 x1 h1 => ?_) ?_
    · refine State.clearEngine_keeps hP ?_
      exact h1
    · exact h0'
  · refine keeps_foldl (fun u2 x2 h2 => ?_) ?_
    · refine State.clearEngine_keeps hP ?_
      exact h2
    · exact h0'
  · refine State.clearToecap_keeps hP ?_
    exact h0'
  · refine keeps_ite ?_ ?_
    · refine keeps_foldl (fun u3 x3 h3 => ?_) ?_
      · refine keeps_ite ?_ ?_
        · refine State.clearPort_keeps hP ?_
          exact h3
        · exact h3
      · exact h0'
    · refine keeps_ite ?_ ?_
      · extract_lets +onlyGivenNames v4
        clear_value v4
        refine State.fabSet_keeps hP ?_
        refine State.sliceServe_keeps hP ?_
        exact h0'
      · exact h0'

theorem State.usesNow_keeps (hP : Closed P) {a0} (h0' : P a0) : P (State.usesNow a0) := by
  unfold State.usesNow
  extract_lets +onlyGivenNames v1
  clear_value v1
  refine State.pwrSet_keeps hP ?_
  exact h0'

theorem State.modeSet_keeps (hP : Closed P) {a0 a1} (h0' : P a0) : P (State.modeSet a0 a1) := by
  unfold State.modeSet
  refine keeps_ite ?_ ?_
  · exact h0'
  · refine State.raise_keeps hP ?_
    refine State.put_keeps hP ?_
    exact h0'

theorem State.policyCheck_keeps (hP : Closed P) {a0} (h0' : P a0) : P (State.policyCheck a0) := by
  unfold State.policyCheck
  extract_lets +onlyGivenNames v1
  clear_value v1
  extract_lets +onlyGivenNames v2
  clear_value v2
  extract_lets +onlyGivenNames v3
  clear_value v3
  extract_lets +onlyGivenNames v4
  have h4 : P v4 := by
    unfold v4
    refine keeps_mk hP ?_
    exact h0'
  clear_value v4
  refine keeps_ite ?_ ?_
  · refine State.raise_keeps hP ?_
    exact h4
  · exact h4

theorem State.domainDown_keeps (hP : Closed P) {a0 a1} (h0' : P a0) : P (State.domainDown a0 a1) := by
  unfold State.domainDown
  extract_lets +onlyGivenNames v1
  have h1 : P v1 := by
    unfold v1
    refine keeps_ite ?_ ?_
    · refine State.cryptoLost_keeps hP ?_
      exact h0'
    · exact h0'
  clear_value v1
  extract_lets +onlyGivenNames v2
  have h2 : P v2 := by
    unfold v2
    refine State.pwrSet_keeps hP ?_
    exact h1
  clear_value v2
  extract_lets +onlyGivenNames v3
  have h3 : P v3 := by
    unfold v3
    refine keeps_foldl (fun u4 x4 h4 => ?_) ?_
    · refine keeps_ite ?_ ?_
      · refine State.linkLost_keeps hP ?_
        exact h4
      · exact h4
    · exact h2
  clear_value v3
  extract_lets +onlyGivenNames v5
  have h5 : P v5 := by
    unfold v5
    refine State.portSyncAll_keeps hP ?_
    exact h3
  clear_value v5
  extract_lets +onlyGivenNames v6
  have h6 : P v6 := by
    unfold v6
    refine State.clearV_keeps hP ?_
    refine State.clearDomain_keeps hP ?_
    exact h5
  clear_value v6
  extract_lets +onlyGivenNames v7
  have h7 : P v7 := by
    unfold v7
    refine keeps_ite ?_ ?_
    · refine State.budget_keeps hP ?_
      exact h6
    · exact h6
  clear_value v7
  refine keeps_ite ?_ ?_
  · refine State.policyCheck_keeps hP ?_
    exact h7
  · exact h7

theorem State.domainsDown_keeps (hP : Closed P) {a0 a1} (h0' : P a0) : P (State.domainsDown a0 a1) := by
  unfold State.domainsDown
  refine keeps_foldl (fun u1 x1 h1 => ?_) ?_
  · refine keeps_ite ?_ ?_
    · refine State.domainDown_keeps hP ?_
      exact h1
    · exact h1
  · exact h0'

theorem State.txmSync_keeps (hP : Closed P) {a0} (h0' : P a0) : P (State.txmSync a0) := by
  unfold State.txmSync
  refine keeps_ite ?_ ?_
  · exact h0'
  · refine keeps_foldl (fun u1 x1 h1 => ?_) ?_
    · extract_lets +onlyGivenNames v2
      clear_value v2
      extract_lets +onlyGivenNames v3
      clear_value v3
      refine keeps_ite ?_ ?_
      · exact h1
      · refine State.txmRequest_keeps hP ?_
        exact h1
    · exact h0'

theorem State.linSync_keeps (hP : Closed P) {a0 a1} (h0' : P a0) : P (State.linSync a0 a1) := by
  unfold State.linSync
  extract_lets +onlyGivenNames v1
  clear_value v1
  extract_lets +onlyGivenNames v2
  clear_value v2
  extract_lets +onlyGivenNames v3
  clear_value v3
  extract_lets +onlyGivenNames v4
  have h4 : P v4 := by
    unfold v4
    refine keeps_ite ?_ ?_
    · exact h0'
    · refine State.awlSet_keeps hP ?_
      exact h0'
  clear_value v4
  extract_lets +onlyGivenNames v5
  have h5 : P v5 := by
    unfold v5
    refine State.put_keeps hP ?_
    exact h4
  clear_value v5
  extract_lets +onlyGivenNames v6
  have h6 : P v6 := by
    unfold v6
    refine State.put_keeps hP ?_
    exact h5
  clear_value v6
  refine keeps_ite ?_ ?_
  · extract_lets +onlyGivenNames v7
    have h7 : P v7 := by
      unfold v7
      refine State.linSet_keeps hP ?_
      exact h6
    clear_value v7
    extract_lets +onlyGivenNames v8
    have h8 : P v8 := by
      unfold v8
      refine State.put_keeps hP ?_
      refine State.put_keeps hP ?_
      exact h7
    clear_value v8
    refine State.put_keeps hP ?_
    refine State.put_keeps hP ?_
    exact h8
  · exact h6

theorem State.channelSync_keeps (hP : Closed P) {a0} (h0' : P a0) : P (State.channelSync a0) := by
  unfold State.channelSync
  extract_lets +onlyGivenNames v1
  have h1 : P v1 := by
    unfold v1
    refine State.txmSync_keeps hP ?_
    exact h0'
  clear_value v1
  extract_lets +onlyGivenNames v2
  have h2 : P v2 := by
    unfold v2
    refine keeps_foldl (fun u3 x3 h3 => ?_) ?_
    · refine State.canSync_keeps hP ?_
      exact h3
    · exact h1
  clear_value v2
  refine keeps_foldl (fun u4 x4 h4 => ?_) ?_
  · refine State.linSync_keeps hP ?_
    exact h4
  · exact h2

theorem State.t1sAsleep_keeps (hP : Closed P) {a0} (h0' : P a0) : P (State.t1sAsleep a0) := by
  unfold State.t1sAsleep
  refine keeps_ite ?_ ?_
  · exact h0'
  · refine keeps_foldl (fun u1 x1 h1 => ?_) ?_
    · split
      · refine keeps_ite ?_ ?_
        · refine State.t1sRequest_keeps hP ?_
          exact h1
        · exact h1
      · exact h1
    · exact h0'

theorem State.portApply_keeps (hP : Closed P) {a0 a1} (h0' : P a0) : P (State.portApply a0 a1) := by
  unfold State.portApply
  extract_lets +onlyGivenNames v1
  have h1 : P v1 := by
    unfold v1
    refine State.laceApply_keeps hP ?_
    exact h0'
  clear_value v1
  refine keeps_ite ?_ ?_
  · refine State.raise_keeps hP ?_
    exact h1
  · exact h1

theorem State.cryptoApply_keeps (hP : Closed P) {a0} (h0' : P a0) : P (State.cryptoApply a0) := by
  unfold State.cryptoApply
  refine keeps_ite ?_ ?_
  · refine State.raise_keeps hP ?_
    exact h0'
  · exact h0'

theorem State.domainServes_keeps (hP : Closed P) {a0 a1} (h0' : P a0) : P (State.domainServes a0 a1) := by
  unfold State.domainServes
  extract_lets +onlyGivenNames v1
  clear_value v1
  extract_lets +onlyGivenNames v2
  have h2 : P v2 := by
    unfold v2
    split
    · refine State.budget_keeps hP ?_
      refine keeps_foldl (fun u3 x3 h3 => ?_) ?_
      · refine keeps_ite ?_ ?_
        · refine State.clrSet_keeps hP ?_
          exact h3
        · refine keeps_ite ?_ ?_
          · exact h3
          · refine State.put_keeps hP ?_
            exact h3
      · refine State.metersStart_keeps hP ?_
        exact h0'
    · refine State.channelSync_keeps hP ?_
      exact h0'
    · refine State.channelSync_keeps hP ?_
      exact h0'
    · refine keeps_ite ?_ ?_
      · extract_lets +onlyGivenNames v4
        clear_value v4
        refine keeps_ite ?_ ?_
        · refine State.fabSet_keeps hP ?_
          exact h0'
        · refine keeps_ite ?_ ?_
          · exact h0'
          · refine State.sliceServe_keeps hP ?_
            exact h0'
      · refine keeps_ite ?_ ?_
        · refine keeps_foldl (fun u5 x5 h5 => ?_) ?_
          · refine keeps_ite ?_ ?_
            · refine State.portApply_keeps hP ?_
              exact h5
            · exact h5
          · exact h0'
        · refine keeps_ite ?_ ?_
          · refine State.cryptoApply_keeps hP ?_
            exact h0'
          · exact h0'
  clear_value v2
  refine State.checkStartup_keeps hP ?_
  refine State.portSyncAll_keeps hP ?_
  refine keeps_ite ?_ ?_
  · refine State.t1sAsleep_keeps hP ?_
    exact h2
  · exact h2

theorem State.domainRise_keeps (hP : Closed P) {a0 a1} (h0' : P a0) : P (State.domainRise a0 a1) := by
  unfold State.domainRise
  refine State.pwrSet_keeps hP ?_
  exact h0'

theorem State.domSync_keeps (hP : Closed P) {a0} (h0' : P a0) : P (State.domSync a0) := by
  unfold State.domSync
  refine keeps_ite ?_ ?_
  · exact h0'
  · extract_lets +onlyGivenNames v1
    clear_value v1
    extract_lets +onlyGivenNames v2
    clear_value v2
    extract_lets +onlyGivenNames v3
    clear_value v3
    extract_lets +onlyGivenNames v4
    have h4 : P v4 := by
      unfold v4
      refine keeps_ite ?_ ?_
      · refine State.modeSet_keeps hP ?_
        exact h0'
      · refine keeps_ite ?_ ?_
        · refine State.modeSet_keeps hP ?_
          exact h0'
        · exact h0'
    clear_value v4
    extract_lets +onlyGivenNames v5
    clear_value v5
    extract_lets +onlyGivenNames v6
    clear_value v6
    extract_lets +onlyGivenNames v7
    have h7 : P v7 := by
      unfold v7
      refine State.pwrSet_keeps hP ?_
      exact h4
    clear_value v7
    extract_lets +onlyGivenNames v8
    have h8 : P v8 := by
      unfold v8
      refine keeps_foldl (fun u9 x9 h9 => ?_) ?_
      · refine keeps_ite ?_ ?_
        · exact h9
        · refine keeps_ite ?_ ?_
          · refine keeps_ite ?_ ?_
            · exact h9
            · refine State.pwrSet_keeps hP ?_
              exact h9
          · refine State.domainDown_keeps hP ?_
            exact h9
      · exact h7
    clear_value v8
    refine keeps_foldl (fun u10 x10 h10 => ?_) ?_
    · refine keeps_ite ?_ ?_
      · refine State.domainRise_keeps hP ?_
        exact h10
      · exact h10
    · exact h8

theorem State.domainErr_keeps (hP : Closed P) {a0 a1 a2 a3} (h0' : P a0) : P (State.domainErr a0 a1 a2 a3) := by
  unfold State.domainErr
  extract_lets +onlyGivenNames v1
  have h1 : P v1 := by
    unfold v1
    refine State.put_keeps hP ?_
    refine State.put_keeps hP ?_
    exact h0'
  clear_value v1
  refine State.raise_keeps hP ?_
  refine State.put_keeps hP ?_
  exact h1

theorem domainPowerGood_keeps (hP : Closed P) {a0 a1} (h1' : P a1) : P (domainPowerGood a0 a1) := by
  unfold domainPowerGood
  refine keeps_ite ?_ ?_
  · exact h1'
  · extract_lets +onlyGivenNames v1
    have h1 : P v1 := by
      unfold v1
      refine State.pwrSet_keeps hP ?_
      exact h1'
    clear_value v1
    extract_lets +onlyGivenNames v2
    have h2 : P v2 := by
      unfold v2
      refine State.put_keeps hP ?_
      exact h1
    clear_value v2
    extract_lets +onlyGivenNames v3
    have h3 : P v3 := by
      unfold v3
      refine keeps_ite ?_ ?_
      · refine State.policyCheck_keeps hP ?_
        exact h2
      · exact h2
    clear_value v3
    refine State.domSync_keeps hP ?_
    refine State.portSyncAll_keeps hP ?_
    exact h3

theorem domainPowerTimeout_keeps (hP : Closed P) {a0 a1} (h1' : P a1) : P (domainPowerTimeout a0 a1) := by
  unfold domainPowerTimeout
  refine keeps_ite ?_ ?_
  · exact h1'
  · extract_lets +onlyGivenNames v1
    have h1 : P v1 := by
      unfold v1
      refine State.pwrSet_keeps hP ?_
      exact h1'
    clear_value v1
    refine State.fault_keeps hP ?_
    refine State.domainErr_keeps hP ?_
    exact h1

theorem pd8Drained_keeps (hP : Closed P) {a0} (h0' : P a0) : P (pd8Drained a0) := by
  unfold pd8Drained
  refine keeps_ite ?_ ?_
  · exact h0'
  · refine State.domSync_keeps hP ?_
    refine State.domainDown_keeps hP ?_
    exact h0'

theorem pd8DrainTimeout_keeps (hP : Closed P) {a0} (h0' : P a0) : P (pd8DrainTimeout a0) := by
  unfold pd8DrainTimeout
  refine keeps_ite ?_ ?_
  · exact h0'
  · extract_lets +onlyGivenNames v1
    have h1 : P v1 := by
      unfold v1
      refine State.pwrSet_keeps hP ?_
      exact h0'
    clear_value v1
    refine State.domainErr_keeps hP ?_
    exact h1

theorem State.flashWild_keeps (hP : Closed P) {a0 a1 a2} (h0' : P a0) : P (State.flashWild a0 a1 a2) := by
  unfold State.flashWild
  refine keeps_mk hP ?_
  exact h0'

theorem State.flashProgram_keeps (hP : Closed P) {a0 a1 a2} (h0' : P a0) : P (State.flashProgram a0 a1 a2) := by
  unfold State.flashProgram
  refine keeps_ite ?_ ?_
  · refine State.updSet_keeps hP ?_
    exact h0'
  · refine State.flashWild_keeps hP ?_
    exact h0'

theorem State.recWrite_keeps (hP : Closed P) {a0 a1 a2} (h0' : P a0) : P (State.recWrite a0 a1 a2) := by
  unfold State.recWrite
  extract_lets +onlyGivenNames v1
  clear_value v1
  refine State.updSet_keeps hP ?_
  exact h0'

theorem State.flashAbort_keeps (hP : Closed P) {a0} (h0' : P a0) : P (State.flashAbort a0) := by
  unfold State.flashAbort
  extract_lets +onlyGivenNames v1
  have h1 : P v1 := by
    unfold v1
    split
    · refine State.flashWild_keeps hP ?_
      exact h0'
    · exact h0'
  clear_value v1
  extract_lets +onlyGivenNames v2
  have h2 : P v2 := by
    unfold v2
    split
    · refine State.flashWild_keeps hP ?_
      exact h1
    · refine State.flashWild_keeps hP ?_
      exact h1
    · refine State.flashWild_keeps hP ?_
      exact h1
    · exact h1
  clear_value v2
  refine State.updSet_keeps hP ?_
  exact h2

theorem State.showFuses_keeps (hP : Closed P) {a0} (h0' : P a0) : P (State.showFuses a0) := by
  unfold State.showFuses
  extract_lets +onlyGivenNames v1
  clear_value v1
  extract_lets +onlyGivenNames v2
  have h2 : P v2 := by
    unfold v2
    refine State.put_keeps hP ?_
    exact h0'
  clear_value v2
  extract_lets +onlyGivenNames v3
  have h3 : P v3 := by
    unfold v3
    refine State.put_keeps hP ?_
    exact h2
  clear_value v3
  extract_lets +onlyGivenNames v4
  clear_value v4
  extract_lets +onlyGivenNames v5
  have h5 : P v5 := by
    unfold v5
    refine keeps_foldl (fun u6 x6 h6 => ?_) ?_
    · refine State.put_keeps hP ?_
      exact h6
    · exact h3
  clear_value v5
  extract_lets +onlyGivenNames v7
  have h7 : P v7 := by
    unfold v7
    refine State.put_keeps hP ?_
    exact h5
  clear_value v7
  extract_lets +onlyGivenNames v8
  have h8 : P v8 := by
    unfold v8
    refine State.put_keeps hP ?_
    exact h7
  clear_value v8
  refine State.put_keeps hP ?_
  exact h8

theorem State.dropT_keeps (hP : Closed P) {a0} (h0' : P a0) : P (State.dropT a0) := hP.dropT h0' rfl rfl (fun h => h)

theorem State.lstReset_keeps (hP : Closed P) {a0} (h0' : P a0) : P (State.lstReset a0) := by
  unfold State.lstReset
  refine State.lstSet_keeps hP ?_
  exact h0'

theorem State.dropV_keeps (hP : Closed P) {a0 a1} (h0' : P a0) : P (State.dropV a0 a1) := by
  unfold State.dropV
  extract_lets +onlyGivenNames v1
  have h1 : P v1 := by
    unfold v1
    refine State.flashAbort_keeps hP ?_
    exact h0'
  clear_value v1
  extract_lets +onlyGivenNames v2
  have h2 : P v2 := by
    unfold v2
    refine keeps_foldl (fun u3 x3 h3 => ?_) ?_
    · refine keeps_ite ?_ ?_
      · refine State.lstReset_keeps hP ?_
        exact h3
      · refine State.clearDomain_keeps hP ?_
        exact h3
    · exact h1
  clear_value v2
  extract_lets +onlyGivenNames v4
  extract_lets +onlyGivenNames v5
  have h5 : P v5 := by
    unfold v5
    refine hP.dropV (s := v2) ?_ rfl rfl (fun h => ⟨by first | exact h.lst | exact AMap.wf_nil, h.flash, by first | exact h.req | exact AMap.wf_nil, by first | exact h.rsp | exact AMap.wf_nil, h.host⟩)
    exact h2
  clear_value v5
  extract_lets +onlyGivenNames v6
  clear_value v6
  extract_lets +onlyGivenNames v7
  have h7 : P v7 := by
    unfold v7
    refine State.pwrSet_keeps hP ?_
    exact h5
  clear_value v7
  extract_lets +onlyGivenNames v8
  clear_value v8
  extract_lets +onlyGivenNames v9
  have h9 : P v9 := by
    unfold v9
    refine State.fltSet_keeps hP ?_
    exact h7
  clear_value v9
  extract_lets +onlyGivenNames v10
  clear_value v10
  extract_lets +onlyGivenNames v11
  have h11 : P v11 := by
    unfold v11
    refine State.fabSet_keeps hP ?_
    exact h9
  clear_value v11
  extract_lets +onlyGivenNames v12
  have h12 : P v12 := by
    unfold v12
    refine State.wakSet_keeps hP ?_
    exact h11
  clear_value v12
  extract_lets +onlyGivenNames v13
  clear_value v13
  refine State.updSet_keeps hP ?_
  exact h12

theorem State.wakeCause_keeps (hP : Closed P) {a0 a1 a2 a3} (h0' : P a0) : P (State.wakeCause a0 a1 a2 a3) := by
  unfold State.wakeCause
  refine State.put_keeps hP ?_
  refine State.put_keeps hP ?_
  refine State.put_keeps hP ?_
  exact h0'

theorem State.abortDescent_keeps (hP : Closed P) {a0 a1 a2} (h0' : P a0) : P (State.abortDescent a0 a1 a2) := by
  unfold State.abortDescent
  refine keeps_ite ?_ ?_
  · exact h0'
  · extract_lets +onlyGivenNames v1
    have h1 : P v1 := by
      unfold v1
      refine State.inc_keeps hP ?_
      refine State.wakeCause_keeps hP ?_
      exact h0'
    clear_value v1
    extract_lets +onlyGivenNames v2
    have h2 : P v2 := by
      unfold v2
      refine State.put_keeps hP ?_
      refine State.raise_keeps hP ?_
      exact h1
    clear_value v2
    refine State.domSync_keeps hP ?_
    refine State.modeSet_keeps hP ?_
    exact h2

theorem State.pinRequests_keeps (hP : Closed P) {a0} (h0' : P a0) : P (State.pinRequests a0) := by
  unfold State.pinRequests
  extract_lets +onlyGivenNames v1
  clear_value v1
  refine State.put_keeps hP ?_
  exact h0'

theorem State.requestsChanged_keeps (hP : Closed P) {a0} (h0' : P a0) : P (State.requestsChanged a0) := by
  unfold State.requestsChanged
  refine State.domSync_keeps hP ?_
  refine State.clUpdateAll_keeps hP ?_
  exact h0'

theorem State.deviceWakes_keeps (hP : Closed P) {a0 a1 a2} (h0' : P a0) : P (State.deviceWakes a0 a1 a2) := by
  unfold State.deviceWakes
  extract_lets +onlyGivenNames v1
  clear_value v1
  extract_lets +onlyGivenNames v2
  have h2 : P v2 := by
    unfold v2
    refine State.inc_keeps hP ?_
    refine State.wakeCause_keeps hP ?_
    exact h0'
  clear_value v2
  extract_lets +onlyGivenNames v3
  have h3 : P v3 := by
    unfold v3
    refine State.wakSet_keeps hP ?_
    refine State.raise_keeps hP ?_
    exact h2
  clear_value v3
  refine keeps_ite ?_ ?_
  · extract_lets +onlyGivenNames v4
    have h4 : P v4 := by
      unfold v4
      refine State.xtalAmp_keeps hP ?_
      refine State.put_keeps hP ?_
      refine State.modeSet_keeps hP ?_
      exact h3
    clear_value v4
    extract_lets +onlyGivenNames v5
    have h5 : P v5 := by
      unfold v5
      refine State.tcaSet_keeps hP ?_
      exact h4
    clear_value v5
    refine State.wakSet_keeps hP ?_
    exact h5
  · refine State.requestsChanged_keeps hP ?_
    refine State.pinRequests_keeps hP ?_
    refine State.modeSet_keeps hP ?_
    exact h3

theorem State.clusterSync_keeps (hP : Closed P) {a0} (h0' : P a0) : P (State.clusterSync a0) := by
  unfold State.clusterSync
  extract_lets +onlyGivenNames v1
  have h1 : P v1 := by
    unfold v1
    split
    · refine State.abortDescent_keeps hP ?_
      exact h0'
    · exact h0'
  clear_value v1
  refine State.domSync_keeps hP ?_
  exact h1

theorem State.clWake_keeps (hP : Closed P) {a0 a1} (h0' : P a0) : P (State.clWake a0 a1) := by
  unfold State.clWake
  refine keeps_ite ?_ ?_
  · refine State.clEnter_keeps hP ?_
    exact h0'
  · exact h0'

theorem State.wakeReqHost_keeps (hP : Closed P) {a0 a1 a2} (h0' : P a0) : P (State.wakeReqHost a0 a1 a2) := by
  unfold State.wakeReqHost
  extract_lets +onlyGivenNames v1
  clear_value v1
  extract_lets +onlyGivenNames v2
  clear_value v2
  refine keeps_ite ?_ ?_
  · refine State.err_keeps hP ?_
    exact h0'
  · extract_lets +onlyGivenNames v3
    have h3 : P v3 := by
      unfold v3
      refine State.put_keeps hP ?_
      exact h0'
    clear_value v3
    extract_lets +onlyGivenNames v4
    have h4 : P v4 := by
      unfold v4
      split
      · refine State.abortDescent_keeps hP ?_
        exact h3
      · exact h3
    clear_value v4
    refine State.requestsChanged_keeps hP ?_
    exact h4

theorem wakeRequestHost_keeps (hP : Closed P) {a0 a1 a2} (h2' : P a2) : P (wakeRequestHost a0 a1 a2) := by
  unfold wakeRequestHost
  refine State.direct_keeps hP ?_ ?_
  · exact h2'
  · intro u1_0 u1_1
    refine State.wakeReqHost_keeps hP ?_
    exact u1_1

theorem State.wakeReqSb_keeps (hP : Closed P) {a0 a1 a2} (h0' : P a0) : P (State.wakeReqSb a0 a1 a2) := by
  unfold State.wakeReqSb
  refine keeps_ite ?_ ?_
  · exact h0'
  · extract_lets +onlyGivenNames v1
    clear_value v1
    extract_lets +onlyGivenNames v2
    have h2 : P v2 := by
      unfold v2
      refine State.put_keeps hP ?_
      exact h0'
    clear_value v2
    extract_lets +onlyGivenNames v3
    clear_value v3
    extract_lets +onlyGivenNames v4
    have h4 : P v4 := by
      unfold v4
      split
      · refine keeps_ite ?_ ?_
        · refine State.deviceWakes_keeps hP ?_
          refine State.wakSet_keeps hP ?_
          exact h2
        · refine keeps_ite ?_ ?_
          · refine State.deviceWakes_keeps hP ?_
            exact h2
          · refine State.abortDescent_keeps hP ?_
            exact h2
      · exact h2
    clear_value v4
    refine keeps_ite ?_ ?_
    · refine State.requestsChanged_keeps hP ?_
      exact h4
    · exact h4

theorem wakeRequestSb_keeps (hP : Closed P) {a0 a1 a2} (h2' : P a2) : P (wakeRequestSb a0 a1 a2) := by
  unfold wakeRequestSb
  refine State.direct_keeps hP ?_ ?_
  · exact h2'
  · intro u1_0 u1_1
    refine State.wakeReqSb_keeps hP ?_
    exact u1_1

theorem wakePinChange_keeps (hP : Closed P) {a0 a1 a2} (h2' : P a2) : P (wakePinChange a0 a1 a2) := by
  unfold wakePinChange
  extract_lets +onlyGivenNames v1
  have h1 : P v1 := by
    unfold v1
    refine State.wakSet_keeps hP ?_
    exact h2'
  clear_value v1
  refine keeps_ite ?_ ?_
  · refine State.pinRequests_keeps hP ?_
    exact h1
  · extract_lets +onlyGivenNames v2
    have h2 : P v2 := by
      unfold v2
      refine keeps_ite ?_ ?_
      · refine State.abortDescent_keeps hP ?_
        exact h1
      · exact h1
    clear_value v2
    refine State.requestsChanged_keeps hP ?_
    refine State.pinRequests_keeps hP ?_
    exact h2

theorem routeHoldExpiry_keeps (hP : Closed P) {a0 a1} (h1' : P a1) : P (routeHoldExpiry a0 a1) := by
  unfold routeHoldExpiry
  refine State.requestsChanged_keeps hP ?_
  refine State.put_keeps hP ?_
  exact h1'

theorem keepaliveRx_keeps (hP : Closed P) {a0 a1} (h1' : P a1) : P (keepaliveRx a0 a1) := by
  unfold keepaliveRx
  refine State.kaSeen_keeps hP ?_
  exact h1'

theorem keepalivePeriod_keeps (hP : Closed P) {a0 a1} (h1' : P a1) : P (keepalivePeriod a0 a1) := by
  unfold keepalivePeriod
  refine keeps_ite ?_ ?_
  · refine State.sendKa_keeps hP ?_
    exact h1'
  · exact h1'

theorem readyTimerExpiry_keeps (hP : Closed P) {a0 a1} (h1' : P a1) : P (readyTimerExpiry a0 a1) := by
  unfold readyTimerExpiry
  refine keeps_ite ?_ ?_
  · refine State.clEnter_keeps hP ?_
    exact h1'
  · exact h1'

theorem prepareTimerExpiry_keeps (hP : Closed P) {a0 a1} (h1' : P a1) : P (prepareTimerExpiry a0 a1) := by
  unfold prepareTimerExpiry
  refine keeps_ite ?_ ?_
  · refine State.domSync_keeps hP ?_
    refine State.clEnter_keeps hP ?_
    exact h1'
  · exact h1'

theorem wakeTimeout_keeps (hP : Closed P) {a0 a1} (h1' : P a1) : P (wakeTimeout a0 a1) := by
  unfold wakeTimeout
  refine keeps_ite ?_ ?_
  · extract_lets +onlyGivenNames v1
    have h1 : P v1 := by
      unfold v1
      refine State.wakSet_keeps hP ?_
      exact h1'
    clear_value v1
    refine State.domSync_keeps hP ?_
    refine State.raise_keeps hP ?_
    refine State.clEnter_keeps hP ?_
    exact h1
  · exact h1'

theorem linGotosleepRx_keeps (hP : Closed P) {a0 a1} (h1' : P a1) : P (linGotosleepRx a0 a1) := by
  unfold linGotosleepRx
  split
  · refine keeps_ite ?_ ?_
    · exact h1'
    · refine State.clUpdate_keeps hP ?_
      refine State.clEnter_keeps hP ?_
      exact h1'
  · exact h1'

theorem State.latchWakes_keeps (hP : Closed P) {a0 a1 a2} (h0' : P a0) : P (State.latchWakes a0 a1 a2) := by
  unfold State.latchWakes
  extract_lets +onlyGivenNames v1
  clear_value v1
  refine keeps_foldl (fun u2 x2 h2 => ?_) ?_
  · refine keeps_ite ?_ ?_
    · refine State.clWake_keeps hP ?_
      exact h2
    · exact h2
  · exact h0'

theorem descentStart_keeps (hP : Closed P) {a0} (h0' : P a0) : P (descentStart a0) := by
  unfold descentStart
  refine keeps_ite ?_ ?_
  · exact h0'
  · extract_lets +onlyGivenNames v1
    clear_value v1
    extract_lets +onlyGivenNames v2
    clear_value v2
    extract_lets +onlyGivenNames v3
    have h3 : P v3 := by
      unfold v3
      refine State.wakSet_keeps hP ?_
      refine State.put_keeps hP ?_
      exact h0'
    clear_value v3
    extract_lets +onlyGivenNames v4
    have h4 : P v4 := by
      unfold v4
      refine State.pwrSet_keeps hP ?_
      exact h3
    clear_value v4
    split
    · refine State.requestsChanged_keeps hP ?_
      refine State.pinRequests_keeps hP ?_
      refine State.latchWakes_keeps hP ?_
      refine State.abortDescent_keeps hP ?_
      exact h4
    · exact h4

theorem descentCommit_keeps (hP : Closed P) {a0} (h0' : P a0) : P (descentCommit a0) := by
  unfold descentCommit
  refine keeps_ite ?_ ?_
  · exact h0'
  · extract_lets +onlyGivenNames v1
    have h1 : P v1 := by
      unfold v1
      refine State.put_keeps hP ?_
      exact h0'
    clear_value v1
    extract_lets +onlyGivenNames v2
    have h2 : P v2 := by
      unfold v2
      refine keeps_ite ?_ ?_
      · refine keeps_foldl (fun u3 x3 h3 => ?_) ?_
        · refine keeps_ite ?_ ?_
          · exact h3
          · refine State.t1sRequest_keeps hP ?_
            exact h3
        · exact h1
      · exact h1
    clear_value v2
    refine keeps_ite ?_ ?_
    · refine keeps_foldl (fun u4 x4 h4 => ?_) ?_
      · refine keeps_ite ?_ ?_
        · refine State.txmRequest_keeps hP ?_
          exact h4
        · exact h4
      · exact h2
    · exact h2

theorem descentStandby_keeps (hP : Closed P) {a0} (h0' : P a0) : P (descentStandby a0) := by
  unfold descentStandby
  refine keeps_ite ?_ ?_
  · exact h0'
  · extract_lets +onlyGivenNames v1
    clear_value v1
    extract_lets +onlyGivenNames v2
    have h2 : P v2 := by
      unfold v2
      refine State.pwrSet_keeps hP ?_
      exact h0'
    clear_value v2
    extract_lets +onlyGivenNames v3
    have h3 : P v3 := by
      unfold v3
      refine State.domainsDown_keeps hP ?_
      exact h2
    clear_value v3
    refine keeps_ite ?_ ?_
    · extract_lets +onlyGivenNames v4
      have h4 : P v4 := by
        unfold v4
        refine State.pwrSet_keeps hP ?_
        exact h3
      clear_value v4
      extract_lets +onlyGivenNames v5
      have h5 : P v5 := by
        unfold v5
        refine State.put_keeps hP ?_
        refine State.modeSet_keeps hP ?_
        exact h4
      clear_value v5
      refine State.wakSet_keeps hP ?_
      exact h5
    · exact h3

theorem descentSleep_keeps (hP : Closed P) {a0} (h0' : P a0) : P (descentSleep a0) := by
  unfold descentSleep
  refine keeps_ite ?_ ?_
  · exact h0'
  · extract_lets +onlyGivenNames v1
    clear_value v1
    extract_lets +onlyGivenNames v2
    clear_value v2
    extract_lets +onlyGivenNames v3
    have h3 : P v3 := by
      unfold v3
      refine keeps_mk hP ?_
      exact h0'
    clear_value v3
    extract_lets +onlyGivenNames v4
    have h4 : P v4 := by
      unfold v4
      refine State.put_keeps hP ?_
      refine State.dropT_keeps hP ?_
      refine State.dropV_keeps hP ?_
      exact h3
    clear_value v4
    refine State.wakSet_keeps hP ?_
    exact h4

theorem wakeLatch_keeps (hP : Closed P) {a0 a1 a2} (h2' : P a2) : P (wakeLatch a0 a1 a2) := by
  unfold wakeLatch
  refine keeps_ite ?_ ?_
  · exact h2'
  · extract_lets +onlyGivenNames v1
    have h1 : P v1 := by
      unfold v1
      refine State.wakSet_keeps hP ?_
      exact h2'
    clear_value v1
    extract_lets +onlyGivenNames v2
    have h2 : P v2 := by
      unfold v2
      refine keeps_ite ?_ ?_
      · refine State.wakSet_keeps hP ?_
        exact h1
      · exact h1
    clear_value v2
    refine keeps_ite ?_ ?_
    · refine State.deviceWakes_keeps hP ?_
      exact h2
    · extract_lets +onlyGivenNames v3
      have h3 : P v3 := by
        unfold v3
        refine keeps_ite ?_ ?_
        · refine State.deviceWakes_keeps hP ?_
          exact h2
        · refine State.abortDescent_keeps hP ?_
          exact h2
      clear_value v3
      extract_lets +onlyGivenNames v4
      have h4 : P v4 := by
        unfold v4
        refine State.requestsChanged_keeps hP ?_
        refine State.pinRequests_keeps hP ?_
        refine State.latchWakes_keeps hP ?_
        exact h3
      clear_value v4
      refine keeps_ite ?_ ?_
      · exact h4
      · refine State.wakSet_keeps hP ?_
        exact h4

theorem wakTimerExpiry_keeps (hP : Closed P) {a0} (h0' : P a0) : P (wakTimerExpiry a0) := by
  unfold wakTimerExpiry
  refine keeps_ite ?_ ?_
  · exact h0'
  · extract_lets +onlyGivenNames v1
    have h1 : P v1 := by
      unfold v1
      refine State.wakSet_keeps hP ?_
      refine State.put_keeps hP ?_
      exact h0'
    clear_value v1
    refine keeps_ite ?_ ?_
    · refine State.deviceWakes_keeps hP ?_
      exact h1
    · exact h1

theorem State.domainAsk_keeps (hP : Closed P) {a0 a1 a2 a3} (h0' : P a0) : P (State.domainAsk a0 a1 a2 a3) := by
  unfold State.domainAsk
  extract_lets +onlyGivenNames v1
  clear_value v1
  refine keeps_ite ?_ ?_
  · exact h0'
  · refine keeps_ite ?_ ?_
    · refine State.err_keeps hP ?_
      refine State.domainErr_keeps hP ?_
      exact h0'
    · extract_lets +onlyGivenNames v2
      have h2 : P v2 := by
        unfold v2
        refine State.put_keeps hP ?_
        exact h0'
      clear_value v2
      extract_lets +onlyGivenNames v3
      have h3 : P v3 := by
        unfold v3
        refine keeps_ite ?_ ?_
        · exact h2
        · refine keeps_ite ?_ ?_
          · refine State.deviceWakes_keeps hP ?_
            exact h2
          · refine State.abortDescent_keeps hP ?_
            exact h2
      clear_value v3
      refine State.domSync_keeps hP ?_
      exact h3

theorem State.domReqWrite_keeps (hP : Closed P) {a0 a1 a2} (h0' : P a0) : P (State.domReqWrite a0 a1 a2) := by
  unfold State.domReqWrite
  refine keeps_foldl (fun u1 x1 h1 => ?_) ?_
  · refine State.domainAsk_keeps hP ?_
    exact h1
  · exact h0'

theorem domainRequest_keeps (hP : Closed P) {a0 a1 a2 a3 a4} (h4' : P a4) : P (domainRequest a0 a1 a2 a3 a4) := by
  unfold domainRequest
  refine keeps_ite ?_ ?_
  · refine State.command_keeps hP ?_ ?_
    · exact h4'
    · intro u1_0 u1_1
      refine State.gate0_keeps hP ?_ ?_
      · exact u1_1
      · intro u2_0 u2_1
        refine State.domainAsk_keeps hP ?_
        exact u2_1
  · refine State.direct_keeps hP ?_ ?_
    · exact h4'
    · intro u3_0 u3_1
      refine State.domainAsk_keeps hP ?_
      exact u3_1

theorem supplyWarning_keeps (hP : Closed P) {a0 a1} (h1' : P a1) : P (supplyWarning a0 a1) := by
  unfold supplyWarning
  refine keeps_ite ?_ ?_
  · exact h1'
  · extract_lets +onlyGivenNames v1
    clear_value v1
    extract_lets +onlyGivenNames v2
    have h2 : P v2 := by
      unfold v2
      refine State.pwrSet_keeps hP ?_
      exact h1'
    clear_value v2
    extract_lets +onlyGivenNames v3
    have h3 : P v3 := by
      unfold v3
      refine State.devCause_keeps hP ?_
      refine State.raise_keeps hP ?_
      exact h2
    clear_value v3
    extract_lets +onlyGivenNames v4
    have h4 : P v4 := by
      unfold v4
      refine State.fabSet_keeps hP ?_
      exact h3
    clear_value v4
    extract_lets +onlyGivenNames v5
    have h5 : P v5 := by
      unfold v5
      refine State.updSet_keeps hP ?_
      exact h4
    clear_value v5
    refine State.fault_keeps hP ?_
    exact h5

theorem supplyRecover_keeps (hP : Closed P) {a0 a1 a2} (h2' : P a2) : P (supplyRecover a0 a1 a2) := by
  unfold supplyRecover
  refine keeps_ite ?_ ?_
  · exact h2'
  · extract_lets +onlyGivenNames v1
    clear_value v1
    extract_lets +onlyGivenNames v2
    clear_value v2
    extract_lets +onlyGivenNames v3
    have h3 : P v3 := by
      unfold v3
      refine State.pwrSet_keeps hP ?_
      exact h2'
    clear_value v3
    extract_lets +onlyGivenNames v4
    have h4 : P v4 := by
      unfold v4
      refine State.fabSet_keeps hP ?_
      exact h3
    clear_value v4
    extract_lets +onlyGivenNames v5
    have h5 : P v5 := by
      unfold v5
      refine State.put_keeps hP ?_
      refine State.put_keeps hP ?_
      exact h4
    clear_value v5
    refine State.inc_keeps hP ?_
    refine State.put_keeps hP ?_
    exact h5

theorem converterUpdate_keeps (hP : Closed P) {a0 a1} (h1' : P a1) : P (converterUpdate a0 a1) := by
  unfold converterUpdate
  refine keeps_ite ?_ ?_
  · exact h1'
  · refine keeps_foldl (fun u1 x1 h1 => ?_) ?_
    · refine State.put_keeps hP ?_
      exact h1
    · exact h1'

theorem State.txmWrite_keeps (hP : Closed P) {a0 a1 a2 a3} (h0' : P a0) : P (State.txmWrite a0 a1 a2 a3) := by
  unfold State.txmWrite
  refine keeps_ite ?_ ?_
  · refine State.txmRequest_keeps hP ?_
    exact h0'
  · exact h0'

theorem txmCmd_keeps (hP : Closed P) {a0 a1 a2 a3} (h3' : P a3) : P (txmCmd a0 a1 a2 a3) := by
  unfold txmCmd
  refine State.direct_keeps hP ?_ ?_
  · exact h3'
  · intro u1_0 u1_1
    refine State.txmWrite_keeps hP ?_
    exact u1_1

theorem txmSequenceDone_keeps (hP : Closed P) {a0 a1 a2} (h2' : P a2) : P (txmSequenceDone a0 a1 a2) := by
  unfold txmSequenceDone
  extract_lets +onlyGivenNames v1
  clear_value v1
  split
  · exact h2'
  · split
    · exact h2'
    · extract_lets +onlyGivenNames v2
      clear_value v2
      split
      · refine State.txmSet_keeps hP ?_
        exact h2'
      · extract_lets +onlyGivenNames v3
        have h3 : P v3 := by
          unfold v3
          refine State.txmSet_keeps hP ?_
          exact h2'
        clear_value v3
        extract_lets +onlyGivenNames v4
        have h4 : P v4 := by
          unfold v4
          refine keeps_ite ?_ ?_
          · refine State.raise_keeps hP ?_
            exact h3
          · exact h3
        clear_value v4
        refine State.canHold_keeps hP ?_
        refine State.txmNext_keeps hP ?_
        exact h4
    · extract_lets +onlyGivenNames v5
      clear_value v5
      extract_lets +onlyGivenNames v6
      have h6 : P v6 := by
        unfold v6
        refine State.inc_keeps hP ?_
        exact h2'
      clear_value v6
      refine keeps_ite ?_ ?_
      · refine State.txmSet_keeps hP ?_
        exact h6
      · extract_lets +onlyGivenNames v7
        have h7 : P v7 := by
          unfold v7
          refine State.txmSet_keeps hP ?_
          exact h6
        clear_value v7
        extract_lets +onlyGivenNames v8
        have h8 : P v8 := by
          unfold v8
          refine keeps_ite ?_ ?_
          · refine State.raise_keeps hP ?_
            exact h7
          · exact h7
        clear_value v8
        refine State.fault_keeps hP ?_
        refine State.raise_keeps hP ?_
        refine State.txmNext_keeps hP ?_
        exact h8

end Sys2Proof.Machine
end

