-- ==== Sys2Proof/Laws/KeepsE.lean ====
section
/-! SUPPORT. One lemma per function: it keeps a `Closed` predicate.  Functions of Machine: Awl, AwlCmds, Apply, LastCmds. -/
namespace Sys2Proof.Machine

set_option Elab.async false
variable {P : State → Prop}

theorem State.routeDrop_keeps (hP : Closed P) {a0 a1} (h0' : P a0) : P (State.routeDrop a0 a1) := by
  unfold State.routeDrop
  refine State.awlSet_keeps hP ?_
  exact h0'

theorem State.hostBundle_keeps (hP : Closed P) {a0 a1} (h0' : P a0) : P (State.hostBundle a0 a1).2 := by
  unfold State.hostBundle
  extract_lets +onlyGivenNames v1
  have h1 : P v1.2 := by
    unfold v1
    refine State.draw_keeps hP ?_
    exact h0'
  clear_value v1
  extract_lets +onlyGivenNames v2
  have h2 : P v2.2 := by
    unfold v2
    refine State.draw_keeps hP ?_
    assumption
  clear_value v2
  extract_lets +onlyGivenNames v3
  clear_value v3
  dsimp only
  assumption

theorem State.apRefused_keeps (hP : Closed P) {a0 a1} (h0' : P a0) : P (State.apRefused a0 a1) := by
  unfold State.apRefused
  refine keeps_ite ?_ ?_
  · refine State.rxFlush_keeps hP ?_
    exact h0'
  · exact h0'

theorem State.awlPunt_keeps (hP : Closed P) {a0 a1 a2 a3 a4 a5} (h0' : P a0) : P (State.awlPunt a0 a1 a2 a3 a4 a5) := by
  have h1 : P (a0.puntAdmit 7).2 := State.puntAdmit_keeps hP h0'
  unfold State.awlPunt
  exact keeps_ite (State.apRefused_keeps hP h0') (keeps_ite h1 (State.enqueueFrame_keeps hP (State.handOver_keeps hP h1)))

theorem State.awlException_keeps (hP : Closed P) {a0 a1 a2 a3} (h0' : P a0) : P (State.awlException a0 a1 a2 a3) := by
  unfold State.awlException
  split
  · extract_lets +onlyGivenNames v1
    have h1 : P v1.2 := by
      unfold v1
      refine State.hostBundle_keeps hP ?_
      exact h0'
    clear_value v1
    refine State.awlPunt_keeps hP ?_
    assumption
  · refine State.awlPunt_keeps hP ?_
    exact h0'

theorem State.awlFormat_keeps (hP : Closed P) {a0 a1 a2} (h0' : P a0) : P (State.awlFormat a0 a1 a2) := by
  unfold State.awlFormat
  extract_lets +onlyGivenNames v1
  have h1 : P v1 := by
    unfold v1
    refine State.raise_keeps hP ?_
    refine State.inc_keeps hP ?_
    exact h0'
  clear_value v1
  refine keeps_ite ?_ ?_
  · refine State.awlException_keeps hP ?_
    exact h1
  · exact h1

theorem State.canBuffer_keeps (hP : Closed P) {a0 a1 a2 a3} (h0' : P a0) : P (State.canBuffer a0 a1 a2 a3) := by
  unfold State.canBuffer
  extract_lets +onlyGivenNames v1
  clear_value v1
  refine keeps_ite ?_ ?_
  · refine State.canSet_keeps hP ?_
    exact h0'
  · extract_lets +onlyGivenNames v2
    have h2 : P v2 := by
      unfold v2
      refine State.raise_keeps hP ?_
      exact h0'
    clear_value v2
    extract_lets +onlyGivenNames v3
    have h3 : P v3 := by
      unfold v3
      refine State.routeDrop_keeps hP ?_
      refine State.inc_keeps hP ?_
      exact h2
    clear_value v3
    split
    · refine keeps_ite ?_ ?_
      · refine State.inc_keeps hP ?_
        refine State.canSet_keeps hP ?_
        exact h2
      · exact h3
    · exact h3

theorem State.canSlot_keeps (hP : Closed P) {a0 a1 a2 a3} (h0' : P a0) : P (State.canSlot a0 a1 a2 a3) := by
  unfold State.canSlot
  extract_lets +onlyGivenNames v1
  clear_value v1
  extract_lets +onlyGivenNames v2
  have h2 : P v2 := by
    unfold v2
    refine keeps_ite ?_ ?_
    · refine State.inc_keeps hP ?_
      exact h0'
    · exact h0'
  clear_value v2
  refine State.canSet_keeps hP ?_
  exact h2

theorem State.linPublish_keeps (hP : Closed P) {a0 a1 a2 a3 a4} (h0' : P a0) : P (State.linPublish a0 a1 a2 a3 a4) := by
  unfold State.linPublish
  extract_lets +onlyGivenNames v1
  clear_value v1
  refine keeps_ite ?_ ?_
  · refine State.linSet_keeps hP ?_
    exact h0'
  · exact h0'

theorem State.streamSet_keeps (hP : Closed P) {a0 a1 a2} (h0' : P a0) : P (State.streamSet a0 a1 a2) := by
  unfold State.streamSet
  refine State.awlSet_keeps hP ?_
  exact h0'

theorem State.streamSend_keeps (hP : Closed P) {a0 a1} (h0' : P a0) : P (State.streamSend a0 a1) := by
  unfold State.streamSend
  extract_lets +onlyGivenNames v1
  clear_value v1
  split
  · exact h0'
  · extract_lets +onlyGivenNames v2
    have h2 : P v2.2 := by
      unfold v2
      refine State.draw_keeps hP ?_
      exact h0'
    clear_value v2
    extract_lets +onlyGivenNames v3
    have h3 : P v3 := by
      unfold v3
      assumption
    clear_value v3
    extract_lets +onlyGivenNames v4
    clear_value v4
    split
    · refine State.streamSet_keeps hP ?_
      exact h3
    · extract_lets +onlyGivenNames v5
      clear_value v5
      extract_lets +onlyGivenNames v6
      have h6 : P v6 := by
        unfold v6
        refine State.streamSet_keeps hP ?_
        exact h3
      clear_value v6
      refine keeps_ite ?_ ?_
      · refine State.takeSlots_keeps hP ?_
        refine State.handOver_keeps hP ?_
        exact h6
      · refine State.apRefused_keeps hP ?_
        exact h6

theorem State.streamJoin_keeps (hP : Closed P) {a0 a1 a2} (h0' : P a0) : P (State.streamJoin a0 a1 a2).2 := by
  unfold State.streamJoin
  extract_lets +onlyGivenNames v1
  clear_value v1
  extract_lets +onlyGivenNames v2
  clear_value v2
  extract_lets +onlyGivenNames v3
  clear_value v3
  extract_lets +onlyGivenNames v4
  clear_value v4
  split
  · dsimp only
    exact h0'
  · split
    · dsimp only
      exact h0'
    · extract_lets +onlyGivenNames v5
      clear_value v5
      extract_lets +onlyGivenNames v6
      clear_value v6
      extract_lets +onlyGivenNames v7
      have h7 : P v7 := by
        unfold v7
        refine keeps_ite ?_ ?_
        · refine State.streamSend_keeps hP ?_
          exact h0'
        · exact h0'
      clear_value v7
      extract_lets +onlyGivenNames v8
      clear_value v8
      extract_lets +onlyGivenNames v9
      have h9 : P v9 := by
        unfold v9
        refine State.streamSet_keeps hP ?_
        exact h7
      clear_value v9
      split
      · dsimp only
        refine State.streamSend_keeps hP ?_
        exact h9
      · dsimp only
        exact h9

theorem State.deliver_keeps (hP : Closed P) {a0 a1 a2 a3 a4} (h0' : P a0) : P (State.deliver a0 a1 a2 a3 a4).2 := by
  unfold State.deliver
  extract_lets +onlyGivenNames v1
  clear_value v1
  extract_lets +onlyGivenNames v2
  clear_value v2
  split
  · split
    · dsimp only
      refine State.routeWake_keeps hP ?_
      refine State.canBuffer_keeps hP ?_
      exact h0'
    · dsimp only
      exact h0'
  · split
    · dsimp only
      refine State.routeWake_keeps hP ?_
      refine State.canSlot_keeps hP ?_
      exact h0'
    · dsimp only
      exact h0'
  · split
    · dsimp only
      refine State.routeWake_keeps hP ?_
      refine State.linPublish_keeps hP ?_
      exact h0'
    · dsimp only
      exact h0'
  · split
    · refine State.streamJoin_keeps hP ?_
      exact h0'
    · dsimp only
      exact h0'
  · extract_lets +onlyGivenNames v3
    have h3 : P v3.2 := by
      unfold v3
      refine State.hostBundle_keeps hP ?_
      exact h0'
    clear_value v3
    dsimp only
    refine State.awlPunt_keeps hP ?_
    assumption
  · dsimp only
    exact h0'

theorem State.routeMsg_keeps (hP : Closed P) {a0 a1 a2 a3} (h0' : P a0) : P (State.routeMsg a0 a1 a2 a3) := by
  unfold State.routeMsg
  extract_lets +onlyGivenNames v1
  clear_value v1
  extract_lets +onlyGivenNames v2
  clear_value v2
  extract_lets +onlyGivenNames v3
  have h3 : P v3 := by
    unfold v3
    refine State.awlSet_keeps hP ?_
    exact h0'
  clear_value v3
  refine keeps_ite ?_ ?_
  · refine State.routeDrop_keeps hP ?_
    refine State.inc_keeps hP ?_
    exact h3
  · extract_lets +onlyGivenNames v4
    have h4 : P v4 := by
      unfold v4
      refine keeps_ite ?_ ?_
      · refine State.awlException_keeps hP ?_
        exact h3
      · exact h3
    clear_value v4
    extract_lets +onlyGivenNames v5
    have h5 : P v5.2 := by
      unfold v5
      split
      · refine State.meterFrame_keeps hP ?_
        exact h4
      · dsimp only
        exact h4
    clear_value v5
    extract_lets +onlyGivenNames v6
    have h6 : P v6 := by
      unfold v6
      assumption
    clear_value v6
    refine keeps_ite ?_ ?_
    · refine State.routeDrop_keeps hP ?_
      exact h6
    · extract_lets +onlyGivenNames v7
      have h7 : ∀ x0, P x0 → P (v7 x0) := by
        unfold v7
        intro u8_0 u8_1
        refine State.routeDrop_keeps hP ?_
        refine State.awlFormat_keeps hP ?_
        exact u8_1
      clear_value v7
      extract_lets +onlyGivenNames v9
      have h9 : P v9.2 := by
        unfold v9
        split
        · refine State.pduOpen_keeps hP ?_
          exact h6
        · dsimp only
          exact h6
      clear_value v9
      extract_lets +onlyGivenNames v10
      have h10 : P v10 := by
        unfold v10
        assumption
      clear_value v10
      extract_lets +onlyGivenNames v11
      have h11 : ∀ x0, P x0 → P (v11 x0) := by
        unfold v11
        intro u12_0 u12_1
        refine State.routeDrop_keeps hP ?_
        refine State.raise_keeps hP ?_
        refine State.raise_keeps hP ?_
        refine State.inc_keeps hP ?_
        exact u12_1
      clear_value v11
      split
      · refine h11 _ ?_
        exact h10
      · refine State.routeDrop_keeps hP ?_
        refine State.tcCount_keeps hP ?_
        exact h10
      · refine State.routeDrop_keeps hP ?_
        refine State.tcCount_keeps hP ?_
        exact h10
      · refine h7 _ ?_
        exact h10
      · split
        · refine h7 _ ?_
          exact h10
        · refine keeps_ite ?_ ?_
          · refine h7 _ ?_
            exact h10
          · extract_lets +onlyGivenNames v13
            clear_value v13
            extract_lets +onlyGivenNames v14
            have h14 : P v14.2 := by
              unfold v14
              split
              · refine State.pduSeal_keeps hP ?_
                exact h10
              · dsimp only
                exact h10
            clear_value v14
            extract_lets +onlyGivenNames v15
            have h15 : P v15 := by
              unfold v15
              assumption
            clear_value v15
            split
            · refine h11 _ ?_
              exact h15
            · refine State.routeDrop_keeps hP ?_
              refine State.tcCount_keeps hP ?_
              exact h15
            · refine State.routeDrop_keeps hP ?_
              refine State.tcCount_keeps hP ?_
              exact h15
            · refine h7 _ ?_
              exact h15
            · split
              · refine h7 _ ?_
                exact h15
              · extract_lets +onlyGivenNames v16
                clear_value v16
                extract_lets +onlyGivenNames v17
                have h17 : P v17.2 := by
                  unfold v17
                  refine State.deliver_keeps hP ?_
                  exact h15
                clear_value v17
                refine keeps_ite ?_ ?_
                · assumption
                · refine h7 _ ?_
                  assumption

theorem State.chain_keeps (hP : Closed P) {a0 a1 a2 a3 a4 a5} (h0' : P a0) (h5' : ∀ x0 x1, P x0 → P (a5 x0 x1)) :
    P (State.chain a0 a1 a2 a3 a4 a5) := by
  induction a3 generalizing a0 a2 with
  | zero => exact State.awlFormat_keeps hP h0'
  | succ n ih =>
    simp only [State.chain]
    split
    · exact h5' _ _ h0'
    · split
      · exact State.awlFormat_keeps hP (h5' _ _ h0')
      · exact ih (h5' _ _ h0')

theorem State.routeMessage_keeps (hP : Closed P) {a0 a1 a2} (h0' : P a0) : P (State.routeMessage a0 a1 a2) := by
  unfold State.routeMessage
  split
  · refine State.chain_keeps hP ?_ ?_
    · exact h0'
    · intro u1_0 u1_1 u1_2
      refine State.routeMsg_keeps hP ?_
      exact u1_2
  · extract_lets +onlyGivenNames v2
    have h2 : P v2 := by
      unfold v2
      refine State.raise_keeps hP ?_
      refine State.inc_keeps hP ?_
      exact h0'
    clear_value v2
    refine keeps_ite ?_ ?_
    · refine State.awlException_keeps hP ?_
      exact h2
    · exact h2

theorem State.decapsulate_keeps (hP : Closed P) {a0 a1 a2 a3} (h0' : P a0) : P (State.decapsulate a0 a1 a2 a3) := by
  unfold State.decapsulate
  extract_lets +onlyGivenNames v1
  clear_value v1
  extract_lets +onlyGivenNames v2
  clear_value v2
  extract_lets +onlyGivenNames v3
  have h3 : P v3 := by
    unfold v3
    split
    · extract_lets +onlyGivenNames v4
      clear_value v4
      extract_lets +onlyGivenNames v5
      have h5 : P v5 := by
        unfold v5
        refine keeps_ite ?_ ?_
        · refine State.inc_keeps hP ?_
          exact h0'
        · exact h0'
      clear_value v5
      refine State.awlSet_keeps hP ?_
      exact h5
    · exact h0'
  clear_value v3
  extract_lets +onlyGivenNames v6
  have h6 : P v6 := by
    unfold v6
    refine keeps_foldl (fun u7 x7 h7 => ?_) ?_
    · extract_lets +onlyGivenNames v8
      have h8 : P v8.2 := by
        unfold v8
        refine State.draw_keeps hP ?_
        exact h7
      clear_value v8
      extract_lets +onlyGivenNames v9
      have h9 : P v9.2 := by
        unfold v9
        refine State.draw_keeps hP ?_
        assumption
      clear_value v9
      refine State.routeMessage_keeps hP ?_
      assumption
    · exact h3
  clear_value v6
  refine keeps_ite ?_ ?_
  · exact h6
  · extract_lets +onlyGivenNames v10
    have h10 : P v10 := by
      unfold v10
      refine State.raise_keeps hP ?_
      refine State.inc_keeps hP ?_
      exact h6
    clear_value v10
    refine keeps_ite ?_ ?_
    · refine State.awlPunt_keeps hP ?_
      exact h10
    · exact h10

theorem State.routeEth_keeps (hP : Closed P) {a0 a1 a2 a3} (h0' : P a0) : P (State.routeEth a0 a1 a2 a3) := by
  unfold State.routeEth
  extract_lets +onlyGivenNames v1
  clear_value v1
  extract_lets +onlyGivenNames v2
  clear_value v2
  extract_lets +onlyGivenNames v3
  have h3 : P v3 := by
    unfold v3
    refine State.awlSet_keeps hP ?_
    exact h0'
  clear_value v3
  refine keeps_ite ?_ ?_
  · refine State.routeDrop_keeps hP ?_
    refine State.inc_keeps hP ?_
    exact h3
  · extract_lets +onlyGivenNames v4
    have h4 : P v4 := by
      unfold v4
      refine keeps_ite ?_ ?_
      · refine State.awlException_keeps hP ?_
        exact h3
      · exact h3
    clear_value v4
    extract_lets +onlyGivenNames v5
    have h5 : P v5.2 := by
      unfold v5
      split
      · refine State.meterFrame_keeps hP ?_
        exact h4
      · dsimp only
        exact h4
    clear_value v5
    extract_lets +onlyGivenNames v6
    have h6 : P v6 := by
      unfold v6
      assumption
    clear_value v6
    refine keeps_ite ?_ ?_
    · refine State.routeDrop_keeps hP ?_
      exact h6
    · refine keeps_ite ?_ ?_
      · refine State.decapsulate_keeps hP ?_
        exact h6
      · refine keeps_ite ?_ ?_
        · exact h6
        · refine State.routeDrop_keeps hP ?_
          refine State.awlFormat_keeps hP ?_
          exact h6

theorem State.apQueueSet_keeps (hP : Closed P) {a0 a1 a2} (h0' : P a0) : P (State.apQueueSet a0 a1 a2) := by
  unfold State.apQueueSet
  refine State.awlSet_keeps hP ?_
  exact h0'

theorem State.takeSource_keeps (hP : Closed P) {s : State} {e k x t} (h : s.takeSource e k = some (x, t)) (h0 : P s) : P t := by
  unfold State.takeSource at h
  split at h
  · split at h
    · cases h; exact State.canSet_keeps hP h0
    · cases h
  · split at h
    · split at h
      · cases h; exact State.linSet_keeps hP h0
      · cases h
    · split at h
      · cases h; exact State.apQueueSet_keeps hP h0
      · cases h

theorem State.takeTurn_keeps (hP : Closed P) {s : State} {e x t} (h : s.takeTurn e = some (x, t)) (h0 : P s) : P t := by
  unfold State.takeTurn at h
  obtain ⟨i, -, hi⟩ := List.exists_of_findSome?_eq_some h
  obtain ⟨⟨y, u⟩, hu, he⟩ := Option.map_eq_some_iff.mp hi
  cases he
  exact State.awlSet_keeps hP (State.takeSource_keeps hP hu h0)

theorem awlAccept_keeps (hP : Closed P) {a0 a1} (h1' : P a1) : P (awlAccept a0 a1) := by
  unfold awlAccept
  refine keeps_ite ?_ ?_
  · exact h1'
  · split
    · exact h1'
    · extract_lets +onlyGivenNames v1
      have h1 : P v1 := by
        unfold v1
        refine State.incWrap_keeps hP ?_
        refine State.takeTurn_keeps hP (by assumption) ?_
        exact h1'
      clear_value v1
      split
      · refine State.routeMessage_keeps hP ?_
        exact h1
      · refine State.chain_keeps hP ?_ ?_
        · exact h1
        · intro u2_0 u2_1 u2_2
          refine State.routeEth_keeps hP ?_
          exact u2_2

theorem apFrameToAwl_keeps (hP : Closed P) {a0 a1} (h1' : P a1) : P (apFrameToAwl a0 a1) := by
  unfold apFrameToAwl
  refine keeps_ite ?_ ?_
  · exact h1'
  · extract_lets +onlyGivenNames v1
    have h1 : P v1 := by
      unfold v1
      refine State.fabNow_keeps hP ?_
      exact h1'
    clear_value v1
    split
    · exact h1
    · split
      · refine State.rmCopy_keeps hP ?_
        exact h1
      · refine keeps_ite ?_ ?_
        · exact h1
        · extract_lets +onlyGivenNames v2
          clear_value v2
          extract_lets +onlyGivenNames v3
          clear_value v3
          extract_lets +onlyGivenNames v4
          clear_value v4
          extract_lets +onlyGivenNames v5
          have h5 : P v5 := by
            unfold v5
            refine keeps_ite ?_ ?_
            · refine State.apQueueSet_keeps hP ?_
              exact h1
            · refine State.raise_keeps hP ?_
              refine State.inc_keeps hP ?_
              exact h1
          clear_value v5
          refine State.reap_keeps hP ?_
          refine State.rmCopy_keeps hP ?_
          exact h5

theorem streamHoldExpiry_keeps (hP : Closed P) {a0 a1} (h1' : P a1) : P (streamHoldExpiry a0 a1) := by
  unfold streamHoldExpiry
  refine State.streamSend_keeps hP ?_
  exact h1'

theorem awlWatchdog_keeps (hP : Closed P) {a0 a1} (h1' : P a1) : P (awlWatchdog a0 a1) := by
  unfold awlWatchdog
  refine keeps_ite ?_ ?_
  · exact h1'
  · split
    · exact h1'
    · extract_lets +onlyGivenNames v1
      have h1 : P v1 := by
        unfold v1
        refine State.raise_keeps hP ?_
        refine State.inc_keeps hP ?_
        refine State.takeTurn_keeps hP (by assumption) ?_
        exact h1'
      clear_value v1
      extract_lets +onlyGivenNames v2
      have h2 : P v2 := by
        unfold v2
        refine State.put_keeps hP ?_
        exact h1
      clear_value v2
      refine State.fault_keeps hP ?_
      refine State.raise_keeps hP ?_
      exact h2

theorem State.canConfine_keeps (hP : Closed P) {a0 a1} (h0' : P a0) : P (State.canConfine a0 a1) := by
  unfold State.canConfine
  extract_lets +onlyGivenNames v1
  clear_value v1
  refine keeps_ite ?_ ?_
  · extract_lets +onlyGivenNames v2
    clear_value v2
    extract_lets +onlyGivenNames v3
    have h3 : P v3 := by
      unfold v3
      refine State.put_keeps hP ?_
      exact h0'
    clear_value v3
    refine keeps_ite ?_ ?_
    · refine State.raise_keeps hP ?_
      exact h3
    · exact h3
  · exact h0'

theorem State.rxOverflow_keeps (hP : Closed P) {a0 a1} (h0' : P a0) : P (State.rxOverflow a0 a1) := by
  unfold State.rxOverflow
  refine State.raise_keeps hP ?_
  refine State.inc_keeps hP ?_
  exact h0'

theorem State.recDown_keeps (hP : Closed P) {a0 a1} (h0' : P a0) : P (State.recDown a0 a1) := by
  unfold State.recDown
  extract_lets +onlyGivenNames v1
  clear_value v1
  refine keeps_ite ?_ ?_
  · extract_lets +onlyGivenNames v2
    have h2 : P v2.2 := by
      unfold v2
      refine State.draw_keeps hP ?_
      exact h0'
    clear_value v2
    refine State.put_keeps hP ?_
    assumption
  · refine State.put_keeps hP ?_
    exact h0'

theorem canFrameRx_keeps (hP : Closed P) {a0 a1 a2 a3} (h3' : P a3) : P (canFrameRx a0 a1 a2 a3) := by
  unfold canFrameRx
  extract_lets +onlyGivenNames v1
  clear_value v1
  refine keeps_ite ?_ ?_
  · exact h3'
  · refine keeps_ite ?_ ?_
    · refine keeps_ite ?_ ?_
      · exact h3'
      · refine State.put_keeps hP ?_
        exact h3'
    · extract_lets +onlyGivenNames v2
      have h2 : P v2 := by
        unfold v2
        refine keeps_ite ?_ ?_
        · exact h3'
        · refine State.canConfine_keeps hP ?_
          refine State.recDown_keeps hP ?_
          exact h3'
      clear_value v2
      extract_lets +onlyGivenNames v3
      have h3 : P v3 := by
        unfold v3
        refine State.kaSeen_keeps hP ?_
        refine State.validTraffic_keeps hP ?_
        exact h2
      clear_value v3
      extract_lets +onlyGivenNames v4
      clear_value v4
      extract_lets +onlyGivenNames v5
      clear_value v5
      refine keeps_ite ?_ ?_
      · refine State.rxOverflow_keeps hP ?_
        exact h3
      · refine State.inc_keeps hP ?_
        refine State.canSet_keeps hP ?_
        exact h3

theorem canFifoError_keeps (hP : Closed P) {a0 a1 a2} (h2' : P a2) : P (canFifoError a0 a1 a2) := by
  unfold canFifoError
  extract_lets +onlyGivenNames v1
  clear_value v1
  extract_lets +onlyGivenNames v2
  have h2 : P v2 := by
    unfold v2
    refine State.canSet_keeps hP ?_
    exact h2'
  clear_value v2
  refine State.fault_keeps hP ?_
  refine State.rxOverflow_keeps hP ?_
  exact h2

theorem State.ageBuffers_keeps (hP : Closed P) {a0 a1} (h0' : P a0) : P (State.ageBuffers a0 a1) := by
  unfold State.ageBuffers
  extract_lets +onlyGivenNames v1
  clear_value v1
  extract_lets +onlyGivenNames v2
  clear_value v2
  extract_lets +onlyGivenNames v3
  clear_value v3
  refine State.inc_keeps hP ?_
  refine State.canSet_keeps hP ?_
  exact h0'

theorem canTxStart_keeps (hP : Closed P) {a0 a1} (h1' : P a1) : P (canTxStart a0 a1) := by
  unfold canTxStart
  refine keeps_ite ?_ ?_
  · exact h1'
  · extract_lets +onlyGivenNames v1
    have h1 : P v1 := by
      unfold v1
      refine State.ageBuffers_keeps hP ?_
      refine State.canConfine_keeps hP ?_
      exact h1'
    clear_value v1
    extract_lets +onlyGivenNames v2
    clear_value v2
    refine keeps_ite ?_ ?_
    · refine State.stampCan_keeps hP ?_
      refine State.canSet_keeps hP ?_
      exact h1
    · split
      · refine State.stampCan_keeps hP ?_
        refine State.canSet_keeps hP ?_
        exact h1
      · split
        · exact h1
        · split
          · refine State.stampCan_keeps hP ?_
            refine State.canSet_keeps hP ?_
            exact h1
          · exact h1

theorem State.txSent_keeps (hP : Closed P) {a0 a1} (h0' : P a0) : P (State.txSent a0 a1) := by
  unfold State.txSent
  extract_lets +onlyGivenNames v1
  clear_value v1
  extract_lets +onlyGivenNames v2
  clear_value v2
  extract_lets +onlyGivenNames v3
  have h3 : P v3 := by
    unfold v3
    refine State.canSet_keeps hP ?_
    exact h0'
  clear_value v3
  extract_lets +onlyGivenNames v4
  have h4 : P v4 := by
    unfold v4
    refine State.put_keeps hP ?_
    exact h3
  clear_value v4
  extract_lets +onlyGivenNames v5
  have h5 : P v5 := by
    unfold v5
    refine State.inc_keeps hP ?_
    exact h4
  clear_value v5
  refine keeps_ite ?_ ?_
  · extract_lets +onlyGivenNames v6
    have h6 : P v6.2 := by
      unfold v6
      refine State.draw_keeps hP ?_
      exact h5
    clear_value v6
    refine State.put_keeps hP ?_
    assumption
  · exact h5

theorem canTxDone_keeps (hP : Closed P) {a0 a1 a2} (h2' : P a2) : P (canTxDone a0 a1 a2) := by
  unfold canTxDone
  refine keeps_ite ?_ ?_
  · exact h2'
  · split
    · refine State.canSettle_keeps hP ?_
      refine State.canConfine_keeps hP ?_
      refine State.txSent_keeps hP ?_
      exact h2'
    · refine State.canSettle_keeps hP ?_
      refine State.txFailed_keeps hP ?_
      exact h2'
    · extract_lets +onlyGivenNames v1
      have h1 : P v1 := by
        unfold v1
        refine State.inc_keeps hP ?_
        refine State.txFailed_keeps hP ?_
        exact h2'
      clear_value v1
      refine State.canSettle_keeps hP ?_
      refine State.canConfine_keeps hP ?_
      refine State.put_keeps hP ?_
      exact h1

theorem canBusOff_keeps (hP : Closed P) {a0 a1} (h1' : P a1) : P (canBusOff a0 a1) := by
  unfold canBusOff
  refine keeps_ite ?_ ?_
  · exact h1'
  · extract_lets +onlyGivenNames v1
    have h1 : P v1 := by
      unfold v1
      refine State.txFailed_keeps hP ?_
      exact h1'
    clear_value v1
    extract_lets +onlyGivenNames v2
    have h2 : P v2 := by
      unfold v2
      refine State.put_keeps hP ?_
      exact h1
    clear_value v2
    extract_lets +onlyGivenNames v3
    have h3 : P v3 := by
      unfold v3
      refine State.inc_keeps hP ?_
      exact h2
    clear_value v3
    extract_lets +onlyGivenNames v4
    clear_value v4
    extract_lets +onlyGivenNames v5
    have h5 : P v5 := by
      unfold v5
      refine State.canSet_keeps hP ?_
      exact h3
    clear_value v5
    refine State.canSettle_keeps hP ?_
    refine State.raise_keeps hP ?_
    exact h5

theorem State.startRecovery_keeps (hP : Closed P) {a0 a1} (h0' : P a0) : P (State.startRecovery a0 a1) := by
  unfold State.startRecovery
  refine keeps_ite ?_ ?_
  · refine State.canSet_keeps hP ?_
    exact h0'
  · exact h0'

theorem recDelayExpiry_keeps (hP : Closed P) {a0 a1} (h1' : P a1) : P (recDelayExpiry a0 a1) := by
  unfold recDelayExpiry
  refine keeps_ite ?_ ?_
  · refine State.startRecovery_keeps hP ?_
    exact h1'
  · exact h1'

theorem canRecover_keeps (hP : Closed P) {a0 a1 a2} (h2' : P a2) : P (canRecover a0 a1 a2) := by
  unfold canRecover
  refine State.direct_keeps hP ?_ ?_
  · exact h2'
  · intro u1_0 u1_1
    refine State.startRecovery_keeps hP ?_
    exact u1_1

theorem canRecovered_keeps (hP : Closed P) {a0 a1} (h1' : P a1) : P (canRecovered a0 a1) := by
  unfold canRecovered
  refine keeps_ite ?_ ?_
  · exact h1'
  · extract_lets +onlyGivenNames v1
    clear_value v1
    extract_lets +onlyGivenNames v2
    have h2 : P v2 := by
      unfold v2
      refine State.canSet_keeps hP ?_
      exact h1'
    clear_value v2
    extract_lets +onlyGivenNames v3
    have h3 : P v3 := by
      unfold v3
      refine State.put_keeps hP ?_
      refine State.put_keeps hP ?_
      exact h2
    clear_value v3
    refine State.raise_keeps hP ?_
    refine State.put_keeps hP ?_
    exact h3

theorem canSlotStart_keeps (hP : Closed P) {a0 a1 a2} (h2' : P a2) : P (canSlotStart a0 a1 a2) := by
  unfold canSlotStart
  refine keeps_ite ?_ ?_
  · exact h2'
  · extract_lets +onlyGivenNames v1
    clear_value v1
    split
    · exact h2'
    · refine keeps_ite ?_ ?_
      · refine State.inc_keeps hP ?_
        refine State.canSet_keeps hP ?_
        exact h2'
      · refine State.canSet_keeps hP ?_
        exact h2'

theorem canSlotWindowClose_keeps (hP : Closed P) {a0 a1 a2} (h2' : P a2) : P (canSlotWindowClose a0 a1 a2) := by
  unfold canSlotWindowClose
  extract_lets +onlyGivenNames v1
  clear_value v1
  refine keeps_ite ?_ ?_
  · exact h2'
  · extract_lets +onlyGivenNames v2
    have h2 : P v2 := by
      unfold v2
      refine State.canSet_keeps hP ?_
      exact h2'
    clear_value v2
    refine keeps_ite ?_ ?_
    · refine State.slotMissed_keeps hP ?_
      exact h2
    · exact h2

theorem State.linRoute_keeps (hP : Closed P) {a0 a1 a2 a3} (h0' : P a0) : P (State.linRoute a0 a1 a2 a3) := by
  unfold State.linRoute
  refine keeps_ite ?_ ?_
  · extract_lets +onlyGivenNames v1
    clear_value v1
    refine State.linSet_keeps hP ?_
    exact h0'
  · exact h0'

theorem State.linAnswer_keeps (hP : Closed P) {a0 a1 a2 a3 a4} (h0' : P a0) : P (State.linAnswer a0 a1 a2 a3 a4) := by
  unfold State.linAnswer
  refine keeps_ite ?_ ?_
  · refine State.inc_keeps hP ?_
    exact h0'
  · extract_lets +onlyGivenNames v1
    clear_value v1
    extract_lets +onlyGivenNames v2
    clear_value v2
    extract_lets +onlyGivenNames v3
    have h3 : P v3 := by
      unfold v3
      refine State.linSet_keeps hP ?_
      exact h0'
    clear_value v3
    extract_lets +onlyGivenNames v4
    have h4 : P v4 := by
      unfold v4
      refine State.inc_keeps hP ?_
      exact h3
    clear_value v4
    refine keeps_ite ?_ ?_
    · refine State.linRoute_keeps hP ?_
      exact h4
    · exact h4

theorem State.linMissing_keeps (hP : Closed P) {a0 a1} (h0' : P a0) : P (State.linMissing a0 a1) := by
  unfold State.linMissing
  refine keeps_ite ?_ ?_
  · extract_lets +onlyGivenNames v1
    clear_value v1
    extract_lets +onlyGivenNames v2
    have h2 : P v2 := by
      unfold v2
      refine State.linSet_keeps hP ?_
      exact h0'
    clear_value v2
    refine State.raise_keeps hP ?_
    refine State.inc_keeps hP ?_
    exact h2
  · exact h0'

theorem State.linReplace_keeps (hP : Closed P) {a0 a1} (h0' : P a0) : P (State.linReplace a0 a1) := by
  unfold State.linReplace
  split
  · exact h0'
  · extract_lets +onlyGivenNames v1
    clear_value v1
    extract_lets +onlyGivenNames v2
    have h2 : P v2 := by
      unfold v2
      refine State.linSet_keeps hP ?_
      exact h0'
    clear_value v2
    refine State.raise_keeps hP ?_
    refine State.put_keeps hP ?_
    exact h2

theorem linEntryStart_keeps (hP : Closed P) {a0 a1 a2} (h2' : P a2) : P (linEntryStart a0 a1 a2) := by
  unfold linEntryStart
  refine keeps_ite ?_ ?_
  · exact h2'
  · extract_lets +onlyGivenNames v1
    clear_value v1
    extract_lets +onlyGivenNames v2
    have h2 : P v2 := by
      unfold v2
      refine State.linReplace_keeps hP ?_
      refine State.linMissing_keeps hP ?_
      exact h2'
    clear_value v2
    extract_lets +onlyGivenNames v3
    have h3 : P v3 := by
      unfold v3
      refine keeps_ite ?_ ?_
      · refine State.awlSet_keeps hP ?_
        exact h2
      · exact h2
    clear_value v3
    refine keeps_ite ?_ ?_
    · exact h3
    · extract_lets +onlyGivenNames v4
      clear_value v4
      extract_lets +onlyGivenNames v5
      clear_value v5
      extract_lets +onlyGivenNames v6
      clear_value v6
      extract_lets +onlyGivenNames v7
      clear_value v7
      extract_lets +onlyGivenNames v8
      have h8 : P v8 := by
        unfold v8
        refine State.put_keeps hP ?_
        refine State.put_keeps hP ?_
        exact h3
      clear_value v8
      refine keeps_ite ?_ ?_
      · exact h8
      · extract_lets +onlyGivenNames v9
        clear_value v9
        extract_lets +onlyGivenNames v10
        have h10 : P v10 := by
          unfold v10
          refine State.linSet_keeps hP ?_
          exact h8
        clear_value v10
        refine keeps_ite ?_ ?_
        · exact h10
        · extract_lets +onlyGivenNames v11
          clear_value v11
          extract_lets +onlyGivenNames v12
          have h12 : P v12 := by
            unfold v12
            refine State.linSet_keeps hP ?_
            exact h10
          clear_value v12
          extract_lets +onlyGivenNames v13
          have h13 : P v13 := by
            unfold v13
            refine keeps_ite ?_ ?_
            · refine State.validTraffic_keeps hP ?_
              exact h12
            · exact h12
          clear_value v13
          refine keeps_ite ?_ ?_
          · refine State.linAnswer_keeps hP ?_
            refine State.inc_keeps hP ?_
            exact h13
          · refine keeps_ite ?_ ?_
            · refine State.inc_keeps hP ?_
              exact h13
            · refine State.linSet_keeps hP ?_
              refine State.inc_keeps hP ?_
              exact h13

theorem linHeaderRx_keeps (hP : Closed P) {a0 a1 a2 a3 a4} (h4' : P a4) : P (linHeaderRx a0 a1 a2 a3 a4) := by
  unfold linHeaderRx
  refine keeps_ite ?_ ?_
  · exact h4'
  · extract_lets +onlyGivenNames v1
    clear_value v1
    refine keeps_ite ?_ ?_
    · refine State.raise_keeps hP ?_
      refine State.inc_keeps hP ?_
      exact h4'
    · extract_lets +onlyGivenNames v2
      have h2 : P v2 := by
        unfold v2
        refine State.put_keeps hP ?_
        exact h4'
      clear_value v2
      extract_lets +onlyGivenNames v3
      clear_value v3
      extract_lets +onlyGivenNames v4
      have h4 : P v4 := by
        unfold v4
        refine State.linSet_keeps hP ?_
        exact h2
      clear_value v4
      extract_lets +onlyGivenNames v5
      have h5 : P v5 := by
        unfold v5
        refine State.kaSeen_keeps hP ?_
        refine State.validTraffic_keeps hP ?_
        exact h4
      clear_value v5
      refine keeps_ite ?_ ?_
      · refine State.linAnswer_keeps hP ?_
        exact h5
      · refine State.linSet_keeps hP ?_
        exact h5

theorem State.linChk_keeps (hP : Closed P) {a0 a1} (h0' : P a0) : P (State.linChk a0 a1) := by
  unfold State.linChk
  refine State.raise_keeps hP ?_
  refine State.inc_keeps hP ?_
  exact h0'

theorem linResponseRx_keeps (hP : Closed P) {a0 a1 a2} (h2' : P a2) : P (linResponseRx a0 a1 a2) := by
  unfold linResponseRx
  split
  · exact h2'
  · extract_lets +onlyGivenNames v1
    clear_value v1
    extract_lets +onlyGivenNames v2
    clear_value v2
    extract_lets +onlyGivenNames v3
    have h3 : P v3 := by
      unfold v3
      refine State.linSet_keeps hP ?_
      exact h2'
    clear_value v3
    split
    · refine keeps_ite ?_ ?_
      · refine State.linRoute_keeps hP ?_
        refine State.kaSeen_keeps hP ?_
        refine State.inc_keeps hP ?_
        exact h3
      · refine State.linChk_keeps hP ?_
        exact h3
    · refine State.linChk_keeps hP ?_
      exact h3
    · refine State.inc_keeps hP ?_
      exact h3
    · split
      · extract_lets +onlyGivenNames v4
        clear_value v4
        extract_lets +onlyGivenNames v5
        clear_value v5
        refine State.put_keeps hP ?_
        refine State.linSet_keeps hP ?_
        exact h3
      · refine State.linChk_keeps hP ?_
        exact h3

theorem State.linAsk_keeps (hP : Closed P) {a0 a1 a2} (h0' : P a0) : P (State.linAsk a0 a1 a2) := by
  unfold State.linAsk
  extract_lets +onlyGivenNames v1
  clear_value v1
  extract_lets +onlyGivenNames v2
  have h2 : P v2 := by
    unfold v2
    refine State.put_keeps hP ?_
    exact h0'
  clear_value v2
  refine keeps_ite ?_ ?_
  · exact h2
  · refine State.linSet_keeps hP ?_
    exact h2

theorem linTableWrite_keeps (hP : Closed P) {a0 a1 a2 a3} (h3' : P a3) : P (linTableWrite a0 a1 a2 a3) := by
  unfold linTableWrite
  refine State.direct_keeps hP ?_ ?_
  · exact h3'
  · intro u1_0 u1_1
    refine State.linAsk_keeps hP ?_
    exact u1_1

theorem State.linWake_keeps (hP : Closed P) {a0 a1} (h0' : P a0) : P (State.linWake a0 a1) := by
  unfold State.linWake
  refine keeps_ite ?_ ?_
  · exact h0'
  · refine State.linSet_keeps hP ?_
    exact h0'

theorem linWakeTx_keeps (hP : Closed P) {a0 a1 a2} (h2' : P a2) : P (linWakeTx a0 a1 a2) := by
  unfold linWakeTx
  refine State.direct_keeps hP ?_ ?_
  · exact h2'
  · intro u1_0 u1_1
    refine State.linWake_keeps hP ?_
    exact u1_1

theorem linWakeRepeat_keeps (hP : Closed P) {a0 a1} (h1' : P a1) : P (linWakeRepeat a0 a1) := by
  unfold linWakeRepeat
  extract_lets +onlyGivenNames v1
  clear_value v1
  refine keeps_ite ?_ ?_
  · refine State.linSet_keeps hP ?_
    exact h1'
  · exact h1'

theorem linWakeRx_keeps (hP : Closed P) {a0 a1} (h1' : P a1) : P (linWakeRx a0 a1) := by
  unfold linWakeRx
  refine keeps_ite ?_ ?_
  · refine State.raise_keeps hP ?_
    exact h1'
  · exact h1'

theorem State.cycleBegun_keeps (hP : Closed P) {a0 a1 a2} (h1' : P a1) (h2' : P a2) : P (State.cycleBegun a0 a1 a2) := by
  unfold State.cycleBegun
  refine keeps_ite ?_ ?_
  · exact h2'
  · refine State.cycleSchedules_keeps hP ?_
    exact h2'

theorem State.clusterSetup_keeps (hP : Closed P) {a0} (h0' : P a0) : P (State.clusterSetup a0) := by
  unfold State.clusterSetup
  extract_lets +onlyGivenNames v1
  clear_value v1
  extract_lets +onlyGivenNames v2
  have h2 : P v2 := by
    unfold v2
    refine keeps_foldl (fun u3 x3 h3 => ?_) ?_
    · refine keeps_ite ?_ ?_
      · refine keeps_ite ?_ ?_
        · exact h3
        · refine State.clPut_keeps hP ?_
          exact h3
      · extract_lets +onlyGivenNames v4
        clear_value v4
        refine State.clTimer_keeps hP ?_
        refine State.clPut_keeps hP ?_
        exact h3
    · exact h0'
  clear_value v2
  extract_lets +onlyGivenNames v5
  clear_value v5
  extract_lets +onlyGivenNames v6
  have h6 : P v6 := by
    unfold v6
    refine keeps_ite ?_ ?_
    · exact h2
    · refine keeps_foldl (fun u7 x7 h7 => ?_) ?_
      · refine keeps_ite ?_ ?_
        · exact h7
        · refine keeps_ite ?_ ?_
          · refine State.clEnter_keeps hP ?_
            exact h7
          · refine keeps_ite ?_ ?_
            · refine State.clEnter_keeps hP ?_
              exact h7
            · exact h7
      · exact h2
  clear_value v6
  refine State.wakSet_keeps hP ?_
  refine State.t1sAsleep_keeps hP ?_
  exact h6

theorem State.clusterFlip_keeps (hP : Closed P) {a0} (h0' : P a0) : P (State.clusterFlip a0) := by
  unfold State.clusterFlip
  refine keeps_foldl (fun u1 x1 h1 => ?_) ?_
  · refine keeps_ite ?_ ?_
    · refine keeps_ite ?_ ?_
      · refine State.clTimer_keeps hP ?_
        refine State.clPut_keeps hP ?_
        exact h1
      · exact h1
    · refine keeps_ite ?_ ?_
      · exact h1
      · refine State.clPut_keeps hP ?_
        exact h1
  · exact h0'

theorem State.plcaApply_keeps (hP : Closed P) {a0 a1} (h0' : P a0) : P (State.plcaApply a0 a1) := by
  unfold State.plcaApply
  extract_lets +onlyGivenNames v1
  clear_value v1
  extract_lets +onlyGivenNames v2
  clear_value v2
  extract_lets +onlyGivenNames v3
  have h3 : P v3 := by
    unfold v3
    refine State.put_keeps hP ?_
    exact h0'
  clear_value v3
  extract_lets +onlyGivenNames v4
  have h4 : P v4 := by
    unfold v4
    refine State.put_keeps hP ?_
    exact h3
  clear_value v4
  refine keeps_ite ?_ ?_
  · refine State.put_keeps hP ?_
    exact h4
  · refine keeps_ite ?_ ?_
    · exact h4
    · refine State.put_keeps hP ?_
      exact h4

theorem State.puntFull_keeps (hP : Closed P) {a0} (h0' : P a0) : P (State.puntFull a0) := by
  unfold State.puntFull
  extract_lets +onlyGivenNames v1
  clear_value v1
  refine State.clrSet_keeps hP ?_
  exact h0'

theorem State.applyTypes_keeps (hP : Closed P) {a0 a1} (h0' : P a0) : P (State.applyTypes a0 a1) := by
  unfold State.applyTypes
  extract_lets +onlyGivenNames v1
  clear_value v1
  extract_lets +onlyGivenNames v2
  have h2 : P v2 := by
    unfold v2
    refine State.lstSet_keeps hP ?_
    exact h0'
  clear_value v2
  extract_lets +onlyGivenNames v3
  have h3 : P v3 := by
    unfold v3
    refine keeps_ite ?_ ?_
    · refine State.clrSet_keeps hP ?_
      exact h2
    · exact h2
  clear_value v3
  extract_lets +onlyGivenNames v4
  have h4 : P v4 := by
    unfold v4
    refine keeps_ite ?_ ?_
    · refine State.metersStart_keeps hP ?_
      exact h3
    · exact h3
  clear_value v4
  extract_lets +onlyGivenNames v5
  have h5 : P v5 := by
    unfold v5
    refine keeps_ite ?_ ?_
    · refine keeps_mk hP ?_
      exact h4
    · exact h4
  clear_value v5
  extract_lets +onlyGivenNames v6
  have h6 : P v6 := by
    unfold v6
    refine keeps_ite ?_ ?_
    · refine keeps_foldl (fun u7 x7 h7 => ?_) ?_
      · refine keeps_ite ?_ ?_
        · refine State.laceApply_keeps hP ?_
          exact h7
        · exact h7
      · exact h5
    · exact h5
  clear_value v6
  extract_lets +onlyGivenNames v8
  have h8 : P v8 := by
    unfold v8
    refine keeps_ite ?_ ?_
    · refine State.puntFull_keeps hP ?_
      refine State.policyCheck_keeps hP ?_
      exact h6
    · exact h6
  clear_value v8
  extract_lets +onlyGivenNames v9
  have h9 : P v9 := by
    unfold v9
    refine keeps_ite ?_ ?_
    · refine keeps_foldl (fun u10 x10 h10 => ?_) ?_
      · extract_lets +onlyGivenNames v11
        have h11 : P v11 := by
          unfold v11
          refine keeps_ite ?_ ?_
          · refine State.raise_keeps hP ?_
            exact h10
          · exact h10
        clear_value v11
        extract_lets +onlyGivenNames v12
        clear_value v12
        extract_lets +onlyGivenNames v13
        have h13 : P v13 := by
          unfold v13
          refine keeps_ite ?_ ?_
          · exact h11
          · refine State.macSet_keeps hP ?_
            exact h11
        clear_value v13
        refine keeps_ite ?_ ?_
        · refine State.plcaApply_keeps hP ?_
          exact h13
        · exact h13
      · exact h8
    · exact h8
  clear_value v9
  extract_lets +onlyGivenNames v14
  have h14 : P v14 := by
    unfold v14
    refine keeps_ite ?_ ?_
    · refine State.awlSet_keeps hP ?_
      exact h9
    · exact h9
  clear_value v14
  extract_lets +onlyGivenNames v15
  have h15 : P v15 := by
    unfold v15
    refine keeps_ite ?_ ?_
    · refine State.clUpdateAll_keeps hP ?_
      refine State.pinRequests_keeps hP ?_
      refine State.clusterSetup_keeps hP ?_
      exact h14
    · exact h14
  clear_value v15
  extract_lets +onlyGivenNames v16
  have h16 : P v16 := by
    unfold v16
    refine keeps_ite ?_ ?_
    · refine State.channelSync_keeps hP ?_
      exact h15
    · exact h15
  clear_value v16
  extract_lets +onlyGivenNames v17
  have h17 : P v17 := by
    unfold v17
    refine keeps_ite ?_ ?_
    · refine State.cryptoApply_keeps hP ?_
      exact h16
    · exact h16
  clear_value v17
  extract_lets +onlyGivenNames v18
  have h18 : P v18 := by
    unfold v18
    refine keeps_ite ?_ ?_
    · refine State.clocksApply_keeps hP ?_
      exact h17
    · exact h17
  clear_value v18
  refine State.budget_keeps hP ?_
  exact h18

theorem State.lastApply_keeps (hP : Closed P) {a0 a1} (h0' : P a0) : P (State.lastApply a0 a1) := by
  unfold State.lastApply
  extract_lets +onlyGivenNames v1
  clear_value v1
  extract_lets +onlyGivenNames v2
  have h2 : P v2 := by
    unfold v2
    refine State.lstSet_keeps hP ?_
    exact h0'
  clear_value v2
  extract_lets +onlyGivenNames v3
  have h3 : P v3 := by
    unfold v3
    refine State.put_keeps hP ?_
    refine State.put_keeps hP ?_
    exact h2
  clear_value v3
  extract_lets +onlyGivenNames v4
  have h4 : P v4 := by
    unfold v4
    refine State.put_keeps hP ?_
    exact h3
  clear_value v4
  extract_lets +onlyGivenNames v5
  have h5 : P v5 := by
    unfold v5
    refine State.put_keeps hP ?_
    exact h4
  clear_value v5
  extract_lets +onlyGivenNames v6
  have h6 : P v6 := by
    unfold v6
    refine State.put_keeps hP ?_
    exact h5
  clear_value v6
  refine State.checkStartup_keeps hP ?_
  refine State.domSync_keeps hP ?_
  refine State.usesNow_keeps hP ?_
  refine State.portSyncAll_keeps hP ?_
  refine State.applyTypes_keeps hP ?_
  exact h6

theorem State.prioApply_keeps (hP : Closed P) {a0} (h0' : P a0) : P (State.prioApply a0) := by
  unfold State.prioApply
  extract_lets +onlyGivenNames v1
  have h1 : P v1 := by
    unfold v1
    refine State.lstSet_keeps hP ?_
    exact h0'
  clear_value v1
  extract_lets +onlyGivenNames v2
  clear_value v2
  refine State.domSync_keeps hP ?_
  refine State.usesNow_keeps hP ?_
  refine State.portSyncAll_keeps hP ?_
  refine State.applyTypes_keeps hP ?_
  exact h1

theorem State.flipMeters_keeps (hP : Closed P) {a0 a1} (h0' : P a0) (h1' : P a1) : P (State.flipMeters a0 a1) := by
  unfold State.flipMeters
  refine keeps_foldl (fun u1 x1 h1 => ?_) ?_
  · extract_lets +onlyGivenNames v2
    clear_value v2
    extract_lets +onlyGivenNames v3
    clear_value v3
    refine State.meterSet_keeps hP ?_
    exact h1
  · exact h1'

theorem State.flipSched_keeps (hP : Closed P) {a0 a1} (h0' : P a0) (h1' : P a1) : P (State.flipSched a0 a1) := by
  unfold State.flipSched
  extract_lets +onlyGivenNames v1
  clear_value v1
  extract_lets +onlyGivenNames v2
  clear_value v2
  extract_lets +onlyGivenNames v3
  clear_value v3
  extract_lets +onlyGivenNames v4
  clear_value v4
  extract_lets +onlyGivenNames v5
  clear_value v5
  extract_lets +onlyGivenNames v6
  clear_value v6
  extract_lets +onlyGivenNames v7
  have h7 : P v7 := by
    unfold v7
    refine keeps_foldl (fun u8 x8 h8 => ?_) ?_
    · extract_lets +onlyGivenNames v9
      clear_value v9
      extract_lets +onlyGivenNames v10
      clear_value v10
      refine State.subSet_keeps hP ?_
      exact h8
    · exact h1'
  clear_value v7
  extract_lets +onlyGivenNames v11
  have h11 : P v11 := by
    unfold v11
    refine keeps_foldl (fun u12 x12 h12 => ?_) ?_
    · refine State.portBucketSet_keeps hP ?_
      exact h12
    · exact h7
  clear_value v11
  extract_lets +onlyGivenNames v13
  have h13 : P v13 := by
    unfold v13
    refine keeps_foldl (fun u14 x14 h14 => ?_) ?_
    · extract_lets +onlyGivenNames v15
      clear_value v15
      extract_lets +onlyGivenNames v16
      clear_value v16
      refine keeps_ite ?_ ?_
      · refine State.schSet_keeps hP ?_
        exact h14
      · refine keeps_ite ?_ ?_
        · refine keeps_foldl (fun u17 x17 h17 => ?_) ?_
          · extract_lets +onlyGivenNames v18
            clear_value v18
            refine State.subSet_keeps hP ?_
            exact h17
          · exact h14
        · exact h14
    · exact h11
  clear_value v13
  extract_lets +onlyGivenNames v19
  have h19 : P v19 := by
    unfold v19
    refine keeps_foldl (fun u20 x20 h20 => ?_) ?_
    · refine State.queueSettle_keeps hP ?_
      exact h20
    · exact h13
  clear_value v19
  extract_lets +onlyGivenNames v21
  clear_value v21
  extract_lets +onlyGivenNames v22
  clear_value v22
  refine keeps_foldl (fun u23 x23 h23 => ?_) ?_
  · refine State.subSettle_keeps hP ?_
    exact h23
  · exact h19

theorem State.flipLace_keeps (hP : Closed P) {a0 a1} (h0' : P a0) (h1' : P a1) : P (State.flipLace a0 a1) := by
  unfold State.flipLace
  extract_lets +onlyGivenNames v1
  clear_value v1
  refine keeps_foldl (fun u2 x2 h2 => ?_) ?_
  · refine keeps_ite ?_ ?_
    · refine State.laceFlip_keeps hP ?_
      exact h2
    · exact h2
  · exact h1'

theorem State.flipPolicy_keeps (hP : Closed P) {a0 a1} (h0' : P a0) (h1' : P a1) : P (State.flipPolicy a0 a1) := by
  unfold State.flipPolicy
  refine keeps_ite ?_ ?_
  · exact h1'
  · extract_lets +onlyGivenNames v1
    clear_value v1
    extract_lets +onlyGivenNames v2
    clear_value v2
    extract_lets +onlyGivenNames v3
    have h3 : P v3 := by
      unfold v3
      refine State.soleSet_keeps hP ?_
      exact h1'
    clear_value v3
    extract_lets +onlyGivenNames v4
    clear_value v4
    extract_lets +onlyGivenNames v5
    have h5 : P v5 := by
      unfold v5
      refine State.clrSet_keeps hP ?_
      exact h3
    clear_value v5
    refine State.policyCheck_keeps hP ?_
    exact h5

theorem State.flipChannels_keeps (hP : Closed P) {a0 a1} (h0' : P a0) (h1' : P a1) : P (State.flipChannels a0 a1) := by
  unfold State.flipChannels
  extract_lets +onlyGivenNames v1
  clear_value v1
  extract_lets +onlyGivenNames v2
  clear_value v2
  extract_lets +onlyGivenNames v3
  have h3 : P v3 := by
    unfold v3
    refine keeps_foldl (fun u4 x4 h4 => ?_) ?_
    · extract_lets +onlyGivenNames v5
      have h5 : P v5 := by
        unfold v5
        refine State.awlSet_keeps hP ?_
        exact h4
      clear_value v5
      refine keeps_ite ?_ ?_
      · exact h5
      · refine State.canDue_keeps hP ?_
        exact h5
    · exact h1'
  clear_value v3
  refine keeps_foldl (fun u6 x6 h6 => ?_) ?_
  · refine State.awlSet_keeps hP ?_
    exact h6
  · exact h3

theorem State.flipBlocks_keeps (hP : Closed P) {a0 a1} (h0' : P a0) (h1' : P a1) : P (State.flipBlocks a0 a1) := by
  unfold State.flipBlocks
  extract_lets +onlyGivenNames v1
  have h1 : P v1 := by
    unfold v1
    refine State.flipMeters_keeps hP ?_ ?_
    · exact h0'
    · exact h1'
  clear_value v1
  extract_lets +onlyGivenNames v2
  have h2 : P v2 := by
    unfold v2
    refine State.flipSched_keeps hP ?_ ?_
    · exact h0'
    · exact h1
  clear_value v2
  extract_lets +onlyGivenNames v3
  have h3 : P v3 := by
    unfold v3
    refine State.flipPolicy_keeps hP ?_ ?_
    · exact h0'
    · exact h2
  clear_value v3
  extract_lets +onlyGivenNames v4
  have h4 : P v4 := by
    unfold v4
    refine State.flipChannels_keeps hP ?_ ?_
    · exact h0'
    · exact h3
  clear_value v4
  extract_lets +onlyGivenNames v5
  have h5 : P v5 := by
    unfold v5
    refine keeps_ite ?_ ?_
    · exact h4
    · refine State.clUpdateAll_keeps hP ?_
      refine State.pinRequests_keeps hP ?_
      refine State.clusterFlip_keeps hP ?_
      exact h4
  clear_value v5
  extract_lets +onlyGivenNames v6
  have h6 : P v6 := by
    unfold v6
    refine keeps_ite ?_ ?_
    · exact h5
    · refine State.cryptoApply_keeps hP ?_
      exact h5
  clear_value v6
  extract_lets +onlyGivenNames v7
  have h7 : P v7 := by
    unfold v7
    refine keeps_foldl (fun u8 x8 h8 => ?_) ?_
    · refine State.streamSend_keeps hP ?_
      exact h8
    · exact h6
  clear_value v7
  extract_lets +onlyGivenNames v9
  have h9 : P v9 := by
    unfold v9
    refine State.flipLace_keeps hP ?_ ?_
    · exact h0'
    · exact h7
  clear_value v9
  refine State.domSync_keeps hP ?_
  refine State.usesNow_keeps hP ?_
  refine State.channelSync_keeps hP ?_
  exact h9

theorem State.lsPut_keeps (hP : Closed P) {a0 a1} (h0' : P a0) : P (State.lsPut a0 a1) := by
  unfold State.lsPut
  refine State.put_keeps hP ?_
  exact h0'

theorem State.csOpen_keeps (hP : Closed P) {a0 a1} (h0' : P a0) : P (State.csOpen a0 a1) := by
  unfold State.csOpen
  refine keeps_ite ?_ ?_
  · refine State.put_keeps hP ?_
    refine State.lsPut_keeps hP ?_
    exact h0'
  · refine State.err_keeps hP ?_
    exact h0'

theorem State.setDrop_keeps (hP : Closed P) {a0} (h0' : P a0) : P (State.setDrop a0) := by
  unfold State.setDrop
  extract_lets +onlyGivenNames v1
  clear_value v1
  extract_lets +onlyGivenNames v2
  have h2 : P v2 := by
    unfold v2
    refine State.lsPut_keeps hP ?_
    refine State.lstSet_keeps hP ?_
    exact h0'
  clear_value v2
  extract_lets +onlyGivenNames v3
  have h3 : P v3 := by
    unfold v3
    refine State.put_keeps hP ?_
    refine State.put_keeps hP ?_
    exact h2
  clear_value v3
  refine keeps_ite ?_ ?_
  · refine State.raise_keeps hP ?_
    exact h3
  · exact h3

theorem State.csAbort_keeps (hP : Closed P) {a0 a1} (h0' : P a0) : P (State.csAbort a0 a1) := by
  unfold State.csAbort
  refine keeps_ite ?_ ?_
  · refine State.setDrop_keeps hP ?_
    exact h0'
  · refine State.err_keeps hP ?_
    exact h0'

theorem State.csCtrl_keeps (hP : Closed P) {a0 a1 a2 a3} (h0' : P a0) : P (State.csCtrl a0 a1 a2 a3) := by
  unfold State.csCtrl
  extract_lets +onlyGivenNames v1
  have h1 : P v1 := by
    unfold v1
    refine keeps_ite ?_ ?_
    · refine State.csAbort_keeps hP ?_
      exact h0'
    · exact h0'
  clear_value v1
  refine keeps_ite ?_ ?_
  · refine State.csOpen_keeps hP ?_
    exact h1
  · exact h1

theorem csOpen_keeps (hP : Closed P) {a0 a1} (h1' : P a1) : P (csOpen a0 a1) := by
  unfold csOpen
  refine State.direct_keeps hP ?_ ?_
  · exact h1'
  · intro u1_0 u1_1
    refine State.csCtrl_keeps hP ?_
    exact u1_1

theorem csAbort_keeps (hP : Closed P) {a0 a1} (h1' : P a1) : P (csAbort a0 a1) := by
  unfold csAbort
  refine State.direct_keeps hP ?_ ?_
  · exact h1'
  · intro u1_0 u1_1
    refine State.csCtrl_keeps hP ?_
    exact u1_1

theorem State.csReg_keeps (hP : Closed P) {a0 a1 a2 a3} (h0' : P a0) : P (State.csReg a0 a1 a2 a3) := by
  unfold State.csReg
  refine keeps_ite ?_ ?_
  · refine State.err_keeps hP ?_
    exact h0'
  · refine State.put_keeps hP ?_
    exact h0'

theorem Lst.alloc_mem {l l' : Lst} {x : Nat} (h : l.alloc = some (x, l')) : l'.mem = l.mem := by
  unfold Lst.alloc at h
  split at h
  · cases h; rfl
  · split at h
    · cases h; rfl
    · cases h

theorem State.stagePage_keeps (hP : Closed P) {a0 a1 a2 a3} (h0' : P a0) : P (State.stagePage a0 a1 a2 a3).2 := by
  unfold State.stagePage
  split
  · dsimp only
    exact State.lstSet_keeps hP h0' (fun _ h => Lst.setBytes_wf h)
  · split
    · exact State.put_keeps hP h0'
    · rename_i x l e
      have h1 : AMap.Wf zeroByte a0.lst.mem → AMap.Wf zeroByte (l.setBytes (x * 256) (a0.lst.page (a0.lst.phys a1))).mem :=
        fun h => Lst.setBytes_wf (Lst.alloc_mem e ▸ h)
      dsimp only
      generalize l.setBytes (x * 256) (a0.lst.page (a0.lst.phys a1)) = l2 at h1 ⊢
      have h2 : AMap.Wf zeroByte l2.mem →
          AMap.Wf zeroByte (Lst.setBytes { l2 with staged := AMap.ins l2.staged a1 x } (x * 256 + a2) a3).mem :=
        fun h => Lst.setBytes_wf (l := { l2 with staged := AMap.ins l2.staged a1 x }) h
      generalize Lst.setBytes { l2 with staged := AMap.ins l2.staged a1 x } (x * 256 + a2) a3 = l3 at h2 ⊢
      exact hP.upd h0' rfl rfl (fun h => ⟨h2 (h1 h.lst), h.flash, h.req, h.rsp, h.host⟩)

theorem State.stagingWrite_keeps (hP : Closed P) {a0 a1 a2 a3} (h0' : P a0) : P (State.stagingWrite a0 a1 a2 a3).2 := by
  unfold State.stagingWrite
  split
  · dsimp only
    exact h0'
  · split
    · dsimp only
      exact h0'
    · split
      · dsimp only
        exact h0'
      · split
        · dsimp only
          exact h0'
        · split
          · dsimp only
            refine State.ownErr_keeps hP ?_
            exact h0'
          · split
            · dsimp only
              refine State.err_keeps hP ?_
              exact h0'
            · split
              · extract_lets +onlyGivenNames v1
                clear_value v1
                split
                · dsimp only
                  refine State.lstSet_keeps hP ?_
                  exact h0'
                · split
                  · refine State.stagePage_keeps hP ?_
                    exact h0'
                  · dsimp only
                    exact h0'
              · split
                · extract_lets +onlyGivenNames v2
                  clear_value v2
                  dsimp only
                  refine State.lstSet_keeps hP ?_
                  exact h0'
                · dsimp only
                  exact h0'

theorem State.stagingReport_keeps (hP : Closed P) {a0 a1 a2 a3} (h0' : P a0) : P (State.stagingReport a0 a1 a2 a3) := by
  unfold State.stagingReport
  split
  · refine keeps_snd (by assumption) ?_
    refine State.stagingWrite_keeps hP ?_
    exact h0'
  · split
    · refine State.perr_keeps hP ?_
      refine keeps_snd (by assumption) ?_
      refine State.stagingWrite_keeps hP ?_
      exact h0'
    · refine keeps_mk hP ?_
      refine keeps_snd (by assumption) ?_
      refine State.stagingWrite_keeps hP ?_
      exact h0'
    · refine keeps_snd (by assumption) ?_
      refine State.stagingWrite_keeps hP ?_
      exact h0'

theorem State.stagingAnswer_keeps (hP : Closed P) {a0 a1 a2 a3} (h0' : P a0) : P (State.stagingAnswer a0 a1 a2 a3) := by
  unfold State.stagingAnswer
  split
  · refine State.stagingReport_keeps hP ?_
    refine State.numbered_keeps hP ?_
    exact h0'
  · refine keeps_ite ?_ ?_
    · refine State.stagingReport_keeps hP ?_
      exact h0'
    · exact h0'
  · refine State.stagingReport_keeps hP ?_
    exact h0'

theorem stagingWrite_keeps (hP : Closed P) {a0 a1 a2 a3} (h3' : P a3) : P (stagingWrite a0 a1 a2 a3) := by
  unfold stagingWrite
  refine State.stagingAnswer_keeps hP ?_
  exact h3'

theorem changeSetListWrite_keeps (hP : Closed P) {a0 a1 a2 a3} (h3' : P a3) : P (changeSetListWrite a0 a1 a2 a3) := by
  unfold changeSetListWrite
  refine State.stagingAnswer_keeps hP ?_
  exact h3'

theorem State.commitGo_keeps (hP : Closed P) {a0 a1} (h0' : P a0) : P (State.commitGo a0 a1) := by
  unfold State.commitGo
  refine keeps_ite ?_ ?_
  · refine State.put_keeps hP ?_
    refine State.lsPut_keeps hP ?_
    exact h0'
  · refine State.err_keeps hP ?_
    exact h0'

theorem commitGo_keeps (hP : Closed P) {a0 a1} (h1' : P a1) : P (commitGo a0 a1) := by
  unfold commitGo
  refine State.direct_keeps hP ?_ ?_
  · exact h1'
  · intro u1_0 u1_1
    refine State.commitGo_keeps hP ?_
    exact u1_1

theorem State.commitRefused_keeps (hP : Closed P) {a0 a1 a2} (h0' : P a0) : P (State.commitRefused a0 a1 a2) := by
  unfold State.commitRefused
  extract_lets +onlyGivenNames v1
  have h1 : P v1 := by
    unfold v1
    refine State.put_keeps hP ?_
    refine State.put_keeps hP ?_
    refine State.lsPut_keeps hP ?_
    exact h0'
  clear_value v1
  extract_lets +onlyGivenNames v2
  have h2 : P v2 := by
    unfold v2
    refine keeps_ite ?_ ?_
    · refine State.put_keeps hP ?_
      exact h1
    · exact h1
  clear_value v2
  refine State.raise_keeps hP ?_
  exact h2

theorem commitValidated_keeps (hP : Closed P) {a0} (h0' : P a0) : P (commitValidated a0) := by
  unfold commitValidated
  refine keeps_ite ?_ ?_
  · exact h0'
  · split
    · refine State.commitRefused_keeps hP ?_
      exact h0'
    · refine State.lsPut_keeps hP ?_
      exact h0'

theorem flip_keeps (hP : Closed P) {a0} (h0' : P a0) : P (flip a0) := by
  unfold flip
  refine keeps_ite ?_ ?_
  · exact h0'
  · extract_lets +onlyGivenNames v1
    have h1 : P v1 := by
      unfold v1
      refine keeps_foldl (fun u2 x2 h2 => ?_) ?_
      · refine State.creditSync_keeps hP ?_
        exact h2
      · exact h0'
    clear_value v1
    extract_lets +onlyGivenNames v3
    clear_value v3
    extract_lets +onlyGivenNames v4
    clear_value v4
    extract_lets +onlyGivenNames v5
    have h5 : P v5 := by
      unfold v5
      refine State.lstSet_keeps hP ?_
      exact h1
    clear_value v5
    extract_lets +onlyGivenNames v6
    have h6 : P v6 := by
      unfold v6
      refine State.put_keeps hP ?_
      refine State.put_keeps hP ?_
      exact h5
    clear_value v6
    extract_lets +onlyGivenNames v7
    have h7 : P v7 := by
      unfold v7
      refine State.put_keeps hP ?_
      refine State.put_keeps hP ?_
      refine State.lsPut_keeps hP ?_
      exact h6
    clear_value v7
    extract_lets +onlyGivenNames v8
    have h8 : P v8 := by
      unfold v8
      refine State.put_keeps hP ?_
      refine State.incWrap_keeps hP ?_
      exact h7
    clear_value v8
    extract_lets +onlyGivenNames v9
    have h9 : P v9 := by
      unfold v9
      refine State.raise_keeps hP ?_
      refine State.put_keeps hP ?_
      exact h8
    clear_value v9
    refine State.flipBlocks_keeps hP ?_ ?_
    · exact h1
    · exact h9

theorem epochDrainEnd_keeps (hP : Closed P) {a0} (h0' : P a0) : P (epochDrainEnd a0) := by
  unfold epochDrainEnd
  refine keeps_ite ?_ ?_
  · exact h0'
  · extract_lets +onlyGivenNames v1
    have h1 : P v1 := by
      unfold v1
      refine State.lstSet_keeps hP ?_
      exact h0'
    clear_value v1
    refine State.raise_keeps hP ?_
    refine State.put_keeps hP ?_
    exact h1

theorem State.drained_keeps (hP : Closed P) {a0 a1} (h0' : P a0) : P (State.drained a0 a1) := by
  unfold State.drained
  refine State.inc_keeps hP ?_
  exact h0'

theorem State.purgeAwl_keeps (hP : Closed P) {a0 a1} (h0' : P a0) : P (State.purgeAwl a0 a1) := by
  unfold State.purgeAwl
  extract_lets +onlyGivenNames v1
  clear_value v1
  extract_lets +onlyGivenNames v2
  clear_value v2
  extract_lets +onlyGivenNames v3
  clear_value v3
  extract_lets +onlyGivenNames v4
  clear_value v4
  extract_lets +onlyGivenNames v5
  clear_value v5
  extract_lets +onlyGivenNames v6
  clear_value v6
  extract_lets +onlyGivenNames v7
  clear_value v7
  extract_lets +onlyGivenNames v8
  clear_value v8
  extract_lets +onlyGivenNames v9
  have h9 : P v9 := by
    unfold v9
    refine keeps_mk hP ?_
    exact h0'
  clear_value v9
  extract_lets +onlyGivenNames v10
  have h10 : P v10 := by
    unfold v10
    refine State.awlSet_keeps hP ?_
    exact h9
  clear_value v10
  refine State.drained_keeps hP ?_
  exact h10

theorem drainLimitExpiry_keeps (hP : Closed P) {a0} (h0' : P a0) : P (drainLimitExpiry a0) := by
  unfold drainLimitExpiry
  refine keeps_ite ?_ ?_
  · exact h0'
  · extract_lets +onlyGivenNames v1
    clear_value v1
    extract_lets +onlyGivenNames v2
    have h2 : P v2 := by
      unfold v2
      refine State.raise_keeps hP ?_
      refine State.lstSet_keeps hP ?_
      exact h0'
    clear_value v2
    extract_lets +onlyGivenNames v3
    have h3 : P v3 := by
      unfold v3
      refine keeps_foldl (fun u4 x4 h4 => ?_) ?_
      · refine State.dropCopy_keeps hP ?_
        exact h4
      · exact h2
    clear_value v3
    extract_lets +onlyGivenNames v5
    clear_value v5
    extract_lets +onlyGivenNames v6
    have h6 : P v6 := by
      unfold v6
      refine keeps_foldl (fun u7 x7 h7 => ?_) ?_
      · refine State.dropFrame_keeps hP ?_
        refine State.mirrorLost_keeps hP ?_
        refine State.drained_keeps hP ?_
        exact h7
      · exact h3
    clear_value v6
    refine State.reap_keeps hP ?_
    refine State.purgeAwl_keeps hP ?_
    exact h6

theorem State.reloadStart_keeps (hP : Closed P) {a0 a1} (h0' : P a0) : P (State.reloadStart a0 a1) := by
  unfold State.reloadStart
  extract_lets +onlyGivenNames v1
  have h1 : P v1 := by
    unfold v1
    refine keeps_ite ?_ ?_
    · refine State.setDrop_keeps hP ?_
      exact h0'
    · exact h0'
  clear_value v1
  extract_lets +onlyGivenNames v2
  clear_value v2
  extract_lets +onlyGivenNames v3
  have h3 : P v3 := by
    unfold v3
    refine State.lsPut_keeps hP ?_
    refine State.put_keeps hP ?_
    exact h1
  clear_value v3
  extract_lets +onlyGivenNames v4
  have h4 : P v4 := by
    unfold v4
    refine State.lstSet_keeps hP ?_
    exact h3
  clear_value v4
  extract_lets +onlyGivenNames v5
  have h5 : P v5 := by
    unfold v5
    refine keeps_foldl (fun u6 x6 h6 => ?_) ?_
    · refine State.laceStop_keeps hP ?_
      exact h6
    · exact h4
  clear_value v5
  extract_lets +onlyGivenNames v7
  have h7 : P v7 := by
    unfold v7
    refine State.portSyncAll_keeps hP ?_
    exact h5
  clear_value v7
  extract_lets +onlyGivenNames v8
  have h8 : P v8 := by
    unfold v8
    refine keeps_foldl (fun u9 x9 h9 => ?_) ?_
    · refine State.dropFrame_keeps hP ?_
      refine State.spoil_keeps hP ?_
      refine State.rxFlush_keeps hP ?_
      exact h9
    · exact h7
  clear_value v8
  extract_lets +onlyGivenNames v10
  have h10 : P v10 := by
    unfold v10
    refine State.awlSet_keeps hP ?_
    exact h8
  clear_value v10
  extract_lets +onlyGivenNames v11
  have h11 : P v11 := by
    unfold v11
    refine keeps_foldl (fun u12 x12 h12 => ?_) ?_
    · refine State.canSync_keeps hP ?_
      exact h12
    · exact h10
  clear_value v11
  extract_lets +onlyGivenNames v13
  have h13 : P v13 := by
    unfold v13
    refine keeps_foldl (fun u14 x14 h14 => ?_) ?_
    · refine State.linSync_keeps hP ?_
      exact h14
    · exact h11
  clear_value v13
  refine keeps_ite ?_ ?_
  · extract_lets +onlyGivenNames v15
    clear_value v15
    extract_lets +onlyGivenNames v16
    have h16 : P v16 := by
      unfold v16
      refine keeps_mk hP ?_
      exact h13
    clear_value v16
    refine State.put_keeps hP ?_
    refine State.lstSet_keeps hP ?_
    exact h16
  · exact h13

theorem State.reloadWrite_keeps (hP : Closed P) {a0 a1 a2 a3 a4} (h0' : P a0) : P (State.reloadWrite a0 a1 a2 a3 a4) := by
  unfold State.reloadWrite
  extract_lets +onlyGivenNames v1
  have h1 : P v1 := by
    unfold v1
    refine keeps_ite ?_ ?_
    · refine State.lstSet_keeps hP ?_
      refine State.lsPut_keeps hP ?_
      exact h0'
    · exact h0'
  clear_value v1
  refine keeps_ite ?_ ?_
  · refine State.err_keeps hP ?_
    exact h1
  · refine keeps_ite ?_ ?_
    · refine keeps_ite ?_ ?_
      · exact h1
      · refine State.reloadStart_keeps hP ?_
        exact h1
    · exact h1

theorem reloadFlash_keeps (hP : Closed P) {a0 a1} (h1' : P a1) : P (reloadFlash a0 a1) := by
  unfold reloadFlash
  refine State.direct_keeps hP ?_ ?_
  · exact h1'
  · intro u1_0 u1_1
    refine State.reloadWrite_keeps hP ?_
    exact u1_1

theorem reloadHost_keeps (hP : Closed P) {a0 a1} (h1' : P a1) : P (reloadHost a0 a1) := by
  unfold reloadHost
  refine State.direct_keeps hP ?_ ?_
  · exact h1'
  · intro u1_0 u1_1
    refine State.reloadWrite_keeps hP ?_
    exact u1_1

theorem reloadGo_keeps (hP : Closed P) {a0 a1} (h1' : P a1) : P (reloadGo a0 a1) := by
  unfold reloadGo
  refine State.direct_keeps hP ?_ ?_
  · exact h1'
  · intro u1_0 u1_1
    refine State.reloadWrite_keeps hP ?_
    exact u1_1

theorem hostLoadTimeout_keeps (hP : Closed P) {a0} (h0' : P a0) : P (hostLoadTimeout a0) := by
  unfold hostLoadTimeout
  refine keeps_ite ?_ ?_
  · refine State.lsPut_keeps hP ?_
    exact h0'
  · exact h0'

theorem State.imageTable_keeps (hP : Closed P) {a0 a1} (h0' : P a0) : P (State.imageTable a0 a1) := by
  unfold State.imageTable
  refine State.lstSet_keeps hP ?_
  exact h0'

theorem State.imageStore_keeps (hP : Closed P) {a0 a1} (h0' : P a0) : P (State.imageStore a0 a1) := by
  unfold State.imageStore
  refine State.lstSet_keeps hP ?_
  exact h0'

theorem State.lastLost_keeps (hP : Closed P) {a0} (h0' : P a0) : P (State.lastLost a0) := by
  unfold State.lastLost
  extract_lets +onlyGivenNames v1
  have h1 : P v1 := by
    unfold v1
    refine State.lstSet_keeps hP ?_
    refine State.put_keeps hP ?_
    refine State.put_keeps hP ?_
    refine State.lsPut_keeps hP ?_
    exact h0'
  clear_value v1
  extract_lets +onlyGivenNames v2
  have h2 : P v2 := by
    unfold v2
    refine State.clocksApply_keeps hP ?_
    refine keeps_foldl (fun u3 x3 h3 => ?_) ?_
    · refine State.laceStop_keeps hP ?_
      exact h3
    · exact h1
  clear_value v2
  refine State.fault_keeps hP ?_
  refine State.raise_keeps hP ?_
  exact h2

theorem reloadImageReadDone_keeps (hP : Closed P) {a0 a1} (h1' : P a1) : P (reloadImageReadDone a0 a1) := by
  unfold reloadImageReadDone
  refine keeps_ite ?_ ?_
  · exact h1'
  · refine keeps_ite ?_ ?_
    · extract_lets +onlyGivenNames v1
      clear_value v1
      refine keeps_ite ?_ ?_
      · refine State.lstSet_keeps hP ?_
        refine State.imageTable_keeps hP ?_
        exact h1'
      · extract_lets +onlyGivenNames v2
        have h2 : P v2 := by
          unfold v2
          refine State.raise_keeps hP ?_
          refine State.put_keeps hP ?_
          exact h1'
        clear_value v2
        refine State.lstSet_keeps hP ?_
        exact h2
    · split
      · refine keeps_ite ?_ ?_
        · refine State.lstSet_keeps hP ?_
          refine State.imageTable_keeps hP ?_
          refine State.imageStore_keeps hP ?_
          exact h1'
        · refine State.lastLost_keeps hP ?_
          exact h1'
      · refine State.lastLost_keeps hP ?_
        exact h1'

theorem State.modesChanged_keeps (hP : Closed P) {a0 a1} (h0' : P a0) (h1' : P a1) : P (State.modesChanged a0 a1) := by
  unfold State.modesChanged
  refine keeps_foldl (fun u1 x1 h1 => ?_) ?_
  · refine keeps_ite ?_ ?_
    · exact h1
    · refine State.linkLost_keeps hP ?_
      exact h1
  · exact h1'

theorem reloadDone_keeps (hP : Closed P) {a0} (h0' : P a0) : P (reloadDone a0) := by
  unfold reloadDone
  refine keeps_ite ?_ ?_
  · exact h0'
  · extract_lets +onlyGivenNames v1
    clear_value v1
    extract_lets +onlyGivenNames v2
    have h2 : P v2 := by
      unfold v2
      refine State.lstSet_keeps hP ?_
      refine State.put_keeps hP ?_
      exact h0'
    clear_value v2
    extract_lets +onlyGivenNames v3
    have h3 : P v3 := by
      unfold v3
      refine State.incWrap_keeps hP ?_
      refine State.incWrap_keeps hP ?_
      exact h0'
    clear_value v3
    extract_lets +onlyGivenNames v4
    have h4 : P v4 := by
      unfold v4
      refine State.put_keeps hP ?_
      refine State.put_keeps hP ?_
      exact h3
    clear_value v4
    extract_lets +onlyGivenNames v5
    have h5 : P v5 := by
      unfold v5
      refine State.modesChanged_keeps hP ?_ ?_
      · exact h2
      · exact h4
    clear_value v5
    refine State.raise_keeps hP ?_
    refine State.lastApply_keeps hP ?_
    exact h5

end Sys2Proof.Machine
end

