-- ==== Sys2Proof/Laws/KeepsF.lean ====
section
/-! SUPPORT. One lemma per function: it keeps a `Closed` predicate.  Functions of Machine: Clocks, Resets, Boot, Update, BlockReset. -/
namespace Sys2Proof.Machine

set_option Elab.async false
variable {P : State → Prop}

theorem State.clockHold_keeps (hP : Closed P) {a0} (h0' : P a0) : P (State.clockHold a0) := by
  unfold State.clockHold
  extract_lets +onlyGivenNames v1
  have h1 : P v1 := by
    unfold v1
    refine State.put_keeps hP ?_
    exact h0'
  clear_value v1
  extract_lets +onlyGivenNames v2
  have h2 : P v2 := by
    unfold v2
    refine State.pwrSet_keeps hP ?_
    refine State.flashAbort_keeps hP ?_
    exact h1
  clear_value v2
  extract_lets +onlyGivenNames v3
  have h3 : P v3 := by
    unfold v3
    refine State.put_keeps hP ?_
    refine State.domainsDown_keeps hP ?_
    exact h2
  clear_value v3
  extract_lets +onlyGivenNames v4
  clear_value v4
  refine State.updSet_keeps hP ?_
  exact h3

theorem State.dwellStart_keeps (hP : Closed P) {a0} (h0' : P a0) : P (State.dwellStart a0) := by
  unfold State.dwellStart
  refine keeps_ite ?_ ?_
  · refine State.put_keeps hP ?_
    exact h0'
  · exact h0'

theorem lrcCountDone_keeps (hP : Closed P) {a0} (h0' : P a0) : P (lrcCountDone a0) := by
  unfold lrcCountDone
  refine keeps_ite ?_ ?_
  · exact h0'
  · extract_lets +onlyGivenNames v1
    have h1 : P v1 := by
      unfold v1
      refine State.put_keeps hP ?_
      exact h0'
    clear_value v1
    refine keeps_ite ?_ ?_
    · refine State.put_keeps hP ?_
      exact h1
    · exact h1

theorem lrcCountTimeout_keeps (hP : Closed P) {a0} (h0' : P a0) : P (lrcCountTimeout a0) := by
  unfold lrcCountTimeout
  refine keeps_ite ?_ ?_
  · refine State.clockHold_keeps hP ?_
    exact h0'
  · exact h0'

theorem hrcQualifyDone_keeps (hP : Closed P) {a0 a1 a2} (h2' : P a2) : P (hrcQualifyDone a0 a1 a2) := by
  unfold hrcQualifyDone
  refine keeps_ite ?_ ?_
  · exact h2'
  · refine keeps_ite ?_ ?_
    · extract_lets +onlyGivenNames v1
      have h1 : P v1 := by
        unfold v1
        refine State.put_keeps hP ?_
        exact h2'
      clear_value v1
      extract_lets +onlyGivenNames v2
      have h2 : P v2 := by
        unfold v2
        refine State.xtalAmp_keeps hP ?_
        refine State.put_keeps hP ?_
        exact h1
      clear_value v2
      extract_lets +onlyGivenNames v3
      clear_value v3
      extract_lets +onlyGivenNames v4
      have h4 : P v4 := by
        unfold v4
        refine keeps_ite ?_ ?_
        · refine keeps_mk hP ?_
          exact h2
        · exact h1
      clear_value v4
      refine State.domSync_keeps hP ?_
      exact h4
    · refine keeps_ite ?_ ?_
      · refine State.put_keeps hP ?_
        exact h2'
      · refine State.clockHold_keeps hP ?_
        exact h2'

theorem State.pllStarts_keeps (hP : Closed P) {a0 a1} (h0' : P a0) : P (State.pllStarts a0 a1) := by
  unfold State.pllStarts
  refine keeps_ite ?_ ?_
  · exact h0'
  · refine State.channelSync_keeps hP ?_
    exact h0'

theorem xtalQualifyDone_keeps (hP : Closed P) {a0 a1} (h1' : P a1) : P (xtalQualifyDone a0 a1) := by
  unfold xtalQualifyDone
  refine keeps_ite ?_ ?_
  · exact h1'
  · extract_lets +onlyGivenNames v1
    clear_value v1
    extract_lets +onlyGivenNames v2
    have h2 : P v2 := by
      unfold v2
      refine State.put_keeps hP ?_
      exact h1'
    clear_value v2
    extract_lets +onlyGivenNames v3
    clear_value v3
    extract_lets +onlyGivenNames v4
    have h4 : P v4 := by
      unfold v4
      refine keeps_mk hP ?_
      exact h2
    clear_value v4
    extract_lets +onlyGivenNames v5
    have h5 : P v5 := by
      unfold v5
      refine keeps_ite ?_ ?_
      · refine State.put_keeps hP ?_
        exact h4
      · exact h4
    clear_value v5
    refine State.dwellStart_keeps hP ?_
    refine State.pllStarts_keeps hP ?_
    exact h5

theorem sdsrefQualifyDone_keeps (hP : Closed P) {a0 a1} (h1' : P a1) : P (sdsrefQualifyDone a0 a1) := by
  unfold sdsrefQualifyDone
  refine keeps_ite ?_ ?_
  · refine State.put_keeps hP ?_
    exact h1'
  · exact h1'

theorem State.xtalFailover_keeps (hP : Closed P) {a0} (h0' : P a0) : P (State.xtalFailover a0) := by
  unfold State.xtalFailover
  extract_lets +onlyGivenNames v1
  clear_value v1
  extract_lets +onlyGivenNames v2
  have h2 : P v2 := by
    unfold v2
    refine State.pllStarts_keeps hP ?_
    refine State.inc_keeps hP ?_
    refine State.put_keeps hP ?_
    exact h0'
  clear_value v2
  extract_lets +onlyGivenNames v3
  have h3 : P v3 := by
    unfold v3
    refine State.raise_keeps hP ?_
    refine State.nmi_keeps hP ?_
    exact h2
  clear_value v3
  refine State.devCause_keeps hP ?_
  refine State.fault_keeps hP ?_
  exact h3

theorem State.xtalFail_keeps (hP : Closed P) {a0} (h0' : P a0) : P (State.xtalFail a0) := by
  unfold State.xtalFail
  refine keeps_ite ?_ ?_
  · refine State.clockHold_keeps hP ?_
    refine State.fault_keeps hP ?_
    refine State.raise_keeps hP ?_
    refine State.put_keeps hP ?_
    exact h0'
  · refine keeps_ite ?_ ?_
    · extract_lets +onlyGivenNames v1
      have h1 : P v1 := by
        unfold v1
        refine State.put_keeps hP ?_
        exact h0'
      clear_value v1
      extract_lets +onlyGivenNames v2
      have h2 : P v2 := by
        unfold v2
        refine keeps_ite ?_ ?_
        · refine State.inc_keeps hP ?_
          refine State.put_keeps hP ?_
          exact h1
        · exact h1
      clear_value v2
      refine State.fault_keeps hP ?_
      refine State.raise_keeps hP ?_
      exact h2
    · refine State.put_keeps hP ?_
      refine State.xtalFailover_keeps hP ?_
      exact h0'

theorem State.hrcFail_keeps (hP : Closed P) {a0} (h0' : P a0) : P (State.hrcFail a0) := by
  unfold State.hrcFail
  extract_lets +onlyGivenNames v1
  have h1 : P v1 := by
    unfold v1
    refine State.fault_keeps hP ?_
    refine State.raise_keeps hP ?_
    refine State.put_keeps hP ?_
    exact h0'
  clear_value v1
  refine keeps_ite ?_ ?_
  · refine State.put_keeps hP ?_
    exact h1
  · refine State.clockHold_keeps hP ?_
    exact h1

theorem State.lrcFail_keeps (hP : Closed P) {a0} (h0' : P a0) : P (State.lrcFail a0) := by
  unfold State.lrcFail
  extract_lets +onlyGivenNames v1
  have h1 : P v1 := by
    unfold v1
    refine State.fault_keeps hP ?_
    refine State.raise_keeps hP ?_
    refine State.put_keeps hP ?_
    exact h0'
  clear_value v1
  refine keeps_ite ?_ ?_
  · refine State.deviceWakes_keeps hP ?_
    exact h1
  · refine State.abortDescent_keeps hP ?_
    exact h1

theorem State.laneUnlocks_keeps (hP : Closed P) {a0 a1} (h0' : P a0) : P (State.laneUnlocks a0 a1) := by
  unfold State.laneUnlocks
  extract_lets +onlyGivenNames v1
  have h1 : P v1 := by
    unfold v1
    refine keeps_ite ?_ ?_
    · refine State.raise_keeps hP ?_
      refine State.put_keeps hP ?_
      exact h0'
    · exact h0'
  clear_value v1
  refine keeps_ite ?_ ?_
  · refine State.raise_keeps hP ?_
    refine State.put_keeps hP ?_
    exact h1
  · exact h1

theorem State.sdsrefFail_keeps (hP : Closed P) {a0} (h0' : P a0) : P (State.sdsrefFail a0) := by
  unfold State.sdsrefFail
  extract_lets +onlyGivenNames v1
  have h1 : P v1 := by
    unfold v1
    refine State.fault_keeps hP ?_
    refine State.raise_keeps hP ?_
    refine State.put_keeps hP ?_
    exact h0'
  clear_value v1
  extract_lets +onlyGivenNames v2
  have h2 : P v2 := by
    unfold v2
    refine keeps_foldl (fun u3 x3 h3 => ?_) ?_
    · refine keeps_ite ?_ ?_
      · refine State.linkLost_keeps hP ?_
        refine State.laneUnlocks_keeps hP ?_
        exact h3
      · exact h3
    · exact h1
  clear_value v2
  refine toecapAlarm_keeps hP ?_
  exact h2

theorem xtalStartTimeout_keeps (hP : Closed P) {a0} (h0' : P a0) : P (xtalStartTimeout a0) := by
  unfold xtalStartTimeout
  refine keeps_ite ?_ ?_
  · exact h0'
  · extract_lets +onlyGivenNames v1
    clear_value v1
    extract_lets +onlyGivenNames v2
    have h2 : P v2 := by
      unfold v2
      refine keeps_mk hP ?_
      exact h0'
    clear_value v2
    refine State.xtalFailover_keeps hP ?_
    refine State.put_keeps hP ?_
    exact h2

theorem monitorWindowEnd_keeps (hP : Closed P) {a0 a1 a2 a3} (h3' : P a3) : P (monitorWindowEnd a0 a1 a2 a3) := by
  unfold monitorWindowEnd
  extract_lets +onlyGivenNames v1
  clear_value v1
  extract_lets +onlyGivenNames v2
  clear_value v2
  extract_lets +onlyGivenNames v3
  clear_value v3
  extract_lets +onlyGivenNames v4
  clear_value v4
  extract_lets +onlyGivenNames v5
  have h5 : P v5 := by
    unfold v5
    refine keeps_ite ?_ ?_
    · refine State.hrcFail_keeps hP ?_
      exact h3'
    · refine keeps_ite ?_ ?_
      · refine State.xtalFail_keeps hP ?_
        exact h3'
      · refine keeps_ite ?_ ?_
        · refine State.lrcFail_keeps hP ?_
          exact h3'
        · exact h3'
  clear_value v5
  refine keeps_ite ?_ ?_
  · refine State.sdsrefFail_keeps hP ?_
    exact h5
  · exact h5

theorem clockStopDetect_keeps (hP : Closed P) {a0 a1} (h1' : P a1) : P (clockStopDetect a0 a1) := by
  unfold clockStopDetect
  refine keeps_ite ?_ ?_
  · exact h1'
  · split
    · refine State.lrcFail_keeps hP ?_
      exact h1'
    · refine State.hrcFail_keeps hP ?_
      exact h1'
    · refine State.xtalFail_keeps hP ?_
      exact h1'
    · refine State.sdsrefFail_keeps hP ?_
      exact h1'

theorem clockEdgesReturn_keeps (hP : Closed P) {a0 a1} (h1' : P a1) : P (clockEdgesReturn a0 a1) := by
  unfold clockEdgesReturn
  refine keeps_ite ?_ ?_
  · exact h1'
  · split
    · refine State.put_keeps hP ?_
      exact h1'
    · refine State.put_keeps hP ?_
      exact h1'
    · refine State.put_keeps hP ?_
      exact h1'
    · refine State.put_keeps hP ?_
      exact h1'

theorem dwellEnd_keeps (hP : Closed P) {a0} (h0' : P a0) : P (dwellEnd a0) := by
  unfold dwellEnd
  refine keeps_ite ?_ ?_
  · exact h0'
  · extract_lets +onlyGivenNames v1
    have h1 : P v1 := by
      unfold v1
      refine State.put_keeps hP ?_
      refine State.put_keeps hP ?_
      exact h0'
    clear_value v1
    refine State.devCause_keeps hP ?_
    refine State.raise_keeps hP ?_
    exact h1

theorem State.cguCtrl_keeps (hP : Closed P) {a0 a1 a2} (h0' : P a0) : P (State.cguCtrl a0 a1 a2) := by
  unfold State.cguCtrl
  extract_lets +onlyGivenNames v1
  have h1 : P v1 := by
    unfold v1
    refine State.put_keeps hP ?_
    refine State.put_keeps hP ?_
    exact h0'
  clear_value v1
  refine keeps_ite ?_ ?_
  · refine State.dwellStart_keeps hP ?_
    exact h1
  · refine State.put_keeps hP ?_
    exact h1

theorem autoReturnWrite_keeps (hP : Closed P) {a0 a1 a2} (h2' : P a2) : P (autoReturnWrite a0 a1 a2) := by
  unfold autoReturnWrite
  refine State.direct_keeps hP ?_ ?_
  · exact h2'
  · intro u1_0 u1_1
    refine State.cguCtrl_keeps hP ?_
    exact u1_1

theorem State.hrcTrim_keeps (hP : Closed P) {a0 a1 a2 a3 a4} (h0' : P a0) : P (State.hrcTrim a0 a1 a2 a3 a4) := by
  unfold State.hrcTrim
  extract_lets +onlyGivenNames v1
  have h1 : P v1 := by
    unfold v1
    refine State.put_keeps hP ?_
    refine State.put_keeps hP ?_
    exact h0'
  clear_value v1
  extract_lets +onlyGivenNames v2
  clear_value v2
  extract_lets +onlyGivenNames v3
  clear_value v3
  extract_lets +onlyGivenNames v4
  clear_value v4
  extract_lets +onlyGivenNames v5
  have h5 : P v5 := by
    unfold v5
    refine keeps_ite ?_ ?_
    · refine State.raise_keeps hP ?_
      exact h1
    · exact h1
  clear_value v5
  extract_lets +onlyGivenNames v6
  clear_value v6
  extract_lets +onlyGivenNames v7
  have h7 : P v7 := by
    unfold v7
    refine keeps_mk hP ?_
    exact h5
  clear_value v7
  extract_lets +onlyGivenNames v8
  have h8 : P v8 := by
    unfold v8
    refine keeps_ite ?_ ?_
    · refine State.inc_keeps hP ?_
      exact h7
    · exact h7
  clear_value v8
  extract_lets +onlyGivenNames v9
  have h9 : P v9 := by
    unfold v9
    refine State.put_keeps hP ?_
    exact h8
  clear_value v9
  refine State.put_keeps hP ?_
  exact h9

theorem hrcTrimWindow_keeps (hP : Closed P) {a0 a1} (h1' : P a1) : P (hrcTrimWindow a0 a1) := by
  unfold hrcTrimWindow
  extract_lets +onlyGivenNames v1
  clear_value v1
  refine keeps_ite ?_ ?_
  · exact h1'
  · refine State.hrcTrim_keeps hP ?_
    exact h1'

theorem State.fallbackTrim_keeps (hP : Closed P) {a0 a1 a2 a3 a4 a5} (h0' : P a0) : P (State.fallbackTrim a0 a1 a2 a3 a4 a5) := by
  unfold State.fallbackTrim
  extract_lets +onlyGivenNames v1
  have h1 : P v1 := by
    unfold v1
    refine State.put_keeps hP ?_
    exact h0'
  clear_value v1
  extract_lets +onlyGivenNames v2
  clear_value v2
  refine keeps_ite ?_ ?_
  · refine State.hrcTrim_keeps hP ?_
    exact h1
  · refine State.raise_keeps hP ?_
    refine State.inc_keeps hP ?_
    exact h1

theorem canTrimWindow_keeps (hP : Closed P) {a0 a1} (h1' : P a1) : P (canTrimWindow a0 a1) := by
  unfold canTrimWindow
  refine keeps_ite ?_ ?_
  · exact h1'
  · extract_lets +onlyGivenNames v1
    clear_value v1
    extract_lets +onlyGivenNames v2
    clear_value v2
    extract_lets +onlyGivenNames v3
    clear_value v3
    refine State.fallbackTrim_keeps hP ?_
    exact h1'

theorem beaconTrimWindow_keeps (hP : Closed P) {a0 a1} (h1' : P a1) : P (beaconTrimWindow a0 a1) := by
  unfold beaconTrimWindow
  refine keeps_ite ?_ ?_
  · exact h1'
  · extract_lets +onlyGivenNames v1
    clear_value v1
    extract_lets +onlyGivenNames v2
    clear_value v2
    extract_lets +onlyGivenNames v3
    clear_value v3
    refine State.fallbackTrim_keeps hP ?_
    exact h1'

theorem lrcTrimWindow_keeps (hP : Closed P) {a0 a1} (h1' : P a1) : P (lrcTrimWindow a0 a1) := by
  unfold lrcTrimWindow
  refine keeps_ite ?_ ?_
  · exact h1'
  · extract_lets +onlyGivenNames v1
    clear_value v1
    extract_lets +onlyGivenNames v2
    have h2 : P v2.2 := by
      unfold v2
      refine State.draw_keeps hP ?_
      exact h1'
    clear_value v2
    extract_lets +onlyGivenNames v3
    have h3 : P v3 := by
      unfold v3
      assumption
    clear_value v3
    extract_lets +onlyGivenNames v4
    clear_value v4
    extract_lets +onlyGivenNames v5
    clear_value v5
    extract_lets +onlyGivenNames v6
    have h6 : P v6 := by
      unfold v6
      refine keeps_ite ?_ ?_
      · refine State.raise_keeps hP ?_
        exact h3
      · exact h3
    clear_value v6
    extract_lets +onlyGivenNames v7
    have h7 : P v7 := by
      unfold v7
      refine keeps_ite ?_ ?_
      · exact h6
      · refine State.inc_keeps hP ?_
        exact h6
    clear_value v7
    extract_lets +onlyGivenNames v8
    clear_value v8
    extract_lets +onlyGivenNames v9
    have h9 : P v9 := by
      unfold v9
      refine keeps_mk hP ?_
      exact h7
    clear_value v9
    refine State.put_keeps hP ?_
    exact h9

theorem State.lastReset_keeps (hP : Closed P) {a0 a1 a2} (h0' : P a0) : P (State.lastReset a0 a1 a2) := by
  unfold State.lastReset
  extract_lets +onlyGivenNames v1
  have h1 : P v1 := by
    unfold v1
    refine State.put_keeps hP ?_
    refine State.put_keeps hP ?_
    exact h0'
  clear_value v1
  refine keeps_ite ?_ ?_
  · refine State.inc_keeps hP ?_
    exact h1
  · exact h1

theorem State.testCause_keeps (hP : Closed P) {a0} (h0' : P a0) : P (State.testCause a0) := by
  unfold State.testCause
  refine State.devCause_keeps hP ?_
  exact h0'

theorem State.sample_keeps (hP : Closed P) {a0 a1} (h0' : P a0) : P (State.sample a0 a1) := by
  unfold State.sample
  extract_lets +onlyGivenNames v1
  have h1 : P v1 := by
    unfold v1
    refine State.testCause_keeps hP ?_
    refine State.put_keeps hP ?_
    exact h0'
  clear_value v1
  refine State.put_keeps hP ?_
  refine State.put_keeps hP ?_
  exact h1

theorem State.stillHolds_keeps (hP : Closed P) {a0} (h0' : P a0) : P (State.stillHolds a0) := by
  unfold State.stillHolds
  extract_lets +onlyGivenNames v1
  have h1 : P v1 := by
    unfold v1
    refine State.testCause_keeps hP ?_
    exact h0'
  clear_value v1
  extract_lets +onlyGivenNames v2
  have h2 : P v2 := by
    unfold v2
    refine keeps_ite ?_ ?_
    · refine State.dwellStart_keeps hP ?_
      refine State.devCause_keeps hP ?_
      exact h1
    · exact h1
  clear_value v2
  refine keeps_ite ?_ ?_
  · exact h2
  · refine State.devCause_keeps hP ?_
    exact h2

theorem State.coldReset_keeps (hP : Closed P) {a0 a1} (h0' : P a0) : P (State.coldReset a0 a1) := by
  unfold State.coldReset
  extract_lets +onlyGivenNames v1
  clear_value v1
  extract_lets +onlyGivenNames v2
  have h2 : P v2 := by
    unfold v2
    refine keeps_mk hP ?_
    exact h0'
  clear_value v2
  extract_lets +onlyGivenNames v3
  have h3 : P v3 := by
    unfold v3
    refine State.lastReset_keeps hP ?_
    refine State.dropT_keeps hP ?_
    refine State.dropV_keeps hP ?_
    exact h2
  clear_value v3
  extract_lets +onlyGivenNames v4
  have h4 : P v4 := by
    unfold v4
    refine State.tcaSet_keeps hP ?_
    exact h3
  clear_value v4
  extract_lets +onlyGivenNames v5
  have h5 : P v5 := by
    unfold v5
    refine State.wakSet_keeps hP ?_
    exact h4
  clear_value v5
  refine State.stillHolds_keeps hP ?_
  refine State.put_keeps hP ?_
  exact h5

theorem State.warmDrop_keeps (hP : Closed P) {a0 a1} (h0' : P a0) : P (State.warmDrop a0 a1) := by
  unfold State.warmDrop
  extract_lets +onlyGivenNames v1
  clear_value v1
  extract_lets +onlyGivenNames v2
  have h2 : P v2 := by
    unfold v2
    refine State.devCause_keeps hP ?_
    exact h0'
  clear_value v2
  extract_lets +onlyGivenNames v3
  have h3 : P v3 := by
    unfold v3
    refine State.dropV_keeps hP ?_
    exact h2
  clear_value v3
  extract_lets +onlyGivenNames v4
  have h4 : P v4 := by
    unfold v4
    refine State.tcaSet_keeps hP ?_
    exact h3
  clear_value v4
  refine State.stillHolds_keeps hP ?_
  refine keeps_ite ?_ ?_
  · refine State.put_keeps hP ?_
    exact h4
  · exact h4

theorem State.warmReset_keeps (hP : Closed P) {a0 a1 a2 a3} (h0' : P a0) : P (State.warmReset a0 a1 a2 a3) := by
  unfold State.warmReset
  refine State.domSync_keeps hP ?_
  refine State.lastReset_keeps hP ?_
  refine State.warmDrop_keeps hP ?_
  exact h0'

theorem State.blank_keeps (hP : Closed P) {a0} (h0' : P a0) : P (State.blank a0) :=
  State.showFuses_keeps hP (hP.blank (State.flashAbort_keeps hP h0') rfl rfl
    (fun h => ⟨AMap.wf_nil, h.flash, AMap.wf_nil, AMap.wf_nil, h.host⟩))

theorem por_keeps (hP : Closed P) {a0 a1} (h1' : P a1) : P (por a0 a1) := by
  unfold por
  refine State.sample_keeps hP ?_
  refine State.blank_keeps hP ?_
  exact h1'

theorem vstbyBelowPor_keeps (hP : Closed P) {a0} (h0' : P a0) : P (vstbyBelowPor a0) := by
  unfold vstbyBelowPor
  refine State.put_keeps hP ?_
  refine State.put_keeps hP ?_
  refine State.blank_keeps hP ?_
  exact h0'

theorem supplyReset_keeps (hP : Closed P) {a0 a1} (h1' : P a1) : P (supplyReset a0 a1) := by
  unfold supplyReset
  refine keeps_ite ?_ ?_
  · exact h1'
  · refine keeps_ite ?_ ?_
    · refine State.pwrSet_keeps hP ?_
      exact h1'
    · refine State.pwrSet_keeps hP ?_
      refine State.coldReset_keeps hP ?_
      exact h1'

theorem supplyResetRelease_keeps (hP : Closed P) {a0 a1} (h1' : P a1) : P (supplyResetRelease a0 a1) := by
  unfold supplyResetRelease
  refine keeps_ite ?_ ?_
  · exact h1'
  · refine State.domSync_keeps hP ?_
    refine State.pwrSet_keeps hP ?_
    refine State.sample_keeps hP ?_
    exact h1'

theorem pinReset_keeps (hP : Closed P) {a0 a1} (h1' : P a1) : P (pinReset a0 a1) := by
  unfold pinReset
  refine keeps_ite ?_ ?_
  · exact h1'
  · extract_lets +onlyGivenNames v1
    clear_value v1
    extract_lets +onlyGivenNames v2
    have h2 : P v2 := by
      unfold v2
      refine State.sample_keeps hP ?_
      refine State.coldReset_keeps hP ?_
      exact h1'
    clear_value v2
    extract_lets +onlyGivenNames v3
    have h3 : P v3 := by
      unfold v3
      refine State.put_keeps hP ?_
      exact h2
    clear_value v3
    refine keeps_ite ?_ ?_
    · refine State.wakeCause_keeps hP ?_
      refine State.xtalAmp_keeps hP ?_
      exact h3
    · exact h3

theorem State.devReset_keeps (hP : Closed P) {a0 a1 a2} (h0' : P a0) : P (State.devReset a0 a1 a2) := by
  unfold State.devReset
  refine keeps_ite ?_ ?_
  · refine State.wdgSet_keeps hP ?_
    exact h0'
  · refine State.err_keeps hP ?_
    exact h0'

theorem State.dueReset_keeps (hP : Closed P) {a0} (h0' : P a0) : P (State.dueReset a0) := by
  unfold State.dueReset
  refine keeps_ite ?_ ?_
  · extract_lets +onlyGivenNames v1
    have h1 : P v1 := by
      unfold v1
      refine State.warmReset_keeps hP ?_
      refine State.wdgSet_keeps hP ?_
      exact h0'
    clear_value v1
    refine keeps_mk hP ?_
    exact h1
  · exact h0'

theorem softReset_keeps (hP : Closed P) {a0 a1 a2} (h2' : P a2) : P (softReset a0 a1 a2) := by
  unfold softReset
  refine State.dueReset_keeps hP ?_
  refine State.direct_keeps hP ?_ ?_
  · exact h2'
  · intro u1_0 u1_1
    refine State.devReset_keeps hP ?_
    exact u1_1

theorem State.wdogReset_keeps (hP : Closed P) {a0 a1} (h0' : P a0) : P (State.wdogReset a0 a1) := by
  unfold State.wdogReset
  refine State.warmReset_keeps hP ?_
  exact h0'

theorem State.fwKick_keeps (hP : Closed P) {a0 a1 a2} (h0' : P a0) : P (State.fwKick a0 a1 a2) := by
  unfold State.fwKick
  refine keeps_ite ?_ ?_
  · refine State.err_keeps hP ?_
    exact h0'
  · refine keeps_ite ?_ ?_
    · exact h0'
    · refine keeps_ite ?_ ?_
      · extract_lets +onlyGivenNames v1
        clear_value v1
        refine State.put_keeps hP ?_
        refine State.wdgSet_keeps hP ?_
        exact h0'
      · refine State.wdogReset_keeps hP ?_
        exact h0'

theorem fwKick_keeps (hP : Closed P) {a0 a1 a2} (h2' : P a2) : P (fwKick a0 a1 a2) := by
  unfold fwKick
  refine State.command_keeps hP ?_ ?_
  · exact h2'
  · intro u1_0 u1_1
    refine State.gate0_keeps hP ?_ ?_
    · exact u1_1
    · intro u2_0 u2_1
      refine State.fwKick_keeps hP ?_
      exact u2_1

theorem fwWatchdogWarn_keeps (hP : Closed P) {a0} (h0' : P a0) : P (fwWatchdogWarn a0) := by
  unfold fwWatchdogWarn
  refine keeps_ite ?_ ?_
  · refine State.raise_keeps hP ?_
    refine State.nmi_keeps hP ?_
    exact h0'
  · exact h0'

theorem fwWatchdogExpiry_keeps (hP : Closed P) {a0} (h0' : P a0) : P (fwWatchdogExpiry a0) := by
  unfold fwWatchdogExpiry
  refine keeps_ite ?_ ?_
  · refine State.wdogReset_keeps hP ?_
    exact h0'
  · exact h0'

theorem lockstepMismatch_keeps (hP : Closed P) {a0 a1} (h1' : P a1) : P (lockstepMismatch a0 a1) := by
  unfold lockstepMismatch
  refine keeps_ite ?_ ?_
  · refine State.wdogReset_keeps hP ?_
    refine State.nmi_keeps hP ?_
    refine State.fault_keeps hP ?_
    exact h1'
  · exact h1'

theorem State.fuseKey_keeps (hP : Closed P) {a0 a1} (h0' : P a0) : P (State.fuseKey a0 a1) := by
  unfold State.fuseKey
  split
  · exact h0'
  · refine State.showFuses_keeps hP ?_
    refine State.updSet_keeps hP ?_
    exact h0'

theorem State.bootInfo_keeps (hP : Closed P) {a0 a1 a2 a3} (h0' : P a0) : P (State.bootInfo a0 a1 a2 a3) := by
  unfold State.bootInfo
  refine State.put_keeps hP ?_
  refine State.put_keeps hP ?_
  refine State.put_keeps hP ?_
  exact h0'

theorem State.bootStage_keeps (hP : Closed P) {a0 a1} (h0' : P a0) : P (State.bootStage a0 a1) := by
  unfold State.bootStage
  refine State.updSet_keeps hP ?_
  exact h0'

theorem State.bootDone_keeps (hP : Closed P) {a0 a1} (h0' : P a0) : P (State.bootDone a0 a1) := by
  unfold State.bootDone
  extract_lets +onlyGivenNames v1
  clear_value v1
  extract_lets +onlyGivenNames v2
  clear_value v2
  extract_lets +onlyGivenNames v3
  have h3 : P v3 := by
    unfold v3
    refine keeps_foldl (fun u4 x4 h4 => ?_) ?_
    · refine State.put_keeps hP ?_
      exact h4
    · exact h0'
  clear_value v3
  extract_lets +onlyGivenNames v5
  have h5 : P v5 := by
    unfold v5
    refine State.put_keeps hP ?_
    refine State.put_keeps hP ?_
    exact h3
  clear_value v5
  extract_lets +onlyGivenNames v6
  clear_value v6
  extract_lets +onlyGivenNames v7
  clear_value v7
  extract_lets +onlyGivenNames v8
  have h8 : P v8 := by
    unfold v8
    refine keeps_ite ?_ ?_
    · refine State.updSet_keeps hP ?_
      exact h5
    · exact h5
  clear_value v8
  extract_lets +onlyGivenNames v9
  have h9 : P v9 := by
    unfold v9
    refine keeps_ite ?_ ?_
    · refine State.raise_keeps hP ?_
      exact h8
    · exact h8
  clear_value v9
  refine State.bootStage_keeps hP ?_
  exact h9

theorem State.flashProbe_keeps (hP : Closed P) {a0} (h0' : P a0) : P (State.flashProbe a0) := by
  unfold State.flashProbe
  refine State.updSet_keeps hP ?_
  exact h0'

theorem State.bootFails_keeps (hP : Closed P) {a0 a1 a2} (h0' : P a0) : P (State.bootFails a0 a1 a2) := by
  unfold State.bootFails
  refine keeps_ite ?_ ?_
  · extract_lets +onlyGivenNames v1
    clear_value v1
    extract_lets +onlyGivenNames v2
    clear_value v2
    extract_lets +onlyGivenNames v3
    clear_value v3
    extract_lets +onlyGivenNames v4
    have h4 : P v4 := by
      unfold v4
      refine State.warmDrop_keeps hP ?_
      exact h0'
    clear_value v4
    extract_lets +onlyGivenNames v5
    have h5 : P v5 := by
      unfold v5
      refine State.pwrSet_keeps hP ?_
      exact h4
    clear_value v5
    extract_lets +onlyGivenNames v6
    have h6 : P v6 := by
      unfold v6
      refine State.wdgSet_keeps hP ?_
      exact h5
    clear_value v6
    extract_lets +onlyGivenNames v7
    have h7 : P v7 := by
      unfold v7
      refine State.updSet_keeps hP ?_
      exact h6
    clear_value v7
    extract_lets +onlyGivenNames v8
    have h8 : P v8 := by
      unfold v8
      refine State.bootInfo_keeps hP ?_
      refine State.put_keeps hP ?_
      exact h7
    clear_value v8
    refine State.domSync_keeps hP ?_
    refine State.recWrite_keeps hP ?_
    exact h8
  · extract_lets +onlyGivenNames v9
    have h9 : P v9 := by
      unfold v9
      refine State.put_keeps hP ?_
      refine State.flashProbe_keeps hP ?_
      refine State.bootStage_keeps hP ?_
      exact h0'
    clear_value v9
    extract_lets +onlyGivenNames v10
    have h10 : P v10 := by
      unfold v10
      refine State.lastLost_keeps hP ?_
      refine State.lstSet_keeps hP ?_
      exact h9
    clear_value v10
    refine State.domSync_keeps hP ?_
    refine State.portSyncAll_keeps hP ?_
    refine State.channelSync_keeps hP ?_
    exact h10

theorem bootStart_keeps (hP : Closed P) {a0} (h0' : P a0) : P (bootStart a0) := by
  unfold bootStart
  refine keeps_ite ?_ ?_
  · exact h0'
  · extract_lets +onlyGivenNames v1
    clear_value v1
    extract_lets +onlyGivenNames v2
    have h2 : P v2 := by
      unfold v2
      refine State.wdgSet_keeps hP ?_
      exact h0'
    clear_value v2
    extract_lets +onlyGivenNames v3
    clear_value v3
    extract_lets +onlyGivenNames v4
    have h4 : P v4 := by
      unfold v4
      refine State.updSet_keeps hP ?_
      exact h2
    clear_value v4
    extract_lets +onlyGivenNames v5
    have h5 : P v5 := by
      unfold v5
      refine keeps_ite ?_ ?_
      · refine State.flashProbe_keeps hP ?_
        exact h4
      · exact h4
    clear_value v5
    extract_lets +onlyGivenNames v6
    clear_value v6
    extract_lets +onlyGivenNames v7
    have h7 : P v7 := by
      unfold v7
      refine State.put_keeps hP ?_
      refine State.bootInfo_keeps hP ?_
      exact h5
    clear_value v7
    split
    · extract_lets +onlyGivenNames v8
      have h8 : ∀ x0 x1 x2 x3, P x0 → P (v8 x0 x1 x2 x3) := by
        unfold v8
        intro u9_0 u9_1 u9_2 u9_3 u9_4
        refine State.updSet_keeps hP ?_
        exact u9_4
      clear_value v8
      refine keeps_ite ?_ ?_
      · refine State.recWrite_keeps hP ?_
        refine h8 _ _ _ _ ?_
        exact h7
      · refine keeps_ite ?_ ?_
        · refine State.recWrite_keeps hP ?_
          refine State.bootInfo_keeps hP ?_
          refine h8 _ _ _ _ ?_
          exact h7
        · refine h8 _ _ _ _ ?_
          exact h7
    · refine State.put_keeps hP ?_
      refine State.bootStage_keeps hP ?_
      exact h7
    · refine State.put_keeps hP ?_
      refine State.bootStage_keeps hP ?_
      exact h7

theorem State.bootPart_keeps (hP : Closed P) {a0 a1 a2 a3} (h0' : P a0) : P (State.bootPart a0 a1 a2 a3) := by
  unfold State.bootPart
  extract_lets +onlyGivenNames v1
  clear_value v1
  extract_lets +onlyGivenNames v2
  clear_value v2
  refine keeps_ite ?_ ?_
  · refine State.bootFails_keeps hP ?_
    exact h0'
  · refine keeps_ite ?_ ?_
    · refine State.bootStage_keeps hP ?_
      exact h0'
    · refine State.bootFails_keeps hP ?_
      exact h0'

theorem State.storePages_keeps (hP : Closed P) {a0 a1 a2} (h0' : P a0) : P (State.storePages a0 a1 a2) :=
  keeps_foldl (fun _ _ hu => State.lstSet_keeps hP hu (fun _ h => Lst.setBytes_wf h)) h0'

theorem State.bootPrio_keeps (hP : Closed P) {a0 a1 a2} (h0' : P a0) : P (State.bootPrio a0 a1 a2) := by
  unfold State.bootPrio
  extract_lets +onlyGivenNames v1
  clear_value v1
  extract_lets +onlyGivenNames v2
  clear_value v2
  refine keeps_ite ?_ ?_
  · refine State.bootFails_keeps hP ?_
    exact h0'
  · refine keeps_ite ?_ ?_
    · refine State.bootFails_keeps hP ?_
      exact h0'
    · extract_lets +onlyGivenNames v3
      clear_value v3
      extract_lets +onlyGivenNames v4
      have h4 : P v4 := by
        unfold v4
        refine State.storePages_keeps hP ?_
        refine State.lstSet_keeps hP ?_
        exact h0'
      clear_value v4
      refine State.bootStage_keeps hP ?_
      refine State.prioApply_keeps hP ?_
      refine State.put_keeps hP ?_
      refine State.imageTable_keeps hP ?_
      exact h4

theorem State.bootLast_keeps (hP : Closed P) {a0 a1} (h0' : P a0) : P (State.bootLast a0 a1) := by
  unfold State.bootLast
  extract_lets +onlyGivenNames v1
  clear_value v1
  extract_lets +onlyGivenNames v2
  clear_value v2
  extract_lets +onlyGivenNames v3
  clear_value v3
  refine keeps_ite ?_ ?_
  · refine State.bootFails_keeps hP ?_
    exact h0'
  · refine keeps_ite ?_ ?_
    · refine State.bootFails_keeps hP ?_
      exact h0'
    · refine keeps_ite ?_ ?_
      · refine State.bootFails_keeps hP ?_
        exact h0'
      · refine keeps_ite ?_ ?_
        · refine State.bootFails_keeps hP ?_
          exact h0'
        · extract_lets +onlyGivenNames v4
          clear_value v4
          extract_lets +onlyGivenNames v5
          have h5 : P v5 := by
            unfold v5
            refine State.put_keeps hP ?_
            refine State.imageTable_keeps hP ?_
            refine State.imageStore_keeps hP ?_
            exact h0'
          clear_value v5
          refine State.bootDone_keeps hP ?_
          refine State.lastApply_keeps hP ?_
          exact h5

theorem bootPartChecked_keeps (hP : Closed P) {a0 a1} (h1' : P a1) : P (bootPartChecked a0 a1) := by
  unfold bootPartChecked
  extract_lets +onlyGivenNames v1
  clear_value v1
  extract_lets +onlyGivenNames v2
  clear_value v2
  split
  · refine keeps_ite ?_ ?_
    · refine State.bootFails_keeps hP ?_
      exact h1'
    · split
      · refine State.bootStage_keeps hP ?_
        refine State.fuseKey_keeps hP ?_
        exact h1'
      · refine State.bootFails_keeps hP ?_
        exact h1'
  · refine State.bootPart_keeps hP ?_
    exact h1'
  · refine State.bootPart_keeps hP ?_
    exact h1'
  · refine State.bootPart_keeps hP ?_
    exact h1'
  · refine State.bootPart_keeps hP ?_
    exact h1'
  · refine keeps_ite ?_ ?_
    · refine State.bootPrio_keeps hP ?_
      exact h1'
    · exact h1'
  · refine keeps_ite ?_ ?_
    · refine State.bootPrio_keeps hP ?_
      exact h1'
    · exact h1'
  · refine keeps_ite ?_ ?_
    · refine State.bootLast_keeps hP ?_
      exact h1'
    · exact h1'
  · refine keeps_ite ?_ ?_
    · refine State.bootDone_keeps hP ?_
      refine State.lastApply_keeps hP ?_
      exact h1'
    · exact h1'
  · exact h1'

theorem State.checkFails_keeps (hP : Closed P) {a0} (h0' : P a0) : P (State.checkFails a0) := by
  unfold State.checkFails
  extract_lets +onlyGivenNames v1
  have h1 : P v1 := by
    unfold v1
    refine State.fault_keeps hP ?_
    exact h0'
  clear_value v1
  refine keeps_ite ?_ ?_
  · refine State.reloadStart_keeps hP ?_
    exact h1
  · extract_lets +onlyGivenNames v2
    have h2 : P v2 := by
      unfold v2
      refine State.updSet_keeps hP ?_
      exact h1
    clear_value v2
    refine keeps_ite ?_ ?_
    · refine State.bootStage_keeps hP ?_
      exact h2
    · exact h2

theorem selfTestDone_keeps (hP : Closed P) {a0 a1 a2 a3 a4} (h4' : P a4) : P (selfTestDone a0 a1 a2 a3 a4) := by
  unfold selfTestDone
  refine keeps_ite ?_ ?_
  · exact h4'
  · extract_lets +onlyGivenNames v1
    clear_value v1
    extract_lets +onlyGivenNames v2
    have h2 : P v2 := by
      unfold v2
      refine State.inc_keeps hP ?_
      exact h4'
    clear_value v2
    extract_lets +onlyGivenNames v3
    have h3 : P v3 := by
      unfold v3
      refine keeps_ite ?_ ?_
      · exact h2
      · refine State.put_keeps hP ?_
        exact h2
    clear_value v3
    extract_lets +onlyGivenNames v4
    have h4 : P v4 := by
      unfold v4
      refine State.pwrSet_keeps hP ?_
      exact h3
    clear_value v4
    extract_lets +onlyGivenNames v5
    have h5 : P v5 := by
      unfold v5
      refine keeps_foldl (fun u6 x6 h6 => ?_) ?_
      · refine State.fault_keeps hP ?_
        exact h6
      · exact h4
    clear_value v5
    extract_lets +onlyGivenNames v7
    have h7 : P v7 := by
      unfold v7
      refine State.domainServes_keeps hP ?_
      exact h5
    clear_value v7
    refine keeps_ite ?_ ?_
    · refine State.checkFails_keeps hP ?_
      exact h7
    · exact h7

theorem State.updResult_keeps (hP : Closed P) {a0 a1 a2} (h0' : P a0) : P (State.updResult a0 a1 a2) := by
  unfold State.updResult
  extract_lets +onlyGivenNames v1
  have h1 : P v1 := by
    unfold v1
    refine State.put_keeps hP ?_
    refine State.put_keeps hP ?_
    exact h0'
  clear_value v1
  refine keeps_ite ?_ ?_
  · exact h1
  · refine State.raise_keeps hP ?_
    exact h1

theorem State.updUnnamed_keeps (hP : Closed P) {a0 a1} (h0' : P a0) : P (State.updUnnamed a0 a1) := by
  unfold State.updUnnamed
  extract_lets +onlyGivenNames v1
  have h1 : P v1.2 := by
    unfold v1
    refine State.draw_keeps hP ?_
    exact h0'
  clear_value v1
  refine State.raise_keeps hP ?_
  refine State.updResult_keeps hP ?_
  assumption

theorem State.updReset_keeps (hP : Closed P) {a0} (h0' : P a0) : P (State.updReset a0) := by
  unfold State.updReset
  extract_lets +onlyGivenNames v1
  clear_value v1
  extract_lets +onlyGivenNames v2
  have h2 : P v2 := by
    unfold v2
    refine State.clearV_keeps hP ?_
    exact h0'
  clear_value v2
  extract_lets +onlyGivenNames v3
  have h3 : P v3 := by
    unfold v3
    refine State.updSet_keeps hP ?_
    exact h2
  clear_value v3
  refine State.put_keeps hP ?_
  exact h3

theorem State.opEnd_keeps (hP : Closed P) {a0 a1} (h0' : P a0) : P (State.opEnd a0 a1) := by
  unfold State.opEnd
  extract_lets +onlyGivenNames v1
  clear_value v1
  extract_lets +onlyGivenNames v2
  have h2 : P v2 := by
    unfold v2
    refine State.put_keeps hP ?_
    refine State.updSet_keeps hP ?_
    exact h0'
  clear_value v2
  extract_lets +onlyGivenNames v3
  have h3 : P v3 := by
    unfold v3
    refine State.updResult_keeps hP ?_
    exact h2
  clear_value v3
  extract_lets +onlyGivenNames v4
  have h4 : P v4 := by
    unfold v4
    refine keeps_ite ?_ ?_
    · refine State.raise_keeps hP ?_
      exact h3
    · exact h3
  clear_value v4
  refine keeps_ite ?_ ?_
  · refine State.updReset_keeps hP ?_
    exact h4
  · exact h4

theorem State.recEnd_keeps (hP : Closed P) {a0 a1 a2} (h0' : P a0) : P (State.recEnd a0 a1 a2) := by
  unfold State.recEnd
  extract_lets +onlyGivenNames v1
  clear_value v1
  split
  · refine State.bootStage_keeps hP ?_
    refine State.put_keeps hP ?_
    exact h0'
  · refine State.bootStage_keeps hP ?_
    refine State.put_keeps hP ?_
    exact h0'
  · refine keeps_ite ?_ ?_
    · refine State.warmReset_keeps hP ?_
      refine State.put_keeps hP ?_
      exact h0'
    · refine State.updResult_keeps hP ?_
      exact h0'
  · refine keeps_ite ?_ ?_
    · refine State.updResult_keeps hP ?_
      refine State.updSet_keeps hP ?_
      refine State.put_keeps hP ?_
      exact h0'
    · refine State.updResult_keeps hP ?_
      exact h0'
  · refine keeps_ite ?_ ?_
    · refine State.opEnd_keeps hP ?_
      refine State.put_keeps hP ?_
      refine State.put_keeps hP ?_
      exact h0'
    · refine State.opEnd_keeps hP ?_
      exact h0'

theorem bootRecordWriteDone_keeps (hP : Closed P) {a0 a1} (h1' : P a1) : P (bootRecordWriteDone a0 a1) := by
  unfold bootRecordWriteDone
  split
  · exact h1'
  · refine keeps_ite h1' ?_
    extract_lets a t
    refine keeps_ite (State.recEnd_keeps hP ?_) (keeps_ite (State.updSet_keeps hP h1') ?_)
    · refine State.updSet_keeps hP h1' (fun x h => ?_)
      dsimp only
      exact Upd.store_wf (Upd.erase_wf h)
    · exact State.recEnd_keeps hP (State.fault_keeps hP (State.flashWild_keeps hP (State.updSet_keeps hP h1')))

theorem State.updBufSet_keeps (hP : Closed P) {a0 a1} (h0' : P a0) : P (State.updBufSet a0 a1) := by
  unfold State.updBufSet
  refine keeps_foldl (fun u1 x1 h1 => ?_) ?_
  · refine State.put_keeps hP ?_
    exact h1
  · exact h0'

theorem State.opStart_keeps (hP : Closed P) {a0 a1 a2 a3} (h0' : P a0) : P (State.opStart a0 a1 a2 a3) := by
  unfold State.opStart
  refine State.put_keeps hP ?_
  refine State.updSet_keeps hP ?_
  exact h0'

theorem State.loadSource_keeps (hP : Closed P) {a0 a1} (h0' : P a0) : P (State.loadSource a0 a1) := by
  unfold State.loadSource
  refine State.updSet_keeps hP ?_
  refine State.put_keeps hP ?_
  exact h0'

theorem State.updCmd_keeps (hP : Closed P) {a0 a1 a2} (h0' : P a0) : P (State.updCmd a0 a1 a2) := by
  unfold State.updCmd
  extract_lets +onlyGivenNames v1
  clear_value v1
  refine keeps_ite ?_ ?_
  · exact h0'
  · refine keeps_ite ?_ ?_
    · refine State.updResult_keeps hP ?_
      exact h0'
    · refine keeps_ite ?_ ?_
      · refine State.updUnnamed_keeps hP ?_
        exact h0'
      · split
        · extract_lets +onlyGivenNames v2
          have h2 : P v2 := by
            unfold v2
            refine keeps_ite ?_ ?_
            · refine State.put_keeps hP ?_
              refine State.put_keeps hP ?_
              exact h0'
            · exact h0'
          clear_value v2
          extract_lets +onlyGivenNames v3
          have h3 : P v3 := by
            unfold v3
            refine keeps_ite ?_ ?_
            · refine State.loadSource_keeps hP ?_
              exact h2
            · exact h2
          clear_value v3
          extract_lets +onlyGivenNames v4
          have h4 : P v4 := by
            unfold v4
            refine State.opStart_keeps hP ?_
            exact h3
          clear_value v4
          refine keeps_ite ?_ ?_
          · refine State.recWrite_keeps hP ?_
            exact h4
          · exact h4
        · refine State.updResult_keeps hP ?_
          exact h0'

theorem State.updOp_keeps (hP : Closed P) {a0 a1 a2} (h0' : P a0) : P (State.updOp a0 a1 a2) := by
  unfold State.updOp
  refine State.direct_keeps hP ?_ ?_
  · exact h0'
  · intro u1_0 u1_1
    refine State.updCmd_keeps hP ?_
    exact u1_1

theorem updOpen_keeps (hP : Closed P) {a0 a1} (h1' : P a1) : P (updOpen a0 a1) := by
  unfold updOpen
  refine State.updOp_keeps hP ?_
  exact h1'

theorem updErase_keeps (hP : Closed P) {a0 a1} (h1' : P a1) : P (updErase a0 a1) := by
  unfold updErase
  refine State.updOp_keeps hP ?_
  exact h1'

theorem updProgram_keeps (hP : Closed P) {a0 a1} (h1' : P a1) : P (updProgram a0 a1) := by
  unfold updProgram
  refine State.updOp_keeps hP ?_
  exact h1'

theorem updRead_keeps (hP : Closed P) {a0 a1} (h1' : P a1) : P (updRead a0 a1) := by
  unfold updRead
  refine State.updOp_keeps hP ?_
  exact h1'

theorem updClose_keeps (hP : Closed P) {a0 a1} (h1' : P a1) : P (updClose a0 a1) := by
  unfold updClose
  refine State.updOp_keeps hP ?_
  exact h1'

theorem updLoadPage_keeps (hP : Closed P) {a0 a1} (h1' : P a1) : P (updLoadPage a0 a1) := by
  unfold updLoadPage
  refine State.updOp_keeps hP ?_
  exact h1'

theorem updLoadDone_keeps (hP : Closed P) {a0 a1} (h1' : P a1) : P (updLoadDone a0 a1) := by
  unfold updLoadDone
  refine State.updOp_keeps hP ?_
  exact h1'

theorem State.loadFails_keeps (hP : Closed P) {a0 a1 a2} (h0' : P a0) : P (State.loadFails a0 a1 a2) := by
  unfold State.loadFails
  extract_lets +onlyGivenNames v1
  have h1 : P v1 := by
    unfold v1
    refine State.put_keeps hP ?_
    refine State.put_keeps hP ?_
    exact h0'
  clear_value v1
  extract_lets +onlyGivenNames v2
  have h2 : P v2 := by
    unfold v2
    refine State.updSet_keeps hP ?_
    exact h1
  clear_value v2
  extract_lets +onlyGivenNames v3
  have h3 : P v3.2 := by
    unfold v3
    refine State.draw_keeps hP ?_
    exact h2
  clear_value v3
  refine State.opEnd_keeps hP ?_
  assumption

theorem State.loadPage_keeps (hP : Closed P) {a0 a1 a2} (h0' : P a0) : P (State.loadPage a0 a1 a2) := by
  unfold State.loadPage
  extract_lets +onlyGivenNames v1
  clear_value v1
  extract_lets +onlyGivenNames v2
  have h2 : P v2 := by
    unfold v2
    refine State.updSet_keeps hP ?_
    exact h0'
  clear_value v2
  extract_lets +onlyGivenNames v3
  clear_value v3
  refine keeps_ite ?_ ?_
  · split
    · refine State.opEnd_keeps hP ?_
      refine State.fuseKey_keeps hP ?_
      exact h2
    · refine State.loadFails_keeps hP ?_
      exact h2
  · refine keeps_ite ?_ ?_
    · refine State.opEnd_keeps hP ?_
      exact h2
    · extract_lets +onlyGivenNames v4
      clear_value v4
      extract_lets +onlyGivenNames v5
      have h5 : P v5 := by
        unfold v5
        split
        · refine State.lstSet_keeps hP ?_
          exact h2
        · exact h2
      clear_value v5
      refine keeps_ite ?_ ?_
      · refine State.loadFails_keeps hP ?_
        exact h5
      · split
        · refine State.loadFails_keeps hP ?_
          exact h5
        · refine State.opEnd_keeps hP ?_
          exact h5

theorem State.loadDone_keeps (hP : Closed P) {a0} (h0' : P a0) : P (State.loadDone a0) := by
  unfold State.loadDone
  extract_lets +onlyGivenNames v1
  clear_value v1
  extract_lets +onlyGivenNames v2
  clear_value v2
  extract_lets +onlyGivenNames v3
  clear_value v3
  extract_lets +onlyGivenNames v4
  clear_value v4
  refine keeps_ite ?_ ?_
  · refine State.loadFails_keeps hP ?_
    exact h0'
  · split
    · refine State.loadFails_keeps hP ?_
      exact h0'
    · refine keeps_ite ?_ ?_
      · refine State.loadFails_keeps hP ?_
        exact h0'
      · extract_lets +onlyGivenNames v5
        clear_value v5
        extract_lets +onlyGivenNames v6
        have h6 : P v6 := by
          unfold v6
          refine State.updSet_keeps hP ?_
          exact h0'
        clear_value v6
        extract_lets +onlyGivenNames v7
        have h7 : P v7 := by
          unfold v7
          refine State.lastApply_keeps hP ?_
          refine State.imageTable_keeps hP ?_
          refine State.imageStore_keeps hP ?_
          exact h6
        clear_value v7
        refine State.opEnd_keeps hP ?_
        refine State.bootDone_keeps hP ?_
        exact h7

theorem updOpDone_keeps (hP : Closed P) {a0 a1} (h1' : P a1) : P (updOpDone a0 a1) := by
  unfold updOpDone
  split
  · exact h1'
  · refine keeps_ite ?_ ?_
    · exact h1'
    · split
      · refine keeps_ite ?_ ?_
        · refine State.opEnd_keeps hP ?_
          refine State.put_keeps hP ?_
          refine State.updSet_keeps hP ?_
          exact h1'
        · refine State.opEnd_keeps hP ?_
          refine State.flashWild_keeps hP ?_
          exact h1'
      · refine keeps_ite ?_ ?_
        · refine State.opEnd_keeps hP ?_
          refine State.updSet_keeps hP ?_
          exact h1'
        · refine State.opEnd_keeps hP ?_
          refine State.flashWild_keeps hP ?_
          exact h1'
      · refine keeps_ite ?_ ?_
        · refine State.opEnd_keeps hP ?_
          refine State.flashProgram_keeps hP ?_
          exact h1'
        · refine State.opEnd_keeps hP ?_
          refine State.flashWild_keeps hP ?_
          exact h1'
      · refine keeps_ite ?_ ?_
        · refine State.opEnd_keeps hP ?_
          refine State.updBufSet_keeps hP ?_
          exact h1'
        · refine State.opEnd_keeps hP ?_
          exact h1'
      · refine keeps_ite ?_ ?_
        · exact h1'
        · refine State.opEnd_keeps hP ?_
          refine State.put_keeps hP ?_
          refine State.put_keeps hP ?_
          exact h1'
      · refine keeps_ite ?_ ?_
        · exact h1'
        · refine State.loadPage_keeps hP ?_
          exact h1'
      · refine keeps_ite ?_ ?_
        · refine State.loadDone_keeps hP ?_
          exact h1'
        · exact h1'

theorem State.armWrite_keeps (hP : Closed P) {a0 a1 a2} (h0' : P a0) : P (State.armWrite a0 a1 a2) := by
  unfold State.armWrite
  extract_lets +onlyGivenNames v1
  have h1 : P v1 := by
    unfold v1
    refine keeps_ite ?_ ?_
    · refine State.put_keeps hP ?_
      exact h0'
    · exact h0'
  clear_value v1
  refine keeps_ite ?_ ?_
  · exact h1
  · refine keeps_ite ?_ ?_
    · refine State.updResult_keeps hP ?_
      exact h1
    · split
      · refine State.updResult_keeps hP ?_
        refine State.put_keeps hP ?_
        exact h1
      · refine State.updResult_keeps hP ?_
        exact h1

theorem updArm_keeps (hP : Closed P) {a0 a1} (h1' : P a1) : P (updArm a0 a1) := by
  unfold updArm
  refine State.direct_keeps hP ?_ ?_
  · exact h1'
  · intro u1_0 u1_1
    refine State.armWrite_keeps hP ?_
    exact u1_1

theorem updDisarm_keeps (hP : Closed P) {a0 a1} (h1' : P a1) : P (updDisarm a0 a1) := by
  unfold updDisarm
  refine State.direct_keeps hP ?_ ?_
  · exact h1'
  · intro u1_0 u1_1
    refine State.armWrite_keeps hP ?_
    exact u1_1

theorem State.restartWrite_keeps (hP : Closed P) {a0 a1} (h0' : P a0) : P (State.restartWrite a0 a1) := by
  unfold State.restartWrite
  refine keeps_ite ?_ ?_
  · exact h0'
  · refine keeps_ite ?_ ?_
    · refine State.updResult_keeps hP ?_
      exact h0'
    · refine keeps_ite ?_ ?_
      · refine State.updResult_keeps hP ?_
        exact h0'
      · refine keeps_ite ?_ ?_
        · refine State.updResult_keeps hP ?_
          exact h0'
        · split
          · refine State.recWrite_keeps hP ?_
            refine State.updResult_keeps hP ?_
            exact h0'
          · refine State.updResult_keeps hP ?_
            exact h0'

theorem updRestart_keeps (hP : Closed P) {a0 a1} (h1' : P a1) : P (updRestart a0 a1) := by
  unfold updRestart
  refine State.direct_keeps hP ?_ ?_
  · exact h1'
  · intro u1_0 u1_1
    refine State.restartWrite_keeps hP ?_
    exact u1_1

theorem State.confirmWrite_keeps (hP : Closed P) {a0 a1} (h0' : P a0) : P (State.confirmWrite a0 a1) := by
  unfold State.confirmWrite
  refine keeps_ite ?_ ?_
  · exact h0'
  · refine keeps_ite ?_ ?_
    · refine State.updResult_keeps hP ?_
      exact h0'
    · refine keeps_ite ?_ ?_
      · refine State.updResult_keeps hP ?_
        exact h0'
      · refine keeps_ite ?_ ?_
        · refine State.updResult_keeps hP ?_
          exact h0'
        · refine State.recWrite_keeps hP ?_
          exact h0'

theorem updConfirm_keeps (hP : Closed P) {a0 a1} (h1' : P a1) : P (updConfirm a0 a1) := by
  unfold updConfirm
  refine State.direct_keeps hP ?_ ?_
  · exact h1'
  · intro u1_0 u1_1
    refine State.confirmWrite_keeps hP ?_
    exact u1_1

theorem trialExpiry_keeps (hP : Closed P) {a0} (h0' : P a0) : P (trialExpiry a0) := by
  unfold trialExpiry
  refine keeps_ite ?_ ?_
  · exact h0'
  · refine State.raise_keeps hP ?_
    refine State.put_keeps hP ?_
    refine State.updSet_keeps hP ?_
    exact h0'

theorem speedFrameRx_keeps (hP : Closed P) {a0 a1 a2 a3 a4} (h4' : P a4) : P (speedFrameRx a0 a1 a2 a3 a4) := by
  unfold speedFrameRx
  refine keeps_ite ?_ ?_
  · exact h4'
  · extract_lets +onlyGivenNames v1
    clear_value v1
    extract_lets +onlyGivenNames v2
    clear_value v2
    extract_lets +onlyGivenNames v3
    clear_value v3
    extract_lets +onlyGivenNames v4
    clear_value v4
    extract_lets +onlyGivenNames v5
    have h5 : P v5.2 := by
      unfold v5
      split
      · dsimp only
        exact h4'
      · refine State.draw_keeps hP ?_
        exact h4'
    clear_value v5
    refine State.put_keeps hP ?_
    refine State.updSet_keeps hP ?_
    assumption

theorem speedStale_keeps (hP : Closed P) {a0} (h0' : P a0) : P (speedStale a0) := by
  unfold speedStale
  refine State.put_keeps hP ?_
  exact h0'

theorem vmoveInChange_keeps (hP : Closed P) {a0 a1} (h1' : P a1) : P (vmoveInChange a0 a1) := by
  unfold vmoveInChange
  refine State.updSet_keeps hP ?_
  exact h1'

theorem State.nonceReq_keeps (hP : Closed P) {a0} (h0' : P a0) : P (State.nonceReq a0) := by
  unfold State.nonceReq
  refine keeps_ite ?_ ?_
  · refine State.updResult_keeps hP ?_
    exact h0'
  · extract_lets +onlyGivenNames v1
    clear_value v1
    extract_lets +onlyGivenNames v2
    have h2 : P v2 := by
      unfold v2
      refine keeps_mk hP ?_
      exact h0'
    clear_value v2
    extract_lets +onlyGivenNames v3
    have h3 : P v3 := by
      unfold v3
      refine keeps_foldl (fun u4 x4 h4 => ?_) ?_
      · refine State.put_keeps hP ?_
        exact h4
      · exact h2
    clear_value v3
    refine State.put_keeps hP ?_
    exact h3

theorem State.ownerCmd_keeps (hP : Closed P) {a0 a1} (h0' : P a0) : P (State.ownerCmd a0 a1) := by
  unfold State.ownerCmd
  extract_lets +onlyGivenNames v1
  clear_value v1
  extract_lets +onlyGivenNames v2
  clear_value v2
  extract_lets +onlyGivenNames v3
  clear_value v3
  extract_lets +onlyGivenNames v4
  clear_value v4
  extract_lets +onlyGivenNames v5
  clear_value v5
  extract_lets +onlyGivenNames v6
  have h6 : P v6 := by
    unfold v6
    refine State.put_keeps hP ?_
    exact h0'
  clear_value v6
  refine keeps_ite ?_ ?_
  · refine State.updResult_keeps hP ?_
    exact h6
  · refine keeps_ite ?_ ?_
    · refine State.updResult_keeps hP ?_
      exact h6
    · refine keeps_ite ?_ ?_
      · refine State.updResult_keeps hP ?_
        exact h6
      · refine keeps_ite ?_ ?_
        · refine State.updResult_keeps hP ?_
          exact h6
        · refine keeps_ite ?_ ?_
          · refine State.updResult_keeps hP ?_
            exact h6
          · refine State.updResult_keeps hP ?_
            refine State.raise_keeps hP ?_
            refine State.showFuses_keeps hP ?_
            refine State.updSet_keeps hP ?_
            exact h6

theorem State.ownerProvision_keeps (hP : Closed P) {a0} (h0' : P a0) : P (State.ownerProvision a0) := by
  unfold State.ownerProvision
  refine keeps_ite ?_ ?_
  · refine State.updResult_keeps hP ?_
    exact h0'
  · refine keeps_ite ?_ ?_
    · refine State.updResult_keeps hP ?_
      exact h0'
    · split
      · refine State.updUnnamed_keeps hP ?_
        exact h0'
      · refine State.updResult_keeps hP ?_
        refine State.showFuses_keeps hP ?_
        refine State.updSet_keeps hP ?_
        exact h0'

theorem State.ownWrite_keeps (hP : Closed P) {a0 a1 a2} (h0' : P a0) : P (State.ownWrite a0 a1 a2) := by
  unfold State.ownWrite
  extract_lets +onlyGivenNames v1
  have h1 : P v1 := by
    unfold v1
    split
    · refine State.ownerCmd_keeps hP ?_
      exact h0'
    · refine State.ownerCmd_keeps hP ?_
      exact h0'
    · refine State.ownerProvision_keeps hP ?_
      exact h0'
    · exact h0'
  clear_value v1
  refine keeps_ite ?_ ?_
  · refine State.nonceReq_keeps hP ?_
    exact h1
  · exact h1

theorem nonceReq_keeps (hP : Closed P) {a0 a1} (h1' : P a1) : P (nonceReq a0 a1) := by
  unfold nonceReq
  refine State.direct_keeps hP ?_ ?_
  · exact h1'
  · intro u1_0 u1_1
    refine State.ownWrite_keeps hP ?_
    exact u1_1

theorem ownerLock_keeps (hP : Closed P) {a0 a1} (h1' : P a1) : P (ownerLock a0 a1) := by
  unfold ownerLock
  refine State.direct_keeps hP ?_ ?_
  · exact h1'
  · intro u1_0 u1_1
    refine State.ownWrite_keeps hP ?_
    exact u1_1

theorem ownerUnlock_keeps (hP : Closed P) {a0 a1} (h1' : P a1) : P (ownerUnlock a0 a1) := by
  unfold ownerUnlock
  refine State.direct_keeps hP ?_ ?_
  · exact h1'
  · intro u1_0 u1_1
    refine State.ownWrite_keeps hP ?_
    exact u1_1

theorem ownerProvision_keeps (hP : Closed P) {a0 a1} (h1' : P a1) : P (ownerProvision a0 a1) := by
  unfold ownerProvision
  refine State.direct_keeps hP ?_ ?_
  · exact h1'
  · intro u1_0 u1_1
    refine State.ownWrite_keeps hP ?_
    exact u1_1

theorem nonceExpiry_keeps (hP : Closed P) {a0} (h0' : P a0) : P (nonceExpiry a0) := by
  unfold nonceExpiry
  refine State.put_keeps hP ?_
  exact h0'

theorem State.restore_keeps (hP : Closed P) {a0 a1 a2} (h0' : P a0) (h1' : P a1) : P (State.restore a0 a1 a2) := by
  unfold State.restore
  refine keeps_foldl (fun u1 x1 h1 => ?_) ?_
  · refine State.put_keeps hP ?_
    exact h1
  · exact h0'

theorem State.resetLst_keeps (hP : Closed P) {a0} (h0' : P a0) : P (State.resetLst a0) := by
  unfold State.resetLst
  extract_lets +onlyGivenNames v1
  have h1 : P v1 := by
    unfold v1
    refine State.clearV_keeps hP ?_
    refine keeps_ite ?_ ?_
    · refine State.lsPut_keeps hP ?_
      refine State.lstSet_keeps hP ?_
      exact h0'
    · exact h0'
  clear_value v1
  extract_lets +onlyGivenNames v2
  clear_value v2
  extract_lets +onlyGivenNames v3
  have h3 : P v3 := by
    unfold v3
    refine State.restore_keeps hP ?_ ?_
    · exact h1
    · exact h0'
  clear_value v3
  extract_lets +onlyGivenNames v4
  have h4 : P v4 := by
    unfold v4
    refine State.put_keeps hP ?_
    exact h3
  clear_value v4
  refine keeps_ite ?_ ?_
  · refine State.put_keeps hP ?_
    exact h4
  · exact h4

theorem State.resetClr_keeps (hP : Closed P) {a0 a1} (h0' : P a0) : P (State.resetClr a0 a1) := by
  unfold State.resetClr
  extract_lets +onlyGivenNames v1
  clear_value v1
  extract_lets +onlyGivenNames v2
  have h2 : P v2 := by
    unfold v2
    refine keeps_foldl (fun u3 x3 h3 => ?_) ?_
    · refine State.modFrame_keeps hP ?_
      refine State.inc_keeps hP ?_
      exact h3
    · exact h0'
  clear_value v2
  extract_lets +onlyGivenNames v4
  clear_value v4
  extract_lets +onlyGivenNames v5
  have h5 : P v5 := by
    unfold v5
    refine State.clrSet_keeps hP ?_
    exact h2
  clear_value v5
  extract_lets +onlyGivenNames v6
  have h6 : P v6 := by
    unfold v6
    refine State.put_keeps hP ?_
    exact h5
  clear_value v6
  refine State.budget_keeps hP ?_
  refine keeps_ite ?_ ?_
  · refine State.puntFull_keeps hP ?_
    exact h6
  · exact h6

theorem State.resetFab_keeps (hP : Closed P) {a0 a1} (h0' : P a0) : P (State.resetFab a0 a1) := by
  unfold State.resetFab
  extract_lets +onlyGivenNames v1
  clear_value v1
  extract_lets +onlyGivenNames v2
  have h2 : P v2 := by
    unfold v2
    refine State.fabSet_keeps hP ?_
    exact h0'
  clear_value v2
  extract_lets +onlyGivenNames v3
  have h3 : P v3 := by
    unfold v3
    refine keeps_ite ?_ ?_
    · refine State.fabSet_keeps hP ?_
      exact h2
    · exact h2
  clear_value v3
  refine State.sliceServe_keeps hP ?_
  exact h3

theorem State.resetSch_keeps (hP : Closed P) {a0 a1} (h0' : P a0) : P (State.resetSch a0 a1) := by
  unfold State.resetSch
  extract_lets +onlyGivenNames v1
  clear_value v1
  extract_lets +onlyGivenNames v2
  clear_value v2
  refine State.schSet_keeps hP ?_
  exact h0'

theorem State.resetTim_keeps (hP : Closed P) {a0} (h0' : P a0) : P (State.resetTim a0) := by
  unfold State.resetTim
  extract_lets +onlyGivenNames v1
  clear_value v1
  extract_lets +onlyGivenNames v2
  have h2 : P v2 := by
    unfold v2
    refine State.clearTim_keeps hP ?_
    refine State.domState_keeps hP ?_
    refine State.domState_keeps hP ?_
    exact h0'
  clear_value v2
  refine keeps_mk hP ?_
  exact h2

theorem State.resetAwl_keeps (hP : Closed P) {a0 a1} (h0' : P a0) : P (State.resetAwl a0 a1) := by
  unfold State.resetAwl
  extract_lets +onlyGivenNames v1
  clear_value v1
  refine State.awlSet_keeps hP ?_
  exact h0'

theorem State.resetToecap_keeps (hP : Closed P) {a0} (h0' : P a0) : P (State.resetToecap a0) := by
  unfold State.resetToecap
  extract_lets +onlyGivenNames v1
  have h1 : P v1 := by
    unfold v1
    refine State.put_keeps hP ?_
    refine State.clearToecap_keeps hP ?_
    refine keeps_ite ?_ ?_
    · refine State.cryptoLost_keeps hP ?_
      exact h0'
    · exact h0'
  clear_value v1
  refine State.put_keeps hP ?_
  refine State.put_keeps hP ?_
  refine State.put_keeps hP ?_
  exact h1

theorem State.blockBegins_keeps (hP : Closed P) {a0 a1} (h0' : P a0) : P (State.blockBegins a0 a1) := by
  unfold State.blockBegins
  extract_lets +onlyGivenNames v1
  clear_value v1
  split
  · refine State.clearTxm_keeps hP ?_
    exact h0'
  · refine State.portSync_keeps hP ?_
    refine State.hdmSet_keeps hP ?_
    exact h0'
  · refine State.mbxSet_keeps hP ?_
    exact h0'
  · refine State.resetClr_keeps hP ?_
    exact h0'
  · refine State.clrSet_keeps hP ?_
    exact h0'
  · refine State.metersStart_keeps hP ?_
    exact h0'
  · refine State.resetFab_keeps hP ?_
    exact h0'
  · refine keeps_mk hP ?_
    exact h0'
  · refine keeps_mk hP ?_
    exact h0'
  · refine State.resetSch_keeps hP ?_
    exact h0'
  · refine State.resetTim_keeps hP ?_
    exact h0'
  · refine State.laceStop_keeps hP ?_
    exact h0'
  · extract_lets +onlyGivenNames v2
    have h2 : P v2 := by
      unfold v2
      refine State.portCauseSet_keeps hP ?_
      refine State.portCauseSet_keeps hP ?_
      exact h0'
    clear_value v2
    extract_lets +onlyGivenNames v3
    have h3 : P v3 := by
      unfold v3
      refine keeps_ite ?_ ?_
      · refine keeps_mk hP ?_
        exact h2
      · exact h2
    clear_value v3
    refine State.portSync_keeps hP ?_
    refine keeps_mk hP ?_
    exact h3
  · refine State.portSync_keeps hP ?_
    refine State.testSync_keeps hP ?_
    exact h0'
  · refine State.portSync_keeps hP ?_
    exact h0'
  · refine State.portSync_keeps hP ?_
    refine State.resetAwl_keeps hP ?_
    exact h0'
  · refine State.canSet_keeps hP ?_
    exact h0'
  · refine State.linSet_keeps hP ?_
    exact h0'
  · refine State.resetToecap_keeps hP ?_
    refine keeps_ite ?_ ?_
    · exact h0'
    · refine State.ldEnd_keeps hP ?_
      exact h0'
  · refine State.resetToecap_keeps hP ?_
    exact h0'
  · exact h0'

theorem State.blockClears_keeps (hP : Closed P) {a0 a1} (h0' : P a0) : P (State.blockClears a0 a1) := by
  unfold State.blockClears
  extract_lets +onlyGivenNames v1
  have h1 : P v1 := by
    unfold v1
    refine State.clearV_keeps hP ?_
    exact h0'
  clear_value v1
  refine keeps_ite ?_ ?_
  · refine keeps_foldl (fun u2 x2 h2 => ?_) ?_
    · refine State.put_keeps hP ?_
      exact h2
    · exact h1
  · exact h1

theorem State.blockReset_keeps (hP : Closed P) {a0 a1} (h0' : P a0) : P (State.blockReset a0 a1) := by
  unfold State.blockReset
  extract_lets +onlyGivenNames v1
  clear_value v1
  extract_lets +onlyGivenNames v2
  have h2 : P v2 := by
    unfold v2
    split
    · refine State.linkLost_keeps hP ?_
      exact h0'
    · refine State.linkLost_keeps hP ?_
      exact h0'
    · refine State.linkLost_keeps hP ?_
      exact h0'
    · refine State.creditSync_keeps hP ?_
      exact h0'
    · exact h0'
  clear_value v2
  extract_lets +onlyGivenNames v3
  have h3 : P v3 := by
    unfold v3
    refine keeps_ite ?_ ?_
    · refine State.devCause_keeps hP ?_
      exact h2
    · exact h2
  clear_value v3
  refine keeps_ite ?_ ?_
  · refine State.put_keeps hP ?_
    refine State.updSet_keeps hP ?_
    exact h3
  · refine keeps_ite ?_ ?_
    · refine State.updReset_keeps hP ?_
      refine State.put_keeps hP ?_
      exact h3
    · extract_lets +onlyGivenNames v4
      have h4 : P v4 := by
        unfold v4
        refine keeps_ite ?_ ?_
        · refine State.resetLst_keeps hP ?_
          exact h3
        · refine State.blockClears_keeps hP ?_
          exact h3
      clear_value v4
      refine State.blockBegins_keeps hP ?_
      refine State.put_keeps hP ?_
      exact h4

theorem State.blockEnds_keeps (hP : Closed P) {a0 a1} (h0' : P a0) : P (State.blockEnds a0 a1) := by
  unfold State.blockEnds
  extract_lets +onlyGivenNames v1
  clear_value v1
  split
  · refine State.channelSync_keeps hP ?_
    exact h0'
  · refine keeps_ite ?_ ?_
    · refine State.laceApply_keeps hP ?_
      exact h0'
    · exact h0'
  · refine State.portSync_keeps hP ?_
    refine State.t1sAsleep_keeps hP ?_
    refine State.plcaApply_keeps hP ?_
    exact h0'
  · refine State.canSync_keeps hP ?_
    exact h0'
  · refine State.linSync_keeps hP ?_
    exact h0'
  · refine State.portSyncAll_keeps hP ?_
    exact h0'

theorem blockResetEnd_keeps (hP : Closed P) {a0 a1} (h1' : P a1) : P (blockResetEnd a0 a1) := by
  unfold blockResetEnd
  refine keeps_ite ?_ ?_
  · exact h1'
  · refine State.checkStartup_keeps hP ?_
    refine State.blockEnds_keeps hP ?_
    refine State.put_keeps hP ?_
    exact h1'

theorem State.pageEnable_keeps (hP : Closed P) {a0 a1 a2} (h0' : P a0) : P (State.pageEnable a0 a1 a2) := by
  unfold State.pageEnable
  extract_lets +onlyGivenNames v1
  clear_value v1
  refine keeps_ite ?_ ?_
  · refine State.put_keeps hP ?_
    exact h0'
  · extract_lets +onlyGivenNames v2
    have h2 : P v2 := by
      unfold v2
      refine keeps_ite ?_ ?_
      · exact h0'
      · refine State.linkLost_keeps hP ?_
        exact h0'
    clear_value v2
    refine State.portSync_keeps hP ?_
    refine State.put_keeps hP ?_
    exact h2

theorem State.powerReqWrite_keeps (hP : Closed P) {a0 a1 a2 a3} (h0' : P a0) : P (State.powerReqWrite a0 a1 a2 a3).2 := by
  unfold State.powerReqWrite
  split
  · dsimp only
    exact h0'
  · split
    · dsimp only
      refine State.ownErr_keeps hP ?_
      exact h0'
    · dsimp only
      refine State.domainAsk_keeps hP ?_
      exact h0'

theorem State.pgCtrlGate_keeps (hP : Closed P) {a0 a1 a2 a3} (h0' : P a0) (h3' : ∀ x0, P x0 → P (a3 x0).2) : P (State.pgCtrlGate a0 a1 a2 a3).2 := by
  unfold State.pgCtrlGate
  split
  · dsimp only
    exact h0'
  · split
    · dsimp only
      exact h0'
    · split
      · dsimp only
        refine State.ownErr_keeps hP ?_
        exact h0'
      · split
        · dsimp only
          refine State.err_keeps hP ?_
          exact h0'
        · refine h3' _ ?_
          exact h0'

theorem State.blockResetWrite_keeps (hP : Closed P) {a0 a1 a2} (h0' : P a0) : P (State.blockResetWrite a0 a1 a2).2 := by
  unfold State.blockResetWrite
  refine State.pgCtrlGate_keeps hP ?_ ?_
  · exact h0'
  · intro u1_0 u1_1
    split
    · dsimp only
      refine State.err_keeps hP ?_
      exact u1_1
    · split
      · dsimp only
        refine State.err_keeps hP ?_
        exact u1_1
      · split
        · dsimp only
          exact u1_1
        · dsimp only
          refine State.blockReset_keeps hP ?_
          exact u1_1

theorem State.enableSet_keeps (hP : Closed P) {a0 a1 a2 a3} (h0' : P a0) : P (State.enableSet a0 a1 a2 a3) := by
  unfold State.enableSet
  refine keeps_ite ?_ ?_
  · refine State.err_keeps hP ?_
    exact h0'
  · refine keeps_ite ?_ ?_
    · exact h0'
    · refine State.pageEnable_keeps hP ?_
      exact h0'

theorem State.enableWrite_keeps (hP : Closed P) {a0 a1 a2 a3} (h0' : P a0) : P (State.enableWrite a0 a1 a2 a3).2 := by
  unfold State.enableWrite
  refine State.pgCtrlGate_keeps hP ?_ ?_
  · exact h0'
  · intro u1_0 u1_1
    dsimp only
    refine State.enableSet_keeps hP ?_
    exact u1_1

theorem State.pgCtrl_keeps (hP : Closed P) {a0 a1 a2 a3 a4 a5} (h0' : P a0) : P (State.pgCtrl a0 a1 a2 a3 a4 a5).2 := by
  unfold State.pgCtrl
  extract_lets +onlyGivenNames v1
  clear_value v1
  split
  · dsimp only
    exact h0'
  · split
    · dsimp only
      exact h0'
    · split
      · refine State.blockResetWrite_keeps hP ?_
        exact h0'
      · split
        · refine State.pgCtrlGate_keeps hP ?_ ?_
          · exact h0'
          · intro u2_0 u2_1
            extract_lets +onlyGivenNames v3
            have h3 : P v3 := by
              unfold v3
              refine State.enableSet_keeps hP ?_
              exact u2_1
            clear_value v3
            split
            · dsimp only
              exact h3
            · refine State.powerReqWrite_keeps hP ?_
              exact h3
        · refine State.powerReqWrite_keeps hP ?_
          exact h0'

theorem blockReset_keeps (hP : Closed P) {a0 a1 a2} (h2' : P a2) : P (blockReset a0 a1 a2) := by
  unfold blockReset
  refine State.command_keeps hP ?_ ?_
  · exact h2'
  · intro u1_0 u1_1
    refine State.blockResetWrite_keeps hP ?_
    exact u1_1

theorem pageEnableWrite_keeps (hP : Closed P) {a0 a1 a2 a3} (h3' : P a3) : P (pageEnableWrite a0 a1 a2 a3) := by
  unfold pageEnableWrite
  refine State.command_keeps hP ?_ ?_
  · exact h3'
  · intro u1_0 u1_1
    split
    · dsimp only
      exact u1_1
    · split
      · dsimp only
        exact u1_1
      · split
        · dsimp only
          exact u1_1
        · refine State.enableWrite_keeps hP ?_
          exact u1_1

theorem State.irqBits_keeps (hP : Closed P) {a0 a1 a2 a3} (h0' : P a0) : P (State.irqBits a0 a1 a2 a3) := by
  unfold State.irqBits
  extract_lets +onlyGivenNames v1
  have h1 : P v1 := by
    unfold v1
    refine keeps_foldl (fun u2 x2 h2 => ?_) ?_
    · extract_lets +onlyGivenNames v3
      clear_value v3
      extract_lets +onlyGivenNames v4
      clear_value v4
      extract_lets +onlyGivenNames v5
      clear_value v5
      refine State.put_keeps hP ?_
      exact h2
    · exact h0'
  clear_value v1
  refine keeps_ite ?_ ?_
  · refine keeps_foldl (fun u6 x6 h6 => ?_) ?_
    · refine keeps_ite ?_ ?_
      · refine State.ringCleared_keeps hP ?_
        exact h6
      · exact h6
    · exact h1
  · exact h1

theorem State.irqForce_keeps (hP : Closed P) {a0 a1 a2 a3} (h0' : P a0) : P (State.irqForce a0 a1 a2 a3).2 := by
  unfold State.irqForce
  refine State.gate0_keeps hP ?_ ?_
  · exact h0'
  · intro u1_0 u1_1
    refine State.irqBits_keeps hP ?_
    exact u1_1

theorem irqForce_keeps (hP : Closed P) {a0 a1 a2 a3} (h3' : P a3) : P (irqForce a0 a1 a2 a3) := by
  unfold irqForce
  refine State.command_keeps hP ?_ ?_
  · exact h3'
  · intro u1_0 u1_1
    refine State.irqForce_keeps hP ?_
    exact u1_1

theorem State.irqClear_keeps (hP : Closed P) {a0 a1 a2 a3} (h0' : P a0) : P (State.irqClear a0 a1 a2 a3).2 := by
  unfold State.irqClear
  refine State.gate0_keeps hP ?_ ?_
  · exact h0'
  · intro u1_0 u1_1
    refine State.irqBits_keeps hP ?_
    exact u1_1

theorem irqStatClear_keeps (hP : Closed P) {a0 a1 a2 a3} (h3' : P a3) : P (irqStatClear a0 a1 a2 a3) := by
  unfold irqStatClear
  refine State.command_keeps hP ?_ ?_
  · exact h3'
  · intro u1_0 u1_1
    refine State.irqClear_keeps hP ?_
    exact u1_1

theorem State.lockWrite_keeps (hP : Closed P) {a0 a1 a2} (h0' : P a0) : P (State.lockWrite a0 a1 a2).2 := by
  unfold State.lockWrite
  refine State.gate0_keeps hP ?_ ?_
  · exact h0'
  · intro u1_0 u1_1
    refine State.put_keeps hP ?_
    exact u1_1

theorem pageLock_keeps (hP : Closed P) {a0 a1 a2} (h2' : P a2) : P (pageLock a0 a1 a2) := by
  unfold pageLock
  refine State.command_keeps hP ?_ ?_
  · exact h2'
  · intro u1_0 u1_1
    refine State.lockWrite_keeps hP ?_
    exact u1_1

end Sys2Proof.Machine
end

