-- ==== Sys2Proof/Laws/KeepsG.lean ====
section
/-! SUPPORT. One lemma per function: it keeps a `Closed` predicate.  Functions of Machine: Snapshots, Reads, Writes, HostCmds, Exec. -/
namespace Sys2Proof.Machine

set_option Elab.async false
variable {P : State → Prop}

theorem State.selWrite_keeps (hP : Closed P) {a0 a1 a2 a3 a4 a5} (h0' : P a0) (h5' : ∀ x0, P x0 → P (a5 x0)) : P (State.selWrite a0 a1 a2 a3 a4 a5).2 := by
  unfold State.selWrite
  split
  · refine State.gate_keeps hP ?_ ?_
    · exact h0'
    · intro u1_0 u1_1
      refine h5' _ ?_
      exact u1_1
  · refine State.gateFree_keeps hP ?_ ?_
    · exact h0'
    · intro u2_0 u2_1
      refine h5' _ ?_
      exact u2_1

theorem State.putAll_keeps (hP : Closed P) {a0 a1 a2 a3} (h0' : P a0) : P (State.putAll a0 a1 a2 a3) := by
  unfold State.putAll
  refine keeps_foldl (fun u1 x1 h1 => ?_) ?_
  · refine State.put_keeps hP ?_
    exact h1
  · exact h0'

theorem State.fcSel_keeps (hP : Closed P) {a0 a1 a2 a3} (h0' : P a0) : P (State.fcSel a0 a1 a2 a3) := by
  unfold State.fcSel
  extract_lets +onlyGivenNames v1
  clear_value v1
  extract_lets +onlyGivenNames v2
  clear_value v2
  extract_lets +onlyGivenNames v3
  have h3 : P v3 := by
    unfold v3
    refine State.putAll_keeps hP ?_
    exact h0'
  clear_value v3
  refine keeps_ite ?_ ?_
  · refine State.clrSet_keeps hP ?_
    exact h3
  · exact h3

theorem flowCounterSnapshot_keeps (hP : Closed P) {a0 a1 a2} (h2' : P a2) : P (flowCounterSnapshot a0 a1 a2) := by
  unfold flowCounterSnapshot
  refine State.directFree_keeps hP ?_ ?_
  · exact h2'
  · intro u1_0 u1_1
    refine State.fcSel_keeps hP ?_
    exact u1_1

theorem flowCounterClear_keeps (hP : Closed P) {a0 a1 a2} (h2' : P a2) : P (flowCounterClear a0 a1 a2) := by
  unfold flowCounterClear
  refine State.direct_keeps hP ?_ ?_
  · exact h2'
  · intro u1_0 u1_1
    refine State.fcSel_keeps hP ?_
    exact u1_1

theorem State.mtrSel_keeps (hP : Closed P) {a0 a1 a2 a3 a4} (h0' : P a0) : P (State.mtrSel a0 a1 a2 a3 a4) := by
  unfold State.mtrSel
  extract_lets +onlyGivenNames v1
  clear_value v1
  extract_lets +onlyGivenNames v2
  have h2 : P v2 := by
    unfold v2
    refine State.putAll_keeps hP ?_
    exact h0'
  clear_value v2
  refine keeps_ite ?_ ?_
  · exact h2
  · extract_lets +onlyGivenNames v3
    clear_value v3
    extract_lets +onlyGivenNames v4
    clear_value v4
    refine State.meterSet_keeps hP ?_
    exact h2

theorem meterSnapshot_keeps (hP : Closed P) {a0 a1 a2} (h2' : P a2) : P (meterSnapshot a0 a1 a2) := by
  unfold meterSnapshot
  refine State.directFree_keeps hP ?_ ?_
  · exact h2'
  · intro u1_0 u1_1
    refine State.mtrSel_keeps hP ?_
    exact u1_1

theorem meterClear_keeps (hP : Closed P) {a0 a1 a2} (h2' : P a2) : P (meterClear a0 a1 a2) := by
  unfold meterClear
  refine State.direct_keeps hP ?_ ?_
  · exact h2'
  · intro u1_0 u1_1
    refine State.mtrSel_keeps hP ?_
    exact u1_1

theorem meterFill_keeps (hP : Closed P) {a0 a1 a2} (h2' : P a2) : P (meterFill a0 a1 a2) := by
  unfold meterFill
  refine State.direct_keeps hP ?_ ?_
  · exact h2'
  · intro u1_0 u1_1
    refine State.mtrSel_keeps hP ?_
    exact u1_1

theorem State.solSel_keeps (hP : Closed P) {a0 a1 a2 a3 a4} (h0' : P a0) : P (State.solSel a0 a1 a2 a3 a4) := by
  unfold State.solSel
  refine keeps_ite ?_ ?_
  · refine State.err_keeps hP ?_
    exact h0'
  · extract_lets +onlyGivenNames v1
    clear_value v1
    extract_lets +onlyGivenNames v2
    clear_value v2
    extract_lets +onlyGivenNames v3
    have h3 : P v3 := by
      unfold v3
      refine State.putAll_keeps hP ?_
      exact h0'
    clear_value v3
    refine keeps_ite ?_ ?_
    · refine keeps_mk hP ?_
      exact h3
    · exact h3

theorem serviceSnapshot_keeps (hP : Closed P) {a0 a1 a2 a3} (h3' : P a3) : P (serviceSnapshot a0 a1 a2 a3) := by
  unfold serviceSnapshot
  refine State.directFree_keeps hP ?_ ?_
  · exact h3'
  · intro u1_0 u1_1
    refine State.solSel_keeps hP ?_
    exact u1_1

theorem serviceDropsClear_keeps (hP : Closed P) {a0 a1 a2 a3} (h3' : P a3) : P (serviceDropsClear a0 a1 a2 a3) := by
  unfold serviceDropsClear
  refine State.direct_keeps hP ?_ ?_
  · exact h3'
  · intro u1_0 u1_1
    refine State.solSel_keeps hP ?_
    exact u1_1

theorem State.schSubSel_keeps (hP : Closed P) {a0 a1 a2 a3} (h0' : P a0) : P (State.schSubSel a0 a1 a2 a3) := by
  unfold State.schSubSel
  split
  · refine State.err_keeps hP ?_
    exact h0'
  · refine keeps_ite ?_ ?_
    · refine State.err_keeps hP ?_
      exact h0'
    · extract_lets +onlyGivenNames v1
      clear_value v1
      extract_lets +onlyGivenNames v2
      clear_value v2
      extract_lets +onlyGivenNames v3
      clear_value v3
      refine State.putAll_keeps hP ?_
      exact h0'

theorem subscriberSnapshot_keeps (hP : Closed P) {a0 a1 a2 a3} (h3' : P a3) : P (subscriberSnapshot a0 a1 a2 a3) := by
  unfold subscriberSnapshot
  refine State.directFree_keeps hP ?_ ?_
  · exact h3'
  · intro u1_0 u1_1
    refine State.schSubSel_keeps hP ?_
    exact u1_1

theorem State.schQSel_keeps (hP : Closed P) {a0 a1 a2 a3} (h0' : P a0) : P (State.schQSel a0 a1 a2 a3) := by
  unfold State.schQSel
  refine keeps_ite ?_ ?_
  · refine State.err_keeps hP ?_
    exact h0'
  · refine State.putAll_keeps hP ?_
    exact h0'

theorem queueSnapshot_keeps (hP : Closed P) {a0 a1 a2 a3} (h3' : P a3) : P (queueSnapshot a0 a1 a2 a3) := by
  unfold queueSnapshot
  refine State.directFree_keeps hP ?_ ?_
  · exact h3'
  · intro u1_0 u1_1
    refine State.schQSel_keeps hP ?_
    exact u1_1

theorem State.awlRtSel_keeps (hP : Closed P) {a0 a1 a2 a3 a4} (h0' : P a0) : P (State.awlRtSel a0 a1 a2 a3 a4) := by
  unfold State.awlRtSel
  refine keeps_ite ?_ ?_
  · refine State.err_keeps hP ?_
    exact h0'
  · extract_lets +onlyGivenNames v1
    have h1 : P v1 := by
      unfold v1
      refine State.putAll_keeps hP ?_
      exact h0'
    clear_value v1
    refine keeps_ite ?_ ?_
    · refine State.awlSet_keeps hP ?_
      exact h1
    · exact h1

theorem routeSnapshot_keeps (hP : Closed P) {a0 a1 a2 a3} (h3' : P a3) : P (routeSnapshot a0 a1 a2 a3) := by
  unfold routeSnapshot
  refine State.directFree_keeps hP ?_ ?_
  · exact h3'
  · intro u1_0 u1_1
    refine State.awlRtSel_keeps hP ?_
    exact u1_1

theorem routeCountsClear_keeps (hP : Closed P) {a0 a1 a2 a3} (h3' : P a3) : P (routeCountsClear a0 a1 a2 a3) := by
  unfold routeCountsClear
  refine State.direct_keeps hP ?_ ?_
  · exact h3'
  · intro u1_0 u1_1
    refine State.awlRtSel_keeps hP ?_
    exact u1_1

theorem State.wakClSel_keeps (hP : Closed P) {a0 a1 a2} (h0' : P a0) : P (State.wakClSel a0 a1 a2) := by
  unfold State.wakClSel
  refine State.putAll_keeps hP ?_
  exact h0'

theorem clusterSnapshot_keeps (hP : Closed P) {a0 a1 a2} (h2' : P a2) : P (clusterSnapshot a0 a1 a2) := by
  unfold clusterSnapshot
  refine State.directFree_keeps hP ?_ ?_
  · exact h2'
  · intro u1_0 u1_1
    refine State.wakClSel_keeps hP ?_
    exact u1_1

theorem State.txmChSel_keeps (hP : Closed P) {a0 a1 a2} (h0' : P a0) : P (State.txmChSel a0 a1 a2) := by
  unfold State.txmChSel
  extract_lets +onlyGivenNames v1
  clear_value v1
  refine State.putAll_keeps hP ?_
  exact h0'

theorem txmChannelSnapshot_keeps (hP : Closed P) {a0 a1 a2} (h2' : P a2) : P (txmChannelSnapshot a0 a1 a2) := by
  unfold txmChannelSnapshot
  refine State.directFree_keeps hP ?_ ?_
  · exact h2'
  · intro u1_0 u1_1
    refine State.txmChSel_keeps hP ?_
    exact u1_1

theorem State.countSync_keeps (hP : Closed P) {a0 a1 a2 a3} (h0' : P a0) : P (State.countSync a0 a1 a2 a3) := by
  unfold State.countSync
  refine keeps_ite ?_ ?_
  · refine State.heldSync_keeps hP ?_
    exact h0'
  · refine keeps_ite ?_ ?_
    · refine State.fabNow_keeps hP ?_
      exact h0'
    · exact h0'

theorem State.lowRead_keeps (hP : Closed P) {a0 a1 a2 a3 a4 a5} (h0' : P a0) : P (State.lowRead a0 a1 a2 a3 a4 a5) := by
  unfold State.lowRead
  extract_lets +onlyGivenNames v1
  clear_value v1
  refine State.put_keeps hP ?_
  refine State.put_keeps hP ?_
  exact h0'

theorem State.fieldRead_keeps (hP : Closed P) {a0 a1 a2 a3 a4} (h0' : P a0) : P (State.fieldRead a0 a1 a2 a3 a4) := by
  unfold State.fieldRead
  extract_lets +onlyGivenNames v1
  clear_value v1
  refine keeps_ite ?_ ?_
  · refine State.lowRead_keeps hP ?_
    exact h0'
  · refine keeps_ite ?_ ?_
    · refine State.lowRead_keeps hP ?_
      refine State.fabNow_keeps hP ?_
      exact h0'
    · refine keeps_ite ?_ ?_
      · refine State.lowRead_keeps hP ?_
        refine keeps_ite ?_ ?_
        · refine State.heldSync_keeps hP ?_
          exact h0'
        · exact h0'
      · refine keeps_ite ?_ ?_
        · refine State.lowRead_keeps hP ?_
          exact h0'
        · refine keeps_ite ?_ ?_
          · refine State.evtPop_keeps hP ?_
            exact h0'
          · refine keeps_ite ?_ ?_
            · refine State.tcaEvtPop_keeps hP ?_
              exact h0'
            · refine keeps_ite ?_ ?_
              · exact h0'
              · refine keeps_ite ?_ ?_
                · refine State.put_keeps hP ?_
                  exact h0'
                · exact h0'

theorem State.readEffect_keeps (hP : Closed P) {a0 a1 a2 a3} (h0' : P a0) : P (State.readEffect a0 a1 a2 a3) := by
  unfold State.readEffect
  refine keeps_foldl (fun u1 x1 h1 => ?_) ?_
  · refine State.fieldRead_keeps hP ?_
    exact h1
  · exact h0'

theorem State.readReg_keeps (hP : Closed P) {a0 a1 a2 a3} (h0' : P a0) : P (State.readReg a0 a1 a2 a3).2 := by
  unfold State.readReg
  extract_lets +onlyGivenNames v1
  clear_value v1
  dsimp only
  refine keeps_mk hP ?_
  refine State.readEffect_keeps hP ?_
  exact h0'

theorem State.readFail_keeps (hP : Closed P) {a0 a1 a2} (h0' : P a0) : P (State.readFail a0 a1 a2) := by
  unfold State.readFail
  extract_lets +onlyGivenNames v1
  have h1 : P v1 := by
    unfold v1
    refine State.inc_keeps hP ?_
    exact h0'
  clear_value v1
  extract_lets +onlyGivenNames v2
  have h2 : P v2 := by
    unfold v2
    refine State.put_keeps hP ?_
    refine State.put_keeps hP ?_
    exact h1
  clear_value v2
  extract_lets +onlyGivenNames v3
  have h3 : P v3 := by
    unfold v3
    refine State.put_keeps hP ?_
    refine State.put_keeps hP ?_
    exact h2
  clear_value v3
  refine State.put_keeps hP ?_
  exact h3

theorem State.readCmd_keeps (hP : Closed P) {a0 a1 a2 a3} (h0' : P a0) : P (State.readCmd a0 a1 a2 a3) := by
  unfold State.readCmd
  refine keeps_ite ?_ ?_
  · exact h0'
  · split
    · refine State.readReg_keeps hP ?_
      exact h0'
    · split
      · refine State.readFail_keeps hP ?_
        exact h0'
      · refine keeps_mk hP ?_
        exact h0'
      · exact h0'

theorem counterLowRead_keeps (hP : Closed P) {a0 a1 a2} (h2' : P a2) : P (counterLowRead a0 a1 a2) := by
  unfold counterLowRead
  split
  · refine State.readCmd_keeps hP ?_
    exact h2'
  · refine State.readCmd_keeps hP ?_
    exact h2'
  · refine State.readCmd_keeps hP ?_
    exact h2'
  · refine State.readCmd_keeps hP ?_
    exact h2'

theorem evtRead_keeps (hP : Closed P) {a0 a1 a2} (h2' : P a2) : P (evtRead a0 a1 a2) := by
  unfold evtRead
  refine State.readCmd_keeps hP ?_
  exact h2'

theorem tcaEvtRead_keeps (hP : Closed P) {a0 a1} (h1' : P a1) : P (tcaEvtRead a0 a1) := by
  unfold tcaEvtRead
  refine State.readCmd_keeps hP ?_
  exact h1'

theorem clearOnRead_keeps (hP : Closed P) {a0 a1 a2 a3} (h3' : P a3) : P (clearOnRead a0 a1 a2 a3) := by
  unfold clearOnRead
  refine State.readCmd_keeps hP ?_
  exact h3'

theorem State.writeField_keeps (hP : Closed P) {a0 a1 a2 a3 a4 a5 a6} (h0' : P a0) : P (State.writeField a0 a1 a2 a3 a4 a5 a6) := by
  unfold State.writeField
  extract_lets +onlyGivenNames v1
  clear_value v1
  extract_lets +onlyGivenNames v2
  clear_value v2
  extract_lets +onlyGivenNames v3
  clear_value v3
  split
  · refine State.put_keeps hP ?_
    exact h0'
  · refine State.put_keeps hP ?_
    exact h0'
  · refine State.put_keeps hP ?_
    exact h0'
  · refine State.put_keeps hP ?_
    exact h0'
  · refine keeps_ite ?_ ?_
    · refine State.put_keeps hP ?_
      exact h0'
    · refine keeps_ite ?_ ?_
      · exact h0'
      · refine State.err_keeps hP ?_
        exact h0'
  · exact h0'
  · exact h0'

theorem State.writeFields_keeps (hP : Closed P) {a0 a1 a2 a3 a4} (h0' : P a0) : P (State.writeFields a0 a1 a2 a3 a4) := by
  unfold State.writeFields
  refine keeps_foldl (fun u1 x1 h1 => ?_) ?_
  · refine State.writeField_keeps hP ?_
    exact h1
  · exact h0'

theorem stored_keeps (hP : Closed P) {a0 a1 a2 a3 a4} (h4' : P a4) : P (stored a0 a1 a2 a3 a4) := by
  unfold stored
  refine State.put_keeps hP ?_
  exact h4'

theorem keep_keeps (hP : Closed P) {a0} (h0' : P a0) : P (keep a0) := by
  unfold keep
  exact h0'

theorem State.ownerFree_keeps (hP : Closed P) {a0 a1 a2 a3} (h0' : P a0) (h3' : ∀ x0, P x0 → P (a3 x0)) : P (State.ownerFree a0 a1 a2 a3) := by
  unfold State.ownerFree
  refine keeps_ite ?_ ?_
  · refine State.err_keeps hP ?_
    exact h0'
  · refine h3' _ ?_
    exact h0'

theorem State.syncCfg_keeps (hP : Closed P) {a0 a1} (h0' : P a0) : P (State.syncCfg a0 a1) := by
  unfold State.syncCfg
  extract_lets +onlyGivenNames v1
  have h1 : P v1 := by
    unfold v1
    refine State.put_keeps hP ?_
    refine State.put_keeps hP ?_
    exact h0'
  clear_value v1
  extract_lets +onlyGivenNames v2
  have h2 : P v2 := by
    unfold v2
    refine keeps_ite ?_ ?_
    · exact h1
    · refine State.syncTakeCfg_keeps hP ?_
      exact h1
  clear_value v2
  refine State.syncEn_keeps hP ?_
  refine State.put_keeps hP ?_
  exact h2

theorem State.syncPeriod_keeps (hP : Closed P) {a0 a1} (h0' : P a0) : P (State.syncPeriod a0 a1) := by
  unfold State.syncPeriod
  extract_lets +onlyGivenNames v1
  have h1 : P v1 := by
    unfold v1
    refine State.put_keeps hP ?_
    exact h0'
  clear_value v1
  refine keeps_ite ?_ ?_
  · exact h1
  · refine State.syncTakePeriod_keeps hP ?_
    exact h1

theorem State.trgCfg_keeps (hP : Closed P) {a0 a1 a2} (h0' : P a0) : P (State.trgCfg a0 a1 a2) := by
  unfold State.trgCfg
  extract_lets +onlyGivenNames v1
  have h1 : P v1 := by
    unfold v1
    refine State.put_keeps hP ?_
    refine State.put_keeps hP ?_
    exact h0'
  clear_value v1
  refine State.trgEn_keeps hP ?_
  refine State.put_keeps hP ?_
  exact h1

theorem State.perrAck_keeps (hP : Closed P) {a0 a1} (h0' : P a0) : P (State.perrAck a0 a1) := by
  unfold State.perrAck
  extract_lets +onlyGivenNames v1
  clear_value v1
  extract_lets +onlyGivenNames v2
  have h2 : P v2 := by
    unfold v2
    refine keeps_mk hP ?_
    exact h0'
  clear_value v2
  refine State.put_keeps hP ?_
  refine State.put_keeps hP ?_
  exact h2

theorem State.ringBase_keeps (hP : Closed P) {a0 a1 a2 a3 a4 a5} (h0' : P a0) : P (State.ringBase a0 a1 a2 a3 a4 a5) := by
  unfold State.ringBase
  refine keeps_ite ?_ ?_
  · refine State.err_keeps hP ?_
    exact h0'
  · refine State.writeFields_keeps hP ?_
    exact h0'

theorem State.mbxPut_keeps (hP : Closed P) {a0 a1 a2} (h0' : P a0) : P (State.mbxPut a0 a1 a2) :=
  keeps_ite h0' (State.mbxSet_keeps hP h0' (fun _ h r => ⟨fold_set_wf (f := fun k => a1 - 0x800 + k) _ h, r⟩))


theorem State.headerWrite_keeps (hP : Closed P) {a0 a1 a2 a3 a4} (h0' : P a0) : P (State.headerWrite a0 a1 a2 a3 a4).2 := by
  unfold State.headerWrite
  split
  · refine State.pgCtrl_keeps hP ?_
    exact h0'
  · refine State.irqClear_keeps hP ?_
    exact h0'
  · refine State.gate_keeps hP ?_ ?_
    · exact h0'
    · intro u1_0 u1_1
      refine stored_keeps hP ?_
      exact u1_1
  · refine State.irqForce_keeps hP ?_
    exact h0'
  · refine State.gate_keeps hP ?_ ?_
    · exact h0'
    · intro u2_0 u2_1
      refine stored_keeps hP ?_
      exact u2_1
  · split
    · refine State.lockWrite_keeps hP ?_
      exact h0'
    · refine State.gate0_keeps hP ?_ ?_
      · exact h0'
      · intro u3_0 u3_1
        refine keep_keeps hP ?_
        exact u3_1
  · split
    · split
      · dsimp only
        exact h0'
      · split
        · dsimp only
          exact h0'
        · dsimp only
          exact h0'
    · refine State.gate0_keeps hP ?_ ?_
      · exact h0'
      · intro u4_0 u4_1
        refine keep_keeps hP ?_
        exact u4_1

theorem heelWrite_keeps (hP : Closed P) {s m t off w r} (h : heelWrite s m t off w = some r) (h0' : P s) : r.Keeps P := by
  unfold heelWrite at h
  repeat' split at h
  all_goals cases h
  · simp only [WritePath.Keeps]
    intro u1_0 u1_1
    refine State.cguCtrl_keeps hP ?_
    exact u1_1
  · simp only [WritePath.Keeps]
    intro u2_0 u2_1
    refine State.domReqWrite_keeps hP ?_
    exact u2_1
  · simp only [WritePath.Keeps]
    intro u3_0 u3_1
    refine stored_keeps hP ?_
    exact u3_1
  · simp only [WritePath.Keeps]
    intro u4_0 u4_1
    refine State.wakeReqHost_keeps hP ?_
    exact u4_1
  · simp only [WritePath.Keeps]
    intro u5_0 u5_1
    refine State.wakeReqSb_keeps hP ?_
    exact u5_1
  · simp only [WritePath.Keeps]
    intro u6_0 u6_1
    refine State.wakClSel_keeps hP ?_
    exact u6_1
  · simp only [WritePath.Keeps]
    intro u7_0 u7_1
    refine State.txmWrite_keeps hP ?_
    exact u7_1
  · simp only [WritePath.Keeps]
    intro u8_0 u8_1
    refine State.txmChSel_keeps hP ?_
    exact u8_1
  · simp only [WritePath.Keeps]
    intro u9_0 u9_1
    refine State.fltClear_keeps hP ?_
    exact u9_1
  · simp only [WritePath.Keeps]
    intro u10_0 u10_1
    exact u10_1
  · simp only [WritePath.Keeps]
    intro u11_0 u11_1
    refine State.fltCntSel_keeps hP ?_
    exact u11_1
  · simp only [WritePath.Keeps]
    intro u12_0 u12_1
    refine stored_keeps hP ?_
    exact u12_1
  · simp only [WritePath.Keeps]
    intro u13_0 u13_1
    refine State.fwKick_keeps hP ?_
    exact u13_1
  · simp only [WritePath.Keeps]
    intro u14_0 u14_1
    refine State.hbCfg_keeps hP ?_
    exact u14_1
  · simp only [WritePath.Keeps]
    intro u15_0 u15_1
    refine State.hbKick_keeps hP ?_
    exact u15_1
  · simp only [WritePath.Keeps]
    intro u16_0 u16_1
    refine State.devReset_keeps hP ?_
    exact u16_1
  · simp only [WritePath.Keeps]
    refine State.ownerAcc_keeps hP ?_
    exact h0'

theorem hostWrite_keeps (hP : Closed P) {m t off w r} (h : hostWrite m t off w = some r) : r.Keeps P := by
  unfold hostWrite at h
  repeat' split at h
  all_goals cases h
  · simp only [WritePath.Keeps]
    intro u1_0 u1_1
    refine State.perrAck_keeps hP ?_
    exact u1_1
  · simp only [WritePath.Keeps]
    intro u2_0 u2_1
    refine State.ringBase_keeps hP ?_
    exact u2_1
  · simp only [WritePath.Keeps]
    intro u3_0 u3_1
    refine State.ringBase_keeps hP ?_
    exact u3_1
  · simp only [WritePath.Keeps]
    intro u4_0 u4_1
    refine State.ringCfg_keeps hP ?_
    exact u4_1
  · simp only [WritePath.Keeps]
    intro u5_0 u5_1
    refine State.ringTail_keeps hP ?_
    exact u5_1
  · simp only [WritePath.Keeps]
    intro u6_0 u6_1
    refine State.mbxCmd_keeps hP ?_
    exact u6_1
  · simp only [WritePath.Keeps]
    intro u7_0 u7_1
    refine State.mbxPut_keeps hP ?_
    exact u7_1

theorem updWrite_keeps (hP : Closed P) {m t off w r} (h : updWrite m t off w = some r) : r.Keeps P := by
  unfold updWrite at h
  repeat' split at h
  all_goals cases h
  · simp only [WritePath.Keeps]
    intro u1_0 u1_1
    refine State.updCmd_keeps hP ?_
    exact u1_1
  · simp only [WritePath.Keeps]
    intro u2_0 u2_1
    refine State.armWrite_keeps hP ?_
    exact u2_1
  · simp only [WritePath.Keeps]
    intro u3_0 u3_1
    refine State.restartWrite_keeps hP ?_
    exact u3_1
  · simp only [WritePath.Keeps]
    intro u4_0 u4_1
    refine State.confirmWrite_keeps hP ?_
    exact u4_1
  · simp only [WritePath.Keeps]
    intro u5_0 u5_1
    refine stored_keeps hP ?_
    exact u5_1
  · simp only [WritePath.Keeps]
    intro u6_0 u6_1
    refine State.ownerFree_keeps hP ?_ ?_
    · exact u6_1
    · intro u7_0 u7_1
      refine stored_keeps hP ?_
      exact u7_1
  · simp only [WritePath.Keeps]
    intro u8_0 u8_1
    refine State.ownerFree_keeps hP ?_ ?_
    · exact u8_1
    · intro u9_0 u9_1
      refine State.writeFields_keeps hP ?_
      exact u9_1
  · simp only [WritePath.Keeps]
    intro u10_0 u10_1
    refine State.ownerFree_keeps hP ?_ ?_
    · exact u10_1
    · intro u11_0 u11_1
      refine State.writeFields_keeps hP ?_
      exact u11_1
  · simp only [WritePath.Keeps]
    intro u12_0 u12_1
    refine State.ownerFree_keeps hP ?_ ?_
    · exact u12_1
    · intro u13_0 u13_1
      refine State.writeFields_keeps hP ?_
      exact u13_1
  · simp only [WritePath.Keeps]
    intro u14_0 u14_1
    refine State.ownWrite_keeps hP ?_
    exact u14_1
  · simp only [WritePath.Keeps]
    intro u15_0 u15_1
    refine State.csCtrl_keeps hP ?_
    exact u15_1
  · simp only [WritePath.Keeps]
    intro u16_0 u16_1
    refine State.csReg_keeps hP ?_
    exact u16_1
  · simp only [WritePath.Keeps]
    intro u17_0 u17_1
    refine State.csReg_keeps hP ?_
    exact u17_1
  · simp only [WritePath.Keeps]
    intro u18_0 u18_1
    refine State.csReg_keeps hP ?_
    exact u18_1
  · simp only [WritePath.Keeps]
    intro u19_0 u19_1
    refine State.commitGo_keeps hP ?_
    exact u19_1
  · simp only [WritePath.Keeps]
    intro u20_0 u20_1
    exact u20_1
  · simp only [WritePath.Keeps]
    intro u21_0 u21_1
    refine stored_keeps hP ?_
    exact u21_1
  · simp only [WritePath.Keeps]
    intro u22_0 u22_1
    refine State.reloadWrite_keeps hP ?_
    exact u22_1

theorem coreWrite_keeps (hP : Closed P) {s m t i off w r} (h : coreWrite s m t i off w = some r) (h0' : P s) : r.Keeps P := by
  unfold coreWrite at h
  repeat' split at h
  all_goals cases h
  · simp only [WritePath.Keeps]
    intro u1_0 u1_1
    refine State.fcSel_keeps hP ?_
    exact u1_1
  · simp only [WritePath.Keeps]
    intro u2_0 u2_1
    refine State.mtrSel_keeps hP ?_
    exact u2_1
  · simp only [WritePath.Keeps]
    intro u3_0 u3_1
    refine stored_keeps hP ?_
    exact u3_1
  · simp only [WritePath.Keeps]
    intro u4_0 u4_1
    refine State.govCtrl_keeps hP ?_
    exact u4_1
  · simp only [WritePath.Keeps]
    intro u5_0 u5_1
    refine stored_keeps hP ?_
    refine stored_keeps hP ?_
    exact u5_1
  · simp only [WritePath.Keeps]
    intro u6_0 u6_1
    refine stored_keeps hP ?_
    refine stored_keeps hP ?_
    exact u6_1
  · simp only [WritePath.Keeps]
    intro u7_0 u7_1
    refine State.solSel_keeps hP ?_
    exact u7_1
  · simp only [WritePath.Keeps]
    intro u8_0 u8_1
    refine State.cbrEnable_keeps hP ?_
    exact u8_1
  · simp only [WritePath.Keeps]
    intro u9_0 u9_1
    refine State.schSubSel_keeps hP ?_
    exact u9_1
  · simp only [WritePath.Keeps]
    intro u10_0 u10_1
    refine State.schQSel_keeps hP ?_
    exact u10_1
  · simp only [WritePath.Keeps]
    intro u11_0 u11_1
    refine State.timeSnap_keeps hP ?_
    exact u11_1
  · simp only [WritePath.Keeps]
    intro u12_0 u12_1
    exact u12_1
  · simp only [WritePath.Keeps]
    intro u13_0 u13_1
    refine State.ppsWrite_keeps hP ?_
    exact u13_1
  · simp only [WritePath.Keeps]
    intro u14_0 u14_1
    refine State.syncCfg_keeps hP ?_
    exact u14_1
  · simp only [WritePath.Keeps]
    intro u15_0 u15_1
    refine State.syncPeriod_keeps hP ?_
    exact u15_1
  · simp only [WritePath.Keeps]
    intro u16_0 u16_1
    refine State.trgCfg_keeps hP ?_
    exact u16_1
  · simp only [WritePath.Keeps]
    intro u17_0 u17_1
    refine State.trgCfg_keeps hP ?_
    exact u17_1
  · simp only [WritePath.Keeps]
    intro u18_0 u18_1
    refine State.trgCfg_keeps hP ?_
    exact u18_1
  · simp only [WritePath.Keeps]
    intro u19_0 u19_1
    refine State.trgCfg_keeps hP ?_
    exact u19_1
  · simp only [WritePath.Keeps]
    intro u20_0 u20_1
    refine State.tcaPortSel_keeps hP ?_
    exact u20_1
  · simp only [WritePath.Keeps]
    intro u21_0 u21_1
    refine State.ldCtrl_keeps hP ?_
    exact u21_1
  · simp only [WritePath.Keeps]
    intro u22_0 u22_1
    refine State.keySel_keeps hP ?_
    exact u22_1
  · simp only [WritePath.Keeps]
    intro u23_0 u23_1
    refine State.fvRead_keeps hP ?_
    exact u23_1
  · simp only [WritePath.Keeps]
    intro u24_0 u24_1
    refine State.fvWrite_keeps hP ?_
    exact u24_1
  · simp only [WritePath.Keeps]
    intro u25_0 u25_1
    refine keep_keeps hP ?_
    exact u25_1

theorem portWrite_keeps (hP : Closed P) {m t i off w r} (h : portWrite m t i off w = some r) : r.Keeps P := by
  unfold portWrite at h
  repeat' split at h
  all_goals cases h
  · simp only [WritePath.Keeps]
    intro u1_0 u1_1
    refine stored_keeps hP ?_
    refine stored_keeps hP ?_
    exact u1_1
  · simp only [WritePath.Keeps]
    intro u2_0 u2_1
    refine State.testSync_keeps hP ?_
    refine State.put_keeps hP ?_
    exact u2_1
  · simp only [WritePath.Keeps]
    intro u3_0 u3_1
    refine State.mdioStart_keeps hP ?_
    exact u3_1
  · simp only [WritePath.Keeps]
    intro u4_0 u4_1
    refine State.testSync_keeps hP ?_
    refine State.put_keeps hP ?_
    refine State.put_keeps hP ?_
    refine State.put_keeps hP ?_
    exact u4_1
  · simp only [WritePath.Keeps]
    intro u5_0 u5_1
    refine State.cableStart_keeps hP ?_
    refine State.t1sRequest_keeps hP ?_
    exact u5_1
  · simp only [WritePath.Keeps]
    intro u6_0 u6_1
    refine State.t1sRequest_keeps hP ?_
    exact u6_1
  · simp only [WritePath.Keeps]
    intro u7_0 u7_1
    refine State.awlRtSel_keeps hP ?_
    exact u7_1
  · simp only [WritePath.Keeps]
    intro u8_0 u8_1
    refine State.startRecovery_keeps hP ?_
    exact u8_1
  · simp only [WritePath.Keeps]
    intro u9_0 u9_1
    exact u9_1
  · simp only [WritePath.Keeps]
    intro u10_0 u10_1
    refine State.linWake_keeps hP ?_
    refine State.linAsk_keeps hP ?_
    exact u10_1
  · simp only [WritePath.Keeps]
    intro u11_0 u11_1
    refine State.linAsk_keeps hP ?_
    exact u11_1

theorem State.writePath_keeps (hP : Closed P) {s : State} {m page off w} (h0 : P s) : (s.writePath m page off w).Keeps P := by
  unfold State.writePath
  extract_lets t i plain
  split
  · exact heelWrite_keeps hP ‹_› h0
  · split
    · exact hostWrite_keeps hP ‹_›
    · split
      · exact updWrite_keeps hP ‹_›
      · split
        · exact coreWrite_keeps hP ‹_› h0
        · cases e : portWrite m t i off w with
          | none => exact fun u hu => State.writeFields_keeps hP hu
          | some r => exact portWrite_keeps hP e

theorem State.writeWord_keeps (hP : Closed P) {a0 : State} {a1 a2 a3 a4} (h0' : P a0) : P (State.writeWord a0 a1 a2 a3 a4).2 := by
  unfold State.writeWord
  refine keeps_ite_snd (State.headerWrite_keeps hP h0') ?_
  have hw := State.writePath_keeps hP (m := a1) (page := a2) (off := a3) (w := a4) h0'
  split <;> rename_i e <;> rw [e] at hw
  · exact State.gate_keeps hP h0' hw
  · exact State.gate0_keeps hP h0' hw
  · exact State.selWrite_keeps hP h0' hw
  · exact hw

theorem registerWrite_keeps (hP : Closed P) {a0 a1 a2 a3 a4} (h4' : P a4) : P (registerWrite a0 a1 a2 a3 a4) := by
  unfold registerWrite
  refine State.dueReset_keeps hP ?_
  refine State.command_keeps hP ?_ ?_
  · exact h4'
  · intro u1_0 u1_1
    refine State.writeWord_keeps hP ?_
    exact u1_1

theorem State.busWrite_keeps (hP : Closed P) {a0 a1 a2 a3} (h0' : P a0) : P (State.busWrite a0 a1 a2 a3).2 := by
  unfold State.busWrite
  split
  · split
    · dsimp only
      exact h0'
    · split
      · split
        · refine State.writeWord_keeps hP ?_
          refine keeps_snd (by assumption) ?_
          refine State.writeWord_keeps hP ?_
          exact h0'
        · dsimp only
          refine keeps_snd (by assumption) ?_
          refine State.writeWord_keeps hP ?_
          exact h0'
      · refine State.writeWord_keeps hP ?_
        exact h0'
  · split
    · refine State.stagingWrite_keeps hP ?_
      exact h0'
    · split
      · dsimp only
        exact h0'
      · dsimp only
        exact h0'

theorem State.busReadReg_keeps (hP : Closed P) {a0 a1 a2 a3 a4} (h0' : P a0) : P (State.busReadReg a0 a1 a2 a3 a4).2.2 := by
  unfold State.busReadReg
  extract_lets +onlyGivenNames v1
  clear_value v1
  extract_lets +onlyGivenNames v2
  clear_value v2
  split
  · dsimp only
    exact h0'
  · split
    · dsimp only
      exact h0'
    · split
      · dsimp only
        exact h0'
      · split
        · dsimp only
          exact h0'
        · extract_lets +onlyGivenNames v3
          have h3 : P v3.2 := by
            unfold v3
            refine State.readReg_keeps hP ?_
            exact h0'
          clear_value v3
          dsimp only
          assumption

theorem State.busRead_keeps (hP : Closed P) {a0 a1 a2 a3} (h0' : P a0) : P (State.busRead a0 a1 a2 a3).2.2 := by
  unfold State.busRead
  split
  · refine State.busReadReg_keeps hP ?_
    exact h0'
  · split
    · split
      · dsimp only
        exact h0'
      · split
        · dsimp only
          exact h0'
        · split
          · dsimp only
            exact h0'
          · split
            · dsimp only
              exact h0'
            · dsimp only
              exact h0'
    · split
      · refine State.busReadReg_keeps hP ?_
        exact h0'
      · dsimp only
        exact h0'

theorem State.wltSet_keeps (hP : Closed P) {a0 a1} (h0' : P a0) : P (State.wltSet a0 a1) := by
  unfold State.wltSet
  refine keeps_mk hP ?_
  exact h0'

theorem State.weltAccept_keeps (hP : Closed P) {s : State} {q t} (h : s.weltAccept q = some t) (h0 : P s) : P t := by
  unfold State.weltAccept at h
  split at h
  · cases h
  · split at h
    · obtain ⟨t', -, rfl⟩ := Option.map_eq_some_iff.mp h
      exact State.wltSet_keeps hP h0
    · cases h
      exact State.wltSet_keeps hP (State.put_keeps hP h0)

theorem State.weltDrain_keeps (hP : Closed P) {a0 a1} (h0' : P a0) : P (State.weltDrain a0 a1) := by
  induction a1 generalizing a0 with
  | nil => exact State.wltSet_keeps hP h0'
  | cons q r ih =>
    simp only [State.weltDrain]
    split
    · exact ih (State.weltAccept_keeps hP ‹_› h0')
    · exact State.wltSet_keeps hP h0'

theorem State.hostIssue_keeps (hP : Closed P) {a0 a1} (h0' : P a0) : P (State.hostIssue a0 a1) := by
  unfold State.hostIssue
  refine keeps_ite ?_ ?_
  · refine State.weltDrain_keeps hP ?_
    exact h0'
  · exact h0'

theorem pcieRead_keeps (hP : Closed P) {a0 a1 a2} (h2' : P a2) : P (pcieRead a0 a1 a2) := by
  unfold pcieRead
  refine State.hostIssue_keeps hP ?_
  exact h2'

theorem pcieWritePosted_keeps (hP : Closed P) {a0 a1 a2} (h2' : P a2) : P (pcieWritePosted a0 a1 a2) := by
  unfold pcieWritePosted
  refine keeps_ite ?_ ?_
  · exact h2'
  · refine State.hostIssue_keeps hP ?_
    exact h2'

theorem pcieWriteConfirmed_keeps (hP : Closed P) {a0 a1 a2} (h2' : P a2) : P (pcieWriteConfirmed a0 a1 a2) := by
  unfold pcieWriteConfirmed
  refine keeps_ite ?_ ?_
  · refine State.hostIssue_keeps hP ?_
    exact h2'
  · exact h2'

theorem State.weltEnd_keeps (hP : Closed P) {a0 a1} (h0' : P a0) : P (State.weltEnd a0 a1) := by
  unfold State.weltEnd
  extract_lets +onlyGivenNames v1
  have h1 : P v1 := by
    unfold v1
    refine State.wltSet_keeps hP ?_
    exact h0'
  clear_value v1
  refine State.weltDrain_keeps hP ?_
  exact h1

theorem State.complete_keeps (hP : Closed P) {a0 a1 a2 a3} (h0' : P a0) : P (State.complete a0 a1 a2 a3) := by
  unfold State.complete
  refine State.wltSet_keeps hP ?_
  exact h0'

theorem readAnswer_keeps (hP : Closed P) {a0 a1 a2} (h2' : P a2) : P (readAnswer a0 a1 a2) := by
  unfold readAnswer
  split
  · extract_lets +onlyGivenNames v1
    have h1 : P v1 := by
      unfold v1
      refine keeps_ite ?_ ?_
      · refine State.readFail_keeps hP ?_
        refine State.complete_keeps hP ?_
        exact h2'
      · split
        · refine State.complete_keeps hP ?_
          refine keeps_snd_snd (by assumption) ?_
          refine State.busRead_keeps hP ?_
          exact h2'
        · refine State.readFail_keeps hP ?_
          refine State.complete_keeps hP ?_
          refine keeps_snd_snd (by assumption) ?_
          refine State.busRead_keeps hP ?_
          exact h2'
    clear_value v1
    refine State.weltEnd_keeps hP ?_
    exact h1
  · exact h2'

theorem readTimeout_keeps (hP : Closed P) {a0 a1} (h1' : P a1) : P (readTimeout a0 a1) := by
  unfold readTimeout
  split
  · extract_lets +onlyGivenNames v1
    have h1 : P v1.2 := by
      unfold v1
      refine State.draw_keeps hP ?_
      exact h1'
    clear_value v1
    extract_lets +onlyGivenNames v2
    have h2 : P v2 := by
      unfold v2
      refine keeps_ite ?_ ?_
      · refine State.busRead_keeps hP ?_
        assumption
      · assumption
    clear_value v2
    extract_lets +onlyGivenNames v3
    have h3 : P v3 := by
      unfold v3
      refine State.readFail_keeps hP ?_
      refine State.complete_keeps hP ?_
      exact h2
    clear_value v3
    refine State.weltEnd_keeps hP ?_
    refine State.raise_keeps hP ?_
    refine State.inc_keeps hP ?_
    exact h3
  · exact h1'

theorem writeAck_keeps (hP : Closed P) {a0 a1 a2} (h2' : P a2) : P (writeAck a0 a1 a2) := by
  unfold writeAck
  split
  · extract_lets +onlyGivenNames v1
    have h1 : P v1.2 := by
      unfold v1
      split
      · dsimp only
        exact h2'
      · refine State.busWrite_keeps hP ?_
        exact h2'
    clear_value v1
    extract_lets +onlyGivenNames v2
    have h2 : P v2 := by
      unfold v2
      split
      · assumption
      · refine State.perr_keeps hP ?_
        assumption
    clear_value v2
    refine State.dueReset_keeps hP ?_
    refine State.weltEnd_keeps hP ?_
    exact h2
  · exact h2'

theorem writeTimeout_keeps (hP : Closed P) {a0 a1} (h1' : P a1) : P (writeTimeout a0 a1) := by
  unfold writeTimeout
  split
  · extract_lets +onlyGivenNames v1
    have h1 : P v1.2 := by
      unfold v1
      refine State.draw_keeps hP ?_
      exact h1'
    clear_value v1
    extract_lets +onlyGivenNames v2
    have h2 : P v2 := by
      unfold v2
      refine keeps_ite ?_ ?_
      · refine State.busWrite_keeps hP ?_
        assumption
      · assumption
    clear_value v2
    refine State.dueReset_keeps hP ?_
    refine State.weltEnd_keeps hP ?_
    refine State.perr_keeps hP ?_
    exact h2
  · exact h1'

theorem perrAck_keeps (hP : Closed P) {a0 a1 a2} (h2' : P a2) : P (perrAck a0 a1 a2) := by
  unfold perrAck
  refine State.direct_keeps hP ?_ ?_
  · exact h2'
  · intro u1_0 u1_1
    refine State.perrAck_keeps hP ?_
    exact u1_1

theorem State.sbAnswer_keeps (hP : Closed P) {a0 a1 a2 a3} (h0' : P a0) : P (State.sbAnswer a0 a1 a2 a3) := by
  unfold State.sbAnswer
  refine keeps_mk hP ?_
  exact h0'

theorem State.sbCount_keeps (hP : Closed P) {a0} (h0' : P a0) : P (State.sbCount a0) := by
  unfold State.sbCount
  refine State.inc_keeps hP ?_
  exact h0'

theorem State.sbWords_keeps (hP : Closed P) {a0 a1 a2 a3} (h0' : P a0) : P (State.sbWords a0 a1 a2 a3).2.2 := by
  induction a2 generalizing a0 a1 a3 with
  | nil => exact h0'
  | cons w r ih =>
    have h1 : P (a0.busWrite .sideband a1 (leBytes 4 w)).2 := State.busWrite_keeps hP h0'
    simp only [State.sbWords]
    split
    · exact ih (keeps_snd ‹_› h1)
    · exact keeps_snd ‹_› h1

theorem State.sbFetch_keeps (hP : Closed P) {a0 a1 a2 a3 a4} (h0' : P a0) : P (State.sbFetch a0 a1 a2 a3 a4).2.2 := by
  induction a3 generalizing a0 a2 a4 with
  | zero => exact h0'
  | succ n ih =>
    have h1 : P (if a1 then a0.busReadReg .sideband true a2 4 else a0.busRead .sideband a2 4).2.2 := by
      split
      · exact State.busReadReg_keeps hP h0'
      · exact State.busRead_keeps hP h0'
    simp only [State.sbFetch]
    split
    · exact ih (keeps_snd_snd ‹_› h1)
    · exact keeps_snd_snd ‹_› h1

theorem sbWrite_keeps (hP : Closed P) {a0 a1 a2 a3} (h3' : P a3) : P (sbWrite a0 a1 a2 a3) := by
  unfold sbWrite
  refine keeps_ite ?_ ?_
  · exact h3'
  · split
    · refine State.sbAnswer_keeps hP ?_
      exact h3'
    · extract_lets +onlyGivenNames v1
      clear_value v1
      extract_lets +onlyGivenNames v2
      have h2 : P v2.2.2 := by
        unfold v2
        refine State.sbWords_keeps hP ?_
        refine State.sbCount_keeps hP ?_
        exact h3'
      clear_value v2
      refine State.dueReset_keeps hP ?_
      refine keeps_ite ?_ ?_
      · refine State.sbAnswer_keeps hP ?_
        assumption
      · refine State.sbAnswer_keeps hP ?_
        assumption

theorem State.sbGet_keeps (hP : Closed P) {a0 a1 a2 a3 a4} (h0' : P a0) : P (State.sbGet a0 a1 a2 a3 a4) := by
  unfold State.sbGet
  refine keeps_ite ?_ ?_
  · exact h0'
  · split
    · refine State.sbAnswer_keeps hP ?_
      exact h0'
    · extract_lets +onlyGivenNames v1
      clear_value v1
      extract_lets +onlyGivenNames v2
      have h2 : P v2.2.2 := by
        unfold v2
        refine State.sbFetch_keeps hP ?_
        refine State.sbCount_keeps hP ?_
        exact h0'
      clear_value v2
      extract_lets +onlyGivenNames v3
      clear_value v3
      refine State.sbAnswer_keeps hP ?_
      assumption

theorem sbRead_keeps (hP : Closed P) {a0 a1 a2 a3} (h3' : P a3) : P (sbRead a0 a1 a2 a3) := by
  unfold sbRead
  refine State.sbGet_keeps hP ?_
  exact h3'

theorem sbPeek_keeps (hP : Closed P) {a0 a1 a2 a3} (h3' : P a3) : P (sbPeek a0 a1 a2 a3) := by
  unfold sbPeek
  refine State.sbGet_keeps hP ?_
  exact h3'

theorem State.sbFixed_keeps (hP : Closed P) {a0 a1 a2 a3 a4} (h0' : P a0) (h4' : ∀ x0, P x0 → P (a4 x0)) : P (State.sbFixed a0 a1 a2 a3 a4) := by
  unfold State.sbFixed
  refine keeps_ite ?_ ?_
  · exact h0'
  · refine keeps_ite ?_ ?_
    · refine State.sbAnswer_keeps hP ?_
      exact h0'
    · refine keeps_ite ?_ ?_
      · refine State.sbAnswer_keeps hP ?_
        exact h0'
      · refine h4' _ ?_
        refine State.sbCount_keeps hP ?_
        exact h0'

theorem sbStatus_keeps (hP : Closed P) {a0 a1 a2} (h2' : P a2) : P (sbStatus a0 a1 a2) := by
  unfold sbStatus
  refine State.sbFixed_keeps hP ?_ ?_
  · exact h2'
  · intro u1_0 u1_1
    refine State.sbAnswer_keeps hP ?_
    exact u1_1

theorem sbIdent_keeps (hP : Closed P) {a0 a1 a2} (h2' : P a2) : P (sbIdent a0 a1 a2) := by
  unfold sbIdent
  refine State.sbFixed_keeps hP ?_ ?_
  · exact h2'
  · intro u1_0 u1_1
    refine State.sbAnswer_keeps hP ?_
    exact u1_1

theorem sbPower_keeps (hP : Closed P) {a0 a1 a2 a3} (h3' : P a3) : P (sbPower a0 a1 a2 a3) := by
  unfold sbPower
  refine State.sbFixed_keeps hP ?_ ?_
  · exact h3'
  · intro u1_0 u1_1
    extract_lets +onlyGivenNames v2
    clear_value v2
    extract_lets +onlyGivenNames v3
    clear_value v3
    refine keeps_ite ?_ ?_
    · refine State.sbAnswer_keeps hP ?_
      exact u1_1
    · refine keeps_ite ?_ ?_
      · refine State.sbAnswer_keeps hP ?_
        refine State.ownErr_keeps hP ?_
        exact u1_1
      · refine keeps_ite ?_ ?_
        · refine State.sbAnswer_keeps hP ?_
          refine State.domainErr_keeps hP ?_
          exact u1_1
        · refine keeps_ite ?_ ?_
          · refine State.sbAnswer_keeps hP ?_
            refine State.domainErr_keeps hP ?_
            exact u1_1
          · refine State.sbAnswer_keeps hP ?_
            refine State.domainAsk_keeps hP ?_
            exact u1_1

theorem sbCrcErr_keeps (hP : Closed P) {a0 a1} (h1' : P a1) : P (sbCrcErr a0 a1) := by
  unfold sbCrcErr
  refine keeps_ite ?_ ?_
  · exact h1'
  · split
    · refine State.sbAnswer_keeps hP ?_
      refine State.raise_keeps hP ?_
      refine State.inc_keeps hP ?_
      exact h1'
    · refine State.sbAnswer_keeps hP ?_
      exact h1'
    · exact h1'

theorem sbShort_keeps (hP : Closed P) {a0} (h0' : P a0) : P (sbShort a0) := by
  unfold sbShort
  refine keeps_ite ?_ ?_
  · refine State.raise_keeps hP ?_
    refine State.inc_keeps hP ?_
    exact h0'
  · exact h0'

theorem sbResponseTimeout_keeps (hP : Closed P) {a0 a1 a2} (h2' : P a2) : P (sbResponseTimeout a0 a1 a2) := by
  unfold sbResponseTimeout
  refine keeps_ite ?_ ?_
  · exact h2'
  · split
    · split
      · refine State.sbAnswer_keeps hP ?_
        exact h2'
      · extract_lets +onlyGivenNames v1
        have h1 : P v1.2.2 := by
          unfold v1
          refine State.sbWords_keeps hP ?_
          refine State.sbCount_keeps hP ?_
          exact h2'
        clear_value v1
        refine keeps_ite ?_ ?_
        · refine State.dueReset_keeps hP ?_
          refine State.sbAnswer_keeps hP ?_
          assumption
        · extract_lets +onlyGivenNames v2
          have h2 : P v2.2 := by
            unfold v2
            refine State.draw_keeps hP ?_
            assumption
          clear_value v2
          extract_lets +onlyGivenNames v3
          have h3 : P v3 := by
            unfold v3
            refine keeps_ite ?_ ?_
            · refine State.sbWords_keeps hP ?_
              assumption
            · assumption
          clear_value v3
          refine State.dueReset_keeps hP ?_
          refine State.sbAnswer_keeps hP ?_
          exact h3
    · split
      · refine State.sbAnswer_keeps hP ?_
        exact h2'
      · extract_lets +onlyGivenNames v4
        have h4 : P v4.2.2 := by
          unfold v4
          refine State.sbFetch_keeps hP ?_
          refine State.sbCount_keeps hP ?_
          exact h2'
        clear_value v4
        extract_lets +onlyGivenNames v5
        clear_value v5
        refine keeps_ite ?_ ?_
        · refine State.sbAnswer_keeps hP ?_
          assumption
        · extract_lets +onlyGivenNames v6
          have h6 : P v6.2 := by
            unfold v6
            refine State.draw_keeps hP ?_
            assumption
          clear_value v6
          extract_lets +onlyGivenNames v7
          have h7 : P v7 := by
            unfold v7
            refine keeps_ite ?_ ?_
            · refine State.sbFetch_keeps hP ?_
              assumption
            · assumption
          clear_value v7
          refine State.sbAnswer_keeps hP ?_
          exact h7

theorem goodFrameTraffic_keeps (hP : Closed P) {a0 a1 a2} (h1' : P a1) (h2' : P a2) : P (goodFrameTraffic a0 a1 a2) := by
  unfold goodFrameTraffic
  refine keeps_ite ?_ ?_
  · refine State.kaSeen_keeps hP ?_
    refine State.validTraffic_keeps hP ?_
    exact h2'
  · exact h2'

end Sys2Proof.Machine
end

