-- ==== Sys2Proof/Laws/KeepsH.lean ====
section
/-! SUPPORT. One lemma per command: it keeps a `Closed` predicate. -/
namespace Sys2Proof.Machine

set_option Elab.async false
variable {P : State → Prop}

theorem execCsOpen_keeps (hP : Closed P) {b0 s t} (h : P s) (e : execCsOpen b0 s = .next t) : P t := by
  cases e
  exact csOpen_keeps hP h

theorem execCsAbort_keeps (hP : Closed P) {b0 s t} (h : P s) (e : execCsAbort b0 s = .next t) : P t := by
  cases e
  exact csAbort_keeps hP h

theorem execStagingWrite_keeps (hP : Closed P) {b0 b1 b2 s t} (h : P s) (e : execStagingWrite b0 b1 b2 s = .next t) : P t := by
  cases e
  exact stagingWrite_keeps hP h

theorem execChangeSetListWrite_keeps (hP : Closed P) {b0 b1 b2 s t} (h : P s) (e : execChangeSetListWrite b0 b1 b2 s = .next t) : P t := by
  cases e
  exact changeSetListWrite_keeps hP h

theorem execCommitGo_keeps (hP : Closed P) {b0 s t} (h : P s) (e : execCommitGo b0 s = .next t) : P t := by
  cases e
  exact commitGo_keeps hP h

theorem execCommitValidated_keeps (hP : Closed P) {s t} (h : P s) (e : execCommitValidated s = .next t) : P t := by
  cases e
  exact commitValidated_keeps hP h

theorem execFlip_keeps (hP : Closed P) {s t} (h : P s) (e : execFlip s = .next t) : P t := by
  cases e
  exact flip_keeps hP h

theorem execEpochDrainEnd_keeps (hP : Closed P) {s t} (h : P s) (e : execEpochDrainEnd s = .next t) : P t := by
  cases e
  exact epochDrainEnd_keeps hP h

theorem execDrainLimitExpiry_keeps (hP : Closed P) {s t} (h : P s) (e : execDrainLimitExpiry s = .next t) : P t := by
  cases e
  exact drainLimitExpiry_keeps hP h

theorem execReloadFlash_keeps (hP : Closed P) {b0 s t} (h : P s) (e : execReloadFlash b0 s = .next t) : P t := by
  cases e
  exact reloadFlash_keeps hP h

theorem execReloadHost_keeps (hP : Closed P) {b0 s t} (h : P s) (e : execReloadHost b0 s = .next t) : P t := by
  cases e
  exact reloadHost_keeps hP h

theorem execReloadGo_keeps (hP : Closed P) {b0 s t} (h : P s) (e : execReloadGo b0 s = .next t) : P t := by
  cases e
  exact reloadGo_keeps hP h

theorem execHostLoadTimeout_keeps (hP : Closed P) {s t} (h : P s) (e : execHostLoadTimeout s = .next t) : P t := by
  cases e
  exact hostLoadTimeout_keeps hP h

theorem execReloadImageReadDone_keeps (hP : Closed P) {b0 s t} (h : P s) (e : execReloadImageReadDone b0 s = .next t) : P t := by
  cases e
  exact reloadImageReadDone_keeps hP h

theorem execReloadDone_keeps (hP : Closed P) {s t} (h : P s) (e : execReloadDone s = .next t) : P t := by
  cases e
  exact reloadDone_keeps hP h

theorem execEthFrameArrival_keeps (hP : Closed P) {b0 b1 s t} (h : P s) (e : execEthFrameArrival b0 b1 s = .next t) : P t := by
  cases e
  exact ethFrameArrival_keeps hP h

theorem execClickerDispatch_keeps (hP : Closed P) {s t} (h : P s) (e : execClickerDispatch s = .next t) : P t := by
  cases e
  exact clickerDispatch_keeps hP h

theorem execParseStep_keeps (hP : Closed P) {b0 b1 s t} (h : P s) (e : execParseStep b0 b1 s = .next t) : P t := by
  cases e
  exact parseStep_keeps hP h

theorem execFlowLookup_keeps (hP : Closed P) {b0 b1 s t} (h : P s) (e : execFlowLookup b0 b1 s = .next t) : P t := by
  cases e
  exact flowLookup_keeps hP h

theorem execIngressFrameEnd_keeps (hP : Closed P) {b0 b1 s t} (h : P s) (e : execIngressFrameEnd b0 b1 s = .next t) : P t := by
  cases e
  exact goodFrameTraffic_keeps hP h (ingressFrameEnd_keeps hP h)

theorem execReorderRelease_keeps (hP : Closed P) {b0 s t} (h : P s) (e : execReorderRelease b0 s = .next t) : P t := by
  cases e
  exact reorderRelease_keeps hP h

theorem execReorderTimeout_keeps (hP : Closed P) {b0 b1 s t} (h : P s) (e : execReorderTimeout b0 b1 s = .next t) : P t := by
  cases e
  exact reorderTimeout_keeps hP h

theorem execClickerRejoin_keeps (hP : Closed P) {b0 b1 b2 s t} (h : P s) (e : execClickerRejoin b0 b1 b2 s = .next t) : P t := by
  cases e
  exact clickerRejoin_keeps hP h

theorem execCutThroughStart_keeps (hP : Closed P) {b0 s t} (h : P s) (e : execCutThroughStart b0 s = .next t) : P t := by
  cases e
  exact cutThroughStart_keeps hP h

theorem execSchedulerChoose_keeps (hP : Closed P) {b0 s t} (h : P s) (e : execSchedulerChoose b0 s = .next t) : P t := by
  cases e
  exact schedulerChoose_keeps hP h

theorem execCopyTxDone_keeps (hP : Closed P) {b0 s t} (h : P s) (e : execCopyTxDone b0 s = .next t) : P t := by
  cases e
  exact copyTxDone_keeps hP h

theorem execReparent_keeps (hP : Closed P) {b0 b1 s t} (h : P s) (e : execReparent b0 b1 s = .next t) : P t := by
  cases e
  exact reparent_keeps hP h

theorem execPaceWindowEnd_keeps (hP : Closed P) {b0 b1 s t} (h : P s) (e : execPaceWindowEnd b0 b1 s = .next t) : P t := by
  cases e
  exact paceWindowEnd_keeps hP h

theorem execDemandWindowEnd_keeps (hP : Closed P) {s t} (h : P s) (e : execDemandWindowEnd s = .next t) : P t := by
  cases e
  exact demandWindowEnd_keeps hP h

theorem execFabricStall_keeps (hP : Closed P) {b0 s t} (h : P s) (e : execFabricStall b0 s = .next t) : P t := by
  cases e
  exact fabricStall_keeps hP h

theorem execSliceRejoin_keeps (hP : Closed P) {b0 b1 b2 s t} (h : P s) (e : execSliceRejoin b0 b1 b2 s = .next t) : P t := by
  cases e
  exact sliceRejoin_keeps hP h

theorem execGovernorInterval_keeps (hP : Closed P) {s t} (h : P s) (e : execGovernorInterval s = .next t) : P t := by
  cases e
  exact governorInterval_keeps hP h

theorem execPmbusTransactionDone_keeps (hP : Closed P) {b0 b1 s t} (h : P s) (e : execPmbusTransactionDone b0 b1 s = .next t) : P t := by
  cases e
  exact pmbusTransactionDone_keeps hP h

theorem execGovernorEnable_keeps (hP : Closed P) {b0 b1 b2 b3 b4 b5 s t} (h : P s) (e : execGovernorEnable b0 b1 b2 b3 b4 b5 s = .next t) : P t := by
  cases e
  exact governorEnable_keeps hP h

theorem execLinkUp_keeps (hP : Closed P) {b0 b1 s t} (h : P s) (e : execLinkUp b0 b1 s = .next t) : P t := by
  cases e
  exact linkUp_keeps hP h

theorem execLinkDown_keeps (hP : Closed P) {b0 b1 s t} (h : P s) (e : execLinkDown b0 b1 s = .next t) : P t := by
  cases e
  exact linkDown_keeps hP h

theorem execFlushComplete_keeps (hP : Closed P) {b0 s t} (h : P s) (e : execFlushComplete b0 s = .next t) : P t := by
  cases e
  exact flushComplete_keeps hP h

theorem execPortReturnEnd_keeps (hP : Closed P) {b0 s t} (h : P s) (e : execPortReturnEnd b0 s = .next t) : P t := by
  cases e
  exact portReturnEnd_keeps hP h

theorem execCautiousConditionEnd_keeps (hP : Closed P) {b0 s t} (h : P s) (e : execCautiousConditionEnd b0 s = .next t) : P t := by
  cases e
  exact cautiousConditionEnd_keeps hP h

theorem execCobblerPassEnd_keeps (hP : Closed P) {b0 s t} (h : P s) (e : execCobblerPassEnd b0 s = .next t) : P t := by
  cases e
  exact cobblerPassEnd_keeps hP h

theorem execCobblerEnable_keeps (hP : Closed P) {b0 b1 s t} (h : P s) (e : execCobblerEnable b0 b1 s = .next t) : P t := by
  cases e
  exact cobblerEnable_keeps hP h

theorem execInbandRateChange_keeps (hP : Closed P) {b0 b1 s t} (h : P s) (e : execInbandRateChange b0 b1 s = .next t) : P t := by
  cases e
  exact inbandRateChange_keeps hP h

theorem execPllLost_keeps (hP : Closed P) {b0 s t} (h : P s) (e : execPllLost b0 s = .next t) : P t := by
  cases e
  exact pllLost_keeps hP h

theorem execPauseFrameRx_keeps (hP : Closed P) {b0 b1 b2 s t} (h : P s) (e : execPauseFrameRx b0 b1 b2 s = .next t) : P t := by
  cases e
  exact pauseFrameRx_keeps hP h

theorem execPauseExpiry_keeps (hP : Closed P) {b0 b1 s t} (h : P s) (e : execPauseExpiry b0 b1 s = .next t) : P t := by
  cases e
  exact pauseExpiry_keeps hP h

theorem execTxPauseSend_keeps (hP : Closed P) {b0 s t} (h : P s) (e : execTxPauseSend b0 s = .next t) : P t := by
  cases e
  exact txPauseSend_keeps hP h

theorem execTxPauseRepeat_keeps (hP : Closed P) {b0 s t} (h : P s) (e : execTxPauseRepeat b0 s = .next t) : P t := by
  cases e
  exact txPauseRepeat_keeps hP h

theorem execPauseWatchdogExpiry_keeps (hP : Closed P) {b0 s t} (h : P s) (e : execPauseWatchdogExpiry b0 s = .next t) : P t := by
  cases e
  exact pauseWatchdogExpiry_keeps hP h

theorem execPauseIgnoreEnd_keeps (hP : Closed P) {b0 s t} (h : P s) (e : execPauseIgnoreEnd b0 s = .next t) : P t := by
  cases e
  exact pauseIgnoreEnd_keeps hP h

theorem execTestModeSet_keeps (hP : Closed P) {b0 b1 b2 s t} (h : P s) (e : execTestModeSet b0 b1 b2 s = .next t) : P t := by
  cases e
  exact testModeSet_keeps hP h

theorem execCounterLowRead_keeps (hP : Closed P) {b0 b1 s t} (h : P s) (e : execCounterLowRead b0 b1 s = .next t) : P t := by
  cases e
  exact counterLowRead_keeps hP h

theorem execT1sStateRequest_keeps (hP : Closed P) {b0 b1 b2 s t} (h : P s) (e : execT1sStateRequest b0 b1 b2 s = .next t) : P t := by
  cases e
  exact t1sStateRequest_keeps hP h

theorem execT1sStateReached_keeps (hP : Closed P) {b0 s t} (h : P s) (e : execT1sStateReached b0 s = .next t) : P t := by
  cases e
  exact t1sStateReached_keeps hP h

theorem execPlcaBeaconTimeout_keeps (hP : Closed P) {b0 s t} (h : P s) (e : execPlcaBeaconTimeout b0 s = .next t) : P t := by
  cases e
  exact plcaBeaconTimeout_keeps hP h

theorem execPlcaBeaconRx_keeps (hP : Closed P) {b0 s t} (h : P s) (e : execPlcaBeaconRx b0 s = .next t) : P t := by
  cases e
  exact plcaBeaconRx_keeps hP h

theorem execT1sCollision_keeps (hP : Closed P) {b0 s t} (h : P s) (e : execT1sCollision b0 s = .next t) : P t := by
  cases e
  exact t1sCollision_keeps hP h

theorem execCableGo_keeps (hP : Closed P) {b0 b1 s t} (h : P s) (e : execCableGo b0 b1 s = .next t) : P t := by
  cases e
  exact cableGo_keeps hP h

theorem execCableCheckDone_keeps (hP : Closed P) {b0 b1 s t} (h : P s) (e : execCableCheckDone b0 b1 s = .next t) : P t := by
  cases e
  exact cableCheckDone_keeps hP h

theorem execMdioCmd_keeps (hP : Closed P) {b0 b1 b2 b3 b4 b5 b6 s t} (h : P s) (e : execMdioCmd b0 b1 b2 b3 b4 b5 b6 s = .next t) : P t := by
  cases e
  exact mdioCmd_keeps hP h

theorem execMdioDone_keeps (hP : Closed P) {b0 b1 s t} (h : P s) (e : execMdioDone b0 b1 s = .next t) : P t := by
  cases e
  exact mdioDone_keeps hP h

theorem execCanFrameRx_keeps (hP : Closed P) {b0 b1 b2 s t} (h : P s) (e : execCanFrameRx b0 b1 b2 s = .next t) : P t := by
  cases e
  exact canFrameRx_keeps hP h

theorem execAwlAccept_keeps (hP : Closed P) {b0 s t} (h : P s) (e : execAwlAccept b0 s = .next t) : P t := by
  cases e
  exact State.clusterSync_keeps hP (awlAccept_keeps hP h)

theorem execApFrameToAwl_keeps (hP : Closed P) {b0 s t} (h : P s) (e : execApFrameToAwl b0 s = .next t) : P t := by
  cases e
  exact apFrameToAwl_keeps hP h

theorem execCanTxStart_keeps (hP : Closed P) {b0 s t} (h : P s) (e : execCanTxStart b0 s = .next t) : P t := by
  cases e
  exact canTxStart_keeps hP h

theorem execCanTxDone_keeps (hP : Closed P) {b0 b1 s t} (h : P s) (e : execCanTxDone b0 b1 s = .next t) : P t := by
  cases e
  exact canTxDone_keeps hP h

theorem execCanBusOff_keeps (hP : Closed P) {b0 s t} (h : P s) (e : execCanBusOff b0 s = .next t) : P t := by
  cases e
  exact canBusOff_keeps hP h

theorem execRecDelayExpiry_keeps (hP : Closed P) {b0 s t} (h : P s) (e : execRecDelayExpiry b0 s = .next t) : P t := by
  cases e
  exact recDelayExpiry_keeps hP h

theorem execCanRecover_keeps (hP : Closed P) {b0 b1 s t} (h : P s) (e : execCanRecover b0 b1 s = .next t) : P t := by
  cases e
  exact canRecover_keeps hP h

theorem execCanRecovered_keeps (hP : Closed P) {b0 s t} (h : P s) (e : execCanRecovered b0 s = .next t) : P t := by
  cases e
  exact canRecovered_keeps hP h

theorem execCanSlotStart_keeps (hP : Closed P) {b0 b1 s t} (h : P s) (e : execCanSlotStart b0 b1 s = .next t) : P t := by
  cases e
  exact canSlotStart_keeps hP h

theorem execCanSlotWindowClose_keeps (hP : Closed P) {b0 b1 s t} (h : P s) (e : execCanSlotWindowClose b0 b1 s = .next t) : P t := by
  cases e
  exact canSlotWindowClose_keeps hP h

theorem execLinEntryStart_keeps (hP : Closed P) {b0 b1 s t} (h : P s) (e : execLinEntryStart b0 b1 s = .next t) : P t := by
  cases e
  exact State.linSync_keeps hP (linEntryStart_keeps hP h)

theorem execLinHeaderRx_keeps (hP : Closed P) {b0 b1 b2 b3 s t} (h : P s) (e : execLinHeaderRx b0 b1 b2 b3 s = .next t) : P t := by
  cases e
  exact linHeaderRx_keeps hP h

theorem execLinResponseRx_keeps (hP : Closed P) {b0 b1 s t} (h : P s) (e : execLinResponseRx b0 b1 s = .next t) : P t := by
  cases e
  exact linResponseRx_keeps hP h

theorem execLinTableWrite_keeps (hP : Closed P) {b0 b1 b2 s t} (h : P s) (e : execLinTableWrite b0 b1 b2 s = .next t) : P t := by
  cases e
  exact linTableWrite_keeps hP h

theorem execLinWakeTx_keeps (hP : Closed P) {b0 b1 s t} (h : P s) (e : execLinWakeTx b0 b1 s = .next t) : P t := by
  cases e
  exact linWakeTx_keeps hP h

theorem execLinWakeRepeat_keeps (hP : Closed P) {b0 s t} (h : P s) (e : execLinWakeRepeat b0 s = .next t) : P t := by
  cases e
  exact linWakeRepeat_keeps hP h

theorem execLinWakeRx_keeps (hP : Closed P) {b0 s t} (h : P s) (e : execLinWakeRx b0 s = .next t) : P t := by
  cases e
  exact linWakeRx_keeps hP h

theorem execStreamHoldExpiry_keeps (hP : Closed P) {b0 s t} (h : P s) (e : execStreamHoldExpiry b0 s = .next t) : P t := by
  cases e
  exact streamHoldExpiry_keeps hP h

theorem execAwlWatchdog_keeps (hP : Closed P) {b0 s t} (h : P s) (e : execAwlWatchdog b0 s = .next t) : P t := by
  cases e
  exact awlWatchdog_keeps hP h

theorem execCanFifoError_keeps (hP : Closed P) {b0 b1 s t} (h : P s) (e : execCanFifoError b0 b1 s = .next t) : P t := by
  cases e
  exact canFifoError_keeps hP h

theorem execToecapStart_keeps (hP : Closed P) {s t} (h : P s) (e : execToecapStart s = .next t) : P t := by
  cases e
  exact toecapStart_keeps hP h

theorem execKeyRestoreDone_keeps (hP : Closed P) {s t} (h : P s) (e : execKeyRestoreDone s = .next t) : P t := by
  cases e
  exact keyRestoreDone_keeps hP h

theorem execKeyLoad_keeps (hP : Closed P) {b0 b1 b2 b3 b4 b5 s t} (h : P s) (e : execKeyLoad b0 b1 b2 b3 b4 b5 s = .next t) : P t := by
  cases e
  exact keyLoad_keeps hP h

theorem execKeyErase_keeps (hP : Closed P) {b0 b1 b2 s t} (h : P s) (e : execKeyErase b0 b1 b2 s = .next t) : P t := by
  cases e
  exact keyErase_keeps hP h

theorem execKeyLoadDone_keeps (hP : Closed P) {s t} (h : P s) (e : execKeyLoadDone s = .next t) : P t := by
  cases e
  exact keyLoadDone_keeps hP h

theorem execTkmLock_keeps (hP : Closed P) {b0 s t} (h : P s) (e : execTkmLock b0 s = .next t) : P t := by
  cases e
  exact tkmLock_keeps hP h

theorem execDrbgReseed_keeps (hP : Closed P) {b0 s t} (h : P s) (e : execDrbgReseed b0 s = .next t) : P t := by
  cases e
  exact drbgReseed_keeps hP h

theorem execToecapAlarm_keeps (hP : Closed P) {b0 s t} (h : P s) (e : execToecapAlarm b0 s = .next t) : P t := by
  cases e
  exact toecapAlarm_keeps hP h

theorem execTcaEvtRead_keeps (hP : Closed P) {b0 s t} (h : P s) (e : execTcaEvtRead b0 s = .next t) : P t := by
  cases e
  exact tcaEvtRead_keeps hP h

theorem execFvRead_keeps (hP : Closed P) {b0 s t} (h : P s) (e : execFvRead b0 s = .next t) : P t := by
  cases e
  exact fvRead_keeps hP h

theorem execFvWrite_keeps (hP : Closed P) {b0 s t} (h : P s) (e : execFvWrite b0 s = .next t) : P t := by
  cases e
  exact fvWrite_keeps hP h

theorem execPcieRead_keeps (hP : Closed P) {b0 b1 s t} (h : P s) (e : execPcieRead b0 b1 s = .next t) : P t := by
  cases e
  exact pcieRead_keeps hP h

theorem execReadAnswer_keeps (hP : Closed P) {b0 b1 s t} (h : P s) (e : execReadAnswer b0 b1 s = .next t) : P t := by
  cases e
  exact readAnswer_keeps hP h

theorem execReadTimeout_keeps (hP : Closed P) {b0 s t} (h : P s) (e : execReadTimeout b0 s = .next t) : P t := by
  cases e
  exact readTimeout_keeps hP h

theorem execPcieWritePosted_keeps (hP : Closed P) {b0 b1 s t} (h : P s) (e : execPcieWritePosted b0 b1 s = .next t) : P t := by
  cases e
  exact pcieWritePosted_keeps hP h

theorem execPcieWriteConfirmed_keeps (hP : Closed P) {b0 b1 s t} (h : P s) (e : execPcieWriteConfirmed b0 b1 s = .next t) : P t := by
  cases e
  exact pcieWriteConfirmed_keeps hP h

theorem execWriteAck_keeps (hP : Closed P) {b0 b1 s t} (h : P s) (e : execWriteAck b0 b1 s = .next t) : P t := by
  cases e
  exact writeAck_keeps hP h

theorem execWriteTimeout_keeps (hP : Closed P) {b0 s t} (h : P s) (e : execWriteTimeout b0 s = .next t) : P t := by
  cases e
  exact writeTimeout_keeps hP h

theorem execPerrAck_keeps (hP : Closed P) {b0 b1 s t} (h : P s) (e : execPerrAck b0 b1 s = .next t) : P t := by
  cases e
  exact perrAck_keeps hP h

theorem execPcieLinkDown_keeps (hP : Closed P) {s t} (h : P s) (e : execPcieLinkDown s = .next t) : P t := by
  cases e
  exact pcieLinkDown_keeps hP h

theorem execPcieLinkUp_keeps (hP : Closed P) {b0 b1 b2 s t} (h : P s) (e : execPcieLinkUp b0 b1 b2 s = .next t) : P t := by
  cases e
  exact pcieLinkUp_keeps hP h

theorem execOwnerWrite_keeps (hP : Closed P) {b0 b1 s t} (h : P s) (e : execOwnerWrite b0 b1 s = .next t) : P t := by
  cases e
  exact ownerWrite_keeps hP h

theorem execRingEnable_keeps (hP : Closed P) {b0 b1 b2 b3 b4 b5 b6 s t} (h : P s) (e : execRingEnable b0 b1 b2 b3 b4 b5 b6 s = .next t) : P t := by
  cases e
  exact ringEnable_keeps hP h

theorem execTailWrite_keeps (hP : Closed P) {b0 b1 b2 b3 s t} (h : P s) (e : execTailWrite b0 b1 b2 b3 s = .next t) : P t := by
  cases e
  exact tailWrite_keeps hP h

theorem execHdmRxDeliver_keeps (hP : Closed P) {b0 s t} (h : P s) (e : execHdmRxDeliver b0 s = .next t) : P t := by
  cases e
  exact hdmRxDeliver_keeps hP h

theorem execHdmTxFrame_keeps (hP : Closed P) {b0 b1 s t} (h : P s) (e : execHdmTxFrame b0 b1 s = .next t) : P t := by
  cases e
  exact hdmTxFrame_keeps hP h

theorem execDmaError_keeps (hP : Closed P) {b0 b1 b2 s t} (h : P s) (e : execDmaError b0 b1 b2 s = .next t) : P t := by
  cases e
  exact dmaError_keeps hP h

theorem execModerationTimer_keeps (hP : Closed P) {b0 b1 s t} (h : P s) (e : execModerationTimer b0 b1 s = .next t) : P t := by
  cases e
  exact moderationTimer_keeps hP h

theorem execSbWrite_keeps (hP : Closed P) {b0 b1 b2 s t} (h : P s) (e : execSbWrite b0 b1 b2 s = .next t) : P t := by
  cases e
  exact sbWrite_keeps hP h

theorem execSbRead_keeps (hP : Closed P) {b0 b1 b2 s t} (h : P s) (e : execSbRead b0 b1 b2 s = .next t) : P t := by
  cases e
  exact sbRead_keeps hP h

theorem execSbPeek_keeps (hP : Closed P) {b0 b1 b2 s t} (h : P s) (e : execSbPeek b0 b1 b2 s = .next t) : P t := by
  cases e
  exact sbPeek_keeps hP h

theorem execSbStatus_keeps (hP : Closed P) {b0 b1 s t} (h : P s) (e : execSbStatus b0 b1 s = .next t) : P t := by
  cases e
  exact sbStatus_keeps hP h

theorem execSbIdent_keeps (hP : Closed P) {b0 b1 s t} (h : P s) (e : execSbIdent b0 b1 s = .next t) : P t := by
  cases e
  exact sbIdent_keeps hP h

theorem execSbPower_keeps (hP : Closed P) {b0 b1 b2 s t} (h : P s) (e : execSbPower b0 b1 b2 s = .next t) : P t := by
  cases e
  exact sbPower_keeps hP h

theorem execSbCrcErr_keeps (hP : Closed P) {b0 s t} (h : P s) (e : execSbCrcErr b0 s = .next t) : P t := by
  cases e
  exact sbCrcErr_keeps hP h

theorem execSbShort_keeps (hP : Closed P) {s t} (h : P s) (e : execSbShort s = .next t) : P t := by
  cases e
  exact sbShort_keeps hP h

theorem execSbResponseTimeout_keeps (hP : Closed P) {b0 b1 s t} (h : P s) (e : execSbResponseTimeout b0 b1 s = .next t) : P t := by
  cases e
  exact sbResponseTimeout_keeps hP h

theorem execMbxGo_keeps (hP : Closed P) {b0 b1 s t} (h : P s) (e : execMbxGo b0 b1 s = .next t) : P t := by
  cases e
  exact mbxGo_keeps hP h

theorem execMbxResponse_keeps (hP : Closed P) {b0 b1 s t} (h : P s) (e : execMbxResponse b0 b1 s = .next t) : P t := by
  cases e
  exact mbxResponse_keeps hP h

theorem execLoopbackTest_keeps (hP : Closed P) {b0 b1 s t} (h : P s) (e : execLoopbackTest b0 b1 s = .next t) : P t := by
  cases e
  exact loopbackTest_keeps hP h

theorem execFaultReport_keeps (hP : Closed P) {b0 b1 s t} (h : P s) (e : execFaultReport b0 b1 s = .next t) : P t := by
  cases e
  exact State.heel_keeps hP h (fun _ h => faultReport_keeps hP h)

theorem execStormPeriodEnd_keeps (hP : Closed P) {s t} (h : P s) (e : execStormPeriodEnd s = .next t) : P t := by
  cases e
  exact State.heel_keeps hP h (fun _ h => stormPeriodEnd_keeps hP h)

theorem execFltClear_keeps (hP : Closed P) {b0 s t} (h : P s) (e : execFltClear b0 s = .next t) : P t := by
  cases e
  exact fltClear_keeps hP h

theorem execFaultCountSnapshot_keeps (hP : Closed P) {b0 b1 s t} (h : P s) (e : execFaultCountSnapshot b0 b1 s = .next t) : P t := by
  cases e
  exact faultCountSnapshot_keeps hP h

theorem execFaultCountClear_keeps (hP : Closed P) {b0 b1 s t} (h : P s) (e : execFaultCountClear b0 b1 s = .next t) : P t := by
  cases e
  exact faultCountClear_keeps hP h

theorem execNmiClear_keeps (hP : Closed P) {b0 b1 s t} (h : P s) (e : execNmiClear b0 b1 s = .next t) : P t := by
  cases e
  exact nmiClear_keeps hP h

theorem execFwKick_keeps (hP : Closed P) {b0 b1 s t} (h : P s) (e : execFwKick b0 b1 s = .next t) : P t := by
  cases e
  exact fwKick_keeps hP h

theorem execFwWatchdogWarn_keeps (hP : Closed P) {s t} (h : P s) (e : execFwWatchdogWarn s = .next t) : P t := by
  cases e
  exact fwWatchdogWarn_keeps hP h

theorem execFwWatchdogExpiry_keeps (hP : Closed P) {s t} (h : P s) (e : execFwWatchdogExpiry s = .next t) : P t := by
  cases e
  exact fwWatchdogExpiry_keeps hP h

theorem execLockstepMismatch_keeps (hP : Closed P) {b0 s t} (h : P s) (e : execLockstepMismatch b0 s = .next t) : P t := by
  cases e
  exact lockstepMismatch_keeps hP h

theorem execHbKick_keeps (hP : Closed P) {b0 s t} (h : P s) (e : execHbKick b0 s = .next t) : P t := by
  cases e
  exact hbKick_keeps hP h

theorem execHbEnable_keeps (hP : Closed P) {b0 b1 b2 s t} (h : P s) (e : execHbEnable b0 b1 b2 s = .next t) : P t := by
  cases e
  exact hbEnable_keeps hP h

theorem execHbExpiry_keeps (hP : Closed P) {s t} (h : P s) (e : execHbExpiry s = .next t) : P t := by
  cases e
  exact State.heel_keeps hP h (fun _ h => hbExpiry_keeps hP h)

theorem execSelfTestDone_keeps (hP : Closed P) {b0 b1 b2 b3 s t} (h : P s) (e : execSelfTestDone b0 b1 b2 b3 s = .next t) : P t := by
  cases e
  exact selfTestDone_keeps hP h

theorem execLrcCountDone_keeps (hP : Closed P) {s t} (h : P s) (e : execLrcCountDone s = .next t) : P t := by
  cases e
  exact lrcCountDone_keeps hP h

theorem execLrcCountTimeout_keeps (hP : Closed P) {s t} (h : P s) (e : execLrcCountTimeout s = .next t) : P t := by
  cases e
  exact lrcCountTimeout_keeps hP h

theorem execHrcQualifyDone_keeps (hP : Closed P) {b0 b1 s t} (h : P s) (e : execHrcQualifyDone b0 b1 s = .next t) : P t := by
  cases e
  exact hrcQualifyDone_keeps hP h

theorem execXtalQualifyDone_keeps (hP : Closed P) {b0 s t} (h : P s) (e : execXtalQualifyDone b0 s = .next t) : P t := by
  cases e
  exact xtalQualifyDone_keeps hP h

theorem execXtalStartTimeout_keeps (hP : Closed P) {s t} (h : P s) (e : execXtalStartTimeout s = .next t) : P t := by
  cases e
  exact xtalStartTimeout_keeps hP h

theorem execSdsrefQualifyDone_keeps (hP : Closed P) {b0 s t} (h : P s) (e : execSdsrefQualifyDone b0 s = .next t) : P t := by
  cases e
  exact sdsrefQualifyDone_keeps hP h

theorem execMonitorWindowEnd_keeps (hP : Closed P) {b0 b1 b2 s t} (h : P s) (e : execMonitorWindowEnd b0 b1 b2 s = .next t) : P t := by
  cases e
  exact State.heel_keeps hP h (fun _ h => monitorWindowEnd_keeps hP h)

theorem execClockStopDetect_keeps (hP : Closed P) {b0 s t} (h : P s) (e : execClockStopDetect b0 s = .next t) : P t := by
  cases e
  exact State.heel_keeps hP h (fun _ h => clockStopDetect_keeps hP h)

theorem execDwellEnd_keeps (hP : Closed P) {s t} (h : P s) (e : execDwellEnd s = .next t) : P t := by
  cases e
  exact State.heel_keeps hP h (fun _ h => dwellEnd_keeps hP h)

theorem execAutoReturnWrite_keeps (hP : Closed P) {b0 b1 s t} (h : P s) (e : execAutoReturnWrite b0 b1 s = .next t) : P t := by
  cases e
  exact autoReturnWrite_keeps hP h

theorem execHrcTrimWindow_keeps (hP : Closed P) {b0 s t} (h : P s) (e : execHrcTrimWindow b0 s = .next t) : P t := by
  cases e
  exact hrcTrimWindow_keeps hP h

theorem execCanTrimWindow_keeps (hP : Closed P) {b0 s t} (h : P s) (e : execCanTrimWindow b0 s = .next t) : P t := by
  cases e
  exact canTrimWindow_keeps hP h

theorem execBeaconTrimWindow_keeps (hP : Closed P) {b0 s t} (h : P s) (e : execBeaconTrimWindow b0 s = .next t) : P t := by
  cases e
  exact beaconTrimWindow_keeps hP h

theorem execLrcTrimWindow_keeps (hP : Closed P) {b0 s t} (h : P s) (e : execLrcTrimWindow b0 s = .next t) : P t := by
  cases e
  exact lrcTrimWindow_keeps hP h

theorem execDomainRequest_keeps (hP : Closed P) {b0 b1 b2 b3 s t} (h : P s) (e : execDomainRequest b0 b1 b2 b3 s = .next t) : P t := by
  cases e
  exact domainRequest_keeps hP h

theorem execDomainPowerGood_keeps (hP : Closed P) {b0 s t} (h : P s) (e : execDomainPowerGood b0 s = .next t) : P t := by
  cases e
  exact domainPowerGood_keeps hP h

theorem execDomainPowerTimeout_keeps (hP : Closed P) {b0 s t} (h : P s) (e : execDomainPowerTimeout b0 s = .next t) : P t := by
  cases e
  exact domainPowerTimeout_keeps hP h

theorem execPd8Drained_keeps (hP : Closed P) {s t} (h : P s) (e : execPd8Drained s = .next t) : P t := by
  cases e
  exact pd8Drained_keeps hP h

theorem execPd8DrainTimeout_keeps (hP : Closed P) {s t} (h : P s) (e : execPd8DrainTimeout s = .next t) : P t := by
  cases e
  exact pd8DrainTimeout_keeps hP h

theorem execSupplyWarning_keeps (hP : Closed P) {b0 s t} (h : P s) (e : execSupplyWarning b0 s = .next t) : P t := by
  cases e
  exact State.heel_keeps hP h (fun _ h => supplyWarning_keeps hP h)

theorem execSupplyRecover_keeps (hP : Closed P) {b0 b1 s t} (h : P s) (e : execSupplyRecover b0 b1 s = .next t) : P t := by
  cases e
  exact State.heel_keeps hP h (fun _ h => supplyRecover_keeps hP h)

theorem execSupplyReset_keeps (hP : Closed P) {b0 s t} (h : P s) (e : execSupplyReset b0 s = .next t) : P t := by
  cases e
  exact supplyReset_keeps hP h

theorem execPor_keeps (hP : Closed P) {b0 s t} (h : P s) (e : execPor b0 s = .next t) : P t := by
  cases e
  exact por_keeps hP h

theorem execPinReset_keeps (hP : Closed P) {b0 s t} (h : P s) (e : execPinReset b0 s = .next t) : P t := by
  cases e
  exact pinReset_keeps hP h

theorem execSoftReset_keeps (hP : Closed P) {b0 b1 s t} (h : P s) (e : execSoftReset b0 b1 s = .next t) : P t := by
  cases e
  exact softReset_keeps hP h

theorem execBlockReset_keeps (hP : Closed P) {b0 b1 s t} (h : P s) (e : execBlockReset b0 b1 s = .next t) : P t := by
  cases e
  exact blockReset_keeps hP h

theorem execBlockResetEnd_keeps (hP : Closed P) {b0 s t} (h : P s) (e : execBlockResetEnd b0 s = .next t) : P t := by
  cases e
  exact blockResetEnd_keeps hP h

theorem execPageEnableWrite_keeps (hP : Closed P) {b0 b1 b2 s t} (h : P s) (e : execPageEnableWrite b0 b1 b2 s = .next t) : P t := by
  cases e
  exact pageEnableWrite_keeps hP h

theorem execIrqForce_keeps (hP : Closed P) {b0 b1 b2 s t} (h : P s) (e : execIrqForce b0 b1 b2 s = .next t) : P t := by
  cases e
  exact irqForce_keeps hP h

theorem execIrqStatClear_keeps (hP : Closed P) {b0 b1 b2 s t} (h : P s) (e : execIrqStatClear b0 b1 b2 s = .next t) : P t := by
  cases e
  exact irqStatClear_keeps hP h

theorem execPageLock_keeps (hP : Closed P) {b0 b1 s t} (h : P s) (e : execPageLock b0 b1 s = .next t) : P t := by
  cases e
  exact pageLock_keeps hP h

theorem execClearOnRead_keeps (hP : Closed P) {b0 b1 b2 s t} (h : P s) (e : execClearOnRead b0 b1 b2 s = .next t) : P t := by
  cases e
  exact clearOnRead_keeps hP h

theorem execRegisterWrite_keeps (hP : Closed P) {b0 b1 b2 b3 s t} (h : P s) (e : execRegisterWrite b0 b1 b2 b3 s = .next t) : P t := by
  cases e
  exact registerWrite_keeps hP h

theorem execFlowCounterSnapshot_keeps (hP : Closed P) {b0 b1 s t} (h : P s) (e : execFlowCounterSnapshot b0 b1 s = .next t) : P t := by
  cases e
  exact flowCounterSnapshot_keeps hP h

theorem execFlowCounterClear_keeps (hP : Closed P) {b0 b1 s t} (h : P s) (e : execFlowCounterClear b0 b1 s = .next t) : P t := by
  cases e
  exact flowCounterClear_keeps hP h

theorem execMeterSnapshot_keeps (hP : Closed P) {b0 b1 s t} (h : P s) (e : execMeterSnapshot b0 b1 s = .next t) : P t := by
  cases e
  exact meterSnapshot_keeps hP h

theorem execMeterClear_keeps (hP : Closed P) {b0 b1 s t} (h : P s) (e : execMeterClear b0 b1 s = .next t) : P t := by
  cases e
  exact meterClear_keeps hP h

theorem execMeterFill_keeps (hP : Closed P) {b0 b1 s t} (h : P s) (e : execMeterFill b0 b1 s = .next t) : P t := by
  cases e
  exact meterFill_keeps hP h

theorem execServiceSnapshot_keeps (hP : Closed P) {b0 b1 b2 s t} (h : P s) (e : execServiceSnapshot b0 b1 b2 s = .next t) : P t := by
  cases e
  exact serviceSnapshot_keeps hP h

theorem execServiceDropsClear_keeps (hP : Closed P) {b0 b1 b2 s t} (h : P s) (e : execServiceDropsClear b0 b1 b2 s = .next t) : P t := by
  cases e
  exact serviceDropsClear_keeps hP h

theorem execSubscriberSnapshot_keeps (hP : Closed P) {b0 b1 b2 s t} (h : P s) (e : execSubscriberSnapshot b0 b1 b2 s = .next t) : P t := by
  cases e
  exact subscriberSnapshot_keeps hP h

theorem execQueueSnapshot_keeps (hP : Closed P) {b0 b1 b2 s t} (h : P s) (e : execQueueSnapshot b0 b1 b2 s = .next t) : P t := by
  cases e
  exact queueSnapshot_keeps hP h

theorem execRouteSnapshot_keeps (hP : Closed P) {b0 b1 b2 s t} (h : P s) (e : execRouteSnapshot b0 b1 b2 s = .next t) : P t := by
  cases e
  exact routeSnapshot_keeps hP h

theorem execRouteCountsClear_keeps (hP : Closed P) {b0 b1 b2 s t} (h : P s) (e : execRouteCountsClear b0 b1 b2 s = .next t) : P t := by
  cases e
  exact routeCountsClear_keeps hP h

theorem execTcaPortSnapshot_keeps (hP : Closed P) {b0 b1 s t} (h : P s) (e : execTcaPortSnapshot b0 b1 s = .next t) : P t := by
  cases e
  exact tcaPortSnapshot_keeps hP h

theorem execTcaPortClear_keeps (hP : Closed P) {b0 b1 s t} (h : P s) (e : execTcaPortClear b0 b1 s = .next t) : P t := by
  cases e
  exact tcaPortClear_keeps hP h

theorem execKeySlotSnapshot_keeps (hP : Closed P) {b0 b1 b2 s t} (h : P s) (e : execKeySlotSnapshot b0 b1 b2 s = .next t) : P t := by
  cases e
  exact keySlotSnapshot_keeps hP h

theorem execClusterSnapshot_keeps (hP : Closed P) {b0 b1 s t} (h : P s) (e : execClusterSnapshot b0 b1 s = .next t) : P t := by
  cases e
  exact clusterSnapshot_keeps hP h

theorem execTxmChannelSnapshot_keeps (hP : Closed P) {b0 b1 s t} (h : P s) (e : execTxmChannelSnapshot b0 b1 s = .next t) : P t := by
  cases e
  exact txmChannelSnapshot_keeps hP h

theorem execTimeSnapshot_keeps (hP : Closed P) {b0 s t} (h : P s) (e : execTimeSnapshot b0 s = .next t) : P t := by
  cases e
  exact timeSnapshot_keeps hP h

theorem execTimeBaseTick_keeps (hP : Closed P) {s t} (h : P s) (e : execTimeBaseTick s = .next t) : P t := by
  cases e
  exact timeBaseTick_keeps hP h

theorem execDomainStep_keeps (hP : Closed P) {b0 b1 s t} (h : P s) (e : execDomainStep b0 b1 s = .next t) : P t := by
  cases e
  exact domainStep_keeps hP h

theorem execRateAdjust_keeps (hP : Closed P) {b0 b1 s t} (h : P s) (e : execRateAdjust b0 b1 s = .next t) : P t := by
  cases e
  exact rateAdjust_keeps hP h

theorem execSyncRx_keeps (hP : Closed P) {b0 b1 s t} (h : P s) (e : execSyncRx b0 b1 s = .next t) : P t := by
  cases e
  exact syncRx_keeps hP h

theorem execSyncReceiptTimeout_keeps (hP : Closed P) {b0 s t} (h : P s) (e : execSyncReceiptTimeout b0 s = .next t) : P t := by
  cases e
  exact syncReceiptTimeout_keeps hP h

theorem execHoldoverExpiry_keeps (hP : Closed P) {b0 s t} (h : P s) (e : execHoldoverExpiry b0 s = .next t) : P t := by
  cases e
  exact holdoverExpiry_keeps hP h

theorem execLaceStart_keeps (hP : Closed P) {b0 s t} (h : P s) (e : execLaceStart b0 s = .next t) : P t := by
  cases e
  exact State.cycleBegun_keeps hP h (laceStart_keeps hP h)

theorem execLaceCycleBoundary_keeps (hP : Closed P) {b0 s t} (h : P s) (e : execLaceCycleBoundary b0 s = .next t) : P t := by
  cases e
  exact State.cycleBegun_keeps hP h (laceCycleBoundary_keeps hP h)

theorem execGateEntryEnd_keeps (hP : Closed P) {b0 s t} (h : P s) (e : execGateEntryEnd b0 s = .next t) : P t := by
  cases e
  exact gateEntryEnd_keeps hP h

theorem execHoldAdvRequest_keeps (hP : Closed P) {b0 b1 s t} (h : P s) (e : execHoldAdvRequest b0 b1 s = .next t) : P t := by
  cases e
  exact holdAdvRequest_keeps hP h

theorem execLaceSwap_keeps (hP : Closed P) {b0 s t} (h : P s) (e : execLaceSwap b0 s = .next t) : P t := by
  cases e
  exact State.cycleBegun_keeps hP h (laceSwap_keeps hP h)

theorem execPreemptVerify_keeps (hP : Closed P) {b0 b1 s t} (h : P s) (e : execPreemptVerify b0 b1 s = .next t) : P t := by
  cases e
  exact preemptVerify_keeps hP h

theorem execSyncInEdge_keeps (hP : Closed P) {b0 s t} (h : P s) (e : execSyncInEdge b0 s = .next t) : P t := by
  cases e
  exact syncInEdge_keeps hP h

theorem execSyncPeriodBoundary_keeps (hP : Closed P) {s t} (h : P s) (e : execSyncPeriodBoundary s = .next t) : P t := by
  cases e
  exact syncPeriodBoundary_keeps hP h

theorem execSyncEnable_keeps (hP : Closed P) {b0 b1 s t} (h : P s) (e : execSyncEnable b0 b1 s = .next t) : P t := by
  cases e
  exact syncEnable_keeps hP h

theorem execPpsPulse_keeps (hP : Closed P) {s t} (h : P s) (e : execPpsPulse s = .next t) : P t := by
  cases e
  exact ppsPulse_keeps hP h

theorem execEvtInEdge_keeps (hP : Closed P) {b0 b1 b2 s t} (h : P s) (e : execEvtInEdge b0 b1 b2 s = .next t) : P t := by
  cases e
  exact evtInEdge_keeps hP h

theorem execEvtRead_keeps (hP : Closed P) {b0 b1 s t} (h : P s) (e : execEvtRead b0 b1 s = .next t) : P t := by
  cases e
  exact evtRead_keeps hP h

theorem execTrgArm_keeps (hP : Closed P) {b0 b1 b2 s t} (h : P s) (e : execTrgArm b0 b1 b2 s = .next t) : P t := by
  cases e
  exact trgArm_keeps hP h

theorem execTrgEdge_keeps (hP : Closed P) {b0 s t} (h : P s) (e : execTrgEdge b0 s = .next t) : P t := by
  cases e
  exact trgEdge_keeps hP h

theorem execKeepaliveRx_keeps (hP : Closed P) {b0 s t} (h : P s) (e : execKeepaliveRx b0 s = .next t) : P t := by
  cases e
  exact keepaliveRx_keeps hP h

theorem execKeepalivePeriod_keeps (hP : Closed P) {b0 s t} (h : P s) (e : execKeepalivePeriod b0 s = .next t) : P t := by
  cases e
  exact keepalivePeriod_keeps hP h

theorem execReadyTimerExpiry_keeps (hP : Closed P) {b0 s t} (h : P s) (e : execReadyTimerExpiry b0 s = .next t) : P t := by
  cases e
  exact State.heel_keeps hP h (fun _ h => readyTimerExpiry_keeps hP h)

theorem execPrepareTimerExpiry_keeps (hP : Closed P) {b0 s t} (h : P s) (e : execPrepareTimerExpiry b0 s = .next t) : P t := by
  cases e
  exact State.heel_keeps hP h (fun _ h => prepareTimerExpiry_keeps hP h)

theorem execWakeTimeout_keeps (hP : Closed P) {b0 s t} (h : P s) (e : execWakeTimeout b0 s = .next t) : P t := by
  cases e
  exact State.heel_keeps hP h (fun _ h => wakeTimeout_keeps hP h)

theorem execWakeRequestHost_keeps (hP : Closed P) {b0 b1 s t} (h : P s) (e : execWakeRequestHost b0 b1 s = .next t) : P t := by
  cases e
  exact wakeRequestHost_keeps hP h

theorem execWakeRequestSb_keeps (hP : Closed P) {b0 b1 s t} (h : P s) (e : execWakeRequestSb b0 b1 s = .next t) : P t := by
  cases e
  exact wakeRequestSb_keeps hP h

theorem execWakePinChange_keeps (hP : Closed P) {b0 b1 s t} (h : P s) (e : execWakePinChange b0 b1 s = .next t) : P t := by
  cases e
  exact State.heel_keeps hP h (fun _ h => wakePinChange_keeps hP h)

theorem execRouteHoldExpiry_keeps (hP : Closed P) {b0 s t} (h : P s) (e : execRouteHoldExpiry b0 s = .next t) : P t := by
  cases e
  exact State.heel_keeps hP h (fun _ h => routeHoldExpiry_keeps hP h)

theorem execLinGotosleepRx_keeps (hP : Closed P) {b0 s t} (h : P s) (e : execLinGotosleepRx b0 s = .next t) : P t := by
  cases e
  exact linGotosleepRx_keeps hP h

theorem execDescentStart_keeps (hP : Closed P) {s t} (h : P s) (e : execDescentStart s = .next t) : P t := by
  cases e
  exact descentStart_keeps hP h

theorem execDescentCommit_keeps (hP : Closed P) {s t} (h : P s) (e : execDescentCommit s = .next t) : P t := by
  cases e
  exact descentCommit_keeps hP h

theorem execDescentStandby_keeps (hP : Closed P) {s t} (h : P s) (e : execDescentStandby s = .next t) : P t := by
  cases e
  exact descentStandby_keeps hP h

theorem execDescentSleep_keeps (hP : Closed P) {s t} (h : P s) (e : execDescentSleep s = .next t) : P t := by
  cases e
  exact descentSleep_keeps hP h

theorem execWakeLatch_keeps (hP : Closed P) {b0 b1 s t} (h : P s) (e : execWakeLatch b0 b1 s = .next t) : P t := by
  cases e
  exact wakeLatch_keeps hP h

theorem execWakTimerExpiry_keeps (hP : Closed P) {s t} (h : P s) (e : execWakTimerExpiry s = .next t) : P t := by
  cases e
  exact State.heel_keeps hP h (fun _ h => wakTimerExpiry_keeps hP h)

theorem execConverterUpdate_keeps (hP : Closed P) {b0 s t} (h : P s) (e : execConverterUpdate b0 s = .next t) : P t := by
  cases e
  exact converterUpdate_keeps hP h

theorem execTxmCmd_keeps (hP : Closed P) {b0 b1 b2 s t} (h : P s) (e : execTxmCmd b0 b1 b2 s = .next t) : P t := by
  cases e
  exact txmCmd_keeps hP h

theorem execTxmSequenceDone_keeps (hP : Closed P) {b0 b1 s t} (h : P s) (e : execTxmSequenceDone b0 b1 s = .next t) : P t := by
  cases e
  exact txmSequenceDone_keeps hP h

theorem execBootStart_keeps (hP : Closed P) {s t} (h : P s) (e : execBootStart s = .next t) : P t := by
  cases e
  exact bootStart_keeps hP h

theorem execBootPartChecked_keeps (hP : Closed P) {b0 s t} (h : P s) (e : execBootPartChecked b0 s = .next t) : P t := by
  cases e
  exact bootPartChecked_keeps hP h

theorem execBootRecordWriteDone_keeps (hP : Closed P) {b0 s t} (h : P s) (e : execBootRecordWriteDone b0 s = .next t) : P t := by
  cases e
  exact bootRecordWriteDone_keeps hP h

theorem execUpdOpen_keeps (hP : Closed P) {b0 s t} (h : P s) (e : execUpdOpen b0 s = .next t) : P t := by
  cases e
  exact updOpen_keeps hP h

theorem execUpdErase_keeps (hP : Closed P) {b0 s t} (h : P s) (e : execUpdErase b0 s = .next t) : P t := by
  cases e
  exact updErase_keeps hP h

theorem execUpdProgram_keeps (hP : Closed P) {b0 s t} (h : P s) (e : execUpdProgram b0 s = .next t) : P t := by
  cases e
  exact updProgram_keeps hP h

theorem execUpdRead_keeps (hP : Closed P) {b0 s t} (h : P s) (e : execUpdRead b0 s = .next t) : P t := by
  cases e
  exact updRead_keeps hP h

theorem execUpdClose_keeps (hP : Closed P) {b0 s t} (h : P s) (e : execUpdClose b0 s = .next t) : P t := by
  cases e
  exact updClose_keeps hP h

theorem execUpdLoadPage_keeps (hP : Closed P) {b0 s t} (h : P s) (e : execUpdLoadPage b0 s = .next t) : P t := by
  cases e
  exact updLoadPage_keeps hP h

theorem execUpdLoadDone_keeps (hP : Closed P) {b0 s t} (h : P s) (e : execUpdLoadDone b0 s = .next t) : P t := by
  cases e
  exact updLoadDone_keeps hP h

theorem execUpdOpDone_keeps (hP : Closed P) {b0 s t} (h : P s) (e : execUpdOpDone b0 s = .next t) : P t := by
  cases e
  exact updOpDone_keeps hP h

theorem execUpdArm_keeps (hP : Closed P) {b0 s t} (h : P s) (e : execUpdArm b0 s = .next t) : P t := by
  cases e
  exact updArm_keeps hP h

theorem execUpdDisarm_keeps (hP : Closed P) {b0 s t} (h : P s) (e : execUpdDisarm b0 s = .next t) : P t := by
  cases e
  exact updDisarm_keeps hP h

theorem execUpdRestart_keeps (hP : Closed P) {b0 s t} (h : P s) (e : execUpdRestart b0 s = .next t) : P t := by
  cases e
  exact updRestart_keeps hP h

theorem execUpdConfirm_keeps (hP : Closed P) {b0 s t} (h : P s) (e : execUpdConfirm b0 s = .next t) : P t := by
  cases e
  exact updConfirm_keeps hP h

theorem execTrialExpiry_keeps (hP : Closed P) {s t} (h : P s) (e : execTrialExpiry s = .next t) : P t := by
  cases e
  exact trialExpiry_keeps hP h

theorem execSpeedFrameRx_keeps (hP : Closed P) {b0 b1 b2 b3 s t} (h : P s) (e : execSpeedFrameRx b0 b1 b2 b3 s = .next t) : P t := by
  cases e
  exact speedFrameRx_keeps hP h

theorem execSpeedStale_keeps (hP : Closed P) {s t} (h : P s) (e : execSpeedStale s = .next t) : P t := by
  cases e
  exact speedStale_keeps hP h

theorem execNonceReq_keeps (hP : Closed P) {b0 s t} (h : P s) (e : execNonceReq b0 s = .next t) : P t := by
  cases e
  exact nonceReq_keeps hP h

theorem execNonceExpiry_keeps (hP : Closed P) {s t} (h : P s) (e : execNonceExpiry s = .next t) : P t := by
  cases e
  exact nonceExpiry_keeps hP h

theorem execOwnerLock_keeps (hP : Closed P) {b0 s t} (h : P s) (e : execOwnerLock b0 s = .next t) : P t := by
  cases e
  exact ownerLock_keeps hP h

theorem execOwnerUnlock_keeps (hP : Closed P) {b0 s t} (h : P s) (e : execOwnerUnlock b0 s = .next t) : P t := by
  cases e
  exact ownerUnlock_keeps hP h

theorem execOwnerProvision_keeps (hP : Closed P) {b0 s t} (h : P s) (e : execOwnerProvision b0 s = .next t) : P t := by
  cases e
  exact ownerProvision_keeps hP h

theorem execSupplyResetRelease_keeps (hP : Closed P) {b0 s t} (h : P s) (e : execSupplyResetRelease b0 s = .next t) : P t := by
  cases e
  exact supplyResetRelease_keeps hP h

theorem execVstbyBelowPor_keeps (hP : Closed P) {s t} (h : P s) (e : execVstbyBelowPor s = .next t) : P t := by
  cases e
  exact vstbyBelowPor_keeps hP h

theorem execClockEdgesReturn_keeps (hP : Closed P) {b0 s t} (h : P s) (e : execClockEdgesReturn b0 s = .next t) : P t := by
  cases e
  exact clockEdgesReturn_keeps hP h

theorem execRxFifoMemoryError_keeps (hP : Closed P) {b0 b1 s t} (h : P s) (e : execRxFifoMemoryError b0 b1 s = .next t) : P t := by
  cases e
  exact rxFifoMemoryError_keeps hP h

theorem execPhyInternalFault_keeps (hP : Closed P) {b0 s t} (h : P s) (e : execPhyInternalFault b0 s = .next t) : P t := by
  cases e
  exact phyInternalFault_keeps hP h

theorem execGrandmasterChange_keeps (hP : Closed P) {b0 b1 b2 s t} (h : P s) (e : execGrandmasterChange b0 b1 b2 s = .next t) : P t := by
  cases e
  exact grandmasterChange_keeps hP h

theorem execPrbsError_keeps (hP : Closed P) {b0 s t} (h : P s) (e : execPrbsError b0 s = .next t) : P t := by
  cases e
  exact prbsError_keeps hP h

theorem execVmoveInChange_keeps (hP : Closed P) {b0 s t} (h : P s) (e : execVmoveInChange b0 s = .next t) : P t := by
  cases e
  exact vmoveInChange_keeps hP h

end Sys2Proof.Machine
end

