-- ==== Sys2Proof/Laws/Ops.lean ====
section
/-! SUPPORT. What the named operations over register cells and the access gate do: reading after writing, and a granted write. -/
namespace Sys2Proof.Machine

variable {V : Type}

theorem AMap.find_ins_same (m : AMap V) (k : Nat) (v : V) : AMap.find (AMap.ins m k v) k = some v := by
  induction m with
  | nil => simp [AMap.ins, AMap.find]
  | cons c r ih =>
    simp only [AMap.ins]
    split
    · simp [AMap.find]
    · split
      · simp [AMap.find]
      · simp [AMap.find, *]

theorem AMap.find_ins_other (m : AMap V) (k j : Nat) (v : V) (h : j ≠ k) : AMap.find (AMap.ins m k v) j = AMap.find m j := by
  induction m with
  | nil => simp [AMap.ins, AMap.find, h]
  | cons c r ih =>
    simp only [AMap.ins]
    split
    · simp [AMap.find, h]
    · split
      · rename_i h1; simp [AMap.find, h, ← h1]
      · simp only [AMap.find, ih]

theorem AMap.find_del_same (m : AMap V) (k : Nat) : AMap.find (AMap.del m k) k = none := by
  induction m with
  | nil => rfl
  | cons c r ih =>
    simp only [AMap.del, List.filter_cons] at ih ⊢
    split
    · rename_i h; simp only [AMap.find]; rw [if_neg]
      · exact ih
      · intro e; simp [e] at h
    · exact ih

theorem AMap.find_del_other (m : AMap V) (k j : Nat) (h : j ≠ k) : AMap.find (AMap.del m k) j = AMap.find m j := by
  induction m with
  | nil => rfl
  | cons c r ih =>
    simp only [AMap.del, List.filter_cons] at ih ⊢
    split
    · simp only [AMap.find, ih]
    · rename_i h1
      have : c.1 = k := by simpa using h1
      simp [AMap.find, this, h, ih]

@[simp] theorem AMap.get_set_same [DecidableEq V] (d : Nat → V) (m : AMap V) (k : Nat) (v : V) :
    AMap.get d (AMap.set d m k v) k = v := by
  unfold AMap.get AMap.set
  split
  · simp [AMap.find_del_same, *]
  · simp [AMap.find_ins_same]

theorem AMap.get_set_other [DecidableEq V] (d : Nat → V) (m : AMap V) (k j : Nat) (v : V) (h : j ≠ k) :
    AMap.get d (AMap.set d m k v) j = AMap.get d m j := by
  unfold AMap.get AMap.set
  split
  · simp [AMap.find_del_other _ _ _ h]
  · simp [AMap.find_ins_other _ _ _ _ h]

/-- The classes of which a register map is held. -/
def Keep.held (k : Keep) : Prop := k = .H ∨ k = .T ∨ k = .V

theorem RegFile.sel_upd (r : RegFile) (k : Keep) (a : AMap Nat) (h : Keep.held k) : (r.upd k a).sel k = a := by
  rcases h with h | h | h <;> subst h <;> rfl

theorem RegFile.sel_upd_other (r : RegFile) (k j : Keep) (a : AMap Nat) (h : j ≠ k) : (r.upd k a).sel j = r.sel j := by
  cases k <;> cases j <;> first | rfl | exact absurd rfl h

/-- A field reads what was written to it, cut to its width (R9). -/
theorem State.get_put (s : State) (f : Fld) (v i j m : Nat) (h : Keep.held f.keep) :
    (s.put f v i j m).get f i j m = v % 2 ^ f.width := by
  unfold State.put State.get
  simp only [RegFile.sel_upd _ _ _ h, AMap.get_set_same]
  change f.dflt j ^^^ (f.dflt j ^^^ v % 2 ^ f.width) = _
  rw [← Nat.xor_assoc, Nat.xor_self, Nat.zero_xor]

/-- A write of one cell leaves every other cell. -/
theorem State.get_put_other (s : State) (f g : Fld) (v i j m a b c : Nat)
    (h : g.keep ≠ f.keep ∨ g.key a b c ≠ f.key i j m) : (s.put f v i j m).get g a b c = s.get g a b c := by
  unfold State.put State.get
  simp only
  by_cases hk : g.keep = f.keep
  · have h2 : g.key a b c ≠ f.key i j m := h.resolve_left (fun e => e hk)
    rw [hk]
    cases hf : f.keep <;> simp [RegFile.sel, RegFile.upd, AMap.get_set_other _ _ _ _ _ h2]
  · rw [RegFile.sel_upd_other _ _ _ _ hk]

/-- What an access leaves where it is not turned away. -/
@[simp] theorem State.answer_none (s t : State) (m : Master) (page off : Nat) : s.answer m page off (none, t) = t := rfl

/-- A command that the access path lets through acts on the state after the sending master's number is taken. -/
theorem State.command_of_serves (z t : State) (m : Master) (page off : Nat) (k : State → Acc)
    (h : m = .sideband → (z.sent m).sbOn = true) (hk : k (z.sent m) = (none, t)) : z.command m page off k = t := by
  cases m
  · simp only [State.sent] at hk; simp [State.command, hk]
  · have hb := h rfl
    simp only [State.sent] at hk hb
    simp [State.command, hk, hb]
  · simp only [State.sent] at hk; simp [State.command, hk]

/-- A command whose page grants the write has its effect. -/
theorem State.direct_of_grants (z : State) (m : Master) (page off : Nat) (k : State → State) (h : (z.sent m).grants m page) :
    z.direct m page off k = k (z.sent m) := by
  obtain ⟨⟨hb, h0, h1, h2, h3⟩, h4, h5⟩ := h
  refine State.command_of_serves z _ m page off _ hb ?_
  simp only [State.gate, State.gate0, h0, h1, h2, h3, h4, Bool.not_true, Bool.false_and,
    Bool.false_eq_true, ↓reduceIte]
  rcases h5 with h | h <;> simp [h]

/-- A command that ownership and PG_LOCK let through has its effect where its page is served. -/
theorem State.directFree_of_serves (z : State) (m : Master) (page off : Nat) (k : State → State) (h : (z.sent m).serves m page) :
    z.directFree m page off k = k (z.sent m) := by
  obtain ⟨hb, h0, h1, h2, h3⟩ := h
  refine State.command_of_serves z _ m page off _ hb ?_
  simp [State.gateFree, h0, h1, h2, h3]

end Sys2Proof.Machine
end

