-- ==== Sys2Proof/Laws/State.lean ====
section
/-! SUPPORT. Each component of State after each named update, and a register field after the update of a component. -/
namespace Sys2Proof.Machine

variable (s : State)

section soleSet
variable (f : Sole → Sole)
@[simp] theorem State.soleSet_regs : (s.soleSet f).regs = s.regs := rfl
@[simp] theorem State.soleSet_freeCtr : (s.soleSet f).freeCtr = s.freeCtr := rfl
@[simp] theorem State.soleSet_lst : (s.soleSet f).lst = s.lst := rfl
@[simp] theorem State.soleSet_flt : (s.soleSet f).flt = s.flt := rfl
@[simp] theorem State.soleSet_clr : (s.soleSet f).clr = s.clr := rfl
@[simp] theorem State.soleSet_sole : (s.soleSet f).sole = f s.sole := rfl
@[simp] theorem State.soleSet_sch : (s.soleSet f).sch = s.sch := rfl
@[simp] theorem State.soleSet_fab : (s.soleSet f).fab = s.fab := rfl
@[simp] theorem State.soleSet_tim : (s.soleSet f).tim = s.tim := rfl
@[simp] theorem State.soleSet_lace : (s.soleSet f).lace = s.lace := rfl
@[simp] theorem State.soleSet_macs : (s.soleSet f).macs = s.macs := rfl
@[simp] theorem State.soleSet_mdio : (s.soleSet f).mdio = s.mdio := rfl
@[simp] theorem State.soleSet_tca : (s.soleSet f).tca = s.tca := rfl
@[simp] theorem State.soleSet_awl : (s.soleSet f).awl = s.awl := rfl
@[simp] theorem State.soleSet_wak : (s.soleSet f).wak = s.wak := rfl
@[simp] theorem State.soleSet_pwr : (s.soleSet f).pwr = s.pwr := rfl
@[simp] theorem State.soleSet_wdg : (s.soleSet f).wdg = s.wdg := rfl
@[simp] theorem State.soleSet_wlt : (s.soleSet f).wlt = s.wlt := rfl
@[simp] theorem State.soleSet_hdm : (s.soleSet f).hdm = s.hdm := rfl
@[simp] theorem State.soleSet_mbx : (s.soleSet f).mbx = s.mbx := rfl
@[simp] theorem State.soleSet_cgu : (s.soleSet f).cgu = s.cgu := rfl
@[simp] theorem State.soleSet_upd : (s.soleSet f).upd = s.upd := rfl
@[simp] theorem State.soleSet_rd : (s.soleSet f).rd = s.rd := rfl
@[simp] theorem State.soleSet_perrs : (s.soleSet f).perrs = s.perrs := rfl
@[simp] theorem State.soleSet_sbResp : (s.soleSet f).sbResp = s.sbResp := rfl
@[simp] theorem State.soleSet_pending : (s.soleSet f).pending = s.pending := rfl
@[simp] theorem State.soleSet_get (g : Fld) (a b c : Nat) : (s.soleSet f).get g a b c = s.get g a b c := rfl
@[simp] theorem State.soleSet_flag (g : Fld) (a b c : Nat) : (s.soleSet f).flag g a b c = s.flag g a b c := rfl
end soleSet

section clrSet
variable (f : Clr → Clr)
@[simp] theorem State.clrSet_regs : (s.clrSet f).regs = s.regs := rfl
@[simp] theorem State.clrSet_freeCtr : (s.clrSet f).freeCtr = s.freeCtr := rfl
@[simp] theorem State.clrSet_lst : (s.clrSet f).lst = s.lst := rfl
@[simp] theorem State.clrSet_flt : (s.clrSet f).flt = s.flt := rfl
@[simp] theorem State.clrSet_clr : (s.clrSet f).clr = f s.clr := rfl
@[simp] theorem State.clrSet_sole : (s.clrSet f).sole = s.sole := rfl
@[simp] theorem State.clrSet_sch : (s.clrSet f).sch = s.sch := rfl
@[simp] theorem State.clrSet_fab : (s.clrSet f).fab = s.fab := rfl
@[simp] theorem State.clrSet_tim : (s.clrSet f).tim = s.tim := rfl
@[simp] theorem State.clrSet_lace : (s.clrSet f).lace = s.lace := rfl
@[simp] theorem State.clrSet_macs : (s.clrSet f).macs = s.macs := rfl
@[simp] theorem State.clrSet_mdio : (s.clrSet f).mdio = s.mdio := rfl
@[simp] theorem State.clrSet_tca : (s.clrSet f).tca = s.tca := rfl
@[simp] theorem State.clrSet_awl : (s.clrSet f).awl = s.awl := rfl
@[simp] theorem State.clrSet_wak : (s.clrSet f).wak = s.wak := rfl
@[simp] theorem State.clrSet_pwr : (s.clrSet f).pwr = s.pwr := rfl
@[simp] theorem State.clrSet_wdg : (s.clrSet f).wdg = s.wdg := rfl
@[simp] theorem State.clrSet_wlt : (s.clrSet f).wlt = s.wlt := rfl
@[simp] theorem State.clrSet_hdm : (s.clrSet f).hdm = s.hdm := rfl
@[simp] theorem State.clrSet_mbx : (s.clrSet f).mbx = s.mbx := rfl
@[simp] theorem State.clrSet_cgu : (s.clrSet f).cgu = s.cgu := rfl
@[simp] theorem State.clrSet_upd : (s.clrSet f).upd = s.upd := rfl
@[simp] theorem State.clrSet_rd : (s.clrSet f).rd = s.rd := rfl
@[simp] theorem State.clrSet_perrs : (s.clrSet f).perrs = s.perrs := rfl
@[simp] theorem State.clrSet_sbResp : (s.clrSet f).sbResp = s.sbResp := rfl
@[simp] theorem State.clrSet_pending : (s.clrSet f).pending = s.pending := rfl
@[simp] theorem State.clrSet_get (g : Fld) (a b c : Nat) : (s.clrSet f).get g a b c = s.get g a b c := rfl
@[simp] theorem State.clrSet_flag (g : Fld) (a b c : Nat) : (s.clrSet f).flag g a b c = s.flag g a b c := rfl
end clrSet

section wakSet
variable (f : Wak → Wak)
@[simp] theorem State.wakSet_regs : (s.wakSet f).regs = s.regs := rfl
@[simp] theorem State.wakSet_freeCtr : (s.wakSet f).freeCtr = s.freeCtr := rfl
@[simp] theorem State.wakSet_lst : (s.wakSet f).lst = s.lst := rfl
@[simp] theorem State.wakSet_flt : (s.wakSet f).flt = s.flt := rfl
@[simp] theorem State.wakSet_clr : (s.wakSet f).clr = s.clr := rfl
@[simp] theorem State.wakSet_sole : (s.wakSet f).sole = s.sole := rfl
@[simp] theorem State.wakSet_sch : (s.wakSet f).sch = s.sch := rfl
@[simp] theorem State.wakSet_fab : (s.wakSet f).fab = s.fab := rfl
@[simp] theorem State.wakSet_tim : (s.wakSet f).tim = s.tim := rfl
@[simp] theorem State.wakSet_lace : (s.wakSet f).lace = s.lace := rfl
@[simp] theorem State.wakSet_macs : (s.wakSet f).macs = s.macs := rfl
@[simp] theorem State.wakSet_mdio : (s.wakSet f).mdio = s.mdio := rfl
@[simp] theorem State.wakSet_tca : (s.wakSet f).tca = s.tca := rfl
@[simp] theorem State.wakSet_awl : (s.wakSet f).awl = s.awl := rfl
@[simp] theorem State.wakSet_wak : (s.wakSet f).wak = f s.wak := rfl
@[simp] theorem State.wakSet_pwr : (s.wakSet f).pwr = s.pwr := rfl
@[simp] theorem State.wakSet_wdg : (s.wakSet f).wdg = s.wdg := rfl
@[simp] theorem State.wakSet_wlt : (s.wakSet f).wlt = s.wlt := rfl
@[simp] theorem State.wakSet_hdm : (s.wakSet f).hdm = s.hdm := rfl
@[simp] theorem State.wakSet_mbx : (s.wakSet f).mbx = s.mbx := rfl
@[simp] theorem State.wakSet_cgu : (s.wakSet f).cgu = s.cgu := rfl
@[simp] theorem State.wakSet_upd : (s.wakSet f).upd = s.upd := rfl
@[simp] theorem State.wakSet_rd : (s.wakSet f).rd = s.rd := rfl
@[simp] theorem State.wakSet_perrs : (s.wakSet f).perrs = s.perrs := rfl
@[simp] theorem State.wakSet_sbResp : (s.wakSet f).sbResp = s.sbResp := rfl
@[simp] theorem State.wakSet_pending : (s.wakSet f).pending = s.pending := rfl
@[simp] theorem State.wakSet_get (g : Fld) (a b c : Nat) : (s.wakSet f).get g a b c = s.get g a b c := rfl
@[simp] theorem State.wakSet_flag (g : Fld) (a b c : Nat) : (s.wakSet f).flag g a b c = s.flag g a b c := rfl
end wakSet

section awlSet
variable (f : Awl → Awl)
@[simp] theorem State.awlSet_regs : (s.awlSet f).regs = s.regs := rfl
@[simp] theorem State.awlSet_freeCtr : (s.awlSet f).freeCtr = s.freeCtr := rfl
@[simp] theorem State.awlSet_lst : (s.awlSet f).lst = s.lst := rfl
@[simp] theorem State.awlSet_flt : (s.awlSet f).flt = s.flt := rfl
@[simp] theorem State.awlSet_clr : (s.awlSet f).clr = s.clr := rfl
@[simp] theorem State.awlSet_sole : (s.awlSet f).sole = s.sole := rfl
@[simp] theorem State.awlSet_sch : (s.awlSet f).sch = s.sch := rfl
@[simp] theorem State.awlSet_fab : (s.awlSet f).fab = s.fab := rfl
@[simp] theorem State.awlSet_tim : (s.awlSet f).tim = s.tim := rfl
@[simp] theorem State.awlSet_lace : (s.awlSet f).lace = s.lace := rfl
@[simp] theorem State.awlSet_macs : (s.awlSet f).macs = s.macs := rfl
@[simp] theorem State.awlSet_mdio : (s.awlSet f).mdio = s.mdio := rfl
@[simp] theorem State.awlSet_tca : (s.awlSet f).tca = s.tca := rfl
@[simp] theorem State.awlSet_awl : (s.awlSet f).awl = f s.awl := rfl
@[simp] theorem State.awlSet_wak : (s.awlSet f).wak = s.wak := rfl
@[simp] theorem State.awlSet_pwr : (s.awlSet f).pwr = s.pwr := rfl
@[simp] theorem State.awlSet_wdg : (s.awlSet f).wdg = s.wdg := rfl
@[simp] theorem State.awlSet_wlt : (s.awlSet f).wlt = s.wlt := rfl
@[simp] theorem State.awlSet_hdm : (s.awlSet f).hdm = s.hdm := rfl
@[simp] theorem State.awlSet_mbx : (s.awlSet f).mbx = s.mbx := rfl
@[simp] theorem State.awlSet_cgu : (s.awlSet f).cgu = s.cgu := rfl
@[simp] theorem State.awlSet_upd : (s.awlSet f).upd = s.upd := rfl
@[simp] theorem State.awlSet_rd : (s.awlSet f).rd = s.rd := rfl
@[simp] theorem State.awlSet_perrs : (s.awlSet f).perrs = s.perrs := rfl
@[simp] theorem State.awlSet_sbResp : (s.awlSet f).sbResp = s.sbResp := rfl
@[simp] theorem State.awlSet_pending : (s.awlSet f).pending = s.pending := rfl
@[simp] theorem State.awlSet_get (g : Fld) (a b c : Nat) : (s.awlSet f).get g a b c = s.get g a b c := rfl
@[simp] theorem State.awlSet_flag (g : Fld) (a b c : Nat) : (s.awlSet f).flag g a b c = s.flag g a b c := rfl
end awlSet

section fabSet
variable (f : Fab → Fab)
@[simp] theorem State.fabSet_regs : (s.fabSet f).regs = s.regs := rfl
@[simp] theorem State.fabSet_freeCtr : (s.fabSet f).freeCtr = s.freeCtr := rfl
@[simp] theorem State.fabSet_lst : (s.fabSet f).lst = s.lst := rfl
@[simp] theorem State.fabSet_flt : (s.fabSet f).flt = s.flt := rfl
@[simp] theorem State.fabSet_clr : (s.fabSet f).clr = s.clr := rfl
@[simp] theorem State.fabSet_sole : (s.fabSet f).sole = s.sole := rfl
@[simp] theorem State.fabSet_sch : (s.fabSet f).sch = s.sch := rfl
@[simp] theorem State.fabSet_fab : (s.fabSet f).fab = f s.fab := rfl
@[simp] theorem State.fabSet_tim : (s.fabSet f).tim = s.tim := rfl
@[simp] theorem State.fabSet_lace : (s.fabSet f).lace = s.lace := rfl
@[simp] theorem State.fabSet_macs : (s.fabSet f).macs = s.macs := rfl
@[simp] theorem State.fabSet_mdio : (s.fabSet f).mdio = s.mdio := rfl
@[simp] theorem State.fabSet_tca : (s.fabSet f).tca = s.tca := rfl
@[simp] theorem State.fabSet_awl : (s.fabSet f).awl = s.awl := rfl
@[simp] theorem State.fabSet_wak : (s.fabSet f).wak = s.wak := rfl
@[simp] theorem State.fabSet_pwr : (s.fabSet f).pwr = s.pwr := rfl
@[simp] theorem State.fabSet_wdg : (s.fabSet f).wdg = s.wdg := rfl
@[simp] theorem State.fabSet_wlt : (s.fabSet f).wlt = s.wlt := rfl
@[simp] theorem State.fabSet_hdm : (s.fabSet f).hdm = s.hdm := rfl
@[simp] theorem State.fabSet_mbx : (s.fabSet f).mbx = s.mbx := rfl
@[simp] theorem State.fabSet_cgu : (s.fabSet f).cgu = s.cgu := rfl
@[simp] theorem State.fabSet_upd : (s.fabSet f).upd = s.upd := rfl
@[simp] theorem State.fabSet_rd : (s.fabSet f).rd = s.rd := rfl
@[simp] theorem State.fabSet_perrs : (s.fabSet f).perrs = s.perrs := rfl
@[simp] theorem State.fabSet_sbResp : (s.fabSet f).sbResp = s.sbResp := rfl
@[simp] theorem State.fabSet_pending : (s.fabSet f).pending = s.pending := rfl
@[simp] theorem State.fabSet_get (g : Fld) (a b c : Nat) : (s.fabSet f).get g a b c = s.get g a b c := rfl
@[simp] theorem State.fabSet_flag (g : Fld) (a b c : Nat) : (s.fabSet f).flag g a b c = s.flag g a b c := rfl
end fabSet

section fltSet
variable (f : Flt → Flt)
@[simp] theorem State.fltSet_regs : (s.fltSet f).regs = s.regs := rfl
@[simp] theorem State.fltSet_freeCtr : (s.fltSet f).freeCtr = s.freeCtr := rfl
@[simp] theorem State.fltSet_lst : (s.fltSet f).lst = s.lst := rfl
@[simp] theorem State.fltSet_flt : (s.fltSet f).flt = f s.flt := rfl
@[simp] theorem State.fltSet_clr : (s.fltSet f).clr = s.clr := rfl
@[simp] theorem State.fltSet_sole : (s.fltSet f).sole = s.sole := rfl
@[simp] theorem State.fltSet_sch : (s.fltSet f).sch = s.sch := rfl
@[simp] theorem State.fltSet_fab : (s.fltSet f).fab = s.fab := rfl
@[simp] theorem State.fltSet_tim : (s.fltSet f).tim = s.tim := rfl
@[simp] theorem State.fltSet_lace : (s.fltSet f).lace = s.lace := rfl
@[simp] theorem State.fltSet_macs : (s.fltSet f).macs = s.macs := rfl
@[simp] theorem State.fltSet_mdio : (s.fltSet f).mdio = s.mdio := rfl
@[simp] theorem State.fltSet_tca : (s.fltSet f).tca = s.tca := rfl
@[simp] theorem State.fltSet_awl : (s.fltSet f).awl = s.awl := rfl
@[simp] theorem State.fltSet_wak : (s.fltSet f).wak = s.wak := rfl
@[simp] theorem State.fltSet_pwr : (s.fltSet f).pwr = s.pwr := rfl
@[simp] theorem State.fltSet_wdg : (s.fltSet f).wdg = s.wdg := rfl
@[simp] theorem State.fltSet_wlt : (s.fltSet f).wlt = s.wlt := rfl
@[simp] theorem State.fltSet_hdm : (s.fltSet f).hdm = s.hdm := rfl
@[simp] theorem State.fltSet_mbx : (s.fltSet f).mbx = s.mbx := rfl
@[simp] theorem State.fltSet_cgu : (s.fltSet f).cgu = s.cgu := rfl
@[simp] theorem State.fltSet_upd : (s.fltSet f).upd = s.upd := rfl
@[simp] theorem State.fltSet_rd : (s.fltSet f).rd = s.rd := rfl
@[simp] theorem State.fltSet_perrs : (s.fltSet f).perrs = s.perrs := rfl
@[simp] theorem State.fltSet_sbResp : (s.fltSet f).sbResp = s.sbResp := rfl
@[simp] theorem State.fltSet_pending : (s.fltSet f).pending = s.pending := rfl
@[simp] theorem State.fltSet_get (g : Fld) (a b c : Nat) : (s.fltSet f).get g a b c = s.get g a b c := rfl
@[simp] theorem State.fltSet_flag (g : Fld) (a b c : Nat) : (s.fltSet f).flag g a b c = s.flag g a b c := rfl
end fltSet

section wdgSet
variable (f : Wdg → Wdg)
@[simp] theorem State.wdgSet_regs : (s.wdgSet f).regs = s.regs := rfl
@[simp] theorem State.wdgSet_freeCtr : (s.wdgSet f).freeCtr = s.freeCtr := rfl
@[simp] theorem State.wdgSet_lst : (s.wdgSet f).lst = s.lst := rfl
@[simp] theorem State.wdgSet_flt : (s.wdgSet f).flt = s.flt := rfl
@[simp] theorem State.wdgSet_clr : (s.wdgSet f).clr = s.clr := rfl
@[simp] theorem State.wdgSet_sole : (s.wdgSet f).sole = s.sole := rfl
@[simp] theorem State.wdgSet_sch : (s.wdgSet f).sch = s.sch := rfl
@[simp] theorem State.wdgSet_fab : (s.wdgSet f).fab = s.fab := rfl
@[simp] theorem State.wdgSet_tim : (s.wdgSet f).tim = s.tim := rfl
@[simp] theorem State.wdgSet_lace : (s.wdgSet f).lace = s.lace := rfl
@[simp] theorem State.wdgSet_macs : (s.wdgSet f).macs = s.macs := rfl
@[simp] theorem State.wdgSet_mdio : (s.wdgSet f).mdio = s.mdio := rfl
@[simp] theorem State.wdgSet_tca : (s.wdgSet f).tca = s.tca := rfl
@[simp] theorem State.wdgSet_awl : (s.wdgSet f).awl = s.awl := rfl
@[simp] theorem State.wdgSet_wak : (s.wdgSet f).wak = s.wak := rfl
@[simp] theorem State.wdgSet_pwr : (s.wdgSet f).pwr = s.pwr := rfl
@[simp] theorem State.wdgSet_wdg : (s.wdgSet f).wdg = f s.wdg := rfl
@[simp] theorem State.wdgSet_wlt : (s.wdgSet f).wlt = s.wlt := rfl
@[simp] theorem State.wdgSet_hdm : (s.wdgSet f).hdm = s.hdm := rfl
@[simp] theorem State.wdgSet_mbx : (s.wdgSet f).mbx = s.mbx := rfl
@[simp] theorem State.wdgSet_cgu : (s.wdgSet f).cgu = s.cgu := rfl
@[simp] theorem State.wdgSet_upd : (s.wdgSet f).upd = s.upd := rfl
@[simp] theorem State.wdgSet_rd : (s.wdgSet f).rd = s.rd := rfl
@[simp] theorem State.wdgSet_perrs : (s.wdgSet f).perrs = s.perrs := rfl
@[simp] theorem State.wdgSet_sbResp : (s.wdgSet f).sbResp = s.sbResp := rfl
@[simp] theorem State.wdgSet_pending : (s.wdgSet f).pending = s.pending := rfl
@[simp] theorem State.wdgSet_get (g : Fld) (a b c : Nat) : (s.wdgSet f).get g a b c = s.get g a b c := rfl
@[simp] theorem State.wdgSet_flag (g : Fld) (a b c : Nat) : (s.wdgSet f).flag g a b c = s.flag g a b c := rfl
end wdgSet

section updSet
variable (f : Upd → Upd)
@[simp] theorem State.updSet_regs : (s.updSet f).regs = s.regs := rfl
@[simp] theorem State.updSet_freeCtr : (s.updSet f).freeCtr = s.freeCtr := rfl
@[simp] theorem State.updSet_lst : (s.updSet f).lst = s.lst := rfl
@[simp] theorem State.updSet_flt : (s.updSet f).flt = s.flt := rfl
@[simp] theorem State.updSet_clr : (s.updSet f).clr = s.clr := rfl
@[simp] theorem State.updSet_sole : (s.updSet f).sole = s.sole := rfl
@[simp] theorem State.updSet_sch : (s.updSet f).sch = s.sch := rfl
@[simp] theorem State.updSet_fab : (s.updSet f).fab = s.fab := rfl
@[simp] theorem State.updSet_tim : (s.updSet f).tim = s.tim := rfl
@[simp] theorem State.updSet_lace : (s.updSet f).lace = s.lace := rfl
@[simp] theorem State.updSet_macs : (s.updSet f).macs = s.macs := rfl
@[simp] theorem State.updSet_mdio : (s.updSet f).mdio = s.mdio := rfl
@[simp] theorem State.updSet_tca : (s.updSet f).tca = s.tca := rfl
@[simp] theorem State.updSet_awl : (s.updSet f).awl = s.awl := rfl
@[simp] theorem State.updSet_wak : (s.updSet f).wak = s.wak := rfl
@[simp] theorem State.updSet_pwr : (s.updSet f).pwr = s.pwr := rfl
@[simp] theorem State.updSet_wdg : (s.updSet f).wdg = s.wdg := rfl
@[simp] theorem State.updSet_wlt : (s.updSet f).wlt = s.wlt := rfl
@[simp] theorem State.updSet_hdm : (s.updSet f).hdm = s.hdm := rfl
@[simp] theorem State.updSet_mbx : (s.updSet f).mbx = s.mbx := rfl
@[simp] theorem State.updSet_cgu : (s.updSet f).cgu = s.cgu := rfl
@[simp] theorem State.updSet_upd : (s.updSet f).upd = f s.upd := rfl
@[simp] theorem State.updSet_rd : (s.updSet f).rd = s.rd := rfl
@[simp] theorem State.updSet_perrs : (s.updSet f).perrs = s.perrs := rfl
@[simp] theorem State.updSet_sbResp : (s.updSet f).sbResp = s.sbResp := rfl
@[simp] theorem State.updSet_pending : (s.updSet f).pending = s.pending := rfl
@[simp] theorem State.updSet_get (g : Fld) (a b c : Nat) : (s.updSet f).get g a b c = s.get g a b c := rfl
@[simp] theorem State.updSet_flag (g : Fld) (a b c : Nat) : (s.updSet f).flag g a b c = s.flag g a b c := rfl
end updSet

section wltSet
variable (f : Wlt → Wlt)
@[simp] theorem State.wltSet_regs : (s.wltSet f).regs = s.regs := rfl
@[simp] theorem State.wltSet_freeCtr : (s.wltSet f).freeCtr = s.freeCtr := rfl
@[simp] theorem State.wltSet_lst : (s.wltSet f).lst = s.lst := rfl
@[simp] theorem State.wltSet_flt : (s.wltSet f).flt = s.flt := rfl
@[simp] theorem State.wltSet_clr : (s.wltSet f).clr = s.clr := rfl
@[simp] theorem State.wltSet_sole : (s.wltSet f).sole = s.sole := rfl
@[simp] theorem State.wltSet_sch : (s.wltSet f).sch = s.sch := rfl
@[simp] theorem State.wltSet_fab : (s.wltSet f).fab = s.fab := rfl
@[simp] theorem State.wltSet_tim : (s.wltSet f).tim = s.tim := rfl
@[simp] theorem State.wltSet_lace : (s.wltSet f).lace = s.lace := rfl
@[simp] theorem State.wltSet_macs : (s.wltSet f).macs = s.macs := rfl
@[simp] theorem State.wltSet_mdio : (s.wltSet f).mdio = s.mdio := rfl
@[simp] theorem State.wltSet_tca : (s.wltSet f).tca = s.tca := rfl
@[simp] theorem State.wltSet_awl : (s.wltSet f).awl = s.awl := rfl
@[simp] theorem State.wltSet_wak : (s.wltSet f).wak = s.wak := rfl
@[simp] theorem State.wltSet_pwr : (s.wltSet f).pwr = s.pwr := rfl
@[simp] theorem State.wltSet_wdg : (s.wltSet f).wdg = s.wdg := rfl
@[simp] theorem State.wltSet_wlt : (s.wltSet f).wlt = f s.wlt := rfl
@[simp] theorem State.wltSet_hdm : (s.wltSet f).hdm = s.hdm := rfl
@[simp] theorem State.wltSet_mbx : (s.wltSet f).mbx = s.mbx := rfl
@[simp] theorem State.wltSet_cgu : (s.wltSet f).cgu = s.cgu := rfl
@[simp] theorem State.wltSet_upd : (s.wltSet f).upd = s.upd := rfl
@[simp] theorem State.wltSet_rd : (s.wltSet f).rd = s.rd := rfl
@[simp] theorem State.wltSet_perrs : (s.wltSet f).perrs = s.perrs := rfl
@[simp] theorem State.wltSet_sbResp : (s.wltSet f).sbResp = s.sbResp := rfl
@[simp] theorem State.wltSet_pending : (s.wltSet f).pending = s.pending := rfl
@[simp] theorem State.wltSet_get (g : Fld) (a b c : Nat) : (s.wltSet f).get g a b c = s.get g a b c := rfl
@[simp] theorem State.wltSet_flag (g : Fld) (a b c : Nat) : (s.wltSet f).flag g a b c = s.flag g a b c := rfl
end wltSet

section hdmSet
variable (f : Hdm → Hdm)
@[simp] theorem State.hdmSet_regs : (s.hdmSet f).regs = s.regs := rfl
@[simp] theorem State.hdmSet_freeCtr : (s.hdmSet f).freeCtr = s.freeCtr := rfl
@[simp] theorem State.hdmSet_lst : (s.hdmSet f).lst = s.lst := rfl
@[simp] theorem State.hdmSet_flt : (s.hdmSet f).flt = s.flt := rfl
@[simp] theorem State.hdmSet_clr : (s.hdmSet f).clr = s.clr := rfl
@[simp] theorem State.hdmSet_sole : (s.hdmSet f).sole = s.sole := rfl
@[simp] theorem State.hdmSet_sch : (s.hdmSet f).sch = s.sch := rfl
@[simp] theorem State.hdmSet_fab : (s.hdmSet f).fab = s.fab := rfl
@[simp] theorem State.hdmSet_tim : (s.hdmSet f).tim = s.tim := rfl
@[simp] theorem State.hdmSet_lace : (s.hdmSet f).lace = s.lace := rfl
@[simp] theorem State.hdmSet_macs : (s.hdmSet f).macs = s.macs := rfl
@[simp] theorem State.hdmSet_mdio : (s.hdmSet f).mdio = s.mdio := rfl
@[simp] theorem State.hdmSet_tca : (s.hdmSet f).tca = s.tca := rfl
@[simp] theorem State.hdmSet_awl : (s.hdmSet f).awl = s.awl := rfl
@[simp] theorem State.hdmSet_wak : (s.hdmSet f).wak = s.wak := rfl
@[simp] theorem State.hdmSet_pwr : (s.hdmSet f).pwr = s.pwr := rfl
@[simp] theorem State.hdmSet_wdg : (s.hdmSet f).wdg = s.wdg := rfl
@[simp] theorem State.hdmSet_wlt : (s.hdmSet f).wlt = s.wlt := rfl
@[simp] theorem State.hdmSet_hdm : (s.hdmSet f).hdm = f s.hdm := rfl
@[simp] theorem State.hdmSet_mbx : (s.hdmSet f).mbx = s.mbx := rfl
@[simp] theorem State.hdmSet_cgu : (s.hdmSet f).cgu = s.cgu := rfl
@[simp] theorem State.hdmSet_upd : (s.hdmSet f).upd = s.upd := rfl
@[simp] theorem State.hdmSet_rd : (s.hdmSet f).rd = s.rd := rfl
@[simp] theorem State.hdmSet_perrs : (s.hdmSet f).perrs = s.perrs := rfl
@[simp] theorem State.hdmSet_sbResp : (s.hdmSet f).sbResp = s.sbResp := rfl
@[simp] theorem State.hdmSet_pending : (s.hdmSet f).pending = s.pending := rfl
@[simp] theorem State.hdmSet_get (g : Fld) (a b c : Nat) : (s.hdmSet f).get g a b c = s.get g a b c := rfl
@[simp] theorem State.hdmSet_flag (g : Fld) (a b c : Nat) : (s.hdmSet f).flag g a b c = s.flag g a b c := rfl
end hdmSet

section mbxSet
variable (f : Mbx → Mbx)
@[simp] theorem State.mbxSet_regs : (s.mbxSet f).regs = s.regs := rfl
@[simp] theorem State.mbxSet_freeCtr : (s.mbxSet f).freeCtr = s.freeCtr := rfl
@[simp] theorem State.mbxSet_lst : (s.mbxSet f).lst = s.lst := rfl
@[simp] theorem State.mbxSet_flt : (s.mbxSet f).flt = s.flt := rfl
@[simp] theorem State.mbxSet_clr : (s.mbxSet f).clr = s.clr := rfl
@[simp] theorem State.mbxSet_sole : (s.mbxSet f).sole = s.sole := rfl
@[simp] theorem State.mbxSet_sch : (s.mbxSet f).sch = s.sch := rfl
@[simp] theorem State.mbxSet_fab : (s.mbxSet f).fab = s.fab := rfl
@[simp] theorem State.mbxSet_tim : (s.mbxSet f).tim = s.tim := rfl
@[simp] theorem State.mbxSet_lace : (s.mbxSet f).lace = s.lace := rfl
@[simp] theorem State.mbxSet_macs : (s.mbxSet f).macs = s.macs := rfl
@[simp] theorem State.mbxSet_mdio : (s.mbxSet f).mdio = s.mdio := rfl
@[simp] theorem State.mbxSet_tca : (s.mbxSet f).tca = s.tca := rfl
@[simp] theorem State.mbxSet_awl : (s.mbxSet f).awl = s.awl := rfl
@[simp] theorem State.mbxSet_wak : (s.mbxSet f).wak = s.wak := rfl
@[simp] theorem State.mbxSet_pwr : (s.mbxSet f).pwr = s.pwr := rfl
@[simp] theorem State.mbxSet_wdg : (s.mbxSet f).wdg = s.wdg := rfl
@[simp] theorem State.mbxSet_wlt : (s.mbxSet f).wlt = s.wlt := rfl
@[simp] theorem State.mbxSet_hdm : (s.mbxSet f).hdm = s.hdm := rfl
@[simp] theorem State.mbxSet_mbx : (s.mbxSet f).mbx = f s.mbx := rfl
@[simp] theorem State.mbxSet_cgu : (s.mbxSet f).cgu = s.cgu := rfl
@[simp] theorem State.mbxSet_upd : (s.mbxSet f).upd = s.upd := rfl
@[simp] theorem State.mbxSet_rd : (s.mbxSet f).rd = s.rd := rfl
@[simp] theorem State.mbxSet_perrs : (s.mbxSet f).perrs = s.perrs := rfl
@[simp] theorem State.mbxSet_sbResp : (s.mbxSet f).sbResp = s.sbResp := rfl
@[simp] theorem State.mbxSet_pending : (s.mbxSet f).pending = s.pending := rfl
@[simp] theorem State.mbxSet_get (g : Fld) (a b c : Nat) : (s.mbxSet f).get g a b c = s.get g a b c := rfl
@[simp] theorem State.mbxSet_flag (g : Fld) (a b c : Nat) : (s.mbxSet f).flag g a b c = s.flag g a b c := rfl
end mbxSet

section lstSet
variable (f : Lst → Lst)
@[simp] theorem State.lstSet_regs : (s.lstSet f).regs = s.regs := rfl
@[simp] theorem State.lstSet_freeCtr : (s.lstSet f).freeCtr = s.freeCtr := rfl
@[simp] theorem State.lstSet_lst : (s.lstSet f).lst = f s.lst := rfl
@[simp] theorem State.lstSet_flt : (s.lstSet f).flt = s.flt := rfl
@[simp] theorem State.lstSet_clr : (s.lstSet f).clr = s.clr := rfl
@[simp] theorem State.lstSet_sole : (s.lstSet f).sole = s.sole := rfl
@[simp] theorem State.lstSet_sch : (s.lstSet f).sch = s.sch := rfl
@[simp] theorem State.lstSet_fab : (s.lstSet f).fab = s.fab := rfl
@[simp] theorem State.lstSet_tim : (s.lstSet f).tim = s.tim := rfl
@[simp] theorem State.lstSet_lace : (s.lstSet f).lace = s.lace := rfl
@[simp] theorem State.lstSet_macs : (s.lstSet f).macs = s.macs := rfl
@[simp] theorem State.lstSet_mdio : (s.lstSet f).mdio = s.mdio := rfl
@[simp] theorem State.lstSet_tca : (s.lstSet f).tca = s.tca := rfl
@[simp] theorem State.lstSet_awl : (s.lstSet f).awl = s.awl := rfl
@[simp] theorem State.lstSet_wak : (s.lstSet f).wak = s.wak := rfl
@[simp] theorem State.lstSet_pwr : (s.lstSet f).pwr = s.pwr := rfl
@[simp] theorem State.lstSet_wdg : (s.lstSet f).wdg = s.wdg := rfl
@[simp] theorem State.lstSet_wlt : (s.lstSet f).wlt = s.wlt := rfl
@[simp] theorem State.lstSet_hdm : (s.lstSet f).hdm = s.hdm := rfl
@[simp] theorem State.lstSet_mbx : (s.lstSet f).mbx = s.mbx := rfl
@[simp] theorem State.lstSet_cgu : (s.lstSet f).cgu = s.cgu := rfl
@[simp] theorem State.lstSet_upd : (s.lstSet f).upd = s.upd := rfl
@[simp] theorem State.lstSet_rd : (s.lstSet f).rd = s.rd := rfl
@[simp] theorem State.lstSet_perrs : (s.lstSet f).perrs = s.perrs := rfl
@[simp] theorem State.lstSet_sbResp : (s.lstSet f).sbResp = s.sbResp := rfl
@[simp] theorem State.lstSet_pending : (s.lstSet f).pending = s.pending := rfl
@[simp] theorem State.lstSet_get (g : Fld) (a b c : Nat) : (s.lstSet f).get g a b c = s.get g a b c := rfl
@[simp] theorem State.lstSet_flag (g : Fld) (a b c : Nat) : (s.lstSet f).flag g a b c = s.flag g a b c := rfl
end lstSet

section tcaSet
variable (f : Toecap → Toecap)
@[simp] theorem State.tcaSet_regs : (s.tcaSet f).regs = s.regs := rfl
@[simp] theorem State.tcaSet_freeCtr : (s.tcaSet f).freeCtr = s.freeCtr := rfl
@[simp] theorem State.tcaSet_lst : (s.tcaSet f).lst = s.lst := rfl
@[simp] theorem State.tcaSet_flt : (s.tcaSet f).flt = s.flt := rfl
@[simp] theorem State.tcaSet_clr : (s.tcaSet f).clr = s.clr := rfl
@[simp] theorem State.tcaSet_sole : (s.tcaSet f).sole = s.sole := rfl
@[simp] theorem State.tcaSet_sch : (s.tcaSet f).sch = s.sch := rfl
@[simp] theorem State.tcaSet_fab : (s.tcaSet f).fab = s.fab := rfl
@[simp] theorem State.tcaSet_tim : (s.tcaSet f).tim = s.tim := rfl
@[simp] theorem State.tcaSet_lace : (s.tcaSet f).lace = s.lace := rfl
@[simp] theorem State.tcaSet_macs : (s.tcaSet f).macs = s.macs := rfl
@[simp] theorem State.tcaSet_mdio : (s.tcaSet f).mdio = s.mdio := rfl
@[simp] theorem State.tcaSet_tca : (s.tcaSet f).tca = f s.tca := rfl
@[simp] theorem State.tcaSet_awl : (s.tcaSet f).awl = s.awl := rfl
@[simp] theorem State.tcaSet_wak : (s.tcaSet f).wak = s.wak := rfl
@[simp] theorem State.tcaSet_pwr : (s.tcaSet f).pwr = s.pwr := rfl
@[simp] theorem State.tcaSet_wdg : (s.tcaSet f).wdg = s.wdg := rfl
@[simp] theorem State.tcaSet_wlt : (s.tcaSet f).wlt = s.wlt := rfl
@[simp] theorem State.tcaSet_hdm : (s.tcaSet f).hdm = s.hdm := rfl
@[simp] theorem State.tcaSet_mbx : (s.tcaSet f).mbx = s.mbx := rfl
@[simp] theorem State.tcaSet_cgu : (s.tcaSet f).cgu = s.cgu := rfl
@[simp] theorem State.tcaSet_upd : (s.tcaSet f).upd = s.upd := rfl
@[simp] theorem State.tcaSet_rd : (s.tcaSet f).rd = s.rd := rfl
@[simp] theorem State.tcaSet_perrs : (s.tcaSet f).perrs = s.perrs := rfl
@[simp] theorem State.tcaSet_sbResp : (s.tcaSet f).sbResp = s.sbResp := rfl
@[simp] theorem State.tcaSet_pending : (s.tcaSet f).pending = s.pending := rfl
@[simp] theorem State.tcaSet_get (g : Fld) (a b c : Nat) : (s.tcaSet f).get g a b c = s.get g a b c := rfl
@[simp] theorem State.tcaSet_flag (g : Fld) (a b c : Nat) : (s.tcaSet f).flag g a b c = s.flag g a b c := rfl
end tcaSet

section pwrSet
variable (f : Pwr → Pwr)
@[simp] theorem State.pwrSet_regs : (s.pwrSet f).regs = s.regs := rfl
@[simp] theorem State.pwrSet_freeCtr : (s.pwrSet f).freeCtr = s.freeCtr := rfl
@[simp] theorem State.pwrSet_lst : (s.pwrSet f).lst = s.lst := rfl
@[simp] theorem State.pwrSet_flt : (s.pwrSet f).flt = s.flt := rfl
@[simp] theorem State.pwrSet_clr : (s.pwrSet f).clr = s.clr := rfl
@[simp] theorem State.pwrSet_sole : (s.pwrSet f).sole = s.sole := rfl
@[simp] theorem State.pwrSet_sch : (s.pwrSet f).sch = s.sch := rfl
@[simp] theorem State.pwrSet_fab : (s.pwrSet f).fab = s.fab := rfl
@[simp] theorem State.pwrSet_tim : (s.pwrSet f).tim = s.tim := rfl
@[simp] theorem State.pwrSet_lace : (s.pwrSet f).lace = s.lace := rfl
@[simp] theorem State.pwrSet_macs : (s.pwrSet f).macs = s.macs := rfl
@[simp] theorem State.pwrSet_mdio : (s.pwrSet f).mdio = s.mdio := rfl
@[simp] theorem State.pwrSet_tca : (s.pwrSet f).tca = s.tca := rfl
@[simp] theorem State.pwrSet_awl : (s.pwrSet f).awl = s.awl := rfl
@[simp] theorem State.pwrSet_wak : (s.pwrSet f).wak = s.wak := rfl
@[simp] theorem State.pwrSet_pwr : (s.pwrSet f).pwr = f s.pwr := rfl
@[simp] theorem State.pwrSet_wdg : (s.pwrSet f).wdg = s.wdg := rfl
@[simp] theorem State.pwrSet_wlt : (s.pwrSet f).wlt = s.wlt := rfl
@[simp] theorem State.pwrSet_hdm : (s.pwrSet f).hdm = s.hdm := rfl
@[simp] theorem State.pwrSet_mbx : (s.pwrSet f).mbx = s.mbx := rfl
@[simp] theorem State.pwrSet_cgu : (s.pwrSet f).cgu = s.cgu := rfl
@[simp] theorem State.pwrSet_upd : (s.pwrSet f).upd = s.upd := rfl
@[simp] theorem State.pwrSet_rd : (s.pwrSet f).rd = s.rd := rfl
@[simp] theorem State.pwrSet_perrs : (s.pwrSet f).perrs = s.perrs := rfl
@[simp] theorem State.pwrSet_sbResp : (s.pwrSet f).sbResp = s.sbResp := rfl
@[simp] theorem State.pwrSet_pending : (s.pwrSet f).pending = s.pending := rfl
@[simp] theorem State.pwrSet_get (g : Fld) (a b c : Nat) : (s.pwrSet f).get g a b c = s.get g a b c := rfl
@[simp] theorem State.pwrSet_flag (g : Fld) (a b c : Nat) : (s.pwrSet f).flag g a b c = s.flag g a b c := rfl
end pwrSet

section schSet
variable (f : Sched → Sched)
@[simp] theorem State.schSet_regs : (s.schSet f).regs = s.regs := rfl
@[simp] theorem State.schSet_freeCtr : (s.schSet f).freeCtr = s.freeCtr := rfl
@[simp] theorem State.schSet_lst : (s.schSet f).lst = s.lst := rfl
@[simp] theorem State.schSet_flt : (s.schSet f).flt = s.flt := rfl
@[simp] theorem State.schSet_clr : (s.schSet f).clr = s.clr := rfl
@[simp] theorem State.schSet_sole : (s.schSet f).sole = s.sole := rfl
@[simp] theorem State.schSet_sch : (s.schSet f).sch = f s.sch := rfl
@[simp] theorem State.schSet_fab : (s.schSet f).fab = s.fab := rfl
@[simp] theorem State.schSet_tim : (s.schSet f).tim = s.tim := rfl
@[simp] theorem State.schSet_lace : (s.schSet f).lace = s.lace := rfl
@[simp] theorem State.schSet_macs : (s.schSet f).macs = s.macs := rfl
@[simp] theorem State.schSet_mdio : (s.schSet f).mdio = s.mdio := rfl
@[simp] theorem State.schSet_tca : (s.schSet f).tca = s.tca := rfl
@[simp] theorem State.schSet_awl : (s.schSet f).awl = s.awl := rfl
@[simp] theorem State.schSet_wak : (s.schSet f).wak = s.wak := rfl
@[simp] theorem State.schSet_pwr : (s.schSet f).pwr = s.pwr := rfl
@[simp] theorem State.schSet_wdg : (s.schSet f).wdg = s.wdg := rfl
@[simp] theorem State.schSet_wlt : (s.schSet f).wlt = s.wlt := rfl
@[simp] theorem State.schSet_hdm : (s.schSet f).hdm = s.hdm := rfl
@[simp] theorem State.schSet_mbx : (s.schSet f).mbx = s.mbx := rfl
@[simp] theorem State.schSet_cgu : (s.schSet f).cgu = s.cgu := rfl
@[simp] theorem State.schSet_upd : (s.schSet f).upd = s.upd := rfl
@[simp] theorem State.schSet_rd : (s.schSet f).rd = s.rd := rfl
@[simp] theorem State.schSet_perrs : (s.schSet f).perrs = s.perrs := rfl
@[simp] theorem State.schSet_sbResp : (s.schSet f).sbResp = s.sbResp := rfl
@[simp] theorem State.schSet_pending : (s.schSet f).pending = s.pending := rfl
@[simp] theorem State.schSet_get (g : Fld) (a b c : Nat) : (s.schSet f).get g a b c = s.get g a b c := rfl
@[simp] theorem State.schSet_flag (g : Fld) (a b c : Nat) : (s.schSet f).flag g a b c = s.flag g a b c := rfl
end schSet

section timSet
variable (f : Tim → Tim)
@[simp] theorem State.timSet_regs : (s.timSet f).regs = s.regs := rfl
@[simp] theorem State.timSet_freeCtr : (s.timSet f).freeCtr = s.freeCtr := rfl
@[simp] theorem State.timSet_lst : (s.timSet f).lst = s.lst := rfl
@[simp] theorem State.timSet_flt : (s.timSet f).flt = s.flt := rfl
@[simp] theorem State.timSet_clr : (s.timSet f).clr = s.clr := rfl
@[simp] theorem State.timSet_sole : (s.timSet f).sole = s.sole := rfl
@[simp] theorem State.timSet_sch : (s.timSet f).sch = s.sch := rfl
@[simp] theorem State.timSet_fab : (s.timSet f).fab = s.fab := rfl
@[simp] theorem State.timSet_tim : (s.timSet f).tim = f s.tim := rfl
@[simp] theorem State.timSet_lace : (s.timSet f).lace = s.lace := rfl
@[simp] theorem State.timSet_macs : (s.timSet f).macs = s.macs := rfl
@[simp] theorem State.timSet_mdio : (s.timSet f).mdio = s.mdio := rfl
@[simp] theorem State.timSet_tca : (s.timSet f).tca = s.tca := rfl
@[simp] theorem State.timSet_awl : (s.timSet f).awl = s.awl := rfl
@[simp] theorem State.timSet_wak : (s.timSet f).wak = s.wak := rfl
@[simp] theorem State.timSet_pwr : (s.timSet f).pwr = s.pwr := rfl
@[simp] theorem State.timSet_wdg : (s.timSet f).wdg = s.wdg := rfl
@[simp] theorem State.timSet_wlt : (s.timSet f).wlt = s.wlt := rfl
@[simp] theorem State.timSet_hdm : (s.timSet f).hdm = s.hdm := rfl
@[simp] theorem State.timSet_mbx : (s.timSet f).mbx = s.mbx := rfl
@[simp] theorem State.timSet_cgu : (s.timSet f).cgu = s.cgu := rfl
@[simp] theorem State.timSet_upd : (s.timSet f).upd = s.upd := rfl
@[simp] theorem State.timSet_rd : (s.timSet f).rd = s.rd := rfl
@[simp] theorem State.timSet_perrs : (s.timSet f).perrs = s.perrs := rfl
@[simp] theorem State.timSet_sbResp : (s.timSet f).sbResp = s.sbResp := rfl
@[simp] theorem State.timSet_pending : (s.timSet f).pending = s.pending := rfl
@[simp] theorem State.timSet_get (g : Fld) (a b c : Nat) : (s.timSet f).get g a b c = s.get g a b c := rfl
@[simp] theorem State.timSet_flag (g : Fld) (a b c : Nat) : (s.timSet f).flag g a b c = s.flag g a b c := rfl
end timSet

section macSet
variable (p : Nat) (x : Mac)
@[simp] theorem State.macSet_regs : (s.macSet p x).regs = s.regs := rfl
@[simp] theorem State.macSet_freeCtr : (s.macSet p x).freeCtr = s.freeCtr := rfl
@[simp] theorem State.macSet_lst : (s.macSet p x).lst = s.lst := rfl
@[simp] theorem State.macSet_flt : (s.macSet p x).flt = s.flt := rfl
@[simp] theorem State.macSet_clr : (s.macSet p x).clr = s.clr := rfl
@[simp] theorem State.macSet_sole : (s.macSet p x).sole = s.sole := rfl
@[simp] theorem State.macSet_sch : (s.macSet p x).sch = s.sch := rfl
@[simp] theorem State.macSet_fab : (s.macSet p x).fab = s.fab := rfl
@[simp] theorem State.macSet_tim : (s.macSet p x).tim = s.tim := rfl
@[simp] theorem State.macSet_lace : (s.macSet p x).lace = s.lace := rfl
@[simp] theorem State.macSet_macs : (s.macSet p x).macs = AMap.ins s.macs p x := rfl
@[simp] theorem State.macSet_mdio : (s.macSet p x).mdio = s.mdio := rfl
@[simp] theorem State.macSet_tca : (s.macSet p x).tca = s.tca := rfl
@[simp] theorem State.macSet_awl : (s.macSet p x).awl = s.awl := rfl
@[simp] theorem State.macSet_wak : (s.macSet p x).wak = s.wak := rfl
@[simp] theorem State.macSet_pwr : (s.macSet p x).pwr = s.pwr := rfl
@[simp] theorem State.macSet_wdg : (s.macSet p x).wdg = s.wdg := rfl
@[simp] theorem State.macSet_wlt : (s.macSet p x).wlt = s.wlt := rfl
@[simp] theorem State.macSet_hdm : (s.macSet p x).hdm = s.hdm := rfl
@[simp] theorem State.macSet_mbx : (s.macSet p x).mbx = s.mbx := rfl
@[simp] theorem State.macSet_cgu : (s.macSet p x).cgu = s.cgu := rfl
@[simp] theorem State.macSet_upd : (s.macSet p x).upd = s.upd := rfl
@[simp] theorem State.macSet_rd : (s.macSet p x).rd = s.rd := rfl
@[simp] theorem State.macSet_perrs : (s.macSet p x).perrs = s.perrs := rfl
@[simp] theorem State.macSet_sbResp : (s.macSet p x).sbResp = s.sbResp := rfl
@[simp] theorem State.macSet_pending : (s.macSet p x).pending = s.pending := rfl
@[simp] theorem State.macSet_get (g : Fld) (a b c : Nat) : (s.macSet p x).get g a b c = s.get g a b c := rfl
@[simp] theorem State.macSet_flag (g : Fld) (a b c : Nat) : (s.macSet p x).flag g a b c = s.flag g a b c := rfl
end macSet

section lceSet
variable (p : Nat) (x : Lace)
@[simp] theorem State.lceSet_regs : (s.lceSet p x).regs = s.regs := rfl
@[simp] theorem State.lceSet_freeCtr : (s.lceSet p x).freeCtr = s.freeCtr := rfl
@[simp] theorem State.lceSet_lst : (s.lceSet p x).lst = s.lst := rfl
@[simp] theorem State.lceSet_flt : (s.lceSet p x).flt = s.flt := rfl
@[simp] theorem State.lceSet_clr : (s.lceSet p x).clr = s.clr := rfl
@[simp] theorem State.lceSet_sole : (s.lceSet p x).sole = s.sole := rfl
@[simp] theorem State.lceSet_sch : (s.lceSet p x).sch = s.sch := rfl
@[simp] theorem State.lceSet_fab : (s.lceSet p x).fab = s.fab := rfl
@[simp] theorem State.lceSet_tim : (s.lceSet p x).tim = s.tim := rfl
@[simp] theorem State.lceSet_lace : (s.lceSet p x).lace = AMap.ins s.lace p x := rfl
@[simp] theorem State.lceSet_macs : (s.lceSet p x).macs = s.macs := rfl
@[simp] theorem State.lceSet_mdio : (s.lceSet p x).mdio = s.mdio := rfl
@[simp] theorem State.lceSet_tca : (s.lceSet p x).tca = s.tca := rfl
@[simp] theorem State.lceSet_awl : (s.lceSet p x).awl = s.awl := rfl
@[simp] theorem State.lceSet_wak : (s.lceSet p x).wak = s.wak := rfl
@[simp] theorem State.lceSet_pwr : (s.lceSet p x).pwr = s.pwr := rfl
@[simp] theorem State.lceSet_wdg : (s.lceSet p x).wdg = s.wdg := rfl
@[simp] theorem State.lceSet_wlt : (s.lceSet p x).wlt = s.wlt := rfl
@[simp] theorem State.lceSet_hdm : (s.lceSet p x).hdm = s.hdm := rfl
@[simp] theorem State.lceSet_mbx : (s.lceSet p x).mbx = s.mbx := rfl
@[simp] theorem State.lceSet_cgu : (s.lceSet p x).cgu = s.cgu := rfl
@[simp] theorem State.lceSet_upd : (s.lceSet p x).upd = s.upd := rfl
@[simp] theorem State.lceSet_rd : (s.lceSet p x).rd = s.rd := rfl
@[simp] theorem State.lceSet_perrs : (s.lceSet p x).perrs = s.perrs := rfl
@[simp] theorem State.lceSet_sbResp : (s.lceSet p x).sbResp = s.sbResp := rfl
@[simp] theorem State.lceSet_pending : (s.lceSet p x).pending = s.pending := rfl
@[simp] theorem State.lceSet_get (g : Fld) (a b c : Nat) : (s.lceSet p x).get g a b c = s.get g a b c := rfl
@[simp] theorem State.lceSet_flag (g : Fld) (a b c : Nat) : (s.lceSet p x).flag g a b c = s.flag g a b c := rfl
end lceSet

section draw
variable (n : Nat)
@[simp] theorem State.draw_regs : ((s.draw n).2).regs = s.regs := rfl
@[simp] theorem State.draw_freeCtr : ((s.draw n).2).freeCtr = s.freeCtr + 1 := rfl
@[simp] theorem State.draw_lst : ((s.draw n).2).lst = s.lst := rfl
@[simp] theorem State.draw_flt : ((s.draw n).2).flt = s.flt := rfl
@[simp] theorem State.draw_clr : ((s.draw n).2).clr = s.clr := rfl
@[simp] theorem State.draw_sole : ((s.draw n).2).sole = s.sole := rfl
@[simp] theorem State.draw_sch : ((s.draw n).2).sch = s.sch := rfl
@[simp] theorem State.draw_fab : ((s.draw n).2).fab = s.fab := rfl
@[simp] theorem State.draw_tim : ((s.draw n).2).tim = s.tim := rfl
@[simp] theorem State.draw_lace : ((s.draw n).2).lace = s.lace := rfl
@[simp] theorem State.draw_macs : ((s.draw n).2).macs = s.macs := rfl
@[simp] theorem State.draw_mdio : ((s.draw n).2).mdio = s.mdio := rfl
@[simp] theorem State.draw_tca : ((s.draw n).2).tca = s.tca := rfl
@[simp] theorem State.draw_awl : ((s.draw n).2).awl = s.awl := rfl
@[simp] theorem State.draw_wak : ((s.draw n).2).wak = s.wak := rfl
@[simp] theorem State.draw_pwr : ((s.draw n).2).pwr = s.pwr := rfl
@[simp] theorem State.draw_wdg : ((s.draw n).2).wdg = s.wdg := rfl
@[simp] theorem State.draw_wlt : ((s.draw n).2).wlt = s.wlt := rfl
@[simp] theorem State.draw_hdm : ((s.draw n).2).hdm = s.hdm := rfl
@[simp] theorem State.draw_mbx : ((s.draw n).2).mbx = s.mbx := rfl
@[simp] theorem State.draw_cgu : ((s.draw n).2).cgu = s.cgu := rfl
@[simp] theorem State.draw_upd : ((s.draw n).2).upd = s.upd := rfl
@[simp] theorem State.draw_rd : ((s.draw n).2).rd = s.rd := rfl
@[simp] theorem State.draw_perrs : ((s.draw n).2).perrs = s.perrs := rfl
@[simp] theorem State.draw_sbResp : ((s.draw n).2).sbResp = s.sbResp := rfl
@[simp] theorem State.draw_pending : ((s.draw n).2).pending = s.pending := rfl
@[simp] theorem State.draw_get (g : Fld) (a b c : Nat) : ((s.draw n).2).get g a b c = s.get g a b c := rfl
@[simp] theorem State.draw_flag (g : Fld) (a b c : Nat) : ((s.draw n).2).flag g a b c = s.flag g a b c := rfl
end draw

section put
variable (f : Fld) (v i j m : Nat)
@[simp] theorem State.put_freeCtr : (s.put f v i j m).freeCtr = s.freeCtr := rfl
@[simp] theorem State.put_lst : (s.put f v i j m).lst = s.lst := rfl
@[simp] theorem State.put_flt : (s.put f v i j m).flt = s.flt := rfl
@[simp] theorem State.put_clr : (s.put f v i j m).clr = s.clr := rfl
@[simp] theorem State.put_sole : (s.put f v i j m).sole = s.sole := rfl
@[simp] theorem State.put_sch : (s.put f v i j m).sch = s.sch := rfl
@[simp] theorem State.put_fab : (s.put f v i j m).fab = s.fab := rfl
@[simp] theorem State.put_tim : (s.put f v i j m).tim = s.tim := rfl
@[simp] theorem State.put_lace : (s.put f v i j m).lace = s.lace := rfl
@[simp] theorem State.put_macs : (s.put f v i j m).macs = s.macs := rfl
@[simp] theorem State.put_mdio : (s.put f v i j m).mdio = s.mdio := rfl
@[simp] theorem State.put_tca : (s.put f v i j m).tca = s.tca := rfl
@[simp] theorem State.put_awl : (s.put f v i j m).awl = s.awl := rfl
@[simp] theorem State.put_wak : (s.put f v i j m).wak = s.wak := rfl
@[simp] theorem State.put_pwr : (s.put f v i j m).pwr = s.pwr := rfl
@[simp] theorem State.put_wdg : (s.put f v i j m).wdg = s.wdg := rfl
@[simp] theorem State.put_wlt : (s.put f v i j m).wlt = s.wlt := rfl
@[simp] theorem State.put_hdm : (s.put f v i j m).hdm = s.hdm := rfl
@[simp] theorem State.put_mbx : (s.put f v i j m).mbx = s.mbx := rfl
@[simp] theorem State.put_cgu : (s.put f v i j m).cgu = s.cgu := rfl
@[simp] theorem State.put_upd : (s.put f v i j m).upd = s.upd := rfl
@[simp] theorem State.put_rd : (s.put f v i j m).rd = s.rd := rfl
@[simp] theorem State.put_perrs : (s.put f v i j m).perrs = s.perrs := rfl
@[simp] theorem State.put_sbResp : (s.put f v i j m).sbResp = s.sbResp := rfl
@[simp] theorem State.put_pending : (s.put f v i j m).pending = s.pending := rfl
end put

section inc
variable (f : Fld) (v i j : Nat)
@[simp] theorem State.inc_freeCtr : (s.inc f v i j).freeCtr = s.freeCtr := rfl
@[simp] theorem State.inc_lst : (s.inc f v i j).lst = s.lst := rfl
@[simp] theorem State.inc_flt : (s.inc f v i j).flt = s.flt := rfl
@[simp] theorem State.inc_clr : (s.inc f v i j).clr = s.clr := rfl
@[simp] theorem State.inc_sole : (s.inc f v i j).sole = s.sole := rfl
@[simp] theorem State.inc_sch : (s.inc f v i j).sch = s.sch := rfl
@[simp] theorem State.inc_fab : (s.inc f v i j).fab = s.fab := rfl
@[simp] theorem State.inc_tim : (s.inc f v i j).tim = s.tim := rfl
@[simp] theorem State.inc_lace : (s.inc f v i j).lace = s.lace := rfl
@[simp] theorem State.inc_macs : (s.inc f v i j).macs = s.macs := rfl
@[simp] theorem State.inc_mdio : (s.inc f v i j).mdio = s.mdio := rfl
@[simp] theorem State.inc_tca : (s.inc f v i j).tca = s.tca := rfl
@[simp] theorem State.inc_awl : (s.inc f v i j).awl = s.awl := rfl
@[simp] theorem State.inc_wak : (s.inc f v i j).wak = s.wak := rfl
@[simp] theorem State.inc_pwr : (s.inc f v i j).pwr = s.pwr := rfl
@[simp] theorem State.inc_wdg : (s.inc f v i j).wdg = s.wdg := rfl
@[simp] theorem State.inc_wlt : (s.inc f v i j).wlt = s.wlt := rfl
@[simp] theorem State.inc_hdm : (s.inc f v i j).hdm = s.hdm := rfl
@[simp] theorem State.inc_mbx : (s.inc f v i j).mbx = s.mbx := rfl
@[simp] theorem State.inc_cgu : (s.inc f v i j).cgu = s.cgu := rfl
@[simp] theorem State.inc_upd : (s.inc f v i j).upd = s.upd := rfl
@[simp] theorem State.inc_rd : (s.inc f v i j).rd = s.rd := rfl
@[simp] theorem State.inc_perrs : (s.inc f v i j).perrs = s.perrs := rfl
@[simp] theorem State.inc_sbResp : (s.inc f v i j).sbResp = s.sbResp := rfl
@[simp] theorem State.inc_pending : (s.inc f v i j).pending = s.pending := rfl
end inc

section incWrap
variable (f : Fld) (v i j : Nat)
@[simp] theorem State.incWrap_freeCtr : (s.incWrap f v i j).freeCtr = s.freeCtr := rfl
@[simp] theorem State.incWrap_lst : (s.incWrap f v i j).lst = s.lst := rfl
@[simp] theorem State.incWrap_flt : (s.incWrap f v i j).flt = s.flt := rfl
@[simp] theorem State.incWrap_clr : (s.incWrap f v i j).clr = s.clr := rfl
@[simp] theorem State.incWrap_sole : (s.incWrap f v i j).sole = s.sole := rfl
@[simp] theorem State.incWrap_sch : (s.incWrap f v i j).sch = s.sch := rfl
@[simp] theorem State.incWrap_fab : (s.incWrap f v i j).fab = s.fab := rfl
@[simp] theorem State.incWrap_tim : (s.incWrap f v i j).tim = s.tim := rfl
@[simp] theorem State.incWrap_lace : (s.incWrap f v i j).lace = s.lace := rfl
@[simp] theorem State.incWrap_macs : (s.incWrap f v i j).macs = s.macs := rfl
@[simp] theorem State.incWrap_mdio : (s.incWrap f v i j).mdio = s.mdio := rfl
@[simp] theorem State.incWrap_tca : (s.incWrap f v i j).tca = s.tca := rfl
@[simp] theorem State.incWrap_awl : (s.incWrap f v i j).awl = s.awl := rfl
@[simp] theorem State.incWrap_wak : (s.incWrap f v i j).wak = s.wak := rfl
@[simp] theorem State.incWrap_pwr : (s.incWrap f v i j).pwr = s.pwr := rfl
@[simp] theorem State.incWrap_wdg : (s.incWrap f v i j).wdg = s.wdg := rfl
@[simp] theorem State.incWrap_wlt : (s.incWrap f v i j).wlt = s.wlt := rfl
@[simp] theorem State.incWrap_hdm : (s.incWrap f v i j).hdm = s.hdm := rfl
@[simp] theorem State.incWrap_mbx : (s.incWrap f v i j).mbx = s.mbx := rfl
@[simp] theorem State.incWrap_cgu : (s.incWrap f v i j).cgu = s.cgu := rfl
@[simp] theorem State.incWrap_upd : (s.incWrap f v i j).upd = s.upd := rfl
@[simp] theorem State.incWrap_rd : (s.incWrap f v i j).rd = s.rd := rfl
@[simp] theorem State.incWrap_perrs : (s.incWrap f v i j).perrs = s.perrs := rfl
@[simp] theorem State.incWrap_sbResp : (s.incWrap f v i j).sbResp = s.sbResp := rfl
@[simp] theorem State.incWrap_pending : (s.incWrap f v i j).pending = s.pending := rfl
end incWrap

section raise
variable (f : Fld) (i b : Nat)
@[simp] theorem State.raise_freeCtr : (s.raise f i b).freeCtr = s.freeCtr := rfl
@[simp] theorem State.raise_lst : (s.raise f i b).lst = s.lst := rfl
@[simp] theorem State.raise_flt : (s.raise f i b).flt = s.flt := rfl
@[simp] theorem State.raise_clr : (s.raise f i b).clr = s.clr := rfl
@[simp] theorem State.raise_sole : (s.raise f i b).sole = s.sole := rfl
@[simp] theorem State.raise_sch : (s.raise f i b).sch = s.sch := rfl
@[simp] theorem State.raise_fab : (s.raise f i b).fab = s.fab := rfl
@[simp] theorem State.raise_tim : (s.raise f i b).tim = s.tim := rfl
@[simp] theorem State.raise_lace : (s.raise f i b).lace = s.lace := rfl
@[simp] theorem State.raise_macs : (s.raise f i b).macs = s.macs := rfl
@[simp] theorem State.raise_mdio : (s.raise f i b).mdio = s.mdio := rfl
@[simp] theorem State.raise_tca : (s.raise f i b).tca = s.tca := rfl
@[simp] theorem State.raise_awl : (s.raise f i b).awl = s.awl := rfl
@[simp] theorem State.raise_wak : (s.raise f i b).wak = s.wak := rfl
@[simp] theorem State.raise_pwr : (s.raise f i b).pwr = s.pwr := rfl
@[simp] theorem State.raise_wdg : (s.raise f i b).wdg = s.wdg := rfl
@[simp] theorem State.raise_wlt : (s.raise f i b).wlt = s.wlt := rfl
@[simp] theorem State.raise_hdm : (s.raise f i b).hdm = s.hdm := rfl
@[simp] theorem State.raise_mbx : (s.raise f i b).mbx = s.mbx := rfl
@[simp] theorem State.raise_cgu : (s.raise f i b).cgu = s.cgu := rfl
@[simp] theorem State.raise_upd : (s.raise f i b).upd = s.upd := rfl
@[simp] theorem State.raise_rd : (s.raise f i b).rd = s.rd := rfl
@[simp] theorem State.raise_perrs : (s.raise f i b).perrs = s.perrs := rfl
@[simp] theorem State.raise_sbResp : (s.raise f i b).sbResp = s.sbResp := rfl
@[simp] theorem State.raise_pending : (s.raise f i b).pending = s.pending := rfl
end raise

/-- A register error changes registers only (R39). -/
theorem State.err_regs (page off code : Nat) (m : Master) (w : Bool) :
    s.err page off code m w = { s with regs := (s.err page off code m w).regs } := by
  unfold State.err
  split
  · rfl
  · split <;> rfl

section err
variable (page off code : Nat) (m : Master) (w : Bool)
@[simp] theorem State.err_freeCtr : (s.err page off code m w).freeCtr = s.freeCtr := by rw [State.err_regs]
@[simp] theorem State.err_lst : (s.err page off code m w).lst = s.lst := by rw [State.err_regs]
@[simp] theorem State.err_flt : (s.err page off code m w).flt = s.flt := by rw [State.err_regs]
@[simp] theorem State.err_clr : (s.err page off code m w).clr = s.clr := by rw [State.err_regs]
@[simp] theorem State.err_sole : (s.err page off code m w).sole = s.sole := by rw [State.err_regs]
@[simp] theorem State.err_sch : (s.err page off code m w).sch = s.sch := by rw [State.err_regs]
@[simp] theorem State.err_fab : (s.err page off code m w).fab = s.fab := by rw [State.err_regs]
@[simp] theorem State.err_tim : (s.err page off code m w).tim = s.tim := by rw [State.err_regs]
@[simp] theorem State.err_lace : (s.err page off code m w).lace = s.lace := by rw [State.err_regs]
@[simp] theorem State.err_macs : (s.err page off code m w).macs = s.macs := by rw [State.err_regs]
@[simp] theorem State.err_mdio : (s.err page off code m w).mdio = s.mdio := by rw [State.err_regs]
@[simp] theorem State.err_tca : (s.err page off code m w).tca = s.tca := by rw [State.err_regs]
@[simp] theorem State.err_awl : (s.err page off code m w).awl = s.awl := by rw [State.err_regs]
@[simp] theorem State.err_wak : (s.err page off code m w).wak = s.wak := by rw [State.err_regs]
@[simp] theorem State.err_pwr : (s.err page off code m w).pwr = s.pwr := by rw [State.err_regs]
@[simp] theorem State.err_wdg : (s.err page off code m w).wdg = s.wdg := by rw [State.err_regs]
@[simp] theorem State.err_wlt : (s.err page off code m w).wlt = s.wlt := by rw [State.err_regs]
@[simp] theorem State.err_hdm : (s.err page off code m w).hdm = s.hdm := by rw [State.err_regs]
@[simp] theorem State.err_mbx : (s.err page off code m w).mbx = s.mbx := by rw [State.err_regs]
@[simp] theorem State.err_cgu : (s.err page off code m w).cgu = s.cgu := by rw [State.err_regs]
@[simp] theorem State.err_upd : (s.err page off code m w).upd = s.upd := by rw [State.err_regs]
@[simp] theorem State.err_rd : (s.err page off code m w).rd = s.rd := by rw [State.err_regs]
@[simp] theorem State.err_perrs : (s.err page off code m w).perrs = s.perrs := by rw [State.err_regs]
@[simp] theorem State.err_sbResp : (s.err page off code m w).sbResp = s.sbResp := by rw [State.err_regs]
@[simp] theorem State.err_pending : (s.err page off code m w).pending = s.pending := by rw [State.err_regs]
end err

end Sys2Proof.Machine
end

