-- ==== Sys2Proof/Tests/Slice0.lean ====
section
/-! SUPPORT. The tests: states that meet the hypotheses of each statement, clause by clause; commands that WellFormed refuses;
and the worked examples of the spec. -/
namespace Sys2Proof.Machine.Tests
set_option maxRecDepth 100000

/-! ### States that the witnesses start from -/

/-- Every switched domain is powered and tested. -/
def up : State := { State.reset with pwr := { Pwr.init with powered := 0x7FFFE, tested := 0x7FFFE } }
/-- The slices of the fabric are in service. -/
def slices (s : State) : State := (List.range 4).foldl (fun s n => s.put Reg.FAB_STAT_IN_SERVICE 1 n) s
/-- The clocks have qualified, and the load is on the crystal. -/
def clocked (s : State) : State :=
  (((s.put Reg.CGU_STAT_LRC 2).put Reg.CGU_STAT_HRC 2).put Reg.CGU_STAT_XTAL 2).put Reg.CGU_STAT_SDSREF 2
/-- A Last is loaded, the boot is done, the clocks and the slices run. -/
def run : State :=
  (clocked (slices ((up.put Reg.LST_STAT_STATE lsIDLE).put Reg.LST_STAT_LOADED 1))).updSet (fun u => { u with stage := .done })
/-- The sideband is strapped on. -/
def sb : State := run.put Reg.DEV_STRAPS_SB_EN 1
/-- The Cobbler runs, with these cells off the free list. -/
def cells (m : AMap Pool) : State := (run.put Reg.CBR_CTRL_EN 1).soleSet (fun x => { x with taken := m })
/-- A change set is in a state of LST_STAT.STATE. -/
def setIn (n : Nat) : State := run.put Reg.LST_STAT_STATE n
/-- Section t of the Last from page 4, live or not, and bytes of it at an offset. -/
def sect (s : State) (t : Nat) (live : Bool) : State :=
  s.lstSet (fun l => { l with length := 0xE00000, secs := ⟨t, live, false, 4, 8, 2048⟩ :: l.secs })
def lastBytes (s : State) (off : Nat) (bs : List Byte) : State := s.lstSet (fun l => l.setBytes (1024 + off) bs)
/-- Page 5 is staged in physical page 57,344. -/
def staged1 (s : State) : State := (sect s 2 true).lstSet (fun l => { l with staged := [(5, 57344)], fresh := 57345 })
/-- Frames and copies on the path. -/
def withF (s : State) (fs : List Frame) (cs : List Copy := []) : State := s.clrSet (fun x => { x with frames := fs, copies := cs, nextId := 9 })
def frm (id port : Nat) (b : List Byte) : Frame := { run.newFrame port b with id := id, slot := true }
def cpy (id frame port svc queue : Nat) : Copy := ⟨id, frame, port, svc, queue, 0, false, .queued, 0, [], none, 0, false, none, 0, false, false, 0, 0, 0⟩
/-- Port p is up. -/
def portUp (s : State) (p : Nat) : State := s.put Reg.SOL_PORT_STATE_STATE psUP 0 p
/-- A change set of one listed page, with the CRC that page 5 is listed with. -/
def listed (crc : Nat) : State :=
  let l := [5, 0, 0, 0] ++ leBytes 4 crc
  let s := (staged1 (setIn lsVALIDATING)).lstSet (fun x => { x with list := l.zipIdx.foldl (fun m c => AMap.set zeroByte m c.2 c.1) [] })
  (s.put Reg.LST_CS_COUNT_COUNT 1).put Reg.LST_CS_CRC_CRC (crc32cStd l)
/-- Queue 0 belongs to subscriber 0, which port p serves in service v. -/
def queue0 (s : State) (p v : Nat) : State :=
  lastBytes (lastBytes (sect s 6 true) (116 * 256) [BitVec.ofNat 8 p, BitVec.ofNat 8 (128 + v)]) (372 * 256) [0, 128]
def inCtx (f : Frame) : State := (withF run [{ f with stage := .clicker 2 1 }]).put Reg.CLR_STAT_ROTATION 1 2
def ctx (f : Frame) : Frame := { f with stage := .clicker 2 1 }
/-- A whole frame of an EtherType that no parse graph knows. -/
def whole0 : Frame := { frm 0 3 (List.replicate 12 1 ++ [0x90, 0] ++ List.replicate 50 0) with whole := true }
/-- An EXACT section whose one record maps the key of 24 zero bytes in profile 0 to handle 0x1234. -/
def exact0 (s : State) : State := lastBytes (lastBytes (sect s 2 true) 0 [24, 0, 0, 0]) (235 * 256 + 24) [0, 1, 0x34, 0x12]
/-- A frame in the Clickers whose parse has ended; frames whole and released, too long, and stuck in a context. -/
def parsed : Frame := { frm 0 3 (List.replicate 64 0) with parse := { noParse with ended := true } }
def out0 : Frame := { frm 0 0 (List.replicate 64 0) with whole := true, slot := false, stage := .out }
def big24 : Frame := { frm 0 24 [] with rxLen := 1523 }
def good0 : Frame := { frm 0 0 (List.replicate 64 0) with fcsOk := true, stage := .ready }
def stuck : Frame := { frm 0 36 [1] with stage := .clicker 23 3, timer := some 0 }
def sect3 : State :=
  (((inCtx parsed).lstSet (fun l => { l with secs := [⟨3, true, false, 4, 2049, 0⟩] })).lstSet (fun l =>
    l.setBytes (6 * 256) ([1, 2] ++ List.replicate 22 0 ++ List.replicate 24 255 ++ [3, 1, 0, 0, 0x34, 0x12])))
def reparented : State :=
  lastBytes (sect (run.schSet (fun h => { h with sOld := [(8191, 40)] })) 6 true) ((116 + 8191 / 8) * 256 + 7 * 32) [1, 129]
/-- A host image of one KEY_MAP page. -/
def image1 : State :=
  let sec : List Byte := [1, 0, 0, 0, 4, 0, 1, 0, 0, 1, 0, 0, 1, 0, 0, 0] ++ leBytes 4 (crc32cStd (List.replicate 256 0))
  let h : List Byte := [0x4C, 0x41, 0x53, 0x54, 1, 0, 0, 0, 0, 5, 0, 0, 1, 0, 0x25, 0x64] ++ List.replicate 44 0
  (setIn lsRELOADING).lstSet (fun l => { l with fromHost := true }.setBytes 0 (h ++ leBytes 4 (crc32cStd h) ++ sec))
/-- Port p has bytes in the reload-only PORT_MAP, and its link is up. -/
def pmap (p : Nat) (bs : List Byte) : State := lastBytes (sect run 8 false) (pmOff p) bs
def linked (s : State) (p : Nat) : State := s.put Reg.MAC_LINK_UP 1 p
/-- A port that may link: its mode is m, and it is enabled. -/
def ready (p m : Nat) : State := (clocked (pmap p [BitVec.ofNat 8 m])).put Reg.PG_CTRL_ENABLE 1 (0x0D0 + p)
/-- A PAUSE frame of an operation code. -/
def ctlB (op : List Byte) : List Byte :=
  let b := pauseDA ++ List.replicate 6 0 ++ [0x88, 0x08] ++ op ++ [0, 5] ++ List.replicate 42 0
  b ++ leBytes 4 (crc32Eth b)
def pauseB (op : Byte) : List Byte := ctlB [0, op]
def late (s : State) : State := { s with tim := .init (9000000000 * 2 ^ 32) }
def paced (s : State) : State := (List.range 4).foldl (fun s n => s.put Reg.FAB_PACE_PACE 600 n) s
def governed : State := (slices run).put Reg.FAB_GOV_CTRL_EN 1
/-- Port 24 + t is a PLCA follower in ACTIVE. -/
def plca (t : Nat) : State := (pmap (24 + t) (List.replicate 18 0 ++ [1, 5, 8, 32, 0, 0, 0, 0])).put Reg.T1S_STAT_STATE 0 t
/-- CAN channel c is in a state; its header has its slots on at port 0, whose Lace runs a list of 1,000 ns; slot n is valid. -/
def canIn (c st : Nat) : State := run.put Reg.CAN_STAT_STATE st c
def canSlots (c n : Nat) : State :=
  let s := lastBytes (lastBytes (sect (canIn c csACTIVE) 0xA true) (c / 8 * 256 + c % 8 * 32 + 16) [128]) ((8 + 8 * c) * 256 + 8 * n + 6) [1]
  { s.put Reg.LCE_STAT_STATE 2 0 with lace := [(0, { idleLace with oper := { noList with cycle := 1000 } })] }
def msg0 : Msg := ⟨63, .classic, 5, false, false, false, false, false, 0, 0, 0, [1], 0, 0, 0, 0, false⟩
def wire0 : CanWire := ⟨.fd, 5, false, false, false, false, false, 0, 0, 0, List.replicate 64 7⟩
/-- LIN channel l is running with a header of LIN_SCHED. -/
def linIn (l : Nat) (hdr : List Byte) : State := lastBytes (sect (run.put Reg.LIN_STAT_STATE 1 l) 0xB true) (16 * l) hdr
def linIds (s : State) (l i : Nat) (b : Byte) : State := lastBytes s ((1 + l / 4) * 256 + 64 * (l % 4) + i) [b]
def linEntry0 (s : State) (l t e : Nat) (b : List Byte) : State := lastBytes s ((5 + 16 * l) * 256 + 512 * t + 8 * e) b
/-- Stream 511 has an L2 template, and one message is in its open frame. -/
def stream511 : State :=
  (lastBytes (sect run 9 true) ((5120 + 511) * 256) ([0, 14] ++ List.replicate 42 0 ++ [0x22, 0xF0])).awlSet (fun a =>
    { a with streams := [(511, ⟨[{ msg0 with sdt := 3 }], 255⟩)] })
def toAp : Frame := { out0 with route := some (3 * 1024 + 7) }
def apFrame0 : ApFrame := ⟨[1, 2], 64, 0, 0, 15 * 1024, false⟩
def canFull : State := (canIn 0 csACTIVE).canSet 0 { noCan with rx := List.replicate 64 msg0 }
def lin15 : State := (linEntry0 (linIn 15 [1]) 15 7 63 [63, 0, 1, 0]).put Reg.LIN_STAT_TABLE 7 15 |>.linSet 15 { noLin with next := 63 }
def apFull : State := (withF run [toAp] [{ cpy 1 0 33 264 0 with st := .sending }]).apQueueSet 3 (List.replicate 256 apFrame0)
/-- The host link is up, with bus mastering; and requests in flight. -/
def hosted : State := (run.put Reg.WLT_STAT_LINK_UP 1).put Reg.WLT_STAT_BME 1
def flight (q : List HostReq) : State := hosted.wltSet (fun w => { w with flight := q })
def confirm0 : State := ((hosted.put Reg.WLT_RANGE_CFG_EN 1 0 0).put Reg.WLT_RANGE_CFG_CONFIRMED 1 0 0).put Reg.WLT_RANGE_CFG_LIMIT 0xFFF 0 0
/-- A ring of 64 descriptors is enabled, and n are posted. -/
def ring (tx : Bool) (r n : Nat) : State :=
  (((portUp hosted 32).put (rEN tx) 1 0 r).put (rSIZE tx) 6 0 r).put (rTAIL tx) n 0 r
/-- The firmware watchdog runs. -/
def fwRun : State := run.wdgSet (fun w => { w with fwAt := some 0 })
/-- A mailbox request waits. -/
def asked (bs : List Byte) : State :=
  ((fwRun.put Reg.MBX_STAT_BUSY 1).put Reg.MBX_CMD_LEN bs.length).mbxSet (fun x =>
    { x with req := bs.zipIdx.foldl (fun m c => AMap.set (fun _ => 0) m c.2 c.1) [] })
def desc0 : TxDesc := ⟨60, true, true, false, 0, 0, 0⟩
def hpCopy (s : State) (svc : Nat) : State := withF s [out0] [{ cpy 1 0 32 (256 + svc) 0 with st := .sending }]
def loop7 : State :=
  let s := lastBytes (sect (asked [0x0D, 1, 0, 7, 0, 4, 0, 0, 23, 1, 0, 100]) 8 false) (pmOff 23) [2]
  s
/-- The clocks are in given states; the load is off the crystal and the trim has a source. -/
def clkIn (l h x d : Nat) : State :=
  (((run.put Reg.CGU_STAT_LRC l).put Reg.CGU_STAT_HRC h).put Reg.CGU_STAT_XTAL x).put Reg.CGU_STAT_SDSREF d
def fallback (src idx : Nat) : State :=
  (lastBytes (sect (clocked run) 0xE true) 4 [BitVec.ofNat 8 src, BitVec.ofNat 8 idx]).put Reg.CGU_STAT_LOADS 1
/-- Something in every component. -/
def rich : State :=
  { (late (withF (staged1 (fallback 1 3)) [out0, stuck] [cpy 1 0 36 295 0])).tcaSet (fun t =>
      { t with keys := [(1, ⟨true, true, []⟩)], kept := [(1, ⟨true, true, []⟩)], op := 1, locked := true }) with
    mdio := [⟨0, 0, true, 1, 4, 5, 0⟩], lace := [(0, idleLace)], macs := [(0, noMac)], rd := [(0, 5)], freeCtr := 7 }
/-- The Lace of port p runs a list of one entry. -/
def list0 : GateList := { noList with cycle := 1000, len := 1, entries := [(1000, 255, 1)] }
def laced (p : Nat) (l : Lace) : State := { (run.put Reg.LCE_STAT_STATE 2 p) with lace := [(p, l)] }
def evts16 : State := { run with tim := { Tim.init 0 with evt := (List.range 16).map (fun k => (3, k, true)) } }
/-- Cluster n is in a state; WAKE_MAP has an entry for cluster n; WAKE_MAP byte i is the MODE of pin i. -/
def clAt (s : State) (n st : Nat) : State := s.put Reg.WAK_CL_STATE_STATE (st * 16 ^ (n % 8)) 0 (n / 8)
def normal (s : State) (m : Nat := mdNORMAL) : State := s.put Reg.PWR_MODE_MODE m
def wmap (s : State) (n : Nat) (e : List Byte) (pin : List Byte := []) : State :=
  lastBytes (lastBytes (sect s 0xD true) ((1 + n / 4) * 256 + n % 4 * 64) e) 0 pin
/-- Everything sleeps, and nothing is asked for. -/
def drowsy : State := clAt (normal (wmap run 2 [1, 0])) 2 clASLEEP
def lin0cl : State := clAt (wmap run 2 ([2] ++ List.replicate 19 0 ++ [15])) 2 clREADY
def armedK (k n : Nat) (m : Nat) : State := (normal (drowsy.put Reg.WAK_STAT_DESCENT 2) m).wakSet (fun w => { w with armed := [(k, n)] })
def down (d m : Nat) : State := (normal (rich.put Reg.WAK_STAT_DESCENT d) m).pwrSet (fun w => { w with powered := 2 + 1024 })
def txmTo (c : Nat) (todo : List Nat) (cmd again : Bool) : State := (run.txmSet c ⟨3, false, todo, 0, cmd, again, [], 3⟩).txmNext (c / 16)
/-- The boot engine is at a stage; a record is being written; an operation is in progress. -/
def bootAt (st : BootStage) : State := run.updSet (fun u => { u with stage := st, octal := true })
def due (strap : Nat) : State := (normal ((clocked run).put Reg.DEV_STRAPS_BOOT_MODE strap)).updSet (fun u => { u with stage := .due, octal := true })
def rec0 : BootRec := ⟨1, 0, 0, 1, 0, 0, 255⟩
def writing (n : Nat) : State := run.updSet (fun u => { u with write := some (rec0, .confirm, n), octal := true })
def inOp (op a : Nat) (bs : List Byte) : State := run.opStart op a bs
def session (a : Nat) : State := (run.put Reg.UPD_STAT_SESSION 1).put Reg.UPD_ADDR_ADDR a
def loading : State := bootAt .load
def armable : State :=
  ((((bootAt .done).updSet (fun u => { u with vmove := false })).put Reg.UPD_VEH_STATE_MOVING 0).put Reg.UPD_STAT_STAGED 1).put Reg.PWR_MEAS_VALUE 65535 0 4
def trial : State := run.updSet (fun u => { u.store 0 (BootRec.bytes { rec0 with state := 2 }) with octal := true })
def speedy : State := ((run.put Reg.UPD_SPD_CFG_EN 1).put Reg.UPD_SPD_CFG_CHAN 63).put Reg.UPD_SPD_ID_ID 0x7FF
def owned (burnt : Nat) : State :=
  (((run.put Reg.TCA_STAT_STATE 2).put Reg.UPD_OWN_STAT_NONCE_VALID 1).updSet (fun u =>
    { u with ownerKey := some (List.replicate 32 9), burnt := burnt }))
/-- The manifest of slot A has one entry, of the Last at 4,096. -/
def inFlash (s : State) : State :=
  s.updSet (fun u => u.store (slotBase 0 + 12) ([1] ++ List.replicate 83 0 ++ [5, 0, 0, 0, 0, 0, 0, 0, 0, 16, 0, 0, 0, 5, 0, 0]))
def entry5 : ManEntry := ⟨5, 0, 4096, 0x500, List.replicate 32 255⟩
/-- A good Last of 5 pages in slot A. -/
def imaged : State :=
  let sec : List Byte := [1, 0, 0, 0, 4, 0, 1, 0, 0, 1, 0, 0, 1, 0, 0, 0] ++ leBytes 4 (crc32cStd (List.replicate 256 255))
  let h : List Byte := [0x4C, 0x41, 0x53, 0x54, 1, 0, 0, 0, 0, 5, 0, 0, 1, 0, 0x25, 0x64] ++ List.replicate 44 0
  (inFlash (setIn lsRELOADING)).updSet (fun u => u.store (slotBase 0 + 4096) (h ++ leBytes 4 (crc32cStd h) ++ sec))
/-- A copy waits in its queue on port 36; port 3 has a preempted copy and, in service 7, a queued one. -/
def queued36 : State := queue0 (withF (portUp run 36) [out0] [cpy 1 0 36 295 0]) 36 7
def both3 : State :=
  (queue0 (withF (portUp run 3) [out0] [{ cpy 1 0 3 24 1 with st := .preempted }, cpy 2 0 3 31 0]) 3 7).put Reg.LCE_STAT_PREEMPT_ACTIVE 1 3 |>.put
    Reg.LCE_OPER_CFG_EXPRESS 128 3
/-- A copy on port 3 is in transmission, and none of it has been read. -/
def unread3 : State :=
  ((withF run [out0] [{ cpy 1 0 3 24 0 with st := .sending }]).sliceSet 0 { idleSlice with reads := [⟨.read 1, 64⟩], servedTo := 10 ^ 12 })
/-- No image runs yet. -/
def unloaded : State := run.updSet (fun u => { u with stage := .load })
/-- Cluster 2 is of CAN channel 5, with a keep-alive identifier under a mask. -/
def kaCan : State := wmap run 2 ([1] ++ List.replicate 11 0 ++ [32] ++ List.replicate 11 0 ++ [0x23, 1, 0, 0, 255, 7, 0, 0])
/-- TXM channel 63 has a profile whose operation 0 of sequence 4 is a READ_CHECK that expects 1 under a mask of 255. -/
def checks (s : State) : State :=
  lastBytes (lastBytes (sect s 0xC true) (9 * 256) [0, 0, 0, 0, 0]) (9 * 256 + 16) [2 + 4 * 1, 255, 1, 0, 7]
/-! ### Each statement has states that meet its hypotheses -/

theorem witness_ChangeSetsOpenAndAbort :
    (∃ (m : Master) (z : State) (s : State), s = z.sent m ∧ s.grants m pgLST ∧ s.lsState = lsIDLE ∧ s.flag Reg.LST_STAT_LOADED = true) ∧
    (∃ (m : Master) (z : State) (s : State), s = z.sent m ∧ s.grants m pgLST ∧ (s.lsState ≠ lsIDLE ∨ s.flag Reg.LST_STAT_LOADED = false)) ∧
    (∃ (m : Master) (z : State) (s : State), s = z.sent m ∧ s.grants m pgLST ∧ (s.lsState ≠ lsIDLE ∨ s.flag Reg.LST_STAT_LOADED = false)) ∧
    (∃ (m : Master) (z : State) (s : State), s = z.sent m ∧ s.grants m pgLST ∧ s.setHeld = true) ∧
    (∃ (m : Master) (z : State) (s : State), s = z.sent m ∧ s.grants m pgLST ∧ s.setHeld = true) ∧
    (∃ (m : Master) (z : State) (s : State), s = z.sent m ∧ s.grants m pgLST ∧ s.setHeld = false) :=
  ⟨⟨.host, run, _, rfl, by decide⟩,
   ⟨.sideband, setIn lsOPEN, _, rfl, by decide⟩,
   ⟨.sideband, up, _, rfl, by decide⟩,
   ⟨.host, staged1 (setIn lsOPEN), _, rfl, by decide⟩,
   ⟨.host, (staged1 (setIn lsPENDING)).put Reg.LST_STAT_PENDING 1, _, rfl, by decide⟩,
   ⟨.firmware, run, _, rfl, by decide⟩⟩

theorem witness_StagingWritesChangeOnlyTheirBytes :
    (∃ (m : Master) (z : State) (s : State) (off : Nat) (bs : List Byte) (x : Nat), s = z.sent m ∧ s.grants m pgLST ∧ s.lsState = lsOPEN ∧ s.lst.undef = none ∧ stagingSize off bs.length = true ∧ off < 0xE00000 ∧ s.livePage (off / 256) = true ∧ AMap.find s.lst.staged (off / 256) = some x) ∧
    (∃ (m : Master) (z : State) (s : State) (off : Nat) (bs : List Byte), s = z.sent m ∧ s.grants m pgLST ∧ s.lsState = lsOPEN ∧ s.lst.undef = none ∧ stagingSize off bs.length = true ∧ off < 0xE00000 ∧ s.livePage (off / 256) = true ∧ AMap.find s.lst.staged (off / 256) = none ∧ s.lst.free ≠ 0) ∧
    (∃ (m : Master) (z : State) (s : State) (off : Nat) (bs : List Byte), s = z.sent m ∧ s.grants m pgLST ∧ s.lsState = lsOPEN ∧ stagingSize (0xE00000 + off) bs.length = true ∧ off < 0x10000) ∧
    (∃ (z : State) (s : State) (off : Nat) (bs : List Byte), s = z.sent .host ∧ s.grants .host pgLST ∧ s.lsState ≠ lsOPEN ∧ s.lsState ≠ lsHOST_LOAD ∧ stagingSize off bs.length = true ∧ off < 0xE10000) ∧
    (∃ (z : State) (s : State) (off : Nat) (bs : List Byte), s = z.sent .host ∧ s.grants .host pgLST ∧ s.lsState ≠ lsOPEN ∧ s.lsState ≠ lsHOST_LOAD ∧ stagingSize (0xE00000 + off) bs.length = true ∧ off < 0x10000) :=
  ⟨⟨.host, staged1 (setIn lsOPEN), _, 5 * 256 + 252, [1, 2, 3, 4], 57344, rfl, by decide⟩,
   ⟨.host, staged1 (setIn lsOPEN), _, 4 * 256, [1, 2, 3, 4, 5, 6, 7, 8], rfl, by decide⟩,
   ⟨.host, setIn lsOPEN, _, 0xFFFC, [1, 2, 3, 4], rfl, by decide⟩,
   ⟨run, _, 0xE0FFFC, [1, 2, 3, 4], rfl, by decide⟩,
   ⟨run, _, 0, [1, 2, 3, 4], rfl, by decide⟩⟩

theorem witness_CommitsAreValidatedOrRefused :
    (∃ (m : Master) (z : State) (s : State), s = z.sent m ∧ s.grants m pgLST ∧ s.lsState = lsOPEN) ∧
    (∃ (m : Master) (z : State) (s : State), s = z.sent m ∧ s.grants m pgLST ∧ s.lsState ≠ lsOPEN) ∧
    (∃ (s : State), s.lsState = lsVALIDATING ∧ s.commitCheck = none) ∧
    (∃ (s : State) (code : Nat) (page : Nat), s.lsState = lsVALIDATING ∧ s.commitCheck = some (code, page) ∧ code ≠ 7) ∧
    (∃ (s : State) (page : Nat), s.lsState = lsVALIDATING ∧ s.commitCheck = some (7, page)) :=
  ⟨⟨.host, setIn lsOPEN, _, rfl, by decide⟩,
   ⟨.host, run, _, rfl, by decide⟩,
   ⟨listed (crc32cStd (List.replicate 256 0)), by decide⟩,
   ⟨setIn lsVALIDATING, 3, 0, by decide⟩,
   ⟨listed 1, 5, by decide⟩⟩

theorem witness_FlipsTakeStagedPagesAndDrainsFreeThem :
    (∃ (s : State), s.lsState = lsPENDING ∧ s.flag Reg.LST_STAT_DRAINING = false) ∧
    (∃ (s : State), (s.lsState ≠ lsPENDING ∨ s.flag Reg.LST_STAT_DRAINING = true)) ∧
    (∃ (s : State), (s.lsState ≠ lsPENDING ∨ s.flag Reg.LST_STAT_DRAINING = true)) ∧
    (∃ (s : State), s.flag Reg.LST_STAT_DRAINING = true ∧ s.epochLive (s.get Reg.LST_EPOCH_PREV) = false) ∧
    (∃ (s : State), s.flag Reg.LST_STAT_DRAINING = true ∧ s.epochLive (s.get Reg.LST_EPOCH_PREV) = true) :=
  ⟨⟨staged1 (setIn lsPENDING), by decide⟩,
   ⟨run, by decide⟩,
   ⟨(setIn lsPENDING).put Reg.LST_STAT_DRAINING 1, by decide⟩,
   ⟨(staged1 run).put Reg.LST_STAT_DRAINING 1, by decide⟩,
   ⟨(withF run [{ frm 0 3 [] with stage := .ready }]).put Reg.LST_STAT_DRAINING 1, by decide⟩⟩

theorem witness_SparePagesAreConserved :
    (∃ (m : Master) (off : Nat) (bs : List Byte) (s : State) (t : State), s.lst.fresh ≤ physicalPages ∧ AMap.Sorted s.lst.staged ∧ exec (.stagingWrite m off bs) s = .next t) ∧
    (∃ (m : Master) (s : State) (t : State), exec (.csAbort m) s = .next t) ∧
    (∃ (s : State) (t : State), exec .epochDrainEnd s = .next t) ∧
    (∃ (l : Lst), l.held = []) :=
  ⟨⟨.host, 1024, [1, 2, 3, 4], staged1 (setIn lsOPEN), stagingWrite .host 1024 [1, 2, 3, 4] (staged1 (setIn lsOPEN)), by decide, by decide, rfl⟩,
   ⟨.host, staged1 (setIn lsOPEN), csAbort .host (staged1 (setIn lsOPEN)), rfl⟩,
   ⟨run, epochDrainEnd run, rfl⟩,
   ⟨{ Lst.init with staged := [(5, 57344)], fresh := 57345 }, by decide⟩⟩

theorem witness_DrainLimitPurgesThePreviousEpoch :
    (∃ (s : State), s.flag Reg.LST_STAT_DRAINING = true ∧ s.lst.purged = false) ∧
    (∃ (s : State), (s.flag Reg.LST_STAT_DRAINING = false ∨ s.lst.purged = true)) :=
  ⟨⟨((withF run [frm 0 3 []] [cpy 1 0 2 16 0, { cpy 2 0 3 24 0 with st := .sending }]).put Reg.LST_STAT_DRAINING 1).put Reg.LST_EPOCH_CUR 1, by decide⟩,
   ⟨run, by decide⟩⟩

theorem witness_ReloadsTakeTheirImage :
    (∃ (m : Master) (z : State) (s : State), s = z.sent m ∧ s.grants m pgLST ∧ s.reloading = false ∧ s.booting = false) ∧
    (∃ (m : Master) (z : State) (s : State), s = z.sent m ∧ s.grants m pgLST ∧ s.lsState = lsHOST_LOAD) ∧
    (∃ (s : State), s.lsState = lsHOST_LOAD) ∧
    (∃ (ok : Bool) (s : State), s.lsState = lsRELOADING ∧ s.lst.applying = false ∧ s.lst.fromHost = true ∧ imageOk s.lst.byte = true) ∧
    (∃ (ok : Bool) (s : State), s.lsState = lsRELOADING ∧ s.lst.applying = false ∧ s.lst.fromHost = true ∧ imageOk s.lst.byte = false) ∧
    (∃ (s : State), s.lsState = lsRELOADING ∧ s.lst.applying = false ∧ s.lst.fromHost = false) ∧
    (∃ (ok : Bool) (s : State) (e : ManEntry) (img : Image), s.lsState = lsRELOADING ∧ s.lst.applying = false ∧ s.lst.fromHost = false ∧ manPart (s.upd.manifest s.activeSlot) 5 = some e ∧ img = (fun a => s.upd.byte (slotBase s.activeSlot + e.offset + a)) ∧ (ok = false ∨ imageOk img = false)) ∧
    (∃ (ok : Bool) (s : State) (e : ManEntry) (img : Image), s.lsState = lsRELOADING ∧ s.lst.applying = false ∧ s.lst.fromHost = false ∧ manPart (s.upd.manifest s.activeSlot) 5 = some e ∧ img = (fun a => s.upd.byte (slotBase s.activeSlot + e.offset + a)) ∧ (ok = false ∨ imageOk img = false)) ∧
    (∃ (s : State) (e : ManEntry) (img : Image), s.lsState = lsRELOADING ∧ s.lst.applying = false ∧ s.lst.fromHost = false ∧ manPart (s.upd.manifest s.activeSlot) 5 = some e ∧ img = (fun a => s.upd.byte (slotBase s.activeSlot + e.offset + a)) ∧ imageOk img = true) ∧
    (∃ (s : State), s.lsState = lsRELOADING ∧ s.lst.applying = true) :=
  ⟨⟨.host, run, _, rfl, by decide⟩,
   ⟨.host, setIn lsHOST_LOAD, _, rfl, by decide⟩,
   ⟨setIn lsHOST_LOAD, by decide⟩,
   ⟨true, image1, by decide⟩,
   ⟨true, (setIn lsRELOADING).lstSet (fun l => { l with fromHost := true }), by decide⟩,
   ⟨setIn lsRELOADING, by decide⟩,
   ⟨false, inFlash (setIn lsRELOADING), entry5, _, by decide, by decide, by decide, by decide, rfl, by decide⟩,
   ⟨true, inFlash (setIn lsRELOADING), entry5, _, by decide, by decide, by decide, by decide, rfl, by decide⟩,
   ⟨imaged, entry5, _, by decide, by decide, by decide, by decide, rfl, by decide⟩,
   ⟨(setIn lsRELOADING).lstSet (fun l => { l with applying := true }), by decide⟩⟩

theorem witness_ArrivalsAreRecordedOrCounted :
    (∃ (p : Fin 32) (b : List Byte) (z : State) (s : State), s = z.fabNow ∧ z.inService p.val = true ∧ macControl b = false ∧ s.fifoFill p.val + min (s.maxFrame p.val) 2048 ≤ fifoSize p.val) ∧
    (∃ (p : Fin 32) (b : List Byte) (z : State), macControl b = true) ∧
    (∃ (p : Fin 32) (b : List Byte) (z : State) (s : State), s = z.fabNow ∧ z.inService p.val = true ∧ macControl b = false ∧ fifoSize p.val < s.fifoFill p.val + min (s.maxFrame p.val) 2048) ∧
    (∃ (p : Fin 32) (b : List Byte) (z : State), z.inService p.val = false ∧ macControl b = false ∧ (z.portState p.val = psHELD ∨ z.reloading = true)) ∧
    (∃ (p : Fin 32) (b : List Byte) (z : State), z.inService p.val = false ∧ macControl b = false ∧ (z.portState p.val = psHELD ∨ z.reloading = true)) ∧
    (∃ (p : Fin 32) (b : List Byte) (z : State), z.inService p.val = false ∧ z.portState p.val ≠ psHELD ∧ z.reloading = false) :=
  ⟨⟨31, List.replicate 64 0, portUp run 31, _, rfl, by decide⟩,
   ⟨31, pauseB 1, portUp run 31, by decide⟩,
   ⟨24, List.replicate 64 0, withF (portUp run 24) [{ frm 0 24 [] with fifo := 3000 }], _, rfl, by decide⟩,
   ⟨5, List.replicate 64 0, run.put Reg.SOL_PORT_STATE_STATE psHELD 0 5, by decide⟩,
   ⟨5, List.replicate 64 0, setIn lsRELOADING, by decide⟩,
   ⟨5, List.replicate 64 0, run, by decide⟩⟩

theorem witness_DispatchStampsTheCurrentEpoch :
    (∃ (s : State) (f : Frame) (c : Nat) (k : Nat), s.nextDispatch = some (f, c, k) ∧ f.port ≤ 32 ∧ (f.port = 32 ∨ (s.clrSet (fun x => { x with rrPort := (f.port + 1) % 37 })).rxCheck f.port f.bytes = .pass)) ∧
    (∃ (s : State) (f : Frame) (c : Nat) (k : Nat), s.nextDispatch = some (f, c, k) ∧ f.port ≤ 32 ∧ (f.port = 32 ∨ (s.clrSet (fun x => { x with rrPort := (f.port + 1) % 37 })).rxCheck f.port f.bytes = .pass)) ∧
    (∃ (s : State) (f : Frame) (c : Nat) (k : Nat), s.nextDispatch = some (f, c, k) ∧ 33 ≤ f.port) ∧
    (∃ (s : State) (f : Frame) (c : Nat) (k : Nat) (n : Nat) (e : Option (Nat × Nat)), s.nextDispatch = some (f, c, k) ∧ f.port < 32 ∧ f.whole = false ∧ (s.clrSet (fun x => { x with rrPort := (f.port + 1) % 37 })).rxCheck f.port f.bytes = .drop n e) ∧
    (∃ (s : State) (f : Frame) (c : Nat) (k : Nat) (n : Nat) (e : Option (Nat × Nat)), s.nextDispatch = some (f, c, k) ∧ f.port < 32 ∧ f.whole = true ∧ (s.clrSet (fun x => { x with rrPort := (f.port + 1) % 37 })).rxCheck f.port f.bytes = .drop n e) ∧
    (∃ (s : State), s.nextDispatch = none) :=
  ⟨⟨((withF run [frm 0 31 [1]]).put Reg.CLR_STAT_ROTATION 1 0).put Reg.LST_EPOCH_CUR 3, frm 0 31 [1], 0, 0, by decide⟩,
   ⟨((withF run [frm 0 32 [1]]).put Reg.CLR_STAT_ROTATION 1 0), frm 0 32 [1], 0, 0, by decide⟩,
   ⟨((withF run [frm 0 36 [1]]).put Reg.CLR_STAT_ROTATION 1 23).put Reg.LST_EPOCH_CUR 3, frm 0 36 [1], 23, 0, by decide⟩,
   ⟨((lastBytes (sect (withF run [frm 0 0 (List.replicate 64 1)]) 0x10 true) 0 [1]).put Reg.CLR_STAT_ROTATION 1 23), frm 0 0 (List.replicate 64 1), 23, 0, tcRxUntagged, none, by decide⟩,
   ⟨((lastBytes (sect (withF run [{ frm 0 0 (List.replicate 64 1) with whole := true }]) 0x10 true) 0 [1]).put Reg.CLR_STAT_ROTATION 1 23), { frm 0 0 (List.replicate 64 1) with whole := true }, 23, 0, tcRxUntagged, none, by decide⟩,
   ⟨run, by decide⟩⟩

theorem witness_ParsesEndInALookupOrAPortDefault :
    (∃ (c : Fin 24) (k : Fin 4) (s : State) (f : Frame) (p : Parse), s.worksOn c.val k.val = some f ∧ f.parse.ended = false ∧ s.stepReady f = true ∧ s.parseOn f = p ∧ p.outcome = none) ∧
    (∃ (c : Fin 24) (k : Fin 4) (s : State) (f : Frame) (p : Parse) (r : Nat), s.worksOn c.val k.val = some f ∧ f.parse.ended = false ∧ s.stepReady f = true ∧ s.parseOn f = p ∧ p.outcome = some r ∧ (r ≠ 4 ∨ f.whole = true)) ∧
    (∃ (c : Fin 24) (k : Fin 4) (s : State) (f : Frame), s.worksOn c.val k.val = some f ∧ f.parse.ended = false ∧ (s.stepReady f = false ∨ ((s.parseOn f).outcome = some 4 ∧ f.whole = false))) ∧
    (∃ (c : Fin 24) (k : Fin 4) (s : State), s.flag Reg.CLR_STAT_ROTATION c.val = false) ∧
    (∃ (c : Fin 24) (k : Fin 4) (s : State) (f : Frame) (h : Nat), s.worksOn c.val k.val = some f ∧ f.parse.ended = true ∧ f.parse.outcome = none ∧ f.whole = false ∧ s.exactMatch (s.prevEpoch f.epoch) ((s.graph f.port).profile f.parse.path) (f.key (s.graph f.port)) = some h) ∧
    (∃ (c : Fin 24) (k : Fin 4) (s : State) (f : Frame), s.worksOn c.val k.val = some f ∧ f.parse.ended = true ∧ f.parse.outcome = none ∧ f.whole = false ∧ s.exactMatch (s.prevEpoch f.epoch) ((s.graph f.port).profile f.parse.path) (f.key (s.graph f.port)) = none) :=
  ⟨⟨2, 1, inCtx whole0, ctx whole0, (inCtx whole0).parseOn (ctx whole0), by decide⟩,
   ⟨2, 1, inCtx { frm 0 3 [0, 0] with whole := true }, ctx { frm 0 3 [0, 0] with whole := true }, (inCtx { frm 0 3 [0, 0] with whole := true }).parseOn (ctx { frm 0 3 [0, 0] with whole := true }), 4, by decide⟩,
   ⟨2, 1, inCtx (frm 0 3 (List.replicate 64 0)), ctx (frm 0 3 (List.replicate 64 0)), by decide⟩,
   ⟨2, 1, run, by decide⟩,
   ⟨2, 1, exact0 (inCtx parsed), ctx parsed, 0x1234, by decide⟩,
   ⟨2, 1, inCtx parsed, ctx parsed, by decide⟩⟩

theorem witness_FrameEndsMeetTheMacChecks :
    (∃ (p : Fin 32) (s : State) (u : State) (w : State) (f : Frame), s.arriving p.val = some f ∧ f.lost = none ∧ u = ((s.rxLine p.val .clean).fabNow).modFrame f.id (fun f => { f with whole := true }) ∧ u.fifoFill p.val + fifoClaim (u.maxFrame p.val) f.rxLen ≤ fifoSize p.val + u.fifoOf { f with whole := true } ∧ u.frame f.id = some { f with whole := true } ∧ w = (if f.fifo < fifoClaim (u.maxFrame p.val) f.rxLen then u.modFrame f.id (fun g => { g with fifo := fifoClaim (u.maxFrame p.val) f.rxLen }) else u).egressLimits f.id ∧ u.maxFrame p.val < f.rxLen) ∧
    (∃ (p : Fin 32) (s : State) (u : State) (w : State) (f : Frame), s.arriving p.val = some f ∧ f.lost = none ∧ u = ((s.rxLine p.val .clean).fabNow).modFrame f.id (fun f => { f with whole := true }) ∧ u.fifoFill p.val + fifoClaim (u.maxFrame p.val) f.rxLen ≤ fifoSize p.val + u.fifoOf { f with whole := true } ∧ u.frame f.id = some { f with whole := true } ∧ w = (if f.fifo < fifoClaim (u.maxFrame p.val) f.rxLen then u.modFrame f.id (fun g => { g with fifo := fifoClaim (u.maxFrame p.val) f.rxLen }) else u).egressLimits f.id ∧ f.rxLen ≤ u.maxFrame p.val ∧ f.rxLen ≤ w.maxFrame p.val ∧ f.rxLen < 64) ∧
    (∃ (p : Fin 32) (s : State) (u : State) (w : State) (f : Frame), s.arriving p.val = some f ∧ f.lost = none ∧ u = ((s.rxLine p.val .clean).fabNow).modFrame f.id (fun f => { f with whole := true }) ∧ u.fifoFill p.val + fifoClaim (u.maxFrame p.val) f.rxLen ≤ fifoSize p.val + u.fifoOf { f with whole := true } ∧ u.frame f.id = some { f with whole := true } ∧ w = (if f.fifo < fifoClaim (u.maxFrame p.val) f.rxLen then u.modFrame f.id (fun g => { g with fifo := fifoClaim (u.maxFrame p.val) f.rxLen }) else u).egressLimits f.id ∧ f.rxLen ≤ u.maxFrame p.val ∧ f.rxLen ≤ w.maxFrame p.val ∧ 64 ≤ f.rxLen ∧ f.fcsOk = false) ∧
    (∃ (p : Fin 32) (s : State) (u : State) (w : State) (f : Frame), s.arriving p.val = some f ∧ f.lost = none ∧ u = ((s.rxLine p.val .clean).fabNow).modFrame f.id (fun f => { f with whole := true }) ∧ u.fifoFill p.val + fifoClaim (u.maxFrame p.val) f.rxLen ≤ fifoSize p.val + u.fifoOf { f with whole := true } ∧ u.frame f.id = some { f with whole := true } ∧ w = (if f.fifo < fifoClaim (u.maxFrame p.val) f.rxLen then u.modFrame f.id (fun g => { g with fifo := fifoClaim (u.maxFrame p.val) f.rxLen }) else u).egressLimits f.id ∧ f.rxLen ≤ u.maxFrame p.val ∧ f.rxLen ≤ w.maxFrame p.val ∧ 64 ≤ f.rxLen ∧ f.fcsOk = true ∧ f.toecap = none ∧ f.rxSa = none ∧ f.stage ≠ .out ∧ f.parse.ended = false ∧ f.pdrop = none ∧ (∀ g, w.frame f.id = some g → g.rxSa = none)) ∧
    (∃ (p : Fin 32) (s : State) (u : State) (f : Frame), s.arriving p.val = some f ∧ f.lost = none ∧ u = ((s.rxLine p.val .clean).fabNow).modFrame f.id (fun f => { f with whole := true }) ∧ u.frame f.id = some { f with whole := true } ∧ f.fifo < fifoClaim (u.maxFrame p.val) f.rxLen ∧ fifoSize p.val + u.fifoOf { f with whole := true } < u.fifoFill p.val + fifoClaim (u.maxFrame p.val) f.rxLen) ∧
    (∃ (p : Fin 32) (s : State) (u : State) (f : Frame), s.arriving p.val = some f ∧ u = ((s.rxLine p.val .clean).fabNow).modFrame f.id (fun f => { f with whole := true })) ∧
    (∃ (p : Fin 32) (s : State) (u : State) (f : Frame), s.arriving p.val = some f ∧ u = ((s.rxLine p.val .clean).fabNow).modFrame f.id (fun f => { f with whole := true })) ∧
    (∃ (p : Fin 32) (s : State), s.arriving p.val = none) :=
  ⟨⟨24, withF run [big24], _, _, big24, by decide, by decide, rfl, by decide, by decide, rfl, by decide⟩,
   ⟨31, withF run [frm 0 31 (List.replicate 63 0)], _, _, frm 0 31 (List.replicate 63 0), by decide, by decide, rfl, by decide, by decide, rfl, by decide⟩,
   ⟨31, withF run [frm 0 31 (List.replicate 64 0)], _, _, frm 0 31 (List.replicate 64 0), by decide, by decide, rfl, by decide, by decide, rfl, by decide⟩,
   ⟨0, withF run [good0], _, _, good0, by decide, by decide, rfl, by decide, by decide, rfl, by decide⟩,
   ⟨24, withF run [frm 0 24 (List.replicate 64 0), { frm 1 24 [] with fifo := 4000, whole := true }], _, frm 0 24 (List.replicate 64 0), by decide, by decide, rfl, by decide⟩,
   ⟨0, withF run [{ good0 with lost := some true }], _, { good0 with lost := some true }, by decide, rfl⟩,
   ⟨0, withF run [{ good0 with lost := some false }], _, { good0 with lost := some false }, by decide, rfl⟩,
   ⟨0, run, by decide⟩⟩

theorem witness_SlotsReleaseInOrderAndStallsRetire :
    (∃ (p : Fin 37) (s : State) (f : Frame), s.clr.frames.find? (fun f => f.port == p.val && f.slot) = some f ∧ f.stage = .ready ∧ (f.writes = false ∨ (s.slicesIn ≠ [] ∧ s.fabNow.portWaits p.val = false))) ∧
    (∃ (p : Fin 37) (s : State) (f : Frame), s.clr.frames.find? (fun f => f.port == p.val && f.slot) = some f ∧ (f.stage ≠ .ready ∨ (f.writes = true ∧ (s.slicesIn = [] ∨ s.fabNow.portWaits p.val = true)))) ∧
    (∃ (p : Fin 37) (s : State) (f : Frame) (c : Nat) (k : Nat), s.clr.frames.find? (fun f => f.port == p.val && f.slot && f.stage != .ready && f.timedOut s.now) = some f ∧ f.stage = .clicker c k) ∧
    (∃ (p : Fin 37) (s : State) (f : Frame) (c : Nat) (k : Nat), s.clr.frames.find? (fun f => f.port == p.val && f.slot && f.stage != .ready && f.timedOut s.now) = some f ∧ f.stage = .clicker c k) ∧
    (∃ (c : Fin 24) (n : Nat) (s : State) (u : State), s.clr.stalled.contains c.val = true ∧ s.clr.frames.any (fun f => (List.range 4).any (fun k => f.stage == .clicker c.val k)) = false ∧ u = s.clrSet (fun x => { x with stalled := x.stalled.filter (· != c.val), rejoinAt := AMap.ins x.rejoinAt c.val s.now })) :=
  ⟨⟨36, withF run [{ frm 0 36 [1] with stage := .ready }], { frm 0 36 [1] with stage := .ready }, by decide⟩,
   ⟨36, withF run [frm 0 36 [1]], frm 0 36 [1], by decide⟩,
   ⟨36, late (withF run [stuck]), stuck, 23, 3, by decide⟩,
   ⟨36, late (withF run [stuck]), stuck, 23, 3, by decide⟩,
   ⟨23, 2, run.clrSet (fun x => { x with stalled := [23] }), run.clrSet (fun x => { x with stalled := [], rejoinAt := [(23, 0)] }), by decide⟩⟩

theorem witness_SchedulersTakeTheEligibleCopy :
    (∃ (p : Fin 37) (z : State) (s : State), s = z.fabNow ∧ s.inService p.val = true ∧ s.slicesIn ≠ [] ∧ s.kaHolds p.val = false ∧ (isTP p.val = false ∨ s.get Reg.T1S_STAT_STATE (p.val - 24) ≠ 1) ∧ (s.creditSync p.val).nextCopy p.val = none ∧ (s.creditSync p.val).resumes p.val = none) ∧
    (∃ (p : Fin 37) (z : State) (s : State) (c : Copy), s = z.fabNow ∧ s.inService p.val = true ∧ s.slicesIn ≠ [] ∧ s.kaHolds p.val = false ∧ (isTP p.val = false ∨ s.get Reg.T1S_STAT_STATE (p.val - 24) ≠ 1) ∧ (s.creditSync p.val).nextCopy p.val = none ∧ (s.creditSync p.val).resumes p.val = some c) ∧
    (∃ (p : Fin 37) (z : State) (s : State) (c : Copy) (ex : Bool) (f : Frame), s = z.fabNow ∧ s.inService p.val = true ∧ s.slicesIn ≠ [] ∧ s.kaHolds p.val = false ∧ (isTP p.val = false ∨ s.get Reg.T1S_STAT_STATE (p.val - 24) ≠ 1) ∧ (s.creditSync p.val).nextCopy p.val = some (c, ex) ∧ (s.creditSync p.val).resumes p.val = none ∧ (s.creditSync p.val).frame c.frame = some f ∧ (s.creditSync p.val).discardOf c f = none) ∧
    (∃ (p : Fin 37) (z : State) (s : State) (c : Copy) (r : Copy) (ex : Bool) (f : Frame), s = z.fabNow ∧ s.inService p.val = true ∧ s.slicesIn ≠ [] ∧ s.kaHolds p.val = false ∧ (isTP p.val = false ∨ s.get Reg.T1S_STAT_STATE (p.val - 24) ≠ 1) ∧ (s.creditSync p.val).nextCopy p.val = some (c, ex) ∧ (s.creditSync p.val).resumes p.val = some r ∧ (s.creditSync p.val).frame c.frame = some f ∧ (s.creditSync p.val).discardOf c f = none) ∧
    (∃ (p : Fin 37) (z : State) (s : State) (c : Copy) (ex : Bool) (f : Frame) (d : Discard), s = z.fabNow ∧ s.inService p.val = true ∧ s.slicesIn ≠ [] ∧ s.kaHolds p.val = false ∧ (isTP p.val = false ∨ s.get Reg.T1S_STAT_STATE (p.val - 24) ≠ 1) ∧ (s.creditSync p.val).nextCopy p.val = some (c, ex) ∧ (s.creditSync p.val).frame c.frame = some f ∧ (s.creditSync p.val).discardOf c f = some d) ∧
    (∃ (p : Fin 37) (z : State) (s : State), s = z.fabNow ∧ (s.inService p.val = false ∨ (s.slicesIn = [] ∧ s.kaHolds p.val = false))) ∧
    (∃ (p : Fin 37) (z : State) (s : State), s = z.fabNow ∧ (s.inService p.val = false ∨ (s.slicesIn = [] ∧ s.kaHolds p.val = false))) ∧
    (∃ (p : Fin 37) (z : State) (s : State) (b : List Byte), s = z.fabNow ∧ p.val < 32 ∧ s.inService p.val = true ∧ (isTP p.val = false ∨ s.get Reg.T1S_STAT_STATE (p.val - 24) ≠ 1) ∧ (s.mac p.val).ka = some b ∧ (s.mac p.val).kaTx = none ∧ s.clr.copies.any (fun c => c.port == p.val && c.st == .sending) = false) ∧
    (∃ (p : Fin 37) (z : State) (s : State) (c : Copy) (f : Frame), s = z.fabNow ∧ s.nextStart p.val = some c ∧ s.frame c.frame = some f ∧ (f.whole = true ∨ s.startBytes f.port p.val ≤ s.held c f) ∧ s.pauseLets p.val (c.svc % 8) = true ∧ s.gateLets c = true ∧ s.slicesIn ≠ [] ∧ s.kaHolds p.val = false) ∧
    (∃ (p : Fin 37) (z : State) (s : State) (c : Copy) (f : Frame), s = z.fabNow ∧ s.nextStart p.val = some c ∧ s.frame c.frame = some f ∧ ((f.whole = false ∧ s.held c f < s.startBytes f.port p.val) ∨ s.pauseLets p.val (c.svc % 8) = false ∨ s.gateLets c = false ∨ s.slicesIn = [] ∨ s.kaHolds p.val = true)) ∧
    (∃ (p : Fin 37) (z : State) (s : State), s = z.fabNow ∧ s.nextStart p.val = none) :=
  ⟨⟨24, portUp run 24, _, rfl, by decide⟩,
   ⟨3, lastBytes (withF (portUp run 3) [out0] [{ cpy 1 0 3 24 0 with st := .preempted }]) 0 [], _, { cpy 1 0 3 24 0 with st := .preempted }, rfl, by decide⟩,
   ⟨36, queued36, _, cpy 1 0 36 295 0, true, out0, rfl, by decide⟩,
   ⟨3, both3, _, cpy 2 0 3 31 0, { cpy 1 0 3 24 1 with st := .preempted }, true, out0, rfl, by decide⟩,
   ⟨36, late queued36, _, cpy 1 0 36 295 0, true, out0, .aged, rfl, by decide⟩,
   ⟨36, run, _, rfl, by decide⟩,
   ⟨36, State.reset, _, rfl, by decide⟩,
   ⟨3, (portUp run 3).macSet 3 { noMac with ka := some [1] }, _, [1], rfl, by decide⟩,
   ⟨3, withF run [out0] [{ cpy 1 0 3 24 0 with st := .chosen }], _, { cpy 1 0 3 24 0 with st := .chosen }, out0, rfl, by decide⟩,
   ⟨3, (withF run [out0] [{ cpy 1 0 3 24 0 with st := .chosen }]).put Reg.MAC_PAUSE_STAT_PAUSED 1 3, _, { cpy 1 0 3 24 0 with st := .chosen }, out0, rfl, by decide⟩,
   ⟨3, run, _, rfl, by decide⟩⟩

theorem witness_CopiesLeaveAndParentsChange :
    (∃ (p : Fin 32) (z : State) (s : State) (u : State) (c : Copy) (f : Frame), s = z.fabNow ∧ (s.mac p.val).kaTx = none ∧ s.clr.copies.find? (fun c => c.port == p.val && c.st == .sending) = some c ∧ s.frame c.frame = some f ∧ f.whole = true ∧ s.readsWait c.id = 0 ∧ u = s.creditSync p.val) ∧
    (∃ (p : Fin 32) (z : State) (s : State) (c : Copy) (f : Frame), s = z.fabNow ∧ (s.mac p.val).kaTx = none ∧ s.clr.copies.find? (fun c => c.port == p.val && c.st == .sending) = some c ∧ s.frame c.frame = some f ∧ f.whole = true ∧ s.readsWait c.id ≠ 0) ∧
    (∃ (p : Fin 32) (z : State) (s : State) (b : List Byte), s = z.fabNow ∧ (s.mac p.val).kaTx = some b) ∧
    (∃ (p : Fin 32) (z : State) (s : State), s = z.fabNow ∧ (s.mac p.val).kaTx = none ∧ s.leaving p.val = none) ∧
    (∃ (n : Fin 8192) (s : State) (u : State) (old : Nat) (i : Nat), AMap.find s.sch.sOld n.val = some old ∧ s.subCopies n.val = [] ∧ u = s.schSet (fun h => { h with sOld := AMap.del h.sOld n.val }) ∧ u.subPlace n.val = some i) ∧
    (∃ (n : Fin 8192) (s : State) (u : State) (old : Nat), AMap.find s.sch.sOld n.val = some old ∧ s.subCopies n.val = [] ∧ u = s.schSet (fun h => { h with sOld := AMap.del h.sOld n.val }) ∧ u.subPlace n.val = none) ∧
    (∃ (n : Fin 8192) (s : State), (AMap.find s.sch.sOld n.val = none ∨ s.subCopies n.val ≠ [])) ∧
    (∃ (n : Fin 8192) (s : State), (AMap.find s.sch.sOld n.val = none ∨ s.subCopies n.val ≠ [])) ∧
    (∃ (n : Fin 8192) (s : State) (old : Nat), AMap.find s.sch.qOld n.val = some old ∧ s.queueCopies n.val = []) ∧
    (∃ (n : Fin 8192) (s : State), (AMap.find s.sch.qOld n.val = none ∨ s.queueCopies n.val ≠ [])) ∧
    (∃ (n : Fin 8192) (s : State), (AMap.find s.sch.qOld n.val = none ∨ s.queueCopies n.val ≠ [])) :=
  ⟨⟨3, withF run [out0] [{ cpy 1 0 3 24 0 with st := .sending }], _, _, { cpy 1 0 3 24 0 with st := .sending }, out0, rfl, by decide, by decide, by decide, by decide, by decide, rfl⟩,
   ⟨3, unread3, _, { cpy 1 0 3 24 0 with st := .sending }, out0, rfl, by decide⟩,
   ⟨3, run.macSet 3 { noMac with kaTx := some [1] }, _, [1], rfl, by decide⟩,
   ⟨31, run, _, rfl, by decide⟩,
   ⟨8191, reparented, _, 40, 9, by decide, by decide, rfl, by decide⟩,
   ⟨0, run.schSet (fun h => { h with sOld := [(0, 40)] }), _, 40, by decide, by decide, rfl, by decide⟩,
   ⟨0, queue0 (withF run [out0] [cpy 1 0 36 295 0]) 36 7, by decide⟩,
   ⟨5, run, by decide⟩,
   ⟨8191, run.schSet (fun h => { h with qOld := [(8191, 3)] }), 3, by decide⟩,
   ⟨5, withF run [out0] [cpy 1 0 36 295 5], by decide⟩,
   ⟨5, run, by decide⟩⟩

theorem witness_PaceAndDemandWindowsEnd :
    (∃ (n : Fin 4) (w : Nat) (pace : Nat) (s : State), s.flag Reg.FAB_STAT_IN_SERVICE n.val = true ∧ pace = min 4095 (if s.flag Reg.CGU_STAT_LOADS = true then w * 98 / 100 else w) ∧ 500 ≤ pace) ∧
    (∃ (n : Fin 4) (w : Nat) (pace : Nat) (s : State), s.flag Reg.FAB_STAT_IN_SERVICE n.val = true ∧ pace = min 4095 (if s.flag Reg.CGU_STAT_LOADS = true then w * 98 / 100 else w) ∧ 500 ≤ pace) ∧
    (∃ (n : Fin 4) (w : Nat) (pace : Nat) (s : State), s.flag Reg.FAB_STAT_IN_SERVICE n.val = true ∧ pace = min 4095 (if s.flag Reg.CGU_STAT_LOADS = true then w * 98 / 100 else w) ∧ pace < 500) ∧
    (∃ (n : Fin 4) (w : Nat) (s : State), s.flag Reg.FAB_STAT_IN_SERVICE n.val = false) ∧
    (∃ (s : State), s.pagePowered 0x060 = true ∧ s.fab.cells ≠ 0 ∧ s.paceSum ≠ 0) ∧
    (∃ (s : State), s.pagePowered 0x060 = false) :=
  ⟨⟨3, 500, _, slices run, by decide, rfl, by decide⟩,
   ⟨0, 4095, _, slices run, by decide, rfl, by decide⟩,
   ⟨3, 499, _, slices run, by decide, rfl, by decide⟩,
   ⟨3, 0, run.put Reg.FAB_STAT_IN_SERVICE 0 3, by decide⟩,
   ⟨(paced (slices run)).fabSet (fun f => { f with cells := 4, copies := 8, written := 300 }), by decide⟩,
   ⟨State.reset, by decide⟩⟩

theorem witness_StalledSlicesLeaveAndRejoin :
    (∃ (n : Fin 4) (s : State) (u : State) (v : State) (w : State), s.flag Reg.FAB_STAT_IN_SERVICE n.val = true ∧ u = s.sliceStuck n.val (s.now - s.get Reg.FAB_STALL_LIMIT) ∧ v = (u.slice n.val).framesWritten.foldl (fun s f => s.abandon n.val f) (((u.put Reg.FAB_STAT_STALLS (min 255 (u.get Reg.FAB_STAT_STALLS n.val + 1)) n.val).raise Reg.FAB_IRQ_STALL n.val).fault (0x060 + n.val) 0x1301) ∧ w = v.sliceServe n.val false) ∧
    (∃ (n : Fin 4) (s : State), s.flag Reg.FAB_STAT_IN_SERVICE n.val = false) ∧
    (∃ (n : Fin 4) (k : Nat) (s : State) (u : State), s.fab.stalled.contains n.val = true ∧ s.pagePowered (0x060 + n.val) = true ∧ u = s.fabSet (fun f => { f with stalled := f.stalled.filter (· != n.val), rejoinAt := AMap.ins f.rejoinAt n.val s.now })) ∧
    (∃ (n : Fin 4) (k : Nat) (ok : Bool) (s : State), (s.fab.stalled.contains n.val = false ∨ s.pagePowered (0x060 + n.val) = false)) :=
  ⟨⟨3, run, _, _, _, by decide, rfl, rfl, rfl⟩,
   ⟨3, run.put Reg.FAB_STAT_IN_SERVICE 0 3, by decide⟩,
   ⟨3, 2, run.fabSet (fun f => { f with stalled := [3] }), _, by decide, by decide, rfl⟩,
   ⟨3, 2, true, run, by decide⟩⟩

theorem witness_TheGovernorRequestsAndFails :
    (∃ (m : Master) (pec : Bool) (a : Fin 128) (st : Fin 16) (iv : Fin 256) (z : State) (s : State), s = z.sent m ∧ s.grants m 0x060 ∧ s.flag Reg.FAB_GOV_CTRL_EN = false) ∧
    (∃ (m : Master) (pec : Bool) (a : Fin 128) (st : Fin 16) (iv : Fin 256) (z : State) (s : State), s = z.sent m ∧ s.grants m 0x060 ∧ s.flag Reg.FAB_GOV_CTRL_EN = true) ∧
    (∃ (s : State), s.pagePowered 0x060 = true ∧ bit s.pwr.powered 1 = true ∧ s.flag Reg.FAB_GOV_CTRL_EN = true ∧ s.get Reg.FAB_GOV_STAT_STATE ≠ 3 ∧ s.paceLow = none ∧ s.warnRecent = false) ∧
    (∃ (s : State) (p : Nat), s.pagePowered 0x060 = true ∧ bit s.pwr.powered 1 = true ∧ s.flag Reg.FAB_GOV_CTRL_EN = true ∧ s.get Reg.FAB_GOV_STAT_STATE ≠ 3 ∧ ((s.paceLow = some p ∧ p < s.get Reg.FAB_GOV_TARGET_TARGET) ∨ s.warnRecent = true) ∧ 0 < s.get Reg.FAB_GOV_STAT_VREQ ∧ s.get Reg.FAB_GOV_VLIM_VMIN ≤ s.get Reg.FAB_GOV_STAT_VREQ ∧ s.get Reg.FAB_GOV_STAT_VREQ < s.get Reg.FAB_GOV_VLIM_VMAX ∧ s.get Reg.FAB_GOV_VLIM_VMAX < 1024 ∧ 0 < s.get Reg.FAB_GOV_CTRL_STEP) ∧
    (∃ (mv : Fin 65536) (s : State) (r : List Nat), s.fab.bus = 2 :: r) ∧
    (∃ (mv : Fin 65536) (s : State) (x : Nat) (r : List Nat), s.fab.bus = x :: r ∧ x ≠ 2) ∧
    (∃ (ok : Bool) (mv : Fin 65536) (s : State), s.fab.bus = []) ∧
    (∃ (mv : Fin 65536) (s : State) (x : Nat) (r : List Nat), s.fab.bus = x :: r ∧ s.fab.retry = false) ∧
    (∃ (mv : Fin 65536) (s : State) (x : Nat) (r : List Nat), s.fab.bus = x :: r ∧ s.fab.retry = true) :=
  ⟨⟨.host, true, 127, 15, 255, run, _, rfl, by decide⟩,
   ⟨.host, true, 127, 15, 255, governed, _, rfl, by decide⟩,
   ⟨governed, by decide⟩,
   ⟨((governed.fabSet (fun f => { f with lowest := some 0, bus := [1] })).put Reg.FAB_GOV_STAT_VREQ 849), 0, by decide⟩,
   ⟨65535, run.fabSet (fun f => { f with bus := [2, 1] }), [1], by decide⟩,
   ⟨65535, run.fabSet (fun f => { f with bus := [0] }), 0, [], by decide⟩,
   ⟨true, 0, run, by decide⟩,
   ⟨0, run.fabSet (fun f => { f with bus := [0] }), 0, [], by decide⟩,
   ⟨0, run.fabSet (fun f => { f with bus := [1, 2], retry := true }), 1, [2], by decide⟩⟩

theorem witness_TheCobblerMarksAndReclaims :
    (∃ (d : Nat) (s : State), s.flag Reg.CBR_CTRL_EN = true ∧ s.pagePowered 0x069 = true ∧ s.doubles = [] ∧ (∀ x ∈ s.suspects, x ∉ s.sole.marks)) ∧
    (∃ (d : Nat) (s : State), s.flag Reg.CBR_CTRL_EN = true ∧ s.pagePowered 0x069 = true ∧ s.doubles = [] ∧ (∀ x ∈ s.suspects, x ∈ s.sole.marks) ∧ s.suspects ≠ [] ∧ s.get Reg.CBR_LIMIT_LIMIT < s.suspects.length) ∧
    (∃ (d : Nat) (s : State), s.flag Reg.CBR_CTRL_EN = true ∧ s.pagePowered 0x069 = true ∧ s.doubles = [] ∧ (∀ x ∈ s.suspects, x ∈ s.sole.marks) ∧ s.suspects ≠ [] ∧ s.suspects.length ≤ s.get Reg.CBR_LIMIT_LIMIT) ∧
    (∃ (d : Nat) (c : Nat) (s : State), s.flag Reg.CBR_CTRL_EN = true ∧ s.pagePowered 0x069 = true ∧ s.doubles = [c] ∧ s.suspects = []) ∧
    (∃ (d : Nat) (s : State), (s.flag Reg.CBR_CTRL_EN = false ∨ s.pagePowered 0x069 = false)) ∧
    (∃ (d : Nat) (s : State), (s.flag Reg.CBR_CTRL_EN = false ∨ s.pagePowered 0x069 = false)) ∧
    (∃ (m : Master) (z : State) (s : State), s = z.sent m ∧ s.grants m 0x069) ∧
    (∃ (m : Master) (z : State) (s : State), s = z.sent m ∧ s.grants m 0x069) :=
  ⟨⟨70000, cells [(5, .shared)], by decide⟩,
   ⟨1, (cells [(1, .shared), (2, .shared)]).soleSet (fun x => { x with marks := [(2, 0), (1, 0)] }) |>.put Reg.CBR_LIMIT_LIMIT 1, by decide⟩,
   ⟨1, (cells [(1, .shared), (2, .shared)]).soleSet (fun x => { x with marks := [(2, 0), (1, 0)] }), by decide⟩,
   ⟨7, 131071, (withF (cells []) [{ out0 with cells := [131071] }]), by decide⟩,
   ⟨1, run.put Reg.CBR_CTRL_EN 0, by decide⟩,
   ⟨1, State.reset, by decide⟩,
   ⟨.host, run, _, rfl, by decide⟩,
   ⟨.sideband, (sb.put Reg.CBR_CTRL_EN 1).soleSet (fun x => { x with marks := [(2, 2)] }), _, rfl, by decide⟩⟩

theorem witness_LinksComeUpAndFail :
    (∃ (p : Fin 32) (r : Fin 8) (s : State), s.flag Reg.MAC_LINK_UP p.val = false ∧ s.mayLink p.val = true ∧ rateOk (s.portMode p.val) r.val = true) ∧
    (∃ (p : Fin 32) (r : Fin 8) (s : State), s.flag Reg.MAC_LINK_UP p.val = false ∧ s.mayLink p.val = true ∧ rateOk (s.portMode p.val) r.val = true) ∧
    (∃ (p : Fin 32) (r : Fin 8) (s : State), s.flag Reg.MAC_LINK_UP p.val = false ∧ s.mayLink p.val = true ∧ rateOk (s.portMode p.val) r.val = false) ∧
    (∃ (p : Fin 32) (r : Fin 8) (s : State), (s.flag Reg.MAC_LINK_UP p.val = true ∨ s.mayLink p.val = false)) ∧
    (∃ (p : Fin 32) (r : Fin 8) (s : State), (s.flag Reg.MAC_LINK_UP p.val = true ∨ s.mayLink p.val = false)) ∧
    (∃ (p : Fin 32) (w : LinkFail) (s : State), bit s.pwr.powered (macDomain p.val) = true ∧ s.portHeld p.val = false ∧ (s.portMode p.val ≠ 0 ∨ s.flag Reg.MAC_LINK_UP p.val = true)) ∧
    (∃ (p : Fin 32) (w : LinkFail) (s : State), (bit s.pwr.powered (macDomain p.val) = false ∨ s.portHeld p.val = true ∨ (s.portMode p.val = 0 ∧ s.flag Reg.MAC_LINK_UP p.val = false))) ∧
    (∃ (p : Fin 32) (r : Fin 8) (s : State), (s.portMode p.val = 3 ∨ s.portMode p.val = 6)) ∧
    (∃ (p : Fin 32) (r : Fin 8) (s : State), (s.portMode p.val = 3 ∨ s.portMode p.val = 6)) ∧
    (∃ (p : Fin 32) (r : Fin 8) (s : State), s.portMode p.val ≠ 3 ∧ s.portMode p.val ≠ 6) :=
  ⟨⟨23, 5, ready 23 6, by decide⟩,
   ⟨0, 7, ready 0 1, by decide⟩,
   ⟨7, 5, ready 7 3, by decide⟩,
   ⟨31, 0, run, by decide⟩,
   ⟨31, 0, linked run 31, by decide⟩,
   ⟨31, .localFault, linked (pmap 31 [7]) 31, by decide⟩,
   ⟨0, .blockLock, run, by decide⟩,
   ⟨0, 4, linked (ready 0 3) 0, by decide⟩,
   ⟨8, 6, linked (ready 8 6) 8, by decide⟩,
   ⟨0, 4, run, by decide⟩⟩

theorem witness_PortFaultsAndMdioTransactions :
    (∃ (l : Fin 24) (s : State), s.get Reg.CGU_STAT_SDSREF = 2) ∧
    (∃ (l : Fin 24) (s : State), s.get Reg.CGU_STAT_SDSREF ≠ 2) ∧
    (∃ (l : Fin 24) (s : State), 1 ≤ s.get Reg.SDS_TEST_PRBS_RX l.val ∧ s.get Reg.SDS_TEST_PRBS_RX l.val ≤ 4) ∧
    (∃ (l : Fin 24) (s : State), 1 ≤ s.get Reg.SDS_TEST_PRBS_RX l.val ∧ s.get Reg.SDS_TEST_PRBS_RX l.val ≤ 4) ∧
    (∃ (l : Fin 24) (s : State), (s.get Reg.SDS_TEST_PRBS_RX l.val = 0 ∨ 4 < s.get Reg.SDS_TEST_PRBS_RX l.val)) ∧
    (∃ (l : Fin 24) (s : State), (s.get Reg.SDS_TEST_PRBS_RX l.val = 0 ∨ 4 < s.get Reg.SDS_TEST_PRBS_RX l.val)) ∧
    (∃ (p : Fin 32) (k : Nat) (s : State), (s.clr.frames.filter (fun f => f.port == p.val && decide (0 < s.fifoOf f)))[k]? = none) ∧
    (∃ (p : Fin 32) (k : Nat) (f : Frame) (s : State), (s.clr.frames.filter (fun f => f.port == p.val && decide (0 < s.fifoOf f)))[k]? = some f) ∧
    (∃ (m : Master) (b : Fin 4) (c45 : Bool) (op : Fin 4) (phy : Fin 32) (reg : Fin 32) (d : Fin 65536) (z : State) (s : State), s = z.sent m ∧ s.grants m 0x0D0 ∧ s.flag Reg.MDIO_STAT_BUSY 0 b.val m.code = false ∧ (c45 = true ∨ op.val = 1 ∨ op.val = 2)) ∧
    (∃ (m : Master) (b : Fin 4) (c45 : Bool) (op : Fin 4) (phy : Fin 32) (reg : Fin 32) (d : Fin 65536) (z : State) (s : State), s = z.sent m ∧ s.grants m 0x0D0 ∧ s.flag Reg.MDIO_STAT_BUSY 0 b.val m.code = false ∧ (c45 = true ∨ op.val = 1 ∨ op.val = 2)) ∧
    (∃ (m : Master) (b : Fin 4) (c45 : Bool) (op : Fin 4) (phy : Fin 32) (reg : Fin 32) (d : Fin 65536) (z : State) (s : State), s = z.sent m ∧ s.grants m 0x0D0 ∧ s.flag Reg.MDIO_STAT_BUSY 0 b.val m.code = true) ∧
    (∃ (m : Master) (b : Fin 4) (op : Fin 4) (phy : Fin 32) (reg : Fin 32) (d : Fin 65536) (z : State) (s : State), s = z.sent m ∧ s.grants m 0x0D0 ∧ s.flag Reg.MDIO_STAT_BUSY 0 b.val m.code = false ∧ (op.val = 0 ∨ op.val = 3)) ∧
    (∃ (b : Fin 4) (d : Fin 65536) (r : MdioReq) (s : State), s.mdio.find? (fun r => r.bus == b.val) = some r ∧ r.master ≠ Master.firmware.code) ∧
    (∃ (b : Fin 4) (d : Fin 65536) (r : MdioReq) (s : State), s.mdio.find? (fun r => r.bus == b.val) = some r ∧ r.master = Master.firmware.code) ∧
    (∃ (b : Fin 4) (d : Fin 65536) (s : State), s.mdio.find? (fun r => r.bus == b.val) = none) :=
  ⟨⟨23, linked run 23, by decide⟩,
   ⟨23, run.put Reg.CGU_STAT_SDSREF 3, by decide⟩,
   ⟨23, run.put Reg.SDS_TEST_PRBS_RX 4 23, by decide⟩,
   ⟨0, run.put Reg.SDS_TEST_PRBS_RX 1 0, by decide⟩,
   ⟨0, run, by decide⟩,
   ⟨0, run.put Reg.SDS_TEST_PRBS_RX 5 0, by decide⟩,
   ⟨31, 0, run, by decide⟩,
   ⟨31, 0, { frm 0 31 [1, 2] with fifo := 128 }, withF run [{ frm 0 31 [1, 2] with fifo := 128 }], by decide⟩,
   ⟨.host, 3, false, 2, 31, 31, 65535, run, _, rfl, by decide⟩,
   ⟨.firmware, 0, true, 0, 0, 0, 0, run, _, rfl, by decide⟩,
   ⟨.sideband, 3, true, 3, 31, 31, 0, sb.put Reg.MDIO_STAT_BUSY 1 0 3 1, _, rfl, by decide⟩,
   ⟨.host, 3, 3, 4, 5, 0, run, _, rfl, by decide⟩,
   ⟨3, 65535, ⟨3, 1, true, 3, 4, 5, 0⟩, { run with mdio := [⟨0, 0, true, 1, 4, 5, 0⟩, ⟨3, 1, true, 3, 4, 5, 0⟩] }, by decide⟩,
   ⟨3, 65535, ⟨3, 2, true, 3, 4, 5, 0⟩, { run with mdio := [⟨0, 0, true, 1, 4, 5, 0⟩, ⟨3, 2, true, 3, 4, 5, 0⟩] }, by decide⟩,
   ⟨3, 0, run, by decide⟩⟩

theorem witness_FlushesCompleteAndConditionsEnd :
    (∃ (p : Fin 37) (s : State), s.flushDone p.val = true ∧ s.portState p.val = psFLUSHING) ∧
    (∃ (p : Fin 37) (s : State), s.flushDone p.val = true ∧ s.portState p.val = psHELD ∧ p.val < 32) ∧
    (∃ (p : Fin 37) (s : State), s.flushDone p.val = true ∧ s.portState p.val = psHELD ∧ 32 ≤ p.val) ∧
    (∃ (p : Fin 37) (s : State), (s.flushDone p.val = false ∨ (s.portState p.val ≠ psFLUSHING ∧ s.portState p.val ≠ psHELD))) ∧
    (∃ (p : Fin 37) (s : State), s.portState p.val ≠ psRETURNING) ∧
    (∃ (p : Fin 37) (s : State), s.portState p.val = psRETURNING ∧ p.val < 32) ∧
    (∃ (p : Fin 37) (s : State), s.portState p.val = psRETURNING ∧ 32 ≤ p.val) ∧
    (∃ (s : State), s.supplyLow = false) ∧
    (∃ (s : State), s.supplyLow = true) ∧
    (∃ (s : State), (∀ n ∈ s.slicesIn, (s.slice n).reported = true ∧ 500 ≤ s.get Reg.FAB_PACE_PACE n)) ∧
    (∃ (s : State) (n : Nat), n ∈ s.slicesIn ∧ ((s.slice n).reported = false ∨ s.get Reg.FAB_PACE_PACE n < 500)) ∧
    (∃ (p : Nat) (s : State), p < 32) :=
  ⟨⟨36, run.put Reg.SOL_PORT_STATE_STATE psFLUSHING 0 36, by decide⟩,
   ⟨31, run.put Reg.SOL_PORT_STATE_STATE psHELD 0 31, by decide⟩,
   ⟨36, run.put Reg.SOL_PORT_STATE_STATE psHELD 0 36, by decide⟩,
   ⟨36, withF run [out0] [cpy 1 0 36 295 0], by decide⟩,
   ⟨0, run, by decide⟩,
   ⟨31, run.put Reg.SOL_PORT_STATE_STATE psRETURNING 0 31, by decide⟩,
   ⟨32, run.put Reg.SOL_PORT_STATE_STATE psRETURNING 0 32, by decide⟩,
   ⟨run, by decide⟩,
   ⟨run.pwrSet (fun w => { w with low := 2 }), by decide⟩,
   ⟨(paced (slices run)).fabSet (fun f => { f with slices := (List.range 4).map (fun n => (n, { idleSlice with reported := true })) }), by decide⟩,
   ⟨paced (slices run), 3, by decide⟩,
   ⟨31, run.put Reg.MAC_CAUTIOUS_FAULT 1 31, by decide⟩⟩

theorem witness_PausesAreHonouredSentAndEnd :
    (∃ (p : Fin 32) (b : List Byte) (s : State), s.flag Reg.MAC_LINK_UP p.val = true ∧ macControl b = true ∧ s.fifoFill p.val + min (s.maxFrame p.val) 2048 ≤ fifoSize p.val ∧ b.length ≤ s.maxFrame p.val ∧ 64 ≤ b.length ∧ leNat (b.drop (b.length - 4)) = crc32Eth (b.take (b.length - 4)) ∧ beNat (sub b (ctlOff b + 2) 2) = 1 ∧ b.take 6 = pauseDA ∧ isTP p.val = false ∧ (s.macCnt p.val 5).rxPause p.val = true ∧ (s.macCnt p.val 5).flag Reg.MAC_PAUSE_STAT_IGNORING p.val = false) ∧
    (∃ (p : Fin 32) (b : List Byte) (s : State), s.flag Reg.MAC_LINK_UP p.val = true ∧ macControl b = true ∧ s.fifoFill p.val + min (s.maxFrame p.val) 2048 ≤ fifoSize p.val ∧ b.length ≤ s.maxFrame p.val ∧ 64 ≤ b.length ∧ leNat (b.drop (b.length - 4)) = crc32Eth (b.take (b.length - 4)) ∧ beNat (sub b (ctlOff b + 2) 2) = 0x101 ∧ b.take 6 = pauseDA ∧ isTP p.val = false ∧ (s.macCnt p.val 6).pfc p.val = true ∧ (s.macCnt p.val 6).flag Reg.MAC_PAUSE_STAT_IGNORING p.val = false) ∧
    (∃ (p : Fin 32) (b : List Byte) (s : State) (u : State), s.flag Reg.MAC_LINK_UP p.val = true ∧ macControl b = true ∧ s.fifoFill p.val + min (s.maxFrame p.val) 2048 ≤ fifoSize p.val ∧ b.length ≤ s.maxFrame p.val ∧ 64 ≤ b.length ∧ leNat (b.drop (b.length - 4)) = crc32Eth (b.take (b.length - 4)) ∧ (beNat (sub b (ctlOff b + 2) 2) = 1 ∨ beNat (sub b (ctlOff b + 2) 2) = 0x101) ∧ u = s.macCnt p.val (if beNat (sub b (ctlOff b + 2) 2) = 1 then 5 else 6) ∧ u.flag Reg.MAC_PAUSE_STAT_IGNORING p.val = true) ∧
    (∃ (p : Fin 32) (b : List Byte) (s : State), s.flag Reg.MAC_LINK_UP p.val = true ∧ macControl b = true ∧ s.fifoFill p.val + min (s.maxFrame p.val) 2048 ≤ fifoSize p.val ∧ b.length ≤ s.maxFrame p.val ∧ 64 ≤ b.length ∧ leNat (b.drop (b.length - 4)) = crc32Eth (b.take (b.length - 4)) ∧ beNat (sub b (ctlOff b + 2) 2) ≠ 1 ∧ beNat (sub b (ctlOff b + 2) 2) ≠ 0x101) ∧
    (∃ (p : Fin 32) (s : State) (at_ : Nat), (s.mac p.val).heldAt = some at_ ∧ isTP p.val = false) ∧
    (∃ (p : Fin 32) (s : State), (s.mac p.val).heldAt = none) ∧
    (∃ (p : Fin 32) (s : State), s.txPause p.val = true ∧ s.flag Reg.MAC_LINK_UP p.val = true ∧ (s.mac p.val).xoff = false ∧ s.xoff p.val * fifoSize p.val ≤ 16 * s.fifoFill p.val) ∧
    (∃ (p : Fin 32) (s : State), s.txPause p.val = true ∧ s.flag Reg.MAC_LINK_UP p.val = true ∧ (s.mac p.val).xoff = true ∧ 16 * s.fifoFill p.val < s.xon p.val * fifoSize p.val) ∧
    (∃ (p : Fin 32) (s : State), (s.txPause p.val = false ∨ s.flag Reg.MAC_LINK_UP p.val = false)) ∧
    (∃ (p : Fin 32) (s : State), (s.txPause p.val = false ∨ s.flag Reg.MAC_LINK_UP p.val = false)) ∧
    (∃ (p : Fin 32) (s : State), ((s.mac p.val).xoff = false ∧ 16 * s.fifoFill p.val < s.xoff p.val * fifoSize p.val) ∨ ((s.mac p.val).xoff = true ∧ s.xon p.val * fifoSize p.val ≤ 16 * s.fifoFill p.val)) ∧
    (∃ (p : Fin 32) (s : State), s.txPause p.val = true ∧ (s.mac p.val).xoff = true ∧ s.xon p.val * fifoSize p.val ≤ 16 * s.fifoFill p.val ∧ s.flag Reg.MAC_LINK_UP p.val = true) ∧
    (∃ (p : Fin 32) (s : State), (s.txPause p.val = false ∨ (s.mac p.val).xoff = false ∨ s.flag Reg.MAC_LINK_UP p.val = false)) :=
  ⟨⟨23, pauseB 1, linked (pmap 23 [2, 1]) 23, by decide⟩,
   ⟨23, ctlB [1, 1], linked (pmap 23 [2, 4]) 23, by decide⟩,
   ⟨23, pauseB 1, (linked (pmap 23 [2, 1]) 23).put Reg.MAC_PAUSE_STAT_IGNORING 1 23, _, by decide, by decide, by decide, by decide, by decide, by decide, by decide, rfl, by decide⟩,
   ⟨31, pauseB 2, linked run 31, by decide⟩,
   ⟨23, run.macSet 23 { noMac with heldAt := some 0 }, 0, by decide⟩,
   ⟨31, run, by decide⟩,
   ⟨23, withF (linked (pmap 23 [2, 2]) 23) [{ frm 0 23 [] with fifo := 12288 }], by decide⟩,
   ⟨23, (linked (pmap 23 (2 :: 2 :: List.replicate 12 0 ++ [0x8C])) 23).macSet 23 { noMac with xoff := true }, by decide⟩,
   ⟨31, linked run 31, by decide⟩,
   ⟨0, pmap 0 [2, 2], by decide⟩,
   ⟨0, (pmap 0 (2 :: 2 :: List.replicate 12 0 ++ [0x8C])), by decide⟩,
   ⟨0, withF ((linked (pmap 0 [2, 2]) 0).macSet 0 { noMac with xoff := true }) [{ frm 0 0 [] with fifo := 32768 }], by decide⟩,
   ⟨0, run, by decide⟩⟩

theorem witness_T1sPortsFollowTheirRequests :
    (∃ (m : Master) (t : Fin 8) (st : Fin 4) (z : State) (s : State), s = z.sent m ∧ s.grants m (0x108 + t.val)) ∧
    (∃ (t : Fin 8) (s : State), s.pllRuns = true ∧ bit s.pwr.powered 15 = true ∧ s.pageHeld (0x108 + t.val) = false) ∧
    (∃ (t : Fin 8) (s : State), s.follower (24 + t.val) = true ∧ s.pllRuns = true ∧ s.flag Reg.T1S_STAT_PLCA_ACTIVE t.val = true) ∧
    (∃ (t : Fin 8) (s : State), s.pllRuns = true ∧ s.get Reg.T1S_STAT_STATE t.val < 2 ∧ (s.inc Reg.T1S_BEACONS_COUNT 1 t.val).follower (24 + t.val) = true ∧ (s.inc Reg.T1S_BEACONS_COUNT 1 t.val).flag Reg.T1S_STAT_PLCA_ACTIVE t.val = false) ∧
    (∃ (t : Fin 8) (s : State) (c : Copy), s.pllRuns = true ∧ s.clr.copies.find? (fun c => c.port == 24 + t.val && c.st == .sending) = some c ∧ (s.mac (24 + t.val)).attempts < 15) ∧
    (∃ (t : Fin 8) (s : State) (c : Copy), s.pllRuns = true ∧ s.clr.copies.find? (fun c => c.port == 24 + t.val && c.st == .sending) = some c ∧ 15 ≤ (s.mac (24 + t.val)).attempts) ∧
    (∃ (t : Fin 8) (s : State), s.pllRuns = false) ∧
    (∃ (m : Master) (t : Fin 8) (z : State) (s : State), s = z.sent m ∧ s.grants m (0x108 + t.val) ∧ s.get Reg.T1S_STAT_STATE t.val = 2) ∧
    (∃ (m : Master) (t : Fin 8) (z : State) (s : State), s = z.sent m ∧ s.grants m (0x108 + t.val) ∧ s.get Reg.T1S_STAT_STATE t.val ≠ 2) ∧
    (∃ (t : Fin 8) (r : Fin 8) (s : State), s.get Reg.T1S_STAT_CABLE t.val = 1) ∧
    (∃ (m : Master) (p : Fin 32) (l : Nat) (z : State) (s : State), s = z.sent m ∧ s.grants m (0x0D0 + p.val)) ∧
    (∃ (m : Master) (p : Fin 32) (l : Nat) (tx : Nat) (rx : Nat) (z : State) (s : State), s = z.sent m ∧ s.grants m (0x0F0 + p.val) ∧ p.val < 24) :=
  ⟨⟨.host, 7, 3, run, _, rfl, by decide⟩,
   ⟨7, run.put Reg.T1S_CTRL_REQ 2 7, by decide⟩,
   ⟨7, (plca 7).put Reg.T1S_STAT_PLCA_ACTIVE 1 7, by decide⟩,
   ⟨7, plca 7, by decide⟩,
   ⟨7, withF (run.macSet 31 { noMac with attempts := 14 }) [out0] [{ cpy 1 0 31 248 0 with st := .sending }], { cpy 1 0 31 248 0 with st := .sending }, by decide⟩,
   ⟨0, withF (run.macSet 24 { noMac with attempts := 15 }) [out0] [{ cpy 1 0 24 192 0 with st := .sending }], { cpy 1 0 24 192 0 with st := .sending }, by decide⟩,
   ⟨7, run.put Reg.CGU_STAT_XTAL 1, by decide⟩,
   ⟨.host, 7, run.put Reg.T1S_STAT_STATE 2 7, _, rfl, by decide⟩,
   ⟨.host, 7, run.put Reg.T1S_STAT_STATE 3 7, _, rfl, by decide⟩,
   ⟨7, 5, run.put Reg.T1S_STAT_CABLE 1 7, by decide⟩,
   ⟨.host, 31, 3, run, _, rfl, by decide⟩,
   ⟨.host, 23, 2, 4, 4, run, _, rfl, by decide⟩⟩

theorem witness_CanFramesAreReceived :
    (∃ (c : Fin 64) (w : CanWire) (ago : Nat) (s : State) (v : State) (u : State), (s.get Reg.CAN_STAT_STATE c.val = csRESTRICTED ∨ s.canLive c.val = true) ∧ s.canTakes c.val w.fmt = true ∧ v = (if s.get Reg.CAN_STAT_STATE c.val = csRESTRICTED then s else (s.recDown c.val).canConfine c.val) ∧ u = (v.validTraffic (v.clusterOfCan c.val)).kaSeen (.can c.val w.id w.ide) ∧ (u.can c.val).rx.length < 64 ∧ (u.can c.val).rxBytes + (if w.rtr then 0 else w.data.length) ≤ 16384) ∧
    (∃ (c : Fin 64) (w : CanWire) (ago : Nat) (s : State) (v : State) (u : State), (s.get Reg.CAN_STAT_STATE c.val = csRESTRICTED ∨ s.canLive c.val = true) ∧ s.canTakes c.val w.fmt = true ∧ v = (if s.get Reg.CAN_STAT_STATE c.val = csRESTRICTED then s else (s.recDown c.val).canConfine c.val) ∧ u = (v.validTraffic (v.clusterOfCan c.val)).kaSeen (.can c.val w.id w.ide) ∧ (u.can c.val).rx.length < 64 ∧ (u.can c.val).rxBytes + (if w.rtr then 0 else w.data.length) ≤ 16384) ∧
    (∃ (c : Fin 64) (w : CanWire) (ago : Nat) (s : State) (v : State) (u : State), (s.get Reg.CAN_STAT_STATE c.val = csRESTRICTED ∨ s.canLive c.val = true) ∧ s.canTakes c.val w.fmt = true ∧ v = (if s.get Reg.CAN_STAT_STATE c.val = csRESTRICTED then s else (s.recDown c.val).canConfine c.val) ∧ u = (v.validTraffic (v.clusterOfCan c.val)).kaSeen (.can c.val w.id w.ide) ∧ (64 ≤ (u.can c.val).rx.length ∨ 16384 < (u.can c.val).rxBytes + (if w.rtr then 0 else w.data.length))) ∧
    (∃ (c : Fin 64) (w : CanWire) (ago : Nat) (s : State) (v : State) (u : State), (s.get Reg.CAN_STAT_STATE c.val = csRESTRICTED ∨ s.canLive c.val = true) ∧ s.canTakes c.val w.fmt = true ∧ v = (if s.get Reg.CAN_STAT_STATE c.val = csRESTRICTED then s else (s.recDown c.val).canConfine c.val) ∧ u = (v.validTraffic (v.clusterOfCan c.val)).kaSeen (.can c.val w.id w.ide) ∧ (64 ≤ (u.can c.val).rx.length ∨ 16384 < (u.can c.val).rxBytes + (if w.rtr then 0 else w.data.length))) ∧
    (∃ (c : Fin 64) (s : State), s.get Reg.CAN_STAT_REC c.val ≤ 127) ∧
    (∃ (c : Fin 64) (s : State), 127 < s.get Reg.CAN_STAT_REC c.val) ∧
    (∃ (c : Fin 64) (s : State), s.canLive c.val = true) ∧
    (∃ (c : Fin 64) (s : State), s.canLive c.val = true) ∧
    (∃ (c : Fin 64) (w : CanWire) (ago : Nat) (s : State), (s.get Reg.CAN_STAT_STATE c.val = csOFF ∨ s.get Reg.CAN_STAT_STATE c.val = csBUSOFF)) ∧
    (∃ (c : Fin 64) (w : CanWire) (ago : Nat) (s : State), (s.get Reg.CAN_STAT_STATE c.val = csOFF ∨ s.get Reg.CAN_STAT_STATE c.val = csBUSOFF)) ∧
    (∃ (c : Fin 64) (w : CanWire) (ago : Nat) (s : State), s.canLive c.val = true ∧ s.canTakes c.val w.fmt = false) ∧
    (∃ (c : Fin 64) (w : CanWire) (ago : Nat) (s : State), s.get Reg.CAN_STAT_STATE c.val = csRESTRICTED ∧ s.canTakes c.val w.fmt = false) :=
  ⟨⟨63, { wire0 with fmt := .classic, data := [1] }, 0, canIn 63 csRESTRICTED, _, _, by decide, by decide, rfl, rfl, by decide⟩,
   ⟨63, { wire0 with fmt := .classic, data := [1] }, 0, canIn 63 csPASSIVE, _, _, by decide, by decide, rfl, rfl, by decide⟩,
   ⟨0, { wire0 with fmt := .classic, data := [1] }, 0, canFull, _, _, by decide, by decide, rfl, rfl, by decide⟩,
   ⟨0, { wire0 with fmt := .classic, data := [1] }, 0, canIn 0 csACTIVE |>.canSet 0 { noCan with rx := List.replicate 9 { msg0 with data := List.replicate 1821 0 } }, _, _, by decide, by decide, rfl, rfl, by decide⟩,
   ⟨63, (canIn 63 csACTIVE).put Reg.CAN_STAT_REC 127 63, by decide⟩,
   ⟨63, (canIn 63 csACTIVE).put Reg.CAN_STAT_REC 128 63, by decide⟩,
   ⟨63, (canIn 63 csPASSIVE).put Reg.CAN_STAT_REC 127 63, by decide⟩,
   ⟨63, (canIn 63 csACTIVE).put Reg.CAN_STAT_REC 128 63, by decide⟩,
   ⟨63, wire0, 5, canIn 63 csOFF, by decide⟩,
   ⟨63, wire0, 5, canIn 63 csBUSOFF, by decide⟩,
   ⟨63, wire0, 5, canIn 63 csACTIVE, by decide⟩,
   ⟨63, wire0, 5, canIn 63 csRESTRICTED, by decide⟩⟩

theorem witness_CanChannelsSendRecoverAndSlot :
    (∃ (c : Fin 64) (s : State) (u : State), s.canLive c.val = true ∧ (s.can c.val).sending = .idle ∧ u = (s.canConfine c.val).ageBuffers c.val ∧ (u.can c.val).ka.isSome = true) ∧
    (∃ (c : Fin 64) (s : State), (s.canLive c.val = false ∨ (s.can c.val).sending ≠ .idle)) ∧
    (∃ (c : Fin 64) (s : State), (s.canLive c.val = false ∨ (s.can c.val).sending ≠ .idle)) ∧
    (∃ (c : Fin 64) (s : State), (s.can c.val).sending ≠ .idle) ∧
    (∃ (c : Fin 64) (s : State), (s.can c.val).sending ≠ .idle) ∧
    (∃ (c : Fin 64) (s : State), s.canLive c.val = true ∧ (s.can c.val).due = false) ∧
    (∃ (c : Fin 64) (s : State), (s.can c.val).waiting = true ∧ s.get Reg.CAN_STAT_STATE c.val = 4) ∧
    (∃ (m : Master) (c : Fin 64) (z : State) (s : State), s = z.sent m ∧ s.grants m (0x120 + c.val) ∧ s.get Reg.CAN_STAT_STATE c.val = 4) ∧
    (∃ (m : Master) (c : Fin 64) (z : State) (s : State), s = z.sent m ∧ s.grants m (0x120 + c.val) ∧ s.get Reg.CAN_STAT_STATE c.val ≠ 4) ∧
    (∃ (c : Fin 64) (s : State), (s.can c.val).recovering = true ∧ s.get Reg.CAN_STAT_STATE c.val = 4) ∧
    (∃ (c : Fin 64) (n : Fin 256) (m : Msg) (s : State), s.slotRuns c.val n.val = true ∧ AMap.find (s.can c.val).slots n.val = some m ∧ s.now - m.at_ ≤ (s.refLace c.val).oper.cycle) ∧
    (∃ (c : Fin 64) (n : Fin 256) (m : Msg) (s : State), s.slotRuns c.val n.val = true ∧ AMap.find (s.can c.val).slots n.val = some m ∧ (s.refLace c.val).oper.cycle < s.now - m.at_) ∧
    (∃ (c : Fin 64) (n : Fin 256) (s : State), (s.slotRuns c.val n.val = false ∨ AMap.find (s.can c.val).slots n.val = none)) ∧
    (∃ (c : Fin 64) (n : Fin 256) (s : State), (s.slotRuns c.val n.val = false ∨ AMap.find (s.can c.val).slots n.val = none)) ∧
    (∃ (c : Fin 64) (n : Fin 256) (s : State), (s.can c.val).windows.contains n.val = true) ∧
    (∃ (c : Fin 64) (n : Fin 256) (s : State), (s.can c.val).windows.contains n.val = true) ∧
    (∃ (c : Fin 64) (n : Fin 256) (s : State), (s.can c.val).windows.contains n.val = false) :=
  ⟨⟨63, (canIn 63 csPASSIVE).canSet 63 { noCan with ka := some msg0 }, (((canIn 63 csPASSIVE).canSet 63 { noCan with ka := some msg0 }).canConfine 63).ageBuffers 63, by decide⟩,
   ⟨63, canIn 63 csOFF, by decide⟩,
   ⟨63, (canIn 63 csACTIVE).canSet 63 { noCan with sending := .keepAlive }, by decide⟩,
   ⟨63, (canIn 63 csACTIVE).canSet 63 { noCan with sending := .keepAlive }, by decide⟩,
   ⟨0, (canIn 0 csACTIVE).canSet 0 { noCan with sending := .buffer, tx := [{ msg0 with bus := 0 }] }, by decide⟩,
   ⟨63, canIn 63 csINTEGRATING, by decide⟩,
   ⟨63, (canIn 63 4).canSet 63 { noCan with waiting := true }, by decide⟩,
   ⟨.host, 63, canIn 63 4, _, rfl, by decide⟩,
   ⟨.host, 63, canIn 63 5, _, rfl, by decide⟩,
   ⟨63, (canIn 63 4).canSet 63 { noCan with recovering := true }, by decide⟩,
   ⟨63, 255, { msg0 with at_ := 8999999000 }, (late (canSlots 63 255)).canSet 63 { noCan with slots := [(255, { msg0 with at_ := 8999999000 })] }, by decide⟩,
   ⟨63, 255, { msg0 with at_ := 8999998999 }, (late (canSlots 63 255)).canSet 63 { noCan with slots := [(255, { msg0 with at_ := 8999998999 })] }, by decide⟩,
   ⟨63, 255, canSlots 63 255, by decide⟩,
   ⟨63, 0, run, by decide⟩,
   ⟨63, 255, run.canSet 63 { noCan with windows := [0, 255], slots := [(255, msg0)] }, by decide⟩,
   ⟨63, 255, run.canSet 63 { noCan with windows := [255] }, by decide⟩,
   ⟨63, 255, run, by decide⟩⟩

theorem witness_LinChannelsScheduleAndWake :
    (∃ (l : Fin 16) (k : Fin 64) (r : Nat) (b : Bool) (s : State), s.linRuns l.val = true ∧ s.linCommander l.val = false ∧ (14 * s.linRate l.val < 100 * (r - s.linRate l.val) ∨ 14 * s.linRate l.val < 100 * (s.linRate l.val - r))) ∧
    (∃ (l : Fin 16) (k : Fin 64) (r : Nat) (b : Bool) (s : State), s.linRuns l.val = true ∧ s.linCommander l.val = false ∧ (14 * s.linRate l.val < 100 * (r - s.linRate l.val) ∨ 14 * s.linRate l.val < 100 * (s.linRate l.val - r))) ∧
    (∃ (l : Fin 16) (k : Fin 64) (r : Nat) (b : Bool) (s : State) (u : State), s.linRuns l.val = true ∧ s.linCommander l.val = false ∧ 100 * (r - s.linRate l.val) ≤ 14 * s.linRate l.val ∧ 100 * (s.linRate l.val - r) ≤ 14 * s.linRate l.val ∧ u = ((s.put Reg.LIN_STAT_RATE r l.val).linSet l.val { (s.put Reg.LIN_STAT_RATE r l.val).lin l.val with wakes := 0, expect := none, event := none }) ∧ ((u.validTraffic (u.clusterOfLin l.val)).kaSeen (.linHeader l.val)).linPub l.val k.val = false) ∧
    (∃ (l : Fin 16) (d : List Byte) (k : Nat) (s : State) (u : State), (s.lin l.val).expect = some k ∧ u = s.linSet l.val { s.lin l.val with expect := none, event := none } ∧ d.length = u.linLen l.val k) ∧
    (∃ (l : Fin 16) (k : Nat) (s : State) (u : State), (s.lin l.val).expect = some k ∧ u = s.linSet l.val { s.lin l.val with expect := none, event := none }) ∧
    (∃ (l : Fin 16) (e : LinEnd) (s : State), (s.lin l.val).expect = none) ∧
    (∃ (m : Master) (l : Fin 16) (t : Fin 8) (z : State) (s : State), s = z.sent m ∧ s.grants m (0x160 + l.val) ∧ s.get Reg.LIN_CTRL_TABLE l.val ≠ t.val) ∧
    (∃ (l : Fin 16) (b : Bool) (s : State), (s.linRuns l.val = false ∨ s.linCommander l.val = false)) ∧
    (∃ (l : Fin 16) (b : Bool) (s : State), (s.linRuns l.val = false ∨ s.linCommander l.val = false)) ∧
    (∃ (l : Fin 16) (s : State) (v : State) (w : State) (n : (Nat × Nat) × List (Nat × Nat)), s.linRuns l.val = true ∧ s.linCommander l.val = true ∧ (s.lin l.val).req = none ∧ (s.lin l.val).expect = none ∧ n = s.linNext l.val ∧ n.1.2 ≠ 0 ∧ (s.linEntry l.val n.1.1 n.1.2).2.1 = 0 ∧ (s.linEntry l.val n.1.1 n.1.2).2.2.2 ≠ 0 ∧ v = ((s.put Reg.LIN_STAT_TABLE n.1.1 l.val).put Reg.LIN_STAT_ENTRY n.1.2 l.val).linSet l.val { s.lin l.val with next := n.1.2 + 1, back := n.2, wakes := 0 } ∧ v.linPub l.val (s.linEntry l.val n.1.1 n.1.2).1 = false ∧ w = v.validTraffic (v.clusterOfLin l.val)) ∧
    (∃ (m : Master) (l : Fin 16) (z : State) (s : State), s = z.sent m ∧ s.grants m (0x160 + l.val) ∧ s.get Reg.LIN_STAT_STATE l.val ≠ 0) ∧
    (∃ (m : Master) (l : Fin 16) (z : State) (s : State), s = z.sent m ∧ s.grants m (0x160 + l.val) ∧ s.get Reg.LIN_STAT_STATE l.val = 0) ∧
    (∃ (l : Fin 16) (s : State), 1 ≤ (s.lin l.val).wakes ∧ (s.lin l.val).wakes < 3) ∧
    (∃ (l : Fin 16) (s : State), ((s.lin l.val).wakes = 0 ∨ 3 ≤ (s.lin l.val).wakes)) ∧
    (∃ (l : Fin 16) (s : State), ((s.lin l.val).wakes = 0 ∨ 3 ≤ (s.lin l.val).wakes)) ∧
    (∃ (l : Fin 16) (s : State), s.linRuns l.val = true) ∧
    (∃ (l : Fin 16) (s : State), s.linRuns l.val = false) :=
  ⟨⟨15, 63, 21889, false, linIn 15 [0, 0, 0, 75], by decide⟩,
   ⟨15, 63, 16511, false, linIn 15 [0, 0, 0, 75], by decide⟩,
   ⟨15, 63, 21888, false, linIn 15 [0, 0, 0, 75], (((linIn 15 [0, 0, 0, 75]).put Reg.LIN_STAT_RATE 21888 15).linSet 15 { ((linIn 15 [0, 0, 0, 75]).put Reg.LIN_STAT_RATE 21888 15).lin 15 with wakes := 0, expect := none, event := none }), by decide⟩,
   ⟨15, [1, 2], 63, (linIds (linIn 15 [1]) 15 63 2).linSet 15 { noLin with expect := some 63 }, ((linIds (linIn 15 [1]) 15 63 2).linSet 15 { noLin with expect := some 63 }).linSet 15 { ((linIds (linIn 15 [1]) 15 63 2).linSet 15 { noLin with expect := some 63 }).lin 15 with expect := none, event := none }, by decide⟩,
   ⟨15, 63, run.linSet 15 { noLin with expect := some 63 }, (run.linSet 15 { noLin with expect := some 63 }).linSet 15 { (run.linSet 15 { noLin with expect := some 63 }).lin 15 with expect := none, event := none }, by decide⟩,
   ⟨15, .collision, run, by decide⟩,
   ⟨.host, 15, 7, run, _, rfl, by decide⟩,
   ⟨15, true, run, by decide⟩,
   ⟨15, false, linIn 15 [0], by decide⟩,
   ⟨15, lin15, _, _, ((7, 63), []), by decide, by decide, by decide, by decide, by decide, by decide, by decide, by decide, rfl, by decide, rfl⟩,
   ⟨.host, 15, linIn 15 [1], _, rfl, by decide⟩,
   ⟨.host, 15, run, _, rfl, by decide⟩,
   ⟨15, run.linSet 15 { noLin with wakes := 2 }, by decide⟩,
   ⟨15, run.linSet 15 { noLin with wakes := 3 }, by decide⟩,
   ⟨15, run, by decide⟩,
   ⟨15, linIn 15 [0], by decide⟩,
   ⟨15, run, by decide⟩⟩

theorem witness_EnginesTakeTheirMessages :
    (∃ (e : Fin 16) (s : State) (v : State) (u : State) (m : Msg), s.awlRuns e.val = true ∧ s.takeTurn e.val = some (.msg m, v) ∧ u = v.incWrap Reg.AWL_MSGS_FULL 1 e.val) ∧
    (∃ (e : Fin 16) (s : State) (v : State) (u : State) (f : ApFrame), s.awlRuns e.val = true ∧ s.takeTurn e.val = some (.eth f, v) ∧ u = v.incWrap Reg.AWL_MSGS_FULL 1 e.val) ∧
    (∃ (e : Fin 16) (s : State), (s.awlRuns e.val = false ∨ s.takeTurn e.val = none)) ∧
    (∃ (e : Fin 16) (s : State), (s.awlRuns e.val = false ∨ s.takeTurn e.val = none)) ∧
    (∃ (a : Fin 4) (z : State) (s : State) (c : Copy) (f : Frame), s = z.fabNow ∧ s.clr.copies.find? (fun c => c.port == 33 + a.val && c.st == .sending) = some c ∧ s.frame c.frame = some f ∧ f.whole = true ∧ s.readsWait c.id = 0 ∧ (s.apQueue (f.route.getD 0 / 1024)).length < 256) ∧
    (∃ (a : Fin 4) (z : State) (s : State) (c : Copy) (f : Frame), s = z.fabNow ∧ s.clr.copies.find? (fun c => c.port == 33 + a.val && c.st == .sending) = some c ∧ s.frame c.frame = some f ∧ f.whole = true ∧ s.readsWait c.id = 0 ∧ 256 ≤ (s.apQueue (f.route.getD 0 / 1024)).length) ∧
    (∃ (a : Fin 4) (z : State) (s : State) (c : Copy) (f : Frame), s = z.fabNow ∧ s.clr.copies.find? (fun c => c.port == 33 + a.val && c.st == .sending) = some c ∧ s.frame c.frame = some f ∧ (f.whole = false ∨ s.readsWait c.id ≠ 0)) ∧
    (∃ (k : Fin 512) (s : State), (s.stream k.val).msgs = []) ∧
    (∃ (k : Fin 512) (s : State) (m : Msg) (r : List Msg) (b : List Byte), (s.stream k.val).msgs = m :: r ∧ (s.draw 65536).2.streamFrame k.val ((m :: r).map (fun x => (x.sdt, x))) (s.draw 65536).1 = some b) ∧
    (∃ (e : Fin 16) (s : State) (v : State) (u : State) (x : AwlIn), s.awlRuns e.val = true ∧ s.takeTurn e.val = some (x, v) ∧ u = (v.inc Reg.AWL_OVERLOAD_COUNT 1 e.val).raise Reg.AWL_IRQ_OVERLOAD e.val) :=
  ⟨⟨15, run.canSet 63 { noCan with rx := [msg0] }, (run.canSet 63 noCan).awlSet (fun a => { a with turn := [(15, 4)] }), ((run.canSet 63 noCan).awlSet (fun a => { a with turn := [(15, 4)] })).incWrap Reg.AWL_MSGS_FULL 1 15, msg0, by decide +kernel⟩,
   ⟨15, run.apQueueSet 15 [apFrame0], ((run.apQueueSet 15 []).awlSet (fun a => { a with turn := AMap.set cellDflt a.turn 15 0 })), ((run.apQueueSet 15 []).awlSet (fun a => { a with turn := AMap.set cellDflt a.turn 15 0 })).incWrap Reg.AWL_MSGS_FULL 1 15, apFrame0, by decide +kernel⟩,
   ⟨15, run, by decide⟩,
   ⟨15, up, by decide⟩,
   ⟨3, withF run [toAp] [{ cpy 1 0 36 295 0 with st := .sending }], _, { cpy 1 0 36 295 0 with st := .sending }, toAp, rfl, by decide⟩,
   ⟨0, apFull, _, { cpy 1 0 33 264 0 with st := .sending }, toAp, rfl, by decide⟩,
   ⟨3, withF run [{ toAp with whole := false }] [{ cpy 1 0 36 295 0 with st := .sending }], _, { cpy 1 0 36 295 0 with st := .sending }, { toAp with whole := false }, rfl, by decide⟩,
   ⟨511, run, by decide⟩,
   ⟨511, stream511, { msg0 with sdt := 3 }, [], ((stream511.draw 65536).2.streamFrame 511 [(3, { msg0 with sdt := 3 })] 0).getD [], by decide⟩,
   ⟨15, run.canSet 63 { noCan with rx := [msg0] }, (run.canSet 63 noCan).awlSet (fun a => { a with turn := [(15, 4)] }), ((((run.canSet 63 noCan).awlSet (fun a => { a with turn := [(15, 4)] })).inc Reg.AWL_OVERLOAD_COUNT 1 15).raise Reg.AWL_IRQ_OVERLOAD 15), .msg msg0, by decide +kernel⟩⟩

theorem witness_ToecapStartsAndLoadsKeys :
    (∃ (s : State), s.tcaLives = true ∧ s.get Reg.TCA_STAT_STATE = 0 ∧ bit s.pwr.tested 18 = true ∧ s.get Reg.CGU_STAT_SDSREF = 2 ∧ s.tca.locked = false) ∧
    (∃ (s : State), s.tcaLives = true ∧ s.get Reg.TCA_STAT_STATE = 0 ∧ bit s.pwr.tested 18 = true ∧ s.get Reg.CGU_STAT_SDSREF = 2 ∧ s.tca.locked = true) ∧
    (∃ (s : State), s.get Reg.TCA_STAT_STATE = 1) ∧
    (∃ (m : Master) (k : Fin 2048) (cl : Fin 4) (l : Bool) (p : Bool) (w : Fin 16) (z : State) (s : State), s = z.sent m ∧ s.grants m pgTKM ∧ s.flag Reg.TKM_LD_STAT_BUSY = false) ∧
    (∃ (m : Master) (k : Fin 2048) (cl : Fin 4) (l : Bool) (p : Bool) (w : Fin 16) (z : State) (s : State), s = z.sent m ∧ s.grants m pgTKM ∧ s.flag Reg.TKM_LD_STAT_BUSY = true) ∧
    (∃ (m : Master) (k : Fin 2048) (cl : Fin 4) (z : State) (s : State), s = z.sent m ∧ s.grants m pgTKM ∧ s.flag Reg.TKM_LD_STAT_BUSY = false) ∧
    (∃ (s : State), s.tca.op ≠ 0) ∧
    (∃ (s : State), s.tca.op ≠ 0) ∧
    (∃ (s : State), s.tca.op ≠ 0) ∧
    (∃ (s : State), s.tca.op = 0) ∧
    (∃ (m : Master) (z : State) (s : State), s = z.sent m ∧ s.grants m pgTKM) :=
  ⟨⟨clocked run, by decide⟩,
   ⟨(clocked run).tcaSet (fun t => { t with locked := true }), by decide⟩,
   ⟨run.put Reg.TCA_STAT_STATE 1, by decide⟩,
   ⟨.host, 2047, 3, true, true, 15, run, _, rfl, by decide⟩,
   ⟨.host, 0, 0, false, false, 0, run.put Reg.TKM_LD_STAT_BUSY 1, _, rfl, by decide⟩,
   ⟨.host, 2047, 3, run, _, rfl, by decide⟩,
   ⟨((run.put Reg.TCA_STAT_STATE 2).put Reg.TKM_LD_CTRL_PLAIN 1).tcaSet (fun t => { t with op := 1 }), by decide⟩,
   ⟨(run.put Reg.TCA_STAT_STATE 2).tcaSet (fun t => { t with op := 2 }), by decide⟩,
   ⟨run.tcaSet (fun t => { t with op := 1 }), by decide⟩,
   ⟨run, by decide⟩,
   ⟨.host, run, _, rfl, by decide⟩⟩

theorem witness_AlarmsEraseTheKeysAndLock :
    (∃ (c : Fin 64) (s : State) (u : State), bit s.pwr.powered 18 = true ∧ c.val ≠ 0 ∧ u = (if s.tcaReady = true then s.cryptoLost else s)) ∧
    (∃ (c : Fin 64) (s : State), (bit s.pwr.powered 18 = false ∨ c.val = 0)) ∧
    (∃ (c : Fin 64) (s : State), (bit s.pwr.powered 18 = false ∨ c.val = 0)) :=
  ⟨⟨63, run.tcaSet (fun t => { t with keys := [(1, ⟨true, true, []⟩)], kept := [(1, ⟨true, true, []⟩)] }), _, by decide, by decide, rfl⟩,
   ⟨0, run, by decide⟩,
   ⟨63, State.reset, by decide⟩⟩

theorem witness_ToecapReadsAndFreshness :
    (∃ (m : Master) (s : State) (k : Nat) (w : Nat) (r : List (Nat × Nat)), s.serves m pgTCA ∧ s.tca.evt = (k, w) :: r) ∧
    (∃ (m : Master) (s : State), s.serves m pgTCA ∧ s.tca.evt = []) ∧
    (∃ (m : Master) (z : State) (s : State), s = z.sent m ∧ s.serves m pgTKM) ∧
    (∃ (m : Master) (z : State) (s : State), s = z.sent m ∧ s.grants m pgTKM ∧ s.flag Reg.TKM_CTRL_LOCK = true ∧ s.get Reg.TKM_FV_LO_FV 0 0 m.code + s.get Reg.TKM_FV_HI_FV 0 0 m.code * 2 ^ 32 < s.fv (s.get Reg.TKM_FV_IDX_INDEX 0 0 m.code)) ∧
    (∃ (m : Master) (z : State) (s : State) (n : Nat) (v : Nat), s = z.sent m ∧ s.grants m pgTKM ∧ n = s.get Reg.TKM_FV_IDX_INDEX 0 0 m.code ∧ v = s.get Reg.TKM_FV_LO_FV 0 0 m.code + s.get Reg.TKM_FV_HI_FV 0 0 m.code * 2 ^ 32 ∧ (s.flag Reg.TKM_CTRL_LOCK = false ∨ s.fv n ≤ v)) ∧
    (∃ (m : Master) (p : Fin 32) (z : State) (s : State), s = z.sent m ∧ s.serves m pgTCA ∧ p.val < 24) ∧
    (∃ (m : Master) (p : Fin 32) (z : State) (s : State), s = z.sent m ∧ s.grants m pgTCA ∧ p.val < 24) ∧
    (∃ (m : Master) (p : Fin 32) (z : State) (s : State), s = z.sent m ∧ s.grants m pgTCA ∧ 24 ≤ p.val) ∧
    (∃ (m : Master) (k : Fin 2048) (z : State) (s : State), s = z.sent m ∧ s.serves m pgTKM) :=
  ⟨⟨.host, run.tcaSet (fun t => { t with evt := [(2047, 7), (0, 1)] }), 2047, 7, [(0, 1)], by decide⟩,
   ⟨.host, run, by decide⟩,
   ⟨.sideband, (run.tcaSet (fun t => { t with fv := [(5, 4294967303)] })).put Reg.TKM_FV_IDX_INDEX 5 0 0 1, _, rfl, by decide⟩,
   ⟨.host, ((run.tcaSet (fun t => { t with fv := [(5, 8)] })).put Reg.TKM_FV_IDX_INDEX 5 0 0 0).put Reg.TKM_CTRL_LOCK 1, _, rfl, by decide⟩,
   ⟨.host, run, _, 0, 0, rfl, by decide⟩,
   ⟨.host, 23, run.tcaSet (fun t => { t with counts := [(378, 5)] }), _, rfl, by decide⟩,
   ⟨.host, 23, run.tcaSet (fun t => { t with counts := [(368, 5), (378, 5)] }), _, rfl, by decide⟩,
   ⟨.host, 24, run, _, rfl, by decide⟩,
   ⟨.host, 2047, run.tcaSet (fun t => { t with keys := [(2 * 4096 + 2047, ⟨true, true, []⟩)] }), _, rfl, by decide⟩⟩

theorem witness_TheWeltAcceptsAndAnswers :
    (∃ (a : Nat) (n : Nat) (t : Nat) (s : State), s.flag Reg.WLT_STAT_LINK_UP = true ∧ s.wlt.held = [] ∧ s.wlt.flight.any HostReq.isConfirmed = false ∧ s.freeTag = some t) ∧
    (∃ (a : Nat) (n : Nat) (t : Nat) (s : State), s.flag Reg.WLT_STAT_LINK_UP = true ∧ s.wlt.held = [] ∧ s.wlt.flight.any HostReq.isConfirmed = false ∧ s.freeTag = some t) ∧
    (∃ (a : Nat) (n : Nat) (s : State), s.flag Reg.WLT_STAT_LINK_UP = true ∧ s.wlt.flight.any HostReq.isConfirmed = true) ∧
    (∃ (a : Nat) (n : Nat) (bs : List Byte) (s : State), s.flag Reg.WLT_STAT_LINK_UP = false) ∧
    (∃ (a : Nat) (bs : List Byte) (s : State) (q : Nat), s.flag Reg.WLT_STAT_LINK_UP = true ∧ s.wlt.held = [] ∧ s.wlt.flight.any HostReq.isConfirmed = false ∧ q = (s.get Reg.WLT_WR_SEQ_SEQ + 1) % 2 ^ 32) ∧
    (∃ (a : Nat) (bs : List Byte) (s : State) (q : Nat), s.flag Reg.WLT_STAT_LINK_UP = true ∧ s.wlt.held = [] ∧ s.wlt.flight.any HostReq.isConfirmed = false ∧ q = (s.get Reg.WLT_WR_SEQ_SEQ + 1) % 2 ^ 32) ∧
    (∃ (tag : Fin 64) (x : Nat) (a : Nat) (n : Nat) (s : State) (t : State) (bs : List Byte), s.weltTurn (HostReq.hasTag tag.val) = some (.read x a n) ∧ s.busRead .host a n = (none, bs, t)) ∧
    (∃ (tag : Fin 64) (x : Nat) (a : Nat) (n : Nat) (s : State) (t : State) (e : AccErr) (bs : List Byte), s.weltTurn (HostReq.hasTag tag.val) = some (.read x a n) ∧ s.busRead .host a n = (some e, bs, t)) ∧
    (∃ (tag : Fin 64) (x : Nat) (a : Nat) (n : Nat) (s : State), s.weltTurn (HostReq.hasTag tag.val) = some (.read x a n)) ∧
    (∃ (n : Nat) (s : State) (w : HostWrite), s.weltTurn (HostReq.hasSeq n) = some (.write w)) ∧
    (∃ (n : Nat) (s : State) (w : HostWrite), s.weltTurn (HostReq.hasSeq n) = some (.write w)) ∧
    (∃ (s : State), s.wdg.resetDue = false) ∧
    (∃ (s : State), s.wdg.resetDue = true) ∧
    (∃ (tag : Fin 64) (b : Bool) (n : Nat) (s : State), s.weltTurn (HostReq.hasTag tag.val) = none ∧ s.weltTurn (HostReq.hasSeq n) = none) :=
  ⟨⟨0, 4, 0, hosted, by decide⟩,
   ⟨0x3FFFFFC, 4, 1, flight [.read 0 0 4], by decide⟩,
   ⟨8, 4, flight [.write ⟨0, 15, [0, 0, 0, 0], 1, true⟩], by decide⟩,
   ⟨8, 4, [1], run, by decide⟩,
   ⟨8, [1, 2, 3, 4], hosted, 1, by decide⟩,
   ⟨0xFFFFFC, [1, 2, 3, 4], confirm0.put Reg.WLT_WR_SEQ_SEQ 0xFFFFFFFF, 0, by decide⟩,
   ⟨63, 63, 0x2000000, 4, flight [.read 63 0x2000000 4], flight [.read 63 0x2000000 4], (((flight [.read 63 0x2000000 4]).busRead .host 0x2000000 4).2.1), by decide⟩,
   ⟨63, 63, 0x172000, 4, flight [.read 63 0x172000 4], flight [.read 63 0x172000 4], .reserved, [], by decide⟩,
   ⟨63, 63, 0x172000, 4, flight [.read 63 0x172000 4], by decide⟩,
   ⟨4294967295, flight [.write ⟨0x30000, 15, [0, 0, 0, 0], 4294967295, false⟩], ⟨0x30000, 15, [0, 0, 0, 0], 4294967295, false⟩, by decide⟩,
   ⟨1, flight [.write ⟨0x30000, 15, [0, 0, 0, 0], 1, false⟩], ⟨0x30000, 15, [0, 0, 0, 0], 1, false⟩, by decide⟩,
   ⟨hosted, by decide⟩,
   ⟨hosted.wdgSet (fun w => { w with resetDue := true }), by decide⟩,
   ⟨63, true, 7, hosted, by decide⟩⟩

theorem witness_TheLinkTheLogAndOwnership :
    (∃ (w : Fin 8) (v : Fin 8) (b : Bool) (s : State), bit s.pwr.powered 2 = true ∧ bit s.pwr.tested 2 = true ∧ (w.val = 1 ∨ w.val = 2 ∨ w.val = 4) ∧ 1 ≤ v.val ∧ v.val ≤ 4) ∧
    (∃ (w : Fin 8) (v : Fin 8) (b : Bool) (s : State), bit s.pwr.powered 2 = true ∧ bit s.pwr.tested 2 = true ∧ (w.val = 1 ∨ w.val = 2 ∨ w.val = 4) ∧ 1 ≤ v.val ∧ v.val ≤ 4) ∧
    (∃ (w : Fin 8) (v : Fin 8) (b : Bool) (s : State), (bit s.pwr.powered 2 = false ∨ bit s.pwr.tested 2 = false ∨ linkFits w.val v.val = false)) ∧
    (∃ (w : Fin 8) (v : Fin 8) (b : Bool) (s : State), (bit s.pwr.powered 2 = false ∨ bit s.pwr.tested 2 = false ∨ linkFits w.val v.val = false)) ∧
    (∃ (w : Fin 8) (v : Fin 8) (b : Bool) (s : State), (bit s.pwr.powered 2 = false ∨ bit s.pwr.tested 2 = false ∨ linkFits w.val v.val = false)) ∧
    (∃ (s : State), bit s.pwr.powered 2 = true ∧ s.flag Reg.WLT_STAT_LINK_UP = true) ∧
    (∃ (s : State), bit s.pwr.powered 2 = true ∧ s.flag Reg.WLT_STAT_LINK_UP = false) ∧
    (∃ (s : State), bit s.pwr.powered 2 = false) ∧
    (∃ (m : Master) (n : Fin 32) (z : State) (s : State), s = z.sent m ∧ s.grants m pgWLT) ∧
    (∃ (m : Master) (n : Fin 32) (z : State) (s : State), s = z.sent m ∧ s.grants m pgWLT) ∧
    (∃ (v : Word) (s : State), s.heelStands = false) ∧
    (∃ (m : Master) (v : Word) (z : State) (s : State), s = z.sent m ∧ (m = .sideband → s.sbOn = true) ∧ s.heelStands = false ∧ s.flag Reg.PG_LOCK_LOCK 0 = true ∧ m ≠ .firmware) ∧
    (∃ (m : Master) (v : Word) (z : State) (s : State) (old : Nat), s = z.sent m ∧ (m = .sideband → s.sbOn = true) ∧ s.heelStands = false ∧ (s.flag Reg.PG_LOCK_LOCK 0 = false ∨ m = .firmware) ∧ old = s.get Reg.DEV_OWNER_OWNER ∧ (∀ g ∈ List.range 16, bits old (2 * g) 2 = bits v.toNat (2 * g) 2 ∨ s.mayOwn m (bits old (2 * g) 2) (bits v.toNat (2 * g) 2) = true)) ∧
    (∃ (m : Master) (v : Word) (z : State) (s : State) (old : Nat), s = z.sent m ∧ (m = .sideband → s.sbOn = true) ∧ s.heelStands = false ∧ (s.flag Reg.PG_LOCK_LOCK 0 = false ∨ m = .firmware) ∧ old = s.get Reg.DEV_OWNER_OWNER ∧ (∀ g ∈ List.range 16, bits old (2 * g) 2 = bits v.toNat (2 * g) 2 ∨ s.mayOwn m (bits old (2 * g) 2) (bits v.toNat (2 * g) 2) = true)) ∧
    (∃ (m : Master) (v : Word) (z : State) (s : State) (old : Nat), s = z.sent m ∧ (m = .sideband → s.sbOn = true) ∧ s.heelStands = false ∧ (s.flag Reg.PG_LOCK_LOCK 0 = false ∨ m = .firmware) ∧ old = s.get Reg.DEV_OWNER_OWNER ∧ (∃ g ∈ List.range 16, bits old (2 * g) 2 ≠ bits v.toNat (2 * g) 2 ∧ s.mayOwn m (bits old (2 * g) 2) (bits v.toNat (2 * g) 2) = false)) :=
  ⟨⟨4, 4, true, run, by decide⟩,
   ⟨1, 1, false, run, by decide⟩,
   ⟨4, 4, true, State.reset, by decide⟩,
   ⟨3, 4, true, run, by decide⟩,
   ⟨4, 5, true, run, by decide⟩,
   ⟨flight [.read 63 0x172000 4, .write ⟨0x30000, 15, [0, 0, 0, 0], 1, false⟩], by decide⟩,
   ⟨run, by decide⟩,
   ⟨State.reset, by decide⟩,
   ⟨.host, 31, { run with perrs := [⟨0, 15, 1, false, 1, 0, 0⟩] }, _, rfl, by decide⟩,
   ⟨.host, 0, { run with perrs := [⟨0, 15, 1, false, 1, 0, 0⟩] }, _, rfl, by decide⟩,
   ⟨0xFFFFFFFF, run, by decide⟩,
   ⟨.host, 0x55555555, run.put Reg.PG_LOCK_LOCK 1 0, _, rfl, by decide⟩,
   ⟨.host, 0x1, run, _, 0, rfl, by decide⟩,
   ⟨.sideband, 0x80000000, sb, _, 0, rfl, by decide⟩,
   ⟨.host, 0x3, run, _, 0, rfl, by decide⟩⟩

theorem witness_RingsMoveFrames :
    (∃ (m : Master) (tx : Bool) (kd : Bool) (r : Fin 8) (sz : Fin 32) (b : Fin 128) (z : State) (s : State), s = z.sent m ∧ s.grants m pgHDM ∧ s.flag (rEN tx) 0 r.val = false) ∧
    (∃ (m : Master) (tx : Bool) (kd : Bool) (r : Fin 8) (sz : Fin 32) (b : Fin 128) (z : State) (s : State), s = z.sent m ∧ s.grants m pgHDM ∧ s.flag (rEN tx) 0 r.val = false) ∧
    (∃ (m : Master) (tx : Bool) (en : Bool) (kd : Bool) (r : Fin 8) (sz : Fin 32) (b : Fin 128) (z : State) (s : State) (u : State), s = z.sent m ∧ s.grants m pgHDM ∧ s.flag (rEN tx) 0 r.val = true ∧ u = s.err pgHDM (ringOff tx r.val + 8) ecSTATE m) ∧
    (∃ (m : Master) (tx : Bool) (en : Bool) (kd : Bool) (r : Fin 8) (sz : Fin 32) (b : Fin 128) (z : State) (s : State) (u : State), s = z.sent m ∧ s.grants m pgHDM ∧ s.flag (rEN tx) 0 r.val = true ∧ u = s.err pgHDM (ringOff tx r.val + 8) ecSTATE m) ∧
    (∃ (m : Master) (tx : Bool) (r : Fin 8) (t : Fin 65536) (z : State) (s : State), s = z.sent m ∧ s.grants m pgHDM ∧ t.val < s.ringSize tx r.val ∧ ((t.val : Int) - s.get (rTAIL tx) 0 r.val) % s.ringSize tx r.val ≤ ((s.get (rHEAD tx) 0 r.val : Int) - 1 - s.get (rTAIL tx) 0 r.val) % s.ringSize tx r.val) ∧
    (∃ (m : Master) (tx : Bool) (r : Fin 8) (t : Fin 65536) (z : State) (s : State), s = z.sent m ∧ s.grants m pgHDM ∧ (s.ringSize tx r.val ≤ t.val ∨ ((s.get (rHEAD tx) 0 r.val : Int) - 1 - s.get (rTAIL tx) 0 r.val) % s.ringSize tx r.val < ((t.val : Int) - s.get (rTAIL tx) 0 r.val) % s.ringSize tx r.val)) ∧
    (∃ (m : Master) (tx : Bool) (r : Fin 8) (t : Fin 65536) (z : State) (s : State), s = z.sent m ∧ s.grants m pgHDM ∧ (s.ringSize tx r.val ≤ t.val ∨ ((s.get (rHEAD tx) 0 r.val : Int) - 1 - s.get (rTAIL tx) 0 r.val) % s.ringSize tx r.val < ((t.val : Int) - s.get (rTAIL tx) 0 r.val) % s.ringSize tx r.val)) ∧
    (∃ (b : List Nat) (z : State) (s : State) (c : Copy) (f : Frame), s = z.fabNow ∧ s.clr.copies.find? (fun c => c.port == 32 && c.st == .sending) = some c ∧ s.frame c.frame = some f ∧ f.whole = true ∧ s.readsWait c.id = 0 ∧ (s.flag (rEN false) 0 (c.svc % 8) = false ∨ s.posted false (c.svc % 8) < ceilDiv (s.hpBytes c f).length (s.ringBuf false (c.svc % 8)))) ∧
    (∃ (b : List Nat) (z : State) (s : State) (u : State) (v : State) (c : Copy) (f : Frame) (n : Nat), s = z.fabNow ∧ s.clr.copies.find? (fun c => c.port == 32 && c.st == .sending) = some c ∧ s.frame c.frame = some f ∧ f.whole = true ∧ s.readsWait c.id = 0 ∧ n = ceilDiv (s.hpBytes c f).length (s.ringBuf false (c.svc % 8)) ∧ s.flag (rEN false) 0 (c.svc % 8) = true ∧ n ≤ s.posted false (c.svc % 8) ∧ s.flag Reg.WLT_STAT_BME = true ∧ u = s.rxWrite (c.svc % 8) c f b ∧ v = (if c.tagFail = true ∧ f.poisoned = false then (u.tcCount f.port tcReleasedFail).raise Reg.TCA_IRQ_RELEASED_FAIL else u)) ∧
    (∃ (b : List Nat) (z : State) (s : State), s = z.fabNow ∧ s.clr.copies.find? (fun c => c.port == 32 && c.st == .sending) = none) ∧
    (∃ (b : List Nat) (z : State) (s : State) (c : Copy) (f : Frame), s = z.fabNow ∧ s.clr.copies.find? (fun c => c.port == 32 && c.st == .sending) = some c ∧ s.frame c.frame = some f ∧ (f.whole = false ∨ s.readsWait c.id ≠ 0)) ∧
    (∃ (ds : List TxDesc) (d : List Byte) (s : State), (s.flag Reg.WLT_STAT_BME = false ∨ s.txTurn = none ∨ ds = [])) ∧
    (∃ (ds : List TxDesc) (d : List Byte) (s : State), (s.flag Reg.WLT_STAT_BME = false ∨ s.txTurn = none ∨ ds = [])) ∧
    (∃ (x : TxDesc) (r : List TxDesc) (k : Nat) (d : List Byte) (s : State) (u : State), s.flag Reg.WLT_STAT_BME = true ∧ s.txTurn = some k ∧ (x :: r).length ≤ s.posted true k ∧ u = s.hdmSet (fun h => { h with turn := (k + 1) % 8 }) ∧ u.descsOk k (x :: r) = false) ∧
    (∃ (x : TxDesc) (r : List TxDesc) (k : Nat) (n : Nat) (d : List Byte) (s : State) (u : State) (v : State), s.flag Reg.WLT_STAT_BME = true ∧ s.txTurn = some k ∧ (x :: r).length ≤ s.posted true k ∧ u = s.hdmSet (fun h => { h with turn := (k + 1) % 8 }) ∧ u.descsOk k (x :: r) = true ∧ n = (x :: r).foldl (fun a y => a + y.len) 0 ∧ n ≤ 9212 ∧ u.inService 32 = true ∧ (x.directed = false ∨ u.hostPolicy x = true) ∧ v = u.txHand x (padTo (max 60 n) (padTo n d))) ∧
    (∃ (tx : Bool) (r : Fin 8) (n : Nat) (s : State), s.flag (rEN tx) 0 r.val = true) ∧
    (∃ (tx : Bool) (r : Fin 8) (n : Nat) (s : State), s.flag (rEN tx) 0 r.val = false) ∧
    (∃ (tx : Bool) (r : Fin 8) (s : State), AMap.get cellDflt s.hdm.wb (r.val + 8 * b2n tx) ≠ 0) ∧
    (∃ (tx : Bool) (r : Fin 8) (s : State), AMap.get cellDflt s.hdm.wb (r.val + 8 * b2n tx) = 0) :=
  ⟨⟨.host, true, true, 7, 31, 127, run, _, rfl, by decide⟩,
   ⟨.host, false, true, 0, 0, 0, run, _, rfl, by decide⟩,
   ⟨.host, true, true, false, 7, 31, 63, ring true 7 0, _, _, rfl, by decide, by decide, rfl⟩,
   ⟨.host, false, false, false, 0, 31, 63, ring false 0 0, _, _, rfl, by decide, by decide, rfl⟩,
   ⟨.host, false, 7, 63, ring false 7 0, _, rfl, by decide⟩,
   ⟨.host, false, 7, 64, ring false 7 0, _, rfl, by decide⟩,
   ⟨.host, true, 7, 30, ((ring true 7 500).put (rHEAD true) 400 0 7), _, rfl, by decide⟩,
   ⟨[], hpCopy (ring false 7 0) 7, _, { cpy 1 0 32 263 0 with st := .sending }, out0, rfl, by decide⟩,
   ⟨[4096], hpCopy (ring false 7 1) 7, _, _, _, { cpy 1 0 32 263 0 with st := .sending }, out0, 1, rfl, by decide, by decide, by decide, by decide, by decide, by decide, by decide, by decide, rfl, rfl⟩,
   ⟨[], run, _, rfl, by decide⟩,
   ⟨[], withF run [{ out0 with whole := false }] [{ cpy 1 0 32 263 0 with st := .sending }], _, { cpy 1 0 32 263 0 with st := .sending }, { out0 with whole := false }, rfl, by decide⟩,
   ⟨[desc0], [], run, by decide⟩,
   ⟨[], [], ring true 7 1, by decide⟩,
   ⟨{ desc0 with last := false }, [], 7, [], ring true 7 1, _, by decide, by decide, by decide, rfl, by decide⟩,
   ⟨desc0, [], 7, 60, List.replicate 60 1, ring true 7 1, _, _, by decide, by decide, by decide, rfl, by decide, by decide, by decide, by decide, by decide, rfl⟩,
   ⟨true, 7, 3, ring true 7 1, by decide⟩,
   ⟨false, 7, 3, run, by decide⟩,
   ⟨true, 7, run.hdmSet (fun h => { h with wb := [(15, 1)] }), by decide⟩,
   ⟨false, 7, run, by decide⟩⟩

theorem witness_TheSidebandAnswers :
    (∃ (a : Word) (w : Word) (ws : List Word) (n : Fin 65536) (q : SbReq) (k : Nat) (x : Option Nat) (l : List Byte) (s : State), s.sbOn = false) ∧
    (∃ (a : Word) (ws : List Word) (x : Option Nat) (s : State) (e : Nat), s.sbOn = true ∧ sbCheck a.toNat ws.length false = some e) ∧
    (∃ (a : Word) (ws : List Word) (x : Option Nat) (s : State) (e : Nat), s.sbOn = true ∧ sbCheck a.toNat ws.length false = some e) ∧
    (∃ (a : Word) (ws : List Word) (s : State) (u : State) (e : Nat) (d : Nat), s.sbOn = true ∧ sbCheck a.toNat ws.length false = none ∧ (s.inc Reg.SBP_FRAMES_COUNT).sbWords a.toNat (ws.map BitVec.toNat) 0 = (e, d, u)) ∧
    (∃ (a : Word) (ws : List Word) (s : State) (u : State) (e : Nat) (d : Nat), s.sbOn = true ∧ sbCheck a.toNat ws.length false = none ∧ (s.inc Reg.SBP_FRAMES_COUNT).sbWords a.toNat (ws.map BitVec.toNat) 0 = (e, d, u)) ∧
    (∃ (a : Word) (ws : List Word) (k : Nat) (s : State) (u : State) (d : Nat), s.sbOn = true ∧ sbCheck a.toNat ws.length false = none ∧ k < ws.length ∧ (s.inc Reg.SBP_FRAMES_COUNT).sbWords a.toNat ((ws.map BitVec.toNat).take k) 0 = (0x80, d, u)) ∧
    (∃ (a : Word) (n : Fin 65536) (s : State) (u : State) (e : Nat) (g : List Nat), s.sbOn = true ∧ sbCheck a.toNat n.val false = none ∧ (s.inc Reg.SBP_FRAMES_COUNT).sbFetch false a.toNat n.val [] = (e, g, u)) ∧
    (∃ (a : Word) (n : Fin 65536) (s : State) (u : State) (e : Nat) (g : List Nat), s.sbOn = true ∧ sbCheck a.toNat n.val false = none ∧ (s.inc Reg.SBP_FRAMES_COUNT).sbFetch false a.toNat n.val [] = (e, g, u)) ∧
    (∃ (a : Word) (n : Fin 65536) (s : State) (u : State) (e : Nat) (g : List Nat), s.sbOn = true ∧ sbCheck a.toNat n.val true = none ∧ (s.inc Reg.SBP_FRAMES_COUNT).sbFetch true a.toNat n.val [] = (e, g, u)) ∧
    (∃ (a : Word) (n : Fin 65536) (s : State) (u : State) (e : Nat) (g : List Nat), s.sbOn = true ∧ sbCheck a.toNat n.val true = none ∧ (s.inc Reg.SBP_FRAMES_COUNT).sbFetch true a.toNat n.val [] = (e, g, u)) ∧
    (∃ (a : Word) (n : Fin 65536) (k : Nat) (s : State) (u : State) (g : List Nat), s.sbOn = true ∧ sbCheck a.toNat n.val false = none ∧ k < n.val ∧ (s.inc Reg.SBP_FRAMES_COUNT).sbFetch false a.toNat k [] = (0x80, g, u)) ∧
    (∃ (s : State), s.sbOn = true) ∧
    (∃ (a : Word) (w : Word) (n : Fin 65536) (s : State), s.sbOn = true ∧ n.val ≠ 2) ∧
    (∃ (a : Word) (w : Word) (n : Fin 65536) (s : State), s.sbOn = true ∧ n.val ≠ 2) ∧
    (∃ (w : Word) (s : State) (u : State), s.sbOn = true ∧ s.heelStands = false ∧ u = s.inc Reg.SBP_FRAMES_COUNT ∧ u.ownedByOther .sideband 10 = false ∧ 1 ≤ bits w.toNat 0 5 ∧ bits w.toNat 0 5 ≤ 18 ∧ bit w.toNat 8 = true) ∧
    (∃ (w : Word) (s : State) (u : State), s.sbOn = true ∧ s.heelStands = false ∧ u = s.inc Reg.SBP_FRAMES_COUNT ∧ u.ownedByOther .sideband 10 = false ∧ (bits w.toNat 0 5 = 0 ∨ 18 < bits w.toNat 0 5)) ∧
    (∃ (w : Word) (s : State) (u : State), s.sbOn = true ∧ s.heelStands = false ∧ u = s.inc Reg.SBP_FRAMES_COUNT ∧ u.ownedByOther .sideband 10 = false ∧ (bits w.toNat 0 5 = 0 ∨ 18 < bits w.toNat 0 5)) ∧
    (∃ (w : Word) (s : State), s.sbOn = true ∧ s.heelStands = true) ∧
    (∃ (l : List Byte) (w : Nat) (s : State), s.sbOn = true ∧ w = 7 + 4 * sbDataWords (leNat (l.take 1)) (beNat (sub l 5 2)) ∧ w < l.length) ∧
    (∃ (l : List Byte) (w : Nat) (s : State), s.sbOn = true ∧ w = 7 + 4 * sbDataWords (leNat (l.take 1)) (beNat (sub l 5 2)) ∧ w < l.length) ∧
    (∃ (s : State), s.sbOn = true) ∧
    (∃ (b : Bool) (a : Nat) (n : Nat) (k : Nat) (s : State) (u : State) (g : List Nat), s.sbOn = true ∧ sbCheck a n b = none ∧ k < n ∧ (s.inc Reg.SBP_FRAMES_COUNT).sbFetch b a k [] = (0x80, g, u)) :=
  ⟨⟨0, 1, [1], 2, .read true 0 1, 0, none, [], run.put Reg.DEV_STRAPS_SB_EN 0, by decide⟩,
   ⟨0x3000000, [1], none, sb, 0x84, by decide⟩,
   ⟨0, [], some 0, sb, 0x83, by decide⟩,
   ⟨0x172000, [1], sb, sb.inc Reg.SBP_FRAMES_COUNT, 0x84, 0, by decide⟩,
   ⟨0x30094, [7, 8], sb, (((sb.inc Reg.SBP_FRAMES_COUNT).sbWords 0x30094 [7, 8] 0).2.2), 0x80, 2, by decide⟩,
   ⟨0x30094, [7, 8], 1, sb, (((sb.inc Reg.SBP_FRAMES_COUNT).sbWords 0x30094 [7] 0).2.2), 1, by decide⟩,
   ⟨0x172000, 64, sb, sb.inc Reg.SBP_FRAMES_COUNT, 0x84, [], by decide⟩,
   ⟨0, 1, sb, (((sb.inc Reg.SBP_FRAMES_COUNT).sbFetch false 0 1 []).2.2), 0x80, (((sb.inc Reg.SBP_FRAMES_COUNT).sbFetch false 0 1 []).2.1), by decide⟩,
   ⟨0xFFF000, 1, sb, sb.inc Reg.SBP_FRAMES_COUNT, 0x84, [], by decide⟩,
   ⟨0, 2, sb, sb.inc Reg.SBP_FRAMES_COUNT, 0x80, (((sb.inc Reg.SBP_FRAMES_COUNT).sbFetch true 0 2 []).2.1), by decide⟩,
   ⟨0, 2, 1, sb, (((sb.inc Reg.SBP_FRAMES_COUNT).sbFetch false 0 1 []).2.2), (((sb.inc Reg.SBP_FRAMES_COUNT).sbFetch false 0 1 []).2.1), by decide⟩,
   ⟨sb, by decide⟩,
   ⟨0, 0, 3, sb, by decide⟩,
   ⟨0, 0, 1, sb, by decide⟩,
   ⟨0x112, sb, sb.inc Reg.SBP_FRAMES_COUNT, by decide⟩,
   ⟨0x113, sb, sb.inc Reg.SBP_FRAMES_COUNT, by decide⟩,
   ⟨0, sb, sb.inc Reg.SBP_FRAMES_COUNT, by decide⟩,
   ⟨0, (sb.put Reg.SBP_ALERT_STAT_CLOCK_HOLD 1).put Reg.CGU_STAT_LRC 3, by decide⟩,
   ⟨[3, 0, 0, 0, 0, 0, 1, 99], 7, sb, by decide⟩,
   ⟨[7, 0, 0, 0, 0, 0, 1, BitVec.ofNat 8 (crc8 [7, 0, 0, 0, 0, 0, 1])], 7, sb, by decide⟩,
   ⟨sb, by decide⟩,
   ⟨false, 0, 2, 1, sb, (((sb.inc Reg.SBP_FRAMES_COUNT).sbFetch false 0 1 []).2.2), (((sb.inc Reg.SBP_FRAMES_COUNT).sbFetch false 0 1 []).2.1), by decide⟩⟩

theorem witness_TheMailboxAnswers :
    (∃ (m : Master) (n : Fin 2048) (z : State) (s : State), s = z.sent m ∧ s.grants m pgMBX ∧ s.firmwareRuns = true ∧ s.flag Reg.MBX_STAT_BUSY = false ∧ 8 ≤ n.val ∧ n.val ≤ 1024) ∧
    (∃ (m : Master) (n : Fin 2048) (z : State) (s : State), s = z.sent m ∧ s.grants m pgMBX ∧ s.firmwareRuns = true ∧ s.flag Reg.MBX_STAT_BUSY = false ∧ 8 ≤ n.val ∧ n.val ≤ 1024) ∧
    (∃ (m : Master) (n : Fin 2048) (z : State) (s : State), s = z.sent m ∧ s.grants m pgMBX ∧ s.firmwareRuns = true ∧ s.flag Reg.MBX_STAT_BUSY = true) ∧
    (∃ (m : Master) (n : Fin 2048) (z : State) (s : State), s = z.sent m ∧ s.grants m pgMBX ∧ s.firmwareRuns = true ∧ s.flag Reg.MBX_STAT_BUSY = false ∧ (n.val < 8 ∨ 1024 < n.val)) ∧
    (∃ (m : Master) (n : Fin 2048) (z : State) (s : State), s = z.sent m ∧ s.grants m pgMBX ∧ s.firmwareRuns = true ∧ s.flag Reg.MBX_STAT_BUSY = false ∧ (n.val < 8 ∨ 1024 < n.val)) ∧
    (∃ (r : Fin 256) (b : List Byte) (s : State), bit s.pwr.powered 1 = true ∧ s.firmwareRuns = true ∧ s.flag Reg.MBX_STAT_BUSY = true ∧ b.length ≤ 1016) ∧
    (∃ (m : Master) (n : Fin 2048) (z : State) (s : State), s = z.sent m ∧ s.grants m pgMBX ∧ s.firmwareRuns = false) ∧
    (∃ (r : Fin 256) (b : List Byte) (s : State), (s.flag Reg.MBX_STAT_BUSY = false ∨ s.firmwareRuns = false)) ∧
    (∃ (r : Fin 256) (b : List Byte) (s : State), (s.flag Reg.MBX_STAT_BUSY = false ∨ s.firmwareRuns = false)) ∧
    (∃ (g : Nat) (b : Nat) (s : State), bit s.pwr.powered 1 = true ∧ s.firmwareRuns = true ∧ s.flag Reg.MBX_STAT_BUSY = true ∧ beNat (s.mbxReq 0 2) = 0x0D01 ∧ (beNat (s.mbxReq 4 2) ≠ 4 ∨ s.get Reg.MBX_CMD_LEN ≠ 12)) ∧
    (∃ (g : Nat) (b : Nat) (p : Nat) (n : Nat) (s : State) (u : State), bit s.pwr.powered 1 = true ∧ s.firmwareRuns = true ∧ s.flag Reg.MBX_STAT_BUSY = true ∧ beNat (s.mbxReq 0 2) = 0x0D01 ∧ beNat (s.mbxReq 4 2) = 4 ∧ s.get Reg.MBX_CMD_LEN = 12 ∧ p = leNat (sub (s.mbxReq 8 4) 0 1) ∧ p < 24 ∧ s.portMode p ≠ 0 ∧ leNat (sub (s.mbxReq 8 4) 1 1) = 1 ∧ n = beNat (sub (s.mbxReq 8 4) 2 2) ∧ n ≠ 0 ∧ u = ((((s.put Reg.MAC_TEST_LOOP 1 p).testSync p).put Reg.MAC_TEST_LOOP 0 p).testSync p)) ∧
    (∃ (g : Nat) (b : Nat) (s : State), beNat (s.mbxReq 0 2) ≠ 0x0D01) :=
  ⟨⟨.host, 8, fwRun, _, rfl, by decide⟩,
   ⟨.host, 1024, fwRun, _, rfl, by decide⟩,
   ⟨.host, 8, fwRun.put Reg.MBX_STAT_BUSY 1, _, rfl, by decide⟩,
   ⟨.host, 7, fwRun, _, rfl, by decide⟩,
   ⟨.host, 1025, fwRun, _, rfl, by decide⟩,
   ⟨255, [1, 2, 3], asked [0x0D, 2, 0, 7, 0, 0, 0, 0], by decide⟩,
   ⟨.host, 8, unloaded, _, rfl, by decide⟩,
   ⟨255, [1], run, by decide⟩,
   ⟨255, [1], unloaded.put Reg.MBX_STAT_BUSY 1, by decide⟩,
   ⟨1, 1, asked [0x0D, 1, 0, 7, 0, 0, 0, 0], by decide⟩,
   ⟨90, 20, 23, 100, loop7, ((((loop7.put Reg.MAC_TEST_LOOP 1 23).testSync 23).put Reg.MAC_TEST_LOOP 0 23).testSync 23), by decide⟩,
   ⟨1, 1, asked [0x0D, 2, 0, 7, 0, 0, 0, 0], by decide⟩⟩

theorem witness_FaultsAreRecorded :
    (∃ (p : Fin 4096) (k : Fin 65536) (s : State), s.heelStands = false ∧ (k.val ≠ 0x1B01 ∨ s.get Reg.CGU_STAT_SDSREF ≠ 3) ∧ faultCodes.contains k.val = true ∧ pageDefined p.val = true ∧ pageType p.val = k.val / 256) ∧
    (∃ (p : Fin 4096) (k : Fin 65536) (s : State), (s.heelStands = true ∨ faultCodes.contains k.val = false ∨ pageType p.val ≠ k.val / 256 ∨ (k.val = 0x1B01 ∧ s.get Reg.CGU_STAT_SDSREF = 3))) ∧
    (∃ (p : Fin 4096) (k : Fin 65536) (s : State), (s.heelStands = true ∨ faultCodes.contains k.val = false ∨ pageType p.val ≠ k.val / 256 ∨ (k.val = 0x1B01 ∧ s.get Reg.CGU_STAT_SDSREF = 3))) ∧
    (∃ (p : Fin 4096) (k : Fin 65536) (s : State), (s.heelStands = true ∨ faultCodes.contains k.val = false ∨ pageType p.val ≠ k.val / 256 ∨ (k.val = 0x1B01 ∧ s.get Reg.CGU_STAT_SDSREF = 3))) ∧
    (∃ (p : Fin 4096) (k : Fin 65536) (s : State), (s.heelStands = true ∨ faultCodes.contains k.val = false ∨ pageType p.val ≠ k.val / 256 ∨ (k.val = 0x1B01 ∧ s.get Reg.CGU_STAT_SDSREF = 3))) ∧
    (∃ (p : Fin 4096) (k : Fin 65536) (s : State), s.heelStands = false ∧ (k.val ≠ 0x1B01 ∨ s.get Reg.CGU_STAT_SDSREF ≠ 3) ∧ faultCodes.contains k.val = true ∧ pageDefined p.val = true ∧ pageType p.val = k.val / 256 ∧ faultPrimary k.val = true ∧ s.flag Reg.FLT_STAT_STORM = false ∧ s.flt.recent = [] ∧ s.get Reg.FLT_STAT_ENTRIES < 8) ∧
    (∃ (s : State), s.heelStands = false ∧ s.flag Reg.FLT_STAT_STORM = true ∧ s.flt.period < 16) ∧
    (∃ (s : State), s.heelStands = false ∧ s.flag Reg.FLT_STAT_STORM = true ∧ 16 ≤ s.flt.period) ∧
    (∃ (p : Fin 4096) (k : Fin 65536) (s : State), s.heelStands = false ∧ (k.val ≠ 0x1B01 ∨ s.get Reg.CGU_STAT_SDSREF ≠ 3) ∧ faultCodes.contains k.val = true ∧ pageDefined p.val = true ∧ pageType p.val = k.val / 256 ∧ faultPrimary k.val = true ∧ s.flag Reg.FLT_STAT_STORM = true ∧ 8 ≤ s.get Reg.FLT_STAT_ENTRIES) ∧
    (∃ (s : State), (s.heelStands = true ∨ s.flag Reg.FLT_STAT_STORM = false)) ∧
    (∃ (m : Master) (z : State) (s : State), s = z.sent m ∧ s.grants m pgFLT) ∧
    (∃ (m : Master) (k : Fin 65536) (z : State) (s : State), s = z.sent m ∧ s.serves m pgFLT ∧ faultCodes.contains k.val = true) ∧
    (∃ (m : Master) (k : Fin 65536) (z : State) (s : State), s = z.sent m ∧ s.grants m pgFLT ∧ faultCodes.contains k.val = true) ∧
    (∃ (m : Master) (k : Fin 65536) (z : State) (s : State), s = z.sent m ∧ s.serves m pgFLT ∧ faultCodes.contains k.val = false) ∧
    (∃ (m : Master) (b : Fin 32) (z : State) (s : State), s = z.sent m ∧ s.grants m pgFLT) :=
  ⟨⟨0x171, 0x21F0, run, by decide⟩,
   ⟨0x171, 0x21F1, run, by decide⟩,
   ⟨0x170, 0x21F0, run, by decide⟩,
   ⟨0x171, 0x21F0, (clkIn 1 2 2 2).put Reg.SBP_ALERT_STAT_CLOCK_HOLD 1, by decide⟩,
   ⟨0x0D0, 0x1B01, clkIn 2 2 2 3, by decide⟩,
   ⟨0x057, 0x1001, run.put Reg.FLT_STAT_ENTRIES 7, by decide⟩,
   ⟨(run.put Reg.FLT_STAT_STORM 1).fltSet (fun f => { f with period := 15 }), by decide⟩,
   ⟨(run.put Reg.FLT_STAT_STORM 1).fltSet (fun f => { f with period := 16 }), by decide⟩,
   ⟨0x057, 0x1001, (run.put Reg.FLT_STAT_STORM 1).put Reg.FLT_STAT_ENTRIES 8, by decide⟩,
   ⟨run, by decide⟩,
   ⟨.host, (run.put Reg.FLT_STAT_ENTRIES 1).put Reg.FLT_FIRST_W0_CODE 0x1001 0 0, _, rfl, by decide⟩,
   ⟨.sideband, 0x1001, sb.fltSet (fun f => { f with codes := [(0x1001, 65535)] }), _, rfl, by decide⟩,
   ⟨.host, 0x1001, run.fltSet (fun f => { f with codes := [(0x1001, 65535)] }), _, rfl, by decide⟩,
   ⟨.host, 0xFFFF, run, _, rfl, by decide⟩,
   ⟨.host, 31, run.put Reg.FLT_NMI_STAT_CAUSE 31, _, rfl, by decide⟩⟩

theorem witness_WatchdogsRunAndExpire :
    (∃ (v : Fin 65536) (s : State), s.serves .firmware pgWDG ∧ s.fwRuns = true ∧ v.val = (if s.flag Reg.WDG_FW_STAT_NEXT = true then 0xA5A5 else 0x5A5A)) ∧
    (∃ (v : Fin 65536) (s : State), s.serves .firmware pgWDG ∧ s.fwRuns = true ∧ v.val = (if s.flag Reg.WDG_FW_STAT_NEXT = true then 0xA5A5 else 0x5A5A)) ∧
    (∃ (v : Fin 65536) (s : State), s.serves .firmware pgWDG ∧ s.fwRuns = true ∧ v.val ≠ (if s.flag Reg.WDG_FW_STAT_NEXT = true then 0xA5A5 else 0x5A5A)) ∧
    (∃ (m : Master) (v : Fin 65536) (z : State) (s : State), s = z.sent m ∧ s.serves m pgWDG ∧ s.ownedByOther m (pageGroup pgWDG) = false ∧ m ≠ .firmware) ∧
    (∃ (k : Fin 2) (s : State), s.fwRuns = true) ∧
    (∃ (k : Fin 2) (s : State), s.fwRuns = false) ∧
    (∃ (m : Master) (n : Fin 65536) (z : State) (s : State), s = z.sent m ∧ s.grants m pgWDG ∧ s.flag Reg.WDG_HB_CFG_EN = false) ∧
    (∃ (m : Master) (n : Fin 65536) (z : State) (s : State), s = z.sent m ∧ s.grants m pgWDG ∧ s.flag Reg.WDG_HB_CFG_EN = false) ∧
    (∃ (m : Master) (n : Fin 65536) (z : State) (s : State), s = z.sent m ∧ s.grants m pgWDG) ∧
    (∃ (z : State) (s : State), s = z.sent .host ∧ s.serves .host pgWDG ∧ s.ownedByOther .host (pageGroup pgWDG) = false ∧ s.flag Reg.WDG_HB_CFG_EN = true ∧ s.flag Reg.WDG_HB_STAT_EXPIRED = true) ∧
    (∃ (z : State) (s : State), s = z.sent .host ∧ s.serves .host pgWDG ∧ s.ownedByOther .host (pageGroup pgWDG) = false ∧ s.flag Reg.WDG_HB_CFG_EN = false) ∧
    (∃ (m : Master) (z : State) (s : State), s = z.sent m ∧ s.serves m pgWDG ∧ s.ownedByOther m (pageGroup pgWDG) = false ∧ m ≠ .host) ∧
    (∃ (s : State), s.heelStands = false ∧ s.flag Reg.WDG_HB_CFG_EN = true ∧ s.flag Reg.WDG_HB_STAT_EXPIRED = false) ∧
    (∃ (s : State), (s.heelStands = true ∨ s.flag Reg.WDG_HB_CFG_EN = false ∨ s.flag Reg.WDG_HB_STAT_EXPIRED = true)) ∧
    (∃ (s : State), (s.heelStands = true ∨ s.flag Reg.WDG_HB_CFG_EN = false ∨ s.flag Reg.WDG_HB_STAT_EXPIRED = true)) :=
  ⟨⟨0xA5A5, fwRun.put Reg.WDG_FW_STAT_NEXT 1, by decide⟩,
   ⟨0x5A5A, fwRun, by decide⟩,
   ⟨0x5A5A, fwRun.put Reg.WDG_FW_STAT_NEXT 1, by decide⟩,
   ⟨.host, 0x5A5A, run, _, rfl, by decide⟩,
   ⟨1, fwRun, by decide⟩,
   ⟨1, run, by decide⟩,
   ⟨.host, 65535, run, _, rfl, by decide⟩,
   ⟨.host, 9, run, _, rfl, by decide⟩,
   ⟨.host, 0, run.put Reg.WDG_HB_CFG_EN 1, _, rfl, by decide⟩,
   ⟨(run.put Reg.WDG_HB_CFG_EN 1).put Reg.WDG_HB_STAT_EXPIRED 1, _, rfl, by decide⟩,
   ⟨run, _, rfl, by decide⟩,
   ⟨.sideband, sb, _, rfl, by decide⟩,
   ⟨run.put Reg.WDG_HB_CFG_EN 1, by decide⟩,
   ⟨run, by decide⟩,
   ⟨(run.put Reg.WDG_HB_CFG_EN 1).put Reg.WDG_HB_STAT_EXPIRED 1, by decide⟩⟩

theorem witness_ClockSourcesQualify :
    (∃ (s : State), s.lrc = 1 ∧ s.awake = true ∧ s.hrc = 0 ∧ s.holding = false) ∧
    (∃ (s : State), s.lrc = 1 ∧ s.hrc ≠ 0) ∧
    (∃ (s : State), s.lrc ≠ 1) ∧
    (∃ (n : Nat) (s : State) (u : State), s.hrc = 1 ∧ s.lrc = 2 ∧ s.holding = false ∧ 23750 ≤ n ∧ n ≤ 26250 ∧ s.xtal = 0 ∧ u = (s.put Reg.CGU_STAT_HRC 2).put Reg.CGU_STAT_XTAL 1) ∧
    (∃ (n : Nat) (s : State), s.hrc = 1 ∧ s.lrc = 2 ∧ s.holding = false ∧ 23750 ≤ n ∧ n ≤ 26250 ∧ s.xtal ≠ 0) ∧
    (∃ (b : Bool) (n : Nat) (s : State), s.hrc = 1 ∧ s.lrc = 2 ∧ s.holding = false ∧ (b = false ∨ n < 23750 ∨ 26250 < n)) ∧
    (∃ (b : Bool) (n : Nat) (s : State), s.hrc = 1 ∧ s.lrc = 2 ∧ s.holding = false ∧ (b = false ∨ n < 23750 ∨ 26250 < n)) ∧
    (∃ (b : Bool) (n : Nat) (s : State), (s.hrc ≠ 1 ∨ s.lrc ≠ 2 ∨ s.holding = true)) ∧
    (∃ (n : Nat) (s : State), (s.xtal = 1 ∨ s.xtal = 3) ∧ s.hrc = 2 ∧ s.holding = false ∧ 2450 ≤ n ∧ n ≤ 2550) ∧
    (∃ (n : Nat) (s : State), (s.xtal = 1 ∨ s.xtal = 3) ∧ s.hrc = 2 ∧ s.holding = false ∧ 2450 ≤ n ∧ n ≤ 2550) ∧
    (∃ (n : Nat) (s : State), ((s.xtal ≠ 1 ∧ s.xtal ≠ 3) ∨ s.hrc ≠ 2 ∨ s.holding = true ∨ n < 2450 ∨ 2550 < n)) ∧
    (∃ (n : Nat) (s : State), s.sdsref = 1 ∧ s.xtal = 2 ∧ s.holding = false ∧ 156094 ≤ n ∧ n ≤ 156406) ∧
    (∃ (n : Nat) (s : State), (s.sdsref ≠ 1 ∨ s.xtal ≠ 2 ∨ s.holding = true ∨ n < 156094 ∨ 156406 < n)) ∧
    (∃ (s : State), s.cgu.starting = true ∧ s.holding = false) ∧
    (∃ (s : State), (s.cgu.starting = false ∨ s.holding = true)) ∧
    (∃ (s : State), s.flag Reg.CGU_STAT_DWELL = true ∧ s.xtal = 2 ∧ s.holding = false) ∧
    (∃ (s : State), (s.flag Reg.CGU_STAT_DWELL = false ∨ s.xtal ≠ 2 ∨ s.holding = true)) ∧
    (∃ (m : Master) (z : State) (s : State), s = z.sent m ∧ s.grants m pgCGU) ∧
    (∃ (m : Master) (z : State) (s : State), s = z.sent m ∧ s.grants m pgCGU ∧ s.flag Reg.CGU_STAT_LOADS = true ∧ s.xtal = 2) :=
  ⟨⟨clkIn 1 0 0 0, by decide⟩,
   ⟨clkIn 1 1 0 0, by decide⟩,
   ⟨clocked run, by decide⟩,
   ⟨23750, clkIn 2 1 0 0, _, by decide, by decide, by decide, by decide, by decide, by decide, rfl⟩,
   ⟨26250, clkIn 2 1 1 0, by decide⟩,
   ⟨true, 26251, clkIn 2 1 0 0, by decide⟩,
   ⟨false, 25000, (clkIn 2 1 2 0).put Reg.CGU_STAT_SYSREF 1, by decide⟩,
   ⟨true, 25000, clkIn 1 1 0 0, by decide⟩,
   ⟨2450, ((clkIn 2 2 1 0).put Reg.CGU_STAT_LOADS 1).put Reg.CGU_CTRL_AUTO_RETURN 1, by decide⟩,
   ⟨2550, clkIn 2 2 3 2, by decide⟩,
   ⟨2449, clkIn 2 2 1 0, by decide⟩,
   ⟨156406, clkIn 2 2 2 1, by decide⟩,
   ⟨156407, clkIn 2 2 2 1, by decide⟩,
   ⟨{ clkIn 2 2 1 0 with cgu := ⟨0, 0, true, true⟩ }, by decide⟩,
   ⟨run, by decide⟩,
   ⟨((clkIn 2 2 2 2).put Reg.CGU_STAT_LOADS 1).put Reg.CGU_STAT_DWELL 1, by decide⟩,
   ⟨run, by decide⟩,
   ⟨.host, clocked run, _, rfl, by decide⟩,
   ⟨.host, (clocked run).put Reg.CGU_STAT_LOADS 1, _, rfl, by decide⟩⟩

theorem witness_ClockFailuresAreHandled :
    (∃ (s : State), s.lrc = 2 ∧ (s.hrc = 2 ∨ s.mode = mdSLEEP)) ∧
    (∃ (s : State), s.lrc = 2 ∧ (s.hrc = 2 ∨ s.mode = mdSLEEP)) ∧
    (∃ (s : State), s.heelStands = false ∧ s.hrc = 2 ∧ (s.xtal = 2 ∨ s.flag Reg.CGU_STAT_LOADS = true)) ∧
    (∃ (s : State), s.heelStands = false ∧ s.xtal = 2 ∧ (s.hrc = 2 ∨ s.flag Reg.CGU_STAT_SYSREF = true)) ∧
    (∃ (s : State), s.heelStands = false ∧ s.sdsref = 2) ∧
    (∃ (c : Clock) (s : State), (s.clock c ≠ 2 ∨ s.stopSeen c = false ∨ s.heelStands = true)) ∧
    (∃ (c : Clock) (s : State), (s.clock c ≠ 2 ∨ s.stopSeen c = false ∨ s.heelStands = true)) ∧
    (∃ (x : Nat) (h : Nat) (d : Nat) (s : State), xtalInWindow x = true ∧ hrcInWindow h = true ∧ sdsrefInWindow d = true) ∧
    (∃ (x : Nat) (h : Nat) (d : Nat) (s : State), s.lrc = 2 ∧ s.hrc = 2 ∧ s.xtal = 2 ∧ sdsrefInWindow d = true) ∧
    (∃ (x : Nat) (h : Nat) (d : Nat) (s : State), s.lrc = 2 ∧ s.hrc = 2 ∧ s.xtal = 2 ∧ sdsrefInWindow d = true) ∧
    (∃ (x : Nat) (h : Nat) (d : Nat) (s : State), s.lrc = 2 ∧ s.hrc = 2 ∧ s.xtal = 2 ∧ sdsrefInWindow d = true) ∧
    (∃ (x : Nat) (h : Nat) (d : Nat) (s : State), s.lrc = 2 ∧ s.hrc = 2 ∧ s.xtal ≠ 2 ∧ hrcInWindow h = false) ∧
    (∃ (x : Nat) (h : Nat) (d : Nat) (s : State), s.heelStands = false ∧ s.sdsref = 2 ∧ s.xtal = 2 ∧ xtalInWindow x = true ∧ hrcInWindow h = true ∧ sdsrefInWindow d = false) ∧
    (∃ (s : State), s.heelStands = false ∧ s.flag Reg.CGU_STAT_SYSREF = false ∧ s.flag Reg.CGU_STAT_LOADS = false ∧ s.xtal = 2 ∧ s.hrc = 2) ∧
    (∃ (s : State) (u : State), s.heelStands = false ∧ s.hrc = 2 ∧ s.flag Reg.CGU_STAT_LOADS = true ∧ u = ((s.put Reg.CGU_STAT_HRC 3).raise Reg.CGU_IRQ_HRC_FAIL).fault pgCGU 0x0302) ∧
    (∃ (s : State) (u : State), s.heelStands = false ∧ s.hrc = 2 ∧ s.xtal = 2 ∧ s.flag Reg.CGU_STAT_LOADS = false ∧ u = ((s.put Reg.CGU_STAT_HRC 3).raise Reg.CGU_IRQ_HRC_FAIL).fault pgCGU 0x0302) :=
  ⟨⟨clocked run, by decide⟩,
   ⟨(clkIn 2 0 0 0).put Reg.PWR_MODE_MODE mdSLEEP, by decide⟩,
   ⟨clocked run, by decide⟩,
   ⟨clocked run, by decide⟩,
   ⟨clocked run, by decide⟩,
   ⟨.xtal, clkIn 2 2 1 0, by decide⟩,
   ⟨.hrc, clkIn 2 2 1 0, by decide⟩,
   ⟨2450, 26250, 156094, run, by decide⟩,
   ⟨2449, 26251, 156250, clocked run, by decide⟩,
   ⟨2551, 25000, 156250, clocked run, by decide⟩,
   ⟨2500, 23749, 156250, clocked run, by decide⟩,
   ⟨0, 26251, 0, clkIn 2 2 1 0, by decide⟩,
   ⟨2500, 25000, 156093, clocked run, by decide⟩,
   ⟨clocked run, by decide⟩,
   ⟨(clocked run).put Reg.CGU_STAT_LOADS 1, _, by decide, by decide, by decide, rfl⟩,
   ⟨clocked run, _, by decide, by decide, by decide, by decide, rfl⟩⟩

theorem witness_TrimWindowsMoveTheCodes :
    (∃ (n : Nat) (e : Int) (s : State), s.xtal = 2 ∧ s.flag Reg.CGU_STAT_LOADS = false ∧ s.hrc = 2 ∧ e = 10 * ((n : Int) - 100000)) ∧
    (∃ (n : Nat) (e : Int) (s : State), s.xtal = 2 ∧ s.flag Reg.CGU_STAT_LOADS = false ∧ s.hrc = 2 ∧ e = 10 * ((n : Int) - 100000)) ∧
    (∃ (n : Nat) (s : State), (s.xtal ≠ 2 ∨ s.flag Reg.CGU_STAT_LOADS = true ∨ s.hrc ≠ 2)) ∧
    (∃ (l : List TrimFrame) (s : State) (n : Nat), s.flag Reg.CGU_STAT_LOADS = true ∧ s.hrc = 2 ∧ s.fbSrc = 1 ∧ n = (l.filter (fun x => !x.own && !x.bad)).length ∧ n < 16) ∧
    (∃ (l : List TrimFrame) (s : State) (n : Nat), s.flag Reg.CGU_STAT_LOADS = true ∧ s.hrc = 2 ∧ s.fbSrc = 1 ∧ n = (l.filter (fun x => !x.own && !x.bad)).length ∧ n < 16) ∧
    (∃ (l : List TrimFrame) (v : List TrimFrame) (s : State) (g : List (Nat × Nat)) (m : Nat) (x : Nat), s.flag Reg.CGU_STAT_LOADS = true ∧ s.hrc = 2 ∧ s.fbSrc = 1 ∧ v = l.filter (fun y => !y.own && !y.bad) ∧ 16 ≤ v.length ∧ g = (v.flatMap (fun y => y.gaps)).filterMap (fun d => (gapBits (s.nominalBit s.fbIdx) d).map (fun k => (d, k * s.nominalBit s.fbIdx))) ∧ m = (g.map Prod.fst).sum ∧ x = (g.map Prod.snd).sum) ∧
    (∃ (l : List PlcaCycle) (v : List PlcaCycle) (s : State), s.flag Reg.CGU_STAT_LOADS = true ∧ s.hrc = 2 ∧ s.fbSrc = 2 ∧ v = l.filter (fun y => y.empty)) ∧
    (∃ (l : List PlcaCycle) (s : State) (n : Nat), s.flag Reg.CGU_STAT_LOADS = true ∧ s.hrc = 2 ∧ s.fbSrc = 2 ∧ n = (l.filter (fun y => y.empty)).length ∧ (n < 16 ∨ s.beaconNs = 0)) ∧
    (∃ (l : List PlcaCycle) (s : State) (n : Nat), s.flag Reg.CGU_STAT_LOADS = true ∧ s.hrc = 2 ∧ s.fbSrc = 2 ∧ n = (l.filter (fun y => y.empty)).length ∧ (n < 16 ∨ s.beaconNs = 0)) ∧
    (∃ (l : List TrimFrame) (v : List PlcaCycle) (s : State), (s.flag Reg.CGU_STAT_LOADS = false ∨ s.fbSrc = 0 ∨ s.hrc ≠ 2)) ∧
    (∃ (e : Int) (s : State), s.xtal = 2 ∧ s.lrc = 2) ∧
    (∃ (e : Int) (s : State), (s.xtal ≠ 2 ∨ s.lrc ≠ 2)) :=
  ⟨⟨99970, -300, clocked run, by decide⟩,
   ⟨100003, 30, (clocked run).put Reg.CGU_CTRL_TRIM_HOLD 1, by decide⟩,
   ⟨100000, clkIn 2 2 1 0, by decide⟩,
   ⟨List.replicate 15 ⟨false, false, [20]⟩ ++ [⟨true, false, [20]⟩, ⟨false, true, [20]⟩], fallback 1 63, 15, by decide⟩,
   ⟨[], fallback 1 0, 0, by decide⟩,
   ⟨List.replicate 16 ⟨false, false, [12]⟩, List.replicate 16 ⟨false, false, [12]⟩, fallback 1 0, List.replicate 16 (12, 12), 192, 192, by decide⟩,
   ⟨List.replicate 16 ⟨true, 40000⟩ ++ [⟨false, 1⟩], List.replicate 16 ⟨true, 40000⟩, fallback 2 24, by decide⟩,
   ⟨List.replicate 15 ⟨true, 40000⟩, fallback 2 31, 15, by decide⟩,
   ⟨List.replicate 300 ⟨true, 40000⟩, fallback 2 31, 300, by decide⟩,
   ⟨[], [], clocked run, by decide⟩,
   ⟨5000, clocked run, by decide⟩,
   ⟨5000, clkIn 1 2 2 2, by decide⟩⟩

theorem witness_DomainsAndSuppliesFollow :
    (∃ (m : Master) (d : Fin 19) (z : State) (s : State), s = z.sent m ∧ s.grants m pgPWR ∧ d.val ≠ 0 ∧ bit (s.domReq m) d.val = false ∧ m ≠ .sideband) ∧
    (∃ (m : Master) (d : Fin 19) (z : State) (s : State), s = z.sent m ∧ s.grants m pgPWR ∧ d.val ≠ 0 ∧ bit (s.domReq m) d.val = false ∧ m ≠ .sideband) ∧
    (∃ (m : Master) (d : Fin 19) (on : Bool) (z : State) (s : State), s = z.sent m ∧ s.grants m pgPWR ∧ (d.val = 0 ∨ bit (s.domReq m) d.val = on)) ∧
    (∃ (m : Master) (d : Fin 19) (on : Bool) (z : State) (s : State), s = z.sent m ∧ s.grants m pgPWR ∧ (d.val = 0 ∨ bit (s.domReq m) d.val = on)) ∧
    (∃ (m : Master) (d : Fin 19) (z : State) (s : State), s = z.sent m ∧ s.serves m pgPWR ∧ s.ownedByOther m (pageGroup pgPWR) = false ∧ d.val ≠ 0 ∧ bit (s.domReq m) d.val = true ∧ (m = .host → d.val ≠ 2)) ∧
    (∃ (m : Master) (d : Fin 19) (z : State) (s : State), s = z.sent m ∧ s.serves m pgPWR ∧ s.ownedByOther m (pageGroup pgPWR) = false ∧ d.val ≠ 0 ∧ bit (s.domReq m) d.val = true ∧ (m = .host → d.val ≠ 2)) ∧
    (∃ (z : State) (s : State), s = z.sent .host ∧ s.grants .host pgPWR ∧ bit (s.domReq .host) 2 = true) ∧
    (∃ (d : Fin 19) (s : State), bit s.pwr.rising d.val = true ∧ d.val ≠ 8) ∧
    (∃ (d : Fin 19) (s : State), bit s.pwr.rising d.val = true) ∧
    (∃ (d : Fin 19) (s : State), bit s.pwr.rising d.val = false) ∧
    (∃ (s : State), s.pwr.drain = true ∧ (∀ c ∈ s.sole.taken, c.1 < 65536)) ∧
    (∃ (s : State), s.pwr.drain = true ∧ (∃ c ∈ s.sole.taken, 65536 ≤ c.1)) ∧
    (∃ (s : State), s.pwr.drain = true) ∧
    (∃ (s : State), s.pwr.drain = false) ∧
    (∃ (d : Fin 19) (r : Nat) (s : State), bit s.pwr.powered d.val = true ∧ bit s.pwr.tested d.val = false ∧ d.val ≠ 0) ∧
    (∃ (n : Fin 2) (s : State), s.heelStands = false ∧ bit s.pwr.low n.val = false ∧ s.mode ≠ mdSLEEP ∧ s.mode ≠ mdOFF ∧ s.pwr.down = false) ∧
    (∃ (n : Fin 2) (s : State), s.heelStands = false ∧ bit s.pwr.low n.val = false ∧ s.mode ≠ mdSLEEP ∧ s.mode ≠ mdOFF ∧ s.pwr.down = false) ∧
    (∃ (n : Fin 2) (s : State), (s.heelStands = true ∨ bit s.pwr.low n.val = true ∨ s.mode = mdSLEEP ∨ s.mode = mdOFF ∨ s.pwr.down = true)) ∧
    (∃ (n : Fin 2) (s : State), (s.heelStands = true ∨ bit s.pwr.low n.val = true ∨ s.mode = mdSLEEP ∨ s.mode = mdOFF ∨ s.pwr.down = true)) ∧
    (∃ (n : Fin 2) (v : Fin 8192) (s : State), s.heelStands = false ∧ bit s.pwr.low n.val = true) :=
  ⟨⟨.host, 18, run, _, rfl, by decide⟩,
   ⟨.firmware, 1, run, _, rfl, by decide⟩,
   ⟨.host, 0, true, run, _, rfl, by decide⟩,
   ⟨.sideband, 18, false, sb, _, rfl, by decide⟩,
   ⟨.firmware, 2, run.put Reg.PWR_DOM_REQ_REQ 2 0 0 2, _, rfl, by decide⟩,
   ⟨.host, 18, run.put Reg.PWR_DOM_REQ_REQ 0x20000 0 0 0, _, rfl, by decide⟩,
   ⟨run.put Reg.PWR_DOM_REQ_REQ 2 0 0 0, _, rfl, by decide⟩,
   ⟨18, run.pwrSet (fun w => { w with powered := 2, rising := 0x40000 }), by decide⟩,
   ⟨1, run.pwrSet (fun w => { w with powered := 0, rising := 2 }), by decide⟩,
   ⟨18, run, by decide⟩,
   ⟨{ run with pwr := { run.pwr with drain := true }, sole := { run.sole with taken := [(65535, .shared)] } }, by decide⟩,
   ⟨{ run with pwr := { run.pwr with drain := true }, sole := { run.sole with taken := [(65536, .shared)] } }, by decide⟩,
   ⟨run.pwrSet (fun w => { w with drain := true }), by decide⟩,
   ⟨run, by decide⟩,
   ⟨18, 3, run.pwrSet (fun w => { w with tested := 0x3FFFE }), by decide⟩,
   ⟨1, run, by decide⟩,
   ⟨0, run, by decide⟩,
   ⟨1, run.pwrSet (fun w => { w with low := 2 }), by decide⟩,
   ⟨0, run.put Reg.PWR_MODE_MODE mdSLEEP, by decide⟩,
   ⟨1, 8191, (late run).pwrSet (fun w => { w with low := 2, dipAt := [(1, 8999000000)] }), by decide⟩⟩

theorem witness_ResetsClearAndSample :
    (∃ (n : Fin 2) (s : State), s.mode ≠ mdSLEEP ∧ s.mode ≠ mdOFF ∧ s.pwr.down = false) ∧
    (∃ (n : Fin 2) (s : State), s.mode ≠ mdSLEEP ∧ s.mode ≠ mdOFF ∧ s.pwr.down = false) ∧
    (∃ (n : Fin 2) (s : State), (s.mode = mdSLEEP ∨ s.mode = mdOFF)) ∧
    (∃ (n : Fin 2) (s : State), (s.mode = mdSLEEP ∨ s.mode = mdOFF)) ∧
    (∃ (n : Fin 2) (s : State), s.mode ≠ mdSLEEP ∧ s.mode ≠ mdOFF ∧ s.pwr.down = true) ∧
    (∃ (x : Straps) (s : State), s.pwr.down = true) ∧
    (∃ (x : Straps) (s : State), s.pwr.down = false) ∧
    (∃ (x : Straps) (s : State), s.mode ≠ mdOFF ∧ s.mode ≠ mdSLEEP) ∧
    (∃ (x : Straps) (s : State), s.mode = mdSLEEP) ∧
    (∃ (x : Straps) (s : State), s.mode ≠ mdOFF) ∧
    (∃ (x : Straps) (s : State), s.mode ≠ mdOFF) ∧
    (∃ (x : Straps) (s : State), s.mode = mdOFF) ∧
    (∃ (m : Master) (z : State) (s : State), s = z.sent m ∧ s.grants m 0) ∧
    (∃ (m : Master) (z : State) (s : State), s = z.sent m ∧ s.grants m 0) ∧
    (∃ (m : Master) (z : State) (s : State), s = z.sent m ∧ s.grants m 0) ∧
    (∃ (m : Master) (z : State) (s : State), s = z.sent m ∧ s.grants m 0) ∧
    (∃ (m : Master) (k : Fin 65536) (z : State) (s : State), s = z.sent m ∧ s.grants m 0 ∧ k.val ≠ 0x5AFE) :=
  ⟨⟨0, withF (clocked run) [out0], by decide⟩,
   ⟨1, rich, by decide⟩,
   ⟨0, run.put Reg.PWR_MODE_MODE mdSLEEP, by decide⟩,
   ⟨1, run.put Reg.PWR_MODE_MODE mdOFF, by decide⟩,
   ⟨0, run.pwrSet (fun w => { w with down := true, gone := 2 }), by decide⟩,
   ⟨⟨1, true, false⟩, run.pwrSet (fun w => { w with down := true }), by decide⟩,
   ⟨⟨1, true, false⟩, run, by decide⟩,
   ⟨⟨2, true, true⟩, run, by decide⟩,
   ⟨⟨0, true, true⟩, run.put Reg.PWR_MODE_MODE mdSLEEP, by decide⟩,
   ⟨⟨0, true, true⟩, rich, by decide⟩,
   ⟨⟨3, true, true⟩, run.put Reg.PWR_MODE_MODE mdSLEEP, by decide⟩,
   ⟨⟨0, true, true⟩, run.put Reg.PWR_MODE_MODE mdOFF, by decide⟩,
   ⟨.host, run, _, rfl, by decide⟩,
   ⟨.host, rich, _, rfl, by decide⟩,
   ⟨.host, run, _, rfl, by decide⟩,
   ⟨.host, run.put Reg.LST_STAT_LOADED 0, _, rfl, by decide⟩,
   ⟨.host, 0x5AFF, run, _, rfl, by decide⟩⟩

theorem witness_PagesTakeTheirCommands :
    (∃ (m : Master) (p : Fin 4096) (z : State) (s : State), s = z.sent m ∧ s.grants m p.val ∧ fixedType (pageType p.val) = false) ∧
    (∃ (m : Master) (p : Fin 4096) (z : State) (s : State), s = z.sent m ∧ s.grants m p.val ∧ fixedType (pageType p.val) = true) ∧
    (∃ (p : Fin 4096) (s : State), s.pageHeld p.val = true ∧ s.resetRuns p.val = false) ∧
    (∃ (p : Fin 4096) (s : State), (s.pageHeld p.val = false ∨ s.resetRuns p.val = true)) ∧
    (∃ (m : Master) (p : Fin 4096) (on : Bool) (z : State) (s : State), s = z.sent m ∧ s.grants m p.val ∧ fixedType (pageType p.val) = false ∧ pageType p.val ≠ 0x1A ∧ s.flag Reg.PG_CTRL_ENABLE p.val = !on) ∧
    (∃ (m : Master) (p : Fin 4096) (on : Bool) (z : State) (s : State), s = z.sent m ∧ s.grants m p.val ∧ fixedType (pageType p.val) = false ∧ pageType p.val ≠ 0x1A ∧ s.flag Reg.PG_CTRL_ENABLE p.val = !on) ∧
    (∃ (m : Master) (p : Fin 4096) (on : Bool) (z : State) (s : State), s = z.sent m ∧ s.heelStands = false ∧ pageDefined p.val = true ∧ (fixedType (pageType p.val) = true ∨ s.flag Reg.PG_CTRL_ENABLE p.val = on)) ∧
    (∃ (m : Master) (p : Fin 4096) (on : Bool) (z : State) (s : State), s = z.sent m ∧ s.heelStands = false ∧ pageDefined p.val = true ∧ (fixedType (pageType p.val) = true ∨ s.flag Reg.PG_CTRL_ENABLE p.val = on)) ∧
    (∃ (m : Master) (p : Fin 4096) (on : Bool) (z : State) (s : State), s = z.sent m ∧ (m = .sideband → s.sbOn = true) ∧ s.heelStands = false ∧ pageDefined p.val = false) ∧
    (∃ (m : Master) (p : Fin 4096) (on : Bool) (z : State) (s : State), s = z.sent m ∧ (m = .sideband → s.sbOn = true) ∧ s.heelStands = false ∧ pageDefined p.val = false) ∧
    (∃ (m : Master) (p : Fin 4096) (w : Word) (z : State) (s : State), s = z.sent m ∧ s.serves m p.val ∧ s.ownedByOther m (pageGroup p.val) = false) ∧
    (∃ (m : Master) (p : Fin 4096) (o : Fin 4096) (w : Word) (z : State) (s : State), s = z.sent m ∧ s.grants m p.val ∧ 0x80 ≤ o.val ∧ s.writePath m p.val o.val w.toNat = .gate (fun t => t.writeFields m p.val o.val w.toNat)) ∧
    (∃ (p : Fin 4096) (o : Fin 4096) (w : Word) (k : State → State) (s : State), s.sbOn = true ∧ s.heelStands = false ∧ 0x80 ≤ o.val ∧ s.writePath .sideband p.val o.val w.toNat = .gate k ∧ s.pagePowered p.val = false ∧ pageDefined p.val = true) ∧
    (∃ (m : Master) (p : Fin 4096) (o : Fin 4096) (s : State), (m = .sideband → s.sbOn = true) ∧ s.readErr p.val o.val = none) ∧
    (∃ (p : Fin 4096) (o : Fin 4096) (e : AccErr) (s : State), s.readErr p.val o.val = some e) ∧
    (∃ (p : Fin 4096) (o : Fin 4096) (e : AccErr) (s : State), s.readErr p.val o.val = some e) ∧
    (∃ (p : Fin 4096) (o : Fin 4096) (w : Word) (s : State), s.sbOn = false) ∧
    (∃ (m : Master) (n : Fin 4) (s : State), s.serves m (0x060 + n.val)) ∧
    (∃ (m : Master) (c : Fin 24) (s : State), s.serves m (0x040 + c.val)) ∧
    (∃ (m : Master) (p : Fin 32) (k : Fin 40) (s : State) (u : State), s.serves m (0x0D0 + p.val) ∧ u = (if k.val = 29 then s.heldSync p.val else s)) ∧
    (∃ (m : Master) (p : Fin 32) (k : Fin 40) (s : State) (u : State), s.serves m (0x0D0 + p.val) ∧ u = (if k.val = 29 then s.heldSync p.val else s)) ∧
    (∃ (m : Master) (e : Fin 16) (s : State), s.serves m (0x110 + e.val)) :=
  ⟨⟨.host, 0x171, run, _, rfl, by decide⟩,
   ⟨.host, 0x001, run, _, rfl, by decide⟩,
   ⟨0x171, run.put Reg.PG_CTRL_BLOCK_RESET 1 0x171, by decide⟩,
   ⟨0xFFF, run, by decide⟩,
   ⟨.host, 0x171, true, run.put Reg.PG_CTRL_ENABLE 0 0x171, _, rfl, by decide⟩,
   ⟨.host, 0x040, false, run.put Reg.PG_CTRL_ENABLE 1 0x040, _, rfl, by decide⟩,
   ⟨.host, 0, true, run, _, rfl, by decide⟩,
   ⟨.host, 0x171, false, run.put Reg.PG_CTRL_ENABLE 0 0x171, _, rfl, by decide⟩,
   ⟨.host, 0x172, true, run, _, rfl, by decide⟩,
   ⟨.sideband, 0xFFF, false, sb, _, rfl, by decide⟩,
   ⟨.host, 0x171, 0xFFFFFFFF, run, _, rfl, by decide⟩,
   ⟨.host, 0x040, 0x100, 1, run, _, rfl, by decide, by decide, rfl⟩,
   ⟨0x060, 0x100, 0, fun t => t.writeFields .sideband 0x060 0x100 0, State.reset.put Reg.DEV_STRAPS_SB_EN 1, by decide, by decide, by decide, rfl, by decide, by decide⟩,
   ⟨.host, 0x171, 0x080, run, by decide⟩,
   ⟨0xFFF, 0x080, .reserved, run, by decide⟩,
   ⟨0x060, 0x084, .notPowered, State.reset, by decide⟩,
   ⟨0x171, 0x080, 1, run.put Reg.DEV_STRAPS_SB_EN 0, by decide⟩,
   ⟨.sideband, 3, sb.put Reg.FAB_XFER_FULL 0x1234567890 3, by decide⟩,
   ⟨.host, 23, run.put Reg.CLR_FRAMES_FULL 0x1234567890 23, by decide⟩,
   ⟨.host, 31, 39, run.put Reg.MAC_CNT_FULL 0x1234567890 31 39, _, by decide, rfl⟩,
   ⟨.firmware, 0, 29, late (run.put Reg.MAC_CNT_FULL 0x1234567890 0 29), _, by decide, rfl⟩,
   ⟨.host, 15, run.put Reg.AWL_MSGS_FULL 0x1234567890 15, by decide⟩⟩

theorem witness_SnapshotsGiveCountsToTheirMaster :
    (∃ (m : Master) (h : Fin 65536) (z : State) (s : State), s = z.sent m ∧ s.serves m pgRUL) ∧
    (∃ (m : Master) (h : Fin 65536) (z : State) (s : State), s = z.sent m ∧ s.grants m pgRUL) ∧
    (∃ (m : Master) (h : Fin 65536) (z : State) (s : State), s = z.sent m ∧ s.serves m pgRUL ∧ s.ownedByOther m (pageGroup pgRUL) = true) ∧
    (∃ (m : Master) (n : Fin 16384) (z : State) (s : State), s = z.sent m ∧ s.serves m pgMTR) ∧
    (∃ (m : Master) (n : Fin 16384) (z : State) (s : State), s = z.sent m ∧ s.grants m pgMTR) ∧
    (∃ (m : Master) (n : Fin 16384) (z : State) (s : State), s = z.sent m ∧ s.grants m pgMTR) ∧
    (∃ (m : Master) (p : Fin 64) (v : Fin 8) (z : State) (s : State), s = z.sent m ∧ s.serves m pgSOL ∧ p.val ≤ 36) ∧
    (∃ (m : Master) (p : Fin 64) (v : Fin 8) (z : State) (s : State), s = z.sent m ∧ s.grants m pgSOL ∧ p.val ≤ 36) ∧
    (∃ (m : Master) (p : Fin 64) (v : Fin 8) (z : State) (s : State), s = z.sent m ∧ s.grants m pgSOL ∧ 36 < p.val) ∧
    (∃ (m : Master) (p : Fin 37) (u : Fin 2048) (k : Nat) (z : State) (s : State), s = z.sent m ∧ s.serves m (0x070 + p.val) ∧ s.subPlace u.val = some k ∧ k / 8 = p.val) ∧
    (∃ (m : Master) (p : Fin 37) (u : Fin 2048) (z : State) (s : State), s = z.sent m ∧ s.serves m (0x070 + p.val) ∧ s.subPlace u.val = none) ∧
    (∃ (m : Master) (p : Fin 37) (q : Fin 8192) (z : State) (s : State), s = z.sent m ∧ s.serves m (0x070 + p.val) ∧ s.ownsQueue p.val q.val = true) ∧
    (∃ (m : Master) (p : Fin 37) (q : Fin 8192) (z : State) (s : State), s = z.sent m ∧ s.serves m (0x070 + p.val) ∧ s.ownsQueue p.val q.val = false) ∧
    (∃ (m : Master) (e : Fin 16) (r : Fin 16384) (z : State) (s : State), s = z.sent m ∧ s.serves m (0x110 + e.val) ∧ r.val / 1024 = e.val) ∧
    (∃ (m : Master) (e : Fin 16) (r : Fin 16384) (z : State) (s : State), s = z.sent m ∧ s.grants m (0x110 + e.val) ∧ r.val / 1024 = e.val) ∧
    (∃ (m : Master) (e : Fin 16) (r : Fin 16384) (z : State) (s : State), s = z.sent m ∧ s.serves m (0x110 + e.val) ∧ r.val / 1024 ≠ e.val) ∧
    (∃ (m : Master) (n : Fin 32) (z : State) (s : State), s = z.sent m ∧ s.serves m pgWAK) ∧
    (∃ (m : Master) (c : Fin 64) (z : State) (s : State), s = z.sent m ∧ s.serves m pgTXM) ∧
    (∃ (m : Master) (d : Fin 2) (z : State) (s : State), s = z.sent m ∧ s.serves m pgTIM) :=
  ⟨⟨.host, 65535, run.clrSet (fun x => { x with fcFrames := [(65535, 0x1234567890)], fcBytes := [(65535, 7)] }), _, rfl, by decide⟩,
   ⟨.sideband, 65535, run.clrSet (fun x => { x with fcFrames := [(3, 5), (65535, 0x1234567890)], fcBytes := [(65535, 7)] }), _, rfl, by decide⟩,
   ⟨.host, 65535, run.put Reg.DEV_OWNER_OWNER 0xAAAAAAAA, _, rfl, by decide⟩,
   ⟨.host, 16383, run.clrSet (fun x => { x with meters := [(16383, ⟨1, 2, 3, 4, 5, 6⟩)] }), _, rfl, by decide⟩,
   ⟨.host, 16383, run.clrSet (fun x => { x with meters := [(16383, ⟨1, 2, 3, 4, 5, 6⟩)] }), _, rfl, by decide⟩,
   ⟨.host, 16383, run.clrSet (fun x => { x with meters := [(16383, ⟨1, 2, 3, 4, 5, 6⟩)] }), _, rfl, by decide⟩,
   ⟨.host, 36, 7, { run with sole := { Sole.init with drops := [(1180, 3), (1183, 4)] } }, _, rfl, by decide⟩,
   ⟨.host, 36, 7, { run with sole := { Sole.init with drops := [(1179, 1), (1180, 3), (1183, 4)] } }, _, rfl, by decide⟩,
   ⟨.host, 37, 0, run, _, rfl, by decide⟩,
   ⟨.host, 32, 0, 263, queue0 run 36 7, _, rfl, by decide⟩,
   ⟨.host, 36, 2047, run, _, rfl, by decide⟩,
   ⟨.host, 32, 0, queue0 run 36 7, _, rfl, by decide⟩,
   ⟨.host, 36, 8191, run, _, rfl, by decide⟩,
   ⟨.host, 15, 15360, run.awlSet (fun a => { a with hits := [(15360, 5)], drops := [(15360, 6)] }), _, rfl, by decide⟩,
   ⟨.host, 15, 16383, run.awlSet (fun a => { a with hits := [(16383, 5)], drops := [(16383, 6)] }), _, rfl, by decide⟩,
   ⟨.host, 15, 15359, run, _, rfl, by decide⟩,
   ⟨.host, 31, run.wakSet (fun w => { w with wakes := [(31, 70000)] }), _, rfl, by decide⟩,
   ⟨.host, 63, run, _, rfl, by decide⟩,
   ⟨.firmware, 1, { run with tim := { Tim.init 0 with clk1 := 5000000001 * 2 ^ 32 } }, _, rfl, by decide⟩⟩

theorem witness_DomainsKeepTime :
    (∃ (s : State) (u : State), s.timOn = true ∧ u = { s with tim := { s.tim with elapsed := tickBy (s.rate 0) s.tim.elapsed, clk0 := if s.domEn 0 = true then tickBy (s.rate 0) s.tim.clk0 else s.tim.clk0, clk1 := if s.domEn 1 = true then tickBy (s.rate 1) s.tim.clk1 else s.tim.clk1 } }) ∧
    (∃ (s : State) (u : State), s.timOn = false ∧ u = { s with tim := { s.tim with elapsed := tickBy (if s.timHere = true then s.rate 0 else 0) s.tim.elapsed } }) ∧
    (∃ (d : Fin 2) (n : Nat) (s : State) (u : State), s.timOn = true ∧ u = ((s.clkSet d.val (n * 2 ^ 32)).goodSet d.val 0).put Reg.TIM_DOM_STAT_STEPS (min 255 (((s.clkSet d.val (n * 2 ^ 32)).goodSet d.val 0).get Reg.TIM_DOM_STAT_STEPS 0 d.val + 1)) 0 d.val) ∧
    (∃ (d : Fin 2) (r : Int) (s : State), s.timHere = true ∧ s.get Reg.TIM_DOM_STAT_STATE 0 d.val ≠ 3) ∧
    (∃ (d : Fin 2) (r : Int) (s : State), s.timHere = true ∧ s.get Reg.TIM_DOM_STAT_STATE 0 d.val ≠ 3) ∧
    (∃ (d : Fin 2) (r : Int) (s : State), s.get Reg.TIM_DOM_STAT_STATE 0 d.val = 3) ∧
    (∃ (d : Fin 2) (o : Int) (s : State) (u : State), s.timOn = true ∧ s.flag Reg.TIM_DOM_STAT_GM 0 d.val = false ∧ s.get Reg.TIM_DOM_STAT_STATE 0 d.val = 1 ∧ s.goodSyncs d.val = 7 ∧ u = s.put Reg.TIM_OFFSET_OFFSET (ofSigned 32 (clampInt (-2147483648) 2147483647 o)) 0 d.val) ∧
    (∃ (d : Fin 2) (s : State), s.get Reg.TIM_DOM_STAT_STATE 0 d.val = 2 ∧ s.flag Reg.TIM_DOM_STAT_GM 0 d.val = false) ∧
    (∃ (d : Fin 2) (s : State), s.get Reg.TIM_DOM_STAT_STATE 0 d.val = 3) ∧
    (∃ (d : Fin 2) (s : State), s.get Reg.TIM_DOM_STAT_STATE 0 d.val < 2) ∧
    (∃ (d : Fin 2) (b : Bool) (s : State), s.timOn = true) ∧
    (∃ (d : Fin 2) (s : State), s.timOn = true ∧ s.flag Reg.TIM_DOM_STAT_GM 0 d.val = true) :=
  ⟨⟨clocked run, _, by decide, rfl⟩,
   ⟨State.reset, _, by decide, rfl⟩,
   ⟨1, 4294967296, run, (((run.clkSet 1 (4294967296 * 2 ^ 32)).goodSet 1 0).put Reg.TIM_DOM_STAT_STEPS (min 255 (((run.clkSet 1 (4294967296 * 2 ^ 32)).goodSet 1 0).get Reg.TIM_DOM_STAT_STEPS 0 1 + 1)) 0 1), by decide⟩,
   ⟨1, 4294968, run, by decide⟩,
   ⟨0, -4294967, run, by decide⟩,
   ⟨1, 7, run.put Reg.TIM_DOM_STAT_STATE 3 0 1, by decide⟩,
   ⟨1, 100, (run.put Reg.TIM_DOM_STAT_STATE 1 0 1).goodSet 1 7, ((run.put Reg.TIM_DOM_STAT_STATE 1 0 1).goodSet 1 7).put Reg.TIM_OFFSET_OFFSET (ofSigned 32 (clampInt (-2147483648) 2147483647 100)) 0 1, by decide⟩,
   ⟨1, run.put Reg.TIM_DOM_STAT_STATE 2 0 1, by decide⟩,
   ⟨1, run.put Reg.TIM_DOM_STAT_STATE 3 0 1, by decide⟩,
   ⟨1, run.put Reg.TIM_DOM_STAT_STATE 1 0 1, by decide⟩,
   ⟨1, true, run, by decide⟩,
   ⟨1, run.put Reg.TIM_DOM_STAT_GM 1 0 1, by decide⟩⟩

theorem witness_TimePinsWork :
    (∃ (m : Master) (z : State) (s : State), s = z.sent m ∧ s.grants m pgTIM ∧ s.flag Reg.TIM_SYNC_CFG_EN = false) ∧
    (∃ (m : Master) (z : State) (s : State), s = z.sent m ∧ s.grants m pgTIM ∧ s.flag Reg.TIM_SYNC_CFG_EN = true ∧ s.tim.syncO = 0) ∧
    (∃ (r : Bool) (s : State), (s.timOn = false ∨ s.get Reg.TIM_SYNC_STAT_STATE ≠ 1 ∨ r = (s.tim.syncPol == 1))) ∧
    (∃ (r : Bool) (s : State) (p : Int) (e : Int) (o : Int), s.timOn = true ∧ s.get Reg.TIM_SYNC_STAT_STATE = 1 ∧ r = !(s.tim.syncPol == 1) ∧ p = max 1 (s.tim.syncPeriod : Int) ∧ e = (s.dom s.tim.syncDomain : Int) - toSigned 16 (s.get Reg.TIM_SYNC_DELAY_DELAY) ∧ o = (e - s.tim.syncO - s.syncBase + p / 2) % p - p / 2 ∧ 4 * (o.natAbs : Int) ≤ p ∧ s.tim.syncTarget = none ∧ (s.tim.syncO + o).natAbs ≤ 250000) ∧
    (∃ (r : Bool) (s : State) (p : Int) (e : Int) (o : Int), s.timOn = true ∧ s.get Reg.TIM_SYNC_STAT_STATE = 1 ∧ r = !(s.tim.syncPol == 1) ∧ p = max 1 (s.tim.syncPeriod : Int) ∧ e = (s.dom s.tim.syncDomain : Int) - toSigned 16 (s.get Reg.TIM_SYNC_DELAY_DELAY) ∧ o = (e - s.tim.syncO - s.syncBase + p / 2) % p - p / 2 ∧ 4 * (o.natAbs : Int) ≤ p ∧ s.tim.syncTarget = none ∧ (s.tim.syncO + o).natAbs ≤ 250000) ∧
    (∃ (s : State) (x : Int), s.timOn = true ∧ s.get Reg.TIM_SYNC_STAT_STATE = 1 ∧ s.tim.syncTarget = some x) ∧
    (∃ (s : State) (u : State), s.timOn = true ∧ s.get Reg.TIM_SYNC_STAT_STATE = 1 ∧ s.tim.syncTarget = none ∧ u = (s.syncSetO (s.tim.syncO + s.syncDue)).timSet (fun t => { t with syncTarget := none, syncRest := s.syncWant - s.syncDue })) ∧
    (∃ (s : State), s.timOn = true ∧ s.flag Reg.TIM_PPS_EN = true ∧ s.get Reg.TIM_DOM_STAT_STATE 0 (s.get Reg.TIM_PPS_DOMAIN) ≠ 0) ∧
    (∃ (s : State), (s.timOn = false ∨ s.flag Reg.TIM_PPS_EN = false ∨ s.get Reg.TIM_DOM_STAT_STATE 0 (s.get Reg.TIM_PPS_DOMAIN) = 0)) ∧
    (∃ (k : Fin 4) (w : Nat) (s : State), s.timOn = true ∧ s.flag Reg.TIM_EVT_CFG_EN 0 k.val = true ∧ s.get Reg.TIM_EVT_CFG_EDGE 0 k.val = 3 ∧ 2 * s.get Reg.TIM_EVT_CFG_FILTER 0 k.val ≤ w ∧ (s.evts k.val).length < 16) ∧
    (∃ (k : Fin 4) (w : Nat) (s : State), s.timOn = true ∧ s.flag Reg.TIM_EVT_CFG_EN 0 k.val = true ∧ s.get Reg.TIM_EVT_CFG_EDGE 0 k.val = 3 ∧ 2 * s.get Reg.TIM_EVT_CFG_FILTER 0 k.val ≤ w ∧ 16 ≤ (s.evts k.val).length) ∧
    (∃ (m : Master) (k : Fin 4) (t : Nat) (s : State), s.serves m pgTIM ∧ (s.evts k.val).head? = some (k.val, t, true)) ∧
    (∃ (m : Master) (k : Fin 4) (z : State) (s : State), s = z.sent m ∧ s.grants m pgTIM) ∧
    (∃ (m : Master) (k : Fin 4) (z : State) (s : State), s = z.sent m ∧ s.grants m pgTIM ∧ s.flag Reg.TIM_TRG_CFG_EN 0 k.val = true) ∧
    (∃ (m : Master) (k : Fin 4) (z : State) (s : State) (d : Nat) (n : Nat) (h : Nat), s = z.sent m ∧ s.grants m pgTIM ∧ s.flag Reg.TIM_TRG_CFG_EN 0 k.val = false ∧ s.get Reg.TIM_TRG_CFG_MODE 0 k.val = 0 ∧ d = s.get Reg.TIM_TRG_CFG_DOMAIN 0 k.val ∧ h = s.dom d / 1000000000 / 2 ^ 32 ∧ n = (h * 2 ^ 32 + s.get Reg.TIM_TRG_START_SEC_SEC 0 k.val) * 1000000000 + s.get Reg.TIM_TRG_START_NS_NS 0 k.val ∧ s.dom d + 2000 ≤ n) ∧
    (∃ (k : Fin 4) (x : Trg) (t : Nat) (s : State), s.timOn = true ∧ AMap.find s.tim.trg k.val = some x ∧ x.next = some t ∧ x.mode = 0) ∧
    (∃ (k : Fin 4) (s : State), AMap.find s.tim.trg k.val = none) :=
  ⟨⟨.host, run, _, rfl, by decide⟩,
   ⟨.host, run.put Reg.TIM_SYNC_CFG_EN 1, _, rfl, by decide⟩,
   ⟨true, run, by decide⟩,
   ⟨true, run.put Reg.TIM_SYNC_STAT_STATE 1, 1, 0, 0, by decide⟩,
   ⟨true, { run.put Reg.TIM_SYNC_STAT_STATE 1 with tim := { Tim.init 0 with clk0 := 1250 * 2 ^ 32, syncPeriod := 1000 } }, 1000, 1250, 250, by decide⟩,
   ⟨{ run.put Reg.TIM_SYNC_STAT_STATE 1 with tim := { Tim.init 0 with syncTarget := some 5 } }, 5, by decide⟩,
   ⟨run.put Reg.TIM_SYNC_STAT_STATE 1, ((run.put Reg.TIM_SYNC_STAT_STATE 1).syncSetO ((run.put Reg.TIM_SYNC_STAT_STATE 1).tim.syncO + (run.put Reg.TIM_SYNC_STAT_STATE 1).syncDue)).timSet (fun t => { t with syncTarget := none, syncRest := (run.put Reg.TIM_SYNC_STAT_STATE 1).syncWant - (run.put Reg.TIM_SYNC_STAT_STATE 1).syncDue }), by decide⟩,
   ⟨(run.put Reg.TIM_PPS_EN 1).put Reg.TIM_DOM_STAT_STATE 1 0 0, by decide⟩,
   ⟨run, by decide⟩,
   ⟨3, 16, ((run.put Reg.TIM_EVT_CFG_EN 1 0 3).put Reg.TIM_EVT_CFG_EDGE 3 0 3).put Reg.TIM_EVT_CFG_FILTER 8 0 3, by decide⟩,
   ⟨3, 0, ((evts16.put Reg.TIM_EVT_CFG_EN 1 0 3).put Reg.TIM_EVT_CFG_EDGE 3 0 3).put Reg.TIM_EVT_CFG_FILTER 0 0 3, by decide⟩,
   ⟨.host, 3, 0, evts16, by decide⟩,
   ⟨.host, 3, run.put Reg.TIM_TRG_CFG_EN 1 0 3, _, rfl, by decide⟩,
   ⟨.host, 3, run.put Reg.TIM_TRG_CFG_EN 1 0 3, _, rfl, by decide⟩,
   ⟨.host, 3, run.put Reg.TIM_TRG_START_NS_NS 2000 0 3, _, 0, 2000, 0, rfl, by decide⟩,
   ⟨3, ⟨0, 0, 0, 1, some 5, none, false⟩, 5, { run with tim := { Tim.init 0 with trg := [(3, ⟨0, 0, 0, 1, some 5, none, false⟩)] } }, by decide⟩,
   ⟨3, run, by decide⟩⟩

theorem witness_LacesRunTheirLists :
    (∃ (p : Fin 32) (s : State), s.pllRuns = true ∧ s.get Reg.LCE_STAT_STATE p.val = 1 ∧ s.domOk (s.lce p.val).oper.domain = true ∧ (s.lce p.val).oper.base ≤ s.dom (s.lce p.val).oper.domain + 4) ∧
    (∃ (p : Fin 32) (s : State), (s.pllRuns = false ∨ s.get Reg.LCE_STAT_STATE p.val ≠ 1 ∨ s.domOk (s.lce p.val).oper.domain = false ∨ s.dom (s.lce p.val).oper.domain + 4 < (s.lce p.val).oper.base)) ∧
    (∃ (p : Fin 32) (s : State), (s.pllRuns = false ∨ s.get Reg.LCE_STAT_STATE p.val ≠ 1 ∨ s.domOk (s.lce p.val).oper.domain = false ∨ s.dom (s.lce p.val).oper.domain + 4 < (s.lce p.val).oper.base)) ∧
    (∃ (p : Fin 32) (s : State), s.laceRuns p.val = true ∧ (s.lce p.val).oper.len ≠ 0 ∧ (s.lce p.val).admin = none) ∧
    (∃ (p : Fin 32) (g : GateList) (s : State), s.laceRuns p.val = true ∧ (s.lce p.val).oper.len ≠ 0 ∧ (s.lce p.val).admin = some g ∧ s.nearBoundary p.val < s.swapAt p.val g ∧ s.swapAt p.val g < s.nearBoundary p.val + (s.lce p.val).oper.ext) ∧
    (∃ (p : Fin 32) (s : State), s.laceRuns p.val = true ∧ (s.lce p.val).tail = false ∧ (s.lce p.val).oper.len ≠ 0) ∧
    (∃ (p : Fin 32) (s : State), (s.laceRuns p.val = false ∨ (s.lce p.val).tail = true)) ∧
    (∃ (p : Fin 32) (s : State), (s.laceRuns p.val = false ∨ (s.lce p.val).tail = true)) ∧
    (∃ (p : Fin 32) (e : Nat) (a : Nat) (b : Nat) (s : State), s.laceRuns p.val = true ∧ s.flag Reg.LCE_STAT_PREEMPT_ACTIVE p.val = true) ∧
    (∃ (p : Fin 32) (g : GateList) (s : State) (u : State), (s.lce p.val).admin = some g ∧ u = (s.setOper p.val g).raise Reg.LCE_IRQ_SWAPPED p.val ∧ u.domOk g.domain = true) ∧
    (∃ (p : Fin 32) (s : State), (s.lce p.val).admin = none) ∧
    (∃ (p : Fin 32) (a : Bool) (s : State) (u : State), (s.lce p.val).oper.preempt = true ∧ (s.lce p.val).oper.verifyDis = false ∧ (s.lce p.val).verified = false ∧ (s.lce p.val).attempts < 3 ∧ s.flag Reg.MAC_LINK_UP p.val = true ∧ u = (s.lceSet p.val { s.lce p.val with attempts := (s.lce p.val).attempts + 1, verified := a }).preemptSync p.val) ∧
    (∃ (p : Fin 32) (a : Bool) (s : State), ((s.lce p.val).oper.preempt = false ∨ (s.lce p.val).verified = true)) ∧
    (∃ (p : Fin 32) (a : Bool) (s : State), ((s.lce p.val).oper.preempt = false ∨ (s.lce p.val).verified = true)) :=
  ⟨⟨31, (laced 31 { idleLace with oper := { list0 with base := 4 } }).put Reg.LCE_STAT_STATE 1 31 |>.put Reg.TIM_DOM_STAT_STATE 2 0 0, by decide⟩,
   ⟨31, run, by decide⟩,
   ⟨31, (laced 31 { idleLace with oper := { list0 with base := 5 } }).put Reg.LCE_STAT_STATE 1 31 |>.put Reg.TIM_DOM_STAT_STATE 2 0 0, by decide⟩,
   ⟨31, laced 31 { idleLace with oper := list0 }, by decide⟩,
   ⟨31, list0, laced 31 { idleLace with oper := { list0 with ext := 5 }, admin := some list0, cct := 4 }, by decide⟩,
   ⟨31, laced 31 { idleLace with oper := list0 }, by decide⟩,
   ⟨31, run, by decide⟩,
   ⟨31, laced 31 { idleLace with oper := list0, tail := true }, by decide⟩,
   ⟨31, 0, 1000, 255, (laced 31 { idleLace with oper := list0 }).put Reg.LCE_STAT_PREEMPT_ACTIVE 1 31, by decide⟩,
   ⟨31, list0, (laced 31 { idleLace with admin := some list0 }).put Reg.TIM_DOM_STAT_STATE 2 0 0, ((((laced 31 { idleLace with admin := some list0 }).put Reg.TIM_DOM_STAT_STATE 2 0 0).setOper 31 list0).raise Reg.LCE_IRQ_SWAPPED 31), by decide⟩,
   ⟨31, run, by decide⟩,
   ⟨31, false, linked (laced 31 { idleLace with oper := { list0 with preempt := true }, attempts := 2 }) 31, ((linked (laced 31 { idleLace with oper := { list0 with preempt := true }, attempts := 2 }) 31).lceSet 31 { (linked (laced 31 { idleLace with oper := { list0 with preempt := true }, attempts := 2 }) 31).lce 31 with attempts := 3, verified := false }).preemptSync 31, by decide⟩,
   ⟨31, true, run, by decide⟩,
   ⟨31, true, laced 31 { idleLace with oper := { list0 with preempt := true }, verified := true }, by decide⟩⟩

theorem witness_ClustersFollowRequestsAndTimers :
    (∃ (e : KaRx) (n : Nat) (s : State), (List.range 32).find? (fun k => s.isKa k e) = some n) ∧
    (∃ (e : KaRx) (n : Nat) (s : State), (List.range 32).find? (fun k => s.isKa k e) = some n) ∧
    (∃ (e : KaRx) (n : Nat) (s : State), (List.range 32).find? (fun k => s.isKa k e) = some n) ∧
    (∃ (e : KaRx) (s : State), (∀ k : Fin 32, s.isKa k.val e = false)) ∧
    (∃ (c : Nat) (n : Nat) (x : Nat) (ide : Bool) (s : State), n < 32 ∧ s.clusterOfCan c = some n) ∧
    (∃ (c : Nat) (n : Nat) (x : Nat) (ide : Bool) (s : State), n < 32 ∧ s.clusterOfCan c = some n) ∧
    (∃ (n : Fin 32) (s : State), s.clState n.val = clASLEEP) ∧
    (∃ (n : Fin 32) (s : State), s.clState n.val = clREQUESTED) ∧
    (∃ (n : Fin 32) (s : State), s.heelStands = false ∧ s.clState n.val = clREADY) ∧
    (∃ (n : Fin 32) (s : State), s.heelStands = false ∧ s.clState n.val = clPREPARE) ∧
    (∃ (n : Fin 32) (s : State), s.heelStands = false ∧ s.clState n.val = clWOKEN) ∧
    (∃ (v : Word) (z : State) (s : State), s = z.sent .host ∧ s.grants .host pgWAK ∧ newBit (s.get Reg.WAK_REQ_HOST_CL) v.toNat = none) ∧
    (∃ (v : Word) (n : Nat) (z : State) (s : State), s = z.sent .host ∧ s.grants .host pgWAK ∧ newBit (s.get Reg.WAK_REQ_HOST_CL) v.toNat = some n) ∧
    (∃ (v : Word) (z : State) (s : State), s = z.sent .sideband ∧ s.grants .sideband pgWAK ∧ s.flag Reg.WDG_HB_STAT_EXPIRED = false ∧ s.flag Reg.WLT_STAT_LINK_UP = true) ∧
    (∃ (v : Word) (z : State) (s : State), s = z.sent .host ∧ s.grants .host pgWAK) ∧
    (∃ (v : Word) (z : State) (s : State), s = z.sent .sideband ∧ s.grants .sideband pgWAK ∧ s.mode = mdNORMAL ∧ newBit (s.get Reg.WAK_REQ_SB_CL) v.toNat = none) ∧
    (∃ (k : Fin 4) (s : State) (u : State), s.heelStands = false ∧ u = s.wakSet (fun w => { w with pins := AMap.set (fun _ => false) w.pins k.val false })) ∧
    (∃ (k : Fin 4) (s : State) (u : State), s.heelStands = false ∧ u = s.wakSet (fun w => { w with pins := AMap.set (fun _ => false) w.pins k.val true }) ∧ u.awake = true ∧ u.pinMode k.val = 1) ∧
    (∃ (k : Fin 4) (b : Bool) (s : State) (u : State), s.heelStands = false ∧ u = s.wakSet (fun w => { w with pins := AMap.set (fun _ => false) w.pins k.val b }) ∧ u.awake = false) ∧
    (∃ (k : Fin 4) (b : Bool) (s : State) (u : State), s.heelStands = false ∧ u = s.wakSet (fun w => { w with pins := AMap.set (fun _ => false) w.pins k.val b }) ∧ u.awake = false) ∧
    (∃ (n : Fin 32) (s : State), s.heelStands = false) ∧
    (∃ (n : Fin 32) (k : Fin 4) (b : Bool) (s : State), s.heelStands = true) ∧
    (∃ (l : Fin 16) (n : Nat) (s : State), s.clusterOfLin l.val = some n ∧ s.linCommander l.val = false ∧ s.clState n ≠ clUNUSED ∧ s.clState n ≠ clASLEEP) ∧
    (∃ (l : Fin 16) (s : State), s.clusterOfLin l.val = none) :=
  ⟨⟨.can 5 0x123 false, 2, clAt kaCan 2 clPREPARE, by decide⟩,
   ⟨.can 5 0x123 false, 2, clAt kaCan 2 clWOKEN, by decide⟩,
   ⟨.can 5 0x123 false, 2, clAt kaCan 2 clREADY, by decide⟩,
   ⟨.can 0 0 false, run, by decide⟩,
   ⟨5, 2, 0x123, false, kaCan, by decide⟩,
   ⟨5, 2, 0x124, false, kaCan, by decide⟩,
   ⟨31, clAt run 31 clASLEEP, by decide⟩,
   ⟨31, clAt run 31 clREQUESTED, by decide⟩,
   ⟨31, clAt run 31 clREADY, by decide⟩,
   ⟨0, clAt run 0 clPREPARE, by decide⟩,
   ⟨31, clAt run 31 clWOKEN, by decide⟩,
   ⟨0, run, _, rfl, by decide⟩,
   ⟨0x80000000, 31, run, _, rfl, by decide⟩,
   ⟨1, sb.put Reg.WLT_STAT_LINK_UP 1, _, rfl, by decide⟩,
   ⟨1, run, _, rfl, by decide⟩,
   ⟨0, normal sb, _, rfl, by decide⟩,
   ⟨3, run, _, by decide, rfl⟩,
   ⟨3, normal (wmap run 2 [1] [0, 0, 0, 1]), _, by decide, rfl, by decide⟩,
   ⟨3, true, normal run mdSTANDBY, _, by decide, rfl, by decide⟩,
   ⟨3, false, normal run mdSLEEP, _, by decide, rfl, by decide⟩,
   ⟨31, run, by decide⟩,
   ⟨31, 3, true, (clkIn 3 2 2 2).put Reg.SBP_ALERT_STAT_CLOCK_HOLD 1, by decide⟩,
   ⟨15, 2, lin0cl, by decide⟩,
   ⟨15, run, by decide⟩⟩

theorem witness_TheDeviceSleepsAndWakes :
    (∃ (s : State) (u : State), s.mayDescend = true ∧ u = ((s.put Reg.WAK_STAT_DESCENT 1).wakSet (fun w => { w with armed := s.armList })).pwrSet (fun w => { w with before := s.mode, cut := 0 })) ∧
    (∃ (s : State) (u : State), s.mayDescend = true ∧ u = ((s.put Reg.WAK_STAT_DESCENT 1).wakSet (fun w => { w with armed := s.armList })).pwrSet (fun w => { w with before := s.mode, cut := 0 })) ∧
    (∃ (s : State), s.mayDescend = false) ∧
    (∃ (s : State), s.get Reg.WAK_STAT_DESCENT = 1 ∧ bit s.pwr.powered 15 = false ∧ bit s.pwr.powered 16 = false) ∧
    (∃ (s : State), s.get Reg.WAK_STAT_DESCENT ≠ 1) ∧
    (∃ (s : State), s.get Reg.WAK_STAT_DESCENT ≠ 1) ∧
    (∃ (s : State), s.get Reg.WAK_STAT_DESCENT = 2 ∧ s.awake = true ∧ s.toStandby = true) ∧
    (∃ (s : State), s.get Reg.WAK_STAT_DESCENT = 2 ∧ s.awake = true ∧ s.toStandby = true) ∧
    (∃ (s : State), (s.get Reg.WAK_STAT_DESCENT ≠ 2 ∨ s.awake = false)) ∧
    (∃ (s : State), (s.get Reg.WAK_STAT_DESCENT ≠ 2 ∨ s.awake = false)) ∧
    (∃ (s : State), s.get Reg.WAK_STAT_DESCENT = 2 ∧ s.awake = true ∧ s.toStandby = false ∧ Nat.land s.pwr.powered (2 ^ 19 - 1 - (2 ^ 1 + 2 ^ 10)) = 0) ∧
    (∃ (s : State), s.get Reg.WAK_STAT_DESCENT = 2 ∧ s.awake = true ∧ s.toStandby = false ∧ Nat.land s.pwr.powered (2 ^ 19 - 1 - (2 ^ 1 + 2 ^ 10)) = 0) ∧
    (∃ (k : Nat) (n : Nat) (s : State) (u : State), s.latchArmed k n = true ∧ s.mode = mdSLEEP ∧ k ≠ wkWAKE_IN ∧ u = s.wakSet (fun w => { w with latched := w.latched ++ [(k, n)] })) ∧
    (∃ (k : Nat) (n : Nat) (s : State) (u : State) (v : State), s.latchArmed k n = true ∧ s.mode ≠ mdSLEEP ∧ k ≠ wkWAKE_IN ∧ u = s.wakSet (fun w => { w with latched := w.latched ++ [(k, n)] }) ∧ v = ((((if s.mode = mdSTANDBY then u.deviceWakes k n else u.abortDescent k n).latchWakes k n).pinRequests).requestsChanged)) ∧
    (∃ (k : Nat) (n : Nat) (s : State) (u : State) (v : State), s.latchArmed k n = true ∧ s.mode ≠ mdSLEEP ∧ k ≠ wkWAKE_IN ∧ u = s.wakSet (fun w => { w with latched := w.latched ++ [(k, n)] }) ∧ v = ((((if s.mode = mdSTANDBY then u.deviceWakes k n else u.abortDescent k n).latchWakes k n).pinRequests).requestsChanged)) ∧
    (∃ (k : Nat) (n : Nat) (s : State), s.latchArmed k n = false) ∧
    (∃ (s : State), s.heelStands = false ∧ s.wak.timing = true ∧ s.mode = mdSLEEP) ∧
    (∃ (s : State), s.wak.timing = false) ∧
    (∃ (vs : List (Fin 65536)) (s : State), s.mode ≠ mdSLEEP ∧ s.mode ≠ mdOFF) ∧
    (∃ (vs : List (Fin 65536)) (s : State), s.mode = mdSLEEP) :=
  ⟨⟨drowsy, _, by decide, rfl⟩,
   ⟨drowsy.wakSet (fun w => { w with latched := [(wkTIMER, 0)] }), _, by decide, rfl⟩,
   ⟨run, by decide⟩,
   ⟨(run.put Reg.WAK_STAT_DESCENT 1).pwrSet (fun w => { w with powered := 2 + 1024 }), by decide⟩,
   ⟨run, by decide⟩,
   ⟨run.put Reg.WAK_STAT_DESCENT 2, by decide⟩,
   ⟨(down 2 mdPARTIAL).put Reg.PWR_CFG_DESCEND 1, by decide⟩,
   ⟨((down 2 mdNORMAL).put Reg.PWR_CFG_DESCEND 1).put Reg.WAK_TIMER_SECONDS 5, by decide⟩,
   ⟨run, by decide⟩,
   ⟨normal (run.put Reg.WAK_STAT_DESCENT 2) mdSLEEP, by decide⟩,
   ⟨down 2 mdNORMAL, by decide⟩,
   ⟨(down 2 mdPARTIAL).put Reg.WAK_TIMER_SECONDS 5, by decide⟩,
   ⟨1, 0, armedK 1 0 mdSLEEP, _, by decide, by decide, by decide, rfl⟩,
   ⟨1, 0, armedK 1 0 mdNORMAL, _, _, by decide, by decide, by decide, rfl, rfl⟩,
   ⟨1, 0, armedK 1 0 mdSTANDBY, _, _, by decide, by decide, by decide, rfl, rfl⟩,
   ⟨1, 0, run, by decide⟩,
   ⟨normal (run.wakSet (fun w => { w with timing := true })) mdSLEEP, by decide⟩,
   ⟨run, by decide⟩,
   ⟨List.replicate 6 65535, normal run, by decide⟩,
   ⟨List.replicate 6 65535, normal run mdSLEEP, by decide⟩⟩

theorem witness_TransceiversAreSequenced :
    (∃ (m : Master) (c : Fin 64) (st : Fin 4) (z : State) (s : State), s = z.sent m ∧ s.grants m pgTXM) ∧
    (∃ (c : Fin 64) (k : Nat) (rx : List Byte) (sent : List Byte) (s : State), (s.txm c.val).todo = [k] ∧ s.txmRuns c.val = true ∧ s.txmRunOf c.val k rx = some (sent, true) ∧ (s.txm c.val).cmd = true) ∧
    (∃ (c : Fin 64) (k : Nat) (j : Nat) (r : List Nat) (rx : List Byte) (sent : List Byte) (s : State), (s.txm c.val).todo = k :: j :: r ∧ s.txmRuns c.val = true ∧ s.txmRunOf c.val k rx = some (sent, true)) ∧
    (∃ (c : Fin 64) (k : Nat) (r : List Nat) (rx : List Byte) (sent : List Byte) (s : State), (s.txm c.val).todo = k :: r ∧ s.txmRuns c.val = true ∧ s.txmRunOf c.val k rx = some (sent, false) ∧ (s.txm c.val).again = false) ∧
    (∃ (c : Fin 64) (k : Nat) (r : List Nat) (rx : List Byte) (sent : List Byte) (s : State), (s.txm c.val).todo = k :: r ∧ s.txmRuns c.val = true ∧ s.txmRunOf c.val k rx = some (sent, false) ∧ (s.txm c.val).again = true ∧ (s.txm c.val).cmd = false) ∧
    (∃ (c : Fin 64) (rx : List Byte) (s : State), (s.txm c.val).todo = []) ∧
    (∃ (c : Fin 64) (k : Nat) (r : List Nat) (rx : List Byte) (s : State), (s.txm c.val).todo = k :: r ∧ (s.txmRuns c.val = false ∨ s.txmRunOf c.val k rx = none)) ∧
    (∃ (c : Fin 64) (k : Nat) (r : List Nat) (rx : List Byte) (s : State), (s.txm c.val).todo = k :: r ∧ (s.txmRuns c.val = false ∨ s.txmRunOf c.val k rx = none)) ∧
    (∃ (c : Nat) (i : Nat) (n : Nat) (d : List Byte) (rx : List Byte) (sent : List Byte) (s : State) (fuel : Nat), i < 30) :=
  ⟨⟨.host, 63, 3, run, _, rfl, by decide⟩,
   ⟨63, 4, [], [], txmTo 63 [4] true false, by decide⟩,
   ⟨63, 4, 5, [6], [], [], txmTo 63 [4, 5, 6] true false, by decide⟩,
   ⟨63, 4, [5], [2], [7], checks (txmTo 63 [4, 5] true false), by decide⟩,
   ⟨63, 4, [5], [2], [7], checks (txmTo 63 [4, 5] false true), by decide⟩,
   ⟨63, [], run, by decide⟩,
   ⟨63, 4, [5], [2], (txmTo 62 [4, 5] true false).txmSet 63 ⟨3, false, [4, 5], 0, true, false, [], 3⟩, by decide⟩,
   ⟨63, 4, [5], [], checks (txmTo 63 [4, 5] false true), by decide⟩,
   ⟨63, 0, 1, [7], [], [], checks run, 3, by decide⟩⟩

theorem witness_TheBootEngineReadsItsImage :
    (∃ (s : State), (bit s.pwr.tested 1 = false ∨ s.upd.stage ≠ .due ∨ s.domainsLive = false)) ∧
    (∃ (s : State), (bit s.pwr.tested 1 = false ∨ s.upd.stage ≠ .due ∨ s.domainsLive = false)) ∧
    (∃ (s : State), bit s.pwr.tested 1 = true ∧ s.upd.stage = .due ∧ s.domainsLive = true) ∧
    (∃ (s : State), bit s.pwr.tested 1 = true ∧ s.upd.stage = .due ∧ s.domainsLive = true) ∧
    (∃ (s : State), bit s.pwr.tested 1 = true ∧ s.upd.stage = .due ∧ s.domainsLive = true) ∧
    (∃ (s : State), bit s.pwr.tested 1 = true ∧ s.upd.stage = .due ∧ s.domainsLive = true) ∧
    (∃ (s : State), bit s.pwr.tested 1 = true ∧ s.upd.stage = .due ∧ s.domainsLive = true) ∧
    (∃ (s : State), bit s.pwr.tested 1 = true ∧ s.upd.stage = .due ∧ s.domainsLive = true) ∧
    (∃ (s : State), s.upd.stage = .manifest) ∧
    (∃ (s : State), s.upd.stage = .manifest) ∧
    (∃ (s : State), s.upd.stage = .fw ∧ s.upd.octal = true) ∧
    (∃ (b : Bool) (s : State), (s.upd.stage = .due ∨ s.upd.stage = .done ∨ s.upd.stage = .record ∨ s.upd.stage = .load)) ∧
    (∃ (b : Bool) (s : State), (s.upd.stage = .due ∨ s.upd.stage = .done ∨ s.upd.stage = .record ∨ s.upd.stage = .load)) ∧
    (∃ (b : Bool) (s : State), (s.upd.stage = .due ∨ s.upd.stage = .done ∨ s.upd.stage = .record ∨ s.upd.stage = .load)) ∧
    (∃ (b : Bool) (s : State), (s.upd.stage = .due ∨ s.upd.stage = .done ∨ s.upd.stage = .record ∨ s.upd.stage = .load)) ∧
    (∃ (b : Bool) (s : State), s.upd.write = none) ∧
    (∃ (b : Bool) (s : State), s.supplyLow = true) ∧
    (∃ (r : BootRec) (w : RecFor) (n : Nat) (s : State), s.supplyLow = false ∧ s.upd.octal = true ∧ s.upd.write = some (r, w, n)) ∧
    (∃ (r : BootRec) (w : RecFor) (n : Nat) (s : State), s.supplyLow = false ∧ s.upd.write = some (r, w, n) ∧ 1 < n) ∧
    (∃ (r : BootRec) (w : RecFor) (s : State), s.supplyLow = false ∧ s.upd.write = some (r, w, 1)) :=
  ⟨⟨clkIn 2 1 0 0, by decide⟩,
   ⟨bootAt .load, by decide⟩,
   ⟨due 0, by decide⟩,
   ⟨(due 0).updSet (fun u => u.store 0 (BootRec.bytes { rec0 with state := 1 })), by decide⟩,
   ⟨(due 0).updSet (fun u => u.store 0 (BootRec.bytes { rec0 with state := 2 })), by decide⟩,
   ⟨due 1, by decide⟩,
   ⟨due 2, by decide⟩,
   ⟨due 3, by decide⟩,
   ⟨bootAt .manifest, by decide⟩,
   ⟨bootAt .manifest, by decide⟩,
   ⟨bootAt .fw, by decide⟩,
   ⟨true, bootAt .due, by decide⟩,
   ⟨true, bootAt .done, by decide⟩,
   ⟨false, bootAt .record, by decide⟩,
   ⟨false, bootAt .load, by decide⟩,
   ⟨true, run, by decide⟩,
   ⟨true, run.pwrSet (fun w => { w with low := 1 }), by decide⟩,
   ⟨rec0, .confirm, 1, writing 1, by decide⟩,
   ⟨rec0, .confirm, 3, writing 3, by decide⟩,
   ⟨rec0, .confirm, writing 1, by decide⟩⟩

theorem witness_StagingOperationsStartAndEnd :
    (∃ (m : Master) (z : State) (s : State), s = z.sent m ∧ s.grants m pgUPD ∧ s.flag Reg.UPD_STAT_BUSY = true) ∧
    (∃ (m : Master) (z : State) (s : State) (u : State), s = z.sent m ∧ s.grants m pgUPD ∧ s.flag Reg.UPD_STAT_BUSY = false ∧ s.ownerLocked = false ∧ s.inTrial = false ∧ u = (s.put Reg.UPD_STAT_ARMED 0).put Reg.UPD_STAT_STAGED 0) ∧
    (∃ (m : Master) (z : State) (s : State), s = z.sent m ∧ s.grants m pgUPD ∧ s.flag Reg.UPD_STAT_BUSY = false ∧ s.get Reg.UPD_ADDR_ADDR % 256 = 0) ∧
    (∃ (m : Master) (z : State) (s : State), s = z.sent m ∧ s.grants m pgUPD ∧ s.flag Reg.UPD_STAT_BUSY = false ∧ s.get Reg.UPD_ADDR_ADDR % 256 ≠ 0) ∧
    (∃ (m : Master) (z : State) (s : State), s = z.sent m ∧ s.grants m pgUPD ∧ s.flag Reg.UPD_STAT_BUSY = false ∧ s.flag Reg.UPD_STAT_SESSION = false) ∧
    (∃ (m : Master) (z : State) (s : State), s = z.sent m ∧ s.grants m pgUPD ∧ s.flag Reg.UPD_STAT_BUSY = false ∧ s.flag Reg.UPD_STAT_SESSION = true ∧ s.inInactive (s.get Reg.UPD_ADDR_ADDR) = true) ∧
    (∃ (m : Master) (z : State) (s : State), s = z.sent m ∧ s.grants m pgUPD ∧ s.flag Reg.UPD_STAT_BUSY = false ∧ s.flag Reg.UPD_STAT_SESSION = true ∧ s.inInactive (s.get Reg.UPD_ADDR_ADDR) = true) ∧
    (∃ (m : Master) (z : State) (s : State), s = z.sent m ∧ s.grants m pgUPD ∧ s.flag Reg.UPD_STAT_BUSY = false ∧ s.flag Reg.UPD_STAT_SESSION = true ∧ (s.opStart 5 (s.get Reg.UPD_ADDR_ADDR) []).loadMode = false) ∧
    (∃ (m : Master) (z : State) (s : State), s = z.sent m ∧ s.grants m pgUPD ∧ s.flag Reg.UPD_STAT_BUSY = false ∧ s.upd.stage = .load ∧ s.mayLoad m = true) ∧
    (∃ (m : Master) (z : State) (s : State), s = z.sent m ∧ s.grants m pgUPD ∧ s.flag Reg.UPD_STAT_BUSY = false ∧ s.upd.stage = .load ∧ s.mayLoad m = true) ∧
    (∃ (m : Master) (z : State) (s : State), s = z.sent m ∧ s.grants m pgUPD ∧ s.flag Reg.UPD_STAT_BUSY = false ∧ (s.upd.stage ≠ .load ∨ s.mayLoad m = false)) ∧
    (∃ (m : Master) (z : State) (s : State), s = z.sent m ∧ s.grants m pgUPD ∧ s.flag Reg.UPD_STAT_BUSY = false ∧ (s.upd.stage ≠ .load ∨ s.mayLoad m = false)) ∧
    (∃ (k : Nat) (a : Nat) (bs : List Byte) (d : Bool) (r : FlashEnd) (s : State), s.upd.op = some (k, a, bs, d) ∧ k ≤ 3 ∧ s.supplyLow = true) ∧
    (∃ (a : Nat) (bs : List Byte) (d : Bool) (s : State), s.supplyLow = false ∧ s.upd.op = some (2, a, bs, d)) ∧
    (∃ (a : Nat) (bs : List Byte) (d : Bool) (s : State), s.supplyLow = false ∧ s.upd.op = some (3, a, bs, d)) ∧
    (∃ (a : Nat) (bs : List Byte) (d : Bool) (s : State), s.upd.op = some (4, a, bs, d)) ∧
    (∃ (r : FlashEnd) (s : State), s.upd.op = none) :=
  ⟨⟨.host, inOp 4 0 [], _, rfl, by decide⟩,
   ⟨.host, bootAt .done, _, _, rfl, by decide, by decide, by decide, by decide, rfl⟩,
   ⟨.host, session 256, _, rfl, by decide⟩,
   ⟨.host, session 255, _, rfl, by decide⟩,
   ⟨.host, run, _, rfl, by decide⟩,
   ⟨.host, session (slotBase 1), _, rfl, by decide⟩,
   ⟨.host, session (slotBase 1 + slotBytes - 256), _, rfl, by decide⟩,
   ⟨.host, session 0, _, rfl, by decide⟩,
   ⟨.host, loading, _, rfl, by decide⟩,
   ⟨.host, loading.put Reg.UPD_ADDR_ADDR 256, _, rfl, by decide⟩,
   ⟨.host, run, _, rfl, by decide⟩,
   ⟨.host, loading.put Reg.DEV_STRAPS_BOOT_MODE 1, _, rfl, by decide⟩,
   ⟨2, slotBase 1, [], false, .done, (inOp 2 (slotBase 1) []).pwrSet (fun w => { w with low := 1 }), by decide⟩,
   ⟨slotBase 1, [], false, inOp 2 (slotBase 1) [], by decide⟩,
   ⟨slotBase 1, List.replicate 256 5, false, inOp 3 (slotBase 1) (List.replicate 256 5), by decide⟩,
   ⟨0, [], false, inOp 4 0 [], by decide⟩,
   ⟨.failed, run, by decide⟩⟩

theorem witness_ArmingRestartAndOwnership :
    (∃ (m : Master) (z : State) (s : State), s = z.sent m ∧ s.grants m pgUPD ∧ s.loadMode = false) ∧
    (∃ (m : Master) (z : State) (s : State), s = z.sent m ∧ s.grants m pgUPD ∧ s.loadMode = false) ∧
    (∃ (m : Master) (z : State) (s : State), s = z.sent m ∧ s.grants m pgUPD) ∧
    (∃ (m : Master) (z : State) (s : State), s = z.sent m ∧ s.grants m pgUPD ∧ s.loadMode = false ∧ s.flag Reg.UPD_STAT_ARMED = false) ∧
    (∃ (m : Master) (z : State) (s : State), s = z.sent m ∧ s.grants m pgUPD ∧ s.loadMode = false ∧ s.flag Reg.UPD_STAT_ARMED = true ∧ s.upd.op = none ∧ s.upd.write = none ∧ s.descending = false ∧ s.armRefusal = 0) ∧
    (∃ (m : Master) (z : State) (s : State), s = z.sent m ∧ s.grants m pgUPD ∧ s.inTrial = true ∧ s.loadMode = false ∧ (s.upd.stage ≠ .done ∨ s.upd.trialAt.isSome = true) ∧ s.upd.write = none) ∧
    (∃ (m : Master) (z : State) (s : State), s = z.sent m ∧ s.grants m pgUPD ∧ (s.inTrial = false ∨ s.loadMode = true)) ∧
    (∃ (m : Master) (z : State) (s : State), s = z.sent m ∧ s.grants m pgUPD ∧ s.inTrial = true ∧ s.loadMode = false ∧ s.upd.stage = .done ∧ s.upd.trialAt = none) ∧
    (∃ (n : Nat) (s : State), s.upd.trialAt = some n) ∧
    (∃ (c : Fin 64) (k : Nat) (x : Bool) (d : List Byte) (s : State), (s.flag Reg.UPD_SPD_CFG_EN = false ∨ s.get Reg.UPD_SPD_CFG_CHAN ≠ c.val ∨ s.get Reg.UPD_SPD_ID_ID ≠ k ∨ s.flag Reg.UPD_SPD_CFG_IDE ≠ x)) ∧
    (∃ (c : Fin 64) (k : Nat) (x : Bool) (d : List Byte) (s : State), (s.flag Reg.UPD_SPD_CFG_EN = false ∨ s.get Reg.UPD_SPD_CFG_CHAN ≠ c.val ∨ s.get Reg.UPD_SPD_ID_ID ≠ k ∨ s.flag Reg.UPD_SPD_CFG_IDE ≠ x)) ∧
    (∃ (c : Fin 64) (k : Nat) (x : Bool) (d : List Byte) (s : State), (s.flag Reg.UPD_SPD_CFG_EN = false ∨ s.get Reg.UPD_SPD_CFG_CHAN ≠ c.val ∨ s.get Reg.UPD_SPD_ID_ID ≠ k ∨ s.flag Reg.UPD_SPD_CFG_IDE ≠ x)) ∧
    (∃ (c : Fin 64) (k : Nat) (x : Bool) (d : List Byte) (s : State), (s.flag Reg.UPD_SPD_CFG_EN = false ∨ s.get Reg.UPD_SPD_CFG_CHAN ≠ c.val ∨ s.get Reg.UPD_SPD_ID_ID ≠ k ∨ s.flag Reg.UPD_SPD_CFG_IDE ≠ x)) ∧
    (∃ (c : Fin 64) (k : Nat) (x : Bool) (d : List Byte) (s : State), s.flag Reg.UPD_SPD_CFG_EN = true ∧ s.get Reg.UPD_SPD_CFG_CHAN = c.val ∧ s.get Reg.UPD_SPD_ID_ID = k ∧ s.flag Reg.UPD_SPD_CFG_IDE = x) ∧
    (∃ (c : Fin 64) (k : Nat) (x : Bool) (d : List Byte) (s : State), s.flag Reg.UPD_SPD_CFG_EN = true ∧ s.get Reg.UPD_SPD_CFG_CHAN = c.val ∧ s.get Reg.UPD_SPD_ID_ID = k ∧ s.flag Reg.UPD_SPD_CFG_IDE = x) ∧
    (∃ (m : Master) (z : State) (s : State), s = z.sent m ∧ s.grants m pgUPD ∧ s.flag Reg.TCA_STAT_DRBG_OK = true) ∧
    (∃ (m : Master) (z : State) (s : State), s = z.sent m ∧ s.grants m pgUPD ∧ s.flag Reg.TCA_STAT_DRBG_OK = false) ∧
    (∃ (m : Master) (z : State) (s : State), s = z.sent m ∧ s.grants m pgUPD ∧ s.tcaReady = true ∧ s.flag Reg.UPD_OWN_STAT_NONCE_VALID = false) ∧
    (∃ (m : Master) (k : List Byte) (z : State) (s : State), s = z.sent m ∧ s.grants m pgUPD ∧ s.upd.ownerKey = some k ∧ s.tcaReady = true ∧ s.flag Reg.UPD_OWN_STAT_NONCE_VALID = true ∧ s.ownerLocked = false ∧ s.upd.burnt < 63) ∧
    (∃ (m : Master) (k : List Byte) (z : State) (s : State), s = z.sent m ∧ s.grants m pgUPD ∧ s.upd.ownerKey = some k ∧ s.tcaReady = true ∧ s.flag Reg.UPD_OWN_STAT_NONCE_VALID = true ∧ s.ownerLocked = false ∧ s.upd.burnt < 63) ∧
    (∃ (m : Master) (k : List Byte) (z : State) (s : State), s = z.sent m ∧ s.grants m pgUPD ∧ s.upd.ownerKey = some k ∧ s.tcaReady = true ∧ s.flag Reg.UPD_OWN_STAT_NONCE_VALID = true ∧ s.ownerLocked = true ∧ s.upd.burnt < 63) ∧
    (∃ (m : Master) (k : List Byte) (z : State) (s : State), s = z.sent m ∧ s.grants m pgUPD ∧ s.upd.ownerKey = some k ∧ s.tcaReady = true ∧ s.flag Reg.UPD_OWN_STAT_NONCE_VALID = true ∧ s.ownerLocked = true ∧ s.upd.burnt < 63) ∧
    (∃ (m : Master) (z : State) (s : State), s = z.sent m ∧ s.grants m pgUPD ∧ s.upd.ownerKey = none ∧ s.tcaReady = true) ∧
    (∃ (m : Master) (z : State) (s : State), s = z.sent m ∧ s.grants m pgUPD ∧ s.upd.ownerKey.isSome = true) :=
  ⟨⟨.host, armable, _, rfl, by decide⟩,
   ⟨.host, armable.put Reg.UPD_STAT_STAGED 0, _, rfl, by decide⟩,
   ⟨.host, armable.put Reg.UPD_STAT_ARMED 1, _, rfl, by decide⟩,
   ⟨.host, armable, _, rfl, by decide⟩,
   ⟨.host, armable.put Reg.UPD_STAT_ARMED 1, _, rfl, by decide⟩,
   ⟨.host, trial.updSet (fun u => { u with trialAt := some 5 }), _, rfl, by decide⟩,
   ⟨.host, run, _, rfl, by decide⟩,
   ⟨.host, trial, _, rfl, by decide⟩,
   ⟨5, trial.updSet (fun u => { u with trialAt := some 5 }), by decide⟩,
   ⟨63, 0x7FF, false, [], run, by decide⟩,
   ⟨62, 0x7FF, false, [1], speedy, by decide⟩,
   ⟨63, 0x7FE, false, [1], speedy, by decide⟩,
   ⟨63, 0x7FF, true, [1], speedy, by decide⟩,
   ⟨63, 0x7FF, false, [200, 1], speedy, by decide⟩,
   ⟨63, 0x7FF, false, [], speedy, by decide⟩,
   ⟨.host, run.put Reg.TCA_STAT_DRBG_OK 1, _, rfl, by decide⟩,
   ⟨.host, run, _, rfl, by decide⟩,
   ⟨.host, run.put Reg.TCA_STAT_STATE 2, _, rfl, by decide⟩,
   ⟨.host, List.replicate 32 9, owned 0, _, rfl, by decide⟩,
   ⟨.host, List.replicate 32 9, owned 62, _, rfl, by decide⟩,
   ⟨.host, List.replicate 32 9, owned 1, _, rfl, by decide⟩,
   ⟨.host, List.replicate 32 9, owned 61, _, rfl, by decide⟩,
   ⟨.host, run.put Reg.TCA_STAT_STATE 2, _, rfl, by decide⟩,
   ⟨.host, owned 0, _, rfl, by decide⟩⟩

theorem witness_StepRunsTheFrontCommand :
    (∃ (c : Instr) (r : List Instr) (s : State), s.pending = c :: r) ∧
    (∃ (s : State), s.pending = []) :=
  ⟨⟨.speedStale, [.nonceExpiry], { run with pending := [.speedStale, .nonceExpiry] }, by decide⟩,
   ⟨run, by decide⟩⟩

theorem witness_CommandsLeaveTheQueue :
    (∃ (c : Instr) (s : State) (t : State), exec c s = .next t) ∧
    (∃ (s : State) (t : State), step s = .next t) :=
  ⟨⟨.speedStale, State.reset, State.reset.put Reg.UPD_VEH_STATE_STALE 1, rfl⟩,
   ⟨State.reset, State.reset, rfl⟩⟩

theorem witness_StepsKeepRegistersCanonical :
    (∃ (s : State) (t : State), RegFile.Canonical s.regs ∧ step s = .next t) ∧
    (∃ (s : State) (t : State), Memory.wf s ∧ step s = .next t) :=
  ⟨⟨State.reset, State.reset, RegFile.canonical_init, rfl⟩,
   ⟨State.reset, State.reset, by decide, rfl⟩⟩

theorem witness_ResetIsAsTheTablesSay :
    (∃ (f : Fld) (i : Nat) (j : Nat) (m : Nat), (f.keep ≠ .H ∨ f.key i j m ≠ Reg.CGU_STAT_LRC.key 0 0 0)) ∧
    (∃ (d : Fin 19), d.val ≠ 0) :=
  ⟨⟨Reg.CGU_STAT_HRC, 0, 0, 0, by decide⟩,
   ⟨18, by decide⟩⟩

theorem witness_PeeksHaveNoEffect :
    (∃ (m : Master) (a : Nat) (n : Nat) (s : State), a < 0x1000000) ∧
    (∃ (m : Master) (a : Nat) (n : Nat) (s : State), a < 0x1000000 ∧ (∀ k ∈ [0, 1], ∀ x ∈ fieldsAt (a / 4096) (a % 4096 + 4 * k), liveCount x.1 = none)) ∧
    (∃ (m : Master) (a : Nat) (n : Nat) (s : State), a < 0x1000000 ∧ (∀ k ∈ [0, 1], ∀ x ∈ fieldsAt (a / 4096) (a % 4096 + 4 * k), liveCount x.1 = none)) ∧
    (∃ (m : Master) (n : Fin 4) (s : State), s.readErr (0x060 + n.val) 0x098 = none) ∧
    (∃ (m : Master) (p : Fin 32) (k : Fin 40) (s : State), s.readErr (0x0D0 + p.val) (0x204 + 8 * k.val) = none ∧ k.val ≠ 29) ∧
    (∃ (m : Master) (a : Nat) (bs : List Byte) (s : State), 0x2000000 ≤ a ∧ a < 0x3000000) ∧
    (∃ (m : Master) (a : Nat) (bs : List Byte) (s : State), 0x2000000 ≤ a ∧ a < 0x3000000) :=
  ⟨⟨.host, 0xFFFFFF, 4, State.reset, by decide⟩,
   ⟨.host, 0xFFFFFC, 4, State.reset, by decide⟩,
   ⟨.host, 0x171080, 8, run, by decide⟩,
   ⟨.host, 3, run, by decide⟩,
   ⟨.host, 31, 39, run, by decide⟩,
   ⟨.host, 0x2000000, [], State.reset, by decide⟩,
   ⟨.host, 0x2FFFFFF, [], State.reset, by decide⟩⟩

theorem witness_ReservedPagesAreErrors :
    (∃ (p : Fin 4096), 0x172 ≤ p.val) ∧
    (∃ (p : Fin 4096), 0x172 ≤ p.val) ∧
    (∃ (page : Nat) (off : Nat) (s : State), s.heelStands = false ∧ pageDefined page = false) ∧
    (∃ (m : Master) (page : Nat) (off : Nat) (w : Nat) (s : State), s.heelStands = false ∧ pageDefined page = false) ∧
    (∃ (p : Fin 4096) (o : Fin 4096) (w : Word) (s : State), s.heelStands = false ∧ s.sbOn = true ∧ pageDefined p.val = false ∧ s.wdg.resetDue = false) ∧
    (∃ (p : Fin 4096) (o : Fin 4096) (s : State), s.heelStands = false ∧ pageDefined p.val = false) :=
  ⟨⟨0xFFF, by decide⟩,
   ⟨0x172, by decide⟩,
   ⟨0x172, 0, State.reset, by decide⟩,
   ⟨.host, 0x172, 0, 0, State.reset, by decide⟩,
   ⟨0x172, 0xFFC, 0, sb, by decide⟩,
   ⟨0x172, 0xFFC, State.reset, by decide⟩⟩

theorem witness_CommitAndOpenAreRefused :
    (∃ (m : Master) (z : State) (s : State), s = z.sent m ∧ s.grants m pgLST ∧ s.lsState ≠ lsOPEN) ∧
    (∃ (m : Master) (z : State) (s : State), s = z.sent m ∧ s.grants m pgUPD ∧ s.inTrial = true ∧ s.flag Reg.UPD_STAT_BUSY = false ∧ s.ownerLocked = false) :=
  ⟨⟨.host, run, _, rfl, by decide⟩,
   ⟨.host, trial, _, rfl, by decide⟩⟩

/-! ### Ill-formed commands are refused -/

theorem test_access_past_the_window : (Instr.stagingWrite .host 0xFFFFFF [1, 2]).wellFormed = false := by decide
theorem test_access_of_no_bytes : (Instr.changeSetListWrite .host 0 []).wellFormed = false := by decide
theorem test_request_across_4_KiB : (Instr.pcieRead 4095 2).wellFormed = false := by decide
theorem test_posted_write_past_the_bar : (Instr.pcieWritePosted 0x3FFFFFF [1, 2]).wellFormed = false := by decide
theorem test_confirmed_write_of_no_bytes : (Instr.pcieWriteConfirmed 0 []).wellFormed = false := by decide
theorem test_frame_of_no_bytes : (Instr.ethFrameArrival 0 []).wellFormed = false := by decide
theorem test_pause_frame_of_no_bytes : (Instr.pauseFrameRx 0 [] false).wellFormed = false := by decide
theorem test_link_of_width_3 : (Instr.pcieLinkUp 3 1 false).wellFormed = false := by decide
theorem test_subscriber_2048 : (Instr.reparent false 2048).wellFormed = false ∧ (Instr.reparent true 2048).wellFormed = true := by decide
theorem test_loop_4 : (Instr.testModeSet .host 0 (.mac 4)).wellFormed = false := by decide
theorem test_prbs_8 : (Instr.testModeSet .host 0 (.sds 0 0 8)).wellFormed = false := by decide
theorem test_cable_result_6 : (Instr.cableCheckDone 0 6).wellFormed = false := by decide
theorem test_cable_result_1 : (Instr.cableCheckDone 0 1).wellFormed = false := by decide
theorem test_can_length_13 :
    (Instr.canFrameRx 0 { wire0 with data := List.replicate 13 0 } 0).wellFormed = false := by decide
theorem test_can_id_of_12_bits : (Instr.canFrameRx 0 { wire0 with id := 2048 } 0).wellFormed = false := by decide
theorem test_lin_response_of_9 : (Instr.linResponseRx 0 (.ok (List.replicate 9 0))).wellFormed = false := by decide
theorem test_no_receive_buffer : (Instr.hdmRxDeliver []).wellFormed = false := by decide
theorem test_no_descriptor : (Instr.hdmTxFrame [] []).wellFormed = false := by decide
theorem test_more_words_done_than_asked : (Instr.sbResponseTimeout (.write 0 [1]) 2).wellFormed = false := by decide
theorem test_mailbox_body_of_1017 : (Instr.mbxResponse 0 (List.replicate 1017 0)).wellFormed = false := by decide
theorem test_self_test_of_PD0 : (Instr.selfTestDone 0 0 [] true).wellFormed = false := by decide
theorem test_self_test_of_page_4096 : (Instr.selfTestDone 1 0 [4096] true).wellFormed = false := by decide
theorem test_request_for_PD0 : (Instr.domainRequest .host 0 true false).wellFormed = false := by decide
theorem test_good_PD0 : (Instr.domainPowerGood 0).wellFormed = false ∧ (Instr.domainPowerTimeout 0).wellFormed = false := by decide
theorem test_register_offset_2 : (Instr.registerWrite .host 0 2 0).wellFormed = false ∧ (Instr.clearOnRead .host 0 2).wellFormed = false := by
  decide
theorem test_step_past_48_bits : (Instr.domainStep 0 (2 ^ 48 * 1000000000)).wellFormed = false := by decide
theorem test_no_detector : (Instr.wakeLatch 4 23).wellFormed = false ∧ (Instr.wakeLatch 6 0).wellFormed = false := by decide
theorem test_five_measurements : (Instr.converterUpdate (List.replicate 5 0)).wellFormed = false := by decide
theorem test_speed_frame_id : (Instr.speedFrameRx 0 2048 false []).wellFormed = false := by decide

/-! ### The spec's own numbers -/

/-- Chapter 2: the CRC-32C of "123456789". -/
theorem test_crc32c : crc32cStd [0x31, 0x32, 0x33, 0x34, 0x35, 0x36, 0x37, 0x38, 0x39] = 0xE3069283 := by decide

/-- R316: the CRC-8 of the same bytes. -/
theorem test_crc8 : crc8 [0x31, 0x32, 0x33, 0x34, 0x35, 0x36, 0x37, 0x38, 0x39] = 0xB4 := by decide
/-- FIPS 197's example of SubBytes, and FIPS 180-4's of SHA-256: the first four bytes of the digest of "abc". -/
theorem test_sbox : sbox 0x53 = 0xED := by decide
theorem test_sha256 : (sha256 [0x61, 0x62, 0x63]).take 4 = [0xBA, 0x78, 0x16, 0xBF] := by decide +kernel

/-- Chapter 4's worked example: the meter, its full buckets, and a frame of 256 bytes. -/
def meter0 : MeterCfg := ⟨23188405, 1200, 34782608, 2000, false, false, false, false⟩
theorem test_meter_first_frame :
    meterRun meter0 ⟨1200 * 65536, 2000 * 65536, 0, 0, 0, 0⟩ 0 false 256 = (.green, ⟨944 * 65536, 1744 * 65536, 0, 1, 0, 0⟩) := by decide
/-- Its sixth frame finds 176.0 of committed and 1,104.0 of peak: yellow. -/
theorem test_meter_sixth_frame :
    (meterRun meter0 ⟨124 * 65536 + 52428, 1027 * 65536 + 13107, 8832, 5, 0, 0⟩ 11040 false 256).1 = .yellow := by decide

/-- Chapter 3's worked example: QinQ, VXLAN and IPv6, a consistent frame of 300 bytes, under a graph with every branch. -/
def graph0 : Graph := ⟨fun _ => false, fun _ => false, fun _ _ => none, fun _ _ => true, fun _ => 0, fun _ => 0, fun _ => []⟩
def vxlan0 : Frame :=
  { frm 0 0 (List.replicate 12 0 ++ [0x88, 0xA8, 0, 0, 0x81, 0, 0, 0, 8, 0] ++ [0x45, 0, 1, 18] ++ List.replicate 5 0 ++ [17] ++
      List.replicate 10 0 ++ [0, 0, 0x12, 0xB5, 0, 254, 0, 0] ++ [8, 0, 0, 0, 0, 0, 0, 0] ++ List.replicate 12 0 ++ [0x86, 0xDD] ++
      [0x60, 0, 0, 0, 0, 184, 59, 0] ++ List.replicate 220 0) with whole := true }
theorem test_parse_to_112 :
    let p := parseHdrs graph0 112 8 false vxlan0 300 noParse 20
    p.depth = 112 ∧ p.outcome = none ∧ p.hdrs = [.eth, .vlan, .vlan, .ipv4, .udp, .vxlan, .eth, .ipv6] := by decide
/-- A depth of 96 ends it with DEPTH_EXCEEDED at the inner IPv6 header. -/
theorem test_parse_past_96 :
    let p := parseHdrs graph0 96 8 false vxlan0 300 noParse 20
    p.depth = 72 ∧ p.outcome = some 1 := by decide
/-- Of the first 64 bytes the step engine takes in the headers up to the VXLAN header. -/
theorem test_parse_of_64_bytes : (parseHdrs graph0 112 8 false vxlan0 64 noParse 20).depth = 58 := by decide

/-- Chapter 8's worked example of a swap: the config change time. -/
theorem test_change_time : changeTime 523400130000 500000000000 500000 = 523400500000 := by decide
/-- Chapter 8's worked example of following: with 9.0 µs accepted, the first boundary moves the offset by 4 µs. -/
theorem test_sync_first_boundary :
    let s := { run.put Reg.TIM_SYNC_STAT_STATE 1 with tim := { Tim.init 0 with syncPeriod := 1000000, syncTarget := some 9000 } }
    (syncPeriodBoundary s).tim.syncO = 4000 := by decide

/-! ### Steps -/

theorem test_queue_is_first_in_first_out :
    step { State.reset with pending := [.vmoveInChange true, .vmoveInChange false] } =
      .next ({ State.reset with pending := [.vmoveInChange false] }.updSet (fun u => { u with vmove := true })) := rfl
theorem test_idle : step State.reset = .next State.reset := rfl
theorem test_no_row_has_bits : decodeTableWord 8 0 = none := by decide

/-! ### Pins (R364, R419) -/

theorem test_pins_at_reset : (State.reset.pin true .inhOut, State.reset.pin true (.canTxd 63), State.reset.pin true (.trgOut 3), State.reset.pin true .nmiN) =
    (.high, .high, .low, .released) := by decide
theorem test_inhibit_falls_in_sleep : (normal run mdSLEEP).pin true .inhOut = .low ∧ (normal run mdSLEEP).pin true (.linTxd 15) = .highZ := by decide
theorem test_clock_hold_alerts : (run.put Reg.SBP_ALERT_STAT_CLOCK_HOLD 1).pin true .sbAlertN = .low := by decide

end Sys2Proof.Machine.Tests
end

/-! Every command keeps a `Closed` predicate, and so does every step: the queue (R9) and the canonical form of the maps. -/

namespace Sys2Proof.Machine
variable {P : State → Prop}

/-- Every command keeps what the named updates keep. -/
theorem exec_keeps (hP : Closed P) {c : Instr} {s t : State} (h : P s) (e : exec c s = .next t) : P t := by
  cases c with
  | csOpen _ => exact execCsOpen_keeps hP h e
  | csAbort _ => exact execCsAbort_keeps hP h e
  | stagingWrite _ _ _ => exact execStagingWrite_keeps hP h e
  | changeSetListWrite _ _ _ => exact execChangeSetListWrite_keeps hP h e
  | commitGo _ => exact execCommitGo_keeps hP h e
  | commitValidated => exact execCommitValidated_keeps hP h e
  | flip => exact execFlip_keeps hP h e
  | epochDrainEnd => exact execEpochDrainEnd_keeps hP h e
  | drainLimitExpiry => exact execDrainLimitExpiry_keeps hP h e
  | reloadFlash _ => exact execReloadFlash_keeps hP h e
  | reloadHost _ => exact execReloadHost_keeps hP h e
  | reloadGo _ => exact execReloadGo_keeps hP h e
  | hostLoadTimeout => exact execHostLoadTimeout_keeps hP h e
  | reloadImageReadDone _ => exact execReloadImageReadDone_keeps hP h e
  | reloadDone => exact execReloadDone_keeps hP h e
  | ethFrameArrival _ _ => exact execEthFrameArrival_keeps hP h e
  | clickerDispatch => exact execClickerDispatch_keeps hP h e
  | parseStep _ _ => exact execParseStep_keeps hP h e
  | flowLookup _ _ => exact execFlowLookup_keeps hP h e
  | ingressFrameEnd _ _ => exact execIngressFrameEnd_keeps hP h e
  | reorderRelease _ => exact execReorderRelease_keeps hP h e
  | reorderTimeout _ _ => exact execReorderTimeout_keeps hP h e
  | clickerRejoin _ _ _ => exact execClickerRejoin_keeps hP h e
  | cutThroughStart _ => exact execCutThroughStart_keeps hP h e
  | schedulerChoose _ => exact execSchedulerChoose_keeps hP h e
  | copyTxDone _ => exact execCopyTxDone_keeps hP h e
  | reparent _ _ => exact execReparent_keeps hP h e
  | paceWindowEnd _ _ => exact execPaceWindowEnd_keeps hP h e
  | demandWindowEnd => exact execDemandWindowEnd_keeps hP h e
  | fabricStall _ => exact execFabricStall_keeps hP h e
  | sliceRejoin _ _ _ => exact execSliceRejoin_keeps hP h e
  | governorInterval => exact execGovernorInterval_keeps hP h e
  | pmbusTransactionDone _ _ => exact execPmbusTransactionDone_keeps hP h e
  | governorEnable _ _ _ _ _ _ => exact execGovernorEnable_keeps hP h e
  | linkUp _ _ => exact execLinkUp_keeps hP h e
  | linkDown _ _ => exact execLinkDown_keeps hP h e
  | flushComplete _ => exact execFlushComplete_keeps hP h e
  | portReturnEnd _ => exact execPortReturnEnd_keeps hP h e
  | cautiousConditionEnd _ => exact execCautiousConditionEnd_keeps hP h e
  | cobblerPassEnd _ => exact execCobblerPassEnd_keeps hP h e
  | cobblerEnable _ _ => exact execCobblerEnable_keeps hP h e
  | inbandRateChange _ _ => exact execInbandRateChange_keeps hP h e
  | pllLost _ => exact execPllLost_keeps hP h e
  | pauseFrameRx _ _ _ => exact execPauseFrameRx_keeps hP h e
  | pauseExpiry _ _ => exact execPauseExpiry_keeps hP h e
  | txPauseSend _ => exact execTxPauseSend_keeps hP h e
  | txPauseRepeat _ => exact execTxPauseRepeat_keeps hP h e
  | pauseWatchdogExpiry _ => exact execPauseWatchdogExpiry_keeps hP h e
  | pauseIgnoreEnd _ => exact execPauseIgnoreEnd_keeps hP h e
  | testModeSet _ _ _ => exact execTestModeSet_keeps hP h e
  | counterLowRead _ _ => exact execCounterLowRead_keeps hP h e
  | t1sStateRequest _ _ _ => exact execT1sStateRequest_keeps hP h e
  | t1sStateReached _ => exact execT1sStateReached_keeps hP h e
  | plcaBeaconTimeout _ => exact execPlcaBeaconTimeout_keeps hP h e
  | plcaBeaconRx _ => exact execPlcaBeaconRx_keeps hP h e
  | t1sCollision _ => exact execT1sCollision_keeps hP h e
  | cableGo _ _ => exact execCableGo_keeps hP h e
  | cableCheckDone _ _ => exact execCableCheckDone_keeps hP h e
  | mdioCmd _ _ _ _ _ _ _ => exact execMdioCmd_keeps hP h e
  | mdioDone _ _ => exact execMdioDone_keeps hP h e
  | canFrameRx _ _ _ => exact execCanFrameRx_keeps hP h e
  | awlAccept _ => exact execAwlAccept_keeps hP h e
  | apFrameToAwl _ => exact execApFrameToAwl_keeps hP h e
  | canTxStart _ => exact execCanTxStart_keeps hP h e
  | canTxDone _ _ => exact execCanTxDone_keeps hP h e
  | canBusOff _ => exact execCanBusOff_keeps hP h e
  | recDelayExpiry _ => exact execRecDelayExpiry_keeps hP h e
  | canRecover _ _ => exact execCanRecover_keeps hP h e
  | canRecovered _ => exact execCanRecovered_keeps hP h e
  | canSlotStart _ _ => exact execCanSlotStart_keeps hP h e
  | canSlotWindowClose _ _ => exact execCanSlotWindowClose_keeps hP h e
  | linEntryStart _ _ => exact execLinEntryStart_keeps hP h e
  | linHeaderRx _ _ _ _ => exact execLinHeaderRx_keeps hP h e
  | linResponseRx _ _ => exact execLinResponseRx_keeps hP h e
  | linTableWrite _ _ _ => exact execLinTableWrite_keeps hP h e
  | linWakeTx _ _ => exact execLinWakeTx_keeps hP h e
  | linWakeRepeat _ => exact execLinWakeRepeat_keeps hP h e
  | linWakeRx _ => exact execLinWakeRx_keeps hP h e
  | streamHoldExpiry _ => exact execStreamHoldExpiry_keeps hP h e
  | awlWatchdog _ => exact execAwlWatchdog_keeps hP h e
  | canFifoError _ _ => exact execCanFifoError_keeps hP h e
  | toecapStart => exact execToecapStart_keeps hP h e
  | keyRestoreDone => exact execKeyRestoreDone_keeps hP h e
  | keyLoad _ _ _ _ _ _ => exact execKeyLoad_keeps hP h e
  | keyErase _ _ _ => exact execKeyErase_keeps hP h e
  | keyLoadDone => exact execKeyLoadDone_keeps hP h e
  | tkmLock _ => exact execTkmLock_keeps hP h e
  | drbgReseed _ => exact execDrbgReseed_keeps hP h e
  | toecapAlarm _ => exact execToecapAlarm_keeps hP h e
  | tcaEvtRead _ => exact execTcaEvtRead_keeps hP h e
  | fvRead _ => exact execFvRead_keeps hP h e
  | fvWrite _ => exact execFvWrite_keeps hP h e
  | pcieRead _ _ => exact execPcieRead_keeps hP h e
  | readAnswer _ _ => exact execReadAnswer_keeps hP h e
  | readTimeout _ => exact execReadTimeout_keeps hP h e
  | pcieWritePosted _ _ => exact execPcieWritePosted_keeps hP h e
  | pcieWriteConfirmed _ _ => exact execPcieWriteConfirmed_keeps hP h e
  | writeAck _ _ => exact execWriteAck_keeps hP h e
  | writeTimeout _ => exact execWriteTimeout_keeps hP h e
  | perrAck _ _ => exact execPerrAck_keeps hP h e
  | pcieLinkDown => exact execPcieLinkDown_keeps hP h e
  | pcieLinkUp _ _ _ => exact execPcieLinkUp_keeps hP h e
  | ownerWrite _ _ => exact execOwnerWrite_keeps hP h e
  | ringEnable _ _ _ _ _ _ _ => exact execRingEnable_keeps hP h e
  | tailWrite _ _ _ _ => exact execTailWrite_keeps hP h e
  | hdmRxDeliver _ => exact execHdmRxDeliver_keeps hP h e
  | hdmTxFrame _ _ => exact execHdmTxFrame_keeps hP h e
  | dmaError _ _ _ => exact execDmaError_keeps hP h e
  | moderationTimer _ _ => exact execModerationTimer_keeps hP h e
  | sbWrite _ _ _ => exact execSbWrite_keeps hP h e
  | sbRead _ _ _ => exact execSbRead_keeps hP h e
  | sbPeek _ _ _ => exact execSbPeek_keeps hP h e
  | sbStatus _ _ => exact execSbStatus_keeps hP h e
  | sbIdent _ _ => exact execSbIdent_keeps hP h e
  | sbPower _ _ _ => exact execSbPower_keeps hP h e
  | sbCrcErr _ => exact execSbCrcErr_keeps hP h e
  | sbShort => exact execSbShort_keeps hP h e
  | sbResponseTimeout _ _ => exact execSbResponseTimeout_keeps hP h e
  | mbxGo _ _ => exact execMbxGo_keeps hP h e
  | mbxResponse _ _ => exact execMbxResponse_keeps hP h e
  | loopbackTest _ _ => exact execLoopbackTest_keeps hP h e
  | faultReport _ _ => exact execFaultReport_keeps hP h e
  | stormPeriodEnd => exact execStormPeriodEnd_keeps hP h e
  | fltClear _ => exact execFltClear_keeps hP h e
  | faultCountSnapshot _ _ => exact execFaultCountSnapshot_keeps hP h e
  | faultCountClear _ _ => exact execFaultCountClear_keeps hP h e
  | nmiClear _ _ => exact execNmiClear_keeps hP h e
  | fwKick _ _ => exact execFwKick_keeps hP h e
  | fwWatchdogWarn => exact execFwWatchdogWarn_keeps hP h e
  | fwWatchdogExpiry => exact execFwWatchdogExpiry_keeps hP h e
  | lockstepMismatch _ => exact execLockstepMismatch_keeps hP h e
  | hbKick _ => exact execHbKick_keeps hP h e
  | hbEnable _ _ _ => exact execHbEnable_keeps hP h e
  | hbExpiry => exact execHbExpiry_keeps hP h e
  | selfTestDone _ _ _ _ => exact execSelfTestDone_keeps hP h e
  | lrcCountDone => exact execLrcCountDone_keeps hP h e
  | lrcCountTimeout => exact execLrcCountTimeout_keeps hP h e
  | hrcQualifyDone _ _ => exact execHrcQualifyDone_keeps hP h e
  | xtalQualifyDone _ => exact execXtalQualifyDone_keeps hP h e
  | xtalStartTimeout => exact execXtalStartTimeout_keeps hP h e
  | sdsrefQualifyDone _ => exact execSdsrefQualifyDone_keeps hP h e
  | monitorWindowEnd _ _ _ => exact execMonitorWindowEnd_keeps hP h e
  | clockStopDetect _ => exact execClockStopDetect_keeps hP h e
  | dwellEnd => exact execDwellEnd_keeps hP h e
  | autoReturnWrite _ _ => exact execAutoReturnWrite_keeps hP h e
  | hrcTrimWindow _ => exact execHrcTrimWindow_keeps hP h e
  | canTrimWindow _ => exact execCanTrimWindow_keeps hP h e
  | beaconTrimWindow _ => exact execBeaconTrimWindow_keeps hP h e
  | lrcTrimWindow _ => exact execLrcTrimWindow_keeps hP h e
  | domainRequest _ _ _ _ => exact execDomainRequest_keeps hP h e
  | domainPowerGood _ => exact execDomainPowerGood_keeps hP h e
  | domainPowerTimeout _ => exact execDomainPowerTimeout_keeps hP h e
  | pd8Drained => exact execPd8Drained_keeps hP h e
  | pd8DrainTimeout => exact execPd8DrainTimeout_keeps hP h e
  | supplyWarning _ => exact execSupplyWarning_keeps hP h e
  | supplyRecover _ _ => exact execSupplyRecover_keeps hP h e
  | supplyReset _ => exact execSupplyReset_keeps hP h e
  | por _ => exact execPor_keeps hP h e
  | pinReset _ => exact execPinReset_keeps hP h e
  | softReset _ _ => exact execSoftReset_keeps hP h e
  | blockReset _ _ => exact execBlockReset_keeps hP h e
  | blockResetEnd _ => exact execBlockResetEnd_keeps hP h e
  | pageEnableWrite _ _ _ => exact execPageEnableWrite_keeps hP h e
  | irqForce _ _ _ => exact execIrqForce_keeps hP h e
  | irqStatClear _ _ _ => exact execIrqStatClear_keeps hP h e
  | pageLock _ _ => exact execPageLock_keeps hP h e
  | clearOnRead _ _ _ => exact execClearOnRead_keeps hP h e
  | registerWrite _ _ _ _ => exact execRegisterWrite_keeps hP h e
  | flowCounterSnapshot _ _ => exact execFlowCounterSnapshot_keeps hP h e
  | flowCounterClear _ _ => exact execFlowCounterClear_keeps hP h e
  | meterSnapshot _ _ => exact execMeterSnapshot_keeps hP h e
  | meterClear _ _ => exact execMeterClear_keeps hP h e
  | meterFill _ _ => exact execMeterFill_keeps hP h e
  | serviceSnapshot _ _ _ => exact execServiceSnapshot_keeps hP h e
  | serviceDropsClear _ _ _ => exact execServiceDropsClear_keeps hP h e
  | subscriberSnapshot _ _ _ => exact execSubscriberSnapshot_keeps hP h e
  | queueSnapshot _ _ _ => exact execQueueSnapshot_keeps hP h e
  | routeSnapshot _ _ _ => exact execRouteSnapshot_keeps hP h e
  | routeCountsClear _ _ _ => exact execRouteCountsClear_keeps hP h e
  | tcaPortSnapshot _ _ => exact execTcaPortSnapshot_keeps hP h e
  | tcaPortClear _ _ => exact execTcaPortClear_keeps hP h e
  | keySlotSnapshot _ _ _ => exact execKeySlotSnapshot_keeps hP h e
  | clusterSnapshot _ _ => exact execClusterSnapshot_keeps hP h e
  | txmChannelSnapshot _ _ => exact execTxmChannelSnapshot_keeps hP h e
  | timeSnapshot _ => exact execTimeSnapshot_keeps hP h e
  | timeBaseTick => exact execTimeBaseTick_keeps hP h e
  | domainStep _ _ => exact execDomainStep_keeps hP h e
  | rateAdjust _ _ => exact execRateAdjust_keeps hP h e
  | syncRx _ _ => exact execSyncRx_keeps hP h e
  | syncReceiptTimeout _ => exact execSyncReceiptTimeout_keeps hP h e
  | holdoverExpiry _ => exact execHoldoverExpiry_keeps hP h e
  | laceStart _ => exact execLaceStart_keeps hP h e
  | laceCycleBoundary _ => exact execLaceCycleBoundary_keeps hP h e
  | gateEntryEnd _ => exact execGateEntryEnd_keeps hP h e
  | holdAdvRequest _ _ => exact execHoldAdvRequest_keeps hP h e
  | laceSwap _ => exact execLaceSwap_keeps hP h e
  | preemptVerify _ _ => exact execPreemptVerify_keeps hP h e
  | syncInEdge _ => exact execSyncInEdge_keeps hP h e
  | syncPeriodBoundary => exact execSyncPeriodBoundary_keeps hP h e
  | syncEnable _ _ => exact execSyncEnable_keeps hP h e
  | ppsPulse => exact execPpsPulse_keeps hP h e
  | evtInEdge _ _ _ => exact execEvtInEdge_keeps hP h e
  | evtRead _ _ => exact execEvtRead_keeps hP h e
  | trgArm _ _ _ => exact execTrgArm_keeps hP h e
  | trgEdge _ => exact execTrgEdge_keeps hP h e
  | keepaliveRx _ => exact execKeepaliveRx_keeps hP h e
  | keepalivePeriod _ => exact execKeepalivePeriod_keeps hP h e
  | readyTimerExpiry _ => exact execReadyTimerExpiry_keeps hP h e
  | prepareTimerExpiry _ => exact execPrepareTimerExpiry_keeps hP h e
  | wakeTimeout _ => exact execWakeTimeout_keeps hP h e
  | wakeRequestHost _ _ => exact execWakeRequestHost_keeps hP h e
  | wakeRequestSb _ _ => exact execWakeRequestSb_keeps hP h e
  | wakePinChange _ _ => exact execWakePinChange_keeps hP h e
  | routeHoldExpiry _ => exact execRouteHoldExpiry_keeps hP h e
  | linGotosleepRx _ => exact execLinGotosleepRx_keeps hP h e
  | descentStart => exact execDescentStart_keeps hP h e
  | descentCommit => exact execDescentCommit_keeps hP h e
  | descentStandby => exact execDescentStandby_keeps hP h e
  | descentSleep => exact execDescentSleep_keeps hP h e
  | wakeLatch _ _ => exact execWakeLatch_keeps hP h e
  | wakTimerExpiry => exact execWakTimerExpiry_keeps hP h e
  | converterUpdate _ => exact execConverterUpdate_keeps hP h e
  | txmCmd _ _ _ => exact execTxmCmd_keeps hP h e
  | txmSequenceDone _ _ => exact execTxmSequenceDone_keeps hP h e
  | bootStart => exact execBootStart_keeps hP h e
  | bootPartChecked _ => exact execBootPartChecked_keeps hP h e
  | bootRecordWriteDone _ => exact execBootRecordWriteDone_keeps hP h e
  | updOpen _ => exact execUpdOpen_keeps hP h e
  | updErase _ => exact execUpdErase_keeps hP h e
  | updProgram _ => exact execUpdProgram_keeps hP h e
  | updRead _ => exact execUpdRead_keeps hP h e
  | updClose _ => exact execUpdClose_keeps hP h e
  | updLoadPage _ => exact execUpdLoadPage_keeps hP h e
  | updLoadDone _ => exact execUpdLoadDone_keeps hP h e
  | updOpDone _ => exact execUpdOpDone_keeps hP h e
  | updArm _ => exact execUpdArm_keeps hP h e
  | updDisarm _ => exact execUpdDisarm_keeps hP h e
  | updRestart _ => exact execUpdRestart_keeps hP h e
  | updConfirm _ => exact execUpdConfirm_keeps hP h e
  | trialExpiry => exact execTrialExpiry_keeps hP h e
  | speedFrameRx _ _ _ _ => exact execSpeedFrameRx_keeps hP h e
  | speedStale => exact execSpeedStale_keeps hP h e
  | nonceReq _ => exact execNonceReq_keeps hP h e
  | nonceExpiry => exact execNonceExpiry_keeps hP h e
  | ownerLock _ => exact execOwnerLock_keeps hP h e
  | ownerUnlock _ => exact execOwnerUnlock_keeps hP h e
  | ownerProvision _ => exact execOwnerProvision_keeps hP h e
  | supplyResetRelease _ => exact execSupplyResetRelease_keeps hP h e
  | vstbyBelowPor => exact execVstbyBelowPor_keeps hP h e
  | clockEdgesReturn _ => exact execClockEdgesReturn_keeps hP h e
  | rxFifoMemoryError _ _ => exact execRxFifoMemoryError_keeps hP h e
  | phyInternalFault _ => exact execPhyInternalFault_keeps hP h e
  | grandmasterChange _ _ _ => exact execGrandmasterChange_keeps hP h e
  | prbsError _ => exact execPrbsError_keeps hP h e
  | vmoveInChange _ => exact execVmoveInChange_keeps hP h e


/-! ### Steps -/

/-- What a step can do: idle on an empty queue, or carry out the front command with the rest waiting (assumption log 16). -/
theorem step_cases {s t : State} (e : step s = .next t) :
    (s.pending = [] ∧ t = s) ∨ ∃ c r, s.pending = c :: r ∧ exec c { s with pending := r } = .next t := by
  unfold step at e
  split at e
  next hq => cases e; exact .inl ⟨hq, rfl⟩
  next c r hq => exact .inr ⟨c, r, hq, e⟩

/-- A command leaves the commands that wait behind it. -/
theorem exec_pending {c : Instr} {s t : State} (e : exec c s = .next t) : t.pending = s.pending :=
  exec_keeps (pending_closed s.pending) rfl e

/-- A step keeps a `Closed` predicate that does not speak of the queue. -/
theorem step_keeps (hP : Closed P) (hq : ∀ {s : State} {r : List Instr}, P s → P { s with pending := r }) {s t : State}
    (h : P s) (e : step s = .next t) : P t := by
  rcases step_cases e with ⟨_, rfl⟩ | ⟨c, r, _, e⟩
  · exact h
  · exact exec_keeps hP (hq h) e

end Sys2Proof.Machine

namespace Sys2Proof
open Machine

/-- Settles O54: `step` reads the front of the queue. -/
theorem stepRunsTheFrontCommand : Obligations.StepRunsTheFrontCommand := by
  unfold Obligations.StepRunsTheFrontCommand
  refine ⟨fun c r s hq => ?_, fun s hq => ?_⟩ <;> simp only [step, hq]

/-- Settles O55: the queue is one of the predicates that every command keeps. -/
theorem commandsLeaveTheQueue : Obligations.CommandsLeaveTheQueue := by
  unfold Obligations.CommandsLeaveTheQueue
  refine ⟨fun c s t e => exec_pending e, fun s t e => ?_⟩
  rcases step_cases e with ⟨hq, rfl⟩ | ⟨c, r, hq, e⟩
  · simp [hq]
  · simpa [hq] using exec_pending e

/-- Settles O56: both canonical forms are `Closed`, and neither speaks of the queue. -/
theorem stepsKeepRegistersCanonical : Obligations.StepsKeepRegistersCanonical := by
  unfold Obligations.StepsKeepRegistersCanonical
  exact ⟨fun s t h e => step_keeps canonical_closed id h e, fun s t h e => step_keeps memory_closed id h e⟩
end Sys2Proof

/-! The state at the release of a power-on reset (R14, R15). -/

namespace Sys2Proof.Machine
/-- In the reset state a cell other than the LRC's reads its reset value (R15). -/
theorem State.get_reset {f : Fld} {i j m : Nat} (h : f.keep ≠ .H ∨ f.key i j m ≠ Reg.CGU_STAT_LRC.key 0 0 0) :
    State.reset.get f i j m = f.dflt j := by
  have hc : AMap.get cellDflt (RegFile.init.sel f.keep) (f.key i j m) = 0 := by
    cases hk : f.keep with
    | H =>
      have hne : f.key i j m ≠ Reg.CGU_STAT_LRC.key 0 0 0 := h.resolve_left (fun n => n hk)
      change AMap.get cellDflt (AMap.ins [] _ 1) _ = 0
      simp [AMap.get, AMap.find_ins_other _ _ _ _ hne, AMap.find, cellDflt]
    | T => rfl
    | L => rfl
    | V => rfl
    | C => rfl
  change f.dflt j ^^^ AMap.get cellDflt (RegFile.init.sel f.keep) (f.key i j m) = f.dflt j
  rw [hc, Nat.xor_zero]
end Sys2Proof.Machine
namespace Sys2Proof
open Machine

/-- Settles O57: the reset state lists one cell, the LRC's, and holds nothing else. -/
theorem resetIsAsTheTablesSay : Obligations.ResetIsAsTheTablesSay := by
  unfold Obligations.ResetIsAsTheTablesSay
  refine ⟨fun f i j m h => State.get_reset h, by decide, RegFile.canonical_init, Memory.wf_reset, rfl, rfl, rfl, rfl, rfl, rfl, rfl,
    rfl, rfl, rfl, rfl, rfl, rfl, rfl, rfl, rfl, rfl, rfl, rfl, rfl, fun d _ => ?_⟩
  show bit 0 d.val = false
  simp [bit]
end Sys2Proof

/-! Peeks (R10, R227): what the registers at an offset show, and how a register access ends. -/

namespace Sys2Proof.Machine

/-! ### The registers at an offset of a page -/

/-- Past the common header a register shows fields of its block alone. -/
theorem fieldsAt_block {page off : Nat} (h : 0x80 ≤ off) :
    fieldsAt page off = (blockFields (pageType page)).filterMap (fun f => (fieldElem f page off).map (fun j => (f, j))) := by
  simp [fieldsAt, Nat.not_lt.mpr h]

/-- A field all of whose elements lie outside the offsets [lo, hi) is not in a register there. -/
theorem fieldElem_none {f : Fld} {page off lo hi : Nat} (h : 0 < f.stride ∧ (f.off + f.stride * f.count ≤ lo ∨ hi ≤ f.off))
    (hl : lo ≤ off) (hh : off < hi) : fieldElem f page off = none := by
  obtain ⟨hs, h⟩ := h
  unfold fieldElem
  refine if_neg fun hc => ?_
  simp only [Bool.and_eq_true, decide_eq_true_eq] at hc
  obtain ⟨⟨⟨_, ho⟩, hn⟩, _⟩ := hc
  have hlt : off - f.off < f.stride * f.count := Nat.mul_comm _ _ ▸ (Nat.div_lt_iff_lt_mul hs).mp hn
  omega

/-- Between its elements a field is not in a register. -/
theorem fieldElem_between {f : Fld} {page off : Nat} (h : off < f.off ∨ (off - f.off) % f.stride ≠ 0) :
    fieldElem f page off = none := by
  unfold fieldElem
  refine if_neg fun hc => ?_
  simp only [Bool.and_eq_true, decide_eq_true_eq, beq_iff_eq] at hc
  omega

/-- The register at the place of element j shows it. -/
theorem fieldElem_element {f : Fld} {page j : Nat} (hs : 0 < f.stride) (hb : f.lo < 32) (hl : f.page ≤ page)
    (hh : page < f.page + f.pages) (hj : j < f.count) : fieldElem f page (f.off + f.stride * j) = some j := by
  simp [fieldElem, hs, hb, hl, hh, hj]

theorem pageType_mac (p : Fin 32) : pageType (0x0D0 + p.val) = 0x1A := by revert p; decide

/-- The MAC registers besides the counts lie outside the counts' offsets. -/
theorem macFields_outside_counts : ∀ f ∈ Reg.fieldsMAC.take 36 ++ Reg.fieldsMDIO,
    0 < f.stride ∧ (f.off + f.stride * f.count ≤ 0x200 ∨ 0x340 ≤ f.off) := by decide

/-- The registers at 0x200 to 0x33C of a MAC page show the two words of the counts alone. -/
theorem fieldsAt_macCount {p : Fin 32} {off : Nat} (hl : 0x200 ≤ off) (hh : off < 0x340) :
    fieldsAt (0x0D0 + p.val) off =
      [Reg.MAC_CNT_LO_LO, Reg.MAC_CNT_HI_HI].filterMap (fun f => (fieldElem f (0x0D0 + p.val) off).map (fun j => (f, j))) := by
  have hno : ∀ f ∈ Reg.fieldsMAC.take 36 ++ Reg.fieldsMDIO,
      (fieldElem f (0x0D0 + p.val) off).map (fun j => (f, j)) = none := fun f hf => by
    rw [fieldElem_none (macFields_outside_counts f hf) hl hh]; rfl
  have hb : blockFields 0x1A = Reg.fieldsMAC.take 36 ++ ([Reg.MAC_CNT_LO_LO, Reg.MAC_CNT_HI_HI] ++ Reg.fieldsMDIO) := rfl
  rw [fieldsAt_block (by omega), pageType_mac, hb, List.filterMap_append, List.filterMap_append,
    List.filterMap_eq_nil_iff.mpr fun f hf => hno f (List.mem_append_left _ hf),
    List.filterMap_eq_nil_iff.mpr fun f hf => hno f (List.mem_append_right _ hf)]
  simp

theorem fieldsAt_macLow (p : Fin 32) (k : Fin 40) : fieldsAt (0x0D0 + p.val) (0x200 + 8 * k.val) = [(Reg.MAC_CNT_LO_LO, k.val)] := by
  have hlo : fieldElem Reg.MAC_CNT_LO_LO (0x0D0 + p.val) (0x200 + 8 * k.val) = some k.val :=
    fieldElem_element (f := Reg.MAC_CNT_LO_LO) (by decide) (by decide) (Nat.le_add_right _ _) (Nat.add_lt_add_left p.isLt _) k.isLt
  have hhi : fieldElem Reg.MAC_CNT_HI_HI (0x0D0 + p.val) (0x200 + 8 * k.val) = none :=
    fieldElem_between (f := Reg.MAC_CNT_HI_HI) (by change _ < 0x204 ∨ (_ - 0x204) % 8 ≠ 0; omega)
  rw [fieldsAt_macCount (by omega) (by omega)]
  simp [hlo, hhi]

theorem fieldsAt_macHigh (p : Fin 32) (k : Fin 40) : fieldsAt (0x0D0 + p.val) (0x204 + 8 * k.val) = [(Reg.MAC_CNT_HI_HI, k.val)] := by
  have hlo : fieldElem Reg.MAC_CNT_LO_LO (0x0D0 + p.val) (0x204 + 8 * k.val) = none :=
    fieldElem_between (f := Reg.MAC_CNT_LO_LO) (by change _ < 0x200 ∨ (_ - 0x200) % 8 ≠ 0; omega)
  have hhi : fieldElem Reg.MAC_CNT_HI_HI (0x0D0 + p.val) (0x204 + 8 * k.val) = some k.val :=
    fieldElem_element (f := Reg.MAC_CNT_HI_HI) (by decide) (by decide) (Nat.le_add_right _ _) (Nat.add_lt_add_left p.isLt _) k.isLt
  rw [fieldsAt_macCount (by omega) (by omega)]
  simp [hlo, hhi]

theorem fieldsAt_xferHigh (n : Fin 4) : fieldsAt (0x060 + n.val) 0x098 = [(Reg.FAB_XFER_HI_HI, 0)] := by revert n; decide

/-! ### Peeks -/

/-- The offsets of the peek space read as the page behind them is peeked (R10). -/
theorem State.busRead_peekSpace {s : State} {m : Master} {a n : Nat} (h : a < 0x1000000) :
    s.busRead m (0x2000000 + a) n = s.busReadReg m true a n := by
  unfold State.busRead
  rw [if_neg (by omega), if_neg (by omega), if_pos (by omega), Nat.add_sub_cancel_left]

theorem State.busRead_page {s : State} {m : Master} {a n : Nat} (h : a < 0x1000000) :
    s.busRead m a n = s.busReadReg m false a n := by
  unfold State.busRead; exact if_pos h

/-- An access of no allowed size is refused. -/
theorem State.busReadReg_size {s : State} {m : Master} {pk : Bool} {a n : Nat} (hr : regSize a n = false) :
    s.busReadReg m pk a n = (some .size, [], s) := by
  simp [State.busReadReg, hr]

/-- An access that the page refuses. -/
theorem State.busReadReg_refused {s : State} {m : Master} {pk : Bool} {a n : Nat} {e : AccErr} (hr : regSize a n = true)
    (he : s.readErr (a / 4096) (a % 4096) = some e) : s.busReadReg m pk a n = (some e, [], s) := by
  simp [State.busReadReg, hr, he]

/-- A peek that is served. -/
theorem State.busReadReg_peek {s : State} {m : Master} {a n : Nat} (hr : regSize a n = true)
    (he : s.readErr (a / 4096) (a % 4096) = none) : s.busReadReg m true a n =
      (none, (List.range (n / 4)).flatMap (fun k => leBytes 4 (s.peekWord m (a / 4096) (a % 4096 + 4 * k))), s) := by
  simp [State.busReadReg, hr, he]

/-- A read of 4 bytes that is served. -/
theorem State.busReadReg_four {s : State} {m : Master} {a : Nat} (hr : regSize a 4 = true)
    (he : s.readErr (a / 4096) (a % 4096) = none) : s.busReadReg m false a 4 =
      (none, leBytes 4 (s.readWord m (a / 4096) (a % 4096)), (s.readReg m (a / 4096) (a % 4096)).2) := by
  simp [State.busReadReg, hr, he, State.readReg]

/-- A read of 8 bytes that is served. -/
theorem State.busReadReg_eight {s : State} {m : Master} {a : Nat} (hr : regSize a 8 = true)
    (he : s.readErr (a / 4096) (a % 4096) = none) : s.busReadReg m false a 8 =
      (none, leBytes 4 (s.readWord m (a / 4096) (a % 4096)) ++ leBytes 4 (s.readWord m (a / 4096) (a % 4096 + 4)), s) := by
  simp [State.busReadReg, hr, he]

/-- A register access has 4 bytes or 8. -/
theorem regSize_cases {a n : Nat} (h : regSize a n = true) : n = 4 ∨ n = 8 := by
  unfold regSize at h
  simp only [Bool.or_eq_true, Bool.and_eq_true, beq_iff_eq] at h
  omega

/-- A peek ends as the access does, and leaves the state as it was. -/
theorem State.busReadReg_peek_effect (s : State) (m : Master) (a n : Nat) :
    (s.busReadReg m true a n).1 = (s.busReadReg m false a n).1 ∧ (s.busReadReg m true a n).2.2 = s := by
  cases hr : regSize a n with
  | false => simp [State.busReadReg_size hr]
  | true =>
    cases he : s.readErr (a / 4096) (a % 4096) with
    | some e => simp [State.busReadReg_refused hr he]
    | none =>
      rcases regSize_cases hr with rfl | rfl
      · simp [State.busReadReg_peek hr he, State.busReadReg_four hr he]
      · simp [State.busReadReg_peek hr he, State.busReadReg_eight hr he]

/-- A peek of a register without a high word of a count returns the word of an ordinary read. -/
theorem State.peekWord_eq_readWord {s : State} {m : Master} {page off : Nat} (h : ∀ x ∈ fieldsAt page off, liveCount x.1 = none) :
    s.peekWord m page off = s.readWord m page off := by
  unfold State.peekWord
  rw [List.findSome?_eq_none_iff.mpr (fun x hx => by simp [h x hx])]

/-- A peek of the high word of a count returns the live one (R227). -/
theorem State.peekWord_live {s : State} {m : Master} {page off j : Nat} {f c : Fld} (hf : fieldsAt page off = [(f, j)])
    (hc : liveCount f = some c) : s.peekWord m page off = (s.countSync c (page - f.page) j).get c (page - f.page) j / 2 ^ 32 := by
  simp [State.peekWord, hf, hc]

/-- A peek returns the bytes of the access wherever it meets no high word of a count. -/
theorem State.busReadReg_peek_bytes {s : State} {m : Master} {a n : Nat}
    (h : ∀ k ∈ [0, 1], ∀ x ∈ fieldsAt (a / 4096) (a % 4096 + 4 * k), liveCount x.1 = none) :
    (s.busReadReg m true a n).2.1 = (s.busReadReg m false a n).2.1 := by
  have h0 := State.peekWord_eq_readWord (s := s) (m := m) (h 0 (by simp))
  have h1 := State.peekWord_eq_readWord (s := s) (m := m) (h 1 (by simp))
  cases hr : regSize a n with
  | false => simp [State.busReadReg_size hr]
  | true =>
    cases he : s.readErr (a / 4096) (a % 4096) with
    | some e => simp [State.busReadReg_refused hr he]
    | none =>
      rcases regSize_cases hr with rfl | rfl
      · rw [State.busReadReg_peek hr he, State.busReadReg_four hr he]
        exact (List.append_nil _).trans (congrArg (leBytes 4) h0)
      · rw [State.busReadReg_peek hr he, State.busReadReg_eight hr he]
        change leBytes 4 _ ++ (leBytes 4 _ ++ []) = leBytes 4 _ ++ leBytes 4 _
        rw [List.append_nil]
        exact (congrArg (leBytes 4 · ++ _) h0).trans (congrArg (_ ++ leBytes 4 ·) h1)

/-- The peek space returns the word that a peek of the register returns. -/
theorem State.busRead_peekSpace_word {s : State} {m : Master} {page off : Nat} (hp : page < 4096) (ho : off < 4096) (h4 : off % 4 = 0)
    (he : s.readErr page off = none) :
    s.busRead m (0x2000000 + (page * 4096 + off)) 4 = (none, leBytes 4 (s.peekWord m page off), s) := by
  have hd : (page * 4096 + off) / 4096 = page := by omega
  have hm : (page * 4096 + off) % 4096 = off := by omega
  have hr : regSize (page * 4096 + off) 4 = true := by simp [regSize]; omega
  rw [State.busRead_peekSpace (by omega)]
  rw [State.busReadReg_peek hr (by rwa [hd, hm]), hd, hm]
  simp

/-- The fetch of PEEK leaves the state as it was. -/
theorem State.sbFetch_peek_state (s : State) (a n : Nat) (got : List Nat) : (s.sbFetch true a n got).2.2 = s := by
  induction n generalizing a got with
  | zero => rfl
  | succ n ih =>
    have ht := (s.busReadReg_peek_effect .sideband a 4).2
    unfold State.sbFetch
    simp only [if_true]
    split
    next hx => rw [hx] at ht; exact ht ▸ ih _ _
    next hx => rw [hx] at ht; exact ht

/-- The peek space is not written (R10). -/
theorem State.busWrite_peekSpace {s : State} {m : Master} {a : Nat} {bs : List Byte} (hl : 0x2000000 ≤ a) (hh : a < 0x3000000) :
    s.busWrite m a bs = (none, s) := by
  unfold State.busWrite
  rw [if_neg (by omega), if_neg (by omega), if_pos hh]

end Sys2Proof.Machine

namespace Sys2Proof
open Machine

/-- Settles O58: an access of the peek space is a peek, a peek has no effect, and only the high words of counts differ from a read's. -/
theorem peeksHaveNoEffect : Obligations.PeeksHaveNoEffect := by
  unfold Obligations.PeeksHaveNoEffect
  refine ⟨fun m a n s ha => ?_, fun m a n s ha h => ?_, fun m n s he => ?_, fun m p k s he hk => ?_,
    fun m a n s => s.busReadReg_peek_effect m a n,
    fun a n got s => s.sbFetch_peek_state a n got, fun m a bs s => State.busWrite_peekSpace⟩
  · rw [State.busRead_peekSpace ha, State.busRead_page ha]
    exact s.busReadReg_peek_effect m a n
  · rw [State.busRead_peekSpace ha, State.busRead_page ha]
    exact State.busReadReg_peek_bytes h
  · rw [Nat.add_assoc, State.busRead_peekSpace_word (by omega) (by omega) (by omega) he, State.peekWord_live (fieldsAt_xferHigh n) rfl,
      show 0x060 + n.val - Reg.FAB_XFER_HI_HI.page = n.val by simp [Reg.FAB_XFER_HI_HI]]
    rfl
  · have hw := State.peekWord_live (s := s) (m := m) (fieldsAt_macHigh p k) rfl
    rw [show 0x0D0 + p.val - Reg.MAC_CNT_HI_HI.page = p.val by simp [Reg.MAC_CNT_HI_HI]] at hw
    rw [Nat.add_assoc, Nat.add_assoc, State.busRead_peekSpace_word (by omega) (by omega) (by omega) he, hw]
    simp [State.countSync, hk, Reg.MAC_CNT_FULL, Reg.FAB_XFER_FULL]

end Sys2Proof

/-! Commands of a register page (R9, R17, R227, R402–R411): what the gates let through, and the reads of 64-bit counts. -/

namespace Sys2Proof.Machine

/-! ### What the gates let through -/

/-- A command whose master is present meets its page in the state after it is sent. -/
theorem State.command_eq {z : State} {m : Master} {page off : Nat} {k : State → Acc} (hb : m = .sideband → (z.sent m).sbOn = true) :
    z.command m page off k = (z.sent m).answer m page off (k (z.sent m)) := by
  cases m
  case host => rfl
  case sideband => exact if_pos (hb rfl)
  case firmware => rfl

/-- A command that changes nothing changes nothing, whether or not its master is present. -/
theorem State.command_idle {z : State} {m : Master} {page off : Nat} {k : State → Acc} (hk : k (z.sent m) = (none, z.sent m)) :
    z.command m page off k = z.sent m := by
  cases m
  case sideband =>
    change (if z.sbOn then z.answer .sideband page off (k z) else z) = z
    rw [show k z = (none, z) from hk, State.answer_none, ite_self]
  all_goals exact (State.command_eq (by simp)).trans (by rw [hk]; rfl)

/-- A command of a sideband target that is absent is nothing (R315). -/
theorem State.command_absent {s : State} {page off : Nat} {k : State → Acc} (h : s.sbOn = false) :
    s.command .sideband page off k = s := by
  simp [State.command, h]

/-- The gate without the write lock lets a write through that its page serves and no other master owns. -/
theorem State.gate0_of_serves {s : State} {m : Master} {page off : Nat} {k : State → State} (h : s.serves m page)
    (ho : s.ownedByOther m (pageGroup page) = false) : s.gate0 m page off k = (none, k s) := by
  obtain ⟨_, hh, hd, hp, hr⟩ := h
  simp [State.gate0, hh, hd, hp, hr, ho]

/-- The gate lets a granted write through. -/
theorem State.gate_of_grants {s : State} {m : Master} {page off : Nat} {k : State → State} (h : s.grants m page) :
    s.gate m page off k = (none, k s) := by
  obtain ⟨hs, ho, hl⟩ := h
  rw [State.gate, State.gate0_of_serves hs ho]
  rcases hl with hl | hl <;> simp [hl]

/-- The gate refuses a write to a page that is not powered. -/
theorem State.gate_not_powered {s : State} {m : Master} {page off : Nat} {k : State → State} (hh : s.heelStands = false)
    (hd : pageDefined page = true) (hp : s.pagePowered page = false) : s.gate m page off k = (some .notPowered, s) := by
  simp [State.gate, State.gate0, hh, hd, hp]

/-- A granted write of PG_CTRL goes on. -/
theorem State.pgCtrlGate_of_grants {s : State} {m : Master} {page : Nat} {k : State → Acc} (h : s.grants m page) :
    s.pgCtrlGate m page k = k s := by
  obtain ⟨⟨_, hh, hd, _, _⟩, ho, hl⟩ := h
  rcases hl with hl | rfl
  · simp [State.pgCtrlGate, hh, hd, ho, hl]
  · simp [State.pgCtrlGate, hh, hd, ho]

/-- A granted BLOCK reset begins (R406). -/
theorem State.blockResetWrite_of_grants {s : State} {m : Master} {page : Nat} (h : s.grants m page)
    (hf : fixedType (pageType page) = false) : s.blockResetWrite m page = (none, s.blockReset page) := by
  obtain ⟨⟨_, _, _, hp, hr⟩, _, _⟩ := id h
  simp [State.blockResetWrite, State.pgCtrlGate_of_grants h, hf, hp, hr]

/-- A BLOCK reset of a fixed page is counted (R406). -/
theorem State.blockResetWrite_fixed {s : State} {m : Master} {page : Nat} (h : s.grants m page)
    (hf : fixedType (pageType page) = true) : s.blockResetWrite m page = (none, s.err page 0x008 ecINVALID m) := by
  simp [State.blockResetWrite, State.pgCtrlGate_of_grants h, hf]

/-- A granted change of ENABLE, of a page that is not a MAC page, is written (R405). -/
theorem State.enableWrite_of_grants {s : State} {m : Master} {page : Nat} {on : Bool} (h : s.grants m page)
    (ht : pageType page ≠ 0x1A) : s.enableWrite m page on = (none, s.put Reg.PG_CTRL_ENABLE (b2n on) page) := by
  obtain ⟨⟨_, _, _, hp, hr⟩, _, _⟩ := id h
  simp [State.enableWrite, State.pgCtrlGate_of_grants h, State.enableSet, State.pageEnable, hp, hr, ht]

/-- Past the common header a write goes through the gate where its path is the gate's. -/
theorem State.writeWord_gate {s : State} {m : Master} {page off w : Nat} {k : State → State} (ho : 0x80 ≤ off)
    (hw : s.writePath m page off w = .gate k) : s.writeWord m page off w = s.gate m page off k := by
  rw [State.writeWord, if_neg (by omega), hw]

/-! ### Ordinary reads -/

/-- A page that serves its master refuses no read. -/
theorem State.readErr_of_serves {s : State} {m : Master} {page off : Nat} (h : s.serves m page) : s.readErr page off = none := by
  obtain ⟨_, hh, hd, hp, hr⟩ := h
  simp [State.readErr, hh, hd, hp, hr]

/-- A read that is served keeps its word, and has its effect. -/
theorem State.readCmd_served {s : State} {m : Master} {page off : Nat} (hb : m = .sideband → s.sbOn = true)
    (he : s.readErr page off = none) : s.readCmd m page off = (s.readReg m page off).2 := by
  have hp : ¬ (m = .sideband && !s.sbOn) = true := by
    cases m <;> simp_all
  rw [State.readCmd, if_neg hp, he]

/-- A register of one field, from bit 0, reads that field's value. -/
theorem State.readWord_single {s : State} {m : Master} {page off j : Nat} {f : Fld} (hf : fieldsAt page off = [(f, j)])
    (ht : pageType page ≠ 0x0C ∧ pageType page ≠ 0x09) (hl : f.lo = 0) : s.readWord m page off = s.fieldValue m page f j := by
  simp [State.readWord, ht.1, ht.2, hf, hl]

/-- A served read of a register of one field. -/
theorem State.readCmd_single {s : State} {m : Master} {page off j : Nat} {f : Fld} (hs : s.serves m page)
    (hf : fieldsAt page off = [(f, j)]) (ht : pageType page ≠ 0x0C ∧ pageType page ≠ 0x09) (hl : f.lo = 0) :
    s.readCmd m page off = { s.fieldRead m page f j with rd := AMap.ins s.rd m.code (s.fieldValue m page f j) } := by
  rw [State.readCmd_served hs.1 (State.readErr_of_serves hs), State.readReg, State.readWord_single hf ht hl, State.readEffect, hf]
  rfl

/-! ### The low words of 64-bit counts (R227) -/

/-- The whole count and its high word lie in cells of their own. -/
structure IsCount (full hi : Fld) : Prop where
  full_keep : full.keep = .V
  hi_keep : hi.keep = .V
  hi_width : hi.width = 32
  hi_ne : ∀ i j m, m < 4 → hi.key i j m ≠ full.key i j 0

theorem masterCode_lt (m : Master) : m.code < 4 := by cases m <;> decide

/-- The cells of a high word and of the count behind it differ: the count's lowest bit is 64. -/
theorem Fld.key_ne_of_lo {f g : Fld} {i j m a b : Nat} (hf : f.lo = 0) (hg : g.lo = 64) (hp : g.perMaster = false) (hm : m < 4) :
    f.key i j m ≠ g.key a b 0 := by
  simp only [Fld.key, hf, hg, hp]
  split <;> simp <;> omega

theorem isCount_clrFrames : IsCount Reg.CLR_FRAMES_FULL Reg.CLR_FRAMES_HI_HI :=
  ⟨rfl, rfl, rfl, fun _ _ _ => Fld.key_ne_of_lo rfl rfl rfl⟩
theorem isCount_fabXfer : IsCount Reg.FAB_XFER_FULL Reg.FAB_XFER_HI_HI :=
  ⟨rfl, rfl, rfl, fun _ _ _ => Fld.key_ne_of_lo rfl rfl rfl⟩
theorem isCount_macCnt : IsCount Reg.MAC_CNT_FULL Reg.MAC_CNT_HI_HI :=
  ⟨rfl, rfl, rfl, fun _ _ _ => Fld.key_ne_of_lo rfl rfl rfl⟩
theorem isCount_awlMsgs : IsCount Reg.AWL_MSGS_FULL Reg.AWL_MSGS_HI_HI :=
  ⟨rfl, rfl, rfl, fun _ _ _ => Fld.key_ne_of_lo rfl rfl rfl⟩

/-- The read of a low word clears the count. -/
theorem State.lowRead_full {s : State} {m : Master} {full hi : Fld} {i j : Nat} (h : IsCount full hi) :
    (s.lowRead m full hi i j).get full i j = 0 := by
  rw [State.lowRead, State.get_put _ _ _ _ _ _ (.inr (.inr h.full_keep)), Nat.zero_mod]

/-- The read of a low word keeps the high word for its master. -/
theorem State.lowRead_high {s : State} {m : Master} {full hi : Fld} {i j : Nat} (h : IsCount full hi) :
    (s.lowRead m full hi i j).get hi i j m.code = s.get full i j / 2 ^ 32 % 2 ^ 32 := by
  rw [State.lowRead, State.get_put_other _ _ _ _ _ _ _ _ _ _ (.inr (h.hi_ne i j m.code (masterCode_lt m))),
    State.get_put _ _ _ _ _ _ (.inr (.inr h.hi_keep)), h.hi_width]

/-- The fabric brought up to now: its slices and its counts alone move. -/
theorem State.fabNow_frame (s : State) : s.fabNow.clr = s.clr ∧ s.fabNow.lst = s.lst := by
  have hstep : ∀ (u : State) (n : Nat), (u.clr = s.clr ∧ u.lst = s.lst) →
      (u.sliceServed n).clr = s.clr ∧ (u.sliceServed n).lst = s.lst := fun u n h => by
    unfold State.sliceServed
    extract_lets x y
    split
    · exact h
    · simpa [State.sliceSet] using h
  exact keeps_foldl (P := fun u => u.clr = s.clr ∧ u.lst = s.lst) hstep ⟨rfl, rfl⟩

/-- A held period counted: the counts and the MAC alone move. -/
theorem State.heldSync_frame (s : State) (p : Nat) :
    (s.heldSync p).clr = s.clr ∧ (s.heldSync p).lst = s.lst ∧ (s.heldSync p).fab = s.fab := by
  unfold State.heldSync
  split
  · simp
  · unfold State.macCnt
    extract_lets
    split
    · simp
    · split <;> simp

theorem fieldsAt_fabXfer (n : Fin 4) :
    fieldsAt (0x060 + n.val) 0x094 = [(Reg.FAB_XFER_LO_LO, 0)] ∧ pageType (0x060 + n.val) = 0x13 := by
  revert n; decide
theorem fieldsAt_clrFrames (c : Fin 24) :
    fieldsAt (0x040 + c.val) 0x084 = [(Reg.CLR_FRAMES_LO_LO, 0)] ∧ pageType (0x040 + c.val) = 0x10 := by
  revert c; decide
theorem fieldsAt_awlMsgs (e : Fin 16) :
    fieldsAt (0x110 + e.val) 0x084 = [(Reg.AWL_MSGS_LO_LO, 0)] ∧ pageType (0x110 + e.val) = 0x1D := by
  revert e; decide

/-- COUNTER_LOW_READ of FAB_XFER. -/
theorem counterLowRead_fabXfer {s : State} {m : Master} {n : Fin 4} (h : s.serves m (0x060 + n.val)) :
    counterLowRead m (.fabXfer n) s = { s.fabNow.lowRead m Reg.FAB_XFER_FULL Reg.FAB_XFER_HI_HI n.val 0 with
      rd := AMap.ins s.rd m.code (s.fabNow.get Reg.FAB_XFER_FULL n.val % 2 ^ 32) } := by
  obtain ⟨hf, ht⟩ := fieldsAt_fabXfer n
  have hi : 0x060 + n.val - Reg.FAB_XFER_LO_LO.page = n.val := Nat.add_sub_cancel_left ..
  have hr : s.fieldRead m (0x060 + n.val) Reg.FAB_XFER_LO_LO 0 = s.fabNow.lowRead m Reg.FAB_XFER_FULL Reg.FAB_XFER_HI_HI n.val 0 := by
    rw [State.fieldRead, hi, if_neg (by decide), if_pos rfl]
  have hv : s.fieldValue m (0x060 + n.val) Reg.FAB_XFER_LO_LO 0 = s.fabNow.get Reg.FAB_XFER_FULL n.val % 2 ^ 32 := by
    rw [State.fieldValue, hi, ht]
    exact Nat.mod_mod _ _
  rw [counterLowRead, State.readCmd_single h hf (by rw [ht]; decide) rfl, hr, hv]

/-- COUNTER_LOW_READ of a Clicker's frames. -/
theorem counterLowRead_clrFrames {s : State} {m : Master} {c : Fin 24} (h : s.serves m (0x040 + c.val)) :
    counterLowRead m (.clrFrames c) s = { s.lowRead m Reg.CLR_FRAMES_FULL Reg.CLR_FRAMES_HI_HI c.val 0 with
      rd := AMap.ins s.rd m.code (s.get Reg.CLR_FRAMES_FULL c.val % 2 ^ 32) } := by
  obtain ⟨hf, ht⟩ := fieldsAt_clrFrames c
  have hi : 0x040 + c.val - Reg.CLR_FRAMES_LO_LO.page = c.val := Nat.add_sub_cancel_left ..
  have hr : s.fieldRead m (0x040 + c.val) Reg.CLR_FRAMES_LO_LO 0 = s.lowRead m Reg.CLR_FRAMES_FULL Reg.CLR_FRAMES_HI_HI c.val 0 := by
    rw [State.fieldRead, hi, if_pos rfl]
  have hv : s.fieldValue m (0x040 + c.val) Reg.CLR_FRAMES_LO_LO 0 = s.get Reg.CLR_FRAMES_FULL c.val % 2 ^ 32 := by
    rw [State.fieldValue, hi, ht]
    exact Nat.mod_mod _ _
  rw [counterLowRead, State.readCmd_single h hf (by rw [ht]; decide) rfl, hr, hv]

/-- COUNTER_LOW_READ of an engine's messages. -/
theorem counterLowRead_awlMsgs {s : State} {m : Master} {e : Fin 16} (h : s.serves m (0x110 + e.val)) :
    counterLowRead m (.awlMsgs e) s = { s.lowRead m Reg.AWL_MSGS_FULL Reg.AWL_MSGS_HI_HI e.val 0 with
      rd := AMap.ins s.rd m.code (s.get Reg.AWL_MSGS_FULL e.val % 2 ^ 32) } := by
  obtain ⟨hf, ht⟩ := fieldsAt_awlMsgs e
  have hi : 0x110 + e.val - Reg.AWL_MSGS_LO_LO.page = e.val := Nat.add_sub_cancel_left ..
  have hr : s.fieldRead m (0x110 + e.val) Reg.AWL_MSGS_LO_LO 0 = s.lowRead m Reg.AWL_MSGS_FULL Reg.AWL_MSGS_HI_HI e.val 0 := by
    rw [State.fieldRead, hi, if_neg (by decide), if_neg (by decide), if_neg (by decide), if_pos rfl]
  have hv : s.fieldValue m (0x110 + e.val) Reg.AWL_MSGS_LO_LO 0 = s.get Reg.AWL_MSGS_FULL e.val % 2 ^ 32 := by
    rw [State.fieldValue, hi, ht]
    exact Nat.mod_mod _ _
  rw [counterLowRead, State.readCmd_single h hf (by rw [ht]; decide) rfl, hr, hv]

/-- COUNTER_LOW_READ of a MAC count: TX_PAUSED_US reaches the present first (R224). -/
theorem counterLowRead_macCnt {s : State} {m : Master} {p : Fin 32} {k : Fin 40} (h : s.serves m (0x0D0 + p.val)) :
    counterLowRead m (.macCnt p k) s =
      { (if k.val = 29 then s.heldSync p.val else s).lowRead m Reg.MAC_CNT_FULL Reg.MAC_CNT_HI_HI p.val k.val with
        rd := AMap.ins s.rd m.code ((s.get Reg.MAC_CNT_FULL p.val k.val + if k.val = 29 then s.heldUs p.val else 0) % 2 ^ 32) } := by
  have ht := pageType_mac p
  have hi : 0x0D0 + p.val - Reg.MAC_CNT_LO_LO.page = p.val := Nat.add_sub_cancel_left ..
  have hr : s.fieldRead m (0x0D0 + p.val) Reg.MAC_CNT_LO_LO k.val =
      (if k.val = 29 then s.heldSync p.val else s).lowRead m Reg.MAC_CNT_FULL Reg.MAC_CNT_HI_HI p.val k.val := by
    rw [State.fieldRead, hi, if_neg (by decide), if_neg (by decide), if_pos rfl]
  have hv : s.fieldValue m (0x0D0 + p.val) Reg.MAC_CNT_LO_LO k.val =
      (s.get Reg.MAC_CNT_FULL p.val k.val + if k.val = 29 then s.heldUs p.val else 0) % 2 ^ 32 := by
    rw [State.fieldValue, hi, ht]
    exact Nat.mod_mod _ _
  rw [counterLowRead, State.readCmd_single h (fieldsAt_macLow p k) (by rw [ht]; decide) rfl, hr, hv]

end Sys2Proof.Machine


namespace Sys2Proof
open Machine

/-- Settles O43: the gate of each command lets it through or turns it away, and a read of a 64-bit count clears it. -/
theorem pagesTakeTheirCommands : Obligations.PagesTakeTheirCommands := by
  unfold Obligations.PagesTakeTheirCommands
  refine ⟨?_, ?_, ?_, ?_, ?_, ?_, ?_, ?_, ?_, ?_, ?_, ?_, ?_, ?_, ?_, ?_, ?_⟩
  case refine_1 =>
    rintro m p z _ rfl hg hf
    exact congrArg Host.Outcome.next ((State.command_eq hg.1.1).trans (by rw [State.blockResetWrite_of_grants hg hf]; rfl))
  case refine_2 =>
    rintro m p z _ rfl hg hf
    exact congrArg Host.Outcome.next ((State.command_eq hg.1.1).trans (by rw [State.blockResetWrite_fixed hg hf]; rfl))
  case refine_3 =>
    intro p s hh hr
    exact congrArg Host.Outcome.next (by simp [blockResetEnd, hh, hr])
  case refine_4 =>
    intro p s h
    exact congrArg Host.Outcome.next (by rcases h with h | h <;> simp [blockResetEnd, h])
  case refine_5 =>
    rintro m p on z _ rfl hg hf ht he
    obtain ⟨⟨hb, hh, hd, _, _⟩, _, _⟩ := id hg
    refine congrArg Host.Outcome.next ((State.command_eq hb).trans ?_)
    rw [if_neg (by simp [hh]), if_neg (by simp [hd]), if_neg (by cases on <;> simp [hf, he]), State.enableWrite_of_grants hg ht]
    rfl
  case refine_6 =>
    rintro m p on z _ rfl hh hd h
    refine congrArg Host.Outcome.next (State.command_idle ?_)
    rw [if_neg (by simp [hh]), if_neg (by simp [hd]), if_pos (by rcases h with h | h <;> simp [h])]
  case refine_7 =>
    rintro m p on z _ rfl hb hh hd
    refine congrArg Host.Outcome.next ((State.command_eq hb).trans ?_)
    rw [if_neg (by simp [hh]), if_pos (by simp [hd])]
  case refine_8 =>
    rintro m p w z _ rfl hs ho
    refine ⟨congrArg Host.Outcome.next ((State.command_eq hs.1).trans ?_), congrArg Host.Outcome.next ((State.command_eq hs.1).trans ?_),
      congrArg Host.Outcome.next ((State.command_eq hs.1).trans ?_)⟩
    · rw [State.irqForce, State.gate0_of_serves hs ho]; rfl
    · rw [State.irqClear, State.gate0_of_serves hs ho]; rfl
    · rw [State.lockWrite, State.gate0_of_serves hs ho]; rfl
  case refine_9 =>
    rintro m p o w z _ rfl hg ho hw
    refine congrArg (fun t => Host.Outcome.next (State.dueReset t)) ((State.command_eq hg.1.1).trans ?_)
    rw [State.writeWord_gate ho hw, State.gate_of_grants hg]; rfl
  case refine_10 =>
    intro p o w k s hb hh ho hw hp hd
    have hc := State.command_eq (z := s) (m := .sideband) (page := p.val) (off := o.val)
      (k := fun s => s.writeWord .sideband p.val o.val w.toNat) (fun _ => hb)
    refine congrArg (fun t => Host.Outcome.next (State.dueReset t)) (hc.trans ?_)
    change s.answer .sideband p.val o.val (s.writeWord .sideband p.val o.val w.toNat) = _
    rw [State.writeWord_gate ho hw, State.gate_not_powered hh hd hp]; rfl
  case refine_11 =>
    intro m p o s hb he
    exact congrArg Host.Outcome.next (State.readCmd_served hb he)
  case refine_12 =>
    intro p o e s he
    refine ⟨congrArg Host.Outcome.next ?_, fun hb => congrArg Host.Outcome.next ?_⟩
    · simp [clearOnRead, State.readCmd, he]
    · simp [clearOnRead, State.readCmd, he, hb]
  case refine_13 =>
    intro p o w s hb
    refine ⟨congrArg (fun t => Host.Outcome.next (State.dueReset t)) (State.command_absent hb), congrArg Host.Outcome.next ?_⟩
    simp [clearOnRead, State.readCmd, hb]
  case refine_14 =>
    intro m n s hs
    obtain ⟨hclr, hlst⟩ := s.fabNow_frame
    exact ⟨_, congrArg Host.Outcome.next (counterLowRead_fabXfer hs),
      State.lowRead_full isCount_fabXfer, State.lowRead_high isCount_fabXfer,
      AMap.find_ins_same .., hclr, hlst, rfl⟩
  case refine_15 =>
    intro m c s hs
    exact ⟨_, congrArg Host.Outcome.next (counterLowRead_clrFrames hs),
      State.lowRead_full isCount_clrFrames, State.lowRead_high isCount_clrFrames,
      AMap.find_ins_same .., rfl, rfl, rfl⟩
  case refine_16 =>
    rintro m p k s _ hs rfl
    have hframe : ∀ u, u = (if k.val = 29 then s.heldSync p.val else s) → u.clr = s.clr ∧ u.lst = s.lst ∧ u.fab = s.fab := by
      rintro _ rfl
      split
      · exact s.heldSync_frame p.val
      · exact ⟨rfl, rfl, rfl⟩
    obtain ⟨hclr, hlst, hfab⟩ := hframe _ rfl
    refine ⟨_, congrArg Host.Outcome.next (counterLowRead_macCnt hs),
      State.lowRead_full isCount_macCnt, State.lowRead_high isCount_macCnt,
      fun hk => (AMap.find_ins_same ..).trans (by rw [if_neg hk, Nat.add_zero]), hclr, hlst, hfab⟩
  case refine_17 =>
    intro m e s hs
    exact ⟨_, congrArg Host.Outcome.next (counterLowRead_awlMsgs hs),
      State.lowRead_full isCount_awlMsgs, State.lowRead_high isCount_awlMsgs,
      AMap.find_ins_same .., rfl, rfl, rfl⟩

end Sys2Proof

/-! The device resets (R14–R16, R359, R361, R414, R432, R433): what they leave of the V fields and of the blocks. -/

namespace Sys2Proof.Machine

/-! ### The V cells that a reset itself writes -/

/-- The causes of cautious forwarding that outlast a reset, a dwell and the mode. -/
def resetCells : List Nat :=
  [Reg.DEV_CAUTIOUS_TEST.key 0 0 0, Reg.DEV_CAUTIOUS_CLOCK.key 0 0 0, Reg.DEV_CAUTIOUS_SUPPLY.key 0 0 0,
    Reg.CGU_STAT_DWELL.key 0 0 0, Reg.PWR_MODE_MODE.key 0 0 0]

/-- No V field is away from its reset value but those of `resetCells`. -/
def State.ResetV (s : State) : Prop := ∀ c ∈ s.regs.v, c.1 ∈ resetCells

theorem State.resetV_nil {s : State} (h : s.regs.v = []) : s.ResetV := by simp [State.ResetV, h]

theorem State.resetV_of_eq {s t : State} (e : t.regs.v = s.regs.v) (h : s.ResetV) : t.ResetV := fun c hc => h c (e ▸ hc)

theorem AMap.mem_set {V : Type} [DecidableEq V] {d : Nat → V} {m : AMap V} {k : Nat} {v : V} {c : Nat × V}
    (h : c ∈ AMap.set d m k v) : c.1 = k ∨ c ∈ m := by
  unfold AMap.set at h
  split at h
  · exact .inr (List.mem_filter.mp h).1
  · exact (AMap.mem_ins h).imp (fun e => by rw [e]) id

theorem AMap.find_none {V : Type} {m : AMap V} {k : Nat} (h : ∀ c ∈ m, c.1 ≠ k) : AMap.find m k = none := by
  induction m with
  | nil => rfl
  | cons c r ih =>
    have hc : k ≠ c.1 := fun e => h c List.mem_cons_self e.symm
    simp [AMap.find, hc, ih (fun x hx => h x (List.mem_cons_of_mem _ hx))]

/-- A write of a V field changes the V map alone. -/
theorem State.put_V {s : State} {f : Fld} {v i j m : Nat} (h : f.keep = .V) :
    s.put f v i j m = { s with regs := { s.regs with v := (s.put f v i j m).regs.v } } := by
  simp only [State.put, h, RegFile.upd]

/-- A write of a field of another class leaves the V cells. -/
theorem State.resetV_put_other {s : State} {f : Fld} {v i j m : Nat} (hk : f.keep ≠ .V) (h : s.ResetV) : (s.put f v i j m).ResetV := by
  refine State.resetV_of_eq ?_ h
  cases hf : f.keep <;> simp_all [State.put, RegFile.upd]

theorem State.resetV_put {s : State} {f : Fld} {v i j m : Nat} (hk : f.keep = .V) (hc : f.key i j m ∈ resetCells) (h : s.ResetV) :
    (s.put f v i j m).ResetV := by
  intro c hm
  simp only [State.put, hk, RegFile.upd, RegFile.sel] at hm
  rcases AMap.mem_set hm with e | hm
  · exact e ▸ hc
  · exact h c hm

/-- After a reset the start-up condition of R34 holds. -/
theorem State.ResetV.cautious {s : State} (h : s.ResetV) : s.devCautious = true := by
  have hno : AMap.find s.regs.v (Reg.DEV_CAUTIOUS_STARTUP.key 0 0 0) = none :=
    AMap.find_none fun c hc e => absurd (e ▸ h c hc) (by decide)
  have hs : s.flag Reg.DEV_CAUTIOUS_STARTUP = true := by
    change (Nat.xor 1 (AMap.get cellDflt s.regs.v _) == 1) = true
    rw [AMap.get, hno]; rfl
  simp [State.devCautious, hs]

/-- Under cautious forwarding another cause is no entry (R37). -/
theorem State.devCause_of_cautious {s : State} {f : Fld} {on : Bool} (h : s.devCautious = true) :
    s.devCause f on = s.put f (b2n on) := by
  simp [State.devCause, h]

/-! ### Conditions that outlast a reset -/

/-- What is written after a reset to the V cells of `resetCells`, the mode apart. -/
structure State.Marks (s t : State) : Prop where
  only : ∃ v, t = { s with regs := { s.regs with v := v } }
  resetV : t.ResetV
  mode : t.mode = s.mode

theorem State.Marks.refl {s : State} (h : s.ResetV) : State.Marks s s := ⟨⟨s.regs.v, rfl⟩, h, rfl⟩

theorem State.Marks.put {s t : State} (h : State.Marks s t) {f : Fld} {v : Nat} (hk : f.keep = .V) (hc : f.key 0 0 0 ∈ resetCells)
    (hm : Reg.PWR_MODE_MODE.key 0 0 0 ≠ f.key 0 0 0) : State.Marks s (t.put f v) := by
  obtain ⟨⟨x, rfl⟩, hv, hmode⟩ := h
  exact ⟨⟨_, State.put_V hk⟩, State.resetV_put hk hc hv, (State.get_put_other _ _ _ _ _ _ _ _ _ _ (.inr hm)).trans hmode⟩

theorem State.Marks.devCause {s t : State} (h : State.Marks s t) {f : Fld} {on : Bool} (hk : f.keep = .V)
    (hc : f.key 0 0 0 ∈ resetCells) (hm : Reg.PWR_MODE_MODE.key 0 0 0 ≠ f.key 0 0 0) : State.Marks s (t.devCause f on) := by
  rw [State.devCause_of_cautious h.resetV.cautious]
  exact h.put hk hc hm

theorem State.Marks.testCause {s t : State} (h : State.Marks s t) : State.Marks s t.testCause :=
  h.devCause rfl (by decide) (by decide)

/-- The conditions that outlast a reset write `resetCells` alone. -/
theorem State.stillHolds_marks {s : State} (h : s.ResetV) : State.Marks s s.stillHolds := by
  have ht : State.Marks s s.testCause := (State.Marks.refl h).testCause
  unfold State.stillHolds
  extract_lets a b
  have hb : State.Marks s b := by
    unfold b
    split
    · have hc : State.Marks s (a.devCause Reg.DEV_CAUTIOUS_CLOCK true) := ht.devCause rfl (by decide) (by decide)
      unfold State.dwellStart
      split
      · exact hc.put rfl (by decide) (by decide)
      · exact hc
    · exact ht
  split
  · exact hb
  · exact hb.devCause rfl (by decide) (by decide)

/-- What sampling the straps writes (R433), and the factory-test condition (R34). -/
theorem State.sample_eq {s : State} (x : Straps) (h : s.ResetV) : ∃ n, s.sample x =
    (((s.put Reg.DEV_STRAPS_BOOT_MODE x.bootMode).put Reg.DEV_CAUTIOUS_TEST n).put Reg.DEV_STRAPS_SB_EN (b2n x.sbEn)).put
      Reg.DEV_STRAPS_IO_VSEL (b2n x.ioVsel) := by
  have hb : (s.put Reg.DEV_STRAPS_BOOT_MODE x.bootMode).ResetV := State.resetV_put_other (by decide) h
  exact ⟨_, by unfold State.sample State.testCause; rw [State.devCause_of_cautious hb.cautious]⟩

/-- Sampling the straps changes register fields of classes H and V alone. -/
theorem State.sample_frame {s : State} (x : Straps) (h : s.ResetV) :
    ∃ a v, s.sample x = { s with regs := { s.regs with h := a, v := v } } := by
  obtain ⟨n, e⟩ := State.sample_eq x h
  exact ⟨_, _, e⟩

theorem State.sample_resetV {s : State} (x : Straps) (h : s.ResetV) : (s.sample x).ResetV := by
  obtain ⟨n, e⟩ := State.sample_eq x h
  have hb : (s.put Reg.DEV_STRAPS_BOOT_MODE x.bootMode).ResetV := State.resetV_put_other (by decide) h
  rw [e]
  exact State.resetV_put_other (by decide) (State.resetV_put_other (by decide) (State.resetV_put rfl (by decide) hb))

/-- A field that sampling does not write. -/
theorem State.sample_get_other {s : State} (x : Straps) (h : s.ResetV) {g : Fld} {i j m : Nat}
    (hg : ∀ f ∈ [Reg.DEV_STRAPS_BOOT_MODE, Reg.DEV_CAUTIOUS_TEST, Reg.DEV_STRAPS_SB_EN, Reg.DEV_STRAPS_IO_VSEL],
      g.keep ≠ f.keep ∨ g.key i j m ≠ f.key 0 0 0) : (s.sample x).get g i j m = s.get g i j m := by
  obtain ⟨n, e⟩ := State.sample_eq x h
  rw [e, State.get_put_other (h := hg _ (by simp)), State.get_put_other (h := hg _ (by simp)),
    State.get_put_other (h := hg _ (by simp)), State.get_put_other (h := hg _ (by simp))]

/-- The straps read as they were sampled. -/
theorem State.sample_straps {s : State} (x : Straps) (h : s.ResetV) :
    (s.sample x).get Reg.DEV_STRAPS_BOOT_MODE = x.bootMode % 2 ^ Reg.DEV_STRAPS_BOOT_MODE.width ∧
    (s.sample x).get Reg.DEV_STRAPS_SB_EN = b2n x.sbEn ∧ (s.sample x).get Reg.DEV_STRAPS_IO_VSEL = b2n x.ioVsel := by
  obtain ⟨n, e⟩ := State.sample_eq x h
  refine e ▸ ⟨?_, ?_, ?_⟩
  · rw [State.get_put_other (h := by decide), State.get_put_other (h := by decide), State.get_put_other (h := by decide),
      State.get_put (h := .inl rfl)]
  · rw [State.get_put_other (h := by decide), State.get_put (h := .inl rfl)]
    cases x.sbEn <;> rfl
  · rw [State.get_put (h := .inl rfl)]
    cases x.ioVsel <;> rfl

/-! ### What is lost with the domains -/

/-- The state but for what the fabric moves: its slices and the register cells. -/
def State.fabRest (s : State) : State := { s with regs := .init, fab := .init }

@[simp] theorem State.put_fabRest (s : State) (f : Fld) (v i j m : Nat) : (s.put f v i j m).fabRest = s.fabRest := rfl
@[simp] theorem State.fabSet_fabRest (s : State) (f : Fab → Fab) : (s.fabSet f).fabRest = s.fabRest := rfl
@[simp] theorem State.sliceSet_fabRest (s : State) (n : Nat) (x : Slice) : (s.sliceSet n x).fabRest = s.fabRest := rfl
@[simp] theorem State.sliceClear_fabRest (s : State) (n : Nat) : (s.sliceClear n).fabRest = s.fabRest := rfl

@[simp] theorem State.sliceServed_fabRest (s : State) (n : Nat) : (s.sliceServed n).fabRest = s.fabRest := by
  unfold State.sliceServed
  extract_lets x y
  split <;> rfl

@[simp] theorem State.fabNow_fabRest (s : State) : s.fabNow.fabRest = s.fabRest :=
  keeps_foldl (P := fun u => u.fabRest = s.fabRest) (fun u n h => (u.sliceServed_fabRest n).trans h) rfl

@[simp] theorem State.dealOne_fabRest (s : State) (c : XferClass) (x : Xfer) : (s.dealOne c x).fabRest = s.fabRest := by
  unfold State.dealOne
  split <;> rfl

@[simp] theorem State.deal_fabRest (s : State) (c : XferClass) (xs : List Xfer) : (s.deal c xs).fabRest = s.fabRest := by
  unfold State.deal
  split
  · rfl
  · exact keeps_foldl (P := fun u => u.fabRest = s.fabRest) (fun u x h => (u.dealOne_fabRest c x).trans h) s.fabNow_fabRest

@[simp] theorem State.dealWaiting_fabRest (s : State) : s.dealWaiting.fabRest = s.fabRest := by
  unfold State.dealWaiting
  split
  · rfl
  · exact keeps_foldl (P := fun u => u.fabRest = s.fabRest) (fun u x h => (u.dealOne_fabRest x.1 x.2).trans h) rfl

/-- A slice that enters or leaves service moves the fabric and register cells alone. -/
theorem State.sliceServe_fabRest (s : State) (n : Nat) (on : Bool) : (s.sliceServe n on).fabRest = s.fabRest := by
  unfold State.sliceServe
  extract_lets a x b c
  have ha : a.fabRest = s.fabRest := by
    unfold a
    split <;> simp
  split <;> simpa [c, b] using ha

/-- The components that only the domains 7, 9, 10 and 18 lose. -/
def State.kept (s : State) : Lst × Clr × Toecap := (s.lst, s.clr, s.tca)

theorem State.kept_eq {s : State} {l : Lst} {c : Clr} {k : Toecap} (h : s.kept = (l, c, k)) : s.lst = l ∧ s.clr = c ∧ s.tca = k := by
  simpa [State.kept] using h

theorem State.clearDomain_kept (s : State) (d : Nat) (h : d ∉ [7, 9, 10, 18]) : (s.clearDomain d).kept = s.kept := by
  simp only [List.mem_cons, List.not_mem_nil, or_false, not_or] at h
  obtain ⟨h7, h9, h10, h18⟩ := h
  unfold State.clearDomain
  split
  · rfl
  · rfl
  · exact absurd rfl h7
  · exact absurd rfl h9
  · exact absurd rfl h10
  · exact keeps_foldl (P := fun u => u.kept = s.kept) (fun u e h => h) rfl
  · exact keeps_foldl (P := fun u => u.kept = s.kept) (fun u e h => h) rfl
  · exact absurd rfl h18
  · split
    · refine keeps_foldl (P := fun u => u.kept = s.kept) (fun u p h => ?_) rfl
      split <;> exact h
    · split
      · change (s.sliceServe (d - 3) false).kept = s.kept
        have e := congrArg State.kept (s.sliceServe_fabRest (d - 3) false)
        exact e
      · rfl

/-- What one element of a fold establishes, and every element keeps, holds after the fold. -/
theorem foldl_establishes {α : Type} {Q : State → Prop} {f : State → α → State} {l : List α} {a : α} (s : State) (ha : a ∈ l)
    (he : ∀ u, Q (f u a)) (hk : ∀ u x, Q u → Q (f u x)) : Q (l.foldl f s) := by
  induction l generalizing s with
  | nil => cases ha
  | cons x r ih =>
    rcases List.mem_cons.mp ha with rfl | ha
    · rw [List.foldl_cons]; exact keeps_foldl hk (he s)
    · exact ih (f s x) ha

/-- What a reset does to domain d, the Last memory perhaps kept. -/
def State.loseDomain (keepLast : Bool) (s : State) (d : Nat) : State := if d = 10 && keepLast then s.lstReset else s.clearDomain d

/-- What dropV leaves of the components that the domains lose. -/
theorem State.dropV_kept (s : State) (k : Bool) : (s.dropV k).kept = ((List.range 19).foldl (State.loseDomain k) s.flashAbort).kept := by
  unfold State.dropV
  extract_lets a b
  have hb : b = (List.range 19).foldl (State.loseDomain k) s.flashAbort := rfl
  rw [← hb]
  clear_value b
  rfl

/-- The flash operation that a reset cuts off leaves the domains. -/
theorem State.flashAbort_kept (s : State) : s.flashAbort.kept = s.kept := by
  have hwild : ∀ (u : State) (a n : Nat), (u.flashWild a n).kept = u.kept := fun _ _ _ => rfl
  unfold State.flashAbort
  extract_lets a b
  have ha : a.kept = s.kept := by
    unfold a
    split
    · exact hwild ..
    · rfl
  have hb : b.kept = s.kept := by
    unfold b
    split
    · exact (hwild ..).trans ha
    · exact (hwild ..).trans ha
    · exact (hwild ..).trans ha
    · exact ha
  exact hb

/-- A domain loses its components, and leaves those of the others. -/
theorem State.clearDomain_cases (s : State) (d : Nat) :
    (s.clearDomain d).kept = s.kept ∨ (d = 10 ∧ (s.clearDomain d).kept = (Lst.init, s.clr, s.tca)) ∨
    (∃ c, c.frames = [] ∧ c.copies = [] ∧ (s.clearDomain d).kept = (s.lst, c, s.tca)) ∨
    (s.clearDomain d).kept = (s.lst, s.clr, s.clearToecap.tca) := by
  by_cases h : d ∈ [7, 9, 10, 18]
  · simp only [List.mem_cons, List.not_mem_nil, or_false] at h
    rcases h with rfl | rfl | rfl | rfl
    · exact .inr (.inr (.inl ⟨_, rfl, rfl, rfl⟩))
    · exact .inr (.inr (.inl ⟨_, rfl, rfl, rfl⟩))
    · exact .inr (.inl ⟨rfl, rfl⟩)
    · exact .inr (.inr (.inr rfl))
  · exact .inl (s.clearDomain_kept d h)

/-- Without its power the device holds no Last, no frame, no copy and no key. -/
theorem State.dropV_lost (s : State) : (s.dropV false).lst = Lst.init ∧ (s.dropV false).clr.frames = [] ∧
    (s.dropV false).clr.copies = [] ∧ (s.dropV false).tca.keys = [] := by
  have hf : State.loseDomain false = State.clearDomain := by
    funext u d
    simp [State.loseDomain]
  have hk := s.dropV_kept false
  rw [hf] at hk
  obtain ⟨el, ec, et⟩ := State.kept_eq hk
  rw [el, ec, et]
  have hlst : ((List.range 19).foldl State.clearDomain s.flashAbort).lst = Lst.init := by
    refine foldl_establishes (Q := fun u => u.lst = Lst.init) (a := 10) _ (by decide) (fun u => rfl) fun u d h => ?_
    rcases u.clearDomain_cases d with e | ⟨_, e⟩ | ⟨c, _, _, e⟩ | e <;> rw [(State.kept_eq e).1]
    all_goals exact h
  have hclr : ((List.range 19).foldl State.clearDomain s.flashAbort).clr.frames = [] ∧
      ((List.range 19).foldl State.clearDomain s.flashAbort).clr.copies = [] := by
    refine foldl_establishes (Q := fun u => u.clr.frames = [] ∧ u.clr.copies = []) (a := 9) _ (by decide)
      (fun u => ⟨rfl, rfl⟩) fun u d h => ?_
    rcases u.clearDomain_cases d with e | ⟨_, e⟩ | ⟨c, hfr, hco, e⟩ | e <;> rw [(State.kept_eq e).2.1]
    case inr.inr.inl => exact ⟨hfr, hco⟩
    all_goals exact h
  have htca : ((List.range 19).foldl State.clearDomain s.flashAbort).tca.keys = [] := by
    refine foldl_establishes (Q := fun u => u.tca.keys = []) (a := 18) _ (by decide) (fun u => rfl) fun u d h => ?_
    rcases u.clearDomain_cases d with e | ⟨_, e⟩ | ⟨c, _, _, e⟩ | e <;> rw [(State.kept_eq e).2.2]
    case inr.inr.inr => rfl
    all_goals exact h
  exact ⟨hlst, hclr.1, hclr.2, htca⟩

/-- A Last memory as it was, but for the pages of change sets and of the previous epoch, and what the blocks had begun with it. -/
def Lst.Same (l k : Lst) : Prop := l.mem = k.mem ∧ l.ind = k.ind ∧ l.secs = k.secs

/-- A reset that keeps the Last memory keeps its pages and the applied image (R387). -/
theorem State.dropV_keeps_last (s : State) : (s.dropV true).lst.Same s.lst := by
  obtain ⟨el, _, _⟩ := State.kept_eq (s.dropV_kept true)
  rw [el]
  refine keeps_foldl (P := fun u => u.lst.Same s.lst) (fun u d h => ?_)
    (by rw [(State.kept_eq s.flashAbort_kept).1]; exact ⟨rfl, rfl, rfl⟩)
  by_cases hd : d = 10
  · subst hd; exact h
  · rw [State.loseDomain, if_neg (by simp [hd])]
    rcases u.clearDomain_cases d with e | ⟨e, _⟩ | ⟨c, _, _, e⟩ | e
    case inr.inl => exact absurd e hd
    all_goals rw [(State.kept_eq e).1]; exact h

/-! ### SUPPLY and PIN (R15, R359, R361, R433) -/

@[simp] theorem State.dropT_lst (s : State) : s.dropT.lst = s.lst := rfl
@[simp] theorem State.dropT_clr (s : State) : s.dropT.clr = s.clr := rfl
@[simp] theorem State.dropT_keys (s : State) : s.dropT.tca.keys = s.tca.keys := rfl

/-- What a cold reset of a kind leaves, whatever the state before. -/
structure State.Cold (kind : Nat) (t : State) : Prop where
  resetV : t.ResetV
  tCells : t.regs.t = [(Reg.CGU_STAT_HRC.key 0 0 0, 1)]
  lastKind : t.get Reg.WDG_LAST_RESET_KIND = kind % 2 ^ Reg.WDG_LAST_RESET_KIND.width
  lst : t.lst = Lst.init
  frames : t.clr.frames = []
  copies : t.clr.copies = []
  keys : t.tca.keys = []
  kept : t.tca.kept = []
  locked : t.tca.locked = false
  powered : t.pwr.powered = 0

theorem State.coldReset_cold (s : State) {kind : Nat} (hk : kind ≠ 3) : (s.coldReset kind).Cold kind := by
  unfold State.coldReset
  extract_lets _ a b c d
  obtain ⟨hlst, hfr, hco, hke⟩ := a.dropV_lost
  have hb : b = ((((a.dropV false).dropT).put Reg.WDG_LAST_RESET_KIND kind).put Reg.WDG_LAST_RESET_CAUSE 0) := by
    simp [b, State.lastReset, hk]
  have hv : (d.put Reg.CGU_STAT_HRC 1).ResetV := State.resetV_nil (by simp only [d, c, hb]; rfl)
  obtain ⟨⟨v, e⟩, hrv, _⟩ := State.stillHolds_marks hv
  have hkind : (d.put Reg.CGU_STAT_HRC 1).get Reg.WDG_LAST_RESET_KIND = kind % 2 ^ Reg.WDG_LAST_RESET_KIND.width := by
    rw [State.get_put_other (h := by decide)]
    change b.get Reg.WDG_LAST_RESET_KIND = _
    rw [hb, State.get_put_other (h := by decide), State.get_put (h := .inl rfl)]
  refine ⟨hrv, ?_, ?_, ?_, ?_, ?_, ?_, ?_, ?_, ?_⟩ <;> rw [e]
  · simp only [d, c, hb]; rfl
  · exact hkind
  · simp [d, c, hb, hlst]
  · simp [d, c, hb, hfr]
  · simp [d, c, hb, hco]
  · simp [d, c, hb, hke]
  · simp only [d, c, hb]; rfl
  · simp only [d, c, hb]; rfl
  · simp only [d, c, hb]; rfl

theorem State.Cold.hrc {kind : Nat} {t : State} (h : t.Cold kind) : t.hrc = 1 := by
  change Nat.xor 0 (AMap.get cellDflt t.regs.t (Reg.CGU_STAT_HRC.key 0 0 0)) = 1
  rw [h.tCells]
  decide

/-! ### POR and the loss of the supply (R14, R432) -/

/-- The fuses are shown in H fields alone. -/
theorem State.showFuses_frame (s : State) : ∃ h, s.showFuses = { s with regs := { s.regs with h := h } } := ⟨_, rfl⟩

/-- The fuses leave the record of the last reset. -/
theorem State.showFuses_lastKind (s : State) : s.showFuses.get Reg.WDG_LAST_RESET_KIND = s.get Reg.WDG_LAST_RESET_KIND := by
  unfold State.showFuses
  simp (disch := decide) only [show List.range 8 = [0, 1, 2, 3, 4, 5, 6, 7] from rfl, List.foldl_cons, List.foldl_nil,
    State.get_put_other]

/-- What a device without its supply holds. -/
structure State.Blank (t : State) : Prop where
  vCells : t.regs.v = []
  tCells : t.regs.t = []
  lastKind : t.get Reg.WDG_LAST_RESET_KIND = 0
  lst : t.lst = State.reset.lst
  clr : t.clr = State.reset.clr
  pwr : t.pwr = State.reset.pwr

theorem State.blank_blank (s : State) : s.blank.Blank := by
  unfold State.blank
  extract_lets a u _ _ _ _ t
  obtain ⟨h, e⟩ := t.showFuses_frame
  constructor
  case lastKind =>
    have ht : t.regs = State.reset.regs := rfl
    rw [t.showFuses_lastKind, State.get, ht]
    exact State.get_reset (f := Reg.WDG_LAST_RESET_KIND) (.inr (by decide))
  case vCells => rw [e]; rfl
  case tCells => rw [e]; rfl
  all_goals rw [e]

theorem State.Blank.resetV {t : State} (h : t.Blank) : t.ResetV := State.resetV_nil h.vCells

theorem State.Blank.mode {t : State} (h : t.Blank) : t.mode = State.reset.mode := by
  change Nat.xor 4 (AMap.get cellDflt t.regs.v _) = _
  rw [h.vCells]
  rfl

/-! ### The domains and the mode after a reset -/

/-- With no domain powered, and none that the Last uses, the domains that are held begin to rise, and nothing else changes. -/
theorem State.domSync_unpowered {s : State} (hp : s.pwr.powered = 0) (hu : s.pwr.used = 0) (hm : s.mode ≠ mdPARTIAL) :
    ∃ w, s.domSync = { s with pwr := w } := by
  unfold State.domSync
  split
  · exact ⟨s.pwr, rfl⟩
  · extract_lets held used all a want keep8 b c
    have ha : a = s := by
      have hall : all = true := by simp [all, used, hu]
      simp [a, hall, hm]
    have hc : ∃ w, c = { s with pwr := w } ∧ w.powered = 0 := by
      refine keeps_foldl (P := fun u => ∃ w, u = { s with pwr := w } ∧ w.powered = 0) (fun u d h => ?_) ?_
      · obtain ⟨w, rfl, hw⟩ := h
        exact ⟨w, by simp [hw, bit], hw⟩
      · exact ⟨b.pwr, by simp only [b, ha]; rfl, by simpa [b, ha] using hp⟩
    obtain ⟨w, hc, _⟩ := hc
    refine keeps_foldl (P := fun u => ∃ w, u = { s with pwr := w }) (fun u d h => ?_) ⟨w, hc⟩
    obtain ⟨w, rfl⟩ := h
    split
    · exact ⟨_, rfl⟩
    · exact ⟨w, rfl⟩

/-! ### WDOG and SOFT (R359, R387, R414) -/

/-- An entry into cautious forwarding counts in T fields, and leaves the other V fields. -/
theorem State.devCause_get_V {s : State} {f g : Fld} {on : Bool} {i j m : Nat} (hg : g.keep = .V)
    (hne : g.key i j m ≠ f.key 0 0 0) : (s.devCause f on).get g i j m = s.get g i j m := by
  have hinc : ∀ (u : State) (e : Fld) (n p : Nat), e.keep = .T → (u.inc e n p).get g i j m = u.get g i j m := fun u e n p he =>
    State.get_put_other _ _ _ _ _ _ _ _ _ _ (.inl (by simp [hg, he]))
  have hput : (s.put f (b2n on)).get g i j m = s.get g i j m := State.get_put_other _ _ _ _ _ _ _ _ _ _ (.inr hne)
  unfold State.devCause
  extract_lets was a b
  split
  · refine keeps_foldl (P := fun u => u.get g i j m = s.get g i j m) (fun u p h => ?_) ((hinc _ _ _ _ rfl).trans hput)
    split
    · exact h
    · exact (hinc _ _ _ _ rfl).trans h
  · exact hput

/-- An entry into cautious forwarding changes register cells alone. -/
theorem State.devCause_frame (s : State) (f : Fld) (on : Bool) : ∃ r, s.devCause f on = { s with regs := r } := by
  unfold State.devCause
  extract_lets was a b
  split
  · refine keeps_foldl (P := fun u => ∃ r, u = { s with regs := r }) (fun u p h => ?_) ⟨_, rfl⟩
    obtain ⟨r, rfl⟩ := h
    split
    · exact ⟨r, rfl⟩
    · exact ⟨_, rfl⟩
  · exact ⟨_, rfl⟩

/-- Whether Last memory holds a whole Last does not hang on the start-up condition, nor on the watchdog. -/
theorem State.lastWhole_startup (s : State) (f : Wdg → Wdg) :
    ((s.wdgSet f).devCause Reg.DEV_CAUTIOUS_STARTUP true).lastWhole = s.lastWhole := by
  obtain ⟨r, e⟩ := (s.wdgSet f).devCause_frame Reg.DEV_CAUTIOUS_STARTUP true
  have hloaded := State.devCause_get_V (s := s.wdgSet f) (f := Reg.DEV_CAUTIOUS_STARTUP) (g := Reg.LST_STAT_LOADED) (on := true)
    (i := 0) (j := 0) (m := 0) rfl (by decide)
  have hstate := State.devCause_get_V (s := s.wdgSet f) (f := Reg.DEV_CAUTIOUS_STARTUP) (g := Reg.LST_STAT_STATE) (on := true)
    (i := 0) (j := 0) (m := 0) rfl (by decide)
  have hupd : ((s.wdgSet f).devCause Reg.DEV_CAUTIOUS_STARTUP true).upd = s.upd := by rw [e]; rfl
  have hlst : ((s.wdgSet f).devCause Reg.DEV_CAUTIOUS_STARTUP true).lst = s.lst := by rw [e]; rfl
  simp only [State.lastWhole, State.booting, State.lsState, State.flag, hloaded, hstate, hupd, hlst, State.wdgSet_get]

/-- The mode that a warm reset leaves, and what it takes from the domains and the Last memory, before the conditions that still
hold are marked. -/
structure State.Dropped (l : Lst) (t : State) : Prop where
  resetV : t.ResetV
  mode : t.mode ≠ mdPARTIAL
  powered : t.pwr.powered = 0
  used : t.pwr.used = 0
  lst : t.lst = l

theorem State.Marks.dropped {s t : State} {l : Lst} (h : State.Marks s t) (hs : s.Dropped l) : t.Dropped l := by
  obtain ⟨⟨v, e⟩, hv, hm⟩ := h
  refine ⟨hv, hm ▸ hs.mode, ?_, ?_, ?_⟩ <;> rw [e]
  · exact hs.powered
  · exact hs.used
  · exact hs.lst

/-- A mode that no V cell holds is NORMAL, the reset value. -/
theorem State.mode_of_nil {s : State} (h : s.regs.v = []) : s.mode = mdNORMAL := by
  change Nat.xor 4 (AMap.get cellDflt s.regs.v _) = 4
  rw [h]
  rfl

theorem State.warmDrop_dropped (s : State) (k : Bool) : (s.warmDrop k).Dropped
    ((s.devCause Reg.DEV_CAUTIOUS_STARTUP true).dropV (k && (s.devCause Reg.DEV_CAUTIOUS_STARTUP true).lastWhole)).lst := by
  unfold State.warmDrop
  extract_lets asleep a b c
  have hnil : c.regs.v = [] := rfl
  have hc : c.Dropped b.lst := ⟨State.resetV_nil hnil, by rw [State.mode_of_nil hnil]; decide, rfl, rfl, State.tcaSet_lst ..⟩
  clear_value c
  have hu : (if asleep then c.put Reg.PWR_MODE_MODE mdSLEEP else c).Dropped b.lst := by
    split
    · refine ⟨State.resetV_put rfl (by decide) hc.resetV, ?_, hc.powered, hc.used, hc.lst⟩
      rw [State.mode, State.get_put (h := .inr (.inr rfl))]
      decide
    · exact hc
  exact (State.stillHolds_marks hu.resetV).dropped hu

/-- What a SOFT reset leaves: no V field but those that it writes, and the Last memory as its domains have it. -/
theorem State.warmReset_soft (s : State) : (s.warmReset 4 0 true).ResetV ∧
    (s.warmReset 4 0 true).get Reg.WDG_LAST_RESET_KIND = 4 ∧ (s.warmReset 4 0 true).lst =
      ((s.devCause Reg.DEV_CAUTIOUS_STARTUP true).dropV (s.devCause Reg.DEV_CAUTIOUS_STARTUP true).lastWhole).lst := by
  have hd := s.warmDrop_dropped true
  have hl : (s.warmDrop true).lastReset 4 0 =
      ((s.warmDrop true).put Reg.WDG_LAST_RESET_KIND 4).put Reg.WDG_LAST_RESET_CAUSE 0 := by simp [State.lastReset]
  have hmode : ((s.warmDrop true).lastReset 4 0).mode ≠ mdPARTIAL := by
    rw [hl, State.mode, State.get_put_other (h := by decide), State.get_put_other (h := by decide)]
    exact hd.mode
  obtain ⟨w, e⟩ := State.domSync_unpowered (s := (s.warmDrop true).lastReset 4 0) (by rw [hl]; exact hd.powered)
    (by rw [hl]; exact hd.used) hmode
  rw [State.warmReset, e, hl]
  refine ⟨State.resetV_put_other (f := Reg.WDG_LAST_RESET_CAUSE) (by decide)
    (State.resetV_put_other (f := Reg.WDG_LAST_RESET_KIND) (by decide) hd.resetV), ?_, hd.lst⟩
  change (((s.warmDrop true).put Reg.WDG_LAST_RESET_KIND 4).put Reg.WDG_LAST_RESET_CAUSE 0).get Reg.WDG_LAST_RESET_KIND = 4
  rw [State.get_put_other (h := by decide), State.get_put (h := .inl rfl)]
  rfl

/-! ### The commands -/

theorem supplyReset_monitored {s : State} {n : Fin 2} (h1 : s.mode ≠ mdSLEEP) (h2 : s.mode ≠ mdOFF) : supplyReset n s =
    if s.pwr.down then s.pwrSet (fun w => { w with gone := setBit w.gone n true })
    else (s.coldReset 1).pwrSet (fun w => { w with down := true, gone := 2 ^ n.val, low := 0, dipAt := [] }) := by
  simp [supplyReset, h1, h2]

/-- A PIN reset of a device that is not OFF is a cold reset that samples the straps, and a wake from SLEEP (R433). -/
theorem pinReset_on {s : State} (x : Straps) (h : s.mode ≠ mdOFF) : pinReset x s =
    if s.mode = mdSLEEP then (((s.coldReset 2).sample x).put Reg.SBP_ALERT_STAT_CLOCK_HOLD 0).xtalAmp.wakeCause wkPIN 0 false
    else ((s.coldReset 2).sample x).put Reg.SBP_ALERT_STAT_CLOCK_HOLD 0 := by
  simp [pinReset, h]

/-- A wake writes H fields alone, and not the record of the last reset. -/
theorem State.wakeCause_frame (s : State) (kind index : Nat) (late : Bool) :
    (∃ h, s.wakeCause kind index late = { s with regs := { s.regs with h := h } }) ∧
    (s.wakeCause kind index late).get Reg.WDG_LAST_RESET_KIND = s.get Reg.WDG_LAST_RESET_KIND := by
  refine ⟨⟨_, rfl⟩, ?_⟩
  unfold State.wakeCause
  rw [State.get_put_other (h := by decide), State.get_put_other (h := by decide), State.get_put_other (h := by decide)]

/-- What a PIN reset of a device that is not OFF leaves. -/
theorem pinReset_leaves {s : State} (x : Straps) (h : s.mode ≠ mdOFF) :
    (pinReset x s).ResetV ∧ (pinReset x s).lst = Lst.init ∧ (pinReset x s).get Reg.WDG_LAST_RESET_KIND = 2 := by
  have hc := s.coldReset_cold (kind := 2) (by decide)
  obtain ⟨a, v, e⟩ := State.sample_frame x hc.resetV
  have hv : (((s.coldReset 2).sample x).put Reg.SBP_ALERT_STAT_CLOCK_HOLD 0).ResetV :=
    State.resetV_put_other (by decide) (State.sample_resetV x hc.resetV)
  have hl : (((s.coldReset 2).sample x).put Reg.SBP_ALERT_STAT_CLOCK_HOLD 0).lst = Lst.init := by
    rw [State.put_lst, e]; exact hc.lst
  have hk : (((s.coldReset 2).sample x).put Reg.SBP_ALERT_STAT_CLOCK_HOLD 0).get Reg.WDG_LAST_RESET_KIND = 2 := by
    rw [State.get_put_other (h := by decide), State.sample_get_other x hc.resetV (by decide), hc.lastKind]
    rfl
  rw [pinReset_on x h]
  split
  · obtain ⟨⟨b, eb⟩, hkind⟩ :=
      (((s.coldReset 2).sample x).put Reg.SBP_ALERT_STAT_CLOCK_HOLD 0).xtalAmp.wakeCause_frame wkPIN 0 false
    refine ⟨?_, ?_, hkind.trans hk⟩
    · rw [eb]; exact hv
    · rw [eb]; exact hl
  · exact ⟨hv, hl, hk⟩

/-- SOFT_RESET with its key, once the request that carries it is complete (R414). -/
theorem softReset_key {z : State} {m : Master} (h : (z.sent m).grants m 0) : softReset m 0x5AFE z =
    { ((z.sent m).wdgSet (fun w => { w with resetDue := false })).warmReset 4 0 true with sbResp := (z.sent m).sbResp } := by
  rw [softReset, State.direct_of_grants _ _ _ _ _ h, State.devReset, if_pos rfl]
  rfl

/-- SOFT_RESET with another key is counted (R414). -/
theorem softReset_other {z : State} {m : Master} {k : Nat} (h : (z.sent m).grants m 0) (hk : k ≠ 0x5AFE) :
    softReset m k z = ((z.sent m).err 0 0x084 ecINVALID m).dueReset := by
  rw [softReset, State.direct_of_grants _ _ _ _ _ h, State.devReset, if_neg hk]

/-- The Last memory after a SOFT reset: a whole one is kept, and none other (R387). -/
theorem State.softReset_last (s : State) (f : Wdg → Wdg) :
    (s.lastWhole = true → ((s.wdgSet f).warmReset 4 0 true).lst.Same s.lst) ∧
    (s.lastWhole = false → ((s.wdgSet f).warmReset 4 0 true).lst = Lst.init) := by
  obtain ⟨_, _, hl⟩ := (s.wdgSet f).warmReset_soft
  obtain ⟨r, e⟩ := (s.wdgSet f).devCause_frame Reg.DEV_CAUTIOUS_STARTUP true
  have hlst : ((s.wdgSet f).devCause Reg.DEV_CAUTIOUS_STARTUP true).lst = s.lst := by rw [e]; rfl
  rw [hl, s.lastWhole_startup f]
  refine ⟨fun hw => ?_, fun hw => ?_⟩ <;> rw [hw]
  · exact hlst ▸ State.dropV_keeps_last _
  · exact (State.dropV_lost _).1

/-- Numbering a host write leaves the queue. -/
theorem State.sent_pending (z : State) (m : Master) : (z.sent m).pending = z.pending := by
  cases m
  case host =>
    change z.numbered.pending = z.pending
    unfold State.numbered
    split <;> rfl
  all_goals rfl

end Sys2Proof.Machine

namespace Sys2Proof
open Machine

/-- Settles O42: after each reset the V cells are `resetCells` at most, and a cold one takes every domain's components. -/
theorem resetsClearAndSample : Obligations.ResetsClearAndSample := by
  unfold Obligations.ResetsClearAndSample
  refine ⟨?_, ?_, ?_, ?_, ?_, ?_, ?_, ?_, ?_, ?_, ?_, ?_, ?_, ?_⟩
  case refine_1 =>
    intro x s
    have hb := s.blank_blank
    obtain ⟨hboot, hsb, hio⟩ := State.sample_straps x hb.resetV
    have hkind := (State.sample_get_other x hb.resetV (g := Reg.WDG_LAST_RESET_KIND) (i := 0) (j := 0) (m := 0) (by decide)).trans
      hb.lastKind
    have hmode := (State.sample_get_other x hb.resetV (g := Reg.PWR_MODE_MODE) (i := 0) (j := 0) (m := 0) (by decide)).trans hb.mode
    obtain ⟨a, v, e⟩ := State.sample_frame x hb.resetV
    refine ⟨s.blank.sample x, rfl, exec_pending (c := .por x) rfl, ?_, ?_, ?_, ?_, hboot, hsb, hio, hkind, hmode,
      State.sample_resetV x hb.resetV⟩ <;> rw [e]
    · exact hb.tCells
    · exact hb.lst
    · exact hb.clr
    · exact hb.pwr
  case refine_2 =>
    intro s
    have hb := s.blank_blank
    refine ⟨_, rfl, ?_, ?_, congrArg Pwr.powered hb.pwr, exec_pending (c := .vstbyBelowPor) rfl,
      State.resetV_put_other (by decide) (State.resetV_put rfl (by decide) hb.resetV)⟩
    · exact (State.get_put_other (h := by decide) ..).trans (State.get_put (h := .inr (.inr rfl)) ..)
    · exact State.get_put (h := .inl rfl) ..
  case refine_3 =>
    intro n s h1 h2 hd
    have hc := s.coldReset_cold (kind := 1) (by decide)
    have he : exec (.supplyReset n) s = .next ((s.coldReset 1).pwrSet
        (fun w => { w with down := true, gone := 2 ^ n.val, low := 0, dipAt := [] })) :=
      congrArg Host.Outcome.next ((supplyReset_monitored h1 h2).trans (if_neg (by simp [hd])))
    exact ⟨_, he, hc.lastKind, rfl, rfl, rfl, hc.powered, fun _ => hc.tCells, hc.hrc, hc.frames, hc.copies, hc.lst, hc.keys, hc.kept,
      hc.locked, exec_pending he, hc.resetV⟩
  case refine_4 =>
    intro n s h
    exact congrArg Host.Outcome.next (by rcases h with h | h <;> simp [supplyReset, h])
  case refine_5 =>
    intro n s h1 h2 hd
    exact congrArg Host.Outcome.next ((supplyReset_monitored h1 h2).trans (if_pos hd))
  case refine_6 =>
    intro x s hd
    exact congrArg Host.Outcome.next (by simp [supplyResetRelease, hd])
  case refine_7 =>
    intro x s hd
    exact congrArg Host.Outcome.next (by simp [supplyResetRelease, hd])
  case refine_8 =>
    intro x s h1 h2
    exact congrArg Host.Outcome.next ((pinReset_on x h1).trans (if_neg h2))
  case refine_9 =>
    intro x s h
    exact congrArg Host.Outcome.next ((pinReset_on x (by rw [h]; decide)).trans (if_pos h))
  case refine_10 =>
    intro x s h
    obtain ⟨hv, hl, hk⟩ := pinReset_leaves x h
    exact ⟨_, rfl, exec_pending (c := .pinReset x) rfl, hl, hk, hv⟩
  case refine_11 =>
    intro x s h
    exact congrArg Host.Outcome.next (if_pos h)
  case refine_12 =>
    rintro m z _ rfl hg
    exact congrArg Host.Outcome.next (softReset_key hg)
  case refine_13 =>
    rintro m z _ rfl hg
    have he : exec (.softReset m 0x5AFE) z = .next _ := congrArg Host.Outcome.next (softReset_key hg)
    obtain ⟨hv, hk, _⟩ := ((z.sent m).wdgSet (fun w => { w with resetDue := false })).warmReset_soft
    obtain ⟨hkeep, hlose⟩ := (z.sent m).softReset_last (fun w => { w with resetDue := false })
    exact ⟨_, he, (exec_pending he).trans (z.sent_pending m).symm, hk, hkeep, hlose, hv⟩
  case refine_14 =>
    rintro m k z _ rfl hg hk
    exact congrArg Host.Outcome.next (softReset_other hg hk)

end Sys2Proof

/-! COPY_TX_DONE and REPARENT (R19, R131, R170, R226, R366): one equation per case, and what a subscriber's settling leaves. -/

namespace Sys2Proof.Machine

/-! ### The copy, or the keep-alive, that leaves a port -/

/-- Only what is in transmission leaves; a copy cut by its gate is looked for where nothing is. -/
theorem State.leaving_of_sending {s : State} {p : Nat} {c : Copy}
    (h : s.clr.copies.find? (fun c => c.port == p && c.st == .sending) = some c) : s.leaving p = some c := by
  rw [State.leaving, h]

/-- A keep-alive on the wire is what leaves, before any copy (R366). -/
theorem copyTxDone_keepAlive {p : Nat} {z : State} {b : List Byte} (hp : p < 32) (hk : (z.fabNow.mac p).kaTx = some b) :
    copyTxDone p z =
      ((((z.fabNow.macCnt p 21).macCnt p 22 b.length).macCnt p (txKind b)).wasSent p b).kaDone p := by
  simp only [copyTxDone, if_neg (Nat.not_le.mpr hp), hk]

/-- A port that has nothing to leave it (assumption log 1). -/
theorem copyTxDone_idle {p : Nat} {z : State} (hp : p < 32) (hk : (z.fabNow.mac p).kaTx = none)
    (hl : z.fabNow.leaving p = none) : copyTxDone p z = z.fabNow := by
  simp only [copyTxDone, if_neg (Nat.not_le.mpr hp), hk, hl]

/-- What becomes of a leaving copy whose frame is whole: it completes once its reads are carried (R19, R226); until then only a
cut-through copy that a short fabric starves ends, poisoned with cause 7 (R131). -/
theorem copyTxDone_whole {p : Nat} {z : State} {c : Copy} {f : Frame} (hp : p < 32) (hk : (z.fabNow.mac p).kaTx = none)
    (hl : z.fabNow.leaving p = some c) (hf : z.fabNow.frame c.frame = some f) (hw : f.whole = true) :
    copyTxDone p z =
      if z.fabNow.readsWait c.id ≠ 0 then
        if c.ct = true ∧ z.fabNow.fabShort = true then (z.fabNow.poisonCopy c 7).reap else z.fabNow
      else
        ((((((z.fabNow.creditSync p).macCnt p 21).macCnt p 22 ((z.fabNow.creditSync p).copyLen c f)).macCnt p
          (txKind (z.fabNow.wireBytes c f))).wasSent p (z.fabNow.wireBytes c f)).rmCopy c.id).reap := by
  simp only [copyTxDone, if_neg (Nat.not_le.mpr hp), hk, hl, hf, hw, Bool.not_true, Bool.false_eq_true, if_false, bne_iff_ne,
    Bool.and_eq_true]

/-! ### Subscribers and queues whose change was deferred -/

/-- An empty subscriber whose change was deferred takes its new place at the virtual time there, and raises REPARENT on that port
(R170). -/
theorem reparent_subscriber_placed {n old i : Nat} {s u : State} (ho : AMap.find s.sch.sOld n = some old) (he : s.subCopies n = [])
    (hu : u = s.schSet (fun h => { h with sOld := AMap.del h.sOld n })) (hi : u.subPlace n = some i) :
    reparent false n s = (u.subSet n ⟨u.vt i, (u.sub_ n).v, (u.sub_ n).c, (u.sub_ n).p, (u.sub_ n).bytes⟩).raise
      Reg.SCH_IRQ_REPARENT (i / 8) := by
  subst hu
  simp only [reparent, ho, he, hi, Bool.false_eq_true, if_false]

/-- An empty subscriber whose change was deferred, and that no port owns any more, raises REPARENT on the port that it leaves
(R170, assumption log 66). -/
theorem reparent_subscriber_unplaced {n old : Nat} {s u : State} (ho : AMap.find s.sch.sOld n = some old)
    (he : s.subCopies n = []) (hu : u = s.schSet (fun h => { h with sOld := AMap.del h.sOld n })) (hi : u.subPlace n = none) :
    reparent false n s = u.raise Reg.SCH_IRQ_REPARENT (old / 8) := by
  subst hu
  simp only [reparent, ho, he, hi, Bool.false_eq_true, if_false]

/-- A subscriber that waits for no change, or still holds copies, stays. -/
theorem reparent_subscriber_stays {n : Nat} {s : State} (h : AMap.find s.sch.sOld n = none ∨ s.subCopies n ≠ []) :
    reparent false n s = s := by
  rw [reparent, if_neg Bool.false_ne_true]
  split
  next ho he => exact absurd h (by simp [ho, he])
  next => rfl

/-- A queue that waits for no change, or still holds copies, stays. -/
theorem reparent_queue_stays {n : Nat} {s : State} (h : AMap.find s.sch.qOld n = none ∨ s.queueCopies n ≠ []) :
    reparent true n s = s := by
  rw [reparent, if_pos rfl]
  split
  next ho he => exact absurd h (by simp [ho, he])
  next => rfl

/-- Settling a subscriber moves the accounts of subscribers alone. -/
theorem State.subSettle_frame (s : State) (u : Nat) (old : Option Nat) :
    (s.subSettle u old).sch.qOld = s.sch.qOld ∧ (s.subSettle u old).clr = s.clr ∧ (s.subSettle u old).lst = s.lst := by
  unfold State.subSettle
  dsimp only
  split
  · exact ⟨rfl, rfl, rfl⟩
  · split
    · exact ⟨rfl, rfl, rfl⟩
    · split <;> exact ⟨rfl, rfl, rfl⟩

/-- An empty queue whose change was deferred waits no more; only PUNT_Q brings its subscribers' places with it (R169, R170). -/
theorem reparent_queue {n old : Nat} {s : State} (ho : AMap.find s.sch.qOld n = some old) (he : s.queueCopies n = []) :
    (reparent true n s).sch.qOld = AMap.del s.sch.qOld n ∧ (n ≠ s.puntQ 32 → (reparent true n s).sch.sOld = s.sch.sOld) ∧
    (reparent true n s).clr = s.clr ∧ (reparent true n s).lst = s.lst := by
  rw [reparent, if_pos rfl, ho, he]
  dsimp -zeta only
  extract_lets place0 s₁ u v s₂ s₃ place
  have htag : s₂.sch.qOld = AMap.del s.sch.qOld n ∧ s₂.sch.sOld = s.sch.sOld ∧ s₂.clr = s.clr ∧ s₂.lst = s.lst ∧
      s₂.puntQ 32 = s.puntQ 32 := by
    unfold s₂
    split <;> exact ⟨rfl, rfl, rfl, rfl, rfl⟩
  have hplace : s₃.sch.qOld = s₂.sch.qOld ∧ (n ≠ s₂.puntQ 32 → s₃ = s₂) ∧ s₃.clr = s₂.clr ∧ s₃.lst = s₂.lst := by
    unfold s₃
    split
    next hp =>
      obtain ⟨hq, hc, hl⟩ := s₂.subSettle_frame old (place0 old)
      obtain ⟨hq', hc', hl'⟩ := (s₂.subSettle old (place0 old)).subSettle_frame u (place0 u)
      exact ⟨hq'.trans hq, fun hn => absurd hp (by simp [hn]), hc'.trans hc, hl'.trans hl⟩
    next => exact ⟨rfl, fun _ => rfl, rfl, rfl⟩
  obtain ⟨hq, hs, hc, hl, hn⟩ := htag
  obtain ⟨hq', hs', hc', hl'⟩ := hplace
  exact ⟨hq'.trans hq, fun h => (congrArg (·.sch.sOld) (hs' (hn ▸ h))).trans hs, hc'.trans hc, hl'.trans hl⟩

end Sys2Proof.Machine

namespace Sys2Proof
open Machine

/-- Settles O14: each case of the two events is one of the equations above; a queue's REPARENT settles subscribers at PUNT_Q alone. -/
theorem copiesLeaveAndParentsChange : Obligations.CopiesLeaveAndParentsChange := by
  unfold Obligations.CopiesLeaveAndParentsChange
  refine ⟨?_, ?_, ?_, ?_, ?_, ?_, ?_, ?_, ?_⟩
  case refine_1 =>
    rintro p z _ _ c f rfl hk hs hf hw hr rfl
    exact congrArg Host.Outcome.next
      ((copyTxDone_whole p.isLt hk (State.leaving_of_sending hs) hf hw).trans (if_neg (fun h => h hr)))
  case refine_2 =>
    rintro p z _ c f rfl hk hs hf hw hr
    exact congrArg Host.Outcome.next ((copyTxDone_whole p.isLt hk (State.leaving_of_sending hs) hf hw).trans (if_pos hr))
  case refine_3 =>
    rintro p z _ b rfl hk
    exact congrArg Host.Outcome.next (copyTxDone_keepAlive p.isLt hk)
  case refine_4 =>
    rintro p z _ rfl hk hl
    exact congrArg Host.Outcome.next (copyTxDone_idle p.isLt hk hl)
  case refine_5 =>
    intro n s u old i ho he hu hi
    exact congrArg Host.Outcome.next (reparent_subscriber_placed ho he hu hi)
  case refine_6 =>
    intro n s u old ho he hu hi
    exact congrArg Host.Outcome.next (reparent_subscriber_unplaced ho he hu hi)
  case refine_7 =>
    intro n s h
    exact congrArg Host.Outcome.next (reparent_subscriber_stays h)
  case refine_8 =>
    intro n s old ho he
    exact ⟨_, rfl, reparent_queue ho he⟩
  case refine_9 =>
    intro n s h
    exact congrArg Host.Outcome.next (reparent_queue_stays h)

end Sys2Proof

/-! The Clickers' events (R75, R87, R94–R96, R98, R103, R163, R188, R220, R278): one equation per case. -/

namespace Sys2Proof.Machine

/-! ### ETH_FRAME_ARRIVAL (R94 step 1, R163, R188, R220) -/

/-- At its SFD a frame claims no further steps of the receive FIFO (R220). -/
theorem fifoClaim_zero (m : Nat) : fifoClaim m 0 = min m 2048 := by
  simp [fifoClaim, ceilDiv]

/-- A MAC control frame is nothing to this command (assumption log 57, 67). -/
theorem ethFrameArrival_control {p : Nat} {b : List Byte} {s : State} (hc : macControl b = true) : ethFrameArrival p b s = s :=
  if_pos hc

/-- What a port out of service makes of a frame: held, or during a reload, it flushes it (R69, R163, R226). -/
theorem ethFrameArrival_outOfService {p : Nat} {b : List Byte} {s : State} (hc : macControl b = false)
    (hs : s.inService p = false) :
    ethFrameArrival p b s = if s.portState p = psHELD ∨ s.reloading = true then s.flushedArrival p b else s := by
  simp only [ethFrameArrival, hc, hs, Bool.not_false, Bool.false_eq_true, if_false, if_true, Bool.or_eq_true, decide_eq_true_eq]

/-- What a port in service makes of a frame: it is lost where the receive FIFO has no room for its claim, and takes a free reorder
slot unless it is a PTP frame of the firmware (R94 step 1, R188, R220). -/
theorem ethFrameArrival_inService {p : Nat} {b : List Byte} {z : State} (hc : macControl b = false)
    (hs : z.inService p = true) :
    ethFrameArrival p b z =
      if fifoSize p < z.fabNow.fifoFill p + min (z.fabNow.maxFrame p) 2048 then
        (z.fabNow.macCnt p 11).addFrame { z.fabNow.newFrame p b with stage := .out, fate := .drop, lost := some true }
      else if z.fabNow.ptpOwn p b = true then
        z.fabNow.addFrame { z.fabNow.newFrame p b with
          fifo := min (z.fabNow.maxFrame p) 2048, stage := .out, fate := .drop, toecap := z.fabNow.rxFails p b }
      else (z.fabNow.addFrame { z.fabNow.newFrame p b with fifo := min (z.fabNow.maxFrame p) 2048 }).takeSlots p := by
  simp only [ethFrameArrival, hc, hs, Bool.not_true, Bool.false_eq_true, if_false, fifoClaim_zero]

/-! ### CLICKER_DISPATCH (R26, R61, R94 step 2, R278) -/

/-- Frame f, dispatched to context k of Clicker c with an epoch: both turns move on, the Clicker reserves its time, and the reorder
timer runs from when the header is complete (R76, R94 steps 2 and 4). -/
def State.dispatched (s : State) (f : Frame) (c k epoch : Nat) : State :=
  (((s.clrSet (fun x => { x with rrPort := (f.port + 1) % 37 })).clrSet (fun x => { x with rrClk := (c + 1) % 24 })).reserve c
    f.port).modFrame f.id (fun g =>
      { g with epoch := epoch, stage := .clicker c k, timer := some (max s.now (s.headerAt f)) })

/-- A dispatch moves the turns on and changes the dispatched frame alone; no register changes. -/
theorem State.dispatched_frame (s : State) (f : Frame) (c k epoch : Nat) :
    (s.dispatched f c k epoch).regs = s.regs ∧ (s.dispatched f c k epoch).clr.copies = s.clr.copies ∧
    (s.dispatched f c k epoch).lst = s.lst ∧ (s.dispatched f c k epoch).clr.rrPort = (f.port + 1) % 37 ∧
    (s.dispatched f c k epoch).clr.rrClk = (c + 1) % 24 ∧
    (s.dispatched f c k epoch).clr.frames = s.clr.frames.map (fun g => if g.id = f.id then
      { g with epoch := epoch, stage := .clicker c k, timer := some (max s.now (s.headerAt f)) } else g) :=
  ⟨rfl, rfl, rfl, rfl, rfl, rfl⟩

/-- With no frame or no context nothing is dispatched (assumption log 1). -/
theorem clickerDispatch_idle {s : State} (h : s.nextDispatch = none) : clickerDispatch s = s := by
  rw [clickerDispatch, h]

/-- A frame that no receive check of Toecap stops or opens is dispatched as it is: with the epoch of its Awl acceptance where it comes
from an AP port, else with the current one (R26, R61, R94 step 2). -/
theorem clickerDispatch_passed {s : State} {f : Frame} {c k : Nat} (h : s.nextDispatch = some (f, c, k))
    (hv : f.port < 32 → (s.clrSet (fun x => { x with rrPort := (f.port + 1) % 37 })).rxCheck f.port f.bytes = .pass) :
    clickerDispatch s = s.dispatched f c k (if 33 ≤ f.port then f.epoch else s.get Reg.LST_EPOCH_CUR) := by
  have hpass : (if f.port < 32 then (s.clrSet (fun x => { x with rrPort := (f.port + 1) % 37 })).rxCheck f.port f.bytes
      else .pass) = .pass := by
    split
    next hp => exact hv hp
    next => rfl
  simp only [clickerDispatch, h, hpass]
  rfl

/-- A frame that a receive check of Toecap drops never reaches a Clicker; one that is whole is counted at once (R278). -/
theorem clickerDispatch_dropped {s : State} {f : Frame} {c k n : Nat} {e : Option (Nat × Nat)}
    (h : s.nextDispatch = some (f, c, k)) (hp : f.port < 32)
    (hv : (s.clrSet (fun x => { x with rrPort := (f.port + 1) % 37 })).rxCheck f.port f.bytes = .drop n e) :
    clickerDispatch s =
      if f.whole = true then
        ((s.clrSet (fun x => { x with rrPort := (f.port + 1) % 37 })).modFrame f.id (fun g =>
          { g with fate := .drop, toecap := some (n, e), stage := .ready })).toecapDrop f.port n e
      else (s.clrSet (fun x => { x with rrPort := (f.port + 1) % 37 })).modFrame f.id (fun g =>
        { g with fate := .drop, toecap := some (n, e), stage := .ready }) := by
  simp only [clickerDispatch, h, hp, hv, if_true]

/-! ### PARSE_STEP and FLOW_LOOKUP (R75, R87, R94 step 3, R96, R98, R103) -/

/-- The contexts of a Clicker out of rotation are not worked on (R96). -/
theorem State.worksOn_outOfRotation {s : State} {c : Nat} (k : Nat) (h : s.flag Reg.CLR_STAT_ROTATION c = false) :
    s.worksOn c k = none := by
  simp [State.worksOn, h]

/-- A context that is not worked on takes no parse step and no lookup (R96, assumption log 1). -/
theorem parseStep_flowLookup_idle {c k : Nat} {s : State} (h : s.worksOn c k = none) : parseStep c k s = s ∧ flowLookup c k s = s := by
  constructor
  · rw [parseStep, h]
  · rw [flowLookup, h]

/-- A parse step whose bytes are not present, or that finds a frame too short of which more may come, changes nothing (R75, R88). -/
theorem parseStep_waits {c k : Nat} {s : State} {f : Frame} (hw : s.worksOn c k = some f)
    (h : s.stepReady f = false ∨ ((s.parseOn f).outcome = some 4 ∧ f.whole = false)) : parseStep c k s = s := by
  rw [parseStep, hw]
  dsimp only
  rcases h with hr | ⟨ho, hf⟩
  · simp [hr]
  · simp [ho, hf]

/-- A parse step on bytes that are present stores the parse, which goes on or ends clean (R75). -/
theorem parseStep_clean {c k : Nat} {s : State} {f : Frame} (hw : s.worksOn c k = some f) (he : f.parse.ended = false)
    (hr : s.stepReady f = true) (ho : (s.parseOn f).outcome = none) :
    parseStep c k s = s.modFrame f.id (fun g => { g with parse := s.parseOn f }) := by
  rw [parseStep, hw]
  simp [he, hr, ho]

/-- A parse step that fails, and waits for no more bytes, has the port default for its outcome applied and the frame classified
(R75, R87, R88). -/
theorem parseStep_failed {c k r : Nat} {s : State} {f : Frame} (hw : s.worksOn c k = some f) (he : f.parse.ended = false)
    (hr : s.stepReady f = true) (ho : (s.parseOn f).outcome = some r) (hend : r ≠ 4 ∨ f.whole = true) :
    parseStep c k s =
      ((s.modFrame f.id (fun g => { g with parse := s.parseOn f })).portDefault f.id r).classified f.id c := by
  have hgo : ¬ (r = 4 ∧ f.whole = false) := by
    rintro ⟨h4, hf⟩
    exact hend.elim (fun h => h h4) (fun h => by simp [hf] at h)
  rw [parseStep, hw]
  simp [he, hr, ho, hgo]

/-- The exact match of a frame's key is its flow (R98). -/
theorem State.flowHandle_exact {s : State} {f : Frame} {h : Nat}
    (he : s.exactMatch (s.prevEpoch f.epoch) ((s.graph f.port).profile f.parse.path) (f.key (s.graph f.port)) = some h) :
    s.flowHandle f = some h := by
  simp only [State.flowHandle, he]

/-- Without an exact match, the leaf of the wildcard bucket that the key reaches is the flow (R98). -/
theorem State.flowHandle_wildcard {s : State} {f : Frame}
    (he : s.exactMatch (s.prevEpoch f.epoch) ((s.graph f.port).profile f.parse.path) (f.key (s.graph f.port)) = none) :
    s.flowHandle f =
      (s.treeBucket (s.prevEpoch f.epoch) ((s.graph f.port).profile f.parse.path) (f.key (s.graph f.port))).bind (fun b =>
        s.leafMatch (s.prevEpoch f.epoch) b ((s.graph f.port).profile f.parse.path) (f.key (s.graph f.port))) := by
  simp only [State.flowHandle, he]

/-- A lookup that finds a flow applies its action and classifies the frame, which is not yet whole (R103). -/
theorem flowLookup_found {c k h : Nat} {s : State} {f : Frame} (hw : s.worksOn c k = some f) (he : f.parse.ended = true)
    (ho : f.parse.outcome = none) (hf : f.whole = false) (hh : s.flowHandle f = some h) :
    flowLookup c k s = (s.rulesStage f.id h).classified f.id c := by
  rw [flowLookup, hw]
  simp [he, ho, hf, hh]

/-- A lookup that finds no flow leaves the outcome NO_MATCH to the end of the frame, and classifies it (R98). -/
theorem flowLookup_noMatch {c k : Nat} {s : State} {f : Frame} (hw : s.worksOn c k = some f) (he : f.parse.ended = true)
    (ho : f.parse.outcome = none) (hf : f.whole = false) (hh : s.flowHandle f = none) :
    flowLookup c k s =
      (s.modFrame f.id (fun g => { g with parse := { g.parse with outcome := some 0 } })).classified f.id c := by
  rw [flowLookup, hw]
  simp [he, ho, hf, hh]

/-! ### REORDER_RELEASE, REORDER_TIMEOUT and CLICKER_REJOIN (R94 step 6, R95, R96, R129, R333) -/

/-- An oldest slot that is ready, and whose writes nothing holds, is freed for the frames that wait, and its frame enqueued. -/
theorem reorderRelease_released {p : Nat} {s : State} {f : Frame}
    (h : s.clr.frames.find? (fun f => f.port == p && f.slot) = some f) (hr : f.stage = .ready)
    (hw : f.writes = false ∨ (s.slicesIn ≠ [] ∧ s.fabNow.portWaits p = false)) :
    reorderRelease p s =
      ((s.modFrame f.id (fun f => { f with slot := false, stage := .out })).takeSlots p).enqueueFrame f.id := by
  rw [reorderRelease, h]
  rcases hw with hw | ⟨hs, hp⟩
  · simp [hr, hw]
  · simp [hr, hs, hp]

/-- An oldest slot that is not ready stays, and so does one whose writes cannot proceed (R129, assumption log 90). -/
theorem reorderRelease_stays {p : Nat} {s : State} {f : Frame}
    (h : s.clr.frames.find? (fun f => f.port == p && f.slot) = some f)
    (hw : f.stage ≠ .ready ∨ (f.writes = true ∧ (s.slicesIn = [] ∨ s.fabNow.portWaits p = true))) :
    reorderRelease p s = s := by
  rw [reorderRelease, h]
  rcases hw with hr | ⟨hw, hs | hp⟩
  · simp [hr]
  · simp [hw, hs]
  · simp [hw, hp]

/-- The oldest frame that a Clicker has held for 2 µs is dropped and counted; the stall is the rules stage's or the Clicker's, which
leaves rotation (R95, R96). -/
theorem reorderTimeout_clicker {p c k : Nat} {inRules : Bool} {s : State} {f : Frame}
    (h : s.clr.frames.find? (fun f => f.port == p && f.slot && f.stage != .ready && f.timedOut s.now) = some f)
    (hc : f.stage = .clicker c k) :
    reorderTimeout p inRules s =
      if inRules = true then
        (((s.inc Reg.CLR_RO_TIMEOUT_COUNT 1 0 p).modFrame f.id (fun f =>
          { f with fate := .drop, stage := .ready, pdrop := none, parse := { f.parse with outcome := none } })).raise
            Reg.RUL_IRQ_STALL).fault 0x058 0x1101
      else
        ((((s.inc Reg.CLR_RO_TIMEOUT_COUNT 1 0 p).modFrame f.id (fun f =>
          { f with fate := .drop, stage := .ready, pdrop := none, parse := { f.parse with outcome := none } })).raise
            Reg.CLR_IRQ_STALL c).clickerOut c).fault (0x040 + c) 0x1001 := by
  simp only [reorderTimeout, h, hc]

/-- A stalled Clicker without frames has its memories tested, and returns to rotation where they pass (R96, R333). -/
theorem clickerRejoin_tested {c n : Nat} {ok : Bool} {s : State} (hs : s.clr.stalled.contains c = true)
    (hf : s.clr.frames.any (fun f => (List.range 4).any (fun k => f.stage == .clicker c k)) = false) :
    clickerRejoin c n ok s =
      let t := (s.clrSet (fun x => { x with
        stalled := x.stalled.filter (· != c), rejoinAt := AMap.ins x.rejoinAt c s.now })).rejoinTest (0x040 + c) n ok
      if ok = true then ((t.put Reg.CLR_STAT_ROTATION 1 c).raise Reg.CLR_IRQ_REJOINED c).budget else t := by
  simp only [clickerRejoin, hs, hf, Bool.not_false, Bool.and_self, if_true]

end Sys2Proof.Machine

namespace Sys2Proof
open Machine

/-- Settles O8: an arrival at a port in service, at one that flushes, and at one that takes no frame. -/
theorem arrivalsAreRecordedOrCounted : Obligations.ArrivalsAreRecordedOrCounted := by
  unfold Obligations.ArrivalsAreRecordedOrCounted
  refine ⟨?_, ?_, ?_, ?_, ?_⟩
  case refine_1 =>
    rintro p b z _ rfl hs hc hroom
    exact congrArg Host.Outcome.next ((ethFrameArrival_inService hc hs).trans (if_neg (Nat.not_lt.mpr hroom)))
  case refine_2 =>
    intro p b z hc
    exact congrArg Host.Outcome.next (ethFrameArrival_control hc)
  case refine_3 =>
    rintro p b z _ rfl hs hc hfull
    exact congrArg Host.Outcome.next ((ethFrameArrival_inService hc hs).trans (if_pos hfull))
  case refine_4 =>
    intro p b z hs hc hheld
    exact congrArg Host.Outcome.next ((ethFrameArrival_outOfService hc hs).trans (if_pos hheld))
  case refine_5 =>
    intro p b z hs hheld hload
    have hstays : ethFrameArrival p.val b z = z := by
      cases hc : macControl b with
      | true => exact ethFrameArrival_control hc
      | false => exact (ethFrameArrival_outOfService hc hs).trans (if_neg (by simp [hheld, hload]))
    exact congrArg Host.Outcome.next hstays

/-- Settles O9: a frame that passes is dispatched with the epoch of its source; one that fails a check of Toecap is dropped. -/
theorem dispatchStampsTheCurrentEpoch : Obligations.DispatchStampsTheCurrentEpoch := by
  unfold Obligations.DispatchStampsTheCurrentEpoch
  refine ⟨?_, ?_, ?_, ?_, ?_⟩
  case refine_1 =>
    intro s f c k h hp hv
    have hpass := clickerDispatch_passed h (fun hlt => hv.resolve_left (Nat.ne_of_lt hlt))
    rw [if_neg (Nat.not_le.mpr (Nat.lt_succ_of_le hp))] at hpass
    exact ⟨_, congrArg Host.Outcome.next hpass, s.dispatched_frame f c k _⟩
  case refine_2 =>
    intro s f c k h hp
    have hpass := clickerDispatch_passed h (fun hlt => absurd hlt (by omega))
    rw [if_pos hp] at hpass
    exact ⟨_, congrArg Host.Outcome.next hpass, s.dispatched_frame f c k _⟩
  case refine_3 =>
    intro s f c k n e h hp hw hv
    exact ⟨_, congrArg Host.Outcome.next ((clickerDispatch_dropped h hp hv).trans (if_neg (by simp [hw]))), rfl, rfl⟩
  case refine_4 =>
    intro s f c k n e h hp hw hv
    exact congrArg Host.Outcome.next ((clickerDispatch_dropped h hp hv).trans (if_pos hw))
  case refine_5 =>
    intro s h
    exact congrArg Host.Outcome.next (clickerDispatch_idle h)

/-- Settles O10: a step goes on, ends in a port default, or waits; a lookup takes the exact match, else the wildcard leaf, else
NO_MATCH. -/
theorem parsesEndInALookupOrAPortDefault : Obligations.ParsesEndInALookupOrAPortDefault := by
  unfold Obligations.ParsesEndInALookupOrAPortDefault
  refine ⟨?_, ?_, ?_, ?_, ?_, ?_⟩
  case refine_1 =>
    rintro c k s f _ hw he hr rfl ho
    exact congrArg Host.Outcome.next (parseStep_clean hw he hr ho)
  case refine_2 =>
    rintro c k s f _ r hw he hr rfl ho hend
    exact congrArg Host.Outcome.next (parseStep_failed hw he hr ho hend)
  case refine_3 =>
    intro c k s f hw _ h
    exact congrArg Host.Outcome.next (parseStep_waits hw h)
  case refine_4 =>
    intro c k s h
    obtain ⟨hparse, hlookup⟩ := parseStep_flowLookup_idle (State.worksOn_outOfRotation k.val h)
    exact ⟨congrArg Host.Outcome.next hparse, congrArg Host.Outcome.next hlookup⟩
  case refine_5 =>
    intro c k s f h hw he ho hf hx
    exact congrArg Host.Outcome.next (flowLookup_found hw he ho hf (State.flowHandle_exact hx))
  case refine_6 =>
    intro c k s f hw he ho hf hx
    rw [← State.flowHandle_wildcard hx]
    cases hh : s.flowHandle f with
    | some h => exact congrArg Host.Outcome.next (flowLookup_found hw he ho hf hh)
    | none => exact congrArg Host.Outcome.next (flowLookup_noMatch hw he ho hf hh)

/-- Settles O12: the oldest slot is released or stays; a timeout is the Clicker's or the rules stage's; a rejoin passes or fails. -/
theorem slotsReleaseInOrderAndStallsRetire : Obligations.SlotsReleaseInOrderAndStallsRetire := by
  unfold Obligations.SlotsReleaseInOrderAndStallsRetire
  refine ⟨?_, ?_, ?_, ?_, ?_⟩
  case refine_1 =>
    intro p s f h hr hw
    exact congrArg Host.Outcome.next (reorderRelease_released h hr hw)
  case refine_2 =>
    intro p s f h hw
    exact congrArg Host.Outcome.next (reorderRelease_stays h hw)
  case refine_3 =>
    intro p s f c k h hc
    exact congrArg Host.Outcome.next (reorderTimeout_clicker h hc)
  case refine_4 =>
    intro p s f c k h hc
    exact congrArg Host.Outcome.next (reorderTimeout_clicker h hc)
  case refine_5 =>
    rintro c n s _ hs hf rfl
    exact ⟨congrArg Host.Outcome.next (clickerRejoin_tested (ok := true) hs hf),
      congrArg Host.Outcome.next (clickerRejoin_tested (ok := false) hs hf)⟩

end Sys2Proof

/-! The fabric's windows, stalls and governor (R130, R132, R138–R143): what a window may measure, one equation per case of each
command. -/

namespace Sys2Proof

/-! ### Cells of different fields -/

/-- One cell on each page, within the page, for every master. -/
def Fld.single (f : Fld) : Bool := decide (f.off < 4096 ∧ f.lo < 128 ∧ f.perMaster = false)

/-- Two fields share no cell on any page: their maps differ, or where they stand in the page does. -/
def Fld.apart (f g : Fld) : Bool :=
  decide (f.keep ≠ g.keep) || (f.single && g.single && decide (f.off ≠ g.off ∨ f.lo ≠ g.lo))

end Sys2Proof

namespace Sys2Proof.Machine

/-- A write of a field leaves the fields that are apart from it, on every page. -/
theorem State.get_put_apart {s : State} {f g : Fld} {v i a : Nat} (h : f.apart g = true) : (s.put f v i).get g a = s.get g a := by
  refine State.get_put_other _ _ _ _ _ _ _ _ _ _ ?_
  simp only [Fld.apart, Fld.single, Bool.or_eq_true, Bool.and_eq_true, decide_eq_true_eq] at h
  obtain hk | ⟨⟨⟨hfo, hfl, hfm⟩, hgo, hgl, hgm⟩, hne⟩ := h
  · exact .inl hk.symm
  · refine .inr fun e => ?_
    simp only [Fld.key, hfm, hgm, Bool.false_eq_true, if_false, Nat.mul_zero, Nat.add_zero] at e
    omega

/-- A field that a map holds reads what was written to it. -/
theorem State.get_put_held {s : State} {f : Fld} {v i : Nat} (h : f.keep ≠ .L ∧ f.keep ≠ .C) :
    (s.put f v i).get f i = v % 2 ^ f.width := by
  refine State.get_put _ _ _ _ _ _ ?_
  unfold Keep.held
  cases hk : f.keep
  case L => exact absurd hk h.1
  case C => exact absurd hk h.2
  all_goals simp

/-- Raising an interrupt leaves the fields that are apart from it. -/
theorem State.get_raise_apart {s : State} {f g : Fld} {i a : Nat} (h : f.apart g = true) : (s.raise f i).get g a = s.get g a :=
  State.get_put_apart h

/-- An interrupt of one bit that was raised reads 1. -/
theorem State.get_raise_bit {s : State} {f : Fld} {i : Nat} (hk : Keep.held f.keep) (hw : f.width = 1) : (s.raise f i).get f i = 1 := by
  rw [State.raise, State.get_put _ _ _ _ _ _ hk, hw]
  simp only [setBit, bit, beq_iff_eq, if_true]
  split <;> omega

/-- A Bool fits a field of one bit. -/
theorem b2n_mod_two (b : Bool) : b2n b % 2 ^ 1 = b2n b := by cases b <;> rfl

/-! ### What windows measure -/

/-- From s to t, transfers were served and loads were measured, which the fields fs show: they, the slices' queues and the accounts
of stages move, and nothing else of the registers, the fabric, the frames and copies, or the Last. -/
structure State.Measures (fs : List Fld) (s t : State) : Prop where
  get : ∀ (g : Fld) (a : Nat), fs.all (fun f => f.apart g) = true → t.get g a = s.get g a
  fab : ∃ m, t.fab = { s.fab with slices := m }
  frames : t.clr.frames = s.clr.frames
  copies : t.clr.copies = s.clr.copies
  lst : t.lst = s.lst

section Measures
variable {fs : List Fld} {s t : State}

theorem State.Measures.refl (fs : List Fld) (s : State) : s.Measures fs s := ⟨fun _ _ _ => rfl, ⟨_, rfl⟩, rfl, rfl, rfl⟩

theorem State.Measures.put (h : s.Measures fs t) {f : Fld} (hf : f ∈ fs) (v i : Nat) : s.Measures fs (t.put f v i) :=
  { h with get := fun g a hg => (State.get_put_apart (List.all_eq_true.mp hg f hf)).trans (h.get g a hg) }

theorem State.Measures.sliceSet (h : s.Measures fs t) (n : Nat) (x : Slice) : s.Measures fs (t.sliceSet n x) :=
  { h with
    fab := by
      obtain ⟨m, hm⟩ := h.fab
      exact ⟨AMap.ins m n x, by simp [State.sliceSet, hm]⟩ }

theorem State.Measures.draw (h : s.Measures fs t) (n : Nat) : s.Measures fs (t.draw n).2 := { h with }

/-- A slice served counts its handshakes in FAB_XFER. -/
theorem State.Measures.sliceServed (h : s.Measures fs t) (hx : Reg.FAB_XFER_FULL ∈ fs) (n : Nat) :
    s.Measures fs (t.sliceServed n) := by
  unfold State.sliceServed
  extract_lets x y
  split
  · exact h
  · exact (h.put hx _ n).sliceSet n y

end Measures

/-- The fields in which the 1 ms window shows its loads. -/
def loadFields : List Fld := [Reg.FAB_XFER_FULL, Reg.FAB_LOAD_LOAD, Reg.CLR_UTIL_UTIL, Reg.AWL_LOAD_LOAD]

/-- The loads of the 1 ms window are measured, and nothing else moves. -/
theorem State.windowLoads_measures (s : State) : s.Measures loadFields s.windowLoads := by
  unfold State.windowLoads
  extract_lets a b c d
  have ha : s.Measures loadFields a := by
    refine keeps_foldl (P := s.Measures loadFields) (fun u n h => ?_) (.refl _ s)
    exact (((h.sliceServed (by simp [loadFields]) n).draw _).put (by simp [loadFields]) _ n).sliceSet n _
  have hb : s.Measures loadFields b := by
    refine keeps_foldl (P := s.Measures loadFields) (fun u n h => ?_) ha
    exact (h.draw _).put (by simp [loadFields]) _ n
  have hc : s.Measures loadFields c := { hb with }
  have hd : s.Measures loadFields d := by
    refine keeps_foldl (P := s.Measures loadFields) (fun u n h => ?_) hc
    exact h.put (by simp [loadFields]) _ n
  clear_value d
  exact { hd with }

/-! ### Pace windows (R132, R138) -/

/-- Slice n, in service in s, shows a new pace in t: its pace, its extremes and the governor's lowest follow, and
frames, the Last and the time stay. -/
structure State.ShowsPace (s : State) (n pace : Nat) (t : State) : Prop where
  shown : t.get Reg.FAB_PACE_PACE n = pace
  hrc : t.get Reg.FAB_PACE_HRC n = b2n (s.flag Reg.CGU_STAT_LOADS)
  least : t.get Reg.FAB_PACE_MIN_PACE n = min pace (s.get Reg.FAB_PACE_MIN_PACE n) % 4096
  most : t.get Reg.FAB_PACE_MAX_PACE n = max pace (s.get Reg.FAB_PACE_MAX_PACE n) % 4096
  lowest : t.fab.lowest = some (min (s.fab.lowest.getD pace) pace)
  clr : t.clr = s.clr
  lst : t.lst = s.lst
  tim : t.tim = s.tim

/-- Raising BELOW_FLOOR leaves what the slice shows. -/
theorem State.ShowsPace.raise {s t : State} {n pace : Nat} (h : s.ShowsPace n pace t) :
    s.ShowsPace n pace (t.raise Reg.FAB_IRQ_BELOW_FLOOR n) where
  shown := (State.get_raise_apart (by decide)).trans h.shown
  hrc := (State.get_raise_apart (by decide)).trans h.hrc
  least := (State.get_raise_apart (by decide)).trans h.least
  most := (State.get_raise_apart (by decide)).trans h.most
  lowest := h.lowest
  clr := h.clr
  lst := h.lst
  tim := h.tim

/-- What the fabric alone moves leaves the frames, the Last and the time. -/
theorem State.fabRest_eq {s t : State} (h : t.fabRest = s.fabRest) : t.clr = s.clr ∧ t.lst = s.lst ∧ t.tim = s.tim := by
  have hclr := congrArg State.clr h
  have hlst := congrArg State.lst h
  have htim := congrArg State.tim h
  exact ⟨hclr, hlst, htim⟩

/-- A slice out of service ends no window (assumption log 1). -/
theorem paceWindowEnd_outOfService {n w : Nat} {s : State} (h : s.flag Reg.FAB_STAT_IN_SERVICE n = false) :
    paceWindowEnd n w s = s := if_pos (by simp [h])

/-- The window of a slice in service shows its pace; below the floor it raises BELOW_FLOOR on entering it, and begins cautious
forwarding (R138). -/
theorem paceWindowEnd_inService {n w pace : Nat} {s : State} (h : s.flag Reg.FAB_STAT_IN_SERVICE n = true)
    (hp : pace = min 4095 (if s.flag Reg.CGU_STAT_LOADS = true then w * 98 / 100 else w)) :
    ∃ u, s.ShowsPace n pace u ∧ u.get Reg.FAB_IRQ_BELOW_FLOOR n = s.get Reg.FAB_IRQ_BELOW_FLOOR n ∧ paceWindowEnd n w s =
      if pace < 500 then
        (if s.get Reg.FAB_PACE_PACE n = 0 ∨ 500 ≤ s.get Reg.FAB_PACE_PACE n then u.raise Reg.FAB_IRQ_BELOW_FLOOR n
          else u).devCause Reg.DEV_CAUTIOUS_PACE true
      else u := by
  rw [paceWindowEnd, h, Bool.not_true, if_neg Bool.false_ne_true]
  extract_lets hrc a x b shown old c d e u s'
  have hb : s.Measures [Reg.FAB_XFER_FULL] b := ((State.Measures.refl _ s).sliceServed (by simp) n).sliceSet n _
  obtain ⟨hclr, hlst, htim⟩ : b.clr = s.clr ∧ b.lst = s.lst ∧ b.tim = s.tim :=
    State.fabRest_eq (s.sliceServed_fabRest n)
  have hshown : shown = pace := hp.symm
  have hold : old = s.get Reg.FAB_PACE_PACE n := hb.get _ _ (by decide)
  have hpace : pace % 2 ^ 12 = pace := by omega
  clear_value b shown old
  subst hshown hold
  refine ⟨u, ?_, ?_, ?_⟩
  · constructor
    case shown =>
      simp (disch := decide) only [u, e, d, c, State.fabSet_get, State.get_put_apart, State.get_put_held]
      exact hpace
    case hrc =>
      simp (disch := decide) only [u, e, d, c, State.fabSet_get, State.get_put_apart, State.get_put_held]
      exact b2n_mod_two _
    case least =>
      simp (disch := decide) only [u, e, d, c, State.fabSet_get, State.get_put_apart, State.get_put_held, hb.get]
      rfl
    case most =>
      simp (disch := decide) only [u, e, d, c, State.fabSet_get, State.get_put_apart, State.get_put_held, hb.get]
      rfl
    case lowest =>
      obtain ⟨m, hm⟩ := hb.fab
      simp only [u, e, d, c, State.fabSet_fab, State.put_fab, hm]
      cases s.fab.lowest with
      | none => simp
      | some l => rfl
    case clr => exact hclr
    case lst => exact hlst
    case tim => exact htim
  · simp (disch := decide) only [u, e, d, c, State.fabSet_get, State.get_put_apart, hb.get]
  · unfold s'; simp only [Bool.or_eq_true, decide_eq_true_eq]

/-! ### The 1 ms window (R130) -/

/-- A fabric that is off ends no window (assumption log 1). -/
theorem demandWindowEnd_off {s : State} (h : s.pagePowered 0x060 = false) : demandWindowEnd s = s := if_pos (by simp [h])

/-- What the 1 ms window writes where it wrote cells and the fabric has a capacity, before the loads are measured. -/
def State.demandWritten (s : State) : State :=
  let d := s.fab.demandBits
  let c := 512000 * s.paceSum
  let s := s.put Reg.FAB_REP_REP (min 65535 (s.fab.copies * 256 / s.fab.cells))
  let s := (s.put Reg.FAB_DEMAND_DEMAND (min 65535 (d * 1024 / c))).put Reg.FAB_DEMAND_OVER (b2n (decide (c < d)))
  let s := if c < d then s.raise Reg.FAB_IRQ_OVERLOAD else s
  s.fabSet (fun f => { f with cells := 0, copies := 0, written := 0, read := 0, demand := d })

theorem demandWindowEnd_written {s : State} (h : s.pagePowered 0x060 = true) (hn : s.fab.cells ≠ 0) (hp : s.paceSum ≠ 0) :
    demandWindowEnd s = s.demandWritten.windowLoads := by
  have hc : 512000 * s.paceSum ≠ 0 := by omega
  simp only [demandWindowEnd, h, hn, hc, decide_false, Bool.false_and, Bool.not_true, Bool.false_eq_true, if_false]
  rfl

/-- The fields of a written window read as R130 gives them. -/
theorem State.demandWritten_shows (s : State) :
    s.demandWritten.get Reg.FAB_REP_REP = min 65535 (s.fab.copies * 256 / s.fab.cells) ∧
    s.demandWritten.get Reg.FAB_DEMAND_DEMAND = min 65535 (s.fab.demandBits * 1024 / (512000 * s.paceSum)) ∧
    s.demandWritten.get Reg.FAB_DEMAND_OVER = b2n (decide (512000 * s.paceSum < s.fab.demandBits)) := by
  unfold State.demandWritten
  extract_lets d c a b e
  have he : ∀ g : Fld, Reg.FAB_IRQ_OVERLOAD.apart g = true → e.get g = b.get g := fun g hg => by
    unfold e
    split
    · exact State.get_raise_apart hg
    · rfl
  refine ⟨?_, ?_, ?_⟩
  · simp (disch := decide) only [State.fabSet_get, he, b, a, State.get_put_apart, State.get_put_held]
    exact Nat.mod_eq_of_lt (show _ < 2 ^ 16 by omega)
  · simp (disch := decide) only [State.fabSet_get, he, b, a, State.get_put_apart, State.get_put_held]
    exact Nat.mod_eq_of_lt (show _ < 2 ^ 16 by omega)
  · simp (disch := decide) only [State.fabSet_get, he, b, State.get_put_held]
    exact b2n_mod_two _

/-- OVERLOAD is raised where the demand exceeds the capacity, and only there. -/
theorem State.demandWritten_overload (s : State) :
    s.demandWritten.get Reg.FAB_IRQ_OVERLOAD =
      if 512000 * s.paceSum < s.fab.demandBits then 1 else s.get Reg.FAB_IRQ_OVERLOAD := by
  unfold State.demandWritten
  extract_lets d c a b e
  rw [State.fabSet_get]
  unfold e
  split
  · exact State.get_raise_bit (.inr (.inr rfl)) rfl
  · simp (disch := decide) only [b, a, State.get_put_apart]

/-- The counts of the next window start at 0, the demand kept for the governor; frames, copies and the Last stay. -/
theorem State.demandWritten_frame (s : State) :
    s.demandWritten.fab = { s.fab with cells := 0, copies := 0, written := 0, read := 0, demand := s.fab.demandBits } ∧
    s.demandWritten.clr = s.clr ∧ s.demandWritten.lst = s.lst := by
  unfold State.demandWritten
  extract_lets d c a b e
  unfold e
  split <;> exact ⟨rfl, rfl, rfl⟩

/-! ### Stalls and rejoins (R142, R143) -/

/-- A slice out of service stalls no more (assumption log 1). -/
theorem fabricStall_outOfService {n : Nat} {s : State} (h : s.flag Reg.FAB_STAT_IN_SERVICE n = false) : fabricStall n s = s :=
  if_pos (by simp [h])

/-- A slice in service that stalls leaves it (R142): it waits to rejoin where AUTO_REJOIN is set and it has not rejoined within the
last second, and is retired otherwise (R143). -/
theorem fabricStall_inService {n : Nat} {s u v w : State} {lately : Prop} [Decidable lately]
    (h : s.flag Reg.FAB_STAT_IN_SERVICE n = true) (hu : u = s.sliceStuck n (s.now - s.get Reg.FAB_STALL_LIMIT))
    (hv : v = (u.slice n).framesWritten.foldl (fun s f => s.abandon n f) (((u.put Reg.FAB_STAT_STALLS
      (min 255 (u.get Reg.FAB_STAT_STALLS n + 1)) n).raise Reg.FAB_IRQ_STALL n).fault (0x060 + n) 0x1301))
    (hw : w = v.sliceServe n false)
    (hl : lately ↔ ∃ t, AMap.find s.fab.rejoinAt n = some t ∧ s.now < t + 1000000000) :
    fabricStall n s = ((if w.flag Reg.FAB_CTRL_AUTO_REJOIN = true ∧ ¬ lately then
        w.fabSet (fun f => { f with stalled := f.stalled ++ [n] })
      else (w.put Reg.FAB_STAT_RETIRED 1 n).raise Reg.FAB_IRQ_RETIRED n).readsComplain (v.slice n)) := by
  subst hu hv hw
  rw [fabricStall, h, Bool.not_true, if_neg Bool.false_ne_true]
  extract_lets again u lost a b c x d e
  have hagain : again = decide lately := by
    rw [Bool.eq_iff_iff, decide_eq_true_iff, hl]
    unfold again
    cases AMap.find s.fab.rejoinAt n <;> simp
  have hwaits : (d.flag Reg.FAB_CTRL_AUTO_REJOIN && !again) = true ↔ d.flag Reg.FAB_CTRL_AUTO_REJOIN = true ∧ ¬ lately := by
    rw [hagain, Bool.and_eq_true, Bool.not_eq_true', decide_eq_false_iff_not]
  exact congrArg (fun t => State.readsComplain t x) (ite_congr (propext hwaits) (fun _ => rfl) (fun _ => rfl))

/-- A rejoin that no stalled slice waits for, or of one whose page is not powered, is none (assumption log 1). -/
theorem sliceRejoin_idle {n k : Nat} {ok : Bool} {s : State}
    (h : s.fab.stalled.contains n = false ∨ s.pagePowered (0x060 + n) = false) : sliceRejoin n k ok s = s :=
  if_neg (by rcases h with h | h <;> rw [h] <;> simp)

/-- A stalled slice's memories are tested: it returns to service if they pass, and stays out otherwise (R143). -/
theorem sliceRejoin_tested {n k : Nat} {ok : Bool} {s u : State} (hs : s.fab.stalled.contains n = true)
    (hp : s.pagePowered (0x060 + n) = true)
    (hu : u = s.fabSet (fun f => { f with stalled := f.stalled.filter (· != n), rejoinAt := AMap.ins f.rejoinAt n s.now })) :
    sliceRejoin n k ok s = if ok then ((u.rejoinTest (0x060 + n) k ok).sliceServe n true).raise Reg.FAB_IRQ_REJOINED n
      else u.rejoinTest (0x060 + n) k ok := by
  subst hu
  exact if_pos (by rw [hs, hp]; rfl)

/-! ### The governor (R139–R141) -/

/-- The settings that a write of FAB_GOV_CTRL stores: 0 in STEP or INTERVAL is taken as 1 (R139). -/
def State.govSettings (s : State) (en pec : Bool) (addr step interval : Nat) : State :=
  ((((s.put Reg.FAB_GOV_CTRL_EN (b2n en)).put Reg.FAB_GOV_CTRL_PEC (b2n pec)).put Reg.FAB_GOV_CTRL_ADDR addr).put
    Reg.FAB_GOV_CTRL_STEP (max 1 step)).put Reg.FAB_GOV_CTRL_INTERVAL (max 1 interval)

theorem State.govSettings_state (s : State) (en pec : Bool) (addr step interval : Nat) :
    (s.govSettings en pec addr step interval).get Reg.FAB_GOV_STAT_STATE = s.get Reg.FAB_GOV_STAT_STATE := by
  simp (disch := decide) only [State.govSettings, State.get_put_apart]

/-- A write of the governor's control stores its settings; EN from 0 to 1 starts the governor, from 1 to 0 stops it (R139, R141). -/
theorem State.govCtrl_settings {s : State} {en pec : Bool} {a st iv : Nat} (hs : st < 16) (hi : iv < 256) :
    s.govCtrl en pec a st iv =
      let u := s.govSettings en pec a st iv
      if en && !s.flag Reg.FAB_GOV_CTRL_EN then
        (u.put Reg.FAB_GOV_STAT_STATE 1).fabSet (fun f => { f with bus := [0], retry := false, limited := false })
      else if !en && s.flag Reg.FAB_GOV_CTRL_EN then
        if s.get Reg.FAB_GOV_STAT_STATE = 3 then u.fabSet (fun f => { f with bus := [], retry := false })
        else (u.fabSet (fun f => { f with bus := [], retry := false })).put Reg.FAB_GOV_STAT_STATE 0
      else u := by
  have hst : (if st % 16 = 0 then 1 else st) = max 1 st := by split <;> omega
  have hiv : (if iv % 256 = 0 then 1 else iv) = max 1 iv := by split <;> omega
  rw [← s.govSettings_state en pec a st iv]
  simp only [State.govCtrl, hst, hiv, State.fabSet_get]
  rfl

theorem governorEnable_granted {m : Master} {en pec : Bool} {a : Fin 128} {st : Fin 16} {iv : Fin 256} {z : State}
    (hg : (z.sent m).grants m 0x060) :
    exec (.governorEnable m en pec a st iv) z = .next ((z.sent m).govCtrl en pec a.val st.val iv.val) :=
  congrArg Host.Outcome.next (z.direct_of_grants m 0x060 0x110 (fun s => s.govCtrl en pec a.val st.val iv.val) hg)

/-- The governor that runs acts: its page and PD1 are powered, and it is enabled and not in FAIL. -/
def State.governs (s : State) : Prop :=
  s.pagePowered 0x060 = true ∧ bit s.pwr.powered 1 = true ∧ s.flag Reg.FAB_GOV_CTRL_EN = true ∧ s.get Reg.FAB_GOV_STAT_STATE ≠ 3

theorem State.governs_runs {s : State} (h : s.governs) :
    (!s.pagePowered 0x060 || !bit s.pwr.powered 1 || !s.flag Reg.FAB_GOV_CTRL_EN || s.get Reg.FAB_GOV_STAT_STATE == 3) = false := by
  obtain ⟨hp, hd, he, hs⟩ := h
  simp [hp, hd, he, hs]

/-- With neither a pace nor a warning the governor only reads (R139). -/
theorem governorInterval_reads {s : State} (h : s.governs) (hl : s.paceLow = none) (hw : s.warnRecent = false) :
    governorInterval s = ((((s.put Reg.FAB_GOV_STAT_STATE 1).fabSet (fun f => { f with lowest := none })).fabSet
      (fun f => { f with limited := false })).fabSet (fun f => { f with bus := f.bus ++ [2] })) := by
  rw [governorInterval, State.governs_runs h, if_neg Bool.false_ne_true]
  simp only [hl, hw, Bool.or_self, Bool.and_false, Bool.false_and, Bool.false_eq_true, if_false, if_true]

/-- Short of pace, or warned, with VREQ within its limits, the governor requests STEP more up to VMAX, and reads (R139). -/
theorem governorInterval_raises {s : State} (h : s.governs)
    (hm : (∃ p, s.paceLow = some p ∧ p < s.get Reg.FAB_GOV_TARGET_TARGET) ∨ s.warnRecent = true)
    (hv : 0 < s.get Reg.FAB_GOV_STAT_VREQ) (hlo : s.get Reg.FAB_GOV_VLIM_VMIN ≤ s.get Reg.FAB_GOV_STAT_VREQ)
    (hhi : s.get Reg.FAB_GOV_STAT_VREQ < s.get Reg.FAB_GOV_VLIM_VMAX) (hw : s.get Reg.FAB_GOV_VLIM_VMAX < 1024)
    (hs : 0 < s.get Reg.FAB_GOV_CTRL_STEP) :
    (governorInterval s).get Reg.FAB_GOV_STAT_VREQ =
      min (s.get Reg.FAB_GOV_VLIM_VMAX) (s.get Reg.FAB_GOV_STAT_VREQ + s.get Reg.FAB_GOV_CTRL_STEP) ∧
    (governorInterval s).fab.bus = s.fab.bus ++ [1, 2] ∧ (governorInterval s).fab.lowest = none ∧
    (governorInterval s).clr = s.clr := by
  rw [governorInterval, State.governs_runs h, if_neg Bool.false_ne_true]
  extract_lets warn low n target hyst vmin vmax step vreq short ample moves a b c t v d e u
  have hup : (short || warn) = true := by
    obtain ⟨p, hp, hlt⟩ | hwarn := hm
    · have hshort : short = true := by
        simp only [short, low, hp, target, hlt, decide_true, Bool.true_or]
      rw [hshort, Bool.true_or]
    · rw [show warn = true from hwarn, Bool.or_true]
  have hmoves : moves = true := by simp only [moves, hup, Bool.true_or]
  have hc : c = (vreq, a) := if_neg (by
    rw [show decide (vreq = 0) = false from decide_eq_false (Nat.ne_of_gt hv), Bool.false_and]
    exact Bool.false_ne_true)
  have hd : d = min vmax (vreq + step) := by
    have hvd : v = min vmax (vreq + step) := by simp only [v, hup, if_true, hc]
    simp only [d, hmoves, if_true, hvd, clampNat]
    omega
  have hne : d ≠ vreq := by omega
  have he : e.fab.bus = s.fab.bus ∧ e.fab.lowest = none ∧ e.clr = s.clr := by
    have ht : t = a := congrArg Prod.snd hc
    unfold e
    rw [ht]
    split
    · exact ⟨rfl, rfl, rfl⟩
    · split <;> exact ⟨rfl, rfl, rfl⟩
  have hu : u = (e.put Reg.FAB_GOV_STAT_VREQ d).fabSet (fun f => { f with bus := f.bus ++ [1] }) := if_neg hne
  obtain ⟨hbus, hlowest, hclr⟩ := he
  rw [hu]
  refine ⟨?_, by simp [hbus], hlowest, hclr⟩
  rw [State.fabSet_get, State.fabSet_get, State.get_put_held (by decide), ← hd]
  exact Nat.mod_eq_of_lt (show d < 2 ^ 10 by omega)

/-! ### PMBus transactions (R140, R141) -/

theorem pmbusTransactionDone_none {ok : Bool} {mv : Nat} {s : State} (h : s.fab.bus = []) : pmbusTransactionDone ok mv s = s := by
  simp only [pmbusTransactionDone, h]

/-- A transaction that succeeds gives way to the next; a READ_VOUT writes VREAD. -/
theorem pmbusTransactionDone_succeeds {mv x : Nat} {r : List Nat} {s : State} (h : s.fab.bus = x :: r) :
    pmbusTransactionDone true mv s =
      if x = 2 then (s.fabSet (fun f => { f with bus := r, retry := false })).put Reg.FAB_GOV_STAT_VREAD mv
      else s.fabSet (fun f => { f with bus := r, retry := false }) := by
  simp only [pmbusTransactionDone, h, if_true]

/-- The first failure of a transaction retries it; the second empties the bus and fails the governor. -/
theorem pmbusTransactionDone_fails {mv x : Nat} {r : List Nat} {s : State} (h : s.fab.bus = x :: r) :
    pmbusTransactionDone false mv s =
      if s.fab.retry = false then s.fabSet (fun f => { f with retry := true })
      else (((s.fabSet (fun f => { f with bus := [], retry := false })).put Reg.FAB_GOV_STAT_STATE 3).raise
        Reg.FAB_IRQ_GOV_FAIL).fault 0x060 0x1302 := by
  simp only [pmbusTransactionDone, h, Bool.false_eq_true, if_false, Bool.not_eq_true']

end Sys2Proof.Machine

namespace Sys2Proof
open Machine

/-- Settles O15: a window in service shows its pace and raises BELOW_FLOOR on entering it alone; the 1 ms window writes its counts
before the loads are measured, which move none of them. -/
theorem paceAndDemandWindowsEnd : Obligations.PaceAndDemandWindowsEnd := by
  unfold Obligations.PaceAndDemandWindowsEnd
  refine ⟨?_, ?_, ?_, ?_, ?_⟩
  case refine_1 =>
    intro n w pace s hs hp hfloor
    obtain ⟨u, hu, -, hend⟩ := paceWindowEnd_inService hs hp
    rw [if_neg (Nat.not_lt.mpr hfloor)] at hend
    exact ⟨u, congrArg Host.Outcome.next hend, hu.shown, hu.hrc, hu.least, hu.most, hu.lowest, hu.clr, hu.lst, hu.tim⟩
  case refine_2 =>
    intro n w pace s hs hp hfloor
    obtain ⟨u, hu, hirq, hend⟩ := paceWindowEnd_inService hs hp
    rw [if_pos hfloor] at hend
    refine ⟨_, congrArg Host.Outcome.next hend, ?_⟩
    by_cases hold : s.get Reg.FAB_PACE_PACE n.val = 0 ∨ 500 ≤ s.get Reg.FAB_PACE_PACE n.val
    · rw [if_pos hold]
      have hr := hu.raise
      exact ⟨hr.shown, hr.least, hr.most, hr.lowest, hr.clr, hr.lst, hr.tim, fun _ => State.get_raise_bit (.inr (.inr rfl)) rfl,
        fun h0 h1 => absurd hold (by omega)⟩
    · rw [if_neg hold]
      exact ⟨hu.shown, hu.least, hu.most, hu.lowest, hu.clr, hu.lst, hu.tim, fun h => absurd h hold, fun _ _ => hirq⟩
  case refine_3 =>
    intro n w s hs
    exact congrArg Host.Outcome.next (paceWindowEnd_outOfService hs)
  case refine_4 =>
    intro s hon hcells hpace
    have hm := s.demandWritten.windowLoads_measures
    obtain ⟨hrep, hdemand, hover⟩ := s.demandWritten_shows
    obtain ⟨hfab, hclr, hlst⟩ := s.demandWritten_frame
    obtain ⟨m, hslices⟩ := hm.fab
    rw [hfab] at hslices
    have hload : s.demandWritten.windowLoads.get Reg.FAB_IRQ_OVERLOAD = _ :=
      (hm.get _ 0 (by decide)).trans s.demandWritten_overload
    refine ⟨_, congrArg Host.Outcome.next (demandWindowEnd_written hon hcells hpace), (hm.get _ 0 (by decide)).trans hrep,
      (hm.get _ 0 (by decide)).trans hdemand, (hm.get _ 0 (by decide)).trans hover, fun h => hload.trans (if_pos h),
      fun h => hload.trans (if_neg (Nat.not_lt.mpr h)), ?_⟩
    rw [hslices]
    exact ⟨rfl, rfl, rfl, rfl, rfl, hm.frames.trans (congrArg Clr.frames hclr), hm.copies.trans (congrArg Clr.copies hclr),
      hm.lst.trans hlst⟩
  case refine_5 =>
    intro s hoff
    exact congrArg Host.Outcome.next (demandWindowEnd_off hoff)

/-- Settles O16: a stall retires the slice or leaves it waiting, as it rejoined within the last second or not; a rejoin is tested. -/
theorem stalledSlicesLeaveAndRejoin : Obligations.StalledSlicesLeaveAndRejoin := by
  unfold Obligations.StalledSlicesLeaveAndRejoin
  refine ⟨?_, ?_, ?_, ?_⟩
  case refine_1 =>
    intro n s u v w hs hu hv hw
    constructor
    · intro hlong
      have hl : False ↔ ∃ t, AMap.find s.fab.rejoinAt n.val = some t ∧ s.now < t + 1000000000 :=
        ⟨False.elim, fun ⟨t, ht, hlt⟩ => absurd (hlong t ht) (Nat.not_le.mpr hlt)⟩
      have h := fabricStall_inService hs hu hv hw hl
      simp only [not_false_eq_true, and_true] at h
      exact congrArg Host.Outcome.next h
    · intro t ht hlt
      have h := fabricStall_inService hs hu hv hw (iff_of_true trivial ⟨t, ht, hlt⟩)
      simp only [not_true_eq_false, and_false, if_false] at h
      exact congrArg Host.Outcome.next h
  case refine_2 =>
    intro n s hs
    exact congrArg Host.Outcome.next (fabricStall_outOfService hs)
  case refine_3 =>
    intro n k s u hs hp hu
    exact ⟨congrArg Host.Outcome.next (sliceRejoin_tested (ok := true) hs hp hu),
      congrArg Host.Outcome.next (sliceRejoin_tested (ok := false) hs hp hu)⟩
  case refine_4 =>
    intro n k ok s h
    exact congrArg Host.Outcome.next (sliceRejoin_idle h)

/-- Settles O17: EN starts and stops the governor, which reads, or requests STEP more; its transactions end, are retried, or fail
it. -/
theorem theGovernorRequestsAndFails : Obligations.TheGovernorRequestsAndFails := by
  unfold Obligations.TheGovernorRequestsAndFails
  refine ⟨?_, ?_, ?_, ?_, ?_, ?_, ?_, ?_, ?_⟩
  case refine_1 =>
    rintro m pec a st iv z _ rfl hg hen
    refine ⟨_, rfl, (governorEnable_granted hg).trans (congrArg Host.Outcome.next ?_)⟩
    rw [State.govCtrl_settings st.isLt iv.isLt, hen]
    rfl
  case refine_2 =>
    rintro m pec a st iv z _ rfl hg hen
    refine ⟨_, rfl, (governorEnable_granted hg).trans (congrArg Host.Outcome.next ?_)⟩
    rw [State.govCtrl_settings st.isLt iv.isLt, hen]
    rfl
  case refine_3 =>
    intro s hp hd hen hst hl hw
    exact congrArg Host.Outcome.next (governorInterval_reads ⟨hp, hd, hen, hst⟩ hl hw)
  case refine_4 =>
    intro s p hp hd hen hst hm hv hlo hhi hmax hstep
    exact ⟨_, rfl, governorInterval_raises ⟨hp, hd, hen, hst⟩ (hm.imp_left fun h => ⟨p, h⟩) hv hlo hhi hmax hstep⟩
  case refine_5 =>
    intro mv s r h
    exact congrArg Host.Outcome.next ((pmbusTransactionDone_succeeds h).trans (if_pos rfl))
  case refine_6 =>
    intro mv s x r h hx
    exact congrArg Host.Outcome.next ((pmbusTransactionDone_succeeds h).trans (if_neg hx))
  case refine_7 =>
    intro ok mv s h
    exact congrArg Host.Outcome.next (pmbusTransactionDone_none h)
  case refine_8 =>
    intro mv s x r h hr
    exact congrArg Host.Outcome.next ((pmbusTransactionDone_fails h).trans (if_pos hr))
  case refine_9 =>
    intro mv s x r h hr
    exact congrArg Host.Outcome.next ((pmbusTransactionDone_fails h).trans (if_neg (by rw [hr]; decide)))

end Sys2Proof

/-! Fault reports (R34, R321–R327): the pages that a report writes, and what it leaves. -/

namespace Sys2Proof.Machine

/-! ### The cells of the report pages -/

/-- An element within its page, of a field that the masters share, has its cell on that page. -/
theorem cellPage_key {f : Fld} {i j : Nat} (h : f.off + f.stride * j < 4096 ∧ f.lo < 128 ∧ f.perMaster = false) :
    cellPage (f.key i j 0) = f.page + i := by
  obtain ⟨ho, hl, hm⟩ := h
  simp only [cellPage, Fld.key, hm, Bool.false_eq_true, if_false]
  omega

/-- A page that a fault report may write: the DEV page, the concentrator's, and from the MAC pages on. -/
def reportPage (page : Nat) : Bool := page == 0x000 || page == 0x018 || decide (0x0D0 ≤ page)

/-- Entry n of the first-fault record stands on the concentrator's page. -/
theorem reportPage_firstFault {f : Fld} {n : Nat} (hn : n < 8)
    (h : f.page = 0x018 ∧ f.off < 0x200 ∧ f.stride = 16 ∧ f.lo < 128 ∧ f.perMaster = false) :
    reportPage (cellPage (f.key 0 n 0)) = true := by
  obtain ⟨hp, ho, hs, hl, hm⟩ := h
  rw [cellPage_key ⟨by rw [hs]; omega, hl, hm⟩, hp]
  rfl

/-- The conditions of an Ethernet port stand on its MAC page. -/
theorem reportPage_mac {f : Fld} (p : Nat) (h : f.page = 0x0D0 ∧ f.off < 4096 ∧ f.lo < 128 ∧ f.perMaster = false) :
    reportPage (cellPage (f.key p 0 0)) = true := by
  obtain ⟨hp, ho, hl, hm⟩ := h
  rw [cellPage_key ⟨ho, hl, hm⟩, hp]
  simp [reportPage]

/-! ### What a report moves -/

/-- From s to t the concentrator moved, and cells of the pages that a fault report may write; nothing else did. -/
structure State.Reports (s t : State) : Prop where
  get : ∀ (g : Fld) (i j m : Nat), reportPage (cellPage (g.key i j m)) = false → t.get g i j m = s.get g i j m
  frame : ∃ r c, t = { s with regs := r, flt := c }

section Reports
variable {s t : State}

theorem State.Reports.refl (s : State) : s.Reports s := ⟨fun _ _ _ _ _ => rfl, _, _, rfl⟩

theorem State.Reports.put (h : s.Reports t) {f : Fld} (v : Nat) {i j : Nat} (hf : reportPage (cellPage (f.key i j 0)) = true) :
    s.Reports (t.put f v i j) where
  get g a b c hg := by
    refine (State.get_put_other _ _ _ _ _ _ _ _ _ _ (.inr fun e => ?_)).trans (h.get g a b c hg)
    rw [e, hf] at hg
    exact Bool.noConfusion hg
  frame := by
    obtain ⟨r, c, rfl⟩ := h.frame
    exact ⟨_, c, rfl⟩

theorem State.Reports.flt (h : s.Reports t) (x : Flt) : s.Reports { t with flt := x } where
  get := h.get
  frame := by
    obtain ⟨r, c, rfl⟩ := h.frame
    exact ⟨r, x, rfl⟩

theorem State.Reports.recordFault (h : s.Reports t) (page code : Nat) (storm : Bool) :
    s.Reports (t.recordFault page code storm) := by
  unfold State.recordFault
  extract_lets n on time w0 w1 w2 w3 w4 ns sec entries _ recorded
  split
  case isTrue hn =>
    have hsec : s.Reports sec := by
      refine .put (.put (.put (.put (.put (.put (.put h _ ?_) _ ?_) _ ?_) _ ?_) _ ?_) _ ?_) _ ?_
        <;> exact reportPage_firstFault hn (by decide)
    have hentries : s.Reports entries := hsec.put _ (by decide)
    have hrec : s.Reports recorded := hentries.flt _
    exact keeps_ite hrec (hrec.put _ (by decide))
  case isFalse => exact h.put _ (by decide)

theorem State.Reports.stormEnter (h : s.Reports t) : s.Reports t.stormEnter := by
  refine .flt (.put (.put (.put h _ ?_) _ ?_) _ ?_) _ <;> decide

/-- A device-wide cause begins or ends on the DEV page; its entries are counted there and on the MAC pages (R37). -/
theorem State.Reports.devCause (h : s.Reports t) {f : Fld} (hf : reportPage (cellPage (f.key 0 0 0)) = true) (on : Bool) :
    s.Reports (t.devCause f on) := by
  unfold State.devCause
  extract_lets was a b
  have ha : s.Reports a := h.put _ hf
  refine keeps_ite (keeps_foldl (P := s.Reports) (fun u p hu => ?_) (ha.put _ (by decide))) ha
  exact keeps_ite hu (hu.put _ (reportPage_mac p (by decide)))

/-- A cause of an Ethernet port begins or ends, and is counted, on the port's MAC page (R37). -/
theorem State.Reports.portCauseSet (h : s.Reports t) {f : Fld}
    (hf : f.page = 0x0D0 ∧ f.off < 4096 ∧ f.lo < 128 ∧ f.perMaster = false) (p : Nat) (on : Bool) :
    s.Reports (t.portCauseSet f p on) := by
  unfold State.portCauseSet
  extract_lets was a
  have ha : s.Reports a := h.put _ (reportPage_mac p hf)
  exact keeps_ite (ha.put _ (reportPage_mac p (by decide))) ha

/-- A fault report, whatever it reports, moves the concentrator and the conditions of cautious forwarding alone. -/
theorem State.fault_reports (s : State) (page code : Nat) : s.Reports (s.fault page code) := by
  unfold State.fault
  extract_lets now c recent _ counted was entered storm inStorm _ timed stormed _ recorded _ last
  have hcounted : s.Reports counted := (State.Reports.refl s).flt _
  have hentered : s.Reports entered := keeps_ite hcounted.stormEnter hcounted
  have hinStorm : s.Reports inStorm := keeps_ite (hentered.put _ (by decide)) hentered
  have htimed : s.Reports timed := keeps_ite (hinStorm.flt _) hinStorm
  have hrecorded : s.Reports recorded :=
    keeps_ite (htimed.recordFault page code false)
      (keeps_ite ((htimed.recordFault page code true).flt _) (keeps_ite (htimed.put _ (by decide)) htimed))
  have hlast : s.Reports last := hrecorded.flt _
  refine keeps_ite htimed (keeps_ite (hlast.devCause (by decide) true) ?_)
  split
  · exact hlast.portCauseSet (by decide) _ true
  · exact hlast

end Reports

/-- A fault report leaves the cells of every page that it does not write. -/
theorem State.get_fault {s : State} {page code i j m : Nat} {g : Fld} (h : reportPage (cellPage (g.key i j m)) = false) :
    (s.fault page code).get g i j m = s.get g i j m := (s.fault_reports page code).get g i j m h

@[simp] theorem State.fault_sole (s : State) (page code : Nat) : (s.fault page code).sole = s.sole := by
  obtain ⟨r, c, e⟩ := (s.fault_reports page code).frame
  rw [e]

end Sys2Proof.Machine

/-! The Cobbler (R165, R166): what a pass writes before it reports, and one equation per case of a pass. -/

namespace Sys2Proof.Machine

/-! ### Counts -/

/-- A count that a map holds saturates at its field's largest value. -/
theorem State.get_inc_held {s : State} {f : Fld} {v i : Nat} (h : f.keep ≠ .L ∧ f.keep ≠ .C) :
    (s.inc f v i).get f i = min (2 ^ f.width - 1) (s.get f i + v) := by
  rw [State.inc, State.get_put_held h]
  exact Nat.mod_eq_of_lt (Nat.lt_of_le_of_lt (Nat.min_le_left _ _) (Nat.sub_lt (Nat.two_pow_pos _) Nat.one_pos))

/-! ### What a pass writes -/

/-- The accounts of cells, CBR_PASSES and CBR_LAST after a pass that reclaims the cells of leaked and leaves those of left marked,
before it counts and reports its findings. -/
def State.passWritten (s : State) (dur : Nat) (leaked left : List (Nat × Nat)) : State :=
  let accounts := s.soleSet fun x =>
    { x with marks := left, taken := s.doubles.foldl (fun m c => AMap.ins m c .shared) x.taken }
  let freed := accounts.freeCells (leaked.map (fun c => c.1))
  ((freed.incWrap Reg.CBR_PASSES_COUNT).put Reg.CBR_LAST_DURATION (min 65535 dur)).put Reg.CBR_LAST_SUSPECT
    (min 65535 s.suspects.length)

section passWritten
variable (s : State) (dur : Nat) (leaked left : List (Nat × Nat))

@[simp] theorem State.passWritten_marks : (s.passWritten dur leaked left).sole.marks = left := rfl

theorem State.passWritten_taken : (s.passWritten dur leaked left).sole.taken =
    leaked.foldl (fun m c => AMap.del m c.1) (s.doubles.foldl (fun m c => AMap.ins m c .shared) s.sole.taken) :=
  List.foldl_map

theorem State.passWritten_taken_of_noDouble (hd : s.doubles = []) :
    (s.passWritten dur leaked left).sole.taken = leaked.foldl (fun m c => AMap.del m c.1) s.sole.taken := by
  rw [State.passWritten_taken, hd]
  rfl

@[simp] theorem State.passWritten_clr : (s.passWritten dur leaked left).clr = s.clr := rfl

@[simp] theorem State.passWritten_flt : (s.passWritten dur leaked left).flt = s.flt := rfl

theorem State.passWritten_get {g : Fld}
    (h : [Reg.CBR_PASSES_COUNT, Reg.CBR_LAST_DURATION, Reg.CBR_LAST_SUSPECT].all (fun f => f.apart g) = true) :
    (s.passWritten dur leaked left).get g = s.get g := by
  simp only [List.all_cons, List.all_nil, Bool.and_true, Bool.and_eq_true] at h
  obtain ⟨hp, hd, hs⟩ := h
  rw [State.passWritten, State.get_put_apart hs, State.get_put_apart hd, State.incWrap, State.get_put_apart hp]
  rfl

theorem State.passWritten_passes :
    (s.passWritten dur leaked left).get Reg.CBR_PASSES_COUNT = (s.get Reg.CBR_PASSES_COUNT + 1) % 4294967296 := by
  rw [State.passWritten, State.get_put_apart (by decide), State.get_put_apart (by decide), State.incWrap,
    State.get_put_held (by decide)]
  rfl

theorem State.passWritten_last :
    (s.passWritten dur leaked left).get Reg.CBR_LAST_DURATION = min 65535 dur ∧
    (s.passWritten dur leaked left).get Reg.CBR_LAST_SUSPECT = min 65535 s.suspects.length := by
  constructor
  · rw [State.passWritten, State.get_put_apart (by decide), State.get_put_held (by decide)]
    exact Nat.mod_eq_of_lt (show _ < 2 ^ 16 by omega)
  · rw [State.passWritten, State.get_put_held (by decide)]
    exact Nat.mod_eq_of_lt (show _ < 2 ^ 16 by omega)

end passWritten

/-! ### What a pass reports -/

/-- The doubles that a pass found are counted, and each is a fault. -/
def State.reportDoubles (s : State) (doubles : List Nat) : State :=
  if doubles.isEmpty then s else
    doubles.foldl (fun s _ => s.fault 0x069 0x1501) ((s.inc Reg.CBR_DOUBLE_COUNT doubles.length).raise Reg.CBR_IRQ_DOUBLE)

/-- The cells that a pass reclaimed are counted. -/
def State.countLeaked (s : State) (leaked : List (Nat × Nat)) : State :=
  if leaked.isEmpty then s else (s.inc Reg.CBR_RECLAIMED_COUNT leaked.length).raise Reg.CBR_IRQ_LEAK

/-- More reclaimed cells than CBR_LIMIT are a fault (R166). -/
def State.reportLeakRate (s : State) (n : Nat) : State :=
  if s.get Reg.CBR_LIMIT_LIMIT < n then (s.raise Reg.CBR_IRQ_LEAK_RATE).fault 0x069 0x1502 else s

theorem State.reportLeakRate_zero (s : State) : s.reportLeakRate 0 = s := if_neg (Nat.not_lt_zero _)

/-! ### COBBLER_PASS_END -/

/-- A Cobbler that is off, or not powered, ends no pass (assumption log 1). -/
theorem cobblerPassEnd_off {dur : Nat} {s : State} (h : s.flag Reg.CBR_CTRL_EN = false ∨ s.pagePowered 0x069 = false) :
    cobblerPassEnd dur s = s := if_pos (by rcases h with h | h <;> simp [h])

section runs
variable {dur : Nat} {s : State} (he : s.flag Reg.CBR_CTRL_EN = true) (hp : s.pagePowered 0x069 = true)
include he hp

/-- A pass reclaims the suspects marked before, marks the others, and reports its doubles and what it reclaimed. -/
theorem cobblerPassEnd_on {leaked left : List (Nat × Nat)} (hl : s.suspects.filter (fun c => s.sole.marks.contains c) = leaked)
    (hr : s.suspects.filter (fun c => !s.sole.marks.contains c) = left) : cobblerPassEnd dur s =
      (((s.passWritten dur leaked left).reportDoubles s.doubles).countLeaked leaked).reportLeakRate leaked.length := by
  subst hl hr
  exact if_neg (by simp [he, hp])

/-- A pass that finds no suspect marked before, and no double, marks its suspects. -/
theorem cobblerPassEnd_unmarked (hd : s.doubles = []) (hm : ∀ x ∈ s.suspects, x ∉ s.sole.marks) :
    cobblerPassEnd dur s = s.passWritten dur [] s.suspects := by
  rw [cobblerPassEnd_on he hp (leaked := []) (left := s.suspects) (by simpa using hm) (by simpa using hm), hd]
  exact State.reportLeakRate_zero _

/-- A pass that finds every suspect marked before, and no double, reclaims them all. -/
theorem cobblerPassEnd_marked (hd : s.doubles = []) (hm : ∀ x ∈ s.suspects, x ∈ s.sole.marks) (hne : s.suspects ≠ []) :
    cobblerPassEnd dur s =
      (((s.passWritten dur s.suspects []).inc Reg.CBR_RECLAIMED_COUNT s.suspects.length).raise Reg.CBR_IRQ_LEAK).reportLeakRate
        s.suspects.length := by
  rw [cobblerPassEnd_on he hp (leaked := s.suspects) (left := []) (by simpa using hm) (by simpa using hm), hd]
  exact congrArg (fun u : State => u.reportLeakRate s.suspects.length) (if_neg (mt List.isEmpty_iff.mp hne))

/-- A pass that finds one double, and no suspect, counts and reports it. -/
theorem cobblerPassEnd_double {c : Nat} (hd : s.doubles = [c]) (hs : s.suspects = []) :
    cobblerPassEnd dur s =
      (((s.passWritten dur [] []).inc Reg.CBR_DOUBLE_COUNT).raise Reg.CBR_IRQ_DOUBLE).fault 0x069 0x1501 := by
  rw [cobblerPassEnd_on he hp (leaked := []) (left := []) (by rw [hs]; rfl) (by rw [hs]; rfl), hd]
  exact State.reportLeakRate_zero _

end runs

/-- What a pass that reclaimed cells shows before their number is held to CBR_LIMIT. -/
theorem State.reclaimed_shows (s : State) (dur : Nat) (leaked left : List (Nat × Nat)) {u : State}
    (hu : u = ((s.passWritten dur leaked left).inc Reg.CBR_RECLAIMED_COUNT leaked.length).raise Reg.CBR_IRQ_LEAK) :
    u.get Reg.CBR_IRQ_LEAK = 1 ∧ u.get Reg.CBR_IRQ_LEAK_RATE = s.get Reg.CBR_IRQ_LEAK_RATE ∧
    u.get Reg.CBR_LIMIT_LIMIT = s.get Reg.CBR_LIMIT_LIMIT ∧ u.get Reg.CBR_RECLAIMED_COUNT =
      min (2 ^ Reg.CBR_RECLAIMED_COUNT.width - 1) (s.get Reg.CBR_RECLAIMED_COUNT + leaked.length) := by
  subst hu
  refine ⟨State.get_raise_bit (.inr (.inr rfl)) rfl, ?_, ?_, ?_⟩
  · rw [State.get_raise_apart (by decide), State.inc, State.get_put_apart (by decide),
      State.passWritten_get _ _ _ _ (by decide)]
  · rw [State.get_raise_apart (by decide), State.inc, State.get_put_apart (by decide),
      State.passWritten_get _ _ _ _ (by decide)]
  · rw [State.get_raise_apart (by decide), State.get_inc_held (by decide),
      State.passWritten_get _ _ _ _ (by decide)]

/-! ### COBBLER_ENABLE -/

theorem cobblerEnable_granted {m : Master} {en : Bool} {z : State} (hg : (z.sent m).grants m 0x069) :
    cobblerEnable m en z = (z.sent m).cbrEnable en := z.direct_of_grants m 0x069 0x080 (fun s => s.cbrEnable en) hg

end Sys2Proof.Machine

/-! Flushes, returns and the ends of cautious conditions (R34, R161, R164): one equation per case of each command. -/

namespace Sys2Proof.Machine

/-! ### FLUSH_COMPLETE and PORT_RETURN_END (R161, R164) -/

theorem flushComplete_flushing {p : Nat} {s : State} (hd : s.flushDone p = true) (hs : s.portState p = psFLUSHING) :
    flushComplete p s = (s.put Reg.SOL_PORT_STATE_STATE psDOWN 0 p).raise Reg.SOL_IRQ_FLUSH_DONE := by
  rw [flushComplete, hd, Bool.not_true, if_neg Bool.false_ne_true, if_pos hs]

/-- A held port returns, an Ethernet port under the port-return condition of R34. -/
theorem flushComplete_held {p : Nat} {s u : State} (hd : s.flushDone p = true) (hs : s.portState p = psHELD)
    (hu : u = (s.put Reg.SOL_PORT_STATE_STATE psRETURNING 0 p).raise Reg.SOL_IRQ_FLUSH_DONE) :
    flushComplete p s = (if p < 32 then u.portCauseSet Reg.MAC_CAUTIOUS_RETURN p true else u).budget := by
  subst hu
  rw [flushComplete, hd, Bool.not_true, if_neg Bool.false_ne_true, if_neg (by rw [hs]; decide), if_pos hs]

/-- A flush that is not done, or a port that has none, is left as it is (assumption log 1). -/
theorem flushComplete_idle {p : Nat} {s : State}
    (h : s.flushDone p = false ∨ (s.portState p ≠ psFLUSHING ∧ s.portState p ≠ psHELD)) : flushComplete p s = s := by
  obtain hd | ⟨hf, hh⟩ := h
  · exact if_pos (by rw [hd]; rfl)
  · rw [flushComplete, if_neg hf, if_neg hh, ite_self]

theorem portReturnEnd_returning {p : Nat} {s u : State} (hs : s.portState p = psRETURNING)
    (hu : u = s.put Reg.SOL_PORT_STATE_STATE psUP 0 p) :
    portReturnEnd p s = if p < 32 then u.portCauseSet Reg.MAC_CAUTIOUS_RETURN p false else u := by
  subst hu
  exact if_pos hs

/-! ### CAUTIOUS_CONDITION_END (R34) -/

theorem cautiousConditionEnd_supply (s : State) :
    cautiousConditionEnd .supply s = if s.supplyLow = true then s else s.devCause Reg.DEV_CAUTIOUS_SUPPLY false := rfl

/-- Every slice in service has reported a pace at or above the floor. -/
def State.paceHolds (s : State) : Prop := ∀ n ∈ s.slicesIn, (s.slice n).reported = true ∧ 500 ≤ s.get Reg.FAB_PACE_PACE n

theorem State.paceHolds_iff (s : State) :
    s.slicesIn.all (fun n => (s.slice n).reported && decide (500 ≤ s.get Reg.FAB_PACE_PACE n)) = true ↔ s.paceHolds := by
  simp [State.paceHolds]

theorem cautiousConditionEnd_pace {s : State} (h : s.paceHolds) :
    cautiousConditionEnd .pace s = s.devCause Reg.DEV_CAUTIOUS_PACE false := if_pos (s.paceHolds_iff.mpr h)

/-- The condition stands while a slice in service is below the floor, or has not reported (assumption log 90). -/
theorem cautiousConditionEnd_pace_stands {s : State} (h : ¬ s.paceHolds) : cautiousConditionEnd .pace s = s :=
  if_neg (mt s.paceHolds_iff.mp h)

end Sys2Proof.Machine

namespace Sys2Proof
open Machine

/-- Settles O18: each finding of a pass is one of the equations above; EN is written, and clearing it clears the marks. -/
theorem theCobblerMarksAndReclaims : Obligations.TheCobblerMarksAndReclaims := by
  unfold Obligations.TheCobblerMarksAndReclaims
  refine ⟨?_, ?_, ?_, ?_, ?_, ?_, ?_⟩
  case refine_1 =>
    intro d s he hp hd hm
    obtain ⟨hdur, hsus⟩ := s.passWritten_last d [] s.suspects
    exact ⟨_, congrArg Host.Outcome.next (cobblerPassEnd_unmarked he hp hd hm), rfl, s.passWritten_passes d _ _, hdur, hsus,
      s.passWritten_taken_of_noDouble d _ _ hd, rfl, rfl⟩
  case refine_2 =>
    intro d s he hp hd hm hne hlim
    obtain ⟨hleak, -, hl, hrec⟩ := s.reclaimed_shows d s.suspects [] rfl
    exact ⟨_, congrArg Host.Outcome.next ((cobblerPassEnd_marked he hp hd hm hne).trans (if_pos (hl ▸ hlim))), rfl, hleak,
      s.passWritten_taken_of_noDouble d _ _ hd, hrec⟩
  case refine_3 =>
    intro d s he hp hd hm hne hlim
    obtain ⟨hleak, hrate, hl, hrec⟩ := s.reclaimed_shows d s.suspects [] rfl
    exact ⟨_, congrArg Host.Outcome.next ((cobblerPassEnd_marked he hp hd hm hne).trans (if_neg (hl ▸ Nat.not_lt.mpr hlim))),
      rfl, hleak, hrate, rfl, rfl, s.passWritten_taken_of_noDouble d _ _ hd, hrec⟩
  case refine_4 =>
    intro d c s he hp hd hs
    refine ⟨_, congrArg Host.Outcome.next (cobblerPassEnd_double he hp hd hs), ?_, ?_, ?_⟩
    · rw [State.get_fault (by decide)]
      exact State.get_raise_bit (.inr (.inr rfl)) rfl
    · rw [State.fault_sole, State.raise_sole, State.inc_sole, State.passWritten_taken, hd]
      exact AMap.find_ins_same _ _ _
    · rw [State.get_fault (by decide), State.get_raise_apart (by decide), State.get_inc_held (by decide),
        State.passWritten_get _ _ _ _ (by decide)]
  case refine_5 =>
    intro d s h
    exact congrArg Host.Outcome.next (cobblerPassEnd_off h)
  case refine_6 =>
    rintro m z _ rfl hg
    exact congrArg Host.Outcome.next (cobblerEnable_granted hg)
  case refine_7 =>
    rintro m z _ rfl hg
    exact congrArg Host.Outcome.next (cobblerEnable_granted hg)

/-- Settles O21: a flush completes, a return ends, and a condition ends, where the state admits it. -/
theorem flushesCompleteAndConditionsEnd : Obligations.FlushesCompleteAndConditionsEnd := by
  unfold Obligations.FlushesCompleteAndConditionsEnd
  refine ⟨?_, ?_, ?_, ?_, ?_, ?_, ?_, ?_, ?_, ?_, ?_, ?_, ?_⟩
  case refine_1 =>
    intro p s hd hs
    exact congrArg Host.Outcome.next (flushComplete_flushing hd hs)
  case refine_2 =>
    intro p s hd hs hp
    exact congrArg Host.Outcome.next ((flushComplete_held hd hs rfl).trans (by rw [if_pos hp]))
  case refine_3 =>
    intro p s hd hs hp
    exact congrArg Host.Outcome.next ((flushComplete_held hd hs rfl).trans (by rw [if_neg (Nat.not_lt.mpr hp)]))
  case refine_4 =>
    intro p s h
    exact congrArg Host.Outcome.next (flushComplete_idle h)
  case refine_5 =>
    intro p s hs
    exact congrArg Host.Outcome.next (if_neg hs)
  case refine_6 =>
    intro p s hs hp
    exact congrArg Host.Outcome.next ((portReturnEnd_returning hs rfl).trans (if_pos hp))
  case refine_7 =>
    intro p s hs hp
    exact congrArg Host.Outcome.next ((portReturnEnd_returning hs rfl).trans (if_neg (Nat.not_lt.mpr hp)))
  case refine_8 =>
    intro s
    rfl
  case refine_9 =>
    intro s h
    exact congrArg Host.Outcome.next ((cautiousConditionEnd_supply s).trans (if_neg (by rw [h]; exact Bool.false_ne_true)))
  case refine_10 =>
    intro s h
    exact congrArg Host.Outcome.next ((cautiousConditionEnd_supply s).trans (if_pos h))
  case refine_11 =>
    intro s h
    exact congrArg Host.Outcome.next (cautiousConditionEnd_pace h)
  case refine_12 =>
    intro s n hn h
    refine congrArg Host.Outcome.next (cautiousConditionEnd_pace_stands fun hall => ?_)
    obtain ⟨hrep, hpace⟩ := hall n hn
    obtain h | h := h
    · exact Bool.noConfusion (hrep.symm.trans h)
    · exact absurd hpace (Nat.not_le.mpr h)
  case refine_13 =>
    intro p s hp
    exact congrArg Host.Outcome.next (if_pos hp)

end Sys2Proof

/-! SCHEDULER_CHOOSE and CUT_THROUGH_START (R155, R171, R179, R181, R229, R366): one equation per case of the choice, and of the two
events. -/

namespace Sys2Proof.Machine

/-! ### One turn of the choice (R171, R179, R181) -/

section chooses
variable {s : State} {p n : Nat} {c : Copy} {ex : Bool} {f : Frame}

/-- With no copy eligible, the preempted copy that waits resumes. -/
theorem State.chooseLoop_resumes {r : Copy} (hn : s.nextCopy p = none) (hr : s.resumes p = some r) :
    s.chooseLoop p (n + 1) = s.resumeCopy r := by
  simp only [State.chooseLoop, hn, hr]

/-- With no copy eligible and none to resume, the choice ends. -/
theorem State.chooseLoop_ends (hn : s.nextCopy p = none) (hr : s.resumes p = none) : s.chooseLoop p (n + 1) = s := by
  simp only [State.chooseLoop, hn, hr]

/-- An eligible copy that meets a discard is discarded, and the choice goes on. -/
theorem State.chooseLoop_discards {d : Discard} (hn : s.nextCopy p = some (c, ex)) (hf : s.frame c.frame = some f)
    (hd : s.discardOf c f = some d) : s.chooseLoop p (n + 1) = (s.discard c f d).chooseLoop p n := by
  simp only [State.chooseLoop, hn, hf, hd]

/-- An eligible copy that meets no discard is taken where no preempted one waits to resume. -/
theorem State.chooseLoop_takes (hn : s.nextCopy p = some (c, ex)) (hr : s.resumes p = none) (hf : s.frame c.frame = some f)
    (hd : s.discardOf c f = none) : s.chooseLoop p (n + 1) = s.takeCopy c f ex := by
  simp only [State.chooseLoop, hn, hr, hf, hd]

/-- A preempted copy that waits to resume goes before a preemptable one, and after an express one (R179). -/
theorem State.chooseLoop_resumesFirst {r : Copy} (hn : s.nextCopy p = some (c, ex)) (hr : s.resumes p = some r)
    (hf : s.frame c.frame = some f) (hd : s.discardOf c f = none) :
    s.chooseLoop p (n + 1) = if s.preemptable p (c.svc % 8) = true then s.resumeCopy r else s.takeCopy c f ex := by
  simp only [State.chooseLoop, hn, hr, hf, hd]

end chooses

/-! ### SCHEDULER_CHOOSE (R126, R181, R229, R366) -/

/-- Port p decides: it is in service, and no T1S port in LISTEN (R229). -/
def State.decides (s : State) (p : Nat) : Prop :=
  s.inService p = true ∧ (isTP p = false ∨ s.get Reg.T1S_STAT_STATE (p - 24) ≠ 1)

/-- `State.decides` is the negation of the guard at the head of `schedulerChoose`. -/
theorem State.not_idle_of_decides {s : State} {p : Nat} (h : s.decides p) :
    ¬ (!s.inService p || (isTP p && s.get Reg.T1S_STAT_STATE (p - 24) == 1)) = true := by
  obtain ⟨hs, ht | ht⟩ := h
  · simp [hs, ht]
  · simp [hs, ht]

/-- A port that decides, with no keep-alive and a slice in service to read from, brings its credits to the present and chooses. -/
theorem schedulerChoose_chooses {p : Nat} {z : State} (hd : z.fabNow.decides p) (hs : z.fabNow.slicesIn ≠ [])
    (hk : z.fabNow.kaHolds p = false) :
    schedulerChoose p z = (z.fabNow.creditSync p).chooseLoop p (z.fabNow.clr.copies.length + 1) := by
  have hs' : (!z.fabNow.slicesIn.isEmpty) = true := by simp [hs]
  rw [schedulerChoose, if_neg (State.not_idle_of_decides hd), if_neg (by simp [hk]), if_pos hs']

/-- A port out of service chooses nothing, nor does any port while no slice is in service (assumption log 1). -/
theorem schedulerChoose_idle {p : Nat} {z : State}
    (h : z.fabNow.inService p = false ∨ (z.fabNow.slicesIn = [] ∧ z.fabNow.kaHolds p = false)) :
    schedulerChoose p z = z.fabNow := by
  obtain hs | ⟨hs, hk⟩ := h
  · exact if_pos (by simp [hs])
  · simp [schedulerChoose, hs, hk]

/-- A keep-alive that waits holds the copies of its Ethernet port. -/
theorem State.kaHolds_of_waiting {s : State} {p : Nat} {b : List Byte} (hp : p < 32) (hb : (s.mac p).ka = some b) :
    s.kaHolds p = true := by
  simp [State.kaHolds, hp, hb]

/-- A keep-alive that waits begins where neither another nor a copy is being sent (R366). -/
theorem State.kaStart_begins {s : State} {p : Nat} {b : List Byte} (hb : (s.mac p).ka = some b) (ht : (s.mac p).kaTx = none)
    (hc : s.clr.copies.any (fun c => c.port == p && c.st == .sending) = false) :
    s.kaStart p = (s.macSet p { s.mac p with ka := none, kaTx := some b }).stampTx p b := by
  rw [State.kaStart, hb]
  exact if_neg (by simp [ht, hc])

/-- A keep-alive that waits goes before any copy (R366). -/
theorem schedulerChoose_keepAlive {p : Nat} {z : State} (hd : z.fabNow.decides p) (hk : z.fabNow.kaHolds p = true) :
    schedulerChoose p z = z.fabNow.kaStart p := by
  rw [schedulerChoose, if_neg (State.not_idle_of_decides hd), if_pos hk]

/-! ### CUT_THROUGH_START (R155) -/

/-- The copy c of frame f may start at port p: START bytes of its frame are held, or all of it (R155), no pause and no gate holds it
(R200, R222), a slice is in service, and no keep-alive comes first (R366). -/
def State.mayStart (s : State) (p : Nat) (c : Copy) (f : Frame) : Prop :=
  (f.whole = true ∨ s.startBytes f.port p ≤ s.held c f) ∧ s.pauseLets p (c.svc % 8) = true ∧ s.gateLets c = true ∧
  s.slicesIn ≠ [] ∧ s.kaHolds p = false

/-- `State.mayStart` says that the guard of `cutThroughStart` does not hold the copy. -/
theorem State.mayStart_iff (s : State) (p : Nat) (c : Copy) (f : Frame) :
    ((!f.whole && decide (s.held c f < s.startBytes f.port p)) || !s.pauseLets p (c.svc % 8) || !s.gateLets c ||
      s.slicesIn.isEmpty || s.kaHolds p) = false ↔ s.mayStart p c f := by
  simp only [State.mayStart, Bool.or_eq_false_iff, Bool.and_eq_false_iff, Bool.not_eq_false', decide_eq_false_iff_not,
    Nat.not_lt, List.isEmpty_eq_false_iff, and_assoc]

/-- The copy that waits for START, once it may start: it begins, or is discarded and charged nothing where its start is barred. -/
theorem cutThroughStart_starts {p : Nat} {z : State} {c : Copy} {f : Frame} (hn : z.fabNow.nextStart p = some c)
    (hf : z.fabNow.frame c.frame = some f) (hm : z.fabNow.mayStart p c f) :
    cutThroughStart p z = match z.fabNow.startBar c f with
      | some d => (z.fabNow.chargeTo c 0).discard c f d
      | none => z.fabNow.startCopy c f := by
  simp only [cutThroughStart, hn, hf]
  exact if_neg (ne_true_of_eq_false ((z.fabNow.mayStart_iff p c f).mpr hm))

/-- Until the copy may start, it waits. -/
theorem cutThroughStart_waits {p : Nat} {z : State} {c : Copy} {f : Frame} (hn : z.fabNow.nextStart p = some c)
    (hf : z.fabNow.frame c.frame = some f) (hm : ¬ z.fabNow.mayStart p c f) : cutThroughStart p z = z.fabNow := by
  simp only [cutThroughStart, hn, hf]
  exact if_pos (eq_true_of_ne_false (mt (z.fabNow.mayStart_iff p c f).mp hm))

/-- A port at which no copy may start next (assumption log 1). -/
theorem cutThroughStart_idle {p : Nat} {z : State} (hn : z.fabNow.nextStart p = none) : cutThroughStart p z = z.fabNow := by
  simp only [cutThroughStart, hn]

end Sys2Proof.Machine

namespace Sys2Proof
open Machine

/-- Settles O13: a port that decides makes one turn of the choice on its present credits, and the turn's cases are the equations
above; so are those of a keep-alive, of an idle port, and of the copy that waits for START. -/
theorem schedulersTakeTheEligibleCopy : Obligations.SchedulersTakeTheEligibleCopy := by
  unfold Obligations.SchedulersTakeTheEligibleCopy
  refine ⟨?_, ?_, ?_, ?_, ?_, ?_, ?_, ?_, ?_, ?_⟩
  case refine_1 =>
    rintro p z _ rfl hs hsl hk ht hn hr
    exact congrArg Host.Outcome.next
      ((schedulerChoose_chooses ⟨hs, ht⟩ hsl hk).trans (State.chooseLoop_ends hn hr))
  case refine_2 =>
    rintro p z _ c rfl hs hsl hk ht hn hr
    exact congrArg Host.Outcome.next
      ((schedulerChoose_chooses ⟨hs, ht⟩ hsl hk).trans (State.chooseLoop_resumes hn hr))
  case refine_3 =>
    rintro p z _ c ex f rfl hs hsl hk ht hn hr hf hd
    exact congrArg Host.Outcome.next
      ((schedulerChoose_chooses ⟨hs, ht⟩ hsl hk).trans (State.chooseLoop_takes hn hr hf hd))
  case refine_4 =>
    rintro p z _ c r ex f rfl hs hsl hk ht hn hr hf hd
    exact congrArg Host.Outcome.next
      ((schedulerChoose_chooses ⟨hs, ht⟩ hsl hk).trans (State.chooseLoop_resumesFirst hn hr hf hd))
  case refine_5 =>
    rintro p z _ c ex f d rfl hs hsl hk ht hn hf hd
    exact congrArg Host.Outcome.next
      ((schedulerChoose_chooses ⟨hs, ht⟩ hsl hk).trans (State.chooseLoop_discards hn hf hd))
  case refine_6 =>
    rintro p z _ rfl h
    exact congrArg Host.Outcome.next (schedulerChoose_idle h)
  case refine_7 =>
    rintro p z _ b rfl hp hs ht hb hx hc
    exact congrArg Host.Outcome.next
      ((schedulerChoose_keepAlive ⟨hs, ht⟩ (State.kaHolds_of_waiting hp hb)).trans (State.kaStart_begins hb hx hc))
  case refine_8 =>
    rintro p z _ c f rfl hn hf hb hp hg hsl hk
    exact congrArg Host.Outcome.next (cutThroughStart_starts hn hf ⟨hb, hp, hg, hsl, hk⟩)
  case refine_9 =>
    rintro p z _ c f rfl hn hf h
    refine congrArg Host.Outcome.next (cutThroughStart_waits hn hf fun ⟨hb, hp, hg, hsl, hk⟩ => ?_)
    obtain ⟨hw, hlt⟩ | h | h | h | h := h
    · exact hb.elim (fun hw' => Bool.noConfusion (hw.symm.trans hw')) (fun hle => absurd hlt (Nat.not_lt.mpr hle))
    · exact Bool.noConfusion (h.symm.trans hp)
    · exact Bool.noConfusion (h.symm.trans hg)
    · exact hsl h
    · exact Bool.noConfusion (h.symm.trans hk)
  case refine_10 =>
    rintro p z _ rfl hn
    exact congrArg Host.Outcome.next (cutThroughStart_idle hn)

end Sys2Proof

/-! Time (R184–R187): fields with an element per domain or pin, and one equation per case of the commands of the time base. -/

namespace Sys2Proof.Machine

/-! ### Fields with one element per domain or pin -/

/-- A write of one element of a field leaves the same element of a field that shares no cell with it. -/
theorem State.get_put_element {n : Nat} {k : Fin n} {s : State} {f g : Fld} {v : Nat}
    (h : ∀ k : Fin n, g.keep ≠ f.keep ∨ g.key 0 k 0 ≠ f.key 0 k 0) : (s.put f v 0 k).get g 0 k = s.get g 0 k :=
  State.get_put_other _ _ _ _ _ _ _ _ _ _ (h k)

/-- An element of a field that a map holds reads what was written to it. -/
theorem State.get_put_elementHeld {s : State} {f : Fld} {v j : Nat} (h : f.keep = .T ∨ f.keep = .V) :
    (s.put f v 0 j).get f 0 j = v % 2 ^ f.width :=
  State.get_put _ _ _ _ _ _ (.inr h)

/-! ### What the time component leaves -/

section timSet
variable (s : State) (f : Tim → Tim)
@[simp] theorem State.timSet_timOn : (s.timSet f).timOn = s.timOn := rfl
@[simp] theorem State.timSet_rate (d : Nat) : (s.timSet f).rate d = s.rate d := rfl
@[simp] theorem State.timSet_domEn (d : Nat) : (s.timSet f).domEn d = s.domEn d := rfl
@[simp] theorem State.clkSet_domEn (d e v : Nat) : (s.clkSet d v).domEn e = s.domEn e := rfl
@[simp] theorem State.clkSet_rate (d e v : Nat) : (s.clkSet d v).rate e = s.rate e := rfl
@[simp] theorem State.goodSet_get (d n : Nat) (g : Fld) (a b c : Nat) : (s.goodSet d n).get g a b c = s.get g a b c := rfl
end timSet

/-! ### TIME_BASE_TICK (R184, R186) -/

/-- With every frame whole or lost, nothing arrives. -/
theorem State.arriveAll_idle {s : State} (h : ∀ f ∈ s.clr.frames, f.whole = true ∨ f.lost.isSome = true) : s.arriveAll = s := by
  have hnone : s.clr.frames.filter (fun f => !f.whole && f.lost.isNone) = [] := by
    refine List.filter_eq_nil_iff.mpr fun f hf => ?_
    obtain hw | hl := h f hf
    · simp [hw]
    · simp [Option.isSome_iff_ne_none.mp hl]
  rw [State.arriveAll, hnone]
  rfl

/-- A time base that does not run counts elapsed time alone (assumption log 13). -/
theorem timeBaseTick_off {s : State} (h : s.timOn = false) :
    timeBaseTick s = ({ s with tim := { s.tim with elapsed := tickBy (if s.timHere = true then s.rate 0 else 0) s.tim.elapsed } } :
      State).fabNow.arriveAll := by
  simp only [timeBaseTick, State.timSet_timOn, h, Bool.not_false, if_true]
  rfl

/-- The tick of a time base that runs: elapsed time, and the clock of each enabled domain, by its own rate. -/
def State.ticked (s : State) : State :=
  { s with tim := { s.tim with
      elapsed := tickBy (s.rate 0) s.tim.elapsed,
      clk0 := if s.domEn 0 = true then tickBy (s.rate 0) s.tim.clk0 else s.tim.clk0,
      clk1 := if s.domEn 1 = true then tickBy (s.rate 1) s.tim.clk1 else s.tim.clk1 } }

theorem timeBaseTick_on {s : State} (h : s.timOn = true) : timeBaseTick s = s.ticked.fabNow.arriveAll := by
  have hh : s.timHere = true := (Bool.and_eq_true_iff.mp h).1
  simp only [timeBaseTick, State.timSet_timOn, h, hh, Bool.not_true, Bool.false_eq_true, if_false, if_true, List.foldl_cons,
    List.foldl_nil, State.ticked]
  by_cases h0 : s.domEn 0 = true <;> by_cases h1 : s.domEn 1 = true <;>
    simp only [State.timSet_domEn, State.clkSet_domEn, State.timSet_rate, State.clkSet_rate, h0, h1, if_true, if_false,
      Bool.false_eq_true] <;> rfl

/-! ### The states of a domain (R185, R187) -/

/-- PTP_CFG is read from the applied Last: no register but LST_STAT.LOADED moves it. -/
theorem State.put_lockThr {n : Nat} {k : Fin n} {s : State} {f : Fld} {v d : Nat}
    (h : ∀ k : Fin n, Reg.LST_STAT_LOADED.keep ≠ f.keep ∨ Reg.LST_STAT_LOADED.key 0 0 0 ≠ f.key 0 k 0) :
    (s.put f v 0 k).lockThr d = s.lockThr d := by
  have hl : (s.put f v 0 k).flag Reg.LST_STAT_LOADED = s.flag Reg.LST_STAT_LOADED :=
    congrArg (· == 1) (State.get_put_other _ _ _ _ _ _ _ _ _ _ (h k))
  have hsec : ∀ t, (s.put f v 0 k).section_ t = s.section_ t := fun t => by
    simp only [State.section_, hl, State.put_lst]
  have hbytes : (s.put f v 0 k).ptpBytes = s.ptpBytes := by
    simp only [State.ptpBytes, hsec, State.put_lst, State.secByte]
  simp only [State.lockThr, State.ptp, hbytes]

theorem domainStep_on {d ns : Nat} {s : State} (h : s.timOn = true) :
    domainStep d ns s =
      if s.domEn d = false then s
      else
        let u := (s.clkSet d (ns * 2 ^ 32)).goodSet d 0
        let v := ((u.put Reg.TIM_DOM_STAT_STEPS (min 255 (u.get Reg.TIM_DOM_STAT_STEPS 0 d + 1)) 0 d).domState d 1).raise
          Reg.TIM_IRQ_STEP 0 d
        if v.flag Reg.TIM_DOM_STAT_GM 0 d = true then v.domState d 2 else v := by
  cases hd : s.domEn d
  case false => simp [domainStep, hd]
  case true => simp only [domainStep, h, hd]; rfl

/-- RATE is frozen in HOLDOVER alone. -/
theorem rateAdjust_stores {d : Nat} {r : Int} {s : State} (h : s.timHere = true) (hs : s.get Reg.TIM_DOM_STAT_STATE 0 d ≠ 3) :
    rateAdjust d r s = s.put Reg.TIM_RATE_RATE (ofSigned 32 (clampInt (-4294967) 4294967 r)) 0 d :=
  if_neg (by simp [h, hs])

theorem rateAdjust_holdover {d : Nat} {r : Int} {s : State} (hs : s.get Reg.TIM_DOM_STAT_STATE 0 d = 3) : rateAdjust d r s = s :=
  if_pos (by simp [hs])

/-- The Sync after seven good ones, in ACQUIRING: it locks the domain, or the count begins again. -/
theorem syncRx_eighth {d : Fin 2} {o : Int} {s u : State} (h : s.timOn = true) (hg : s.flag Reg.TIM_DOM_STAT_GM 0 d.val = false)
    (hs : s.get Reg.TIM_DOM_STAT_STATE 0 d.val = 1) (hn : s.goodSyncs d.val = 7)
    (hu : u = s.put Reg.TIM_OFFSET_OFFSET (ofSigned 32 (clampInt (-2147483648) 2147483647 o)) 0 d.val) :
    syncRx d.val o s = if s.domEn d.val = false then s else if o.natAbs ≤ s.lockThr d.val
      then (u.goodSet d.val 8).domState d.val 2 else u.goodSet d.val 0 := by
  subst hu
  cases hd : s.domEn d.val
  case false => simp [syncRx, hd]
  case true =>
    have hstate : ∀ v, (s.put Reg.TIM_OFFSET_OFFSET v 0 d.val).get Reg.TIM_DOM_STAT_STATE 0 d.val = 1 := fun v =>
      (State.get_put_element (by decide)).trans hs
    have hcount : ∀ v, (s.put Reg.TIM_OFFSET_OFFSET v 0 d.val).goodSyncs d.val = 7 := fun _ => hn
    have hthr : ∀ v, (s.put Reg.TIM_OFFSET_OFFSET v 0 d.val).lockThr d.val = s.lockThr d.val := fun v =>
      State.put_lockThr (by decide)
    by_cases ho : o.natAbs ≤ s.lockThr d.val <;>
      simp [syncRx, h, hd, hg, ho, hstate, hcount, hthr]

theorem syncReceiptTimeout_locked {d : Nat} {s : State} (hs : s.get Reg.TIM_DOM_STAT_STATE 0 d = 2)
    (hg : s.flag Reg.TIM_DOM_STAT_GM 0 d = false) : syncReceiptTimeout d s = (s.goodSet d 0).domState d 3 :=
  if_pos (by simp [hs, hg])

theorem syncReceiptTimeout_idle {d : Nat} {s : State} (hs : s.get Reg.TIM_DOM_STAT_STATE 0 d < 2) : syncReceiptTimeout d s = s :=
  if_neg (by simp [Nat.ne_of_lt hs])

theorem holdoverExpiry_holdover {d : Nat} {s : State} (hs : s.get Reg.TIM_DOM_STAT_STATE 0 d = 3) :
    holdoverExpiry d s = (s.goodSet d 0).domState d 0 := if_pos hs

theorem holdoverExpiry_idle {d : Nat} {s : State} (hs : s.get Reg.TIM_DOM_STAT_STATE 0 d < 2) : holdoverExpiry d s = s :=
  if_neg (by omega)

theorem grandmasterChange_gained {d : Nat} {b : Bool} {s : State} (h : s.timOn = true) :
    grandmasterChange d true b s = if s.domEn d = false then s else (s.put Reg.TIM_DOM_STAT_GM 1 0 d).domState d 2 := by
  cases hd : s.domEn d
  case false => simp [grandmasterChange, hd]
  case true => simp [grandmasterChange, h, hd, b2n]

/-- A domain without a gPTP port that gives up its role falls FREE. -/
theorem grandmasterChange_givenUp {d : Nat} {s : State} (h : s.timOn = true) (hg : s.flag Reg.TIM_DOM_STAT_GM 0 d = true) :
    grandmasterChange d false true s =
      if s.domEn d = false then s else ((s.put Reg.TIM_DOM_STAT_GM 0 0 d).goodSet d 0).domState d 0 := by
  cases hd : s.domEn d
  case false => simp [grandmasterChange, hd]
  case true => simp [grandmasterChange, h, hd, hg, b2n]

end Sys2Proof.Machine

namespace Sys2Proof
open Machine

/-- Settles O45: a tick moves the clocks that count and then what arrives; each event of a domain has one equation in the state
that admits it, and changes nothing elsewhere. -/
theorem domainsKeepTime : Obligations.DomainsKeepTime := by
  unfold Obligations.DomainsKeepTime
  refine ⟨?_, ?_, ?_, ?_, ?_, ?_, ?_, ?_, ?_, ?_, ?_⟩
  case refine_1 =>
    rintro s _ h rfl
    refine ⟨congrArg Host.Outcome.next (timeBaseTick_on h), fun hw => congrArg Host.Outcome.next ?_⟩
    exact (timeBaseTick_on h).trans (State.arriveAll_idle hw)
  case refine_2 =>
    rintro s _ h rfl
    exact congrArg Host.Outcome.next (timeBaseTick_off h)
  case refine_3 =>
    rintro d n s _ h rfl
    exact congrArg Host.Outcome.next (domainStep_on h)
  case refine_4 =>
    intro d r s h hs
    exact congrArg Host.Outcome.next (rateAdjust_stores h hs)
  case refine_5 =>
    intro d r s hs
    exact congrArg Host.Outcome.next (rateAdjust_holdover hs)
  case refine_6 =>
    intro d o s u h hg hs hn hu
    exact congrArg Host.Outcome.next (syncRx_eighth h hg hs hn hu)
  case refine_7 =>
    intro d s hs hg
    exact congrArg Host.Outcome.next (syncReceiptTimeout_locked hs hg)
  case refine_8 =>
    intro d s hs
    exact congrArg Host.Outcome.next (holdoverExpiry_holdover hs)
  case refine_9 =>
    intro d s hs
    exact ⟨congrArg Host.Outcome.next (syncReceiptTimeout_idle hs), congrArg Host.Outcome.next (holdoverExpiry_idle hs)⟩
  case refine_10 =>
    intro d b s h
    exact congrArg Host.Outcome.next (grandmasterChange_gained h)
  case refine_11 =>
    intro d s h hg
    exact congrArg Host.Outcome.next (grandmasterChange_givenUp h hg)

end Sys2Proof

/-! The time pins (R205–R210): the captures of an event pin, and one equation per case of the commands of the pins. -/

namespace Sys2Proof.Machine

/-! ### The SYNC_IN follower (R205–R207) -/

/-- EN from 0 to 1: the follower takes its settings and follows. -/
theorem State.syncEn_starts {s : State} (h : s.flag Reg.TIM_SYNC_CFG_EN = false) :
    s.syncEn true = ((s.put Reg.TIM_SYNC_CFG_EN 1).timSet (fun t =>
      { t with syncDomain := s.get Reg.TIM_SYNC_CFG_DOMAIN, syncPol := s.get Reg.TIM_SYNC_CFG_POL,
               syncPeriod := s.get Reg.TIM_SYNC_PERIOD_PERIOD, syncTarget := none, syncMissed := 0, syncRest := 0 })).put
      Reg.TIM_SYNC_STAT_STATE 1 := by
  simp (disch := decide) only [State.syncEn, h, Bool.not_false, Bool.and_self, if_true, State.syncTakeCfg, State.syncTakePeriod,
    State.timSet_get, State.get_put_apart]
  rfl

/-- EN from 1 to 0 where the offset is 0: the follower is OFF at once (assumption log 52). -/
theorem State.syncEn_stops {s : State} (h : s.flag Reg.TIM_SYNC_CFG_EN = true) (ho : s.tim.syncO = 0) :
    s.syncEn false = (((s.put Reg.TIM_SYNC_CFG_EN 0).timSet (fun t => { t with syncTarget := none, syncRest := 0 })).put
      Reg.TIM_SYNC_STAT_STATE 0) := by
  simp only [State.syncEn, h, Bool.false_and, Bool.false_eq_true, if_false, Bool.not_false, Bool.and_self, if_true,
    State.timSet_tim, State.put_tim, ho]
  rfl

theorem syncEnable_granted {m : Master} {en : Bool} {z : State} (h : (z.sent m).grants m pgTIM) :
    exec (.syncEnable m en) z = .next ((z.sent m).syncEn en) :=
  congrArg Host.Outcome.next (z.direct_of_grants m pgTIM 0x0CC (fun s => s.syncEn en) h)

/-- An edge of the other polarity, or one outside FOLLOWING (assumption log 1). -/
theorem syncInEdge_idle {r : Bool} {s : State}
    (h : s.timOn = false ∨ s.get Reg.TIM_SYNC_STAT_STATE ≠ 1 ∨ r = (s.tim.syncPol == 1)) : syncInEdge r s = s := by
  refine if_pos ?_
  obtain h | h | h := h <;> simp [h, syFOLLOWING]

/-- An edge within a quarter of the period, the first since the boundary: it sets the target, as far as the offset may go. -/
theorem syncInEdge_accepted {r : Bool} {s : State} {p e o : Int} (h : s.timOn = true) (hs : s.get Reg.TIM_SYNC_STAT_STATE = 1)
    (hr : r = !(s.tim.syncPol == 1)) (hp : p = max 1 (s.tim.syncPeriod : Int))
    (he : e = (s.dom s.tim.syncDomain : Int) - toSigned 16 (s.get Reg.TIM_SYNC_DELAY_DELAY))
    (ho : o = (e - s.tim.syncO - s.syncBase + p / 2) % p - p / 2) (hq : 4 * (o.natAbs : Int) ≤ p) (ht : s.tim.syncTarget = none)
    (hl : (s.tim.syncO + o).natAbs ≤ 250000) :
    syncInEdge r s = s.timSet (fun t => { t with syncTarget := some (s.tim.syncO + o) }) := by
  unfold syncInEdge
  rw [if_neg (by subst hr; simp [h, hs, syFOLLOWING])]
  extract_lets per edge off ignore target
  have hoff : off = o := by subst hp he ho; rfl
  have htarget : target = s.tim.syncO + o := congrArg (s.tim.syncO + ·) hoff
  have hper : per = p := hp.symm
  have hnear : (decide (p < 4 * o.natAbs) || s.tim.syncTarget.isSome) = false := by
    rw [ht, Option.isSome_none, Bool.or_false]
    exact decide_eq_false (Int.not_lt.mpr hq)
  rw [hoff, htarget, hper, hnear, if_neg Bool.false_ne_true, if_neg (Nat.not_lt.mpr hl)]

/-- A boundary after an accepted edge: the offset moves by what is due, and what is left of the change waits. -/
theorem syncPeriodBoundary_hit {s : State} {x : Int} (h : s.timOn = true) (hs : s.get Reg.TIM_SYNC_STAT_STATE = 1)
    (ht : s.tim.syncTarget = some x) :
    syncPeriodBoundary s = (s.syncSetO (s.tim.syncO + s.syncDue)).timSet (fun t =>
      { t with syncTarget := none, syncRest := s.syncWant - s.syncDue, syncMissed := 0 }) := by
  simp only [syncPeriodBoundary, h, hs, ht, syFOLLOWING, Bool.not_true, Bool.false_eq_true, if_false, if_true, Option.isSome_some]
  rfl

/-- A boundary without an edge counts it missed, and at MISS of them the follower loses. -/
theorem syncPeriodBoundary_missed {s u : State} (h : s.timOn = true) (hs : s.get Reg.TIM_SYNC_STAT_STATE = 1)
    (ht : s.tim.syncTarget = none)
    (hu : u = (s.syncSetO (s.tim.syncO + s.syncDue)).timSet (fun t =>
      { t with syncTarget := none, syncRest := s.syncWant - s.syncDue })) :
    syncPeriodBoundary s = if s.get Reg.TIM_SYNC_CFG_MISS ≤ s.tim.syncMissed + 1 then u.syncLoses
      else u.timSet (fun t => { t with syncMissed := s.tim.syncMissed + 1 }) := by
  subst hu
  have hmiss : ∀ (o : Int) (f : Tim → Tim), ((s.syncSetO o).timSet f).get Reg.TIM_SYNC_CFG_MISS = s.get Reg.TIM_SYNC_CFG_MISS :=
    fun _ _ => State.get_put_apart (by decide)
  have hcount : ∀ o : Int, (s.syncSetO o).tim.syncMissed = s.tim.syncMissed := fun _ => rfl
  simp only [syncPeriodBoundary, h, hs, ht, syFOLLOWING, Bool.not_true, Bool.false_eq_true, if_false, if_true, Option.isSome_none,
    hmiss, State.timSet_tim, hcount]

/-! ### PPS_OUT (R208) -/

theorem ppsPulse_starts {s : State} (h : s.timOn = true) (he : s.flag Reg.TIM_PPS_EN = true)
    (hd : s.get Reg.TIM_DOM_STAT_STATE 0 (s.get Reg.TIM_PPS_DOMAIN) ≠ 0) :
    ppsPulse s = s.timSet (fun t => { t with ppsAt := some s.now }) :=
  if_pos (by simp [h, he, hd])

theorem ppsPulse_idle {s : State} (h : s.timOn = false ∨ s.flag Reg.TIM_PPS_EN = false ∨
    s.get Reg.TIM_DOM_STAT_STATE 0 (s.get Reg.TIM_PPS_DOMAIN) = 0) : ppsPulse s = s :=
  if_neg (by obtain h | h | h := h <;> simp [h])

/-! ### Captures of EVT_IN (R209) -/

/-- A pin that takes both edges: one that lasts joins the captures, or is counted where 16 are held. -/
theorem evtInEdge_taken {k w : Nat} {s : State} (h : s.timOn = true) (he : s.flag Reg.TIM_EVT_CFG_EN 0 k = true)
    (hd : s.get Reg.TIM_EVT_CFG_EDGE 0 k = 3) (hf : 2 * s.get Reg.TIM_EVT_CFG_FILTER 0 k ≤ w) :
    evtInEdge k true w s = if 16 ≤ (s.evts k).length then (s.inc Reg.TIM_EVT_LOST_COUNT 1 0 k).raise Reg.TIM_IRQ_EVT_OVF
    else (s.timSet (fun x => { x with evt := x.evt ++ [(k, s.dom (s.get Reg.TIM_EVT_CFG_DOMAIN 0 k), true)] })).raise
      Reg.TIM_IRQ_EVT 0 k :=
  if_neg (by simp [h, he, hd, hf])

/-- Removing the first element that satisfies p drops the head of those that do. -/
theorem filter_dropFirst {α : Type} (p : α → Bool) (l : List α) : (dropFirst p l).filter p = (l.filter p).drop 1 := by
  induction l with
  | nil => rfl
  | cons x r ih =>
    cases hx : p x
    case false => simp [dropFirst, hx, ih]
    case true => simp [dropFirst, hx]

/-- The word of an event pin is of 32 bits: a time below 1 s, the edge and VALID. -/
theorem State.evtWord_lt (s : State) (k : Nat) : s.evtWord k < 2 ^ 32 := by
  unfold State.evtWord
  split
  case h_1 _ t r _ =>
    have hr : b2n r ≤ 1 := by cases r <;> decide
    omega
  case h_2 => decide

theorem fieldsAt_evtNs (k : Fin 4) : fieldsAt pgTIM (0x100 + 16 * k.val) =
    [(Reg.TIM_EVT_NS_NS, k.val), (Reg.TIM_EVT_NS_RISING, k.val), (Reg.TIM_EVT_NS_VALID, k.val)] := by
  revert k; decide

/-- A register of three fields reads the sum of their values, each at its lowest bit. -/
theorem State.readWord_three {s : State} {m : Master} {page off a b c : Nat} {f g h : Fld}
    (hf : fieldsAt page off = [(f, a), (g, b), (h, c)]) (ht : pageType page ≠ 0x0C ∧ pageType page ≠ 0x09) :
    s.readWord m page off =
      s.fieldValue m page f a * 2 ^ f.lo + s.fieldValue m page g b * 2 ^ g.lo + s.fieldValue m page h c * 2 ^ h.lo := by
  simp [State.readWord, ht.1, ht.2, hf]

/-- TIM_EVT_NS reads the word of its pin. -/
theorem State.readWord_evtNs (s : State) (m : Master) (k : Fin 4) :
    s.readWord m pgTIM (0x100 + 16 * k.val) = s.evtWord k.val := by
  have hns : s.fieldValue m pgTIM Reg.TIM_EVT_NS_NS k.val = s.evtWord k.val % 2 ^ 30 % 2 ^ 30 := rfl
  have hrising : s.fieldValue m pgTIM Reg.TIM_EVT_NS_RISING k.val = bits (s.evtWord k.val) 30 1 % 2 ^ 1 := rfl
  have hvalid : s.fieldValue m pgTIM Reg.TIM_EVT_NS_VALID k.val = bits (s.evtWord k.val) 31 1 % 2 ^ 1 := rfl
  obtain ⟨h0, h30, h31⟩ : Reg.TIM_EVT_NS_NS.lo = 0 ∧ Reg.TIM_EVT_NS_RISING.lo = 30 ∧ Reg.TIM_EVT_NS_VALID.lo = 31 := ⟨rfl, rfl, rfl⟩
  have hlt := s.evtWord_lt k.val
  rw [State.readWord_three (fieldsAt_evtNs k) (by decide), hns, hrising, hvalid, h0, h30, h31, bits, bits]
  omega

/-- An ordinary read of TIM_EVT_NS removes the oldest capture. -/
theorem State.readEffect_evtNs (s : State) (m : Master) (k : Fin 4) :
    s.readEffect m pgTIM (0x100 + 16 * k.val) = s.evtPop k.val := by
  rw [State.readEffect, fieldsAt_evtNs]
  rfl

theorem evtRead_served {m : Master} {k : Fin 4} {s : State} (h : s.serves m pgTIM) :
    evtRead m k.val s = { s.evtPop k.val with rd := AMap.ins s.rd m.code (s.evtWord k.val) } := by
  rw [evtRead, State.readCmd_served h.1 (State.readErr_of_serves h), State.readReg, State.readWord_evtNs, State.readEffect_evtNs]

/-- The oldest capture is removed, and its seconds are shown. -/
theorem State.evtPop_held {s : State} {k t : Nat} {r : Bool} (h : (s.evts k).head? = some (k, t, r)) :
    s.evtPop k = ((s.timSet (fun x => { x with evt := dropFirst (fun e => e.1 == k) x.evt })).put
      Reg.TIM_EVT_SEC_LO_SEC (t / 1000000000) 0 k).put Reg.TIM_EVT_SEC_HI_SEC (t / 1000000000 / 2 ^ 32) 0 k := by
  simp only [State.evtPop, h]

/-! ### TRG_OUT (R210) -/

theorem trgArm_granted {m : Master} {k : Fin 4} {en : Bool} {z : State} (h : (z.sent m).grants m pgTIM) :
    exec (.trgArm m k en) z = .next ((z.sent m).trgEn k.val en) :=
  congrArg Host.Outcome.next (z.direct_of_grants m pgTIM (0x140 + 16 * k.val) (fun s => s.trgEn k.val en) h)

theorem State.trgEn_disarms (s : State) (k : Nat) :
    s.trgEn k false = (s.put Reg.TIM_TRG_CFG_EN 0 0 k).timSet (fun t => { t with trg := AMap.del t.trg k }) := rfl

theorem State.trgEn_armed {s : State} {k : Nat} (h : s.flag Reg.TIM_TRG_CFG_EN 0 k = true) :
    s.trgEn k true = s.put Reg.TIM_TRG_CFG_EN 1 0 k := by
  simp only [State.trgEn, h, Bool.not_true, Bool.false_eq_true, if_false, if_true]
  rfl

/-- A one-shot whose start is at least 2 µs ahead is armed for it. -/
theorem State.trgEn_oneShot {s : State} {k : Fin 4} {d n h : Nat} (hw : s.flag Reg.TIM_TRG_CFG_EN 0 k.val = false)
    (hm : s.get Reg.TIM_TRG_CFG_MODE 0 k.val = 0) (hd : d = s.get Reg.TIM_TRG_CFG_DOMAIN 0 k.val)
    (hh : h = s.dom d / 1000000000 / 2 ^ 32)
    (hn : n = (h * 2 ^ 32 + s.get Reg.TIM_TRG_START_SEC_SEC 0 k.val) * 1000000000 + s.get Reg.TIM_TRG_START_NS_NS 0 k.val)
    (ht : s.dom d + 2000 ≤ n) :
    s.trgEn k.val true = ((s.put Reg.TIM_TRG_CFG_EN 1 0 k.val).timSet (fun t =>
      { t with trg := AMap.ins t.trg k.val ⟨0, d, s.get Reg.TIM_TRG_CFG_WIDTH 0 k.val,
          max 1 (s.get Reg.TIM_TRG_PERIOD_PERIOD 0 k.val), some n, none, false⟩ })).put Reg.TIM_TRG_CFG_LATE 0 0 k.val := by
  have hdom : ∀ e v, (s.put Reg.TIM_TRG_CFG_EN v 0 k.val).dom e = s.dom e := fun _ _ => rfl
  have hlate : ¬ n < s.dom d + 2000 := Nat.not_lt.mpr ht
  subst hh
  simp (disch := decide) only [State.trgEn, hw, Bool.not_true, Bool.false_eq_true, if_false, State.get_put_element, hm, ← hd, hdom,
    ← hn, Nat.zero_mod, if_true, hlate, decide_false, Bool.and_false]
  rfl

/-- A one-shot that is due pulses, ends, and raises TRG. -/
theorem trgEdge_oneShot {k t : Nat} {x : Trg} {s : State} (h : s.timOn = true) (hf : AMap.find s.tim.trg k = some x)
    (hx : x.next = some t) (hm : x.mode = 0) :
    trgEdge k s = (s.timSet (fun z => { z with trg := AMap.ins z.trg k { x with next := none, pulseAt := some s.now } })).raise
      Reg.TIM_IRQ_TRG 0 k := by
  simp [trgEdge, h, hf, hx, hm]

theorem trgEdge_disarmed {k : Nat} {s : State} (hf : AMap.find s.tim.trg k = none) : trgEdge k s = s := by
  simp [trgEdge, hf]

end Sys2Proof.Machine

namespace Sys2Proof
open Machine

/-- Settles O46: each event of a time pin has one equation in the state that admits it; a served read of a pin's captures returns
and removes the oldest. -/
theorem timePinsWork : Obligations.TimePinsWork := by
  unfold Obligations.TimePinsWork
  refine ⟨?_, ?_, ?_, ?_, ?_, ?_, ?_, ?_, ?_, ?_, ?_, ?_, ?_, ?_, ?_, ?_⟩
  case refine_1 =>
    rintro m z _ rfl hg he
    refine ⟨_, (syncEnable_granted hg).trans (congrArg Host.Outcome.next (State.syncEn_starts he)), ?_⟩
    exact ⟨State.get_put_apart (by decide) |>.trans (State.get_put_held (s := z.sent m) (by decide)), State.get_put_held (by decide),
      rfl, rfl, rfl, rfl, rfl, rfl⟩
  case refine_2 =>
    rintro m z _ rfl hg he ho
    refine ⟨_, (syncEnable_granted hg).trans (congrArg Host.Outcome.next (State.syncEn_stops he ho)), ?_⟩
    simp (disch := decide) only [State.get_put_apart, State.get_put_held, State.timSet_get]
    exact ⟨rfl, rfl, rfl⟩
  case refine_3 =>
    intro r s h
    exact congrArg Host.Outcome.next (syncInEdge_idle h)
  case refine_4 =>
    intro r s p e o h hs hr hp he ho hq ht hl
    exact congrArg Host.Outcome.next (syncInEdge_accepted h hs hr hp he ho hq ht hl)
  case refine_5 =>
    intro s x h hs ht
    exact congrArg Host.Outcome.next (syncPeriodBoundary_hit h hs ht)
  case refine_6 =>
    intro s u h hs ht hu
    exact congrArg Host.Outcome.next (syncPeriodBoundary_missed h hs ht hu)
  case refine_7 =>
    intro s h he hd
    exact congrArg Host.Outcome.next (ppsPulse_starts h he hd)
  case refine_8 =>
    intro s h
    exact congrArg Host.Outcome.next (ppsPulse_idle h)
  case refine_9 =>
    intro k w s h he hd hf hl
    exact congrArg Host.Outcome.next ((evtInEdge_taken h he hd hf).trans (if_neg (Nat.not_le.mpr hl)))
  case refine_10 =>
    intro k w s h he hd hf hl
    exact congrArg Host.Outcome.next ((evtInEdge_taken h he hd hf).trans (if_pos hl))
  case refine_11 =>
    intro m k t s h hc
    refine ⟨_, congrArg Host.Outcome.next (evtRead_served h), ?_⟩
    rw [State.evtPop_held hc]
    refine ⟨?_, filter_dropFirst _ _, ?_, rfl, rfl⟩
    · rw [AMap.find_ins_same, State.evtWord, hc]
      rfl
    · exact (State.get_put_element (by decide)).trans (State.get_put_elementHeld (by decide))
  case refine_12 =>
    rintro m k z _ rfl hg
    exact trgArm_granted hg
  case refine_13 =>
    rintro m k z _ rfl hg hw
    exact (trgArm_granted hg).trans (congrArg Host.Outcome.next (State.trgEn_armed hw))
  case refine_14 =>
    rintro m k z _ d n h rfl hg hw hm hd hh hn ht
    refine ⟨_, (trgArm_granted hg).trans (congrArg Host.Outcome.next (State.trgEn_oneShot hw hm hd hh hn ht)), ?_⟩
    refine ⟨AMap.find_ins_same _ _ _, ?_, State.get_put_elementHeld (f := Reg.TIM_TRG_CFG_LATE) (by decide), rfl, rfl⟩
    simp (disch := decide) only [State.get_put_element, State.timSet_get, State.get_put_elementHeld]
    rfl
  case refine_15 =>
    intro k x t s h hf hx hm
    exact congrArg Host.Outcome.next (trgEdge_oneShot h hf hx hm)
  case refine_16 =>
    intro k s hf
    exact congrArg Host.Outcome.next (trgEdge_disarmed hf)

end Sys2Proof

/-! Gate control lists (R194–R202): when a command begins a cycle, and one equation per case of the commands of a Lace. -/

namespace Sys2Proof.Machine

/-! ### A cycle that begins (R62, R194, R258) -/

/-- A command on port p that moves its count of cycles lets the CAN slots that follow the port take their new entries. -/
theorem State.cycleBegun_begins {p : Nat} {s t : State} (h : t.get Reg.LCE_CYCLES_COUNT p ≠ s.get Reg.LCE_CYCLES_COUNT p) :
    State.cycleBegun p s t = t.cycleSchedules p := if_neg h

theorem State.cycleBegun_none {p : Nat} {s t : State} (h : t.get Reg.LCE_CYCLES_COUNT p = s.get Reg.LCE_CYCLES_COUNT p) :
    State.cycleBegun p s t = t := if_pos h

/-- The count of cycles has wrapped to another value. -/
theorem succ_wrap_ne (n : Nat) : (n + 1) % 2 ^ 32 ≠ n := by omega

/-- The credits are not held in registers. -/
theorem State.creditSync_regs (s : State) (p : Nat) : (s.creditSync p).regs = s.regs := by
  refine keeps_foldl (P := fun u => u.regs = s.regs) (fun u v hu => ?_) rfl
  exact keeps_ite (P := fun u => u.regs = s.regs) hu hu

@[simp] theorem State.creditSync_get (s : State) (p : Nat) (g : Fld) (a b c : Nat) : (s.creditSync p).get g a b c = s.get g a b c := by
  rw [State.get, State.creditSync_regs]
  rfl

/-- Beginning an entry writes the entry and its gates. -/
theorem State.beginEntry_get {s : State} {p e a : Nat} {g : Fld}
    (h : [Reg.LCE_STAT_ENTRY, Reg.LCE_STAT_GATES].all (fun f => f.apart g) = true) : (s.beginEntry p e).get g a = s.get g a := by
  simp only [List.all_cons, List.all_nil, Bool.and_true, Bool.and_eq_true] at h
  obtain ⟨he, hg⟩ := h
  exact (State.get_put_apart hg).trans ((State.get_put_apart he).trans (s.creditSync_get p g a 0 0))

/-- A cycle that begins is counted; the count wraps. -/
theorem State.beginCycle_cycles (s : State) (p t : Nat) :
    (s.beginCycle p t).get Reg.LCE_CYCLES_COUNT p = (s.get Reg.LCE_CYCLES_COUNT p + 1) % 2 ^ 32 :=
  (State.beginEntry_get (by decide)).trans (State.get_put_held (by decide))

/-- A cause of cautious forwarding of a port is written, and its entries are counted. -/
theorem State.portCauseSet_get {s : State} {f g : Fld} {p a : Nat} {on : Bool} (hf : f.apart g = true)
    (he : Reg.MAC_CAUTIOUS_ENTRIES.apart g = true) : (s.portCauseSet f p on).get g a = s.get g a := by
  unfold State.portCauseSet
  extract_lets was t
  have ht : t.get g a = s.get g a := State.get_put_apart hf
  split
  · exact (State.get_put_apart he).trans ht
  · exact ht

/-- A Lace that comes to run begins no cycle by that alone. -/
theorem State.lceState_cycles (s : State) (p a : Nat) :
    (s.lceState p 2).get Reg.LCE_CYCLES_COUNT a = s.get Reg.LCE_CYCLES_COUNT a := by
  refine (State.portCauseSet_get (by decide) (by decide)).trans ((State.get_put_apart (by decide)).trans ?_)
  exact s.creditSync_get p _ a 0 0

/-- Installing a list begins no cycle by that alone. -/
theorem State.setOper_cycles (s : State) (p : Nat) (g : GateList) (a : Nat) :
    (s.setOper p g).get Reg.LCE_CYCLES_COUNT a = s.get Reg.LCE_CYCLES_COUNT a := by
  simp (disch := decide) only [State.setOper, State.preemptSync, State.get_put_apart, State.lceSet_get]

/-- Where the count was that of s, a cycle that begins is another. -/
theorem State.beginCycle_ne {s u : State} {p t : Nat} (h : u.get Reg.LCE_CYCLES_COUNT p = s.get Reg.LCE_CYCLES_COUNT p) :
    (u.beginCycle p t).get Reg.LCE_CYCLES_COUNT p ≠ s.get Reg.LCE_CYCLES_COUNT p := by
  rw [State.beginCycle_cycles, h]
  exact succ_wrap_ne _

/-! ### LACE_START (R195) -/

theorem laceStart_starts {p : Nat} {s : State} (hr : s.pllRuns = true) (hs : s.get Reg.LCE_STAT_STATE p = 1)
    (hd : s.domOk (s.lce p).oper.domain = true) (hb : (s.lce p).oper.base ≤ s.dom (s.lce p).oper.domain + 4) :
    laceStart p s = ((s.lceState p 2).beginCycle p (s.nearBoundary p)).raise Reg.LCE_IRQ_LOCKED p :=
  if_neg (by simp [hr, hs, hd, Nat.not_lt.mpr hb, lcWAITING])

theorem laceStart_waits {p : Nat} {s : State} (h : s.pllRuns = false ∨ s.get Reg.LCE_STAT_STATE p ≠ 1 ∨
    s.domOk (s.lce p).oper.domain = false ∨ s.dom (s.lce p).oper.domain + 4 < (s.lce p).oper.base) : laceStart p s = s :=
  if_pos (by obtain h | h | h | h := h <;> simp [h, lcWAITING])

/-! ### LACE_CYCLE_BOUNDARY and GATE_ENTRY_END (R194, R198) -/

theorem laceCycleBoundary_begins {p : Nat} {s : State} (hr : s.laceRuns p = true) (hn : (s.lce p).oper.len ≠ 0)
    (ha : (s.lce p).admin = none) : laceCycleBoundary p s = s.beginCycle p (s.nearBoundary p) := by
  simp [laceCycleBoundary, hr, hn, ha]

/-- A boundary inside CYCLE_EXT before a swap: the gate states in effect hold. -/
theorem laceCycleBoundary_extends {p : Nat} {g : GateList} {s : State} (hr : s.laceRuns p = true)
    (hn : (s.lce p).oper.len ≠ 0) (ha : (s.lce p).admin = some g)
    (hx : s.swapAt p g < s.nearBoundary p + (s.lce p).oper.ext) :
    laceCycleBoundary p s = s.lceSet p { s.lce p with tail := true } := by
  simp [laceCycleBoundary, hr, hn, ha, hx]

theorem gateEntryEnd_next {p : Nat} {s : State} (hr : s.laceRuns p = true) (ht : (s.lce p).tail = false)
    (hn : (s.lce p).oper.len ≠ 0) : gateEntryEnd p s = s.beginEntry p (s.get Reg.LCE_STAT_ENTRY p + 1) :=
  if_neg (by simp [hr, ht, hn])

theorem gateEntryEnd_idle {p : Nat} {s : State} (h : s.laceRuns p = false ∨ (s.lce p).tail = true) : gateEntryEnd p s = s :=
  if_pos (by obtain h | h := h <;> simp [h])

/-! ### HOLD_ADV_REQUEST (R194) -/

section holdAdvRequest
variable {p e a b : Nat} {s : State} (hr : s.laceRuns p = true) (hp : s.flag Reg.LCE_STAT_PREEMPT_ACTIVE p = true)
include hr hp

/-- Before a hold entry, a preemptable copy in transmission is preempted (R203). -/
theorem holdAdvRequest_holds (he : (s.lce p).oper.entries[e]? = some (a, b, 1)) :
    holdAdvRequest p e s = (s.lceSet p { s.lce p with hold := true }).gateCut p := by
  simp [holdAdvRequest, hr, hp, he]

theorem holdAdvRequest_releases (he : (s.lce p).oper.entries[e]? = some (a, b, 2)) :
    holdAdvRequest p e s = s.lceSet p { s.lce p with hold := false } := by
  simp [holdAdvRequest, hr, hp, he]

theorem holdAdvRequest_idle (he : (s.lce p).oper.entries[e]? = some (a, b, 0)) : holdAdvRequest p e s = s := by
  simp [holdAdvRequest, hr, hp, he]

end holdAdvRequest

/-! ### LACE_SWAP (R198) -/

theorem laceSwap_none {p : Nat} {s : State} (ha : (s.lce p).admin = none) : laceSwap p s = s := by
  simp only [laceSwap, ha]

/-- The admin list becomes the oper list, and begins at its change time where its domain lets lists run. -/
theorem laceSwap_runs {p : Nat} {g : GateList} {s u : State} (ha : (s.lce p).admin = some g)
    (hu : u = (s.setOper p g).raise Reg.LCE_IRQ_SWAPPED p) (hd : u.domOk g.domain = true) :
    laceSwap p s = (u.lceState p 2).beginCycle p (s.lce p).cct := by
  simp only [laceSwap, ha, ← hu, hd, if_true]
  rfl

/-! ### PREEMPT_VERIFY (R202) -/

/-- A verify mPacket of a list that wants verification: it counts as an attempt, and the third without an answer fails. -/
theorem preemptVerify_attempts {p : Nat} {a : Bool} {s u : State} (hp : (s.lce p).oper.preempt = true)
    (hd : (s.lce p).oper.verifyDis = false) (hv : (s.lce p).verified = false) (hn : (s.lce p).attempts < 3)
    (hl : s.flag Reg.MAC_LINK_UP p = true)
    (hu : u = (s.lceSet p { s.lce p with attempts := (s.lce p).attempts + 1, verified := a }).preemptSync p) :
    preemptVerify p a s = if a = false ∧ (s.lce p).attempts = 2 then u.raise Reg.LCE_IRQ_VERIFY_FAIL p else u := by
  unfold preemptVerify
  rw [if_neg (by simp [hp, hd, hv, hl, Nat.not_le.mpr hn])]
  simp [hu]

theorem preemptVerify_idle {p : Nat} {a : Bool} {s : State} (h : (s.lce p).oper.preempt = false ∨ (s.lce p).verified = true) :
    preemptVerify p a s = s :=
  if_pos (by obtain h | h := h <;> simp [h])

end Sys2Proof.Machine

namespace Sys2Proof
open Machine

/-- Settles O47: each event of a Lace has one equation in the state that admits it; those that begin a cycle move its count, and so
let the CAN slots that wait for a cycle take effect. -/
theorem lacesRunTheirLists : Obligations.LacesRunTheirLists := by
  unfold Obligations.LacesRunTheirLists
  refine ⟨?_, ?_, ?_, ?_, ?_, ?_, ?_, ?_, ?_, ?_, ?_⟩
  case refine_1 =>
    intro p s hr hs hd hb
    refine congrArg Host.Outcome.next ?_
    rw [laceStart_starts hr hs hd hb]
    refine State.cycleBegun_begins ?_
    rw [State.get_raise_apart (by decide)]
    exact State.beginCycle_ne (s.lceState_cycles p.val p.val)
  case refine_2 =>
    intro p s h
    refine congrArg Host.Outcome.next ?_
    rw [laceStart_waits h]
    exact State.cycleBegun_none rfl
  case refine_3 =>
    intro p s hr hn ha
    refine congrArg Host.Outcome.next ?_
    rw [laceCycleBoundary_begins hr hn ha]
    exact State.cycleBegun_begins (State.beginCycle_ne rfl)
  case refine_4 =>
    intro p g s hr hn ha _ hx
    refine congrArg Host.Outcome.next ?_
    rw [laceCycleBoundary_extends hr hn ha hx]
    exact State.cycleBegun_none rfl
  case refine_5 =>
    intro p s hr ht hn
    exact congrArg Host.Outcome.next (gateEntryEnd_next hr ht hn)
  case refine_6 =>
    intro p s h
    exact congrArg Host.Outcome.next (gateEntryEnd_idle h)
  case refine_7 =>
    intro p e a b s hr hp
    exact ⟨fun he => congrArg Host.Outcome.next (holdAdvRequest_holds hr hp he),
      fun he => congrArg Host.Outcome.next (holdAdvRequest_releases hr hp he),
      fun he => congrArg Host.Outcome.next (holdAdvRequest_idle hr hp he)⟩
  case refine_8 =>
    intro p g s u ha hu hd
    refine congrArg Host.Outcome.next ?_
    rw [laceSwap_runs ha hu hd]
    refine State.cycleBegun_begins (State.beginCycle_ne ?_)
    rw [State.lceState_cycles, hu, State.get_raise_apart (by decide), State.setOper_cycles]
  case refine_9 =>
    intro p s ha
    refine congrArg Host.Outcome.next ?_
    rw [laceSwap_none ha]
    exact State.cycleBegun_none rfl
  case refine_10 =>
    intro p a s u hp hd hv hn hl hu
    exact congrArg Host.Outcome.next (preemptVerify_attempts hp hd hv hn hl hu)
  case refine_11 =>
    intro p a s h
    exact congrArg Host.Outcome.next (preemptVerify_idle h)

end Sys2Proof

/-! The end of a received frame (R156, R217–R220, R226, R368): what its last bytes meet, and one equation per fate of the frame. -/

namespace Sys2Proof.Machine

/-! ### What a MAC count leaves -/

/-- A MAC count moves registers alone. -/
theorem State.macCnt_regs (s : State) (p k n : Nat) : s.macCnt p k n = { s with regs := (s.macCnt p k n).regs } := by
  unfold State.macCnt
  split
  · rfl
  · split <;> rfl

@[simp] theorem State.macCnt_clr (s : State) (p k n : Nat) : (s.macCnt p k n).clr = s.clr := by rw [State.macCnt_regs]

@[simp] theorem State.rxOk_clr (s : State) (p : Nat) (b : List Byte) : (s.rxOk p b).clr = s.clr := by simp [State.rxOk]

/-! ### Frame records -/

theorem State.arriving_port {s : State} {p : Nat} {f : Frame} (h : s.arriving p = some f) : f.port = p := by
  have hp := List.find?_some h
  simp only [Bool.and_eq_true, beq_iff_eq] at hp
  exact hp.1

/-- The record that an identity finds after a change of it that keeps the identity is the changed one. -/
theorem State.frame_of_modFrame {s : State} {i : Nat} {k : Frame → Frame} {g : Frame} (h : (s.modFrame i k).frame i = some g)
    (hk : ∀ f, (k f).id = f.id) : ∃ f, s.frame i = some f ∧ k f = g := by
  have hid : ((fun f : Frame => f.id == i) ∘ fun f => if f.id = i then k f else f) = fun f => f.id == i := by
    funext f
    by_cases h : f.id = i <;> simp [h, hk]
  simp only [State.frame, State.modFrame, State.clrSet_clr, List.find?_map, hid] at h
  obtain ⟨f, hf, rfl⟩ := Option.map_eq_some_iff.mp h
  have hi := List.find?_some hf
  exact ⟨f, hf, (if_pos (beq_iff_eq.mp hi)).symm⟩

/-! ### The last bytes (R217, R219, R220) -/

section bytesIn
variable {u w : State} {p i : Nat} {g : Frame} (hf : u.frame i = some g) (hg : g.whole = true) (hp : g.port = p)
include hf hg hp

/-- A whole frame whose last claim the receive FIFO has no room for is dropped. -/
theorem State.bytesIn_overflow (hfull : fifoSize p + u.fifoOf g < u.fifoFill p + fifoClaim (u.maxFrame p) g.rxLen)
    (hneed : g.fifo < fifoClaim (u.maxFrame p) g.rxLen) : u.bytesIn i = (true, u.macError g 11 3) := by
  subst hp
  simp [State.bytesIn, hf, State.arrived, hg, hfull, hneed]

/-- A whole frame that fits makes its claim, ends the copies that are too long by it, and is dropped where it is too long itself. -/
theorem State.bytesIn_fits (hroom : u.fifoFill p + fifoClaim (u.maxFrame p) g.rxLen ≤ fifoSize p + u.fifoOf g)
    (hw : w = (if g.fifo < fifoClaim (u.maxFrame p) g.rxLen then
      u.modFrame i (fun f => { f with fifo := fifoClaim (u.maxFrame p) g.rxLen }) else u).egressLimits i) :
    u.bytesIn i = if u.maxFrame p < g.rxLen then (true, w.macError g 9 1) else (false, w) := by
  subst hp hw
  simp [State.bytesIn, hf, State.arrived, hg, Nat.not_lt.mpr hroom]

end bytesIn

/-! ### The MAC's checks over a clean line (R217, R218) -/

section macFault
variable {s : State} {p : Nat} {f : Frame} (hp : f.port = p) (hm : f.rxLen ≤ s.maxFrame p)
include hp hm

theorem State.macFault_undersize (hn : f.rxLen < 64) : s.macFault f .clean = some (8, 2) := by
  simp [State.macFault, hp, Nat.not_lt.mpr hm, hn]

theorem State.macFault_badFcs (hn : 64 ≤ f.rxLen) (hc : f.fcsOk = false) : s.macFault f .clean = some (10, 0) := by
  simp [State.macFault, hp, Nat.not_lt.mpr hm, Nat.not_lt.mpr hn, hc]

theorem State.macFault_none (hn : 64 ≤ f.rxLen) (hc : f.fcsOk = true) : s.macFault f .clean = none := by
  simp [State.macFault, RxLine.clean, hp, Nat.not_lt.mpr hm, Nat.not_lt.mpr hn, hc]

end macFault

/-! ### A good frame (R89, R278, R281) -/

/-- A frame that no security association opened has no ICV to verify. -/
theorem State.icvVerify_plain {s : State} {i : Nat} (h : ∀ g, s.frame i = some g → g.rxSa = none) : s.icvVerify i = (true, s) := by
  unfold State.icvVerify
  cases hf : s.frame i with
  | none => rfl
  | some g => simp only [h g hf]

/-- The end of a good frame that Toecap does not check and no Clicker has finished leaves it to its Clicker. -/
theorem State.frameEnds_waits {s : State} {f : Frame} (ht : f.toecap = none) (hv : s.icvVerify f.id = (true, s))
    (hd : f.pdrop = none) (he : f.parse.ended = false) (hs : f.stage ≠ .out) : s.frameEnds f = s := by
  simp only [State.frameEnds, ht, hv, hd, he, Bool.not_true, Bool.false_eq_true, if_false]
  cases s.frame f.id with
  | none => rfl
  | some g => simp [hs]

/-! ### INGRESS_FRAME_END -/

/-- A frame end that counts no good frame is no traffic on its cluster (R368). -/
theorem goodFrameTraffic_none {p : Nat} {s t : State} (h : t.get Reg.MAC_CNT_FULL p 0 = s.get Reg.MAC_CNT_FULL p 0) :
    goodFrameTraffic p s t = t := if_neg (not_not_intro h)

theorem ingressFrameEnd_idle {p : Nat} {l : RxLine} {s : State} (h : s.arriving p = none) : ingressFrameEnd p l s = s := by
  rw [ingressFrameEnd, h]

section ingressFrameEnd
variable {p : Nat} {l : RxLine} {s u : State} {f : Frame} (ha : s.arriving p = some f)
  (hu : u = ((s.rxLine p l).fabNow).modFrame f.id (fun f => { f with whole := true }))
include ha hu

/-- A frame that a full receive FIFO lost at its start only ends. -/
theorem ingressFrameEnd_lostCounted (hl : f.lost = some true) : ingressFrameEnd p l s = u.killFrame f.id := by
  simp only [ingressFrameEnd, ha, ← hu, hl]

/-- A good frame lost for another cause is counted as the MAC received it, and ends. -/
theorem ingressFrameEnd_lostGood (hl : f.lost = some false) (hm : u.macFault f l = none) :
    ingressFrameEnd p l s = (u.rxOk p f.bytes).killFrame f.id := by
  simp only [ingressFrameEnd, ha, ← hu, hl, hm]

variable {w : State} (hl : f.lost = none)
include hl

/-- A frame that its last bytes lose ends with them. -/
theorem ingressFrameEnd_bytesLost (hb : u.bytesIn f.id = (true, w)) : ingressFrameEnd p l s = w := by
  simp only [ingressFrameEnd, ha, ← hu, hl, hb, if_true]

variable (hb : u.bytesIn f.id = (false, w))
include hb

/-- A frame with a MAC error is dropped under it. -/
theorem ingressFrameEnd_macError {k c : Nat} (hm : u.macFault f l = some (k, c)) :
    ingressFrameEnd p l s = w.macError f k c := by
  simp only [ingressFrameEnd, ha, ← hu, hl, hb, hm, Bool.false_eq_true, if_false]

/-- A good frame that waits for its Clicker is counted, and holds its own length of the receive FIFO. -/
theorem ingressFrameEnd_good (hm : u.macFault f l = none) (hs : f.stage ≠ .out) :
    ingressFrameEnd p l s = ((w.rxOk p f.bytes).modFrame f.id (fun g => { g with fifo := f.rxLen })).frameEnds f := by
  simp only [ingressFrameEnd, ha, ← hu, hl, hb, hm, Bool.false_eq_true, if_false, beq_eq_false_iff_ne.mpr hs]

end ingressFrameEnd

end Sys2Proof.Machine

namespace Sys2Proof
open Machine

/-- Settles O11: the last bytes fit or not; then a MAC error, or a good end, is one of the equations above. -/
theorem frameEndsMeetTheMacChecks : Obligations.FrameEndsMeetTheMacChecks := by
  unfold Obligations.FrameEndsMeetTheMacChecks
  refine ⟨?_, ?_, ?_, ?_, ?_, ?_, ?_⟩
  case refine_1 =>
    intro p s u w f ha hl hu hroom hf hw hmax
    have hp := State.arriving_port ha
    have hb := (State.bytesIn_fits hf rfl hp hroom hw).trans (if_pos hmax)
    exact congrArg (fun t => Host.Outcome.next (goodFrameTraffic p.val s t)) (ingressFrameEnd_bytesLost ha hu hl hb)
  case refine_2 =>
    intro p s u w f ha hl hu hroom hf hw hmax _ hn
    have hp := State.arriving_port ha
    have hb := (State.bytesIn_fits hf rfl hp hroom hw).trans (if_neg (Nat.not_lt.mpr hmax))
    exact congrArg (fun t => Host.Outcome.next (goodFrameTraffic p.val s t))
      (ingressFrameEnd_macError ha hu hl hb (State.macFault_undersize hp hmax hn))
  case refine_3 =>
    intro p s u w f ha hl hu hroom hf hw hmax _ hn hc
    have hp := State.arriving_port ha
    have hb := (State.bytesIn_fits hf rfl hp hroom hw).trans (if_neg (Nat.not_lt.mpr hmax))
    exact congrArg (fun t => Host.Outcome.next (goodFrameTraffic p.val s t))
      (ingressFrameEnd_macError ha hu hl hb (State.macFault_badFcs hp hmax hn hc))
  case refine_4 =>
    intro p s u w f ha hl hu hroom hf hw hmax _ hn hc ht _ hs he hd hsa
    have hp := State.arriving_port ha
    have hb := (State.bytesIn_fits hf rfl hp hroom hw).trans (if_neg (Nat.not_lt.mpr hmax))
    refine congrArg (fun t => Host.Outcome.next (goodFrameTraffic p.val s t))
      ((ingressFrameEnd_good ha hu hl hb (State.macFault_none hp hmax hn hc) hs).trans
        (State.frameEnds_waits ht (State.icvVerify_plain fun g hg => ?_) hd he hs))
    obtain ⟨g', hg', rfl⟩ := State.frame_of_modFrame hg fun _ => rfl
    exact hsa g' (by simpa only [State.frame, State.rxOk_clr] using hg')
  case refine_5 =>
    intro p s u f ha hl hu hf hneed hfull
    have hp := State.arriving_port ha
    have hb := State.bytesIn_overflow hf rfl hp hfull hneed
    exact congrArg (fun t => Host.Outcome.next (goodFrameTraffic p.val s t)) (ingressFrameEnd_bytesLost ha hu hl hb)
  case refine_6 =>
    intro p s u f ha hu
    refine ⟨fun hl => ?_, fun hl hm hn hc => ?_⟩
    · exact congrArg (fun t => Host.Outcome.next (goodFrameTraffic p.val s t)) (ingressFrameEnd_lostCounted ha hu hl)
    · exact congrArg (fun t => Host.Outcome.next (goodFrameTraffic p.val s t))
        (ingressFrameEnd_lostGood ha hu hl (State.macFault_none (State.arriving_port ha) hm hn hc))
  case refine_7 =>
    intro p s ha
    refine congrArg Host.Outcome.next ?_
    rw [ingressFrameEnd_idle ha]
    exact goodFrameTraffic_none rfl

end Sys2Proof

/-! Links, lane faults and MDIO (R211, R212, R214, R225, R233, R234): one equation per case of each command. -/

namespace Sys2Proof.Machine

/-! ### What a link gained shows (R211, R214) -/

/-- What the MAC of port p shows of a link at a rate that its mode has. -/
def State.macLinked (s : State) (p rate : Nat) : State :=
  let latency := modeLatency (s.portMode p) (s.portFec p) rate
  ((((((((s.macSet p { s.mac p with mode := s.portMode p + 16 * s.portFec p }).put Reg.MAC_LINK_UP 1 p).put
    Reg.MAC_LINK_RATE rate p).put Reg.MAC_LINK_LF 0 p).put Reg.MAC_LINK_RF 0 p).put Reg.MAC_LINK_HI_BER 0 p).put
    Reg.MAC_LINK_RATE_UNSUP 0 p).put Reg.MAC_LATENCY_TX latency.1 p).put Reg.MAC_LATENCY_RX latency.2 p

/-- What the lane of port p, where it has one, shows of a link in a mode. -/
def State.laneLinked (s : State) (p mode : Nat) : State :=
  if p < 24 then
    ((((s.put Reg.SDS_STAT_SIGNAL 1 p).put Reg.SDS_STAT_CDR_LOCK 1 p).put Reg.SDS_STAT_PLL_LOCK 1 p).put
      Reg.SDS_STAT_EQ_VALID 1 p).put Reg.SDS_STAT_BAUD (modeBaud mode) p
  else s

theorem State.macLinked_shows (s : State) (p rate : Nat) : (s.macLinked p rate).get Reg.MAC_LINK_UP p = 1 ∧
    (s.macLinked p rate).get Reg.MAC_LINK_RATE p = rate % 8 ∧ (s.macLinked p rate).get Reg.MAC_LINK_LF p = 0 ∧
    (s.macLinked p rate).get Reg.MAC_LINK_RF p = 0 := by
  unfold State.macLinked
  refine ⟨?_, ?_, ?_, ?_⟩ <;> simp (disch := decide) only [State.get_put_apart, State.get_put_held] <;> rfl

/-- The fields of a lane that a link sets. -/
def laneFields : List Fld :=
  [Reg.SDS_STAT_SIGNAL, Reg.SDS_STAT_CDR_LOCK, Reg.SDS_STAT_PLL_LOCK, Reg.SDS_STAT_EQ_VALID, Reg.SDS_STAT_BAUD]

theorem State.laneLinked_get {s : State} {p mode a : Nat} {g : Fld}
    (h : laneFields.all (fun f => f.apart g) = true) : (s.laneLinked p mode).get g a = s.get g a := by
  simp only [laneFields, List.all_cons, List.all_nil, Bool.and_true, Bool.and_eq_true] at h
  obtain ⟨hsig, hcdr, hpll, heq, hbaud⟩ := h
  unfold State.laneLinked
  split
  · simp only [State.get_put_apart hsig, State.get_put_apart hcdr, State.get_put_apart hpll, State.get_put_apart heq,
      State.get_put_apart hbaud]
  · rfl

@[simp] theorem State.laneLinked_clr (s : State) (p mode : Nat) : (s.laneLinked p mode).clr = s.clr := by
  unfold State.laneLinked
  split <;> rfl

/-- Port p with a link gained, before its service is brought into line: it is shown, raises LINK_UP, and begins a new verification
(R202). -/
def State.linked (s : State) (p rate : Nat) : State :=
  (((s.macLinked p rate).laneLinked p (s.portMode p)).raise Reg.MAC_IRQ_LINK_UP p).verifyAgain p

theorem State.linked_get {s : State} {p rate : Nat} {g : Fld}
    (h : (Reg.LCE_STAT_PREEMPT_ACTIVE :: Reg.MAC_IRQ_LINK_UP :: laneFields).all (fun f => f.apart g) = true) :
    (s.linked p rate).get g p = (s.macLinked p rate).get g p := by
  rw [List.all_cons, List.all_cons, Bool.and_eq_true, Bool.and_eq_true] at h
  obtain ⟨hlace, hirq, hlane⟩ := h
  exact (State.get_put_apart hlace).trans ((State.get_raise_apart hirq).trans (State.laneLinked_get hlane))

theorem State.linked_irq (s : State) (p rate : Nat) : (s.linked p rate).get Reg.MAC_IRQ_LINK_UP p = 1 :=
  (State.get_put_apart (by decide)).trans (State.get_raise_bit (.inr (.inr rfl)) rfl)

theorem State.linked_clr (s : State) (p rate : Nat) : (s.linked p rate).clr = s.clr := by
  simp [State.linked, State.verifyAgain, State.preemptSync, State.macLinked]

/-! ### LINK_UP, LINK_DOWN and INBAND_RATE_CHANGE (R211, R212, R214) -/

/-- A link that is up stays, and a port that may not link gains none. -/
theorem State.linkGained_stays {p r : Nat} {s : State} (h : s.flag Reg.MAC_LINK_UP p = true ∨ s.mayLink p = false) :
    s.linkGained p r = s := if_pos (by obtain h | h := h <;> simp [h])

section linkGained
variable {p r : Nat} {s : State} (hd : s.flag Reg.MAC_LINK_UP p = false) (hm : s.mayLink p = true)
include hd hm

/-- An in-band rate that the mode has not is reported (R212). -/
theorem State.linkGained_unsupported (hr : rateOk (s.portMode p) r = false) :
    s.linkGained p r = (s.put Reg.MAC_LINK_RATE_UNSUP 1 p).raise Reg.MAC_IRQ_RATE_UNSUP p := by
  simp [State.linkGained, hd, hm, hr]

/-- A link gained brings the port's service into line. -/
theorem State.linkGained_gains (hr : rateOk (s.portMode p) r = true) :
    s.linkGained p r = (s.linked p (modeRate (s.portMode p) r)).portSync p := by
  simp only [State.linkGained, hd, hm, hr, Bool.not_true, Bool.or_self, Bool.false_eq_true, if_false]
  rfl

end linkGained

theorem linkDown_fails {p : Nat} {w : LinkFail} {s : State} (hp : bit s.pwr.powered (macDomain p) = true)
    (hh : s.portHeld p = false) (hm : s.portMode p ≠ 0 ∨ s.flag Reg.MAC_LINK_UP p = true) :
    linkDown p w s = (s.linkWhy p w).linkLost p := if_pos (by obtain hm | hm := hm <;> simp [hp, hh, hm])

theorem linkDown_idle {p : Nat} {w : LinkFail} {s : State} (h : bit s.pwr.powered (macDomain p) = false ∨ s.portHeld p = true ∨
    (s.portMode p = 0 ∧ s.flag Reg.MAC_LINK_UP p = false)) : linkDown p w s = s :=
  if_neg (by
    obtain h | h | ⟨hm, hu⟩ := h
    · simp [h]
    · simp [h]
    · simp [hm, hu])

theorem inbandRateChange_inBand {p r : Nat} {s : State} (h : s.portMode p = 3 ∨ s.portMode p = 6) :
    inbandRateChange p r s = (s.linkLost p).linkGained p r := if_pos (by simpa using h)

theorem inbandRateChange_idle {p r : Nat} {s : State} (h3 : s.portMode p ≠ 3) (h6 : s.portMode p ≠ 6) :
    inbandRateChange p r s = s := if_neg (by simp [h3, h6])

/-! ### PLL_LOST, PRBS_ERROR, PHY_INTERNAL_FAULT and RX_FIFO_MEMORY_ERROR (R225, R234) -/

theorem pllLost_lost {p : Nat} {s : State} (hp : p < 24) (h : s.get Reg.CGU_STAT_SDSREF = 2) :
    pllLost p s = ((((s.put Reg.SDS_STAT_PLL_LOCK 0 p).raise Reg.SDS_IRQ_PLL_LOST p).linkLost p true).fault (0x0F0 + p) 0x1B01) :=
  if_neg (by simp [Nat.not_le.mpr hp, h])

/-- Without its reference a lane has no lock to lose (assumption log 1). -/
theorem pllLost_idle {p : Nat} {s : State} (h : s.get Reg.CGU_STAT_SDSREF ≠ 2) : pllLost p s = s := if_pos (by simp [h])

theorem prbsError_counted {p : Nat} {s : State} (hp : p < 24) (hl : 1 ≤ s.get Reg.SDS_TEST_PRBS_RX p)
    (hh : s.get Reg.SDS_TEST_PRBS_RX p ≤ 4) :
    prbsError p s = (s.inc Reg.SDS_PRBS_ERR_COUNT 1 p).raise Reg.SDS_IRQ_PRBS_ERR p := if_pos (by simp [hp, hl, hh])

theorem prbsError_idle {p : Nat} {s : State} (h : s.get Reg.SDS_TEST_PRBS_RX p = 0 ∨ 4 < s.get Reg.SDS_TEST_PRBS_RX p) :
    prbsError p s = s := if_neg (by obtain h | h := h <;> simp [h])

/-- Port p is that of T1S PHY n. -/
structure IsT1s (p n : Nat) : Prop where
  tp : isTP p = true
  phy : p - 24 = n

theorem isT1s (t : Fin 8) : IsT1s (24 + t.val) t.val := ⟨by simp [isTP]; omega, Nat.add_sub_cancel_left ..⟩

theorem IsT1s.page {p n : Nat} (h : IsT1s p n) : pgT1S p = 0x108 + n := by rw [pgT1S, h.phy]

theorem phyInternalFault_standby {p n : Nat} {s : State} (h : IsT1s p n) :
    phyInternalFault p s = (s.t1sEnter p 2 true).fault (0x108 + n) 0x1C01 := by
  rw [phyInternalFault, if_pos h.tp, h.page]

theorem rxFifoMemoryError_noFrame {p k : Nat} {s : State}
    (h : (s.clr.frames.filter (fun f => f.port == p && decide (0 < s.fifoOf f)))[k]? = none) :
    rxFifoMemoryError p k s = (s.macCnt p 11).fault (0x0D0 + p) 0x1A02 := by
  simp only [rxFifoMemoryError, h]

theorem rxFifoMemoryError_frame {p k : Nat} {f : Frame} {s : State}
    (h : (s.clr.frames.filter (fun f => f.port == p && decide (0 < s.fifoOf f)))[k]? = some f) :
    rxFifoMemoryError p k s = (s.macError f 11 3 true).fault (0x0D0 + p) 0x1A02 := by
  simp only [rxFifoMemoryError, h]

/-! ### MDIO_CMD and MDIO_DONE (R233) -/

section mdioStart
variable {s : State} {m : Master} {b op phy reg data : Nat} {c45 : Bool}

theorem State.mdioStart_busy (h : s.flag Reg.MDIO_STAT_BUSY 0 b m.code = true) :
    s.mdioStart m b c45 op phy reg data = s.err 0x0D0 (0x404 + 16 * b) ecBUSY m := if_pos h

/-- Clause 22 has the operations 1 and 2 alone. -/
theorem State.mdioStart_invalid (h : s.flag Reg.MDIO_STAT_BUSY 0 b m.code = false) (ho : op = 0 ∨ op = 3) :
    s.mdioStart m b false op phy reg data = s.err 0x0D0 (0x404 + 16 * b) ecINVALID m := by
  rw [State.mdioStart, if_neg (by simp [h]), if_pos (by simpa using ho)]

theorem State.mdioStart_queues (h : s.flag Reg.MDIO_STAT_BUSY 0 b m.code = false) (ho : c45 = true ∨ op = 1 ∨ op = 2) :
    s.mdioStart m b c45 op phy reg data = { s.put Reg.MDIO_STAT_BUSY 1 0 b m.code with
      mdio := s.mdio ++ [⟨b, m.code, c45, op, phy, reg, data⟩] } := by
  rw [State.mdioStart, if_neg (by simp [h]), if_neg (by obtain h | h | h := ho <;> simp [h])]
  rfl

end mdioStart

/-- The requests that follow transaction r on bus b: those of the other buses, and the bus's others in round-robin order. -/
def mdioNext (l : List MdioReq) (b : Nat) (r : MdioReq) : List MdioReq :=
  let rest := dropFirst (fun _ => true) (l.filter (fun x => x.bus == b))
  let of := fun (k : Nat) => rest.filter (fun (x : MdioReq) => x.master == (r.master + k) % 3)
  l.filter (fun (x : MdioReq) => x.bus != b) ++ (of 1 ++ of 2 ++ of 0)

theorem mem_of_mem_dropFirst {α : Type} {p : α → Bool} {l : List α} {x : α} (h : x ∈ dropFirst p l) : x ∈ l := by
  induction l with
  | nil => exact h
  | cons y r ih =>
    simp only [dropFirst] at h
    split at h
    · exact List.mem_cons_of_mem _ h
    · obtain rfl | h := List.mem_cons.mp h
      · exact List.mem_cons_self
      · exact List.mem_cons_of_mem _ (ih h)

/-- The requests that follow a transaction were waiting. -/
theorem mem_of_mem_mdioNext {l : List MdioReq} {b : Nat} {r x : MdioReq} (h : x ∈ mdioNext l b r) : x ∈ l := by
  simp only [mdioNext, List.mem_append, List.mem_filter] at h
  have hrest : x ∈ dropFirst (fun _ => true) (l.filter (fun x => x.bus == b)) → x ∈ l := fun h =>
    (List.mem_filter.mp (mem_of_mem_dropFirst h)).1
  obtain ⟨h, _⟩ | (⟨h, _⟩ | ⟨h, _⟩) | ⟨h, _⟩ := h
  · exact h
  all_goals exact hrest h

/-- The end of a transaction leaves the requests of the other buses. -/
theorem mem_mdioNext_of_bus {l : List MdioReq} {b : Nat} {r x : MdioReq} (h : x ∈ l) (hb : x.bus ≠ b) : x ∈ mdioNext l b r :=
  List.mem_append_left _ (List.mem_filter.mpr ⟨h, by simpa using hb⟩)

/-- Transaction r of bus b has left the requests, and what it read stands in its master's RDATA. -/
def State.mdioTaken (s : State) (b data : Nat) (r : MdioReq) : State :=
  let t := { s with mdio := mdioNext s.mdio b r }
  if r.op = 2 ∨ (r.c45 = true ∧ r.op = 3) then t.put Reg.MDIO_STAT_RDATA data 0 b r.master else t

@[simp] theorem State.mdioTaken_mdio (s : State) (b data : Nat) (r : MdioReq) : (s.mdioTaken b data r).mdio = mdioNext s.mdio b r := by
  unfold State.mdioTaken
  split <;> rfl

@[simp] theorem State.mdioTaken_clr (s : State) (b data : Nat) (r : MdioReq) : (s.mdioTaken b data r).clr = s.clr := by
  unfold State.mdioTaken
  split <;> rfl

theorem State.mdioTaken_rdata {s : State} {b data : Nat} {r : MdioReq} (h : r.op = 2 ∨ (r.c45 = true ∧ r.op = 3)) :
    (s.mdioTaken b data r).get Reg.MDIO_STAT_RDATA 0 b r.master = data % 2 ^ 16 := by
  rw [State.mdioTaken, if_pos h, State.get_put _ _ _ _ _ _ (.inr (.inr rfl))]
  rfl

section mdioDone
variable {b data : Nat} {s : State}

theorem mdioDone_idle (h : s.mdio.find? (fun r => r.bus == b) = none) : mdioDone b data s = s := by
  rw [mdioDone, h]

variable {r : MdioReq} (h : s.mdio.find? (fun r => r.bus == b) = some r)
include h

/-- The end of a transaction of the firmware's own touches no register. -/
theorem mdioDone_firmware (hm : r.master = Master.firmware.code) :
    mdioDone b data s = { s with mdio := mdioNext s.mdio b r } := by
  rw [mdioDone, h]
  exact if_pos hm

/-- The end of another master's transaction clears its BUSY. -/
theorem mdioDone_master (hm : r.master ≠ Master.firmware.code) :
    mdioDone b data s = (s.mdioTaken b data r).put Reg.MDIO_STAT_BUSY 0 0 b r.master := by
  have hread : (if r.c45 = true then r.op == 2 || r.op == 3 else r.op == 2) = true ↔ r.op = 2 ∨ (r.c45 = true ∧ r.op = 3) := by
    cases r.c45 <;> simp
  simp only [mdioDone, h, hm, if_false, hread]
  rfl

end mdioDone

/-- A master's RDATA and BUSY of a bus lie in cells of their own. -/
theorem mdioStat_key_ne (b m : Nat) : Reg.MDIO_STAT_RDATA.key 0 b m ≠ Reg.MDIO_STAT_BUSY.key 0 b m := by
  have hlo : Reg.MDIO_STAT_RDATA.key 0 b m + 64 = Reg.MDIO_STAT_BUSY.key 0 b m := by
    simp only [Fld.key, Reg.MDIO_STAT_RDATA, Reg.MDIO_STAT_BUSY, Reg.fld, if_true]
    omega
  omega

end Sys2Proof.Machine

namespace Sys2Proof
open Machine

/-- Settles O19: a link is gained, refused, or lost, where the state admits it. -/
theorem linksComeUpAndFail : Obligations.LinksComeUpAndFail := by
  unfold Obligations.LinksComeUpAndFail
  refine ⟨?_, ?_, ?_, ?_, ?_, ?_, ?_⟩
  case refine_1 =>
    intro p r s hd hm hr
    obtain ⟨hup, hrate, hlf, hrf⟩ := s.macLinked_shows p.val (modeRate (s.portMode p.val) r.val)
    exact ⟨_, congrArg Host.Outcome.next (State.linkGained_gains hd hm hr), (State.linked_get (by decide)).trans hup,
      (State.linked_get (by decide)).trans hrate, (State.linked_get (by decide)).trans hlf,
      (State.linked_get (by decide)).trans hrf, s.linked_irq _ _, s.linked_clr _ _⟩
  case refine_2 =>
    intro p r s hd hm hr
    exact congrArg Host.Outcome.next (State.linkGained_unsupported hd hm hr)
  case refine_3 =>
    intro p r s h
    exact congrArg Host.Outcome.next (State.linkGained_stays h)
  case refine_4 =>
    intro p w s hp hh hm
    exact congrArg Host.Outcome.next (linkDown_fails hp hh hm)
  case refine_5 =>
    intro p w s h
    exact congrArg Host.Outcome.next (linkDown_idle h)
  case refine_6 =>
    intro p r s h
    exact congrArg Host.Outcome.next (inbandRateChange_inBand h)
  case refine_7 =>
    intro p r s h3 h6
    exact congrArg Host.Outcome.next (inbandRateChange_idle h3 h6)

/-- Settles O20: each fault is shown and reported where it can occur; an MDIO command is queued or counted, and the end of a
transaction leaves the requests of the other buses. -/
theorem portFaultsAndMdioTransactions : Obligations.PortFaultsAndMdioTransactions := by
  unfold Obligations.PortFaultsAndMdioTransactions
  refine ⟨?_, ?_, ?_, ?_, ?_, ?_, ?_, ?_, ?_, ?_, ?_, ?_, ?_⟩
  case refine_1 =>
    intro l s h
    exact congrArg Host.Outcome.next (pllLost_lost l.isLt h)
  case refine_2 =>
    intro l s h
    exact congrArg Host.Outcome.next (pllLost_idle h)
  case refine_3 =>
    intro l s hl hh
    exact congrArg Host.Outcome.next (prbsError_counted l.isLt hl hh)
  case refine_4 =>
    intro l s h
    exact congrArg Host.Outcome.next (prbsError_idle h)
  case refine_5 =>
    intro t s
    exact congrArg Host.Outcome.next (phyInternalFault_standby (isT1s t))
  case refine_6 =>
    intro p k s h
    exact congrArg Host.Outcome.next (rxFifoMemoryError_noFrame h)
  case refine_7 =>
    intro p k f s h
    exact congrArg Host.Outcome.next (rxFifoMemoryError_frame h)
  case refine_8 =>
    rintro m b c45 op phy reg d z _ rfl hg hb ho
    exact congrArg Host.Outcome.next ((z.direct_of_grants m _ _ _ hg).trans (State.mdioStart_queues hb ho))
  case refine_9 =>
    rintro m b c45 op phy reg d z _ rfl hg hb
    exact congrArg Host.Outcome.next ((z.direct_of_grants m _ _ _ hg).trans (State.mdioStart_busy hb))
  case refine_10 =>
    rintro m b op phy reg d z _ rfl hg hb ho
    exact congrArg Host.Outcome.next ((z.direct_of_grants m _ _ _ hg).trans (State.mdioStart_invalid hb ho))
  case refine_11 =>
    intro b d r s h hm
    refine ⟨_, congrArg Host.Outcome.next (mdioDone_master h hm), State.get_put _ _ _ _ _ _ (.inr (.inr rfl)), fun hr => ?_, ?_, ?_, ?_⟩
    · rw [State.get_put_other _ _ _ _ _ _ _ _ _ _ (.inr (mdioStat_key_ne _ _)), State.mdioTaken_rdata hr]
      exact Nat.mod_eq_of_lt d.isLt
    · simp
    · intro x hx
      exact mem_of_mem_mdioNext (by simpa using hx)
    · intro x hx hb
      simpa using mem_mdioNext_of_bus hx hb
  case refine_12 =>
    intro b d r s h hm
    exact ⟨_, congrArg Host.Outcome.next (mdioDone_firmware h hm), rfl, fun x => mem_of_mem_mdioNext⟩
  case refine_13 =>
    intro b d s h
    exact congrArg Host.Outcome.next (mdioDone_idle h)

end Sys2Proof

/-! Pauses (R217, R218, R221–R224): what a control frame received without an error does, and one equation per case of each command. -/

namespace Sys2Proof.Machine

/-! ### PAUSE_FRAME_RX (R217, R218, R221) -/

section pauseFrameRx
variable {s : State} {p : Nat} {b : List Byte}

/-- The MAC of port p takes b as a MAC control frame without an error: it has link, and the frame has room in the receive FIFO, a
length in range and a good FCS (R217, R218, R220). -/
structure State.TakesControl (s : State) (p : Nat) (b : List Byte) : Prop where
  link : s.flag Reg.MAC_LINK_UP p = true
  control : macControl b = true
  room : s.fifoFill p + min (s.maxFrame p) 2048 ≤ fifoSize p
  long : b.length ≤ s.maxFrame p
  short : 64 ≤ b.length
  fcs : leNat (b.drop (b.length - 4)) = crc32Eth (b.take (b.length - 4))

/-- A control frame without an error is counted by its opcode; a pause frame is then ignored in the ignore window, and else honoured
where it has the pause address and the port pauses by it. -/
theorem pauseFrameRx_taken (h : s.TakesControl p b) : pauseFrameRx p b false s =
    let op := beNat (sub b (ctlOff b + 2) 2)
    let u := s.macCnt p (if op = 1 then 5 else 6)
    if op ≠ 1 ∧ op ≠ 0x101 then s.macCnt p 7
    else if u.flag Reg.MAC_PAUSE_STAT_IGNORING p = true then u.macCnt p 31
    else if isTP p = false ∧ b.take 6 = pauseDA ∧ (if op = 1 then u.rxPause p else u.pfc p) = true then u.honour p op b
    else u := by
  simp [pauseFrameRx, h.link, h.control, Nat.not_lt.mpr h.room, Nat.not_lt.mpr h.long, Nat.not_lt.mpr h.short, h.fcs, and_assoc]

theorem pauseFrameRx_unknown (h : s.TakesControl p b) (h1 : beNat (sub b (ctlOff b + 2) 2) ≠ 1)
    (h101 : beNat (sub b (ctlOff b + 2) 2) ≠ 0x101) : pauseFrameRx p b false s = s.macCnt p 7 :=
  (pauseFrameRx_taken h).trans (if_pos ⟨h1, h101⟩)

variable {op : Nat} {u : State} (h : s.TakesControl p b) (ho : beNat (sub b (ctlOff b + 2) 2) = op) (hop : op = 1 ∨ op = 0x101)
  (hu : u = s.macCnt p (if op = 1 then 5 else 6))
include h ho hop hu

theorem pauseFrameRx_ignored (hi : u.flag Reg.MAC_PAUSE_STAT_IGNORING p = true) : pauseFrameRx p b false s = u.macCnt p 31 := by
  subst ho hu
  exact (pauseFrameRx_taken h).trans ((if_neg (by omega)).trans (if_pos hi))

theorem pauseFrameRx_honoured (hi : u.flag Reg.MAC_PAUSE_STAT_IGNORING p = false) (ht : isTP p = false) (hd : b.take 6 = pauseDA)
    (hp : (if op = 1 then u.rxPause p else u.pfc p) = true) : pauseFrameRx p b false s = u.honour p op b := by
  subst ho hu
  exact (pauseFrameRx_taken h).trans ((if_neg (by omega)).trans ((if_neg (by simp [hi])).trans (if_pos ⟨ht, hd, hp⟩)))

end pauseFrameRx

/-! ### PAUSE_WATCHDOG_EXPIRY (R224) -/

theorem pauseWatchdogExpiry_held {p at_ : Nat} {s : State} (h : (s.mac p).heldAt = some at_) (ht : isTP p = false) :
    pauseWatchdogExpiry p s = ((((s.pauseEnd p).put Reg.MAC_PAUSE_STAT_IGNORING 1 p).macCnt p 30).raise
      Reg.MAC_IRQ_PAUSE_WD p).fault (0x0D0 + p) 0x1A01 := if_neg (by simp [h, ht])

theorem pauseWatchdogExpiry_idle {p : Nat} {s : State} (h : (s.mac p).heldAt = none) : pauseWatchdogExpiry p s = s :=
  if_pos (by simp [h])

/-! ### TX_PAUSE_SEND and TX_PAUSE_REPEAT (R223) -/

/-- What is due of port p that may pause and has link: a pause at or above XOFF, its end below XON. -/
theorem txPauseSend_linked {p : Nat} {s : State} (ht : s.txPause p = true) (hl : s.flag Reg.MAC_LINK_UP p = true) :
    txPauseSend p s =
      if (s.mac p).xoff = false ∧ s.xoff p * fifoSize p ≤ 16 * s.fifoFill p then s.sendPause p 0xFFFF
      else if (s.mac p).xoff = true ∧ 16 * s.fifoFill p < s.xon p * fifoSize p then s.sendPause p 0
      else s := by
  simp [txPauseSend, ht, hl]

theorem txPauseSend_off {p : Nat} {s : State} (h : s.txPause p = false ∨ s.flag Reg.MAC_LINK_UP p = false) : txPauseSend p s = s :=
  if_pos (by obtain h | h := h <;> simp [h])

/-- Between the thresholds no pause frame is due (assumption log 1). -/
theorem txPauseSend_between {p : Nat} {s : State}
    (h : ((s.mac p).xoff = false ∧ 16 * s.fifoFill p < s.xoff p * fifoSize p) ∨
      ((s.mac p).xoff = true ∧ s.xon p * fifoSize p ≤ 16 * s.fifoFill p)) : txPauseSend p s = s := by
  cases ht : s.txPause p
  case false => exact txPauseSend_off (.inl ht)
  case true =>
    cases hl : s.flag Reg.MAC_LINK_UP p
    case false => exact txPauseSend_off (.inr hl)
    case true =>
      rw [txPauseSend_linked ht hl]
      obtain ⟨hx, hf⟩ | ⟨hx, hf⟩ := h
      · simp [hx, Nat.not_le.mpr hf]
      · simp [hx, Nat.not_lt.mpr hf]

theorem txPauseRepeat_due {p : Nat} {s : State} (ht : s.txPause p = true) (hx : (s.mac p).xoff = true)
    (hf : s.xon p * fifoSize p ≤ 16 * s.fifoFill p) (hl : s.flag Reg.MAC_LINK_UP p = true) :
    txPauseRepeat p s = s.sendPause p 0xFFFF := if_pos (by simp [ht, hx, hf, hl])

theorem txPauseRepeat_idle {p : Nat} {s : State}
    (h : s.txPause p = false ∨ (s.mac p).xoff = false ∨ s.flag Reg.MAC_LINK_UP p = false) : txPauseRepeat p s = s :=
  if_neg (by obtain h | h | h := h <;> simp [h])

end Sys2Proof.Machine

namespace Sys2Proof
open Machine

/-- Settles O22: a control frame without an error is one of the cases of its opcode; a pause ends, and is sent, where it is due. -/
theorem pausesAreHonouredSentAndEnd : Obligations.PausesAreHonouredSentAndEnd := by
  unfold Obligations.PausesAreHonouredSentAndEnd
  refine ⟨?_, ?_, ?_, ?_, ?_, ?_, ?_, ?_, ?_, ?_, ?_, ?_, ?_, ?_, ?_⟩
  case refine_1 =>
    intro p b s hl hc hr hm hn hf ho hd ht hp hi
    exact congrArg Host.Outcome.next (pauseFrameRx_honoured ⟨hl, hc, hr, hm, hn, hf⟩ ho (.inl rfl) rfl hi ht hd hp)
  case refine_2 =>
    intro p b s hl hc hr hm hn hf ho hd ht hp hi
    exact congrArg Host.Outcome.next (pauseFrameRx_honoured ⟨hl, hc, hr, hm, hn, hf⟩ ho (.inr rfl) rfl hi ht hd hp)
  case refine_3 =>
    intro p b s u hl hc hr hm hn hf ho hu hi
    exact congrArg Host.Outcome.next (pauseFrameRx_ignored ⟨hl, hc, hr, hm, hn, hf⟩ rfl ho hu hi)
  case refine_4 =>
    intro p b s hl hc hr hm hn hf h1 h101
    exact congrArg Host.Outcome.next (pauseFrameRx_unknown ⟨hl, hc, hr, hm, hn, hf⟩ h1 h101)
  case refine_5 =>
    intro p s
    rfl
  case refine_6 =>
    intro p c s
    rfl
  case refine_7 =>
    intro p s at_ h ht
    exact congrArg Host.Outcome.next (pauseWatchdogExpiry_held h ht)
  case refine_8 =>
    intro p s h
    exact congrArg Host.Outcome.next (pauseWatchdogExpiry_idle h)
  case refine_9 =>
    intro p s
    rfl
  case refine_10 =>
    intro p s ht hl hx hf
    exact congrArg Host.Outcome.next ((txPauseSend_linked ht hl).trans (if_pos ⟨hx, hf⟩))
  case refine_11 =>
    intro p s ht hl hx hf
    exact congrArg Host.Outcome.next ((txPauseSend_linked ht hl).trans ((if_neg (by simp [hx])).trans (if_pos ⟨hx, hf⟩)))
  case refine_12 =>
    intro p s h
    exact congrArg Host.Outcome.next (txPauseSend_off h)
  case refine_13 =>
    intro p s h
    exact congrArg Host.Outcome.next (txPauseSend_between h)
  case refine_14 =>
    intro p s ht hx hf hl
    exact congrArg Host.Outcome.next (txPauseRepeat_due ht hx hf hl)
  case refine_15 =>
    intro p s h
    exact congrArg Host.Outcome.next (txPauseRepeat_idle h)

end Sys2Proof

/-! The 10BASE-T1S PHYs and the test modes (R225, R228–R232): one equation per case of each command. -/

namespace Sys2Proof.Machine

/-! ### What a MAC holds -/

/-- The MAC of a port is what was last set. -/
@[simp] theorem State.macSet_mac (s : State) (p : Nat) (x : Mac) : (s.macSet p x).mac p = x := by
  simp [State.mac, AMap.get, AMap.find_ins_same]

/-- The credits are not held in the MACs. -/
theorem State.creditSync_macs (s : State) (p : Nat) : (s.creditSync p).macs = s.macs := by
  refine keeps_foldl (P := fun u => u.macs = s.macs) (fun u v hu => ?_) rfl
  exact keeps_ite (P := fun u => u.macs = s.macs) hu hu

/-! ### T1S_STATE_REQUEST and T1S_STATE_REACHED (R228, R229) -/

section t1s
variable {p n : Nat} {s : State} (hp : IsT1s p n)
include hp

theorem t1sStateRequest_granted {m : Master} {st : Nat} (hg : (s.sent m).grants m (0x108 + n)) (hst : st < 4) :
    t1sStateRequest m p st s = (s.sent m).t1sRequest p st := by
  rw [← hp.page] at hg
  rw [t1sStateRequest, s.direct_of_grants m _ _ _ hg, Nat.mod_eq_of_lt hst]

theorem t1sStateReached_reached (hr : s.pllRuns = true) (hd : bit s.pwr.powered 15 = true)
    (hh : s.pageHeld (0x108 + n) = false) : t1sStateReached p s = s.t1sEnter p (s.get Reg.T1S_CTRL_REQ n) := by
  rw [t1sStateReached, hp.page, hp.phy]
  exact if_pos (by simp [hp.tp, hr, hd, hh])

/-! ### PLCA_BEACON_TIMEOUT and PLCA_BEACON_RX (R230) -/

theorem plcaBeaconTimeout_lost (hf : s.follower p = true) (hr : s.pllRuns = true)
    (ha : s.flag Reg.T1S_STAT_PLCA_ACTIVE n = true) :
    plcaBeaconTimeout p s = (s.put Reg.T1S_STAT_PLCA_ACTIVE 0 n).raise Reg.T1S_IRQ_PLCA_LOST n := by
  rw [plcaBeaconTimeout, hp.phy]
  exact if_pos (by simp [hf, hr, ha])

/-- A beacon in NORMAL or LISTEN is counted; a follower without PLCA resumes it (assumption log 56). -/
theorem plcaBeaconRx_counted {u : State} (hr : s.pllRuns = true) (hs : s.get Reg.T1S_STAT_STATE n < 2)
    (hu : u = s.inc Reg.T1S_BEACONS_COUNT 1 n) :
    plcaBeaconRx p s = if u.follower p = true ∧ u.flag Reg.T1S_STAT_PLCA_ACTIVE n = false then
      (u.put Reg.T1S_STAT_PLCA_ACTIVE 1 n).raise Reg.T1S_IRQ_PLCA_BACK n else u := by
  subst hu
  simp [plcaBeaconRx, hp.tp, hp.phy, hr, Nat.not_le.mpr hs]

/-! ### T1S_COLLISION (R231) -/

/-- A collision before the sixteenth attempt is counted, and the copy tried again. -/
theorem t1sCollision_retries {c : Copy} (hr : s.pllRuns = true)
    (hc : s.clr.copies.find? (fun c => c.port == p && c.st == .sending) = some c) (hn : (s.mac p).attempts < 15) :
    t1sCollision p s =
      (s.inc Reg.T1S_COLL_COUNT 1 n).macSet p { s.mac p with attempts := (s.mac p).attempts + 1 } := by
  have hn' : ((s.inc Reg.T1S_COLL_COUNT 1 n).mac p).attempts + 1 < 16 := Nat.succ_lt_succ hn
  simp only [t1sCollision, hp.tp, hp.phy, hr, hc, Bool.not_true, Bool.or_self, Bool.false_eq_true, if_false, hn', if_true]
  rfl

/-- The collision of the sixteenth attempt is reported, and the copy dropped. -/
theorem t1sCollision_drops {c : Copy} (hr : s.pllRuns = true)
    (hc : s.clr.copies.find? (fun c => c.port == p && c.st == .sending) = some c) (hn : 15 ≤ (s.mac p).attempts) :
    t1sCollision p s =
      ((((((s.inc Reg.T1S_COLL_COUNT 1 n).macSet p { s.mac p with attempts := 0 }).inc Reg.T1S_XCOLL_COUNT 1 n).raise
        Reg.T1S_IRQ_XCOLL n).creditSync p).rmCopy c.id).reap := by
  have hn' : ¬ ((s.inc Reg.T1S_COLL_COUNT 1 n).mac p).attempts + 1 < 16 := Nat.not_lt.mpr (Nat.succ_le_succ hn)
  simp only [t1sCollision, hp.tp, hp.phy, hr, hc, Bool.not_true, Bool.or_self, Bool.false_eq_true, if_false, hn']
  rfl

/-! ### CABLE_GO and CABLE_CHECK_DONE (R232) -/

/-- A cable check starts in STANDBY alone. -/
theorem cableGo_granted {m : Master} (hg : (s.sent m).grants m (0x108 + n)) : cableGo m p s =
    if (s.sent m).get Reg.T1S_STAT_STATE n = 2 then (s.sent m).put Reg.T1S_STAT_CABLE 1 n
    else (s.sent m).err (0x108 + n) 0x080 ecSTATE m := by
  rw [← hp.page] at hg
  rw [cableGo, s.direct_of_grants m _ _ _ hg, State.cableStart, hp.page, hp.phy]

theorem cableCheckDone_ends {r : Nat} (h : s.get Reg.T1S_STAT_CABLE n = 1) :
    cableCheckDone p r s = (s.put Reg.T1S_STAT_CABLE r n).raise Reg.T1S_IRQ_CABLE_DONE n := by
  rw [cableCheckDone, hp.phy]
  exact if_pos (by simp [hp.tp, h])

end t1s

/-- Without its reference a T1S PHY has no events (R338 step 5, assumption log 1). -/
theorem t1sEvents_idle {p : Nat} {s : State} (h : s.pllRuns = false) : t1sStateReached p s = s ∧ plcaBeaconRx p s = s ∧
    plcaBeaconTimeout p s = s ∧ t1sCollision p s = s :=
  ⟨if_neg (by simp [h]), if_pos (by simp [h]), if_neg (by simp [h]), if_pos (by simp [h])⟩

/-! ### TEST_MODE_SET (R225) -/

theorem testModeSet_mac {m : Master} {p l : Nat} {s : State} (hg : (s.sent m).grants m (0x0D0 + p)) :
    testModeSet m p (.mac l) s = ((s.sent m).put Reg.MAC_TEST_LOOP l p).testSync p := s.direct_of_grants m _ _ _ hg

theorem testModeSet_sds {m : Master} {p l tx rx : Nat} {s : State} (hg : (s.sent m).grants m (0x0F0 + p)) (hp : p < 24) :
    testModeSet m p (.sds l tx rx) s = ((((s.sent m).put Reg.SDS_TEST_LOOP l p).put Reg.SDS_TEST_PRBS_TX tx p).put
      Reg.SDS_TEST_PRBS_RX rx p).testSync p :=
  (if_neg (Nat.not_le.mpr hp)).trans (s.direct_of_grants m _ _ _ hg)

end Sys2Proof.Machine

namespace Sys2Proof
open Machine

/-- Settles O23: each event of a PHY is one of the equations above while its PLL has a reference, and nothing without. -/
theorem t1sPortsFollowTheirRequests : Obligations.T1sPortsFollowTheirRequests := by
  unfold Obligations.T1sPortsFollowTheirRequests
  refine ⟨?_, ?_, ?_, ?_, ?_, ?_, ?_, ?_, ?_, ?_, ?_, ?_⟩
  case refine_1 =>
    rintro m t st z _ rfl hg
    exact congrArg Host.Outcome.next (t1sStateRequest_granted (isT1s t) hg st.isLt)
  case refine_2 =>
    intro t s hr hd hh
    exact congrArg Host.Outcome.next (t1sStateReached_reached (isT1s t) hr hd hh)
  case refine_3 =>
    intro t s hf hr ha
    exact congrArg Host.Outcome.next (plcaBeaconTimeout_lost (isT1s t) hf hr ha)
  case refine_4 =>
    intro t s hr hs hf ha
    exact congrArg Host.Outcome.next ((plcaBeaconRx_counted (isT1s t) hr hs rfl).trans (if_pos ⟨hf, ha⟩))
  case refine_5 =>
    intro t s c hr hc hn
    exact congrArg Host.Outcome.next (t1sCollision_retries (isT1s t) hr hc hn)
  case refine_6 =>
    intro t s c hr hc hn
    refine ⟨_, congrArg Host.Outcome.next (t1sCollision_drops (isT1s t) hr hc hn), ?_, ?_⟩
    · rw [State.creditSync_get]
      exact State.get_raise_bit (.inr (.inr rfl)) rfl
    · rw [State.mac, State.creditSync_macs]
      exact congrArg Mac.attempts (State.macSet_mac _ _ _)
  case refine_7 =>
    intro t s hr
    obtain ⟨hreached, hbeacon, htimeout, hcollision⟩ := t1sEvents_idle (p := 24 + t.val) hr
    exact ⟨congrArg Host.Outcome.next hreached, congrArg Host.Outcome.next hbeacon, congrArg Host.Outcome.next htimeout,
      congrArg Host.Outcome.next hcollision⟩
  case refine_8 =>
    rintro m t z _ rfl hg hs
    exact congrArg Host.Outcome.next ((cableGo_granted (isT1s t) hg).trans (if_pos hs))
  case refine_9 =>
    rintro m t z _ rfl hg hs
    exact congrArg Host.Outcome.next ((cableGo_granted (isT1s t) hg).trans (if_neg hs))
  case refine_10 =>
    intro t r s h
    exact congrArg Host.Outcome.next (cableCheckDone_ends (isT1s t) h)
  case refine_11 =>
    rintro m p l z _ rfl hg
    exact congrArg Host.Outcome.next (testModeSet_mac hg)
  case refine_12 =>
    rintro m p l tx rx z _ rfl hg hp
    exact congrArg Host.Outcome.next (testModeSet_sds hg hp)

end Sys2Proof

/-! CAN reception (R238, R239, R265): the error counters, and one equation per case of each command. -/

namespace Sys2Proof.Machine

/-! ### Error counters and confinement (R239) -/

theorem State.canLive_iff {s : State} {c : Nat} : s.canLive c = true ↔ s.get Reg.CAN_STAT_STATE c = csINTEGRATING ∨
    s.get Reg.CAN_STAT_STATE c = csACTIVE ∨ s.get Reg.CAN_STAT_STATE c = csPASSIVE := by
  simp [State.canLive, or_assoc]

/-- A live controller is in none of the states that take no part in traffic. -/
theorem State.state_ne_of_canLive {s : State} {c st : Nat} (h : s.canLive c = true)
    (hst : st = csOFF ∨ st = csBUSOFF ∨ st = csRESTRICTED) : s.get Reg.CAN_STAT_STATE c ≠ st := by
  intro e
  rw [State.canLive_iff, e] at h
  unfold csOFF csINTEGRATING csACTIVE csPASSIVE csBUSOFF csRESTRICTED at *
  omega

theorem State.canLive_false {s : State} {c st : Nat} (h : s.get Reg.CAN_STAT_STATE c = st)
    (hst : st = csOFF ∨ st = csBUSOFF ∨ st = csRESTRICTED) : s.canLive c = false :=
  Bool.eq_false_iff.mpr fun hl => State.state_ne_of_canLive hl hst h

theorem State.recDown_low {s : State} {c : Nat} (h : s.get Reg.CAN_STAT_REC c ≤ 127) :
    s.recDown c = s.put Reg.CAN_STAT_REC (s.get Reg.CAN_STAT_REC c - 1) c := if_neg (Nat.not_lt.mpr h)

/-- From above 127 REC falls to a free value of 119 to 127. -/
theorem State.recDown_high {s : State} {c : Nat} (h : 127 < s.get Reg.CAN_STAT_REC c) :
    119 ≤ (s.recDown c).get Reg.CAN_STAT_REC c ∧ (s.recDown c).get Reg.CAN_STAT_REC c ≤ 127 := by
  have hd : (s.draw 9).1 < 9 := Nat.mod_lt _ (by decide)
  have hr : (s.recDown c).get Reg.CAN_STAT_REC c = (119 + (s.draw 9).1) % 2 ^ 8 :=
    (congrArg (fun t : State => t.get Reg.CAN_STAT_REC c) (if_pos h)).trans (State.get_put_held (by decide))
  omega

/-- The state of a live controller follows its error counters. -/
theorem State.canConfine_state {s : State} {c : Nat} (h : s.canLive c = true) :
    (s.canConfine c).get Reg.CAN_STAT_STATE c =
      if 127 < s.get Reg.CAN_STAT_TEC c ∨ 127 < s.get Reg.CAN_STAT_REC c then csPASSIVE else csACTIVE := by
  rw [State.canLive_iff] at h
  simp only [State.canConfine, Bool.or_eq_true, decide_eq_true_eq, or_assoc, h, if_true]
  generalize hst : (if 127 < s.get Reg.CAN_STAT_TEC c ∨ 127 < s.get Reg.CAN_STAT_REC c then csPASSIVE else csACTIVE) = st
  have hlt : st < 2 ^ 3 := by subst hst; split <;> decide
  have hput : (s.put Reg.CAN_STAT_STATE st c).get Reg.CAN_STAT_STATE c = st :=
    (State.get_put_held (by decide)).trans (Nat.mod_eq_of_lt hlt)
  split
  · exact (State.get_raise_apart (by decide)).trans hput
  · exact hput

/-! ### CAN_FRAME_RX (R238, R239) -/

/-- A controller that is OFF or BUSOFF takes nothing (assumption log 1). -/
theorem canFrameRx_outOfService {c ago : Nat} {w : CanWire} {s : State}
    (h : s.get Reg.CAN_STAT_STATE c = csOFF ∨ s.get Reg.CAN_STAT_STATE c = csBUSOFF) : canFrameRx c w ago s = s := by
  obtain h | h := h
  · simp [canFrameRx, State.canLive_false h (.inl rfl), h, csOFF, csRESTRICTED]
  · simp [canFrameRx, State.canLive_false h (.inr (.inl rfl)), h, csBUSOFF, csRESTRICTED]

/-- A live controller re-integrates at a format that it may not take. -/
theorem canFrameRx_foreign {c ago : Nat} {w : CanWire} {s : State} (hl : s.canLive c = true) (ht : s.canTakes c w.fmt = false) :
    canFrameRx c w ago s = s.put Reg.CAN_STAT_STATE csINTEGRATING c := by
  simp [canFrameRx, hl, ht, State.state_ne_of_canLive hl (.inr (.inr rfl))]

/-- A restricted controller ignores a format that it may not take. -/
theorem canFrameRx_foreign_restricted {c ago : Nat} {w : CanWire} {s : State} (hr : s.get Reg.CAN_STAT_STATE c = csRESTRICTED)
    (ht : s.canTakes c w.fmt = false) : canFrameRx c w ago s = s := by
  simp [canFrameRx, hr, ht]

/-- The message of a frame that controller c has received. -/
def State.canMessage (s : State) (c ago : Nat) (w : CanWire) : Msg :=
  ⟨c, w.fmt, w.id, w.ide, w.rtr, w.brs, w.esi, w.sec, w.sdt, w.vcid, w.af, w.data, s.get Reg.LST_EPOCH_CUR, s.now, s.dom 0 - ago,
    s.dom 1 - ago, false⟩

/-- A frame that a controller takes moves its counters, is traffic on its cluster, and joins the receive FIFO where it fits. -/
theorem canFrameRx_taken {c ago : Nat} {w : CanWire} {s v u : State}
    (hl : s.get Reg.CAN_STAT_STATE c = csRESTRICTED ∨ s.canLive c = true) (ht : s.canTakes c w.fmt = true)
    (hv : v = if s.get Reg.CAN_STAT_STATE c = csRESTRICTED then s else (s.recDown c).canConfine c)
    (hu : u = (v.validTraffic (v.clusterOfCan c)).kaSeen (.can c w.id w.ide)) :
    canFrameRx c w ago s =
      if 64 ≤ (u.can c).rx.length ∨ 16384 < (u.can c).rxBytes + (if w.rtr then 0 else w.data.length) then u.rxOverflow c
      else (u.canSet c { u.can c with rx := (u.can c).rx ++ [u.canMessage c ago w] }).inc Reg.CAN_RX_OK_COUNT 1 c := by
  subst hv hu
  have hin : (s.canLive c || s.get Reg.CAN_STAT_STATE c == csRESTRICTED) = true := by simpa using hl.symm
  simp only [canFrameRx, hin, ht, Bool.not_true, Bool.false_eq_true, if_false, Bool.or_eq_true, decide_eq_true_eq, beq_iff_eq]
  rfl

end Sys2Proof.Machine

namespace Sys2Proof
open Machine

/-- Settles O24: a frame that a controller takes fits its FIFO or not; any other is one of the equations above. -/
theorem canFramesAreReceived : Obligations.CanFramesAreReceived := by
  unfold Obligations.CanFramesAreReceived
  refine ⟨?_, ?_, ?_, ?_, ?_, ?_, ?_, ?_, ?_⟩
  case refine_1 =>
    intro c w ago s v u hl ht hv hu hn hb
    exact congrArg Host.Outcome.next ((canFrameRx_taken hl ht hv hu).trans (if_neg (by omega)))
  case refine_2 =>
    intro c w ago s v u hl ht hv hu hfull
    exact congrArg Host.Outcome.next ((canFrameRx_taken hl ht hv hu).trans (if_pos hfull))
  case refine_3 =>
    intro c s h
    exact State.recDown_low h
  case refine_4 =>
    intro c s h
    exact State.recDown_high h
  case refine_5 =>
    intro c s h
    exact State.canConfine_state h
  case refine_6 =>
    intro c w ago s h
    exact congrArg Host.Outcome.next (canFrameRx_outOfService h)
  case refine_7 =>
    intro c w ago s hl ht
    exact congrArg Host.Outcome.next (canFrameRx_foreign hl ht)
  case refine_8 =>
    intro c w ago s hr ht
    exact congrArg Host.Outcome.next (canFrameRx_foreign_restricted hr ht)
  case refine_9 =>
    intro c k s
    rfl

end Sys2Proof

/-! CAN transmission (R240, R241, R258, R259): what a channel holds, what a failed transmission leaves, and one equation per case of
each command. -/

namespace Sys2Proof.Machine

/-! ### What a channel holds -/

/-- A CAN channel is what was last set. -/
@[simp] theorem State.canSet_can (s : State) (c : Nat) (x : Can) : (s.canSet c x).can c = x := by
  simp [State.can, State.canSet, AMap.get, AMap.find_ins_same]

@[simp] theorem State.put_can (s : State) (f : Fld) (v i j m c : Nat) : (s.put f v i j m).can c = s.can c := rfl

/-- CAN_SCHED is read from the applied Last: of the registers, only LST_STAT.LOADED moves it. -/
theorem State.put_canFlag {s : State} {f : Fld} {v i c k : Nat} (h : f.apart Reg.LST_STAT_LOADED = true) :
    (s.put f v i).canFlag c k = s.canFlag c k := by
  have hl : (s.put f v i).flag Reg.LST_STAT_LOADED = s.flag Reg.LST_STAT_LOADED := congrArg (· == 1) (State.get_put_apart h)
  have hsec : (s.put f v i).section_ 0xA = s.section_ 0xA := by simp only [State.section_, hl, State.put_lst]
  simp only [State.canFlag, State.canHdr, State.canSched, State.canKept, State.put_awl, State.secLE, State.secBytes, hsec,
    State.secByte, State.put_lst]

/-! ### A transmission that fails (R259) -/

/-- The transmission of channel c has ended: of the channel its slots may have changed too, and elsewhere only counts and interrupts. -/
structure State.TxEnded (s : State) (c : Nat) (t : State) : Prop where
  can : ∃ slots, t.can c = { s.can c with sending := .idle, slots := slots }
  busOffs : t.get Reg.CAN_BUSOFFS_COUNT c = s.get Reg.CAN_BUSOFFS_COUNT c
  canFlag : ∀ k, t.canFlag c k = s.canFlag c k
  clr : t.clr = s.clr
  lst : t.lst = s.lst
  tim : t.tim = s.tim

theorem State.TxEnded.put {s t : State} {c : Nat} (h : s.TxEnded c t) {f : Fld} (hb : f.apart Reg.CAN_BUSOFFS_COUNT = true)
    (hl : f.apart Reg.LST_STAT_LOADED = true) (v i : Nat) : s.TxEnded c (t.put f v i) :=
  { h with
    busOffs := (State.get_put_apart hb).trans h.busOffs
    canFlag := fun k => (State.put_canFlag hl).trans (h.canFlag k) }

theorem State.txFailed_ended (s : State) (c : Nat) : s.TxEnded c (s.txFailed c) := by
  have hset : ∀ slots, s.TxEnded c (s.canSet c { s.can c with sending := .idle, slots := slots }) := fun slots =>
    ⟨⟨slots, State.canSet_can ..⟩, rfl, fun _ => rfl, rfl, rfl, rfl⟩
  unfold State.txFailed
  extract_lets x
  split
  · split
    · exact ((hset _).put (by decide) (by decide) _ _).put (by decide) (by decide) _ _
    · split
      · exact (hset _).put (by decide) (by decide) _ _
      · exact hset _
  · exact hset _

/-- Where no new entries wait, the end of a frame settles nothing. -/
theorem State.canSettle_idle {s : State} {c : Nat} (h : (s.can c).due = false) : s.canSettle c = s := if_neg (by simp [h])

/-! ### CAN_TX_START and CAN_TX_DONE (R240, R259) -/

theorem canTxStart_idle {c : Nat} {s : State} (h : s.canLive c = false ∨ (s.can c).sending ≠ .idle) : canTxStart c s = s :=
  if_pos (by obtain h | h := h <;> simp [h])

/-- A keep-alive that waits is sent before any other frame (R366). -/
theorem canTxStart_keepAlive {c : Nat} {s u : State} (hl : s.canLive c = true) (hi : (s.can c).sending = .idle)
    (hu : u = (s.canConfine c).ageBuffers c) (hk : (u.can c).ka.isSome = true) :
    canTxStart c s = (u.canSet c { u.can c with sending := .keepAlive }).stampCan c := by
  subst hu
  exact (if_neg (by simp [hl, hi])).trans (if_pos hk)

/-- The end of a frame in transmission: success, a lost arbitration, or an error. -/
theorem canTxDone_ends {c : Nat} {s u : State} (h : (s.can c).sending ≠ .idle)
    (hu : u = (s.txFailed c).inc Reg.CAN_ERR_FRAMES_COUNT 1 c) :
    canTxDone c .ok s = ((s.txSent c).canConfine c).canSettle c ∧ canTxDone c .lostArbitration s = (s.txFailed c).canSettle c ∧
    canTxDone c .error s =
      ((u.put Reg.CAN_STAT_TEC (min 255 (u.get Reg.CAN_STAT_TEC c + 8)) c).canConfine c).canSettle c := by
  subst hu
  have hs : ¬ ((s.can c).sending == .idle) = true := by simpa using h
  exact ⟨if_neg hs, if_neg hs, if_neg hs⟩

/-! ### CAN_BUS_OFF and the recovery (R241) -/

/-- Channel c gone bus-off, before entries that wait for the end of a frame take effect. -/
def State.wentBusOff (s : State) (c : Nat) : State :=
  let u := ((s.txFailed c).put Reg.CAN_STAT_STATE csBUSOFF c).inc Reg.CAN_BUSOFFS_COUNT 1 c
  (u.canSet c { u.can c with recovering := false, waiting := u.canFlag c 4 }).raise Reg.CAN_IRQ_BUS_OFF c

theorem State.wentBusOff_can (s : State) (c : Nat) : ∃ slots, (s.wentBusOff c).can c =
    { s.can c with sending := .idle, slots := slots, recovering := false, waiting := s.canFlag c 4 } := by
  obtain ⟨slots, hcan⟩ := (s.txFailed_ended c).can
  refine ⟨slots, (State.canSet_can ..).trans ?_⟩
  rw [State.inc, State.put_canFlag (by decide), State.put_canFlag (by decide), (s.txFailed_ended c).canFlag, State.put_can,
    State.put_can, hcan]

theorem State.wentBusOff_shows (s : State) (c : Nat) : (s.wentBusOff c).get Reg.CAN_STAT_STATE c = csBUSOFF ∧
    (s.wentBusOff c).get Reg.CAN_IRQ_BUS_OFF c = 1 ∧ (s.wentBusOff c).get Reg.CAN_BUSOFFS_COUNT c =
      min (2 ^ Reg.CAN_BUSOFFS_COUNT.width - 1) (s.get Reg.CAN_BUSOFFS_COUNT c + 1) := by
  refine ⟨?_, State.get_raise_bit (.inr (.inr rfl)) rfl, ?_⟩
  · exact (State.get_raise_apart (by decide)).trans ((State.get_put_apart (by decide)).trans (State.get_put_held (by decide)))
  · refine (State.get_raise_apart (by decide)).trans ((State.get_inc_held (by decide)).trans ?_)
    rw [State.get_put_apart (by decide), (s.txFailed_ended c).busOffs]

theorem State.wentBusOff_frame (s : State) (c : Nat) :
    (s.wentBusOff c).clr = s.clr ∧ (s.wentBusOff c).lst = s.lst ∧ (s.wentBusOff c).tim = s.tim :=
  ⟨(s.txFailed_ended c).clr, (s.txFailed_ended c).lst, (s.txFailed_ended c).tim⟩

theorem canBusOff_live {c : Nat} {s : State} (hl : s.canLive c = true) (hd : (s.can c).due = false) :
    canBusOff c s = s.wentBusOff c := by
  obtain ⟨slots, hcan⟩ := s.wentBusOff_can c
  exact (if_neg (by simp [hl])).trans (State.canSettle_idle ((congrArg Can.due hcan).trans hd))

theorem State.startRecovery_busOff {s : State} {c : Nat} (h : s.get Reg.CAN_STAT_STATE c = csBUSOFF) :
    s.startRecovery c = s.canSet c { s.can c with recovering := true, waiting := false } := if_pos h

theorem canRecover_granted {m : Master} {c : Nat} {s : State} (h : (s.sent m).grants m (0x120 + c)) :
    canRecover m c s = (s.sent m).startRecovery c := s.direct_of_grants m _ _ _ h

/-- The end of a recovery: both error counters are 0. -/
theorem canRecovered_ends {c : Nat} {s : State} (hr : (s.can c).recovering = true) (hs : s.get Reg.CAN_STAT_STATE c = csBUSOFF) :
    canRecovered c s = ((((s.canSet c { s.can c with recovering := false }).put Reg.CAN_STAT_TEC 0 c).put Reg.CAN_STAT_REC 0 c).put
      Reg.CAN_STAT_STATE (if (s.can c).hold = 1 then csRESTRICTED else csACTIVE) c).raise Reg.CAN_IRQ_RECOVERED c := by
  simp [canRecovered, hr, hs]

/-! ### CAN_SLOT_START and CAN_SLOT_WINDOW_CLOSE (R258, R259) -/

/-- A slot that does not run, or is empty, changes nothing. -/
theorem canSlotStart_idle {c n : Nat} {s : State} (h : s.slotRuns c n = false ∨ AMap.find (s.can c).slots n = none) :
    canSlotStart c n s = s := by
  obtain h | h := h <;> simp [canSlotStart, h]

/-- A slot with a frame opens its WINDOW, or discards a frame older than the reference cycle. -/
theorem canSlotStart_runs {c n : Nat} {m : Msg} {s : State} (hr : s.slotRuns c n = true)
    (hm : AMap.find (s.can c).slots n = some m) :
    canSlotStart c n s =
      if (s.refLace c).oper.cycle < s.now - m.at_ then
        (s.canSet c { s.can c with slots := AMap.del (s.can c).slots n }).inc Reg.CAN_AGED_COUNT 1 c
      else s.canSet c { s.can c with windows := s.slotQueue c n ((s.can c).windows.filter (· != n)) } := by
  simp [canSlotStart, hr, hm]

theorem canSlotWindowClose_open {c n : Nat} {s : State} (h : (s.can c).windows.contains n = true) :
    canSlotWindowClose c n s =
      let u := s.canSet c { s.can c with windows := (s.can c).windows.filter (· != n), slots := AMap.del (s.can c).slots n }
      if (AMap.find (s.can c).slots n).isSome = true then u.slotMissed c else u := if_neg (by simpa using h)

theorem canSlotWindowClose_closed {c n : Nat} {s : State} (h : (s.can c).windows.contains n = false) :
    canSlotWindowClose c n s = s := if_pos (by simpa using h)

end Sys2Proof.Machine

namespace Sys2Proof
open Machine

/-- Settles O25: each command of a channel is one of the equations above; bus-off is read off the state that it leaves. -/
theorem canChannelsSendRecoverAndSlot : Obligations.CanChannelsSendRecoverAndSlot := by
  unfold Obligations.CanChannelsSendRecoverAndSlot
  refine ⟨?_, ?_, ?_, ?_, ?_, ?_, ?_, ?_, ?_, ?_, ?_, ?_, ?_⟩
  case refine_1 =>
    intro c s u hl hi hu hk
    exact congrArg Host.Outcome.next (canTxStart_keepAlive hl hi hu hk)
  case refine_2 =>
    intro c s h
    exact congrArg Host.Outcome.next (canTxStart_idle h)
  case refine_3 =>
    intro c s h
    obtain ⟨hok, hlost, herror⟩ := canTxDone_ends h rfl
    exact ⟨congrArg Host.Outcome.next hok, congrArg Host.Outcome.next hlost, congrArg Host.Outcome.next herror⟩
  case refine_4 =>
    intro c s hl hd
    obtain ⟨hstate, hirq, hcount⟩ := s.wentBusOff_shows c.val
    obtain ⟨slots, hcan⟩ := s.wentBusOff_can c.val
    exact ⟨_, congrArg Host.Outcome.next (canBusOff_live hl hd), hstate, hirq, hcount, congrArg Can.recovering hcan,
      congrArg Can.waiting hcan, congrArg Can.sending hcan, s.wentBusOff_frame c.val⟩
  case refine_5 =>
    intro c s hw hs
    exact congrArg Host.Outcome.next ((if_pos hw).trans (State.startRecovery_busOff hs))
  case refine_6 =>
    rintro m c z _ rfl hg hs
    exact congrArg Host.Outcome.next ((canRecover_granted hg).trans (State.startRecovery_busOff hs))
  case refine_7 =>
    rintro m c z _ rfl hg hs
    exact congrArg Host.Outcome.next ((canRecover_granted hg).trans (if_neg hs))
  case refine_8 =>
    intro c s hr hs
    exact congrArg Host.Outcome.next (canRecovered_ends hr hs)
  case refine_9 =>
    intro c n m s hr hm ha
    exact congrArg Host.Outcome.next ((canSlotStart_runs hr hm).trans (if_neg (Nat.not_lt.mpr ha)))
  case refine_10 =>
    intro c n m s hr hm ha
    exact congrArg Host.Outcome.next ((canSlotStart_runs hr hm).trans (if_pos ha))
  case refine_11 =>
    intro c n s h
    exact congrArg Host.Outcome.next (canSlotStart_idle h)
  case refine_12 =>
    intro c n s h
    exact ⟨_, rfl, congrArg Host.Outcome.next (canSlotWindowClose_open h)⟩
  case refine_13 =>
    intro c n s h
    exact congrArg Host.Outcome.next (canSlotWindowClose_closed h)

end Sys2Proof

/-! LIN (R260–R263): what a channel holds, how an entry begins, and one equation per case of each command. -/

namespace Sys2Proof.Machine

/-! ### What a channel holds -/

/-- Of two values listed for one key the later stays. -/
theorem AMap.ins_ins {V : Type} (m : AMap V) (k : Nat) (v w : V) : AMap.ins (AMap.ins m k v) k w = AMap.ins m k w := by
  induction m with
  | nil => simp [AMap.ins]
  | cons c r ih =>
    obtain hlt | rfl | hgt := Nat.lt_trichotomy k c.1
    · simp [AMap.ins, hlt]
    · simp [AMap.ins]
    · simp [AMap.ins, Nat.not_lt_of_gt hgt, Nat.ne_of_gt hgt, ih]

/-- A LIN channel is what was last set. -/
@[simp] theorem State.linSet_lin (s : State) (l : Nat) (x : Lin) : (s.linSet l x).lin l = x := by
  simp [State.lin, State.linSet, AMap.get, AMap.find_ins_same]

@[simp] theorem State.linSet_linSet (s : State) (l : Nat) (x y : Lin) : (s.linSet l x).linSet l y = s.linSet l y := by
  simp [State.linSet, State.awlSet, AMap.ins_ins]

@[simp] theorem State.put_lin (s : State) (f : Fld) (v i j m l : Nat) : (s.put f v i j m).lin l = s.lin l := rfl

/-! ### LIN_HEADER_RX (R261) -/

section linHeaderRx
variable {l i r : Nat} {b : Bool} {s : State} (hr : s.linRuns l = true) (hc : s.linCommander l = false)
include hr hc

/-- A rate more than 14 % off is a sync error. -/
theorem linHeaderRx_syncError (h : 14 * s.linRate l < 100 * (r - s.linRate l) ∨ 14 * s.linRate l < 100 * (s.linRate l - r)) :
    linHeaderRx l i r b s = (s.inc Reg.LIN_SYNC_ERR_COUNT 1 l).raise Reg.LIN_IRQ_SYNC_ERR l := by
  simp [linHeaderRx, hr, hc, h]

/-- After the header of an ID that the channel does not publish it expects the response. -/
theorem linHeaderRx_expects {u v : State} (hup : 100 * (r - s.linRate l) ≤ 14 * s.linRate l)
    (hdown : 100 * (s.linRate l - r) ≤ 14 * s.linRate l)
    (hu : u = (s.put Reg.LIN_STAT_RATE r l).linSet l { s.lin l with wakes := 0, expect := none, event := none })
    (hv : v = (u.validTraffic (u.clusterOfLin l)).kaSeen (.linHeader l)) (hp : v.linPub l i = false) :
    linHeaderRx l i r b s = v.linSet l { v.lin l with expect := some i } := by
  subst hv hu
  simp only [linHeaderRx, hr, hc, Nat.not_lt.mpr hup, Nat.not_lt.mpr hdown, Bool.not_true, Bool.or_false, Bool.false_eq_true,
    decide_false, if_false, State.put_lin, hp]

end linHeaderRx

/-! ### LIN_RESPONSE_RX (R261, R262) -/

/-- With no response expected there is none to receive. -/
theorem linResponseRx_idle {l : Nat} {e : LinEnd} {s : State} (h : (s.lin l).expect = none) : linResponseRx l e s = s := by
  simp [linResponseRx, h]

/-- The response expected ends the expectation; it is counted by how it ended. -/
theorem linResponseRx_expected {l i : Nat} {s u : State} (h : (s.lin l).expect = some i)
    (hu : u = s.linSet l { s.lin l with expect := none, event := none }) :
    (∀ d, d.length = u.linLen l i → linResponseRx l (.ok d) s =
      ((u.inc Reg.LIN_RX_OK_COUNT 1 l).kaSeen (.linResponse l i)).linRoute l i d) ∧
    linResponseRx l .checksum s = u.linChk l ∧ linResponseRx l .bitError s = u.inc Reg.LIN_BIT_ERR_COUNT 1 l := by
  subst hu
  refine ⟨fun d hd => ?_, ?_, ?_⟩ <;> simp only [linResponseRx, h]
  exact if_pos hd

/-! ### LIN_TABLE_WRITE (R261) -/

theorem linTableWrite_granted {m : Master} {l t : Nat} {s : State} (h : (s.sent m).grants m (0x160 + l)) (ht : t < 8) :
    linTableWrite m l t s = (s.sent m).linAsk l t := by
  rw [linTableWrite, s.direct_of_grants m _ _ _ h, Nat.mod_eq_of_lt ht]

/-- A new value of LIN_CTRL.TABLE asks for the table. -/
theorem State.linAsk_new {s u : State} {l t : Nat} (h : s.get Reg.LIN_CTRL_TABLE l ≠ t) (hu : u = s.put Reg.LIN_CTRL_TABLE t l) :
    s.linAsk l t = u.linSet l { u.lin l with req := some t } := by
  subst hu
  exact if_neg h

/-! ### LIN_ENTRY_START (R261) -/

theorem linEntryStart_idle {l : Nat} {b : Bool} {s : State} (h : s.linRuns l = false ∨ s.linCommander l = false) :
    linEntryStart l b s = s := if_pos (by obtain h | h := h <;> simp [h])

theorem State.linMissing_none {s : State} {l : Nat} (h : (s.lin l).expect = none) : s.linMissing l = s := if_neg (by simp [h])

theorem State.linReplace_none {s : State} {l : Nat} (h : (s.lin l).req = none) : s.linReplace l = s := by
  rw [State.linReplace, h]

/-- Entry n.1 of commander l begun, with n.2 to go back to. -/
def State.linBegun (s : State) (l : Nat) (n : (Nat × Nat) × List (Nat × Nat)) : State :=
  ((s.put Reg.LIN_STAT_TABLE n.1.1 l).put Reg.LIN_STAT_ENTRY n.1.2 l).linSet l
    { s.lin l with next := n.1.2 + 1, back := n.2, wakes := 0 }

/-- Commander l sends the header of the entry en that it has begun, or meets a bit error. -/
def State.linSendHeader (s : State) (l : Nat) (en : Nat × Nat × Nat × Nat) (bitErr : Bool) : State :=
  let u := if s.linPub l en.1 || !bitErr then s.validTraffic (s.clusterOfLin l) else s
  if u.linPub l en.1 then (u.inc Reg.LIN_TX_OK_COUNT 1 l).linAnswer l en.1 bitErr true
  else if bitErr then u.inc Reg.LIN_BIT_ERR_COUNT 1 l
  else (u.inc Reg.LIN_TX_OK_COUNT 1 l).linSet l
    { u.lin l with expect := some en.1, event := (if en.2.1 = 1 then some en.2.2.1 else none) }

theorem State.linSendHeader_bitError {s : State} {l : Nat} {en : Nat × Nat × Nat × Nat} (hp : s.linPub l en.1 = false) :
    s.linSendHeader l en true = s.inc Reg.LIN_BIT_ERR_COUNT 1 l := by
  simp [State.linSendHeader, hp]

/-- After the header of an unconditional entry of an ID that it does not publish the commander expects the response. -/
theorem State.linSendHeader_expects {s u : State} {l : Nat} {en : Nat × Nat × Nat × Nat} (ht : en.2.1 = 0)
    (hu : u = s.validTraffic (s.clusterOfLin l)) (hp : u.linPub l en.1 = false) :
    s.linSendHeader l en false =
      (u.inc Reg.LIN_TX_OK_COUNT 1 l).linSet l { u.lin l with expect := some en.1, event := none } := by
  subst hu
  simp [State.linSendHeader, hp, ht]

/-- A commander begins an unconditional entry, where no other table was asked for, no response is missing, and the table does not
start anew. -/
theorem linEntryStart_begins {l : Nat} {b : Bool} {s : State} {n : (Nat × Nat) × List (Nat × Nat)} (hr : s.linRuns l = true)
    (hc : s.linCommander l = true) (hq : (s.lin l).req = none) (he : (s.lin l).expect = none) (hn : s.linNext l = n)
    (h0 : n.1.2 ≠ 0) (ht : (s.linEntry l n.1.1 n.1.2).2.1 = 0) (hs : (s.linEntry l n.1.1 n.1.2).2.2.2 ≠ 0) :
    linEntryStart l b s = (s.linBegun l n).linSendHeader l (s.linEntry l n.1.1 n.1.2) b := by
  have hasked : (s.lin l).req.isSome = false := by simp [hq]
  have hfirst : (n.1.2 == 0) = false := beq_eq_false_iff_ne.mpr h0
  have htype : decide ((s.linEntry l n.1.1 n.1.2).2.1 = 2) = false := by simp [ht]
  simp only [linEntryStart, hr, hc, State.linMissing_none he, State.linReplace_none hq, hasked, hn, hfirst, hs, htype, Bool.not_true,
    Bool.or_self, Bool.false_and, Bool.false_eq_true, if_false, State.put_lin, State.linSet_lin, State.linSet_linSet]
  rfl

/-! ### Wake pulses (R263) -/

theorem linWakeTx_granted {m : Master} {l : Nat} {s : State} (h : (s.sent m).grants m (0x160 + l)) :
    linWakeTx m l s = (s.sent m).linWake l := s.direct_of_grants m _ _ _ h

theorem linWakeRepeat_repeats {l : Nat} {s : State} (h1 : 1 ≤ (s.lin l).wakes) (h3 : (s.lin l).wakes < 3) :
    linWakeRepeat l s = s.linSet l { s.lin l with wakes := (s.lin l).wakes + 1 } := if_pos (by simp [h1, h3])

/-- No pulse follows the third, and none repeats that was not sent. -/
theorem linWakeRepeat_idle {l : Nat} {s : State} (h : (s.lin l).wakes = 0 ∨ 3 ≤ (s.lin l).wakes) : linWakeRepeat l s = s :=
  if_neg (by simp only [Bool.and_eq_true, decide_eq_true_eq]; omega)

end Sys2Proof.Machine

namespace Sys2Proof
open Machine

/-- Settles O26: each command of a channel is one of the equations above. -/
theorem linChannelsScheduleAndWake : Obligations.LinChannelsScheduleAndWake := by
  unfold Obligations.LinChannelsScheduleAndWake
  refine ⟨?_, ?_, ?_, ?_, ?_, ?_, ?_, ?_, ?_, ?_, ?_, ?_, ?_, ?_⟩
  case refine_1 =>
    intro l k r b s hr hc h
    exact congrArg Host.Outcome.next (linHeaderRx_syncError hr hc h)
  case refine_2 =>
    intro l k r b s u hr hc hup hdown hu hp
    exact congrArg Host.Outcome.next (linHeaderRx_expects hr hc hup hdown hu rfl hp)
  case refine_3 =>
    intro l d k s u he hu hd
    obtain ⟨hok, -, -⟩ := linResponseRx_expected he hu
    exact congrArg Host.Outcome.next (hok d hd)
  case refine_4 =>
    intro l k s u he hu
    obtain ⟨-, hchk, hbit⟩ := linResponseRx_expected he hu
    exact ⟨congrArg Host.Outcome.next hchk, congrArg Host.Outcome.next hbit⟩
  case refine_5 =>
    intro l e s h
    exact congrArg Host.Outcome.next (linResponseRx_idle h)
  case refine_6 =>
    rintro m l t z _ rfl hg ht
    exact congrArg Host.Outcome.next ((linTableWrite_granted hg t.isLt).trans (State.linAsk_new ht rfl))
  case refine_7 =>
    intro l b s h
    exact congrArg (fun t => Host.Outcome.next (State.linSync t l.val)) (linEntryStart_idle h)
  case refine_8 =>
    rintro l s v w n hr hc hq he hn h0 ht hs rfl hp hw
    refine ⟨?_, fun hpw => ?_⟩
    · exact congrArg (fun t => Host.Outcome.next (State.linSync t l.val))
        ((linEntryStart_begins hr hc hq he hn.symm h0 ht hs).trans (State.linSendHeader_bitError hp))
    · exact congrArg (fun t => Host.Outcome.next (State.linSync t l.val))
        ((linEntryStart_begins hr hc hq he hn.symm h0 ht hs).trans (State.linSendHeader_expects ht hw hpw))
  case refine_9 =>
    rintro m l z _ rfl hg h
    exact congrArg Host.Outcome.next ((linWakeTx_granted hg).trans (if_neg h))
  case refine_10 =>
    rintro m l z _ rfl hg h
    exact congrArg Host.Outcome.next ((linWakeTx_granted hg).trans (if_pos h))
  case refine_11 =>
    intro l s h1 h3
    exact congrArg Host.Outcome.next (linWakeRepeat_repeats h1 h3)
  case refine_12 =>
    intro l s h
    exact congrArg Host.Outcome.next (linWakeRepeat_idle h)
  case refine_13 =>
    intro l s h
    exact congrArg Host.Outcome.next (if_pos h)
  case refine_14 =>
    intro l s h
    exact congrArg Host.Outcome.next (if_neg (by simp [h]))

end Sys2Proof

/-! The Awl engines (R237, R245, R254, R255, R265): one equation per case of each command. -/

namespace Sys2Proof.Machine

/-! ### AWL_ACCEPT and AWL_WATCHDOG (R237, R245, R265) -/

theorem awlAccept_idle {e : Nat} {s : State} (h : s.awlRuns e = false ∨ s.takeTurn e = none) : awlAccept e s = s := by
  obtain h | h := h <;> simp [awlAccept, h]

section takeTurn
variable {e : Nat} {s v u : State} (hr : s.awlRuns e = true)
include hr

/-- A bus message whose turn it is is counted, stamped and routed. -/
theorem awlAccept_message {m : Msg} (ht : s.takeTurn e = some (.msg m, v)) (hu : u = v.incWrap Reg.AWL_MSGS_FULL 1 e) :
    awlAccept e s = u.routeMessage e { m with epoch := u.get Reg.LST_EPOCH_CUR, at_ := u.now } := by
  subst hu
  simp only [awlAccept, hr, ht, Bool.not_true, Bool.false_eq_true, if_false]

/-- An Ethernet frame whose turn it is is counted, and runs its route's chain. -/
theorem awlAccept_frame {f : ApFrame} (ht : s.takeTurn e = some (.eth f, v)) (hu : u = v.incWrap Reg.AWL_MSGS_FULL 1 e) :
    awlAccept e s = u.chain e f.route 8 (.eth f) (fun s r => s.routeEth e r f) := by
  subst hu
  simp only [awlAccept, hr, ht, Bool.not_true, Bool.false_eq_true, if_false]

/-- The message in progress is lost as the engine's watchdog resets it. -/
theorem awlWatchdog_loses {x : AwlIn} (ht : s.takeTurn e = some (x, v))
    (hu : u = (v.inc Reg.AWL_OVERLOAD_COUNT 1 e).raise Reg.AWL_IRQ_OVERLOAD e) :
    awlWatchdog e s = ((u.put Reg.AWL_STAT_WDOGS (min 255 (u.get Reg.AWL_STAT_WDOGS e + 1)) e).raise Reg.AWL_IRQ_WDOG e).fault
      (0x110 + e) 0x1D01 := by
  subst hu
  simp only [awlWatchdog, hr, ht, Bool.not_true, Bool.false_eq_true, if_false]

end takeTurn

/-! ### AP_FRAME_TO_AWL (R245, R254) -/

section apFrameToAwl
variable {p : Nat} {z s : State} {c : Copy} {f : Frame} (hp : 33 ≤ p) (hz : s = z.fabNow)
  (hc : s.clr.copies.find? (fun c => c.port == p && c.st == .sending) = some c) (hf : s.frame c.frame = some f)
include hp hz hc hf

/-- While bytes of the frame are to come or to be read, the port waits. -/
theorem apFrameToAwl_waits (h : f.whole = false ∨ s.readsWait c.id ≠ 0) : apFrameToAwl p z = s := by
  subst hz
  simp only [apFrameToAwl, Nat.not_lt.mpr hp, hc, hf, if_false]
  exact if_pos (by obtain h | h := h <;> simp [h])

/-- A whole frame enters the queue of its route's engine, or is lost to the overload of an engine with 256 frames. -/
theorem apFrameToAwl_leaves {e : Nat} (hw : f.whole = true) (hr : s.readsWait c.id = 0) (he : f.route.getD 0 / 1024 = e) :
    apFrameToAwl p z =
      ((if (s.apQueue e).length < 256 then
          s.apQueueSet e (s.apQueue e ++ [⟨s.copyBody c f, f.rxLen, c.epoch, f.at_, f.route.getD 0, f.dei⟩])
        else (s.inc Reg.AWL_OVERLOAD_COUNT 1 e).raise Reg.AWL_IRQ_OVERLOAD e).rmCopy c.id).reap := by
  subst hz he
  simp only [apFrameToAwl, Nat.not_lt.mpr hp, hc, hf, if_false]
  exact if_neg (by simp [hw, hr])

end apFrameToAwl

/-! ### STREAM_HOLD_EXPIRY (R254, R255) -/

theorem streamHoldExpiry_empty {k : Nat} {s : State} (h : (s.stream k).msgs = []) : streamHoldExpiry k s = s := by
  simp only [streamHoldExpiry, State.streamSend, h]

/-- Numbers of the frames of a stream, by its kind (R255). -/
def State.streamModulus (s : State) (k : Nat) (m : Msg) : Nat :=
  if s.streamCfg (s.prevEpoch m.epoch) k 0 1 % 4 = 3 then 65536 else 256

/-- The open frame is sent, and the stream goes on with the next number; a port out of service refuses the frame. -/
theorem streamHoldExpiry_sends {k : Nat} {s u : State} {m : Msg} {r : List Msg} {b : List Byte} (hm : (s.stream k).msgs = m :: r)
    (hb : (s.draw 65536).2.streamFrame k ((m :: r).map (fun x => (x.sdt, x))) (s.draw 65536).1 = some b)
    (hu : u = (s.draw 65536).2.streamSet k ⟨[], ((s.stream k).seq + 1) % (s.draw 65536).2.streamModulus k m⟩) :
    streamHoldExpiry k s = if u.inService (33 + k / 128) = true
      then (u.handOver (33 + k / 128) m.epoch b id).takeSlots (33 + k / 128) else u.apRefused (33 + k / 128) := by
  subst hu
  simp only [streamHoldExpiry, State.streamSend, hm, hb]
  rfl

end Sys2Proof.Machine

namespace Sys2Proof
open Machine

/-- Settles O27: each command of an engine is one of the equations above. -/
theorem enginesTakeTheirMessages : Obligations.EnginesTakeTheirMessages := by
  unfold Obligations.EnginesTakeTheirMessages
  refine ⟨?_, ?_, ?_, ?_, ?_, ?_, ?_, ?_, ?_⟩
  case refine_1 =>
    intro e s v u m hr ht hu
    exact congrArg (fun t => Host.Outcome.next (State.clusterSync t)) (awlAccept_message hr ht hu)
  case refine_2 =>
    intro e s v u f hr ht hu
    exact congrArg (fun t => Host.Outcome.next (State.clusterSync t)) (awlAccept_frame hr ht hu)
  case refine_3 =>
    intro e s h
    exact congrArg (fun t => Host.Outcome.next (State.clusterSync t)) (awlAccept_idle h)
  case refine_4 =>
    intro a z s c f hz hc hf hw hr hn
    have hleaves := apFrameToAwl_leaves (Nat.le_add_right 33 a.val) hz hc hf hw hr rfl
    rw [if_pos hn] at hleaves
    exact congrArg Host.Outcome.next hleaves
  case refine_5 =>
    intro a z s c f hz hc hf hw hr hn
    have hleaves := apFrameToAwl_leaves (Nat.le_add_right 33 a.val) hz hc hf hw hr rfl
    rw [if_neg (Nat.not_lt.mpr hn)] at hleaves
    exact congrArg Host.Outcome.next hleaves
  case refine_6 =>
    intro a z s c f hz hc hf h
    exact congrArg Host.Outcome.next (apFrameToAwl_waits (Nat.le_add_right 33 a.val) hz hc hf h)
  case refine_7 =>
    intro k s h
    exact congrArg Host.Outcome.next (streamHoldExpiry_empty h)
  case refine_8 =>
    intro k s m r b hm hb
    refine ⟨_, _, rfl, ?_, congrArg Host.Outcome.next (streamHoldExpiry_sends hm hb rfl)⟩
    exact (ite_eq_or_eq _ 65536 256).symm
  case refine_9 =>
    intro e s v u x hr ht hu
    exact congrArg Host.Outcome.next (awlWatchdog_loses hr ht hu)

end Sys2Proof

/-! Toecap (R269–R274, R287–R292): what a fault report of its page leaves, its keys, and one equation per case of each command. -/

namespace Sys2Proof.Machine

/-! ### A report that concerns the concentrator alone (R321–R325) -/

/-- A property that survives what the concentrator does to itself: writes of cells of its page, and changes of its component. -/
structure ConcentratorKeeps (P : State → Prop) : Prop where
  put : ∀ {t : State} {f : Fld} {v j : Nat}, P t → cellPage (f.key 0 j 0) = 0x018 → P (t.put f v 0 j)
  flt : ∀ {t : State} (x : Flt), P t → P { t with flt := x }

section ConcentratorKeeps
variable {P : State → Prop} {s : State}

/-- The concentrator moves no cell of another page. -/
theorem concentratorKeeps_get {g : Fld} {i j m v : Nat} (h : cellPage (g.key i j m) ≠ 0x018) :
    ConcentratorKeeps (fun t => t.get g i j m = v) where
  put ht hf := (State.get_put_other _ _ _ _ _ _ _ _ _ _ (.inr fun e => h ((congrArg cellPage e).trans hf))).trans ht
  flt _ ht := ht

variable (hP : ConcentratorKeeps P)
include hP

theorem ConcentratorKeeps.recordFault (h : P s) (page code : Nat) (storm : Bool) : P (s.recordFault page code storm) := by
  unfold State.recordFault
  extract_lets n on time w0 w1 w2 w3 w4 ns sec entries _ recorded
  split
  case isTrue hn =>
    have hcell {f : Fld} (hf : f.page = 0x018 ∧ f.off < 0x200 ∧ f.stride = 16 ∧ f.lo < 128 ∧ f.perMaster = false) :
        cellPage (f.key 0 n 0) = 0x018 := by
      obtain ⟨hp, ho, hs, hl, hm⟩ := hf
      rw [cellPage_key ⟨by rw [hs]; omega, hl, hm⟩, hp]
    have hsec : P sec := by
      refine hP.put (hP.put (hP.put (hP.put (hP.put (hP.put (hP.put h ?_) ?_) ?_) ?_) ?_) ?_) ?_ <;> exact hcell (by decide)
    have hrecorded : P recorded := hP.flt _ (hP.put hsec (by decide))
    exact keeps_ite hrecorded (hP.put hrecorded (by decide))
  case isFalse => exact hP.put h (by decide)

theorem ConcentratorKeeps.stormEnter (h : P s) : P s.stormEnter :=
  hP.flt _ (hP.put (hP.put (hP.put h (by decide)) (by decide)) (by decide))

/-- A report of a page that is neither a data-path block's nor a port's goes no further than the concentrator. -/
theorem ConcentratorKeeps.fault {page : Nat} (hd : dataPathType (pageType page) = false) (hp : portOfPage page = none) (h : P s)
    (code : Nat) : P (s.fault page code) := by
  unfold State.fault
  extract_lets now c recent _ counted was entered storm inStorm _ timed stormed _ recorded _ last
  have hcounted : P counted := hP.flt _ h
  have hentered : P entered := keeps_ite (hP.stormEnter hcounted) hcounted
  have hinStorm : P inStorm := keeps_ite (hP.put hentered (by decide)) hentered
  have htimed : P timed := keeps_ite (hP.flt _ hinStorm) hinStorm
  have hrecorded : P recorded :=
    keeps_ite (hP.recordFault htimed page code false)
      (keeps_ite (hP.flt _ (hP.recordFault htimed page code true)) (keeps_ite (hP.put htimed (by decide)) htimed))
  rw [hd, hp]
  exact keeps_ite htimed (hP.flt _ hrecorded)

end ConcentratorKeeps

@[simp] theorem State.fault_tca (s : State) (page code : Nat) : (s.fault page code).tca = s.tca := by
  obtain ⟨r, c, e⟩ := (s.fault_reports page code).frame
  rw [e]

/-- Toecap's report of an alarm, and the NMI that it raises. -/
def State.alarmReported (s : State) : State := (s.nmi 0).fault pgTCA 0x2001

@[simp] theorem State.alarmReported_tca (s : State) : s.alarmReported.tca = s.tca := State.fault_tca ..

theorem State.alarmReported_get {s : State} {g : Fld} {i j m : Nat} (h : cellPage (g.key i j m) ≠ 0x018) :
    s.alarmReported.get g i j m = s.get g i j m := by
  have hP := concentratorKeeps_get (v := s.get g i j m) h
  exact hP.fault (by decide) (by decide) (hP.put rfl (by decide)) _

/-! ### The end of a load or erase (R272) -/

/-- The fields that the end of a load or erase writes. -/
def ldEndFields : List Fld := [Reg.TKM_LD_STAT_BUSY, Reg.TKM_LD_STAT_RESULT, Reg.TKM_IRQ_LOAD_DONE, Reg.TKM_IRQ_LOAD_ERR]

section ldEnd
variable (s : State) (r : Nat)

@[simp] theorem State.ldEnd_tca : (s.ldEnd r).tca = { s.tca with op := 0 } := rfl

theorem State.ldEnd_get {g : Fld} (h : ldEndFields.all (fun f => f.apart g) = true) : (s.ldEnd r).get g = s.get g := by
  simp only [ldEndFields, List.all_cons, List.all_nil, Bool.and_true, Bool.and_eq_true] at h
  obtain ⟨hbusy, hresult, hdone, herr⟩ := h
  have hirq : (if r = 0 then Reg.TKM_IRQ_LOAD_DONE else Reg.TKM_IRQ_LOAD_ERR).apart g = true := by split <;> assumption
  rw [State.ldEnd, State.get_raise_apart hirq, State.get_put_apart hresult, State.get_put_apart hbusy, State.tcaSet_get]

theorem State.ldEnd_busy : (s.ldEnd r).get Reg.TKM_LD_STAT_BUSY = 0 := by
  unfold State.ldEnd
  split <;> simp (disch := decide) only [State.get_raise_apart, State.get_put_apart, State.get_put_held] <;> rfl

theorem State.ldEnd_result {r : Nat} (h : r < 16) : (s.ldEnd r).get Reg.TKM_LD_STAT_RESULT = r := by
  unfold State.ldEnd
  split <;> simp (disch := decide) only [State.get_raise_apart, State.get_put_held] <;> exact Nat.mod_eq_of_lt h

theorem State.ldEnd_irq :
    if r = 0 then (s.ldEnd r).get Reg.TKM_IRQ_LOAD_DONE = 1 else (s.ldEnd r).get Reg.TKM_IRQ_LOAD_ERR = 1 := by
  unfold State.ldEnd
  split <;> exact State.get_raise_bit (.inr (.inr rfl)) rfl

@[simp] theorem State.ldEnd_slot (cls idx : Nat) : (s.ldEnd r).slot cls idx = s.slot cls idx := rfl

end ldEnd

/-! ### TOECAP_ALARM and DRBG_RESEED (R269, R289–R291) -/

theorem toecapAlarm_idle {c : Nat} {s : State} (h : bit s.pwr.powered 18 = false ∨ c % 64 = 0) : toecapAlarm c s = s :=
  if_pos (by obtain h | h := h <;> simp [h])

/-- Toecap after an alarm, before a load in progress ends and the alarm is reported. -/
def State.alarmed (s : State) (c : Nat) : State :=
  ((((((s.tcaSet (fun t => { t with keys := [], kept := [], locked := true })).put Reg.TCA_STAT_STATE 3).put
    Reg.TCA_STAT_DRBG_OK 0).put Reg.TCA_STAT_RESTORING 0).put Reg.TKM_ALARM_CAUSE
    (Nat.lor (s.get Reg.TKM_ALARM_CAUSE) (c % 64))).inc Reg.TKM_ALARMS_COUNT).raise Reg.TCA_IRQ_ALARM

@[simp] theorem State.alarmed_tca (s : State) (c : Nat) :
    (s.alarmed c).tca = { s.tca with keys := [], kept := [], locked := true } := rfl

theorem State.alarmed_shows (s : State) (c : Nat) : (s.alarmed c).get Reg.TCA_STAT_STATE = 3 ∧
    (s.alarmed c).get Reg.TCA_STAT_DRBG_OK = 0 ∧ (s.alarmed c).get Reg.TCA_STAT_RESTORING = 0 ∧
    (s.alarmed c).get Reg.TKM_ALARM_CAUSE = Nat.lor (s.get Reg.TKM_ALARM_CAUSE) (c % 64) % 64 := by
  unfold State.alarmed State.inc
  refine ⟨?_, ?_, ?_, ?_⟩ <;> simp (disch := decide) only [State.get_raise_apart, State.get_put_apart, State.get_put_held] <;> rfl

/-- Toecap with no load or erase in progress: one that was ends as NOT_READY. -/
def State.ldAborted (s : State) : State := if s.tca.op = 0 then s else s.ldEnd krNOT_READY

theorem State.ldAborted_tca (s : State) : s.ldAborted.tca = { s.tca with op := 0 } := by
  unfold State.ldAborted
  split
  case isTrue h => rw [← h]
  case isFalse => exact State.ldEnd_tca ..

theorem State.ldAborted_get {s : State} {g : Fld} (h : ldEndFields.all (fun f => f.apart g) = true) :
    s.ldAborted.get g = s.get g := by
  unfold State.ldAborted
  split
  · rfl
  · exact State.ldEnd_get _ _ h

/-- An alarm with a source: Toecap ends what it was about, is emptied and locked, and reports. -/
theorem toecapAlarm_trips {c : Nat} {s u : State} (hp : bit s.pwr.powered 18 = true) (hc : c % 64 ≠ 0)
    (hu : u = if s.tcaReady = true then s.cryptoLost else s) : toecapAlarm c s = (u.alarmed c).ldAborted.alarmReported := by
  subst hu
  rw [toecapAlarm, if_neg (by simp [hp, hc])]
  rfl

end Sys2Proof.Machine

namespace Sys2Proof
open Machine

/-- Settles O29: each case of an alarm is one of the equations above; what it shows is written before the report, which stays on the
concentrator's page. -/
theorem alarmsEraseTheKeysAndLock : Obligations.AlarmsEraseTheKeysAndLock := by
  unfold Obligations.AlarmsEraseTheKeysAndLock
  refine ⟨?_, ?_, ?_, ?_⟩
  case refine_1 =>
    intro c s u hp hc hu
    have hmod : c.val % 64 = c.val := Nat.mod_eq_of_lt c.isLt
    obtain ⟨hstate, hdrbg, hrestoring, hcause⟩ := u.alarmed_shows c.val
    have htca : (u.alarmed c).ldAborted.alarmReported.tca = { u.tca with keys := [], kept := [], locked := true, op := 0 } := by
      rw [State.alarmReported_tca, State.ldAborted_tca, State.alarmed_tca]
    have hget {g : Fld} (hg : cellPage (g.key 0 0 0) ≠ 0x018) (hl : ldEndFields.all (fun f => f.apart g) = true) :
        (u.alarmed c).ldAborted.alarmReported.get g = (u.alarmed c).get g :=
      (State.alarmReported_get hg).trans (State.ldAborted_get hl)
    refine ⟨_, congrArg Host.Outcome.next (toecapAlarm_trips hp (by rwa [hmod]) hu), congrArg Toecap.keys htca,
      congrArg Toecap.kept htca, congrArg Toecap.locked htca, ?_, ?_, ?_, ?_, congrArg Toecap.op htca⟩
    · exact (hget (by decide) (by decide)).trans hstate
    · exact (hget (by decide) (by decide)).trans hdrbg
    · exact (hget (by decide) (by decide)).trans hrestoring
    · rw [hget (by decide) (by decide), hcause, hmod]
  case refine_2 =>
    intro c s h
    exact congrArg Host.Outcome.next (toecapAlarm_idle (h.imp_right fun hc => by rw [hc]))
  case refine_3 =>
    intro s
    rfl
  case refine_4 =>
    intro s
    rfl

end Sys2Proof

/-! Toecap's start and its keys (R270–R274): one equation per case of each command. -/

namespace Sys2Proof.Machine

/-! ### TOECAP_START and KEY_RESTORE_DONE (R270, R274, R291) -/

section toecapStart
variable {s : State} (hl : s.tcaLives = true) (hs : s.get Reg.TCA_STAT_STATE = 0) (ht : bit s.pwr.tested 18 = true)
  (hc : s.get Reg.CGU_STAT_SDSREF = 2)
include hl hs ht hc

/-- What meets a start that goes on: a locked Toecap stays LOCKED, another is STARTING with KW0 alone. -/
theorem toecapStart_goesOn : toecapStart s = if s.tca.locked = true then s.put Reg.TCA_STAT_STATE 3
    else (((s.put Reg.TCA_STAT_STATE 1).put Reg.TCA_STAT_DRBG_OK 1).put Reg.TCA_STAT_RESTORING (b2n (!s.tca.kept.isEmpty))).tcaSet
      (fun t => { t with keys := AMap.ins [] (slotKey 0 0) ⟨true, false, kw0⟩ }) :=
  if_neg (by simp [hl, hs, ht, hc])

theorem toecapStart_locked (h : s.tca.locked = true) : toecapStart s = s.put Reg.TCA_STAT_STATE 3 :=
  (toecapStart_goesOn hl hs ht hc).trans (if_pos h)

theorem toecapStart_starts (h : s.tca.locked = false) : toecapStart s =
    (((s.put Reg.TCA_STAT_STATE 1).put Reg.TCA_STAT_DRBG_OK 1).put Reg.TCA_STAT_RESTORING (b2n (!s.tca.kept.isEmpty))).tcaSet
      (fun t => { t with keys := AMap.ins [] (slotKey 0 0) ⟨true, false, kw0⟩ }) :=
  (toecapStart_goesOn hl hs ht hc).trans (if_neg (by simp [h]))

end toecapStart

theorem keyRestoreDone_starting {s : State} (h : s.get Reg.TCA_STAT_STATE = 1) : keyRestoreDone s =
    ((s.tcaSet (fun t => { t with keys := t.kept.foldl (fun m c => AMap.ins m c.1 c.2) t.keys })).put
      Reg.TCA_STAT_RESTORING 0).put Reg.TCA_STAT_STATE 2 :=
  if_neg (by simp [h])

/-! ### KEY_LOAD, KEY_ERASE and TKM_LOCK (R271–R273) -/

/-- A load (op 1) or erase (op 2) has begun, with its parameters in TKM_LD_CTRL. -/
def State.ldBegun (s : State) (idx cls : Nat) (klen plain : Bool) (wrap op : Nat) : State :=
  ((((((s.put Reg.TKM_LD_CTRL_INDEX idx).put Reg.TKM_LD_CTRL_CLASS cls).put Reg.TKM_LD_CTRL_KLEN (b2n klen)).put
    Reg.TKM_LD_CTRL_PLAIN (b2n plain)).put Reg.TKM_LD_CTRL_WRAP wrap).tcaSet (fun t => { t with op := op })).put
    Reg.TKM_LD_STAT_BUSY 1

section ldCtrl
variable {s : State} {m : Master} {idx cls wrap op : Nat} {klen plain : Bool}

theorem State.ldCtrl_busy (ho : op = 1 ∨ op = 2) (h : s.flag Reg.TKM_LD_STAT_BUSY = true) :
    s.ldCtrl m idx cls klen plain wrap op = s.err pgTKM 0x084 ecBUSY m :=
  if_pos (by obtain rfl | rfl := ho <;> simp [h])

theorem State.ldCtrl_begins (ho : op = 1 ∨ op = 2) (h : s.flag Reg.TKM_LD_STAT_BUSY = false) :
    s.ldCtrl m idx cls klen plain wrap op = s.ldBegun idx cls klen plain wrap op := by
  rw [State.ldCtrl, if_neg (by simp [h])]
  exact if_pos (by obtain rfl | rfl := ho <;> rfl)

/-- The parameters stand in TKM_LD_CTRL as they were given, each within its field. -/
theorem State.ldBegun_shows (hi : idx < 2048) (hc : cls < 4) (hw : wrap < 16) {t : State}
    (ht : t = s.ldBegun idx cls klen plain wrap op) : t.get Reg.TKM_LD_STAT_BUSY = 1 ∧ t.get Reg.TKM_LD_CTRL_INDEX = idx ∧
    t.get Reg.TKM_LD_CTRL_CLASS = cls ∧ t.get Reg.TKM_LD_CTRL_WRAP = wrap ∧ t.get Reg.TKM_LD_CTRL_KLEN = b2n klen ∧
    t.get Reg.TKM_LD_CTRL_PLAIN = b2n plain := by
  subst ht
  unfold State.ldBegun
  refine ⟨?_, ?_, ?_, ?_, ?_, ?_⟩ <;> simp (disch := decide) only [State.get_put_apart, State.get_put_held, State.tcaSet_get]
  · rfl
  · exact Nat.mod_eq_of_lt hi
  · exact Nat.mod_eq_of_lt hc
  · exact Nat.mod_eq_of_lt hw
  · exact b2n_mod_two klen
  · exact b2n_mod_two plain

end ldCtrl

/-! ### KEY_LOAD_DONE (R272) -/

theorem keyLoadDone_idle {s : State} (h : s.tca.op = 0) : keyLoadDone s = s := if_pos h

/-- The results of R272 fit the result field. -/
theorem State.ldResult_lt (s : State) : s.ldResult.1 < 16 := by
  unfold State.ldResult
  extract_lets idx cls long plain n wrap
  repeat' split
  all_goals exact of_decide_eq_true rfl

/-- A key in its slot, retained; one of an SA class with the SA parameters of the registers. -/
def State.keyStored (s : State) (cls idx : Nat) (key : KeySlot) : State :=
  let t := s.tcaSet (fun t =>
    { t with keys := AMap.ins t.keys (slotKey cls idx) key, kept := AMap.ins t.kept (slotKey cls idx) key })
  if cls = 1 then t.saSet idx s.saParam else t

/-- A slot without its key, its retained copy and its PN state. -/
def State.keyErased (s : State) (cls idx : Nat) : State :=
  let t := s.tcaSet (fun t => { t with keys := AMap.del t.keys (slotKey cls idx), kept := AMap.del t.kept (slotKey cls idx) })
  if cls = 1 then t.tcaSet (fun t => { t with sas := AMap.del t.sas idx }) else t

theorem State.keyStored_slot (s : State) (cls idx : Nat) (key : KeySlot) : (s.keyStored cls idx key).slot cls idx = some key := by
  have hkeys : (s.keyStored cls idx key).tca.keys = AMap.ins s.tca.keys (slotKey cls idx) key := by
    unfold State.keyStored
    split <;> rfl
  rw [State.slot, hkeys, AMap.find_ins_same]

theorem State.keyErased_slot (s : State) (cls idx : Nat) : (s.keyErased cls idx).slot cls idx = none := by
  have hkeys : (s.keyErased cls idx).tca.keys = AMap.del s.tca.keys (slotKey cls idx) := by
    unfold State.keyErased
    split <;> rfl
  rw [State.slot, hkeys, AMap.find_del_same]

/-- What the load or erase in progress does to the slots, as its result is. -/
def State.ldApplied (s : State) : State :=
  if s.ldResult.1 ≠ 0 then s
  else match s.ldResult.2 with
    | some key => s.keyStored (s.get Reg.TKM_LD_CTRL_CLASS) (s.get Reg.TKM_LD_CTRL_INDEX) key
    | none => s.keyErased (s.get Reg.TKM_LD_CTRL_CLASS) (s.get Reg.TKM_LD_CTRL_INDEX)

theorem State.ldApplied_refused {s : State} (h : s.ldResult.1 ≠ 0) : s.ldApplied = s := if_pos h

theorem State.ldApplied_loads {s : State} {key : KeySlot} (h : s.ldResult = (0, some key)) :
    s.ldApplied = s.keyStored (s.get Reg.TKM_LD_CTRL_CLASS) (s.get Reg.TKM_LD_CTRL_INDEX) key := by
  simp [State.ldApplied, h]

theorem State.ldApplied_erases {s : State} (h : s.ldResult = (0, none)) :
    s.ldApplied = s.keyErased (s.get Reg.TKM_LD_CTRL_CLASS) (s.get Reg.TKM_LD_CTRL_INDEX) := by
  simp [State.ldApplied, h]

theorem keyLoadDone_ends {s : State} (h : s.tca.op ≠ 0) : keyLoadDone s = s.ldApplied.ldEnd s.ldResult.1 := by
  refine (if_neg h).trans (congrArg (fun t : State => t.ldEnd s.ldResult.1) ?_)
  unfold State.ldApplied
  by_cases hr : s.ldResult.1 = 0
  case neg => exact Eq.trans (if_pos (by simpa using hr)) (if_pos hr).symm
  case pos =>
    refine Eq.trans (if_neg (by simp [hr])) (.trans ?_ (if_neg (not_not.mpr hr)).symm)
    cases s.ldResult.2 <;> rfl

end Sys2Proof.Machine

namespace Sys2Proof
open Machine

/-- Settles O28: each command is one of the equations above. -/
theorem toecapStartsAndLoadsKeys : Obligations.ToecapStartsAndLoadsKeys := by
  unfold Obligations.ToecapStartsAndLoadsKeys
  refine ⟨?_, ?_, ?_, ?_, ?_, ?_, ?_, ?_, ?_⟩
  case refine_1 =>
    intro s hl hs ht hc hk
    refine ⟨_, congrArg Host.Outcome.next (toecapStart_starts hl hs ht hc hk), ?_, ?_, ?_, ?_, rfl, rfl, rfl⟩
    · simp (disch := decide) only [State.tcaSet_get, State.get_put_apart, State.get_put_held]
      rfl
    · simp (disch := decide) only [State.tcaSet_get, State.get_put_apart, State.get_put_held]
      rfl
    · simp (disch := decide) only [State.tcaSet_get, State.get_put_held]
      exact b2n_mod_two _
    · exact AMap.find_ins_same _ _ _
  case refine_2 =>
    intro s hl hs ht hc hk
    exact congrArg Host.Outcome.next (toecapStart_locked hl hs ht hc hk)
  case refine_3 =>
    intro s h
    exact congrArg Host.Outcome.next (keyRestoreDone_starting h)
  case refine_4 =>
    rintro m k cl l p w z _ rfl hg hb
    obtain ⟨hbusy, hindex, hclass, hwrap, hklen, hplain⟩ := State.ldBegun_shows k.isLt cl.isLt w.isLt rfl
    exact ⟨_, congrArg Host.Outcome.next ((z.direct_of_grants m _ _ _ hg).trans (State.ldCtrl_begins (.inl rfl) hb)),
      hbusy, rfl, hindex, hclass, hwrap, hklen, hplain, rfl, rfl⟩
  case refine_5 =>
    rintro m k cl l p w z _ rfl hg hb
    exact ⟨congrArg Host.Outcome.next ((z.direct_of_grants m _ _ _ hg).trans (State.ldCtrl_busy (.inl rfl) hb)),
      congrArg Host.Outcome.next ((z.direct_of_grants m _ _ _ hg).trans (State.ldCtrl_busy (.inr rfl) hb))⟩
  case refine_6 =>
    rintro m k cl z _ rfl hg hb
    obtain ⟨hbusy, hindex, hclass, -⟩ := State.ldBegun_shows k.isLt cl.isLt (Nat.zero_lt_succ 15) rfl
    exact ⟨_, congrArg Host.Outcome.next ((z.direct_of_grants m _ _ _ hg).trans (State.ldCtrl_begins (.inr rfl) hb)),
      hbusy, rfl, hindex, hclass⟩
  case refine_7 =>
    intro s h
    refine ⟨_, congrArg Host.Outcome.next (keyLoadDone_ends h), State.ldEnd_busy .., rfl, State.ldEnd_result _ s.ldResult_lt,
      State.ldEnd_irq .., fun hr => ?_, fun k hk => ?_, fun hk => ?_⟩
    · rw [State.ldApplied_refused hr]
      exact ⟨rfl, rfl, rfl⟩
    · rw [State.ldEnd_slot, State.ldApplied_loads hk, State.keyStored_slot]
    · rw [State.ldEnd_slot, State.ldApplied_erases hk, State.keyErased_slot]
  case refine_8 =>
    intro s h
    exact congrArg Host.Outcome.next (keyLoadDone_idle h)
  case refine_9 =>
    rintro m z _ rfl hg
    exact congrArg Host.Outcome.next (z.direct_of_grants m _ _ _ hg)

end Sys2Proof

/-! Toecap's events, freshness registers and snapshots (R274, R287, R292): one equation per case of each command. -/

namespace Sys2Proof.Machine

/-! ### TCA_EVT_READ (R292) -/

theorem State.tcaEvtWord_oldest {s : State} {k w : Nat} {r : List (Nat × Nat)} (h : s.tca.evt = (k, w) :: r) :
    s.tcaEvtWord = k % 2048 + w % 8 * 2 ^ 28 + 2 ^ 31 := by
  simp only [State.tcaEvtWord, h]

theorem State.tcaEvtWord_none {s : State} (h : s.tca.evt = []) : s.tcaEvtWord = 0 := by
  simp only [State.tcaEvtWord, h]

theorem State.tcaEvtPop_oldest {s : State} {k w : Nat} {r : List (Nat × Nat)} (h : s.tca.evt = (k, w) :: r) :
    s.tcaEvtPop = s.tcaSet (fun t => { t with evt := r }) := by
  simp only [State.tcaEvtPop, h]

theorem State.tcaEvtPop_none {s : State} (h : s.tca.evt = []) :
    s.tcaEvtPop = s.tcaSet (fun t => { t with evtArmed := true }) := by
  simp only [State.tcaEvtPop, h]

theorem fieldsAt_tcaEvt : fieldsAt pgTCA 0x098 = [(Reg.TCA_EVT_INDEX, 0), (Reg.TCA_EVT_TYPE, 0), (Reg.TCA_EVT_VALID, 0)] := by
  decide

/-- The fields of TCA_EVT read the word of the oldest event, which has no other bit. -/
theorem State.readWord_tcaEvt (s : State) (m : Master) : s.readWord m pgTCA 0x098 = s.tcaEvtWord := by
  have hindex : s.fieldValue m pgTCA Reg.TCA_EVT_INDEX 0 = s.tcaEvtWord % 2 ^ 11 := rfl
  have htype : s.fieldValue m pgTCA Reg.TCA_EVT_TYPE 0 = bits s.tcaEvtWord 28 3 % 2 ^ 3 := rfl
  have hvalid : s.fieldValue m pgTCA Reg.TCA_EVT_VALID 0 = bits s.tcaEvtWord 31 1 % 2 ^ 1 := rfl
  obtain ⟨h0, h28, h31⟩ : Reg.TCA_EVT_INDEX.lo = 0 ∧ Reg.TCA_EVT_TYPE.lo = 28 ∧ Reg.TCA_EVT_VALID.lo = 31 := ⟨rfl, rfl, rfl⟩
  rw [State.readWord_three fieldsAt_tcaEvt (by decide), hindex, htype, hvalid, h0, h28, h31, bits, bits]
  rcases he : s.tca.evt with _ | ⟨⟨k, w⟩, r⟩
  · simp [State.tcaEvtWord_none he]
  · rw [State.tcaEvtWord_oldest he]
    omega

theorem State.readEffect_tcaEvt (s : State) (m : Master) : s.readEffect m pgTCA 0x098 = s.tcaEvtPop := by
  rw [State.readEffect, fieldsAt_tcaEvt]
  rfl

theorem tcaEvtRead_served {m : Master} {s : State} (h : s.serves m pgTCA) :
    tcaEvtRead m s = { s.tcaEvtPop with rd := AMap.ins s.rd m.code s.tcaEvtWord } := by
  rw [tcaEvtRead, State.readCmd_served h.1 (State.readErr_of_serves h), State.readReg, State.readWord_tcaEvt, State.readEffect_tcaEvt]

/-! ### FV_READ and FV_WRITE (R287) -/

/-- The value that master m has put into its freshness registers. -/
def State.fvOperand (s : State) (m : Master) : Nat :=
  s.get Reg.TKM_FV_LO_FV 0 0 m.code + s.get Reg.TKM_FV_HI_FV 0 0 m.code * 2 ^ 32

theorem State.fvWrite_lowered {s : State} {m : Master} (hl : s.flag Reg.TKM_CTRL_LOCK = true)
    (h : s.fvOperand m < s.fv (s.get Reg.TKM_FV_IDX_INDEX 0 0 m.code)) : s.fvWrite m = s.err pgTKM 0x12C ecSTATE m :=
  if_pos (by rw [hl, Bool.true_and]; exact decide_eq_true h)

/-- Toecap in which counter n, set to v, may again reach each limit that v is below. -/
def State.fvRearmed (s : State) (n v : Nat) : State :=
  s.tcaSet (fun t => { t with
    fvThresh := if s.fvThr ≤ v then t.fvThresh else t.fvThresh.filter (· != n)
    fvExhausted := if v = 2 ^ 64 - 1 then t.fvExhausted else t.fvExhausted.filter (· != n) })

/-- Which counters have reached which limits is no key, no counter and no register. -/
theorem State.tcaSet_fvReached (s : State) (a b : Toecap → List Nat) {t : State}
    (h : t = s.tcaSet (fun t => { t with fvThresh := a t, fvExhausted := b t })) :
    t.regs = s.regs ∧ t.clr = s.clr ∧ t.tca.keys = s.tca.keys ∧ t.tca.fv = s.tca.fv := by
  subst h
  exact ⟨rfl, rfl, rfl, rfl⟩

theorem State.fvWrite_writes {s : State} {m : Master} {n v : Nat} (hn : n = s.get Reg.TKM_FV_IDX_INDEX 0 0 m.code)
    (hv : v = s.fvOperand m) (h : s.flag Reg.TKM_CTRL_LOCK = false ∨ s.fv n ≤ v) :
    s.fvWrite m = ((s.fvRearmed n v).fvSet n v).fvEvents n v := by
  subst hn hv
  refine if_neg ?_
  obtain h | h := h
  · simp [h]
  · rw [Bool.and_eq_true, decide_eq_true_eq, not_and]
    exact fun _ => Nat.not_lt.mpr h

/-! ### Snapshots (R118, R274) -/

/-- The cells of a field's own copies stand in a row, one per master (R412). -/
theorem Fld.key_ownCopy {f : Fld} (h : f.perMaster = true) (m : Nat) : f.key 0 0 m = f.key 0 0 0 + m := by
  simp only [Fld.key, h, if_true, Nat.add_zero]

/-- A write of a master's own copy of a field leaves what that master's copy of a field of another cell reads. -/
theorem State.get_put_ownCopy {s : State} {f g : Fld} {v m b : Nat}
    (h : f.perMaster = true ∧ g.perMaster = true ∧ f.key 0 0 0 ≠ g.key 0 0 0) (hs : s.get g 0 0 m = b) :
    (s.put f v 0 0 m).get g 0 0 m = b := by
  obtain ⟨hf, hg, hne⟩ := h
  refine (State.get_put_other _ _ _ _ _ _ _ _ _ _ (.inr fun e => hne ?_)).trans hs
  rw [Fld.key_ownCopy hf, Fld.key_ownCopy hg] at e
  exact (Nat.add_right_cancel e).symm

/-- Port counts into a master's result registers, each given with its position. -/
def State.showCounts (s : State) (m : Master) (port : Nat) (l : List (Fld × Nat)) : State :=
  l.foldl (fun s c => s.put c.1 (AMap.get cellDflt s.tca.counts (port * 16 + c.2)) 0 0 m.code) s

@[simp] theorem State.showCounts_tca (s : State) (m : Master) (port : Nat) (l : List (Fld × Nat)) :
    (s.showCounts m port l).tca = s.tca :=
  keeps_foldl (P := fun t => t.tca = s.tca) (fun _ _ h => h) rfl

theorem State.showCounts_other {s : State} {m : Master} {port : Nat} {l : List (Fld × Nat)} {g : Fld} (hg : g.perMaster = true)
    (hl : ∀ c ∈ l, c.1.perMaster = true ∧ g.key 0 0 0 ≠ c.1.key 0 0 0) :
    (s.showCounts m port l).get g 0 0 m.code = s.get g 0 0 m.code := by
  induction l generalizing s with
  | nil => rfl
  | cons c r ih =>
    obtain ⟨hc, hr⟩ := List.forall_mem_cons.mp hl
    exact (ih hr).trans (State.get_put_ownCopy ⟨hc.1, hg, hc.2.symm⟩ rfl)

/-- Registers of their own cells each show the count of their position. -/
theorem State.showCounts_get {s : State} {m : Master} {port : Nat} {l : List (Fld × Nat)}
    (hl : ∀ c ∈ l, c.1.perMaster = true ∧ c.1.keep = .V) (hp : l.Pairwise (fun a b => a.1.key 0 0 0 ≠ b.1.key 0 0 0))
    {c : Fld × Nat} (hc : c ∈ l) : (s.showCounts m port l).get c.1 0 0 m.code =
      AMap.get cellDflt s.tca.counts (port * 16 + c.2) % 2 ^ c.1.width := by
  induction l generalizing s with
  | nil => cases hc
  | cons d r ih =>
    obtain ⟨hd, hr⟩ := List.forall_mem_cons.mp hl
    obtain ⟨hne, hpr⟩ := List.pairwise_cons.mp hp
    rcases List.mem_cons.mp hc with rfl | hcr
    · exact (State.showCounts_other hd.1 fun x hx => ⟨(hr x hx).1, hne x hx⟩).trans (State.get_put _ _ _ _ _ _ (.inr (.inr hd.2)))
    · exact ih hr hpr hcr

/-- The registers of the port counts lie in cells of their own. -/
theorem tcaPortRegs_apart : (∀ c ∈ tcaPortRegs.zipIdx, c.1.perMaster = true ∧ c.1.keep = .V) ∧
    tcaPortRegs.zipIdx.Pairwise (fun a b => a.1.key 0 0 0 ≠ b.1.key 0 0 0) := by decide

/-- The counts of a MACsec port in the result registers of its master. -/
def State.portShown (s : State) (m : Master) (port : Nat) : State :=
  (s.put Reg.TCA_PORT_SEL_PORT port 0 0 m.code).showCounts m port tcaPortRegs.zipIdx

theorem State.portShown_get {s : State} {m : Master} {port : Nat} {c : Fld × Nat} (hc : c ∈ tcaPortRegs.zipIdx) :
    (s.portShown m port).get c.1 0 0 m.code = AMap.get cellDflt s.tca.counts (port * 16 + c.2) % 2 ^ c.1.width :=
  State.showCounts_get tcaPortRegs_apart.1 tcaPortRegs_apart.2 hc

section tcaPortSel
variable {s : State} {m : Master} {port : Nat}

theorem State.tcaPortSel_shows (h : port < 24) : s.tcaPortSel m port false = s.portShown m port := if_neg (Nat.not_le.mpr h)

theorem State.tcaPortSel_clears (h : port < 24) : s.tcaPortSel m port true =
    (s.portShown m port).tcaSet (fun t => { t with counts := t.counts.filter (fun c => c.1 / 16 != port) }) :=
  if_neg (Nat.not_le.mpr h)

theorem State.tcaPortSel_invalid {clear : Bool} (h : 24 ≤ port) : s.tcaPortSel m port clear = s.err pgTCA 0x0A0 ecINVALID m :=
  if_pos h

end tcaPortSel

/-- A slot of class 2 shows whether it holds a key. -/
theorem State.keySel_present {s : State} {m : Master} {idx : Nat} (h : idx < 2048) :
    (s.keySel m idx 2).get Reg.TKM_SEL_STAT_PRESENT 0 0 m.code = b2n (s.slot 2 idx).isSome := by
  have hvalid : ¬ (2 != 0 && badIndex 2 idx || decide (16 ≤ idx) && 2 == 0) = true := by simp [badIndex, h]
  unfold State.keySel
  rw [if_neg hvalid]
  extract_lets c k x pn sel present klen plain ref state kcv num
  have hpresent : present.get Reg.TKM_SEL_STAT_PRESENT 0 0 m.code = b2n k.isSome :=
    (State.get_put _ _ _ _ _ _ (.inr (.inr rfl))).trans (b2n_mod_two _)
  have hplain : plain.get Reg.TKM_SEL_STAT_PRESENT 0 0 m.code = b2n k.isSome :=
    State.get_put_ownCopy (by decide) (State.get_put_ownCopy (by decide) hpresent)
  have hstate : state.get Reg.TKM_SEL_STAT_PRESENT 0 0 m.code = b2n k.isSome :=
    State.get_put_ownCopy (by decide) (State.get_put_ownCopy (by decide) hplain)
  have hkcv : kcv.get Reg.TKM_SEL_STAT_PRESENT 0 0 m.code = b2n k.isSome := State.get_put_ownCopy (by decide) hstate
  have hnum : num.get Reg.TKM_SEL_STAT_PRESENT 0 0 m.code = b2n k.isSome :=
    State.get_put_ownCopy (by decide) (State.get_put_ownCopy (by decide) hkcv)
  exact State.get_put_ownCopy (by decide) (State.get_put_ownCopy (by decide) hnum)

theorem State.keySel_tca (s : State) (m : Master) (idx cls : Nat) : (s.keySel m idx cls).tca = s.tca := by
  unfold State.keySel
  split
  · exact State.err_tca ..
  · simp only [State.put_tca]

end Sys2Proof.Machine

namespace Sys2Proof
open Machine

/-- Settles O30: each command is one of the equations above. -/
theorem toecapReadsAndFreshness : Obligations.ToecapReadsAndFreshness := by
  unfold Obligations.ToecapReadsAndFreshness
  refine ⟨?_, ?_, ?_, ?_, ?_, ?_, ?_, ?_, ?_⟩
  case refine_1 =>
    intro m s k w r hs he
    rw [← State.tcaEvtPop_oldest he, ← State.tcaEvtWord_oldest he]
    exact congrArg Host.Outcome.next (tcaEvtRead_served hs)
  case refine_2 =>
    intro m s hs he
    rw [← State.tcaEvtPop_none he, ← State.tcaEvtWord_none he]
    exact congrArg Host.Outcome.next (tcaEvtRead_served hs)
  case refine_3 =>
    rintro m z _ rfl hs
    exact congrArg Host.Outcome.next (z.directFree_of_serves m _ _ _ hs)
  case refine_4 =>
    rintro m z _ rfl hg hl h
    exact congrArg Host.Outcome.next ((z.direct_of_grants m _ _ _ hg).trans (State.fvWrite_lowered hl h))
  case refine_5 =>
    rintro m z _ n v rfl hg hn hv h
    exact ⟨_, congrArg Host.Outcome.next ((z.direct_of_grants m _ _ (fun s => s.fvWrite m) hg).trans (State.fvWrite_writes hn hv h)),
      State.tcaSet_fvReached _ _ _ rfl⟩
  case refine_6 =>
    rintro m p z _ rfl hs hp
    exact ⟨_, congrArg Host.Outcome.next ((z.directFree_of_serves m _ _ _ hs).trans (State.tcaPortSel_shows hp)),
      State.portShown_get (c := (Reg.TCA_TX_PROTECTED_COUNT, 0)) (by decide),
      State.portShown_get (c := (Reg.TCA_NOTREADY_DROPS_COUNT, 10)) (by decide), State.showCounts_tca ..⟩
  case refine_7 =>
    rintro m p z _ rfl hg hp
    refine ⟨_, congrArg Host.Outcome.next ((z.direct_of_grants m _ _ _ hg).trans (State.tcaPortSel_clears hp)), ?_⟩
    rw [State.tcaSet_tca, State.portShown, State.showCounts_tca, State.put_tca]
  case refine_8 =>
    rintro m p z _ rfl hg hp
    exact congrArg Host.Outcome.next ((z.direct_of_grants m _ _ _ hg).trans (State.tcaPortSel_invalid hp))
  case refine_9 =>
    rintro m k z _ rfl hs
    exact ⟨_, congrArg Host.Outcome.next (z.directFree_of_serves m _ _ (fun s => s.keySel m k.val 2) hs),
      State.keySel_present k.isLt, State.keySel_tca ..⟩

end Sys2Proof

/-! Reserved pages (R402): what is not in the directory, and how an access to it ends. -/

namespace Sys2Proof.Machine

/-- A page is defined where a row of the directory spans it (R401). -/
theorem pageDefined_iff {page : Nat} :
    pageDefined page = true ↔ ∃ r ∈ pageRows, r.first ≤ page ∧ page < r.first + r.count := by
  simp [pageDefined, pageRow, List.find?_isSome]

theorem pageDefined_spans (page : Nat) : pageDefined page = true ↔
    ∃ r ∈ [(0, 2), (8, 1), (0x10, 3), (0x18, 2), (0x20, 4), (0x28, 1), (0x30, 1), (0x40, 26), (0x60, 4), (0x68, 3), (0x70, 37), (0xA0, 1),
      (0xA8, 32), (0xD0, 32), (0xF0, 24), (0x108, 8), (0x110, 16), (0x120, 64), (0x160, 18)], r.1 ≤ page ∧ page < r.1 + r.2 := by
  simp only [pageDefined_iff, pageRows, List.cons_append, List.nil_append, List.exists_mem_cons_iff, List.not_mem_nil, false_and,
    exists_false, or_false]
  omega

theorem pageDefined_above {page : Nat} (h : 0x172 ≤ page) : pageDefined page = false := by
  rw [Bool.eq_false_iff, ne_eq, pageDefined_iff]
  rintro ⟨r, hr, _, hlt⟩
  have hend : ∀ r ∈ pageRows, r.first + r.count ≤ 0x172 := by decide
  have := hend r hr
  omega

theorem pageType_used (page : Nat) : pageType page ≠ 0x0F ∧ pageType page < 0x22 := by
  have hrow : ∀ r ∈ pageRows, r.type ≠ 0x0F ∧ r.type < 0x22 := by decide
  unfold pageType
  cases h : pageRow page with
  | none => decide
  | some r => exact hrow r (List.mem_of_find?_eq_some h)

theorem pageType_reserved {page : Nat} (h : pageDefined page = false) : pageType page = 0 := by
  simp only [pageDefined, Option.isSome_eq_false_iff, Option.isNone_iff_eq_none] at h
  simp [pageType, h]

section reserved
variable {s : State} {m : Master} {page off : Nat} (hh : s.heelStands = false) (hd : pageDefined page = false)
include hh hd

theorem State.readErr_reserved : s.readErr page off = some .reserved := by simp [State.readErr, hh, hd]

theorem State.gate0_reserved {k : State → State} : s.gate0 m page off k = (some .reserved, s) := by simp [State.gate0, hh, hd]

theorem State.gate_reserved {k : State → State} : s.gate m page off k = (some .reserved, s) := State.gate0_reserved hh hd

theorem State.pgCtrl_reserved {enable reset req : Bool} : s.pgCtrl m page enable reset req = (some .reserved, s) := by
  simp [State.pgCtrl, hh, hd]

omit hh in
/-- No register of a reserved page has a write path of its own. -/
theorem State.writePath_reserved {w : Nat} : s.writePath m page off w = .gate (fun s => s.writeFields m page off w) := by
  simp only [State.writePath, pageType_reserved hd, heelWrite, hostWrite, updWrite, coreWrite, portWrite, Option.getD_none]

theorem State.headerWrite_reserved {w : Nat} : s.headerWrite m page off w = (some .reserved, s) := by
  unfold State.headerWrite
  split
  · exact State.pgCtrl_reserved hh hd
  · exact State.gate0_reserved hh hd
  · exact State.gate_reserved hh hd
  · exact State.gate0_reserved hh hd
  · exact State.gate_reserved hh hd
  · rw [State.lockWrite, State.gate0_reserved hh hd, State.gate0_reserved hh hd, ite_self]
  · rw [State.gate0_reserved hh hd, hh, hd]
    simp

/-- A write of a reserved page is refused and changes nothing (R402). -/
theorem State.writeWord_reserved {w : Nat} : s.writeWord m page off w = (some .reserved, s) := by
  unfold State.writeWord
  split
  · exact State.headerWrite_reserved hh hd
  · rw [State.writePath_reserved hd]
    exact State.gate_reserved hh hd

end reserved

/-- An access of the sideband that ends in an error leaves its status alone (assumption log 8). -/
theorem State.command_sideband_refused {s : State} {page off : Nat} {k : State → Acc} {e : AccErr} (hb : s.sbOn = true)
    (hk : k s = (some e, s)) : s.command .sideband page off k = { s with sbResp := ⟨e.status, 0, []⟩ } := by
  simp [State.command, hb, hk, State.answer]

theorem State.dueReset_none {s : State} (h : s.wdg.resetDue = false) : s.dueReset = s := by simp [State.dueReset, h]

end Sys2Proof.Machine

namespace Sys2Proof
open Machine

/-- Settles O59: a reserved page is in no row of the directory, and every path of an access asks the directory first. -/
theorem reservedPagesAreErrors : Obligations.ReservedPagesAreErrors := by
  unfold Obligations.ReservedPagesAreErrors
  refine ⟨fun p => pageDefined_spans p.val, fun p => pageDefined_above, fun p => pageType_used p.val, rfl, rfl, ?_, ?_, ?_, ?_⟩
  case refine_1 =>
    intro page off s hh hd
    exact State.readErr_reserved hh hd
  case refine_2 =>
    intro m page off w s hh hd
    exact State.writeWord_reserved hh hd
  case refine_3 =>
    intro p o w s hh hb hd hr
    have hread : s.readErr p.val o.val = some .reserved := State.readErr_reserved hh hd
    refine ⟨congrArg Host.Outcome.next ?_, congrArg Host.Outcome.next ?_, fun on => congrArg Host.Outcome.next ?_⟩
    · rw [registerWrite, State.command_sideband_refused hb (State.writeWord_reserved hh hd)]
      exact State.dueReset_none hr
    · simp [clearOnRead, State.readCmd, hb, hread, AccErr.status]
    · refine State.command_sideband_refused (e := .reserved) hb ?_
      simp [hh, hd]
  case refine_4 =>
    intro p o s hh hd
    have hread : s.readErr p.val o.val = some .reserved := State.readErr_reserved hh hd
    refine congrArg Host.Outcome.next ?_
    simp [clearOnRead, State.readCmd, hread, AccErr.code]

end Sys2Proof

/-! Clock failures (R340–R344): what the Heel does where it has a clock, what a report moves in the concentrator and in the conditions
of cautious forwarding, and one equation per case of each command. -/

namespace Sys2Proof.Machine

/-! ### The Heel with and without a clock (R339) -/

theorem State.heel_runs {s : State} {k : State → State} (h : s.heelStands = false) : s.heel k = k s :=
  if_neg (by simp [h])

theorem State.heel_stands {s : State} {k : State → State} (h : s.heelStands = true) : s.heel k = s := if_pos h

/-- What changes nothing changes nothing through the Heel. -/
theorem State.heel_idle {s : State} {k : State → State} (h : s.heelStands = false → k s = s) : s.heel k = s := by
  cases hh : s.heelStands
  · exact (State.heel_runs hh).trans (h hh)
  · exact State.heel_stands hh

/-- With LRC good the Heel has a clock. -/
theorem State.heelStands_of_lrc {s : State} (h : s.lrc = 2) : s.heelStands = false := by
  rw [State.lrc] at h
  simp [State.heelStands, h]

/-! ### What a condition of cautious forwarding leaves (R37) -/

/-- A device-wide cause and its counts of entries leave the fields that are apart from them. -/
theorem State.devCause_get {s : State} {f g : Fld} {on : Bool} {a : Nat} (hf : f.apart g = true)
    (hd : Reg.DEV_CAUTIOUS_ENTRIES.apart g = true) (hm : Reg.MAC_CAUTIOUS_ENTRIES.apart g = true) :
    (s.devCause f on).get g a = s.get g a := by
  have hput : (s.put f (b2n on)).get g a = s.get g a := State.get_put_apart hf
  unfold State.devCause
  extract_lets was b c
  refine keeps_ite (P := fun u => u.get g a = s.get g a) ?_ hput
  refine keeps_foldl (P := fun u => u.get g a = s.get g a) (fun u p h => ?_) ((State.get_put_apart hd).trans hput)
  exact keeps_ite (P := fun u => u.get g a = s.get g a) h ((State.get_put_apart hm).trans h)

/-- A condition of DEV_CAUTIOUS, a V field of one bit, shows what was set. -/
theorem State.devCause_shows {s : State} {f : Fld} {on : Bool} (hk : f.keep = .V) (hw : f.width = 1) :
    (s.devCause f on).get f = b2n on := by
  have hput : (s.put f (b2n on)).get f = b2n on := by
    rw [State.get_put _ _ _ _ _ _ (.inr (.inr hk)), hw, b2n_mod_two]
  have hinc : ∀ (u : State) (e : Fld) (n p : Nat), e.keep = .T → (u.inc e n p).get f = u.get f := fun u e n p he =>
    State.get_put_other _ _ _ _ _ _ _ _ _ _ (.inl (by simp [hk, he]))
  unfold State.devCause
  extract_lets was b c
  refine keeps_ite (P := fun u => u.get f = b2n on) ?_ hput
  refine keeps_foldl (P := fun u => u.get f = b2n on) (fun u p h => ?_) ((hinc _ _ _ _ rfl).trans hput)
  exact keeps_ite (P := fun u => u.get f = b2n on) h ((hinc _ _ _ _ rfl).trans h)

/-! ### What a report writes in the concentrator (R324–R326) -/

/-- The fields of the concentrator that a fault report writes. -/
def concentratorFields : List Fld :=
  [Reg.FLT_FIRST_W0_CODE, Reg.FLT_FIRST_W0_PAGE, Reg.FLT_FIRST_W0_STORM, Reg.FLT_FIRST_W0_NO_TIME, Reg.FLT_FIRST_W0_VALID,
   Reg.FLT_FIRST_NS_NS, Reg.FLT_FIRST_SEC_SEC, Reg.FLT_STAT_ENTRIES, Reg.FLT_STAT_STORM, Reg.FLT_STAT_LOST, Reg.FLT_STORMS_COUNT,
   Reg.FLT_STORM_REPORTS_COUNT, Reg.FLT_IRQ_PRIMARY, Reg.FLT_IRQ_STORM]

/-- A property that survives a report in the concentrator: writes of `concentratorFields`, and changes of its component. -/
structure ReportKeeps (P : State → Prop) : Prop where
  put : ∀ {t : State} {f : Fld} {v j : Nat}, P t → f ∈ concentratorFields → j < 8 → P (t.put f v 0 j)
  flt : ∀ {t : State} (x : Flt), P t → P { t with flt := x }

section ReportKeeps
variable {P : State → Prop} {s : State}

/-- A report moves no cell that is none of the concentrator's. -/
theorem reportKeeps_get {g : Fld} {v : Nat}
    (h : ∀ f ∈ concentratorFields, ∀ j : Fin 8, g.keep ≠ f.keep ∨ g.key 0 0 0 ≠ f.key 0 j 0) : ReportKeeps (fun t => t.get g = v) where
  put {_ f _ j} ht hf hj := (State.get_put_other _ _ _ _ _ _ _ _ _ _ (h f hf ⟨j, hj⟩)).trans ht
  flt _ ht := ht

variable (hP : ReportKeeps P)
include hP

theorem ReportKeeps.recordFault (h : P s) (page code : Nat) (storm : Bool) : P (s.recordFault page code storm) := by
  unfold State.recordFault
  extract_lets n on time w0 w1 w2 w3 w4 ns sec entries _ recorded
  split
  case isTrue hn =>
    have hsec : P sec := by
      refine hP.put (hP.put (hP.put (hP.put (hP.put (hP.put (hP.put h ?_ hn) ?_ hn) ?_ hn) ?_ hn) ?_ hn) ?_ hn) ?_ hn
        <;> simp [concentratorFields]
    have hrecorded : P recorded := hP.flt _ (hP.put hsec (by simp [concentratorFields]) (by decide))
    exact keeps_ite hrecorded (hP.put hrecorded (by simp [concentratorFields]) (by decide))
  case isFalse => exact hP.put h (by simp [concentratorFields]) (by decide)

theorem ReportKeeps.stormEnter (h : P s) : P s.stormEnter := by
  refine hP.flt _ (hP.put (hP.put (hP.put h ?_ (by decide)) ?_ (by decide)) ?_ (by decide)) <;> simp [concentratorFields]

/-- A report of a page that is neither a data-path block's nor a port's goes no further than the concentrator. -/
theorem ReportKeeps.fault {page : Nat} (hd : dataPathType (pageType page) = false) (hp : portOfPage page = none) (h : P s)
    (code : Nat) : P (s.fault page code) := by
  unfold State.fault
  extract_lets now c recent _ counted was entered storm inStorm _ timed stormed _ recorded _ last
  have hcounted : P counted := hP.flt _ h
  have hentered : P entered := keeps_ite (hP.stormEnter hcounted) hcounted
  have hinStorm : P inStorm := keeps_ite (hP.put hentered (by simp [concentratorFields]) (by decide)) hentered
  have htimed : P timed := keeps_ite (hP.flt _ hinStorm) hinStorm
  have hrecorded : P recorded :=
    keeps_ite (hP.recordFault htimed page code false) (keeps_ite (hP.flt _ (hP.recordFault htimed page code true))
      (keeps_ite (hP.put htimed (by simp [concentratorFields]) (by decide)) htimed))
  rw [hd, hp]
  exact keeps_ite htimed (hP.flt _ hrecorded)

end ReportKeeps

/-! ### CLOCK_STOP_DETECT (R340) -/

/-- The failure of a source (R341–R344). -/
def State.clockFails (s : State) (c : Clock) : State :=
  match c with
  | .lrc => s.lrcFail
  | .hrc => s.hrcFail
  | .xtal => s.xtalFail
  | .sdsref => s.sdsrefFail

theorem clockStopDetect_fails {c : Clock} {s : State} (hc : s.clock c = 2) (hs : s.stopSeen c = true) :
    clockStopDetect c s = s.clockFails c := by
  have hn : ¬ (s.clock c != ckGOOD || !s.stopSeen c) = true := by simp [hc, hs, ckGOOD]
  exact (if_neg hn).trans (by cases c <;> rfl)

theorem clockStopDetect_idle {c : Clock} {s : State} (h : s.clock c ≠ 2 ∨ s.stopSeen c = false) : clockStopDetect c s = s :=
  if_pos (by obtain h | h := h <;> simp [h, ckGOOD])

/-! ### Failures of XTAL and HRC (R341, R343) -/

theorem State.xtalFail_loads {s : State} (hy : s.flag Reg.CGU_STAT_SYSREF = false) (hl : s.flag Reg.CGU_STAT_LOADS = false) :
    s.xtalFail = s.xtalFailover.put Reg.CGU_STAT_XTAL 3 := by
  rw [State.xtalFail, if_neg (by simp [hy]), if_neg (by simp [hl])]
  rfl

/-- XTAL_FAILOVER before the report, where the PLLs keep their reference. -/
def State.switchedOver (s : State) : State :=
  (((s.put Reg.CGU_STAT_LOADS 1).inc Reg.CGU_STAT_FAILOVERS).nmi 1).raise Reg.CGU_IRQ_XTAL_FAIL

theorem State.xtalFailover_running {s : State} (h : s.pllRuns = true) :
    s.xtalFailover = (s.switchedOver.fault pgCGU 0x0301).devCause Reg.DEV_CAUTIOUS_CLOCK true := by
  simp only [State.xtalFailover, h, State.pllStarts, if_true]
  rfl

theorem State.fault_kept (s : State) (page code : Nat) : (s.fault page code).clr = s.clr ∧ (s.fault page code).lst = s.lst := by
  obtain ⟨r, c, e⟩ := (s.fault_reports page code).frame
  rw [e]
  exact ⟨rfl, rfl⟩

/-- The clock unit's reports and the device-wide condition of its failover leave its own page. -/
theorem State.cguReport_get {s : State} {code : Nat} {g : Fld} (hp : reportPage (cellPage (g.key 0 0 0)) = false)
    (hc : Reg.DEV_CAUTIOUS_CLOCK.apart g = true) (hd : Reg.DEV_CAUTIOUS_ENTRIES.apart g = true)
    (hm : Reg.MAC_CAUTIOUS_ENTRIES.apart g = true) :
    ((s.fault pgCGU code).devCause Reg.DEV_CAUTIOUS_CLOCK true).get g = s.get g :=
  (State.devCause_get hc hd hm).trans (State.get_fault hp)

/-- The NMI causes pass a report of the clock unit. -/
theorem State.cguReport_nmi (s : State) (code : Nat) :
    ((s.fault pgCGU code).devCause Reg.DEV_CAUTIOUS_CLOCK true).get Reg.FLT_NMI_STAT_CAUSE = s.get Reg.FLT_NMI_STAT_CAUSE := by
  refine (State.devCause_get (by decide) (by decide) (by decide)).trans ?_
  exact (reportKeeps_get (v := s.get Reg.FLT_NMI_STAT_CAUSE) (by decide)).fault (by decide) (by decide) rfl _

/-- A cause of FLT_NMI_STAT that was set stands. -/
theorem State.nmi_cause (s : State) : bit ((s.nmi 1).get Reg.FLT_NMI_STAT_CAUSE) 1 = true := by
  rw [State.nmi, State.get_put _ _ _ _ _ _ (.inr (.inl rfl))]
  show bit (setBit _ 1 true % 32) 1 = true
  simp only [setBit, bit, beq_iff_eq, if_true]
  split <;> omega

/-- What the failover of XTAL shows, with the loads on HRC. -/
theorem State.switchedOver_shows (s : State) : s.switchedOver.get Reg.CGU_STAT_LOADS = 1 ∧
    s.switchedOver.get Reg.CGU_STAT_FAILOVERS = min (2 ^ Reg.CGU_STAT_FAILOVERS.width - 1) (s.get Reg.CGU_STAT_FAILOVERS + 1) ∧
    s.switchedOver.get Reg.CGU_IRQ_XTAL_FAIL = 1 ∧ bit (s.switchedOver.get Reg.FLT_NMI_STAT_CAUSE) 1 = true := by
  refine ⟨?_, ?_, State.get_raise_bit (.inr (.inl rfl)) rfl, ?_⟩
  · simp (disch := decide) only [State.switchedOver, State.nmi, State.inc, State.get_raise_apart, State.get_put_apart, State.get_put_held]
    rfl
  · simp (disch := decide) only [State.switchedOver, State.nmi, State.get_raise_apart, State.get_put_apart, State.get_inc_held]
  · rw [State.switchedOver, State.get_raise_apart (by decide)]
    exact State.nmi_cause _

/-- An XTAL that fails under its loads switches them to HRC, and is reported (R341). -/
theorem State.xtalFail_switches {s : State} (hy : s.flag Reg.CGU_STAT_SYSREF = false) (hl : s.flag Reg.CGU_STAT_LOADS = false)
    (hx : s.xtal = 2) :
    s.xtalFail.xtal = 3 ∧ s.xtalFail.get Reg.CGU_STAT_LOADS = 1 ∧
    s.xtalFail.get Reg.CGU_STAT_FAILOVERS = min (2 ^ Reg.CGU_STAT_FAILOVERS.width - 1) (s.get Reg.CGU_STAT_FAILOVERS + 1) ∧
    s.xtalFail.get Reg.CGU_IRQ_XTAL_FAIL = 1 ∧ bit (s.xtalFail.get Reg.FLT_NMI_STAT_CAUSE) 1 = true ∧
    s.xtalFail.get Reg.DEV_CAUTIOUS_CLOCK = 1 ∧ s.xtalFail.clr = s.clr ∧ s.xtalFail.lst = s.lst := by
  have hr : s.pllRuns = true := by rw [State.xtal] at hx; simp [State.pllRuns, hx]
  have heq : s.xtalFail = ((s.switchedOver.fault pgCGU 0x0301).devCause Reg.DEV_CAUTIOUS_CLOCK true).put Reg.CGU_STAT_XTAL 3 := by
    rw [State.xtalFail_loads hy hl, State.xtalFailover_running hr]
  obtain ⟨hloads, hcount, hirq, hnmi⟩ := s.switchedOver_shows
  obtain ⟨r, hframe⟩ := (s.switchedOver.fault pgCGU 0x0301).devCause_frame Reg.DEV_CAUTIOUS_CLOCK true
  obtain ⟨hclr, hlst⟩ := s.switchedOver.fault_kept pgCGU 0x0301
  rw [heq]
  refine ⟨State.get_put_held (by decide), ?_, ?_, ?_, ?_, ?_, ?_, ?_⟩
  · exact (State.get_put_apart (by decide)).trans
      ((State.cguReport_get (by decide) (by decide) (by decide) (by decide)).trans hloads)
  · exact (State.get_put_apart (by decide)).trans
      ((State.cguReport_get (by decide) (by decide) (by decide) (by decide)).trans hcount)
  · exact (State.get_put_apart (by decide)).trans
      ((State.cguReport_get (by decide) (by decide) (by decide) (by decide)).trans hirq)
  · rw [State.get_put_apart (by decide), State.cguReport_nmi]
    exact hnmi
  · exact (State.get_put_apart (by decide)).trans (State.devCause_shows rfl rfl)
  · rw [State.put_clr, hframe]
    exact hclr
  · rw [State.put_lst, hframe]
    exact hlst

/-- The failure of HRC before it ends in a switch or in CLOCK_HOLD. -/
def State.hrcFailed (s : State) : State := ((s.put Reg.CGU_STAT_HRC 3).raise Reg.CGU_IRQ_HRC_FAIL).fault pgCGU 0x0302

theorem State.hrcFailed_get {s : State} {g : Fld} (hp : reportPage (cellPage (g.key 0 0 0)) = false)
    (hh : Reg.CGU_STAT_HRC.apart g = true) (hi : Reg.CGU_IRQ_HRC_FAIL.apart g = true) : s.hrcFailed.get g = s.get g :=
  (State.get_fault hp).trans ((State.get_raise_apart hi).trans (State.get_put_apart hh))

theorem State.hrcFailed_loads (s : State) : s.hrcFailed.flag Reg.CGU_STAT_LOADS = s.flag Reg.CGU_STAT_LOADS :=
  congrArg (· == 1) (State.hrcFailed_get (by decide) (by decide) (by decide))

theorem State.hrcFail_holds {s : State} (h : s.flag Reg.CGU_STAT_LOADS = true) : s.hrcFail = s.hrcFailed.clockHold := by
  have hl : s.hrcFailed.flag Reg.CGU_STAT_LOADS = true := s.hrcFailed_loads.trans h
  refine (if_neg ?_ : s.hrcFail = _)
  show ¬ (decide (s.hrcFailed.xtal = ckGOOD) && !s.hrcFailed.flag Reg.CGU_STAT_LOADS) = true
  simp [hl]

theorem State.hrcFail_switches {s : State} (hx : s.xtal = 2) (hl : s.flag Reg.CGU_STAT_LOADS = false) :
    s.hrcFail = s.hrcFailed.put Reg.CGU_STAT_SYSREF 1 := by
  have hl' : s.hrcFailed.flag Reg.CGU_STAT_LOADS = false := s.hrcFailed_loads.trans hl
  have hx' : s.hrcFailed.xtal = 2 := (State.hrcFailed_get (by decide) (by decide) (by decide)).trans hx
  refine (if_pos ?_ : s.hrcFail = _)
  show (decide (s.hrcFailed.xtal = ckGOOD) && !s.hrcFailed.flag Reg.CGU_STAT_LOADS) = true
  simp [hl', hx', ckGOOD]

/-! ### MONITOR_WINDOW_END (R340) -/

section monitor
variable {x h d : Nat} {s : State}

/-- With SDS_REFCLK in its window, or not compared, only the comparisons of XTAL and of HRC decide. -/
theorem monitorWindowEnd_sources (hd : sdsrefInWindow d = true) : monitorWindowEnd x h d s =
    if ((!xtalInWindow x && s.xtal == ckGOOD && s.hrc == ckGOOD || s.xtal != ckGOOD) &&
      (!hrcInWindow h && s.hrc == ckGOOD && s.lrc == ckGOOD)) = true then s.hrcFail
    else if (!xtalInWindow x && s.xtal == ckGOOD && s.hrc == ckGOOD) = true then s.xtalFail
    else if (!hrcInWindow h && s.hrc == ckGOOD && s.lrc == ckGOOD) = true then s.lrcFail else s :=
  if_neg (by simp [hd])

theorem monitorWindowEnd_inWindow (hx : xtalInWindow x = true) (hh : hrcInWindow h = true) (hd : sdsrefInWindow d = true) :
    monitorWindowEnd x h d s = s := by
  simp [monitorWindowEnd_sources hd, hx, hh]

theorem monitorWindowEnd_bothOut (hl : s.lrc = 2) (hg : s.hrc = 2) (hxg : s.xtal = 2) (hd : sdsrefInWindow d = true)
    (hx : xtalInWindow x = false) (hh : hrcInWindow h = false) : monitorWindowEnd x h d s = s.hrcFail := by
  simp [monitorWindowEnd_sources hd, hx, hh, hl, hg, hxg, ckGOOD]

theorem monitorWindowEnd_xtalOut (hg : s.hrc = 2) (hxg : s.xtal = 2) (hd : sdsrefInWindow d = true)
    (hx : xtalInWindow x = false) (hh : hrcInWindow h = true) : monitorWindowEnd x h d s = s.xtalFail := by
  simp [monitorWindowEnd_sources hd, hx, hh, hg, hxg, ckGOOD]

theorem monitorWindowEnd_hrcOut (hl : s.lrc = 2) (hg : s.hrc = 2) (hxg : s.xtal = 2) (hd : sdsrefInWindow d = true)
    (hx : xtalInWindow x = true) (hh : hrcInWindow h = false) : monitorWindowEnd x h d s = s.lrcFail := by
  simp [monitorWindowEnd_sources hd, hx, hh, hl, hg, hxg, ckGOOD]

/-- Without a good XTAL nothing compares SDS_REFCLK, and HRC out of its window is an HRC failure (assumption log 98). -/
theorem monitorWindowEnd_alone (hl : s.lrc = 2) (hg : s.hrc = 2) (hxg : s.xtal ≠ 2) (hh : hrcInWindow h = false) :
    monitorWindowEnd x h d s = s.hrcFail := by
  simp [monitorWindowEnd, hh, hl, hg, hxg, ckGOOD]

theorem monitorWindowEnd_sdsrefOut (hg : s.sdsref = 2) (hxg : s.xtal = 2) (hx : xtalInWindow x = true) (hh : hrcInWindow h = true)
    (hd : sdsrefInWindow d = false) : monitorWindowEnd x h d s = s.sdsrefFail := by
  simp [monitorWindowEnd, hx, hh, hd, hg, hxg, ckGOOD]

end monitor

/-! ### CLOCK_EDGES_RETURN -/

/-- The field of CGU_STAT that shows the state of a source. -/
def clockField (c : Clock) : Fld :=
  match c with
  | .lrc => Reg.CGU_STAT_LRC
  | .hrc => Reg.CGU_STAT_HRC
  | .xtal => Reg.CGU_STAT_XTAL
  | .sdsref => Reg.CGU_STAT_SDSREF

theorem clockEdgesReturn_failed {c : Clock} {s : State} (h : s.clock c = 3) :
    clockEdgesReturn c s = s.put (clockField c) 1 := by
  have hn : ¬ (s.clock c != ckFAILED) = true := by simp [h, ckFAILED]
  exact (if_neg hn).trans (by cases c <;> rfl)

end Sys2Proof.Machine

namespace Sys2Proof
open Machine

/-- Settles O39: the clock that would see a stop decides whether it is a failure; the failures' writes stand apart from their reports. -/
theorem clockFailuresAreHandled : Obligations.ClockFailuresAreHandled := by
  unfold Obligations.ClockFailuresAreHandled
  have hstop {c : Clock} {s : State} (hr : s.heelStands = false) (hc : s.clock c = 2) (hs : s.stopSeen c = true) :
      exec (.clockStopDetect c) s = .next (s.clockFails c) :=
    congrArg Host.Outcome.next ((State.heel_runs hr).trans (clockStopDetect_fails hc hs))
  have hmonitor {x h d : Nat} {s t : State} (hr : s.heelStands = false) (ht : monitorWindowEnd x h d s = t) :
      exec (.monitorWindowEnd x h d) s = .next t :=
    congrArg Host.Outcome.next ((State.heel_runs hr).trans ht)
  refine ⟨?_, ?_, ?_, ?_, ?_, ?_, ?_, ?_, ?_, ?_, ?_, ?_, ?_⟩
  case refine_1 =>
    intro s hl h
    refine hstop (c := .lrc) (State.heelStands_of_lrc hl) hl ?_
    obtain h | h := h <;> simp [State.stopSeen, h, ckGOOD]
  case refine_2 =>
    intro s hr hh h
    refine hstop (c := .hrc) hr hh ?_
    obtain h | h := h <;> simp [State.stopSeen, h, ckGOOD]
  case refine_3 =>
    intro s hr hx h
    refine hstop (c := .xtal) hr hx ?_
    obtain h | h := h <;> simp [State.stopSeen, h, ckGOOD]
  case refine_4 =>
    intro s hr hd
    exact hstop (c := .sdsref) hr hd rfl
  case refine_5 =>
    intro c s h
    refine congrArg Host.Outcome.next (State.heel_idle fun hr => clockStopDetect_idle ?_)
    obtain h | h | h := h
    · exact .inl h
    · exact .inr h
    · exact absurd (hr.symm.trans h) Bool.false_ne_true
  case refine_6 =>
    intro x h d s hx hh hd
    exact congrArg Host.Outcome.next (State.heel_idle fun _ => monitorWindowEnd_inWindow hx hh hd)
  case refine_7 =>
    intro x h d s hl hg hxg hd
    have hr := State.heelStands_of_lrc hl
    exact ⟨fun hx hh => hmonitor hr (monitorWindowEnd_bothOut hl hg hxg hd hx hh),
      fun hx hh => hmonitor hr (monitorWindowEnd_xtalOut hg hxg hd hx hh),
      fun hx hh => hmonitor hr (monitorWindowEnd_hrcOut hl hg hxg hd hx hh)⟩
  case refine_8 =>
    intro x h d s hl hg hxg hh
    exact hmonitor (State.heelStands_of_lrc hl) (monitorWindowEnd_alone hl hg hxg hh)
  case refine_9 =>
    intro x h d s hr hg hxg hx hh hd
    exact hmonitor hr (monitorWindowEnd_sdsrefOut hg hxg hx hh hd)
  case refine_10 =>
    intro s hr hy hl hx hh
    exact ⟨_, hstop (c := .xtal) hr hx (by simp [State.stopSeen, hh, ckGOOD]), State.xtalFail_switches hy hl hx⟩
  case refine_11 =>
    rintro s _ hr hh hl rfl
    exact (hstop (c := .hrc) hr hh (by simp [State.stopSeen, hl])).trans (congrArg Host.Outcome.next (State.hrcFail_holds hl))
  case refine_12 =>
    rintro s _ hr hh hx hl rfl
    exact (hstop (c := .hrc) hr hh (by simp [State.stopSeen, hx, ckGOOD])).trans
      (congrArg Host.Outcome.next (State.hrcFail_switches hx hl))
  case refine_13 =>
    intro s
    exact ⟨fun h => congrArg Host.Outcome.next (clockEdgesReturn_failed (c := .lrc) h),
      fun h => congrArg Host.Outcome.next (clockEdgesReturn_failed (c := .hrc) h),
      fun h => congrArg Host.Outcome.next (clockEdgesReturn_failed (c := .xtal) h),
      fun h => congrArg Host.Outcome.next (clockEdgesReturn_failed (c := .sdsref) h)⟩

end Sys2Proof

/-! Trimming (R346–R350): how far AUTO moves, what a trim window of HRC and of LRC leaves, and one equation per case of each window. -/

namespace Sys2Proof.Machine

/-! ### The applied Last as a window reads it -/

/-- A field of a section is read from the applied Last: no register but LST_STAT.LOADED moves it. -/
theorem State.secLE_congr {s t : State} (hl : t.lst = s.lst) (hf : t.flag Reg.LST_STAT_LOADED = s.flag Reg.LST_STAT_LOADED)
    (type off n : Nat) : t.secLE type off n = s.secLE type off n := by
  have hsec : t.section_ type = s.section_ type := by simp only [State.section_, hl, hf]
  simp only [State.secLE, State.secBytes, hsec, State.secByte, hl]

theorem State.put_secLE {s : State} {f : Fld} {v : Nat} (h : f.apart Reg.LST_STAT_LOADED = true) (type off n : Nat) :
    (s.put f v).secLE type off n = s.secLE type off n :=
  State.secLE_congr (s := s) (t := s.put f v) rfl (congrArg (· == 1) (State.get_put_apart h)) type off n

/-! ### How far AUTO moves (R350) -/

/-- A move that does not leave the span on its side is made whole. -/
theorem State.autoMove_inside {s : State} {span : Fld} {user auto d : Int} (hlo : -(s.get span : Int) ≤ user + auto + d ∨ 0 ≤ d)
    (hhi : user + auto + d ≤ (s.get span : Int) ∨ d ≤ 0) : s.autoMove span user auto d = (auto + d, false) := by
  have hup : ¬ (decide (0 < d) && decide ((s.get span : Int) < user + auto + d)) = true := by
    simp only [Bool.and_eq_true, decide_eq_true_eq]
    omega
  have hdown : ¬ (decide (d < 0) && decide (user + auto + d < -(s.get span : Int))) = true := by
    simp only [Bool.and_eq_true, decide_eq_true_eq]
    omega
  exact (if_neg hup).trans (if_neg hdown)

theorem State.autoMove_stays (s : State) (span : Fld) (user auto : Int) : s.autoMove span user auto 0 = (auto, false) :=
  (State.autoMove_inside (.inr Int.le_rfl) (.inr Int.le_rfl)).trans (by rw [Int.add_zero])

/-! ### A trim window of HRC (R346) -/

/-- The steps that a window of HRC asks for: none where trimming is held. -/
def State.hrcSteps (s : State) (d : Int) (most : Nat) : Int :=
  if s.flag Reg.CGU_CTRL_TRIM_HOLD then 0 else clampInt (-most) most d

/-- The error of a trim window of HRC is written. -/
def State.hrcErrShown (s : State) (err : Int) (ref : Nat) : State :=
  (s.put Reg.CGU_HRC_ERR_PPM (ofSigned 16 err)).put Reg.CGU_HRC_ERR_REF ref

section hrcTrim
variable (s : State) (err d : Int) (most ref : Nat)

theorem State.hrcErrShown_get {g : Fld} (hp : Reg.CGU_HRC_ERR_PPM.apart g = true) (hr : Reg.CGU_HRC_ERR_REF.apart g = true) :
    (s.hrcErrShown err ref).get g = s.get g := (State.get_put_apart hr).trans (State.get_put_apart hp)

theorem State.hrcErrShown_user : (s.hrcErrShown err ref).hrcUser = s.hrcUser := by
  rw [State.hrcUser, State.hrcErrShown, State.put_secLE (by decide), State.put_secLE (by decide)]
  rfl

/-- AUTO after a trim window of HRC. -/
theorem State.hrcErrShown_move : (s.hrcErrShown err ref).autoMove Reg.CGU_SPAN_HRC (s.hrcErrShown err ref).hrcUser
      (s.hrcErrShown err ref).cgu.auto ((s.hrcErrShown err ref).hrcSteps d most) =
    s.autoMove Reg.CGU_SPAN_HRC s.hrcUser s.cgu.auto (s.hrcSteps d most) := by
  have hspan : (s.hrcErrShown err ref).get Reg.CGU_SPAN_HRC = s.get Reg.CGU_SPAN_HRC :=
    State.hrcErrShown_get s err ref (by decide) (by decide)
  have hhold : (s.hrcErrShown err ref).flag Reg.CGU_CTRL_TRIM_HOLD = s.flag Reg.CGU_CTRL_TRIM_HOLD :=
    congrArg (· == 1) (State.hrcErrShown_get s err ref (by decide) (by decide))
  simp only [State.autoMove, State.hrcSteps, hspan, hhold, State.hrcErrShown_user]
  rfl

/-- A trim window of HRC writes the error and where it comes from, moves AUTO, and leaves the frames, the Last and LRC's AUTO. -/
theorem State.hrcTrim_shows :
    (s.hrcTrim err d most ref).get Reg.CGU_HRC_ERR_PPM = ofSigned 16 err % 65536 ∧
    (s.hrcTrim err d most ref).get Reg.CGU_HRC_ERR_REF = ref % 4 ∧
    (s.hrcTrim err d most ref).cgu =
      { s.cgu with auto := (s.autoMove Reg.CGU_SPAN_HRC s.hrcUser s.cgu.auto (s.hrcSteps d most)).1 } ∧
    (s.hrcTrim err d most ref).clr = s.clr ∧ (s.hrcTrim err d most ref).lst = s.lst := by
  unfold State.hrcTrim
  extract_lets shown steps move moved limit _ auto counted xcap
  have hmove : move = s.autoMove Reg.CGU_SPAN_HRC s.hrcUser s.cgu.auto (s.hrcSteps d most) := s.hrcErrShown_move err d most ref
  have hlimit {g : Fld} (h : Reg.CGU_IRQ_TRIM_LIMIT.apart g = true) : limit.get g = shown.get g :=
    keeps_ite (P := fun u : State => u.get g = shown.get g) (State.get_raise_apart h) rfl
  have hcounted {g : Fld} (hl : Reg.CGU_IRQ_TRIM_LIMIT.apart g = true) (hc : Reg.CGU_TRIM_UPDATES_COUNT.apart g = true) :
      counted.get g = shown.get g :=
    keeps_ite (P := fun u : State => u.get g = shown.get g) ((State.get_put_apart hc).trans (hlimit hl)) (hlimit hl)
  have hframe : limit.cgu = s.cgu ∧ limit.clr = s.clr ∧ limit.lst = s.lst :=
    keeps_ite (P := fun u : State => u.cgu = s.cgu ∧ u.clr = s.clr ∧ u.lst = s.lst) ⟨rfl, rfl, rfl⟩ ⟨rfl, rfl, rfl⟩
  obtain ⟨hcgu, hclr, hlst⟩ := hframe
  have hmoved : counted.cgu = { limit.cgu with auto := move.1 } ∧ counted.clr = limit.clr ∧ counted.lst = limit.lst :=
    keeps_ite (P := fun u : State => u.cgu = { limit.cgu with auto := move.1 } ∧ u.clr = limit.clr ∧ u.lst = limit.lst)
      ⟨rfl, rfl, rfl⟩ ⟨rfl, rfl, rfl⟩
  obtain ⟨hcgu', hclr', hlst'⟩ := hmoved
  refine ⟨?_, ?_, ?_, hclr'.trans hclr, hlst'.trans hlst⟩
  · refine (State.get_put_apart (by decide)).trans ((State.get_put_apart (by decide)).trans ((hcounted (by decide) (by decide)).trans ?_))
    exact (State.get_put_apart (by decide)).trans (State.get_put_held (by decide))
  · refine (State.get_put_apart (by decide)).trans ((State.get_put_apart (by decide)).trans ((hcounted (by decide) (by decide)).trans ?_))
    exact State.get_put_held (by decide)
  · rw [State.put_cgu, State.put_cgu, hcgu', hcgu, hmove]

end hrcTrim

theorem hrcTrimWindow_good {n : Nat} {s : State} (hx : s.xtal = 2) (hl : s.flag Reg.CGU_STAT_LOADS = false) (hh : s.hrc = 2) :
    hrcTrimWindow n s = s.hrcTrim (10 * ((n : Int) - 100000)) (-roundDiv (10 * ((n : Int) - 100000)) 50) 4 0 :=
  if_neg (by simp [hx, hl, hh, ckGOOD])

theorem hrcTrimWindow_idle {n : Nat} {s : State} (h : s.xtal ≠ 2 ∨ s.flag Reg.CGU_STAT_LOADS = true ∨ s.hrc ≠ 2) :
    hrcTrimWindow n s = s :=
  if_pos (by obtain h | h | h := h <;> simp [h, ckGOOD])

/-! ### The fall-back windows (R347, R348) -/

theorem State.fallbackTrim_moves {s : State} {ref n m x : Nat} (h : 16 ≤ n) :
    s.fallbackTrim ref n m x true = (s.put Reg.CGU_HRC_ERR_SAMPLES (min 255 n)).hrcTrim (roundDiv (((m : Int) - x) * 1000000) x)
      (-roundDiv (((m : Int) - x) * 20000) x) 20 ref :=
  if_pos (by simp [h])

theorem State.fallbackTrim_starved {s : State} {ref n m x : Nat} {may : Bool} (h : n < 16 ∨ may = false) :
    s.fallbackTrim ref n m x may =
      ((s.put Reg.CGU_HRC_ERR_SAMPLES (min 255 n)).inc Reg.CGU_TRIM_STARVED_COUNT).raise Reg.CGU_IRQ_TRIM_STARVED :=
  if_neg (by obtain h | h := h <;> simp [h])

/-- The frames of a window that were received without error. -/
def validFrames (l : List TrimFrame) : List TrimFrame := l.filter (fun x => !x.own && !x.bad)

/-- The spacings of these frames that are near whole bits, each with the whole bits that it stands for. -/
def State.keptGaps (s : State) (v : List TrimFrame) : List (Nat × Nat) :=
  (v.flatMap (fun x => x.gaps)).filterMap
    (fun g => (gapBits (s.nominalBit s.fbIdx) g).map (fun k => (g, k * s.nominalBit s.fbIdx)))

theorem canTrimWindow_chosen {l : List TrimFrame} {s : State} (hl : s.flag Reg.CGU_STAT_LOADS = true) (hh : s.hrc = 2)
    (hs : s.fbSrc = 1) : canTrimWindow l s = s.fallbackTrim 1 (validFrames l).length
      ((s.keptGaps (validFrames l)).map Prod.fst).sum ((s.keptGaps (validFrames l)).map Prod.snd).sum true :=
  if_neg (by simp [hl, hh, hs, ckGOOD])

theorem canTrimWindow_idle {l : List TrimFrame} {s : State} (h : s.flag Reg.CGU_STAT_LOADS = false ∨ s.fbSrc = 0 ∨ s.hrc ≠ 2) :
    canTrimWindow l s = s :=
  if_pos (by obtain h | h | h := h <;> simp [h, ckGOOD])

theorem beaconTrimWindow_chosen {l : List PlcaCycle} {s : State} (hl : s.flag Reg.CGU_STAT_LOADS = true) (hh : s.hrc = 2)
    (hs : s.fbSrc = 2) : beaconTrimWindow l s =
      s.fallbackTrim 2 ((l.filter (fun y => y.empty)).map (fun y => y.ns)).length
        ((l.filter (fun y => y.empty)).map (fun y => y.ns)).sum
        (((l.filter (fun y => y.empty)).map (fun y => y.ns)).length * s.beaconNs)
        (!(s.plcaEn s.fbIdx && s.plcaOk s.fbIdx && s.pm 0 s.fbIdx 19 1 0 8 == 0) && s.beaconNs != 0) :=
  if_neg (by simp [hl, hh, hs, ckGOOD])

theorem beaconTrimWindow_idle {l : List PlcaCycle} {s : State}
    (h : s.flag Reg.CGU_STAT_LOADS = false ∨ s.fbSrc = 0 ∨ s.hrc ≠ 2) : beaconTrimWindow l s = s :=
  if_pos (by obtain h | h | h := h <;> simp [h, ckGOOD])

/-! ### A trim window of LRC (R349) -/

/-- A trim window of LRC moves AUTO by d steps, and the code takes effect. -/
def State.lrcTrim (s : State) (d : Int) : State :=
  let a := s.autoMove Reg.CGU_SPAN_LRC s.lrcUser s.cgu.lauto d
  let s := if a.2 then s.raise Reg.CGU_IRQ_TRIM_LIMIT else s
  let s := if a.1 == s.cgu.lauto then s else s.inc Reg.CGU_TRIM_UPDATES_COUNT
  let s := { s with cgu := { s.cgu with lauto := a.1 } }
  s.put Reg.CGU_LRC_EFFECTIVE (s.effective Reg.CGU_LRC_FACTORY Reg.CGU_SPAN_LRC (s.lrcUser + a.1))

/-- By how much a window moves is a draw, and nothing where trimming is held (assumption log 3). -/
theorem lrcTrimWindow_good {e : Int} {s : State} (hx : s.xtal = 2) (hl : s.lrc = 2) :
    ∃ k d, (s.flag Reg.CGU_CTRL_TRIM_HOLD = true → d = 0) ∧ lrcTrimWindow e s = (s.draw k).2.lrcTrim d := by
  refine ⟨_, _, fun hh => if_pos hh, if_neg ?_⟩
  simp [hx, hl, ckGOOD]

theorem lrcTrimWindow_idle {e : Int} {s : State} (h : s.xtal ≠ 2 ∨ s.lrc ≠ 2) : lrcTrimWindow e s = s :=
  if_pos (by obtain h | h := h <;> simp [h, ckGOOD])

/-- LRC_EFFECTIVE is not what its code is made of. -/
theorem State.put_lrcEffective (s : State) (v : Nat) (x : Int) :
    (s.put Reg.CGU_LRC_EFFECTIVE v).effective Reg.CGU_LRC_FACTORY Reg.CGU_SPAN_LRC ((s.put Reg.CGU_LRC_EFFECTIVE v).lrcUser + x) =
      s.effective Reg.CGU_LRC_FACTORY Reg.CGU_SPAN_LRC (s.lrcUser + x) := by
  have hfactory : (s.put Reg.CGU_LRC_EFFECTIVE v).get Reg.CGU_LRC_FACTORY = s.get Reg.CGU_LRC_FACTORY := State.get_put_apart (by decide)
  have hspan : (s.put Reg.CGU_LRC_EFFECTIVE v).get Reg.CGU_SPAN_LRC = s.get Reg.CGU_SPAN_LRC := State.get_put_apart (by decide)
  have huser : (s.put Reg.CGU_LRC_EFFECTIVE v).lrcUser = s.lrcUser := congrArg (toSigned 8) (State.put_secLE (by decide) _ _ _)
  simp only [State.effective, hfactory, hspan, huser]

/-- What a trim window of LRC shows and leaves. -/
theorem State.lrcTrim_shows (s : State) (d : Int) :
    (s.lrcTrim d).get Reg.CGU_LRC_EFFECTIVE = (s.lrcTrim d).effective Reg.CGU_LRC_FACTORY Reg.CGU_SPAN_LRC
      ((s.lrcTrim d).lrcUser + (s.lrcTrim d).cgu.lauto) % 2 ^ Reg.CGU_LRC_EFFECTIVE.width ∧
    (s.lrcTrim d).cgu = { s.cgu with lauto := (s.autoMove Reg.CGU_SPAN_LRC s.lrcUser s.cgu.lauto d).1 } ∧
    ((s.lrcTrim d).cgu.lauto ≠ s.cgu.lauto → (s.lrcTrim d).get Reg.CGU_TRIM_UPDATES_COUNT =
      min (2 ^ Reg.CGU_TRIM_UPDATES_COUNT.width - 1) (s.get Reg.CGU_TRIM_UPDATES_COUNT + 1)) ∧
    (s.lrcTrim d).clr = s.clr ∧ (s.lrcTrim d).lst = s.lst := by
  unfold State.lrcTrim
  extract_lets move limit counted _ auto
  have hlimit : limit.cgu = s.cgu ∧ limit.clr = s.clr ∧ limit.lst = s.lst ∧
      limit.get Reg.CGU_TRIM_UPDATES_COUNT = s.get Reg.CGU_TRIM_UPDATES_COUNT :=
    keeps_ite (P := fun u : State => u.cgu = s.cgu ∧ u.clr = s.clr ∧ u.lst = s.lst ∧
      u.get Reg.CGU_TRIM_UPDATES_COUNT = s.get Reg.CGU_TRIM_UPDATES_COUNT)
      ⟨rfl, rfl, rfl, State.get_raise_apart (by decide)⟩ ⟨rfl, rfl, rfl, rfl⟩
  obtain ⟨hcgu, hclr, hlst, hupdates⟩ := hlimit
  have hcounted : counted.cgu = limit.cgu ∧ counted.clr = limit.clr ∧ counted.lst = limit.lst :=
    keeps_ite (P := fun u : State => u.cgu = limit.cgu ∧ u.clr = limit.clr ∧ u.lst = limit.lst) ⟨rfl, rfl, rfl⟩ ⟨rfl, rfl, rfl⟩
  obtain ⟨hcgu', hclr', hlst'⟩ := hcounted
  have hauto : auto.cgu = { s.cgu with lauto := move.1 } := by
    show ({ counted.cgu with lauto := move.1 } : Cgu) = _
    rw [hcgu', hcgu]
  refine ⟨?_, hauto, fun hne => ?_, hclr'.trans hclr, hlst'.trans hlst⟩
  · exact (State.get_put_held (by decide)).trans (congrArg (· % _) (State.put_lrcEffective auto _ move.1).symm)
  · have hmove : ¬ (move.1 == limit.cgu.lauto) = true := by
      rw [State.put_cgu, hauto] at hne
      simpa [hcgu] using hne
    have heq : counted = limit.inc Reg.CGU_TRIM_UPDATES_COUNT := if_neg hmove
    refine (State.get_put_apart (by decide)).trans (?_ : counted.get _ = _)
    rw [heq, State.get_inc_held (by decide), hupdates]

end Sys2Proof.Machine

namespace Sys2Proof
open Machine

/-- Settles O40: each window writes its error first, and moves its code by `State.autoMove`. -/
theorem trimWindowsMoveTheCodes : Obligations.TrimWindowsMoveTheCodes := by
  unfold Obligations.TrimWindowsMoveTheCodes
  refine ⟨?_, ?_, ?_, ?_, ?_, ?_, ?_, ?_, ?_⟩
  case refine_1 =>
    rintro n _ s hx hl hh rfl
    obtain ⟨hppm, href, hcgu, hclr, hlst⟩ := s.hrcTrim_shows (10 * ((n : Int) - 100000)) (-roundDiv (10 * ((n : Int) - 100000)) 50) 4 0
    refine ⟨_, congrArg Host.Outcome.next (hrcTrimWindow_good hx hl hh), hppm, href, fun hold => ?_, fun hold hlo hhi => ?_, hclr, hlst, ?_⟩
    · rw [hcgu, State.hrcSteps, if_pos hold, State.autoMove_stays]
    · have hmost : -4 ≤ clampInt (-4) 4 (-roundDiv (10 * ((n : Int) - 100000)) 50) ∧
          clampInt (-4) 4 (-roundDiv (10 * ((n : Int) - 100000)) 50) ≤ 4 := by
        simp only [clampInt]
        omega
      rw [hcgu, State.hrcSteps, if_neg (by simp [hold])]
      exact congrArg Prod.fst (State.autoMove_inside (.inl (by push_cast; omega)) (.inl (by push_cast; omega)))
    · rw [hcgu]
  case refine_2 =>
    intro n s h
    exact congrArg Host.Outcome.next (hrcTrimWindow_idle h)
  case refine_3 =>
    rintro l s _ hl hh hs rfl hn
    refine congrArg Host.Outcome.next ((canTrimWindow_chosen hl hh hs).trans ((State.fallbackTrim_starved (.inl hn)).trans ?_))
    rw [Nat.min_eq_right (by omega)]
  case refine_4 =>
    rintro l _ s _ _ _ hl hh hs rfl hn rfl rfl rfl
    exact congrArg Host.Outcome.next ((canTrimWindow_chosen hl hh hs).trans (State.fallbackTrim_moves hn))
  case refine_5 =>
    rintro l _ s hl hh hs rfl
    have h := beaconTrimWindow_chosen (l := l) hl hh hs
    rw [List.length_map] at h
    exact congrArg Host.Outcome.next h
  case refine_6 =>
    rintro l s _ hl hh hs rfl h
    have hc := beaconTrimWindow_chosen (l := l) hl hh hs
    rw [List.length_map] at hc
    refine congrArg Host.Outcome.next (hc.trans (State.fallbackTrim_starved ?_))
    exact h.imp_right fun hb => by simp [hb]
  case refine_7 =>
    intro l v s h
    exact ⟨congrArg Host.Outcome.next (canTrimWindow_idle h), congrArg Host.Outcome.next (beaconTrimWindow_idle h)⟩
  case refine_8 =>
    intro e s hx hl
    obtain ⟨k, d, hhold, heq⟩ := lrcTrimWindow_good (e := e) hx hl
    obtain ⟨heff, hcgu, hupdates, hclr, hlst⟩ := (s.draw k).2.lrcTrim_shows d
    refine ⟨_, congrArg Host.Outcome.next heq, heff, fun hh => ?_, hupdates, hclr, hlst, congrArg (fun g => g.auto) hcgu⟩
    rw [hcgu, hhold hh, State.autoMove_stays]
    rfl
  case refine_9 =>
    intro e s h
    exact congrArg Host.Outcome.next (lrcTrimWindow_idle h)

end Sys2Proof

/-! Qualification and the dwell (R337–R339, R342): what the channels of the Awl's domains leave when they begin to run, and one
equation per case of each command. -/

namespace Sys2Proof.Machine

/-! ### What transceivers and channels leave (R242, R260, R377) -/

/-- A property that survives what the transceivers and channels do: writes of the fields of their pages, all from 0x012 on, and
changes of the Awl's and the wake component. -/
structure ChannelsKeep (P : State → Prop) : Prop where
  put : ∀ {t : State} {f : Fld} {v i j m : Nat}, P t → 0x012 ≤ f.page → P (t.put f v i j m)
  awl : ∀ {t : State} (x : Awl), P t → P { t with awl := x }
  wak : ∀ {t : State} (x : Wak), P t → P { t with wak := x }

/-- The key of a cell is not below its field's first page. -/
theorem page_le_key (f : Fld) (i j m : Nat) : f.page * 4096 * 128 * 4 ≤ f.key i j m := by
  simp only [Fld.key]
  omega

/-- They move no cell of a page before theirs. -/
theorem channelsKeep_get {g : Fld} {v : Nat} (h : g.key 0 0 0 < 0x012 * 4096 * 128 * 4) : ChannelsKeep (fun t => t.get g = v) where
  put {t f _ i j m} ht hf := by
    refine (State.get_put_other _ _ _ _ _ _ _ _ _ _ (.inr fun e => ?_)).trans ht
    have := page_le_key f i j m
    omega
  awl _ ht := ht
  wak _ ht := ht

section ChannelsKeep
variable {P : State → Prop} (hP : ChannelsKeep P) {s : State}
include hP

theorem ChannelsKeep.txFailed (h : P s) (c : Nat) : P (s.txFailed c) := by
  unfold State.txFailed
  extract_lets x
  split
  · exact keeps_ite (hP.put (hP.put (hP.awl _ h) (by decide)) (by decide)) (keeps_ite (hP.put (hP.awl _ h) (by decide)) (hP.awl _ h))
  · exact hP.awl _ h

theorem ChannelsKeep.canFit (h : P s) (c : Nat) : P (s.canFit c) := by
  unfold State.canFit
  extract_lets st hold on st' shown failed
  have hshown : P shown := hP.put h (by decide)
  exact keeps_ite (hP.awl _ (hP.txFailed hshown c)) (keeps_ite (hP.txFailed hshown c) hshown)

theorem ChannelsKeep.canTake (h : P s) (c : Nat) : P (s.canTake c) := by
  unfold State.canTake
  split
  · exact h
  · extract_lets taken _ due same fit st
    have hfit : P fit := hP.canFit (hP.awl _ (hP.awl _ h)) c
    exact keeps_ite (hP.put hfit (by decide)) hfit

theorem ChannelsKeep.canSync (h : P s) (c : Nat) : P (s.canSync c) :=
  keeps_ite (hP.canTake (hP.canFit h c) c) (hP.canFit h c)

theorem ChannelsKeep.txmNext (h : P s) (k : Nat) : P (s.txmNext k) := by
  unfold State.txmNext
  extract_lets waits
  split
  · exact h
  · split <;> exact hP.wak _ h

theorem ChannelsKeep.txmRequest (h : P s) (c st : Nat) (setup cmd : Bool) : P (s.txmRequest c st setup cmd) := by
  unfold State.txmRequest
  extract_lets x y asked followed done
  have hdone : P done := keeps_ite (hP.put (hP.wak _ h) (by decide)) (hP.wak _ h)
  refine keeps_ite h (keeps_ite ?_ ?_)
  · exact hP.canSync (hP.awl _ (hP.txmNext (hP.wak _ h) _)) c
  · exact hP.canSync (hP.awl _ (hP.txmNext hdone _)) c

theorem ChannelsKeep.txmSync (h : P s) : P s.txmSync :=
  keeps_ite h (keeps_foldl (fun _ c hu => keeps_ite hu (hP.txmRequest hu c _ _ _)) h)

theorem ChannelsKeep.linSync (h : P s) (l : Nat) : P (s.linSync l) := by
  unfold State.linSync
  extract_lets on asleep st old shown role fresh table
  have hrole : P role := hP.put (hP.put (keeps_ite h (hP.awl _ h)) (by decide)) (by decide)
  have htable : P table := hP.put (hP.put (hP.awl _ hrole) (by decide)) (by decide)
  exact keeps_ite (hP.put (hP.put htable (by decide)) (by decide)) hrole

theorem ChannelsKeep.channelSync (h : P s) : P s.channelSync :=
  keeps_foldl (fun _ l hu => hP.linSync hu l) (keeps_foldl (fun _ c hu => hP.canSync hu c) (hP.txmSync h))

end ChannelsKeep

/-- The clock unit's fields and component, as the channels leave them. -/
theorem channelsKeep_clocks (s : State) : ChannelsKeep
    (fun t => t.xtal = s.xtal ∧ t.sdsref = s.sdsref ∧ t.cgu = s.cgu) where
  put ht hf := ⟨(channelsKeep_get (by decide)).put ht.1 hf, (channelsKeep_get (by decide)).put ht.2.1 hf, ht.2.2⟩
  awl _ ht := ht
  wak _ ht := ht

/-! ### LRC (R338) -/

theorem lrcCountDone_starts {s : State} (hl : s.lrc = 1) (ha : s.awake = true) (hh : s.hrc = 0) (hn : s.holding = false) :
    lrcCountDone s = (s.put Reg.CGU_STAT_LRC 2).put Reg.CGU_STAT_HRC 1 := by
  have hh' : (s.put Reg.CGU_STAT_LRC 2).hrc = 0 := (State.get_put_apart (by decide)).trans hh
  have ha' : (s.put Reg.CGU_STAT_LRC 2).awake = true := by
    rw [State.awake, State.mode, State.get_put_apart (by decide)]
    exact ha
  have hn' : (s.put Reg.CGU_STAT_LRC 2).holding = false := (congrArg (· == 1) (State.get_put_other (h := by decide) ..)).trans hn
  refine (if_neg (by simp [hl, ckQUALIFYING]) : lrcCountDone s = _).trans (if_pos ?_)
  simp [hh', ha', hn', ckGOOD, ckOFF]

theorem lrcCountDone_counts {s : State} (hl : s.lrc = 1) (hh : s.hrc ≠ 0) : lrcCountDone s = s.put Reg.CGU_STAT_LRC 2 := by
  have hh' : (s.put Reg.CGU_STAT_LRC 2).hrc ≠ 0 := fun e => hh ((State.get_put_apart (by decide)).symm.trans e)
  refine (if_neg (by simp [hl, ckQUALIFYING]) : lrcCountDone s = _).trans (if_neg ?_)
  simp [hh', ckGOOD, ckOFF]

theorem lrcCountDone_idle {s : State} (h : s.lrc ≠ 1) : lrcCountDone s = s := if_pos (by simp [h, ckQUALIFYING])

theorem lrcCountTimeout_holds {s : State} (hl : s.lrc = 1) (ha : s.awake = true) (hh : s.hrc = 0) :
    lrcCountTimeout s = s.clockHold := if_pos (by simp [hl, ha, hh, ckQUALIFYING, ckOFF])

theorem lrcCountTimeout_idle {s : State} (h : s.lrc ≠ 1 ∨ s.hrc ≠ 0) : lrcCountTimeout s = s :=
  if_neg (by obtain h | h := h <;> simp [h, ckQUALIFYING, ckOFF])

/-! ### HRC (R337–R339) -/

theorem hrcInWindow_iff {n : Nat} : hrcInWindow n = true ↔ 23750 ≤ n ∧ n ≤ 26250 := by simp [hrcInWindow]

theorem xtalInWindow_iff {n : Nat} : xtalInWindow n = true ↔ 2450 ≤ n ∧ n ≤ 2550 := by simp [xtalInWindow]

theorem sdsrefInWindow_iff {n : Nat} : sdsrefInWindow n = true ↔ 156094 ≤ n ∧ n ≤ 156406 := by simp [sdsrefInWindow]

section hrc
variable {s : State} (hh : s.hrc = 1) (hl : s.lrc = 2) (hn : s.holding = false)
include hh hl hn

/-- HRC whose qualification ends and that LRC measures. -/
theorem hrcQualify_due : ¬ (s.hrc != ckQUALIFYING || s.holding || s.lrc != ckGOOD) = true := by
  simp [hh, hl, hn, ckQUALIFYING, ckGOOD]

theorem hrcQualifyDone_starts {n : Nat} (hw : hrcInWindow n = true) (hx : s.xtal = 0) :
    hrcQualifyDone true n s =
      ({ (s.put Reg.CGU_STAT_HRC 2).put Reg.CGU_STAT_XTAL 1 with cgu := { s.cgu with starting := true, amp := true } } : State).domSync := by
  have hx' : (s.put Reg.CGU_STAT_HRC 2).xtal = ckOFF := (State.get_put_apart (by decide)).trans hx
  refine (if_neg (hrcQualify_due hh hl hn)).trans ((if_pos (by simp [hw])).trans (congrArg State.domSync ?_))
  exact if_pos hx'

theorem hrcQualifyDone_good {n : Nat} (hw : hrcInWindow n = true) (hx : s.xtal ≠ 0) :
    hrcQualifyDone true n s = (s.put Reg.CGU_STAT_HRC 2).domSync := by
  have hx' : (s.put Reg.CGU_STAT_HRC 2).xtal ≠ ckOFF := fun e => hx ((State.get_put_apart (by decide)).symm.trans e)
  refine (if_neg (hrcQualify_due hh hl hn)).trans ((if_pos (by simp [hw])).trans (congrArg State.domSync ?_))
  exact if_neg hx'

theorem hrcQualifyDone_fails {b : Bool} {n : Nat} (h : b = false ∨ hrcInWindow n = false) :
    hrcQualifyDone b n s = if s.flag Reg.CGU_STAT_SYSREF = true then s.put Reg.CGU_STAT_HRC 3 else s.clockHold :=
  (if_neg (hrcQualify_due hh hl hn)).trans (if_neg (by obtain h | h := h <;> simp [h]))

end hrc

theorem hrcQualifyDone_idle {b : Bool} {n : Nat} {s : State} (h : s.hrc ≠ 1 ∨ s.lrc ≠ 2 ∨ s.holding = true) :
    hrcQualifyDone b n s = s :=
  if_pos (by obtain h | h | h := h <;> simp [h, ckQUALIFYING, ckGOOD])

/-! ### XTAL and SDS_REFCLK (R337, R338) -/

/-- XTAL is GOOD, and SDS_REFCLK starts where it is off. -/
def State.xtalGood (s : State) : State :=
  let u : State := { s.put Reg.CGU_STAT_XTAL 2 with cgu := { s.cgu with starting := false } }
  if u.sdsref = 0 then u.put Reg.CGU_STAT_SDSREF 1 else u

theorem State.xtalGood_shows (s : State) : s.xtalGood.xtal = 2 ∧ s.xtalGood.cgu.starting = false ∧
    s.xtalGood.sdsref = if s.sdsref = 0 then 1 else s.sdsref := by
  unfold State.xtalGood
  extract_lets good _ u
  have hxtal : u.xtal = 2 := State.get_put_held (s := s) (by decide)
  have hsds : u.sdsref = s.sdsref := State.get_put_apart (s := s) (by decide)
  rw [hsds]
  split
  · exact ⟨(State.get_put_apart (by decide)).trans hxtal, rfl, State.get_put_held (by decide)⟩
  · exact ⟨hxtal, rfl, hsds⟩

/-- XTAL's start leaves the loads and the settings of the clock unit. -/
theorem State.xtalGood_get {s : State} {g : Fld} (hx : Reg.CGU_STAT_XTAL.apart g = true) (hd : Reg.CGU_STAT_SDSREF.apart g = true) :
    s.xtalGood.get g = s.get g := by
  have hput : (s.put Reg.CGU_STAT_XTAL 2).get g = s.get g := State.get_put_apart hx
  exact keeps_ite (P := fun u : State => u.get g = s.get g) ((State.get_put_apart hd).trans hput) hput

/-- A dwell begins by a write of DWELL alone. -/
theorem State.dwellStart_sources (s : State) : s.dwellStart.xtal = s.xtal ∧ s.dwellStart.sdsref = s.sdsref ∧ s.dwellStart.cgu = s.cgu :=
  keeps_ite (P := fun u : State => u.xtal = s.xtal ∧ u.sdsref = s.sdsref ∧ u.cgu = s.cgu)
    ⟨State.get_put_apart (by decide), State.get_put_apart (by decide), rfl⟩ ⟨rfl, rfl, rfl⟩

theorem State.dwellStart_begins {s : State} (hl : s.flag Reg.CGU_STAT_LOADS = true) (hx : s.xtal = 2)
    (ha : s.flag Reg.CGU_CTRL_AUTO_RETURN = true) : s.dwellStart = s.put Reg.CGU_STAT_DWELL 1 :=
  if_pos (by simp [hl, hx, ha, ckGOOD])

theorem xtalQualifyDone_good {n : Nat} {s : State} (hx : s.xtal = 1 ∨ s.xtal = 3) (hh : s.hrc = 2) (hn : s.holding = false)
    (hw : xtalInWindow n = true) : xtalQualifyDone n s = (s.xtalGood.pllStarts s.pllRuns).dwellStart :=
  if_neg (by obtain hx | hx := hx <;> simp [hx, hh, hn, hw, ckQUALIFYING, ckFAILED, ckGOOD])

theorem xtalQualifyDone_idle {n : Nat} {s : State}
    (h : (s.xtal ≠ 1 ∧ s.xtal ≠ 3) ∨ s.hrc ≠ 2 ∨ s.holding = true ∨ xtalInWindow n = false) : xtalQualifyDone n s = s := by
  refine if_pos ?_
  obtain ⟨hq, hf⟩ | h | h | h := h
  · simp [hq, hf, ckQUALIFYING, ckFAILED]
  all_goals simp [h, ckGOOD]

/-- XTAL that became GOOD, when CAN and LIN have begun to run and a dwell where the loads wait. -/
theorem State.xtalGood_runs (s : State) : let t := (s.xtalGood.pllStarts s.pllRuns).dwellStart
    t.xtal = 2 ∧ t.cgu.starting = false ∧ (s.sdsref = 0 → t.sdsref = 1) ∧ (s.sdsref ≠ 0 → t.sdsref = s.sdsref) ∧
    (s.flag Reg.CGU_STAT_LOADS = true → s.flag Reg.CGU_CTRL_AUTO_RETURN = true → t.get Reg.CGU_STAT_DWELL = 1) := by
  intro t
  obtain ⟨hxtal, hstart, hsds⟩ := s.xtalGood_shows
  obtain ⟨px, pd, pc⟩ : (s.xtalGood.pllStarts s.pllRuns).xtal = s.xtalGood.xtal ∧
      (s.xtalGood.pllStarts s.pllRuns).sdsref = s.xtalGood.sdsref ∧ (s.xtalGood.pllStarts s.pllRuns).cgu = s.xtalGood.cgu :=
    keeps_ite (P := fun u : State => u.xtal = s.xtalGood.xtal ∧ u.sdsref = s.xtalGood.sdsref ∧ u.cgu = s.xtalGood.cgu)
      ⟨rfl, rfl, rfl⟩ ((channelsKeep_clocks s.xtalGood).channelSync ⟨rfl, rfl, rfl⟩)
  obtain ⟨dx, dd, dc⟩ := (s.xtalGood.pllStarts s.pllRuns).dwellStart_sources
  have hd : t.sdsref = if s.sdsref = 0 then 1 else s.sdsref := dd.trans (pd.trans hsds)
  refine ⟨dx.trans (px.trans hxtal), ?_, fun h => hd.trans (if_pos h), fun h => hd.trans (if_neg h), fun hl ha => ?_⟩
  · rw [dc, pc]
    exact hstart
  · have hr : s.pllRuns = true := by simp [State.pllRuns, hl]
    have hloads : s.xtalGood.flag Reg.CGU_STAT_LOADS = true :=
      (congrArg (· == 1) (State.xtalGood_get (by decide) (by decide))).trans hl
    have hauto : s.xtalGood.flag Reg.CGU_CTRL_AUTO_RETURN = true :=
      (congrArg (· == 1) (State.xtalGood_get (by decide) (by decide))).trans ha
    show (s.xtalGood.pllStarts s.pllRuns).dwellStart.get Reg.CGU_STAT_DWELL = 1
    rw [hr]
    exact (congrArg (fun u : State => u.get Reg.CGU_STAT_DWELL) (State.dwellStart_begins hloads hxtal hauto)).trans
      (State.get_put_held (by decide))

theorem sdsrefQualifyDone_good {n : Nat} {s : State} (hd : s.sdsref = 1) (hx : s.xtal = 2) (hn : s.holding = false)
    (hw : sdsrefInWindow n = true) : sdsrefQualifyDone n s = s.put Reg.CGU_STAT_SDSREF 2 :=
  if_pos (by simp [hd, hx, hn, hw, ckQUALIFYING, ckGOOD])

theorem sdsrefQualifyDone_idle {n : Nat} {s : State}
    (h : s.sdsref ≠ 1 ∨ s.xtal ≠ 2 ∨ s.holding = true ∨ sdsrefInWindow n = false) : sdsrefQualifyDone n s = s :=
  if_neg (by obtain h | h | h | h := h <;> simp [h, ckQUALIFYING, ckGOOD])

/-! ### The start-up limit, the dwell and AUTO_RETURN (R338, R342) -/

theorem xtalStartTimeout_fails {s : State} (hs : s.cgu.starting = true) (hn : s.holding = false) : xtalStartTimeout s =
    (({ s with cgu := { s.cgu with starting := false } } : State).put Reg.CGU_STAT_XTAL 3).xtalFailover :=
  if_neg (by simp [hs, hn])

theorem xtalStartTimeout_idle {s : State} (h : s.cgu.starting = false ∨ s.holding = true) : xtalStartTimeout s = s :=
  if_pos (by obtain h | h := h <;> simp [h])

theorem dwellEnd_returns {s : State} (hd : s.flag Reg.CGU_STAT_DWELL = true) (hx : s.xtal = 2) (hn : s.holding = false) :
    dwellEnd s =
      (((s.put Reg.CGU_STAT_DWELL 0).put Reg.CGU_STAT_LOADS 0).raise Reg.CGU_IRQ_XTAL_BACK).devCause Reg.DEV_CAUTIOUS_CLOCK false :=
  if_neg (by simp [hd, hx, hn, ckGOOD])

theorem dwellEnd_idle {s : State} (h : s.flag Reg.CGU_STAT_DWELL = false ∨ s.xtal ≠ 2 ∨ s.holding = true) : dwellEnd s = s :=
  if_pos (by obtain h | h | h := h <;> simp [h, ckGOOD])

/-- The Heel stands in CLOCK_HOLD alone. -/
theorem State.heelStands_of_holding {s : State} (h : s.holding = false) : s.heelStands = false := by
  rw [State.holding] at h
  simp [State.heelStands, h]

/-- The settings of CGU_CTRL are written, before a dwell begins or ends. -/
def State.ctrlSet (s : State) (auto hold : Bool) : State :=
  (s.put Reg.CGU_CTRL_AUTO_RETURN (b2n auto)).put Reg.CGU_CTRL_TRIM_HOLD (b2n hold)

theorem State.ctrlSet_auto (s : State) (auto hold : Bool) : (s.ctrlSet auto hold).get Reg.CGU_CTRL_AUTO_RETURN = b2n auto := by
  rw [State.ctrlSet, State.get_put_apart (by decide), State.get_put_held (by decide)]
  exact b2n_mod_two auto

theorem State.ctrlSet_get {s : State} {auto hold : Bool} {g : Fld} (ha : Reg.CGU_CTRL_AUTO_RETURN.apart g = true)
    (hh : Reg.CGU_CTRL_TRIM_HOLD.apart g = true) : (s.ctrlSet auto hold).get g = s.get g :=
  (State.get_put_apart hh).trans (State.get_put_apart ha)

/-- Without AUTO_RETURN no dwell stands. -/
theorem State.cguCtrl_off (s : State) (hold : Bool) : (s.cguCtrl false hold).get Reg.CGU_CTRL_AUTO_RETURN = 0 ∧
    (s.cguCtrl false hold).get Reg.CGU_STAT_DWELL = 0 :=
  ⟨(State.get_put_apart (by decide)).trans (s.ctrlSet_auto false hold), State.get_put_held (by decide)⟩

/-- AUTO_RETURN that comes while the loads wait begins the dwell. -/
theorem State.cguCtrl_on {s : State} (hold : Bool) (hl : s.flag Reg.CGU_STAT_LOADS = true) (hx : s.xtal = 2) :
    (s.cguCtrl true hold).get Reg.CGU_CTRL_AUTO_RETURN = 1 ∧ (s.cguCtrl true hold).get Reg.CGU_STAT_DWELL = 1 := by
  have hl' : (s.ctrlSet true hold).flag Reg.CGU_STAT_LOADS = true :=
    (congrArg (· == 1) (State.ctrlSet_get (by decide) (by decide))).trans hl
  have hx' : (s.ctrlSet true hold).xtal = 2 := (State.ctrlSet_get (by decide) (by decide)).trans hx
  have ha' : (s.ctrlSet true hold).flag Reg.CGU_CTRL_AUTO_RETURN = true := congrArg (· == 1) (s.ctrlSet_auto true hold)
  have heq : s.cguCtrl true hold = (s.ctrlSet true hold).put Reg.CGU_STAT_DWELL 1 := State.dwellStart_begins hl' hx' ha'
  rw [heq]
  exact ⟨(State.get_put_apart (by decide)).trans (s.ctrlSet_auto true hold), State.get_put_held (by decide)⟩

theorem autoReturnWrite_granted {m : Master} {on : Bool} {z : State} (h : (z.sent m).grants m pgCGU) :
    autoReturnWrite m on z = (z.sent m).cguCtrl on ((z.sent m).flag Reg.CGU_CTRL_TRIM_HOLD) :=
  z.direct_of_grants m _ _ _ h

end Sys2Proof.Machine

namespace Sys2Proof
open Machine

/-- Settles O38: each step of R338 by its equation; that CAN and LIN begin to run leaves the clock unit by `channelsKeep_clocks`. -/
theorem clockSourcesQualify : Obligations.ClockSourcesQualify := by
  unfold Obligations.ClockSourcesQualify
  refine ⟨?_, ?_, ?_, ?_, ?_, ?_, ?_, ?_, ?_, ?_, ?_, ?_, ?_, ?_, ?_, ?_, ?_⟩
  case refine_1 =>
    intro s hl ha hh hn
    exact ⟨congrArg Host.Outcome.next (lrcCountDone_starts hl ha hh hn), congrArg Host.Outcome.next (lrcCountTimeout_holds hl ha hh)⟩
  case refine_2 =>
    intro s hl hh
    exact ⟨congrArg Host.Outcome.next (lrcCountDone_counts hl hh), congrArg Host.Outcome.next (lrcCountTimeout_idle (.inr hh))⟩
  case refine_3 =>
    intro s hl
    exact ⟨congrArg Host.Outcome.next (lrcCountDone_idle hl), congrArg Host.Outcome.next (lrcCountTimeout_idle (.inl hl))⟩
  case refine_4 =>
    rintro n s _ hh hl hn hlo hhi hx rfl
    exact congrArg Host.Outcome.next (hrcQualifyDone_starts hh hl hn (hrcInWindow_iff.mpr ⟨hlo, hhi⟩) hx)
  case refine_5 =>
    intro n s hh hl hn hlo hhi hx
    exact congrArg Host.Outcome.next (hrcQualifyDone_good hh hl hn (hrcInWindow_iff.mpr ⟨hlo, hhi⟩) hx)
  case refine_6 =>
    intro b n s hh hl hn h
    refine congrArg Host.Outcome.next (hrcQualifyDone_fails hh hl hn (h.imp_right fun hw => ?_))
    rw [← Bool.not_eq_true, hrcInWindow_iff]
    omega
  case refine_7 =>
    intro b n s h
    exact congrArg Host.Outcome.next (hrcQualifyDone_idle h)
  case refine_8 =>
    intro n s hx hh hn hlo hhi
    exact ⟨_, congrArg Host.Outcome.next (xtalQualifyDone_good hx hh hn (xtalInWindow_iff.mpr ⟨hlo, hhi⟩)), s.xtalGood_runs⟩
  case refine_9 =>
    intro n s h
    refine congrArg Host.Outcome.next (xtalQualifyDone_idle (h.imp_right fun h => h.imp_right fun h => h.imp_right fun hw => ?_))
    rw [← Bool.not_eq_true, xtalInWindow_iff]
    omega
  case refine_10 =>
    intro n s hd hx hn hlo hhi
    exact congrArg Host.Outcome.next (sdsrefQualifyDone_good hd hx hn (sdsrefInWindow_iff.mpr ⟨hlo, hhi⟩))
  case refine_11 =>
    intro n s h
    refine congrArg Host.Outcome.next (sdsrefQualifyDone_idle (h.imp_right fun h => h.imp_right fun h => h.imp_right fun hw => ?_))
    rw [← Bool.not_eq_true, sdsrefInWindow_iff]
    omega
  case refine_12 =>
    intro s hs hn
    exact congrArg Host.Outcome.next (xtalStartTimeout_fails hs hn)
  case refine_13 =>
    intro s h
    exact congrArg Host.Outcome.next (xtalStartTimeout_idle h)
  case refine_14 =>
    intro s hd hx hn
    exact congrArg Host.Outcome.next ((State.heel_runs (State.heelStands_of_holding hn)).trans (dwellEnd_returns hd hx hn))
  case refine_15 =>
    intro s h
    exact congrArg Host.Outcome.next (State.heel_idle fun _ => dwellEnd_idle h)
  case refine_16 =>
    rintro m z _ rfl hg
    obtain ⟨hauto, hdwell⟩ := (z.sent m).cguCtrl_off ((z.sent m).flag Reg.CGU_CTRL_TRIM_HOLD)
    exact ⟨_, congrArg Host.Outcome.next (autoReturnWrite_granted hg), hauto, hdwell, rfl, rfl, rfl⟩
  case refine_17 =>
    rintro m z _ rfl hg hl hx
    exact ⟨_, congrArg Host.Outcome.next (autoReturnWrite_granted hg), State.cguCtrl_on _ hl hx⟩

end Sys2Proof

/-! The clusters' timers and requests (R366–R368): one equation per case of each command. -/

namespace Sys2Proof.Machine

/-! ### Keep-alives (R366) -/

/-- What a keep-alive does to its cluster. -/
theorem State.kaReceived_eq (s : State) (n : Nat) : s.kaReceived n =
    if s.clState n = clREADY then s.clTimer n
    else if s.clState n = clPREPARE ∨ s.clState n = clWOKEN then s.clEnter n clREADY else s := by
  simp only [State.kaReceived, Bool.or_eq_true, decide_eq_true_eq]

theorem keepaliveRx_received {e : KaRx} {n : Nat} {s : State} (h : (List.range 32).find? (fun k => s.isKa k e) = some n) :
    keepaliveRx e s = s.kaReceived n := by
  rw [keepaliveRx, State.kaSeen, h]

theorem keepaliveRx_foreign {e : KaRx} {s : State} (h : ∀ k : Fin 32, s.isKa k.val e = false) : keepaliveRx e s = s := by
  have hnone : (List.range 32).find? (fun k => s.isKa k e) = none :=
    List.find?_eq_none.mpr fun k hk => by simp [h ⟨k, List.mem_range.mp hk⟩]
  rw [keepaliveRx, State.kaSeen, hnone]

/-- A CAN frame is the keep-alive of the cluster of its channel where its identifier agrees under KA_MASK. -/
theorem State.isKa_can {s : State} {c n x : Nat} {ide : Bool} (h : s.clusterOfCan c = some n) :
    s.isKa n (.can c x ide) = true ↔
      Nat.land x (s.nm n 28 4 % 2 ^ 29) = Nat.land (s.nm n 24 4 % 2 ^ 29) (s.nm n 28 4 % 2 ^ 29) ∧ ide = bit (s.nm n 24 4) 29 := by
  simp [State.isKa, h]

/-! ### Timers (R368) -/

section timers
variable {n : Nat} {s : State}

theorem keepalivePeriod_requested (h : s.clState n = clREQUESTED) : keepalivePeriod n s = s.sendKa n := if_pos h

theorem keepalivePeriod_idle (h : s.clState n ≠ clREQUESTED) : keepalivePeriod n s = s := if_neg h

theorem readyTimerExpiry_ready (h : s.clState n = clREADY) : readyTimerExpiry n s = s.clEnter n clPREPARE := if_pos h

theorem readyTimerExpiry_idle (h : s.clState n ≠ clREADY) : readyTimerExpiry n s = s := if_neg h

theorem prepareTimerExpiry_prepare (h : s.clState n = clPREPARE) : prepareTimerExpiry n s = (s.clEnter n clASLEEP).domSync := if_pos h

theorem prepareTimerExpiry_idle (h : s.clState n ≠ clPREPARE) : prepareTimerExpiry n s = s := if_neg h

theorem wakeTimeout_woken (h : s.clState n = clWOKEN) : wakeTimeout n s =
    (((s.wakSet (fun w => { w with falses := bump16 w.falses n })).clEnter n clASLEEP).raise Reg.WAK_IRQ_FALSE_WAKE).domSync := if_pos h

theorem wakeTimeout_idle (h : s.clState n ≠ clWOKEN) : wakeTimeout n s = s := if_neg h

end timers

/-! ### Requests (R41, R367) -/

/-- The host's requests, and those that the sideband may take over, before the clusters follow. -/
theorem State.wakeReqHost_host {s : State} {v : Nat} : s.wakeReqHost .host v =
    ((match newBit (s.get Reg.WAK_REQ_HOST_CL) v with
      | some n => (s.put Reg.WAK_REQ_HOST_CL v).abortDescent wkHOST n
      | none => s.put Reg.WAK_REQ_HOST_CL v) : State).requestsChanged := by
  unfold State.wakeReqHost
  exact if_neg (by simp)

/-- The sideband does not write the host's requests while the host is there. -/
theorem State.wakeReqHost_source {s : State} {v : Nat} (he : s.flag Reg.WDG_HB_STAT_EXPIRED = false)
    (hl : s.flag Reg.WLT_STAT_LINK_UP = true) : s.wakeReqHost .sideband v = s.err pgWAK 0x088 ecSOURCE .sideband :=
  if_pos (by simp [he, hl])

theorem State.wakeReqSb_host {s : State} {v : Nat} : s.wakeReqSb .host v = s := if_pos rfl

theorem State.put_awake {s : State} {f : Fld} {v : Nat} (h : f.apart Reg.PWR_MODE_MODE = true) : (s.put f v).awake = s.awake := by
  rw [State.awake, State.mode, State.get_put_apart h]
  rfl

theorem State.awake_normal {s : State} (h : s.mode = mdNORMAL) : s.awake = true := by simp [State.awake, h]

theorem State.wakeReqSb_sideband {s : State} {v : Nat} (hm : s.mode = mdNORMAL) (hn : newBit (s.get Reg.WAK_REQ_SB_CL) v = none) :
    s.wakeReqSb .sideband v = (s.put Reg.WAK_REQ_SB_CL v).requestsChanged := by
  have hawake : (s.put Reg.WAK_REQ_SB_CL v).awake = true := (State.put_awake (by decide)).trans (State.awake_normal hm)
  refine (if_neg (by decide) : s.wakeReqSb .sideband v = _).trans ?_
  simp only [hn]
  exact if_pos hawake

/-! ### Pins and routes (R367) -/

section pins
variable {k : Nat} {s u : State} {b : Bool}

theorem wakePinChange_asleep (hu : u = s.wakSet (fun w => { w with pins := AMap.set (fun _ => false) w.pins k b }))
    (ha : u.awake = false) : wakePinChange k b s = u.pinRequests := by
  subst hu
  exact if_pos (by simp [ha])

theorem wakePinChange_falls (hu : u = s.wakSet (fun w => { w with pins := AMap.set (fun _ => false) w.pins k false })) :
    wakePinChange k false s = if u.awake = true then u.pinRequests.requestsChanged else u.pinRequests := by
  by_cases ha : u.awake = true
  · rw [if_pos ha]
    subst hu
    exact if_neg (by simp [ha])
  · rw [if_neg ha]
    exact wakePinChange_asleep hu (Bool.not_eq_true _ ▸ ha)

theorem wakePinChange_rises (hu : u = s.wakSet (fun w => { w with pins := AMap.set (fun _ => false) w.pins k true }))
    (ha : u.awake = true) (hp : u.pinMode k = 1) :
    wakePinChange k true s = (u.abortDescent wkWAKE_IN k).pinRequests.requestsChanged := by
  subst hu
  exact (if_neg (by simp [ha])).trans (congrArg (fun t : State => t.pinRequests.requestsChanged) (if_pos (by simp [hp])))

end pins

/-! ### LIN_GOTOSLEEP_RX (R368) -/

theorem linGotosleepRx_prepares {l n : Nat} {s : State} (h : s.clusterOfLin l = some n) (hc : s.linCommander l = false)
    (hu : s.clState n ≠ clUNUSED) (ha : s.clState n ≠ clASLEEP) : linGotosleepRx l s = (s.clEnter n clPREPARE).clUpdate n := by
  simp [linGotosleepRx, h, hc, hu, ha]

theorem linGotosleepRx_none {l : Nat} {s : State} (h : s.clusterOfLin l = none) : linGotosleepRx l s = s := by
  rw [linGotosleepRx, h]

end Sys2Proof.Machine

namespace Sys2Proof
open Machine

/-- Settles O48: the state of the cluster decides each timer, and each request goes by the master that may write it. -/
theorem clustersFollowRequestsAndTimers : Obligations.ClustersFollowRequestsAndTimers := by
  unfold Obligations.ClustersFollowRequestsAndTimers
  refine ⟨?_, ?_, ?_, ?_, ?_, ?_, ?_, ?_, ?_, ?_, ?_, ?_, ?_, ?_, ?_, ?_, ?_, ?_, ?_, ?_⟩
  case refine_1 =>
    intro e n s h
    exact congrArg Host.Outcome.next ((keepaliveRx_received h).trans (s.kaReceived_eq n))
  case refine_2 =>
    intro e s h
    exact congrArg Host.Outcome.next (keepaliveRx_foreign h)
  case refine_3 =>
    intro c n x ide s _ h
    exact State.isKa_can h
  case refine_4 =>
    intro n s h
    exact ⟨congrArg Host.Outcome.next (keepalivePeriod_idle (by rw [h]; decide)),
      congrArg Host.Outcome.next (State.heel_idle fun _ => readyTimerExpiry_idle (by rw [h]; decide)),
      congrArg Host.Outcome.next (State.heel_idle fun _ => prepareTimerExpiry_idle (by rw [h]; decide)),
      congrArg Host.Outcome.next (State.heel_idle fun _ => wakeTimeout_idle (by rw [h]; decide))⟩
  case refine_5 =>
    intro n s h
    exact congrArg Host.Outcome.next (keepalivePeriod_requested h)
  case refine_6 =>
    intro n s hr h
    exact congrArg Host.Outcome.next ((State.heel_runs hr).trans (readyTimerExpiry_ready h))
  case refine_7 =>
    intro n s hr h
    exact congrArg Host.Outcome.next ((State.heel_runs hr).trans (prepareTimerExpiry_prepare h))
  case refine_8 =>
    intro n s hr h
    exact congrArg Host.Outcome.next ((State.heel_runs hr).trans (wakeTimeout_woken h))
  case refine_9 =>
    rintro v z _ rfl hg hn
    refine congrArg Host.Outcome.next ((z.direct_of_grants .host _ _ _ hg).trans (State.wakeReqHost_host.trans ?_))
    rw [hn]
  case refine_10 =>
    rintro v n z _ rfl hg hn
    refine congrArg Host.Outcome.next ((z.direct_of_grants .host _ _ _ hg).trans (State.wakeReqHost_host.trans ?_))
    rw [hn]
  case refine_11 =>
    rintro v z _ rfl hg he hl
    exact congrArg Host.Outcome.next ((State.direct_of_grants _ .sideband _ _ _ hg).trans (State.wakeReqHost_source he hl))
  case refine_12 =>
    rintro v z _ rfl hg
    exact congrArg Host.Outcome.next ((z.direct_of_grants .host _ _ _ hg).trans State.wakeReqSb_host)
  case refine_13 =>
    rintro v z _ rfl hg hm hn
    exact congrArg Host.Outcome.next ((State.direct_of_grants _ .sideband _ _ _ hg).trans (State.wakeReqSb_sideband hm hn))
  case refine_14 =>
    intro k s u hr hu
    exact congrArg Host.Outcome.next ((State.heel_runs hr).trans (wakePinChange_falls hu))
  case refine_15 =>
    intro k s u hr hu ha hp
    exact congrArg Host.Outcome.next ((State.heel_runs hr).trans (wakePinChange_rises hu ha hp))
  case refine_16 =>
    intro k b s u hr hu ha
    exact congrArg Host.Outcome.next ((State.heel_runs hr).trans (wakePinChange_asleep hu ha))
  case refine_17 =>
    intro n s hr
    exact congrArg Host.Outcome.next (State.heel_runs hr)
  case refine_18 =>
    intro n k b s hr
    refine ⟨?_, ?_, ?_, ?_, ?_, ?_⟩ <;> exact congrArg Host.Outcome.next (State.heel_stands hr)
  case refine_19 =>
    intro l n s h hc hu ha
    exact congrArg Host.Outcome.next (linGotosleepRx_prepares h hc hu ha)
  case refine_20 =>
    intro l s h
    exact congrArg Host.Outcome.next (linGotosleepRx_none h)

end Sys2Proof

/-! Transceiver sequences (R376, R377): one equation per op of a profile, and one per case of a sequence's end. -/

namespace Sys2Proof.Machine

/-! ### The ops of a profile (R376) -/

section ops
variable {s : State} {c i n fuel : Nat} {d rx sent : List Byte}

theorem State.txmOps_end {a e : Nat} (hi : i < 30) (h : s.txmOp c i = (0, n, false, a, e, d)) :
    s.txmOps c (fuel + 1) i rx sent = some (sent, true) := by
  rw [State.txmOps, if_neg (Nat.not_le.mpr hi), h]
  rfl

theorem State.txmOps_write {a e : Nat} (hi : i < 30) (h : s.txmOp c i = (1, n, false, a, e, d)) :
    s.txmOps c (fuel + 1) i rx sent = s.txmOps c fuel (i + 1) rx (sent ++ d.take n) := by
  rw [State.txmOps, if_neg (Nat.not_le.mpr hi), h]
  rfl

theorem State.txmOps_writeParam {a e : Nat} (hi : i < 30) (h : s.txmOp c i = (1, n, true, a, e, d)) :
    s.txmOps c (fuel + 1) i rx sent =
      s.txmOps c fuel (i + 1) rx (sent ++ (List.range n).map (fun k => s.paramByte c (a + k))) := by
  rw [State.txmOps, if_neg (Nat.not_le.mpr hi), h]
  rfl

theorem State.txmOps_reserved {p : Bool} {a e : Nat} (hi : i < 30) (h : s.txmOp c i = (3, n, p, a, e, d)) :
    s.txmOps c (fuel + 1) i rx sent = s.txmOps c fuel (i + 1) rx sent := by
  rw [State.txmOps, if_neg (Nat.not_le.mpr hi), h]
  rfl

theorem State.txmOps_readCheck {a e : Nat} {b : Byte} {q : List Byte} (hi : i < 30) (h : s.txmOp c i = (2, n, false, a, e, d)) :
    s.txmOps c (fuel + 1) i (b :: q) sent =
      if Nat.land b.toNat a = e then s.txmOps c fuel (i + 1) q (sent ++ d.take n) else some (sent ++ d.take n, false) := by
  rw [State.txmOps, if_neg (Nat.not_le.mpr hi), h]
  rfl

end ops

/-! ### TXM_CMD and TXM_SEQUENCE_DONE (R377) -/

theorem txmCmd_granted {m : Master} {c st : Nat} {z : State} (h : (z.sent m).grants m pgTXM) :
    txmCmd m c st z = (z.sent m).txmRequest c st false true := z.direct_of_grants m _ _ _ h

section done
variable {c k : Nat} {r : List Nat} {rx sent : List Byte} {s : State}

theorem txmSequenceDone_none (h : (s.txm c).todo = []) : txmSequenceDone c rx s = s := by
  simp only [txmSequenceDone, h]

theorem txmSequenceDone_waits (h : (s.txm c).todo = k :: r) (hn : s.txmRuns c = false ∨ s.txmRunOf c k rx = none) :
    txmSequenceDone c rx s = s := by
  have hrun : (if s.txmRuns c then s.txmRunOf c k rx else none) = none := by
    obtain hn | hn := hn <;> simp [hn]
  simp only [txmSequenceDone, h, hrun]

/-- The last sequence of a command is complete: the transceiver is in its target. -/
theorem txmSequenceDone_completes (h : (s.txm c).todo = [k]) (hr : s.txmRuns c = true)
    (ho : s.txmRunOf c k rx = some (sent, true)) (hc : (s.txm c).cmd = true) : txmSequenceDone c rx s =
    (((s.txmSet c { s.txm c with sent := sent, state := (s.txm c).target, err := false, todo := [], cmd := false, again := false }).raise
      Reg.TXM_IRQ_CMD_DONE).txmNext (c / 16)).canHold c (txmHold (s.txm c).target) := by
  simp only [txmSequenceDone, h, hr, ho, hc, if_true]

theorem txmSequenceDone_goesOn {j : Nat} (h : (s.txm c).todo = k :: j :: r) (hr : s.txmRuns c = true)
    (ho : s.txmRunOf c k rx = some (sent, true)) :
    txmSequenceDone c rx s = s.txmSet c { s.txm c with sent := sent, todo := j :: r, again := false } := by
  simp only [txmSequenceDone, h, hr, ho, if_true]

/-- A first failure is counted and tried again. -/
theorem txmSequenceDone_retries (h : (s.txm c).todo = k :: r) (hr : s.txmRuns c = true)
    (ho : s.txmRunOf c k rx = some (sent, false)) (ha : (s.txm c).again = false) : txmSequenceDone c rx s =
    (s.inc Reg.TXM_ERRS_COUNT).txmSet c { s.txm c with sent := sent, again := true } := by
  simp only [txmSequenceDone, h, hr, ho, ha, if_true, Bool.not_false]

/-- A second failure ends the request. -/
theorem txmSequenceDone_fails (h : (s.txm c).todo = k :: r) (hr : s.txmRuns c = true)
    (ho : s.txmRunOf c k rx = some (sent, false)) (ha : (s.txm c).again = true) (hc : (s.txm c).cmd = false) :
    txmSequenceDone c rx s =
      ((((s.inc Reg.TXM_ERRS_COUNT).txmSet c { s.txm c with sent := sent, err := true, todo := [], cmd := false, again := false }).txmNext
        (c / 16)).raise Reg.TXM_IRQ_SEQ_ERR).fault pgPWR 0x0403 := by
  simp only [txmSequenceDone, h, hr, ho, ha, hc, if_true, if_false, Bool.not_true, Bool.false_eq_true]

end done

end Sys2Proof.Machine

namespace Sys2Proof
open Machine

/-- Settles O50: a sequence is its ops from START on; how it ends decides between the target, the next sequence, a retry and the error. -/
theorem transceiversAreSequenced : Obligations.TransceiversAreSequenced := by
  unfold Obligations.TransceiversAreSequenced
  refine ⟨?_, ?_, ?_, ?_, ?_, ?_, ?_, ?_⟩
  case refine_1 =>
    rintro m c st z _ rfl hg
    exact congrArg Host.Outcome.next (txmCmd_granted hg)
  case refine_2 =>
    intro c k rx sent s h hr ho hc
    exact congrArg Host.Outcome.next (txmSequenceDone_completes h hr ho hc)
  case refine_3 =>
    intro c k j r rx sent s h hr ho
    exact congrArg Host.Outcome.next (txmSequenceDone_goesOn h hr ho)
  case refine_4 =>
    intro c k r rx sent s h hr ho ha
    exact congrArg Host.Outcome.next (txmSequenceDone_retries h hr ho ha)
  case refine_5 =>
    intro c k r rx sent s h hr ho ha hc
    exact congrArg Host.Outcome.next (txmSequenceDone_fails h hr ho ha hc)
  case refine_6 =>
    intro c rx s h
    exact congrArg Host.Outcome.next (txmSequenceDone_none h)
  case refine_7 =>
    intro c k r rx s h hn
    exact congrArg Host.Outcome.next (txmSequenceDone_waits h hn)
  case refine_8 =>
    intro c i n d rx sent s fuel hi
    refine ⟨fun a e => State.txmOps_end hi, rfl, fun a e => State.txmOps_write hi, fun a e => State.txmOps_writeParam hi,
      fun p a e => State.txmOps_reserved hi, ?_⟩
    rintro a e b q h rfl
    exact State.txmOps_readCheck hi h

end Sys2Proof

/-! Arming, restart, the trial, the speed signal and the owner lock (R392–R398): one equation per case of each command. -/

namespace Sys2Proof.Machine

/-! ### UPD_RESULT (R390) -/

/-- The fields that show a result. -/
def resultFields : List Fld := [Reg.UPD_RESULT_CODE, Reg.UPD_RESULT_SOURCE, Reg.UPD_IRQ_CMD_ERR]

section updResult
variable (s : State) (source code : Nat)

@[simp] theorem State.updResult_upd : (s.updResult source code).upd = s.upd := by
  unfold State.updResult
  split <;> rfl

theorem State.updResult_code (h : code < 256) : (s.updResult source code).get Reg.UPD_RESULT_CODE = code := by
  have hput : ((s.put Reg.UPD_RESULT_CODE code).put Reg.UPD_RESULT_SOURCE source).get Reg.UPD_RESULT_CODE = code :=
    (State.get_put_apart (by decide)).trans ((State.get_put_held (by decide)).trans (Nat.mod_eq_of_lt h))
  unfold State.updResult
  exact keeps_ite (P := fun u : State => u.get Reg.UPD_RESULT_CODE = code) hput ((State.get_raise_apart (by decide)).trans hput)

theorem State.updResult_get {g : Fld} (h : resultFields.all (fun f => f.apart g) = true) :
    (s.updResult source code).get g = s.get g := by
  simp only [resultFields, List.all_cons, List.all_nil, Bool.and_true, Bool.and_eq_true] at h
  obtain ⟨hcode, hsource, herr⟩ := h
  have hput : ((s.put Reg.UPD_RESULT_CODE code).put Reg.UPD_RESULT_SOURCE source).get g = s.get g :=
    (State.get_put_apart hsource).trans (State.get_put_apart hcode)
  unfold State.updResult
  exact keeps_ite (P := fun u : State => u.get g = s.get g) hput ((State.get_raise_apart herr).trans hput)

end updResult

/-! ### Arming and restart (R393, R394) -/

theorem State.armWrite_go {s : State} (h : s.loadMode = false) : s.armWrite true false =
    if s.armRefusal = 0 then (s.put Reg.UPD_STAT_ARMED 1).updResult 8 0 else s.updResult 8 s.armRefusal := by
  simp only [State.armWrite, h, Bool.not_true, Bool.false_eq_true, if_false]
  split <;> simp_all

theorem State.armWrite_disarm (s : State) : s.armWrite false true = s.put Reg.UPD_STAT_ARMED 0 := rfl

theorem State.restartWrite_notArmed {s : State} (hl : s.loadMode = false) (ha : s.flag Reg.UPD_STAT_ARMED = false) :
    s.restartWrite true = s.updResult 9 5 := by
  simp [State.restartWrite, hl, ha, urNOT_ARMED]

theorem State.restartWrite_goes {s : State} (hl : s.loadMode = false) (ha : s.flag Reg.UPD_STAT_ARMED = true)
    (ho : s.upd.op = none) (hw : s.upd.write = none) (hd : s.descending = false) (hr : s.armRefusal = 0) :
    s.restartWrite true = (s.updResult 9 0).recWrite
      { (s.updResult 9 0).upd.bootRec with
        active := (s.updResult 9 0).inactiveSlot, prev := (s.updResult 9 0).activeSlot, state := 1 } .restart := by
  simp only [State.restartWrite, hl, ha, ho, hw, hd, hr, Option.isSome_none, Bool.or_self, Bool.not_true, Bool.false_eq_true, if_false]
  rfl

/-! ### The trial (R395) -/

theorem State.confirmWrite_confirms {s : State} (ht : s.inTrial = true) (hl : s.loadMode = false)
    (he : s.upd.stage ≠ .done ∨ s.upd.trialAt.isSome = true) (hw : s.upd.write = none) :
    s.confirmWrite true = s.recWrite { s.upd.bootRec with state := 0 } .confirm := by
  have hrunning : (s.upd.stage == .done && s.upd.trialAt.isNone) = false := by
    obtain he | he := he <;> simp [he]
  simp [State.confirmWrite, ht, hl, hrunning, hw]

theorem State.confirmWrite_noTrial {s : State} (h : s.inTrial = false ∨ s.loadMode = true) :
    s.confirmWrite true = s.updResult 10 7 := by
  obtain h | h := h <;> simp [State.confirmWrite, h, urTRIAL]

theorem State.confirmWrite_expired {s : State} (ht : s.inTrial = true) (hl : s.loadMode = false) (hs : s.upd.stage = .done)
    (he : s.upd.trialAt = none) : s.confirmWrite true = s.updResult 10 8 := by
  simp [State.confirmWrite, ht, hl, hs, he, urEXPIRED]

theorem trialExpiry_running {n : Nat} {s : State} (h : s.upd.trialAt = some n) : trialExpiry s =
    ((s.updSet (fun u => { u with trialAt := none })).put Reg.UPD_STAT_EXPIRED 1).raise Reg.UPD_IRQ_TRIAL_EXPIRED :=
  if_neg (by simp [h])

/-! ### The speed signal (R392) -/

section speed
variable {c k : Nat} {x : Bool} {d : List Byte} {s : State}

theorem speedFrameRx_foreign (h : s.flag Reg.UPD_SPD_CFG_EN = false ∨ s.get Reg.UPD_SPD_CFG_CHAN ≠ c ∨
    s.get Reg.UPD_SPD_ID_ID ≠ k ∨ s.flag Reg.UPD_SPD_CFG_IDE ≠ x) : speedFrameRx c k x d s = s :=
  if_pos (by obtain h | h | h | h := h <;> simp [h])

/-- The bit positions of the speed field. -/
def State.speedBits (s : State) : List Nat :=
  fieldBits (s.get Reg.UPD_SPD_CFG_START) s.spdWidth (s.flag Reg.UPD_SPD_CFG_ORDER)

/-- The value of the bits bs of d, least significant first. -/
def bitsValue (d : List Byte) (bs : List Nat) : Nat := bs.zipIdx.foldl (fun v c => v + b2n (byteBit d c.1) * 2 ^ c.2) 0

/-- The value that the field shows, and the state that its draw leaves where it does not fit (assumption log 3). -/
def State.speedRead (s : State) (d : List Byte) : Nat × State :=
  if s.speedBits.all (fun b => decide (b < 8 * d.length)) then (bitsValue d s.speedBits, s) else s.draw (2 ^ s.spdWidth)

theorem speedFrameRx_signal (he : s.flag Reg.UPD_SPD_CFG_EN = true) (hc : s.get Reg.UPD_SPD_CFG_CHAN = c)
    (hk : s.get Reg.UPD_SPD_ID_ID = k) (hx : s.flag Reg.UPD_SPD_CFG_IDE = x) : speedFrameRx c k x d s =
      ((s.speedRead d).2.updSet (fun u => { u with speed := (s.speedRead d).1 })).put Reg.UPD_VEH_STATE_STALE 0 :=
  if_neg (by simp [he, hc, hk, hx])

theorem State.speedRead_kept (s : State) (d : List Byte) :
    (s.speedRead d).2.upd = s.upd ∧ (s.speedRead d).2.clr = s.clr ∧ (s.speedRead d).2.lst = s.lst := by
  unfold State.speedRead
  split <;> exact ⟨rfl, rfl, rfl⟩

/-- The bits of the first byte of a payload. -/
theorem byteBit_head {b : Byte} {q : List Byte} {k : Nat} (h : k < 8) : byteBit (b :: q) k = bit b.toNat k := by
  have h0 : k / 8 = 0 := Nat.div_eq_of_lt h
  have hm : k % 8 = k := Nat.mod_eq_of_lt h
  simp [byteBit, h0, hm, sub, leNat]

theorem b2n_bit (v k : Nat) : b2n (bit v k) = v / 2 ^ k % 2 := by
  have := Nat.mod_two_eq_zero_or_one (v / 2 ^ k)
  simp only [b2n, bit, beq_iff_eq]
  split <;> omega

/-- The eight low bits are the first byte. -/
theorem bitsValue_byte (b : Byte) (q : List Byte) : bitsValue (b :: q) [0, 1, 2, 3, 4, 5, 6, 7] = b.toNat := by
  have hlt := b.isLt
  simp only [bitsValue, List.zipIdx, List.foldl_cons, List.foldl_nil]
  simp (disch := decide) only [byteBit_head, b2n_bit]
  omega

/-- A field of eight bits at bit 0 shows the first byte. -/
theorem State.speedRead_byte {b : Byte} {q : List Byte} (h0 : s.get Reg.UPD_SPD_CFG_START = 0)
    (h8 : s.get Reg.UPD_SPD_CFG_WIDTH = 8) (ho : s.flag Reg.UPD_SPD_CFG_ORDER = false) : (s.speedRead (b :: q)).1 = b.toNat := by
  have hbits : s.speedBits = [0, 1, 2, 3, 4, 5, 6, 7] := by
    simp only [State.speedBits, State.spdWidth, h0, h8, ho]
    rfl
  have hfits : s.speedBits.all (fun k => decide (k < 8 * (b :: q).length)) = true := by
    rw [hbits, List.all_eq_true]
    intro k hk
    have : k < 8 := by
      simp only [List.mem_cons, List.not_mem_nil, or_false] at hk
      omega
    simp only [List.length_cons, decide_eq_true_eq]
    omega
  rw [State.speedRead, if_pos hfits, hbits, bitsValue_byte]

end speed

/-! ### The owner lock (R397, R398) -/

theorem State.nonceReq_atWork {s : State} (h : s.flag Reg.TCA_STAT_DRBG_OK = true) :
    s.nonceReq.get Reg.UPD_OWN_STAT_NONCE_VALID = 1 ∧ s.nonceReq.freeCtr = s.freeCtr + 1 ∧ s.nonceReq.upd = s.upd ∧ s.nonceReq.tca = s.tca := by
  unfold State.nonceReq
  rw [if_neg (by simp [h])]
  exact ⟨State.get_put_held (by decide), rfl, rfl, rfl⟩

theorem State.nonceReq_notReady {s : State} (h : s.flag Reg.TCA_STAT_DRBG_OK = false) : s.nonceReq = s.updResult 11 16 :=
  if_pos (by simp [h])

section owner
variable {s : State} {op : Nat} (hr : s.tcaReady = true)
include hr

theorem State.ownerCmd_noNonce (hv : s.flag Reg.UPD_OWN_STAT_NONCE_VALID = false) :
    s.ownerCmd op = (s.put Reg.UPD_OWN_STAT_NONCE_VALID 0).updResult 11 15 := by
  simp [State.ownerCmd, hr, hv, urNONCE]

variable {k : List Byte} (hk : s.upd.ownerKey = some k) (hv : s.flag Reg.UPD_OWN_STAT_NONCE_VALID = true)
include hk hv

theorem State.ownerCmd_wrongMac (hm : aesCmac k (ownerMessage op s.nonce) ≠ s.ownMac) :
    s.ownerCmd op = (s.put Reg.UPD_OWN_STAT_NONCE_VALID 0).updResult 11 urMAC_FAIL := by
  simp [State.ownerCmd, hr, hk, hv, hm]

/-- A command whose MAC is right, and that changes the lock, burns a fuse. -/
theorem State.ownerCmd_burns (hm : aesCmac k (ownerMessage op s.nonce) = s.ownMac) (hl : (s.ownerLocked == (op == 1)) = false)
    (hb : s.upd.burnt < 63) : s.ownerCmd op =
      ((((s.put Reg.UPD_OWN_STAT_NONCE_VALID 0).updSet (fun u => { u with burnt := u.burnt + 1 })).showFuses.raise
        Reg.UPD_IRQ_OWNER_CHG).updResult 11 0) := by
  have hl' : ((s.put Reg.UPD_OWN_STAT_NONCE_VALID 0).ownerLocked == (op == 1)) = false := hl
  have hb' : ¬ 63 ≤ (s.put Reg.UPD_OWN_STAT_NONCE_VALID 0).upd.burnt := Nat.not_le.mpr hb
  simp only [State.ownerCmd, hr, hk, hv, hm, hl', beq_self_eq_true, Bool.not_true, Bool.false_eq_true, if_false, if_neg hb']

end owner

/-- The fuses are shown in H fields alone. -/
theorem State.showFuses_get_V {s : State} {g : Fld} (h : g.keep = .V) : s.showFuses.get g = s.get g := by
  obtain ⟨r, e⟩ := s.showFuses_frame
  rw [e]
  simp only [State.get, h, RegFile.sel]

/-- What an owner command leaves that burnt a fuse. -/
theorem State.fuseBurnt_shows (s : State) :
    let t := (((s.put Reg.UPD_OWN_STAT_NONCE_VALID 0).updSet (fun u => { u with burnt := u.burnt + 1 })).showFuses.raise
      Reg.UPD_IRQ_OWNER_CHG).updResult 11 0
    t.get Reg.UPD_OWN_STAT_NONCE_VALID = 0 ∧ t.upd.burnt = s.upd.burnt + 1 ∧ t.get Reg.UPD_IRQ_OWNER_CHG = 1 ∧
      t.get Reg.UPD_RESULT_CODE = 0 := by
  intro t
  have hvalid : (s.put Reg.UPD_OWN_STAT_NONCE_VALID 0).get Reg.UPD_OWN_STAT_NONCE_VALID = 0 := State.get_put_held (by decide)
  refine ⟨?_, ?_, ?_, State.updResult_code _ _ _ (by decide)⟩
  · refine (State.updResult_get _ _ _ (by decide)).trans ((State.get_raise_apart (by decide)).trans ?_)
    exact (State.showFuses_get_V rfl).trans hvalid
  · exact congrArg Upd.burnt (State.updResult_upd ..)
  · exact (State.updResult_get _ _ _ (by decide)).trans (State.get_raise_bit (.inr (.inr rfl)) rfl)

/-- What an owner command leaves whose MAC is wrong. -/
theorem State.macFail_shows (s : State) :
    let t := (s.put Reg.UPD_OWN_STAT_NONCE_VALID 0).updResult 11 urMAC_FAIL
    t.get Reg.UPD_OWN_STAT_NONCE_VALID = 0 ∧ t.upd.burnt = s.upd.burnt ∧ t.get Reg.UPD_RESULT_CODE = urMAC_FAIL :=
  ⟨(State.updResult_get _ _ _ (by decide)).trans (State.get_put_held (by decide)), congrArg Upd.burnt (State.updResult_upd ..),
    State.updResult_code _ _ _ (by decide)⟩

/-- An owner command with a valid nonce, under a lock that it would change, consumes the nonce; its MAC decides. -/
theorem State.ownerCmd_attempt {s : State} {op : Nat} {k : List Byte} (hk : s.upd.ownerKey = some k) (hr : s.tcaReady = true)
    (hv : s.flag Reg.UPD_OWN_STAT_NONCE_VALID = true) (hl : (s.ownerLocked == (op == 1)) = false) (hb : s.upd.burnt < 63) :
    (s.ownerCmd op).get Reg.UPD_OWN_STAT_NONCE_VALID = 0 ∧
    (aesCmac k (ownerMessage op s.nonce) = s.ownMac → (s.ownerCmd op).upd.burnt = s.upd.burnt + 1 ∧
      (s.ownerCmd op).ownerLocked = !s.ownerLocked ∧ (s.ownerCmd op).get Reg.UPD_IRQ_OWNER_CHG = 1 ∧
      (s.ownerCmd op).get Reg.UPD_RESULT_CODE = 0) ∧
    (aesCmac k (ownerMessage op s.nonce) ≠ s.ownMac → (s.ownerCmd op).upd.burnt = s.upd.burnt ∧
      (s.ownerCmd op).get Reg.UPD_RESULT_CODE = urMAC_FAIL) := by
  by_cases hm : aesCmac k (ownerMessage op s.nonce) = s.ownMac
  · rw [State.ownerCmd_burns hr hk hv hm hl hb]
    obtain ⟨hvalid, hburnt, hirq, hcode⟩ := s.fuseBurnt_shows
    refine ⟨hvalid, fun _ => ⟨hburnt, ?_, hirq, hcode⟩, fun h => absurd hm h⟩
    simp only [State.ownerLocked, hburnt]
    obtain h | h := Nat.mod_two_eq_zero_or_one s.upd.burnt <;> simp [Nat.add_mod, h]
  · rw [State.ownerCmd_wrongMac hr hk hv hm]
    obtain ⟨hvalid, hburnt, hcode⟩ := s.macFail_shows
    exact ⟨hvalid, fun h => absurd h hm, fun _ => ⟨hburnt, hcode⟩⟩

theorem State.ownerProvision_unwraps {s : State} (hk : s.upd.ownerKey = none) (hr : s.tcaReady = true) : s.ownerProvision =
    match keyUnwrap kw0 (s.updBuf.take 40) with
    | some k => ((s.updSet (fun u => { u with ownerKey := some (padTo 32 k) })).showFuses).updResult 11 0
    | none => s.updUnnamed 11 := by
  unfold State.ownerProvision
  rw [if_neg (by simp [hk]), if_neg (by simp [hr])]
  cases keyUnwrap kw0 (s.updBuf.take 40) <;> rfl

theorem State.ownerProvision_keySet {s : State} (h : s.upd.ownerKey.isSome = true) : s.ownerProvision = s.updResult 11 18 := if_pos h

/-! ### The commands of a master that the page serves -/

/-- A nonce is asked for with no operation. -/
theorem State.ownWrite_nonce (s : State) : s.ownWrite 0 true = s.nonceReq := by
  unfold State.ownWrite
  exact if_pos rfl

theorem State.ownWrite_lock (s : State) : s.ownWrite 1 false = s.ownerCmd 1 := by
  unfold State.ownWrite
  exact if_neg Bool.false_ne_true

theorem State.ownWrite_unlock (s : State) : s.ownWrite 2 false = s.ownerCmd 2 := by
  unfold State.ownWrite
  exact if_neg Bool.false_ne_true

theorem State.ownWrite_provision (s : State) : s.ownWrite 3 false = s.ownerProvision := by
  unfold State.ownWrite
  exact if_neg Bool.false_ne_true

section granted
variable {m : Master} {z : State} (h : (z.sent m).grants m pgUPD)
include h

theorem updArm_granted : updArm m z = (z.sent m).armWrite true false := z.direct_of_grants m _ _ _ h

theorem updDisarm_granted : updDisarm m z = (z.sent m).armWrite false true := z.direct_of_grants m _ _ _ h

theorem updRestart_granted : updRestart m z = (z.sent m).restartWrite true := z.direct_of_grants m _ _ _ h

theorem updConfirm_granted : updConfirm m z = (z.sent m).confirmWrite true := z.direct_of_grants m _ _ _ h

theorem nonceReq_granted : nonceReq m z = (z.sent m).nonceReq :=
  (z.direct_of_grants m _ _ _ h).trans (State.ownWrite_nonce _)

theorem ownerLock_granted : ownerLock m z = (z.sent m).ownerCmd 1 :=
  (z.direct_of_grants m _ _ _ h).trans (State.ownWrite_lock _)

theorem ownerUnlock_granted : ownerUnlock m z = (z.sent m).ownerCmd 2 :=
  (z.direct_of_grants m _ _ _ h).trans (State.ownWrite_unlock _)

theorem ownerProvision_granted : ownerProvision m z = (z.sent m).ownerProvision :=
  (z.direct_of_grants m _ _ _ h).trans (State.ownWrite_provision _)

end granted

end Sys2Proof.Machine

namespace Sys2Proof
open Machine

/-- Settles O53: each write of the UPD page by the case of the state that it meets; the MAC decides an owner command (`State.ownerCmd_attempt`). -/
theorem armingRestartAndOwnership : Obligations.ArmingRestartAndOwnership := by
  unfold Obligations.ArmingRestartAndOwnership
  refine ⟨?_, ?_, ?_, ?_, ?_, ?_, ?_, ?_, ?_, ?_, ?_, ?_, ?_, ?_, ?_, ?_, ?_, ?_, ?_, ?_⟩
  case refine_1 =>
    rintro m z _ rfl hg hl
    exact congrArg Host.Outcome.next ((updArm_granted hg).trans (State.armWrite_go hl))
  case refine_2 =>
    rintro m z _ rfl hg
    exact congrArg Host.Outcome.next ((updDisarm_granted hg).trans (State.armWrite_disarm _))
  case refine_3 =>
    rintro m z _ rfl hg hl ha
    exact congrArg Host.Outcome.next ((updRestart_granted hg).trans (State.restartWrite_notArmed hl ha))
  case refine_4 =>
    rintro m z _ rfl hg hl ha ho hw hd hr
    exact congrArg Host.Outcome.next ((updRestart_granted hg).trans (State.restartWrite_goes hl ha ho hw hd hr))
  case refine_5 =>
    rintro m z _ rfl hg ht hl he hw
    exact congrArg Host.Outcome.next ((updConfirm_granted hg).trans (State.confirmWrite_confirms ht hl he hw))
  case refine_6 =>
    rintro m z _ rfl hg h
    exact congrArg Host.Outcome.next ((updConfirm_granted hg).trans (State.confirmWrite_noTrial h))
  case refine_7 =>
    rintro m z _ rfl hg ht hl hs he
    exact congrArg Host.Outcome.next ((updConfirm_granted hg).trans (State.confirmWrite_expired ht hl hs he))
  case refine_8 =>
    intro n s h
    exact congrArg Host.Outcome.next (trialExpiry_running h)
  case refine_9 =>
    intro c k x d s h
    exact congrArg Host.Outcome.next (speedFrameRx_foreign h)
  case refine_10 =>
    intro c k x d s he hc hk hx
    obtain ⟨hupd, hclr, hlst⟩ := s.speedRead_kept d
    refine ⟨_, congrArg Host.Outcome.next (speedFrameRx_signal he hc hk hx), State.get_put_held (by decide), ?_, hclr, hlst, ?_⟩
    · show ({ (s.speedRead d).2.upd with speed := (s.speedRead d).1 } : Upd) = _
      rw [hupd]
      rfl
    · rintro h0 h8 ho b q rfl
      exact State.speedRead_byte h0 h8 ho
  case refine_11 =>
    intro s
    rfl
  case refine_12 =>
    intro h s
    rfl
  case refine_13 =>
    rintro m z _ rfl hg hd
    exact ⟨_, congrArg Host.Outcome.next (nonceReq_granted hg), State.nonceReq_atWork hd⟩
  case refine_14 =>
    rintro m z _ rfl hg hd
    exact congrArg Host.Outcome.next ((nonceReq_granted hg).trans (State.nonceReq_notReady hd))
  case refine_15 =>
    intro s
    rfl
  case refine_16 =>
    rintro m z _ rfl hg hr hv
    exact ⟨congrArg Host.Outcome.next ((ownerLock_granted hg).trans (State.ownerCmd_noNonce hr hv)),
      congrArg Host.Outcome.next ((ownerUnlock_granted hg).trans (State.ownerCmd_noNonce hr hv))⟩
  case refine_17 =>
    rintro m k z _ rfl hg hk hr hv hl hb
    obtain ⟨hvalid, hright, hwrong⟩ := State.ownerCmd_attempt (op := 1) hk hr hv (by simp [hl]) hb
    refine ⟨_, congrArg Host.Outcome.next (ownerLock_granted hg), hvalid, fun hm => ?_, hwrong⟩
    obtain ⟨hburnt, hlock, hirq, hcode⟩ := hright hm
    exact ⟨hburnt, hlock.trans (by rw [hl]; rfl), hirq, hcode⟩
  case refine_18 =>
    rintro m k z _ rfl hg hk hr hv hl hb
    obtain ⟨hvalid, hright, hwrong⟩ := State.ownerCmd_attempt (op := 2) hk hr hv (by simp [hl]) hb
    refine ⟨_, congrArg Host.Outcome.next (ownerUnlock_granted hg), hvalid, fun hm => ?_, hwrong⟩
    obtain ⟨hburnt, hlock, hirq, hcode⟩ := hright hm
    exact ⟨hburnt, hlock.trans (by rw [hl]; rfl), hirq, hcode⟩
  case refine_19 =>
    rintro m z _ rfl hg hk hr
    exact congrArg Host.Outcome.next ((ownerProvision_granted hg).trans (State.ownerProvision_unwraps hk hr))
  case refine_20 =>
    rintro m z _ rfl hg hk
    exact congrArg Host.Outcome.next ((ownerProvision_granted hg).trans (State.ownerProvision_keySet hk))

end Sys2Proof

/-! Staging operations (R390, R391, R399): one equation per case of a write of UPD_CMD, and of an operation's end. -/

namespace Sys2Proof.Machine

/-! ### A write of UPD_CMD (R390, R399) -/

theorem State.updOp_granted {m : Master} {op : Nat} {z : State} (h : (z.sent m).grants m pgUPD) :
    z.updOp m op = (z.sent m).updCmd m op := z.direct_of_grants m _ _ _ h

section updCmd
variable {s : State} {m : Master} {op : Nat}

theorem State.updCmd_busy (h0 : op ≠ 0) (hb : s.flag Reg.UPD_STAT_BUSY = true) : s.updCmd m op = s.updResult op 6 := by
  unfold State.updCmd
  exact (if_neg h0).trans (if_pos hb)

/-- A load is not for this master, or there is nothing to load. -/
def State.loadBarred (s : State) (m : Master) (op : Nat) : Bool := (op = 6 || op = 7) && !(s.upd.stage == .load && s.mayLoad m)

theorem State.loadBarred_staging (h6 : op ≠ 6) (h7 : op ≠ 7) : s.loadBarred m op = false := by
  simp [State.loadBarred, h6, h7]

theorem State.loadBarred_load (hs : s.upd.stage = .load) (hm : s.mayLoad m = true) : s.loadBarred m op = false := by
  simp [State.loadBarred, hs, hm]

theorem State.loadBarred_refused (ho : op = 6 ∨ op = 7) (h : s.upd.stage ≠ .load ∨ s.mayLoad m = false) :
    s.loadBarred m op = true := by
  have ho' : (decide (op = 6) || decide (op = 7)) = true := by simpa using ho
  obtain h | h := h <;> simp [State.loadBarred, ho', h]

variable (h0 : op ≠ 0) (hb : s.flag Reg.UPD_STAT_BUSY = false)
include h0 hb

theorem State.updCmd_barred (hl : s.loadBarred m op = true) : s.updCmd m op = s.updUnnamed op := by
  unfold State.updCmd
  exact (if_neg h0).trans ((if_neg (by simp [hb])).trans (if_pos hl))

variable (hl : s.loadBarred m op = false)
include hl

theorem State.updCmd_refused (hr : s.opRefusal op (s.get Reg.UPD_ADDR_ADDR) ≠ 0) :
    s.updCmd m op = s.updResult op (s.opRefusal op (s.get Reg.UPD_ADDR_ADDR)) := by
  unfold State.updCmd
  refine (if_neg h0).trans ((if_neg (by simp [hb])).trans ((if_neg (ne_true_of_eq_false hl)).trans ?_))
  split
  · rename_i h
    exact absurd h hr
  · rfl

/-- The state in which an operation starts: OPEN disarms and un-stages, and in BOOT_FAIL LOAD_DONE says who has loaded. -/
def State.opPrepared (s : State) (m : Master) (op : Nat) : State :=
  let s := if op = 1 then (s.put Reg.UPD_STAT_ARMED 0).put Reg.UPD_STAT_STAGED 0 else s
  if op = 7 && s.get Reg.DEV_STRAPS_BOOT_MODE == 0 then s.loadSource (if m = .host then 2 else 1) else s

/-- The operation that has started. -/
def State.opStarted (s : State) (m : Master) (op : Nat) : State :=
  (s.opPrepared m op).opStart op (if op = 1 then slotBase (s.opPrepared m op).inactiveSlot else s.get Reg.UPD_ADDR_ADDR)
    (if op = 3 || op = 6 then (s.opPrepared m op).updBuf else [])

theorem State.updCmd_starts (hr : s.opRefusal op (s.get Reg.UPD_ADDR_ADDR) = 0)
    (hc : op ≠ 5 ∨ (s.opStarted m op).loadMode = false) : s.updCmd m op = s.opStarted m op := by
  unfold State.updCmd
  refine (if_neg h0).trans ((if_neg (by simp [hb])).trans ((if_neg (ne_true_of_eq_false hl)).trans ?_))
  split
  · refine if_neg ?_
    obtain hc | hc := hc
    · simp [hc]
    · show ¬ (decide (op = 5) && (s.opStarted m op).loadMode) = true
      simp [hc]
  · rename_i h
    exact absurd hr h

end updCmd

section opRefusal
variable {s : State} {a : Nat}

theorem State.opRefusal_open (hl : s.ownerLocked = false) (ht : s.inTrial = false) : s.opRefusal 1 a = 0 := by
  simp [State.opRefusal, hl, ht]

theorem State.opRefusal_noSession {op : Nat} (h : s.flag Reg.UPD_STAT_SESSION = false) (ho : op = 2 ∨ op = 3 ∨ op = 5) :
    s.opRefusal op a = 19 := by
  obtain rfl | rfl | rfl := ho <;> simp [State.opRefusal, h, urNO_SESSION]

theorem State.opRefusal_erase (h : s.flag Reg.UPD_STAT_SESSION = true) (hi : s.inInactive a = true) (ha : a % sectorBytes = 0) :
    s.opRefusal 2 a = 0 := by
  simp [State.opRefusal, h, hi, ha]

theorem State.opRefusal_program (h : s.flag Reg.UPD_STAT_SESSION = true) (hi : s.inInactive a = true) (ha : a % 256 = 0) :
    s.opRefusal 3 a = 0 := by
  simp [State.opRefusal, h, hi, ha]

theorem State.opRefusal_read : s.opRefusal 4 a = if a % 256 = 0 then 0 else urBAD_ADDR := by
  by_cases h : a % 256 = 0 <;> simp [State.opRefusal, h]

theorem State.opRefusal_close (h : s.flag Reg.UPD_STAT_SESSION = true) : s.opRefusal 5 a = 0 := by
  simp [State.opRefusal, h]

theorem State.opRefusal_loadPage : s.opRefusal 6 a = if a = s.upd.next then 0 else urSEQUENCE := rfl

end opRefusal

/-- LOAD_DONE starts, and in BOOT_FAIL says who has loaded. -/
theorem State.opStarted_loadDone (s : State) (m : Master) : s.opStarted m 7 =
    (if s.get Reg.DEV_STRAPS_BOOT_MODE = 0 then s.loadSource (if m = .host then 2 else 1) else s).opStart 7
      (s.get Reg.UPD_ADDR_ADDR) [] := by
  have hprep : s.opPrepared m 7 =
      if s.get Reg.DEV_STRAPS_BOOT_MODE = 0 then s.loadSource (if m = .host then 2 else 1) else s := by
    by_cases h : s.get Reg.DEV_STRAPS_BOOT_MODE = 0 <;> simp [State.opPrepared, h]
  rw [State.opStarted, hprep]
  rfl

/-! ### UPD_OP_DONE (R362, R391) -/

section opDone
variable {a : Nat} {bs : List Byte} {d : Bool} {s : State}

theorem updOpDone_suspended {k : Nat} {r : FlashEnd} (ho : s.upd.op = some (k, a, bs, d)) (hk : k ≤ 3) (hl : s.supplyLow = true) :
    updOpDone r s = s := by
  simp [updOpDone, ho, hk, hl]

theorem updOpDone_erased (hl : s.supplyLow = false) (ho : s.upd.op = some (2, a, bs, d)) :
    updOpDone .done s = (s.updSet (fun u => u.erase a)).opEnd 0 := by
  simp [updOpDone, ho, hl]

theorem updOpDone_programmed (hl : s.supplyLow = false) (ho : s.upd.op = some (3, a, bs, d)) :
    updOpDone .done s = (s.flashProgram a bs).opEnd 0 := by
  simp [updOpDone, ho, hl]

theorem updOpDone_read (ho : s.upd.op = some (4, a, bs, d)) : updOpDone .done s = (s.updBufSet (s.upd.bytes a 256)).opEnd 0 := by
  simp [updOpDone, ho]

theorem updOpDone_idle {r : FlashEnd} (ho : s.upd.op = none) : updOpDone r s = s := by
  simp [updOpDone, ho]

end opDone

end Sys2Proof.Machine

namespace Sys2Proof
open Machine

/-- Settles O52: a write of UPD_CMD by its refusal (`State.opRefusal`), and the end of the operation that runs. -/
theorem stagingOperationsStartAndEnd : Obligations.StagingOperationsStartAndEnd := by
  unfold Obligations.StagingOperationsStartAndEnd
  have hcmd {m : Master} {op : Nat} {z t : State} (hg : (z.sent m).grants m pgUPD) (h : (z.sent m).updCmd m op = t) :
      (Host.Outcome.next (z.updOp m op) : Host.Outcome State Fault Refusal) = .next t :=
    congrArg Host.Outcome.next ((State.updOp_granted hg).trans h)
  refine ⟨?_, ?_, ?_, ?_, ?_, ?_, ?_, ?_, ?_, ?_, ?_, ?_, ?_, ?_⟩
  case refine_1 =>
    rintro m z _ rfl hg hb
    exact ⟨hcmd hg (State.updCmd_busy (by decide) hb), hcmd hg (State.updCmd_busy (by decide) hb),
      hcmd hg (State.updCmd_busy (by decide) hb), hcmd hg (State.updCmd_busy (by decide) hb),
      hcmd hg (State.updCmd_busy (by decide) hb), hcmd hg (State.updCmd_busy (by decide) hb),
      hcmd hg (State.updCmd_busy (by decide) hb)⟩
  case refine_2 =>
    rintro m z _ _ rfl hg hb hl ht rfl
    exact hcmd hg (State.updCmd_starts (by decide) hb (State.loadBarred_staging (by decide) (by decide)) (State.opRefusal_open hl ht)
      (.inl (by decide)))
  case refine_3 =>
    rintro m z _ rfl hg hb ha
    exact hcmd hg (State.updCmd_starts (by decide) hb (State.loadBarred_staging (by decide) (by decide))
      (State.opRefusal_read.trans (if_pos ha)) (.inl (by decide)))
  case refine_4 =>
    rintro m z _ rfl hg hb ha
    have hr : (z.sent m).opRefusal 4 ((z.sent m).get Reg.UPD_ADDR_ADDR) = urBAD_ADDR := State.opRefusal_read.trans (if_neg ha)
    refine hcmd hg ((State.updCmd_refused (by decide) hb (State.loadBarred_staging (by decide) (by decide)) ?_).trans ?_)
    · rw [hr]
      decide
    · rw [hr]
  case refine_5 =>
    rintro m z _ rfl hg hb hs
    have hno {op : Nat} (ho : op = 2 ∨ op = 3 ∨ op = 5) : (z.sent m).updCmd m op = (z.sent m).updResult op 19 := by
      have hr := State.opRefusal_noSession (a := (z.sent m).get Reg.UPD_ADDR_ADDR) hs ho
      refine (State.updCmd_refused (by omega) hb (State.loadBarred_staging (by omega) (by omega)) ?_).trans ?_
      · rw [hr]
        decide
      · rw [hr]
    exact ⟨hcmd hg (hno (.inl rfl)), hcmd hg (hno (.inr (.inl rfl))), hcmd hg (hno (.inr (.inr rfl)))⟩
  case refine_6 =>
    rintro m z _ rfl hg hb hs hi
    exact ⟨fun ha => hcmd hg (State.updCmd_starts (by decide) hb (State.loadBarred_staging (by decide) (by decide))
        (State.opRefusal_erase hs hi ha) (.inl (by decide))),
      fun ha => hcmd hg (State.updCmd_starts (by decide) hb (State.loadBarred_staging (by decide) (by decide))
        (State.opRefusal_program hs hi ha) (.inl (by decide)))⟩
  case refine_7 =>
    rintro m z _ rfl hg hb hs hl
    exact hcmd hg (State.updCmd_starts (by decide) hb (State.loadBarred_staging (by decide) (by decide)) (State.opRefusal_close hs)
      (.inr hl))
  case refine_8 =>
    rintro m z _ rfl hg hb hs hm
    refine ⟨hcmd hg ?_, hcmd hg ?_⟩
    · by_cases ha : (z.sent m).get Reg.UPD_ADDR_ADDR = (z.sent m).upd.next
      · rw [if_pos ha]
        exact State.updCmd_starts (by decide) hb (State.loadBarred_load hs hm) (State.opRefusal_loadPage.trans (if_pos ha))
          (.inl (by decide))
      · have hr := State.opRefusal_loadPage.trans (if_neg ha)
        rw [if_neg ha]
        refine (State.updCmd_refused (by decide) hb (State.loadBarred_load hs hm) ?_).trans ?_
        · rw [hr]
          decide
        · rw [hr]
          rfl
    · exact (State.updCmd_starts (by decide) hb (State.loadBarred_load hs hm) rfl (.inl (by decide))).trans (State.opStarted_loadDone _ m)
  case refine_9 =>
    rintro m z _ rfl hg hb h
    exact ⟨hcmd hg (State.updCmd_barred (by decide) hb (State.loadBarred_refused (.inl rfl) h)),
      hcmd hg (State.updCmd_barred (by decide) hb (State.loadBarred_refused (.inr rfl) h))⟩
  case refine_10 =>
    intro k a bs d r s ho hk hl
    exact congrArg Host.Outcome.next (updOpDone_suspended ho hk hl)
  case refine_11 =>
    intro a bs d s hl ho
    exact congrArg Host.Outcome.next (updOpDone_erased hl ho)
  case refine_12 =>
    intro a bs d s hl ho
    exact congrArg Host.Outcome.next (updOpDone_programmed hl ho)
  case refine_13 =>
    intro a bs d s ho
    exact congrArg Host.Outcome.next (updOpDone_read ho)
  case refine_14 =>
    intro r s ho
    exact congrArg Host.Outcome.next (updOpDone_idle ho)

end Sys2Proof

/-! The boot engine (R385–R389, R399): what a boot that begins leaves, and one equation per case of each command. -/

namespace Sys2Proof.Machine

/-! ### BOOT_START (R386 step 1) -/

/-- The boot record is read from the flash alone. -/
theorem Upd.bootRec_congr {u v : Upd} (hf : u.flash = v.flash) (hw : u.wild = v.wild) : u.bootRec = v.bootRec := by
  have hbyte : u.byte = v.byte := funext fun a => by simp only [Upd.byte, hf, hw]
  have hbytes : u.bytes = v.bytes := funext fun a => funext fun n => by simp only [Upd.bytes, hbyte]
  have hat : u.recAt = v.recAt := funext fun c => by simp only [Upd.recAt, hbytes]
  have hvalid : u.recValid = v.recValid := funext fun c => by simp only [Upd.recValid, hbytes, hw]
  simp only [Upd.bootRec, Upd.recCopy, hat, hvalid]

/-- The watchdog starts and the strap is taken; where no slot is booted the flash is probed at once (R430). -/
def State.bootTaken (s : State) : State :=
  let s := (s.wdgSet (fun w => { w with fwAt := some s.now })).updSet
    (fun u => { u with bootAt := some s.now, source := s.get Reg.DEV_STRAPS_BOOT_MODE })
  if s.get Reg.DEV_STRAPS_BOOT_MODE = 1 || s.get Reg.DEV_STRAPS_BOOT_MODE = 2 then s.flashProbe else s

/-- The record that a boot goes by. -/
def State.bootedRec (s : State) : BootRec := if s.bootTaken.upd.octal then s.bootTaken.upd.bootRec else noRec

/-- The record is shown. -/
def State.bootBegun (s : State) : State :=
  (s.bootTaken.bootInfo s.bootedRec.reason s.bootedRec.failSlot s.bootedRec.failPart).put Reg.UPD_STAT_STATE
    (if s.bootedRec.state ≤ 2 then s.bootedRec.state else 0)

/-- The boot takes a slot. -/
def State.bootSlot (s : State) (slot : Nat) (fell : Bool) (st : BootStage) : State :=
  s.updSet (fun u => { u with slot := slot, fell := fell, kept := u.kept && u.ran == slot, stage := st })

/-- A boot is due, on a domain that has passed its self-test. -/
def State.bootDue (s : State) : Prop := bit s.pwr.tested 1 = true ∧ s.upd.stage = .due ∧ s.domainsLive = true

theorem bootStart_idle {s : State} (h : bit s.pwr.tested 1 = false ∨ s.upd.stage ≠ .due ∨ s.domainsLive = false) :
    bootStart s = s :=
  if_pos (by obtain h | h | h := h <;> simp [h])

section bootStart
variable {s : State} (h : s.bootDue)
include h

theorem State.bootDue_runs : ¬ (!bit s.pwr.tested 1 || s.upd.stage != .due || !s.domainsLive) = true := by
  obtain ⟨ht, hs, hl⟩ := h
  simp [ht, hs, hl]

theorem bootStart_flash (hm : s.get Reg.DEV_STRAPS_BOOT_MODE = 0) : bootStart s =
    if s.bootedRec.state = 1 then
      (s.bootBegun.bootSlot s.bootedRec.active false .record).recWrite { s.bootedRec with state := 2 } .trial
    else if s.bootedRec.state = 2 then
      ((s.bootBegun.bootSlot s.bootedRec.prev true .record).bootInfo 6 s.bootedRec.active 0xFF).recWrite
        (fallRecord s.bootedRec s.bootedRec.prev 6 s.bootedRec.active 0xFF) .fallback
    else s.bootBegun.bootSlot s.bootedRec.active false .manifest := by
  refine (if_neg (State.bootDue_runs h)).trans ?_
  extract_lets t wdg mode taken probed r begun start
  have hmode : mode = 0 := hm
  simp only [hmode]
  rfl

theorem bootStart_test (hm : s.get Reg.DEV_STRAPS_BOOT_MODE = 3) :
    bootStart s = (s.bootBegun.bootStage .done).put Reg.UPD_STAT_SOURCE 3 := by
  refine (if_neg (State.bootDue_runs h)).trans ?_
  extract_lets t wdg mode taken probed r begun start
  have hmode : mode = 3 := hm
  simp only [hmode]
  rfl

theorem bootStart_load (hm : s.get Reg.DEV_STRAPS_BOOT_MODE = 1 ∨ s.get Reg.DEV_STRAPS_BOOT_MODE = 2) :
    bootStart s = (s.bootBegun.bootStage .load).put Reg.UPD_STAT_SOURCE (s.get Reg.DEV_STRAPS_BOOT_MODE) := by
  refine (if_neg (State.bootDue_runs h)).trans ?_
  extract_lets t wdg mode taken probed r begun start
  obtain hm | hm := hm
  · have hmode : mode = 1 := hm
    simp only [hmode, hm]
    rfl
  · have hmode : mode = 2 := hm
    simp only [hmode, hm]
    rfl

end bootStart

/-! ### What a boot that begins leaves -/

theorem State.bootTaken_kept (s : State) : s.bootTaken.lst = s.lst ∧ s.bootTaken.wdg.fwAt = some s.now ∧
    s.bootTaken.upd.write = s.upd.write ∧ s.bootTaken.upd.flash = s.upd.flash ∧ s.bootTaken.upd.wild = s.upd.wild ∧
    (s.upd.octal = true → s.bootTaken.upd.octal = true) := by
  unfold State.bootTaken
  extract_lets taken
  split
  · exact ⟨rfl, rfl, rfl, rfl, rfl, fun _ => rfl⟩
  · exact ⟨rfl, rfl, rfl, rfl, rfl, id⟩

/-- Showing the record leaves the Last, the watchdog and the boot engine. -/
theorem State.bootBegun_kept (s : State) : s.bootBegun.lst = s.lst ∧ s.bootBegun.wdg.fwAt = some s.now ∧
    s.bootBegun.upd = s.bootTaken.upd := by
  obtain ⟨hlst, hfw, _, _, _, _⟩ := s.bootTaken_kept
  exact ⟨hlst, hfw, rfl⟩

/-- With no slot to boot, the flash is in its 8D mode. -/
theorem State.bootTaken_octal {s : State} (hm : s.get Reg.DEV_STRAPS_BOOT_MODE = 1 ∨ s.get Reg.DEV_STRAPS_BOOT_MODE = 2) :
    s.bootTaken.upd.octal = true := by
  have hload : (s.get Reg.DEV_STRAPS_BOOT_MODE = 1 || s.get Reg.DEV_STRAPS_BOOT_MODE = 2 : Bool) = true := by simpa using hm
  exact congrArg (fun u : State => u.upd.octal) (if_pos hload : s.bootTaken = _)

/-- In its 8D mode the flash gives the record. -/
theorem State.bootedRec_octal {s : State} (h : s.upd.octal = true) : s.bootedRec = s.upd.bootRec := by
  obtain ⟨_, _, _, hflash, hwild, hoctal⟩ := s.bootTaken_kept
  rw [State.bootedRec, if_pos (hoctal h)]
  exact Upd.bootRec_congr hflash hwild

/-- UPD_BOOT_INFO shows its reason. -/
theorem State.bootInfo_reason {s : State} {r k p : Nat} (h : r < 256) : (s.bootInfo r k p).get Reg.UPD_BOOT_INFO_REASON = r := by
  refine (State.get_put_apart (by decide)).trans ((State.get_put_apart (by decide)).trans ((State.get_put_held (by decide)).trans ?_))
  exact Nat.mod_eq_of_lt h

@[simp] theorem State.recWrite_get (s : State) (r : BootRec) (w : RecFor) (g : Fld) : (s.recWrite r w).get g = s.get g := rfl

@[simp] theorem State.bootSlot_get (s : State) (k : Nat) (fell : Bool) (st : BootStage) (g : Fld) :
    (s.bootSlot k fell st).get g = s.get g := rfl

/-- The record that a boot writes is the next generation of that in use. -/
theorem State.recWrite_bootBegun {s : State} {slot : Nat} {fell : Bool} {st : BootStage} {r : BootRec} {w : RecFor} :
    ((s.bootBegun.bootSlot slot fell st).recWrite r w).upd.write = some ({ r with gen := (s.upd.bootRec.gen + 1) % 2 ^ 32 }, w, 4) := by
  obtain ⟨_, _, _, hflash, hwild, _⟩ := s.bootTaken_kept
  have hrec : (s.bootBegun.bootSlot slot fell st).upd.bootRec = s.upd.bootRec := Upd.bootRec_congr hflash hwild
  show some ({ r with gen := ((s.bootBegun.bootSlot slot fell st).upd.bootRec.gen + 1) % 2 ^ 32 }, w, 4) = _
  rw [hrec]

/-! ### BOOT_PART_CHECKED (R382, R386) -/

section partChecked
variable {s : State}

theorem bootPartChecked_unread (h : s.upd.stage = .manifest) : bootPartChecked false s = s.bootFails 5 0xFF := by
  simp [bootPartChecked, h]

theorem bootPartChecked_manifest (h : s.upd.stage = .manifest) : bootPartChecked true s =
    if s.upd.octal = false then s.bootFails 5 0xFF
    else if manifestPrio (s.upd.slotImage s.upd.slot) = false then s.bootFails 1 0xFF
    else if s.upd.manifestCheck (s.upd.slotImage s.upd.slot) = 0 then (s.fuseKey (s.upd.slotImage s.upd.slot)).bootStage .fw
    else s.bootFails (s.upd.manifestCheck (s.upd.slotImage s.upd.slot)) 0xFF := by
  simp only [bootPartChecked, h, Bool.true_and]
  cases ho : s.upd.octal
  · rfl
  cases hp : manifestPrio (s.upd.slotImage s.upd.slot)
  · rfl
  simp only [Bool.not_true, Bool.false_eq_true, Bool.true_eq_false, if_false, if_true]
  split
  · rename_i hc
    rw [if_pos hc]
  · rename_i hc
    rw [if_neg hc]

theorem bootPartChecked_firmware (h : s.upd.stage = .fw) (ho : s.upd.octal = true) : bootPartChecked true s =
    if partHash (s.upd.slotImage s.upd.slot) 1 = true then s.bootStage .ucode
    else s.bootFails 3 (manIndex (imgManifest (s.upd.slotImage s.upd.slot)) 1) := by
  simp [bootPartChecked, h, ho, State.bootPart]

theorem bootPartChecked_idle {b : Bool}
    (h : s.upd.stage = .due ∨ s.upd.stage = .done ∨ s.upd.stage = .record ∨ s.upd.stage = .load) : bootPartChecked b s = s := by
  obtain h | h | h | h := h <;> simp [bootPartChecked, h]

end partChecked

/-! ### BOOT_RECORD_WRITE_DONE (R385) -/

section recordWrite
variable {s : State} {r : BootRec} {w : RecFor}

theorem bootRecordWriteDone_none {b : Bool} (h : s.upd.write = none) : bootRecordWriteDone b s = s := by
  simp [bootRecordWriteDone, h]

theorem bootRecordWriteDone_suspended {b : Bool} (h : s.supplyLow = true) : bootRecordWriteDone b s = s := by
  unfold bootRecordWriteDone
  split
  · rfl
  · exact if_pos h

theorem bootRecordWriteDone_matched {n : Nat} (hl : s.supplyLow = false) (ho : s.upd.octal = true)
    (h : s.upd.write = some (r, w, n)) : bootRecordWriteDone true s =
      (s.updSet (fun u => { (u.erase s.upd.recTarget).store s.upd.recTarget r.bytes with write := none })).recEnd w true := by
  simp only [bootRecordWriteDone, h, hl, ho, Bool.false_eq_true, if_false, Bool.and_self, if_true]

theorem bootRecordWriteDone_retries {n : Nat} (hl : s.supplyLow = false) (h : s.upd.write = some (r, w, n)) (hn : 1 < n) :
    bootRecordWriteDone false s = s.updSet (fun u => { u with write := some (r, w, n - 1) }) := by
  simp only [bootRecordWriteDone, h, hl, hn, Bool.false_and, Bool.false_eq_true, if_false, if_true]

theorem bootRecordWriteDone_fails (hl : s.supplyLow = false) (h : s.upd.write = some (r, w, 1)) : bootRecordWriteDone false s =
    (((s.updSet (fun u => { u with write := none })).flashWild s.upd.recTarget sectorBytes).fault pgUPD 0x0D01).recEnd w false := by
  simp only [bootRecordWriteDone, h, hl, Bool.false_and, Bool.false_eq_true, if_false, Nat.lt_irrefl]

end recordWrite

end Sys2Proof.Machine

namespace Sys2Proof
open Machine

/-- Settles O51: the strap decides how a boot begins, and the record how one from flash goes on. -/
theorem theBootEngineReadsItsImage : Obligations.TheBootEngineReadsItsImage := by
  unfold Obligations.TheBootEngineReadsItsImage
  refine ⟨?_, ?_, ?_, ?_, ?_, ?_, ?_, ?_, ?_, ?_, ?_⟩
  case refine_1 =>
    intro s h
    exact congrArg Host.Outcome.next (bootStart_idle h)
  case refine_2 =>
    intro s ht hs hl
    have hdue : s.bootDue := ⟨ht, hs, hl⟩
    obtain ⟨hlst, hfw, hupd⟩ := s.bootBegun_kept
    refine ⟨fun hm => ?_, fun hm => ?_, fun hm ho hr => ?_, fun hm ho hr => ?_, fun hm ho hr => ?_⟩
    · refine ⟨_, congrArg Host.Outcome.next (bootStart_load hdue hm), rfl, ?_, hfw, ?_, hlst⟩
      · refine (State.get_put_held (by decide)).trans (Nat.mod_eq_of_lt ?_)
        show _ < 4
        omega
      · exact (congrArg Upd.octal hupd).trans (State.bootTaken_octal hm)
    · exact ⟨_, congrArg Host.Outcome.next (bootStart_test hdue hm), rfl, State.get_put_held (by decide), hfw, hlst⟩
    · have heq := bootStart_flash hdue hm
      rw [State.bootedRec_octal ho, if_neg (by rw [hr]; decide), if_neg (by rw [hr]; decide)] at heq
      obtain ⟨_, _, hwrite, _, _, _⟩ := s.bootTaken_kept
      refine ⟨_, congrArg Host.Outcome.next heq, rfl, rfl, ?_, rfl, hfw, (congrArg Upd.write hupd).trans hwrite⟩
      rw [State.bootSlot_get, State.bootBegun, State.bootedRec_octal ho, hr]
      exact State.get_put_held (by decide)
    · have heq := bootStart_flash hdue hm
      rw [State.bootedRec_octal ho, if_pos hr] at heq
      exact ⟨_, congrArg Host.Outcome.next heq, rfl, rfl, rfl, State.recWrite_bootBegun⟩
    · have heq := bootStart_flash hdue hm
      rw [State.bootedRec_octal ho, if_neg (by rw [hr]; decide), if_pos hr] at heq
      exact ⟨_, congrArg Host.Outcome.next heq, rfl, rfl, rfl, (State.recWrite_get ..).trans (State.bootInfo_reason (by decide))⟩
  case refine_3 =>
    intro s h
    exact congrArg Host.Outcome.next (bootPartChecked_unread h)
  case refine_4 =>
    intro s h
    exact congrArg Host.Outcome.next (bootPartChecked_manifest h)
  case refine_5 =>
    intro s h ho
    exact congrArg Host.Outcome.next (bootPartChecked_firmware h ho)
  case refine_6 =>
    intro b s h
    exact congrArg Host.Outcome.next (bootPartChecked_idle h)
  case refine_7 =>
    intro b s h
    exact congrArg Host.Outcome.next (bootRecordWriteDone_none h)
  case refine_8 =>
    intro b s h
    exact congrArg Host.Outcome.next (bootRecordWriteDone_suspended h)
  case refine_9 =>
    intro r w n s hl ho h
    exact congrArg Host.Outcome.next (bootRecordWriteDone_matched hl ho h)
  case refine_10 =>
    intro r w n s hl h hn
    exact congrArg Host.Outcome.next (bootRecordWriteDone_retries hl h hn)
  case refine_11 =>
    intro r w s hl h
    exact congrArg Host.Outcome.next (bootRecordWriteDone_fails hl h)

end Sys2Proof

/-! The watchdogs and the heartbeat (R330–R332): one equation per case of each command. -/

namespace Sys2Proof.Machine

/-! ### Writes that PG_LOCK lets through (R411) -/

/-- A write that only ownership may turn away, as a command of its own. -/
theorem State.command_gate0 {z : State} {m : Master} {page off : Nat} {k : State → State} (h : (z.sent m).serves m page)
    (ho : (z.sent m).ownedByOther m (pageGroup page) = false) :
    z.command m page off (fun s => s.gate0 m page off k) = k (z.sent m) :=
  State.command_of_serves z _ m page off _ h.1 (State.gate0_of_serves h ho)

/-! ### The firmware watchdog (R330, R331) -/

section firmware
variable {s : State} {v : Nat}

theorem State.fwKick_due (hr : s.fwRuns = true) (hv : v = if s.flag Reg.WDG_FW_STAT_NEXT = true then 0xA5A5 else 0x5A5A) :
    s.fwKick .firmware v =
      (s.wdgSet (fun w => { w with fwAt := some s.now })).put Reg.WDG_FW_STAT_NEXT (1 - s.get Reg.WDG_FW_STAT_NEXT) := by
  simp only [State.fwKick, hr, hv, ne_eq, not_true_eq_false, if_false, Bool.not_true, Bool.false_eq_true, if_true]

theorem State.fwKick_wrong (hr : s.fwRuns = true) (hv : v ≠ if s.flag Reg.WDG_FW_STAT_NEXT = true then 0xA5A5 else 0x5A5A) :
    s.fwKick .firmware v = s.wdogReset 1 := by
  simp only [State.fwKick, hr, hv, ne_eq, not_true_eq_false, if_false, Bool.not_true, Bool.false_eq_true]

theorem State.fwKick_source {m : Master} (hm : m ≠ .firmware) : s.fwKick m v = s.err pgWDG 0x084 ecSOURCE m := if_pos hm

end firmware

/-! ### The heartbeat (R332) -/

section heartbeat
variable {s : State}

theorem State.hbCfg_starts {n : Nat} (hn : n < 65536) (h : s.flag Reg.WDG_HB_CFG_EN = false) : s.hbCfg true n =
    ((s.put Reg.WDG_HB_CFG_EN 1).put Reg.WDG_HB_CFG_TIMEOUT (max 10 n)).wdgSet (fun w => { w with hbAt := some s.now }) := by
  refine (if_pos (by simp [h]) : s.hbCfg true n = _).trans ?_
  rw [Nat.mod_eq_of_lt hn]
  rfl

theorem State.hbCfg_stops {n : Nat} (hn : n < 65536) : s.hbCfg false n =
    (((s.put Reg.WDG_HB_CFG_EN 0).put Reg.WDG_HB_CFG_TIMEOUT (max 10 n)).wdgSet (fun w => { w with hbAt := none })).put
      Reg.WDG_HB_STAT_EXPIRED 0 := by
  simp only [State.hbCfg, Bool.false_and, Bool.false_eq_true, if_false, Nat.mod_eq_of_lt hn]
  rfl

/-- A kick after the expiry takes EXPIRED back. -/
theorem State.hbKick_returns (he : s.flag Reg.WDG_HB_CFG_EN = true) (hx : s.flag Reg.WDG_HB_STAT_EXPIRED = true) :
    s.hbKick .host =
      ((s.wdgSet (fun w => { w with hbAt := some s.now })).put Reg.WDG_HB_STAT_EXPIRED 0).raise Reg.WDG_IRQ_HB_BACK :=
  (if_neg (by simp) : s.hbKick .host = _).trans ((if_neg (by simp [he])).trans (if_pos hx))

theorem State.hbKick_off (he : s.flag Reg.WDG_HB_CFG_EN = false) : s.hbKick .host = s :=
  (if_neg (by simp) : s.hbKick .host = _).trans (if_pos (by simp [he]))

theorem State.hbKick_source {m : Master} (hm : m ≠ .host) : s.hbKick m = s.err pgWDG 0x094 ecSOURCE m := if_pos hm

theorem hbExpiry_expires (he : s.flag Reg.WDG_HB_CFG_EN = true) (hx : s.flag Reg.WDG_HB_STAT_EXPIRED = false) : hbExpiry s =
    (((s.put Reg.WDG_HB_STAT_EXPIRED 1).inc Reg.WDG_HB_STAT_EXPIRIES).fault pgWDG 0x0803).raise Reg.WDG_IRQ_HB_EXPIRED :=
  if_neg (by simp [he, hx])

theorem hbExpiry_idle (h : s.flag Reg.WDG_HB_CFG_EN = false ∨ s.flag Reg.WDG_HB_STAT_EXPIRED = true) : hbExpiry s = s :=
  if_pos (by obtain h | h := h <;> simp [h])

end heartbeat

end Sys2Proof.Machine

namespace Sys2Proof
open Machine

/-- Settles O37: the master, the value due and whether the timer runs decide each command. -/
theorem watchdogsRunAndExpire : Obligations.WatchdogsRunAndExpire := by
  unfold Obligations.WatchdogsRunAndExpire
  refine ⟨?_, ?_, ?_, ?_, ?_, ?_, ?_, ?_, ?_, ?_, ?_, ?_⟩
  case refine_1 =>
    intro v s hs hr hv
    exact congrArg Host.Outcome.next ((State.command_gate0 (z := s) hs rfl).trans (State.fwKick_due hr hv))
  case refine_2 =>
    intro v s hs hr hv
    exact congrArg Host.Outcome.next ((State.command_gate0 (z := s) hs rfl).trans (State.fwKick_wrong hr hv))
  case refine_3 =>
    rintro m v z _ rfl hs ho hm
    exact congrArg Host.Outcome.next ((State.command_gate0 hs ho).trans (State.fwKick_source hm))
  case refine_4 =>
    intro k s hr
    exact ⟨congrArg Host.Outcome.next (if_pos hr), congrArg Host.Outcome.next (if_pos hr), congrArg Host.Outcome.next (if_pos hr)⟩
  case refine_5 =>
    intro k s hr
    have hn : ¬ s.fwRuns = true := ne_true_of_eq_false hr
    exact ⟨congrArg Host.Outcome.next (if_neg hn), congrArg Host.Outcome.next (if_neg hn), congrArg Host.Outcome.next (if_neg hn)⟩
  case refine_6 =>
    rintro m n z _ rfl hg he
    exact congrArg Host.Outcome.next ((z.direct_of_grants m _ _ _ hg).trans (State.hbCfg_starts n.isLt he))
  case refine_7 =>
    rintro m n z _ rfl hg
    exact congrArg Host.Outcome.next ((z.direct_of_grants m _ _ _ hg).trans (State.hbCfg_stops n.isLt))
  case refine_8 =>
    rintro z _ rfl hs ho he hx
    exact congrArg Host.Outcome.next ((State.command_gate0 hs ho).trans (State.hbKick_returns he hx))
  case refine_9 =>
    rintro z _ rfl hs ho he
    exact congrArg Host.Outcome.next ((State.command_gate0 hs ho).trans (State.hbKick_off he))
  case refine_10 =>
    rintro m z _ rfl hs ho hm
    exact congrArg Host.Outcome.next ((State.command_gate0 hs ho).trans (State.hbKick_source hm))
  case refine_11 =>
    intro s hr he hx
    exact congrArg Host.Outcome.next ((State.heel_runs hr).trans (hbExpiry_expires he hx))
  case refine_12 =>
    intro s h
    refine congrArg Host.Outcome.next (State.heel_idle fun hr => hbExpiry_idle (h.resolve_left ?_))
    exact ne_true_of_eq_false hr

end Sys2Proof

/-! The fault concentrator (R321–R329): what a report in and outside a storm records, what the record holds when it is cleared, and one
equation per case of each command. -/

namespace Sys2Proof.Machine

/-! ### FAULT_REPORT and STORM_PERIOD_END (R321, R326) -/

section report
variable {page code : Nat} {s : State}

/-- A report that the device defines, on a page of its block type. -/
def State.reportsFault (s : State) (page code : Nat) : Prop :=
  (code ≠ 0x1B01 ∨ s.get Reg.CGU_STAT_SDSREF ≠ 3) ∧ faultCodes.contains code = true ∧ pageDefined page = true ∧
    pageType page = code / 256

theorem faultReport_reaches (h : s.reportsFault page code) : faultReport page code s = s.fault page code := by
  obtain ⟨hlost, hcode, hpage, htype⟩ := h
  refine if_pos ?_
  have hseen : (code == 0x1B01 && s.get Reg.CGU_STAT_SDSREF == 3) = false := by
    obtain hl | hl := hlost <;> simp [hl]
  simp only [hcode, hpage, htype, hseen, beq_self_eq_true, Bool.not_false, Bool.and_self]

theorem faultReport_idle (h : faultCodes.contains code = false ∨ pageType page ≠ code / 256 ∨
    (code = 0x1B01 ∧ s.get Reg.CGU_STAT_SDSREF = 3)) : faultReport page code s = s := by
  refine if_neg ?_
  obtain h | h | ⟨hc, hs⟩ := h
  · simp only [h, Bool.false_and, Bool.false_eq_true, not_false_eq_true]
  · simp [h]
  · simp [hc, hs]

theorem stormPeriodEnd_ends (hs : s.flag Reg.FLT_STAT_STORM = true) (hp : s.flt.period < 16) :
    stormPeriodEnd s = (s.put Reg.FLT_STAT_STORM 0).fltSet (fun f => { f with period := 0 }) :=
  (if_neg (by simp [hs]) : stormPeriodEnd s = _).trans (congrArg (fun u : State => u.fltSet _) (if_pos hp))

theorem stormPeriodEnd_lasts (hs : s.flag Reg.FLT_STAT_STORM = true) (hp : 16 ≤ s.flt.period) :
    stormPeriodEnd s = s.fltSet (fun f => { f with period := 0 }) :=
  (if_neg (by simp [hs]) : stormPeriodEnd s = _).trans (congrArg (fun u : State => u.fltSet _) (if_neg (Nat.not_lt.mpr hp)))

theorem stormPeriodEnd_idle (hs : s.flag Reg.FLT_STAT_STORM = false) : stormPeriodEnd s = s := if_pos (by simp [hs])

end report

/-! ### What a primary does beyond the concentrator (R34, R323) -/

/-- The condition of cautious forwarding that a primary on a page brings: of the device, or of the port of the page. -/
def State.faultCautious (s : State) (page : Nat) : State :=
  if dataPathType (pageType page) then s.devCause Reg.DEV_CAUTIOUS_FAULT true
  else match portOfPage page with
    | some p => s.portCauseSet Reg.MAC_CAUTIOUS_FAULT p true
    | none => s

/-- The conditions of cautious forwarding leave the cells of the concentrator's page, and every component. -/
theorem State.faultCautious_get {s : State} {page i j m : Nat} {g : Fld} (h : cellPage (g.key i j m) = 0x018) :
    (s.faultCautious page).get g i j m = s.get g i j m := by
  have hdev {u : State} {f : Fld} {v : Nat} (hf : cellPage (f.key 0 0 0) = 0) : (u.put f v).get g i j m = u.get g i j m :=
    State.get_put_other _ _ _ _ _ _ _ _ _ _ (.inr fun e => by rw [e, hf] at h; exact absurd h (by decide))
  have hmac {u : State} {f : Fld} {v p : Nat} (hf : f.page = 0x0D0 ∧ f.off < 4096 ∧ f.stride = 4 ∧ f.lo < 128 ∧ f.perMaster = false) :
      (u.put f v p).get g i j m = u.get g i j m := by
    obtain ⟨hp, ho, hs, hl, hm⟩ := hf
    refine State.get_put_other _ _ _ _ _ _ _ _ _ _ (.inr fun e => ?_)
    rw [e, cellPage_key ⟨by rw [hs]; omega, hl, hm⟩, hp] at h
    omega
  have hcause {f : Fld} (hf : cellPage (f.key 0 0 0) = 0) : (s.devCause f true).get g i j m = s.get g i j m := by
    unfold State.devCause
    extract_lets was a b
    refine keeps_ite (P := fun u : State => u.get g i j m = s.get g i j m) ?_ (hdev hf)
    refine keeps_foldl (P := fun u : State => u.get g i j m = s.get g i j m) (fun u p hu => ?_) ((hdev (by decide)).trans (hdev hf))
    exact keeps_ite (P := fun u : State => u.get g i j m = s.get g i j m) hu ((hmac (by decide)).trans hu)
  have hport {f : Fld} {p : Nat} (hf : f.page = 0x0D0 ∧ f.off < 4096 ∧ f.stride = 4 ∧ f.lo < 128 ∧ f.perMaster = false) :
      (s.portCauseSet f p true).get g i j m = s.get g i j m := by
    unfold State.portCauseSet
    extract_lets was a
    exact keeps_ite (P := fun u : State => u.get g i j m = s.get g i j m) ((hmac (by decide)).trans (hmac hf)) (hmac hf)
  unfold State.faultCautious
  split
  · exact hcause (by decide)
  · split
    · exact hport (by decide)
    · rfl

theorem State.faultCautious_frame (s : State) (page : Nat) : ∃ r, s.faultCautious page = { s with regs := r } := by
  unfold State.faultCautious
  split
  · exact s.devCause_frame _ _
  · split
    · unfold State.portCauseSet
      extract_lets was a
      split <;> exact ⟨_, rfl⟩
    · exact ⟨_, rfl⟩

/-! ### A primary in the record (R324, R325) -/

/-- The report is counted under its code, and among those of the last 10 µs. -/
def State.faultCounted (s : State) (code : Nat) : State :=
  { s with flt := { s.flt with
      codes := AMap.set cellDflt s.flt.codes code (min 65535 (AMap.get cellDflt s.flt.codes code + 1)),
      recent := s.flt.recent.filter (fun t => decide (s.now < t + 10000)) ++ [s.now] } }

/-- The time of a page's last primary is kept. -/
def State.primarySeen (s : State) (page time : Nat) : State :=
  { s with flt := { s.flt with lastPrimary := AMap.ins s.flt.lastPrimary page time } }

section fault
variable {page code : Nat} {s : State}

/-- A primary outside a storm, with no report before it, is recorded. -/
theorem State.fault_calm (hp : faultPrimary code = true) (hs : s.flag Reg.FLT_STAT_STORM = false) (hr : s.flt.recent = []) :
    s.fault page code = (((s.faultCounted code).recordFault page code false).primarySeen page s.now).faultCautious page := by
  unfold State.fault
  extract_lets now c recent _ counted was entered storm inStorm _ timed stormed _ recorded _ last
  have hwas : was = false := hs
  have hfew : decide (64 < recent.length) = false := by simp [recent, hr]
  have hentered : entered = counted := if_neg (by simp [hfew])
  have hstorm : storm = false := (congrArg (fun u : State => u.flag Reg.FLT_STAT_STORM) hentered).trans hs
  have hinStorm : inStorm = counted := (if_neg (by simp [hstorm])).trans hentered
  have htimed : timed = counted := (if_neg (by simp [hwas])).trans hinStorm
  have hrecorded : recorded = counted.recordFault page code false :=
    (if_pos (by simp [hstorm])).trans (congrArg (fun u : State => u.recordFault page code false) htimed)
  refine (if_neg (by simp [hp])).trans ?_
  show (recorded.primarySeen page now).faultCautious page = _
  rw [hrecorded]
  rfl

/-- A primary in a storm that finds the record full is lost. -/
theorem State.fault_stormLost (hp : faultPrimary code = true) (hs : s.flag Reg.FLT_STAT_STORM = true)
    (hn : 8 ≤ s.get Reg.FLT_STAT_ENTRIES) :
    (s.fault page code).get Reg.FLT_STAT_LOST = min (2 ^ Reg.FLT_STAT_LOST.width - 1) (s.get Reg.FLT_STAT_LOST + 1) := by
  unfold State.fault
  extract_lets now c recent _ counted was entered storm inStorm _ timed stormed _ recorded _ last
  have hwas : was = true := hs
  have hentered : entered = counted := if_neg (by simp [hwas])
  have hstorm : storm = true := (congrArg (fun u : State => u.flag Reg.FLT_STAT_STORM) hentered).trans hs
  have hinStorm : inStorm = counted.inc Reg.FLT_STORM_REPORTS_COUNT :=
    (if_pos hstorm).trans (congrArg (fun u : State => u.inc Reg.FLT_STORM_REPORTS_COUNT) hentered)
  have htimed {g : Fld} (hg : Reg.FLT_STORM_REPORTS_COUNT.apart g = true) : timed.get g = s.get g := by
    have hstormed : inStorm.get g = s.get g := by
      rw [hinStorm]
      exact State.get_put_apart hg
    exact keeps_ite (P := fun u : State => u.get g = s.get g) hstormed hstormed
  have hfull : 8 ≤ timed.get Reg.FLT_STAT_ENTRIES := by
    rw [htimed (by decide)]
    exact hn
  have hlost : (timed.inc Reg.FLT_STAT_LOST).get Reg.FLT_STAT_LOST =
      min (2 ^ Reg.FLT_STAT_LOST.width - 1) (s.get Reg.FLT_STAT_LOST + 1) := by
    rw [State.get_inc_held (by decide), htimed (by decide)]
  have htaken : stormed = timed.inc Reg.FLT_STAT_LOST := if_neg (Nat.not_lt.mpr hfull)
  have hrecorded : recorded.get Reg.FLT_STAT_LOST = min (2 ^ Reg.FLT_STAT_LOST.width - 1) (s.get Reg.FLT_STAT_LOST + 1) := by
    refine (congrArg (fun u : State => u.get Reg.FLT_STAT_LOST) (if_neg (by simp [hstorm]))).trans ?_
    refine keeps_ite (P := fun u : State => u.get Reg.FLT_STAT_LOST = _) ?_ ?_
    · exact (congrArg (fun u : State => u.get Reg.FLT_STAT_LOST) htaken).trans hlost
    · exact (congrArg (fun u : State => u.get Reg.FLT_STAT_LOST) (if_pos hfull)).trans hlost
  refine (congrArg (fun u : State => u.get Reg.FLT_STAT_LOST) (if_neg (by simp [hp]))).trans ?_
  exact (State.faultCautious_get (s := last) (page := page) (by decide)).trans hrecorded

end fault

/-- A write of a field of one element leaves an element of a field that shares no cell with it. -/
theorem State.get_put_beside {n : Nat} {k : Fin n} {s : State} {f g : Fld} {v : Nat}
    (h : ∀ k : Fin n, g.keep ≠ f.keep ∨ g.key 0 k 0 ≠ f.key 0 0 0) : (s.put f v).get g 0 k = s.get g 0 k :=
  State.get_put_other _ _ _ _ _ _ _ _ _ _ (h k)

/-- The words of entry n for a primary outside a storm. -/
def State.entryWritten (s : State) (n page code : Nat) : State :=
  let on := bit s.pwr.powered 1
  let t := if on then s.dom 0 else 0
  ((((((s.put Reg.FLT_FIRST_W0_CODE code 0 n).put Reg.FLT_FIRST_W0_PAGE page 0 n).put Reg.FLT_FIRST_W0_STORM 0 0 n).put
    Reg.FLT_FIRST_W0_NO_TIME (b2n (!on)) 0 n).put Reg.FLT_FIRST_W0_VALID 1 0 n).put Reg.FLT_FIRST_NS_NS (t % 1000000000) 0 n).put
    Reg.FLT_FIRST_SEC_SEC (t / 1000000000) 0 n

theorem State.entryWritten_shows (s : State) (k : Fin 8) (page code : Nat) :
    (s.entryWritten k page code).get Reg.FLT_FIRST_W0_CODE 0 k = code % 65536 ∧
    (s.entryWritten k page code).get Reg.FLT_FIRST_W0_PAGE 0 k = page % 4096 ∧
    (s.entryWritten k page code).get Reg.FLT_FIRST_W0_VALID 0 k = 1 := by
  refine ⟨?_, ?_, ?_⟩
  all_goals
    unfold State.entryWritten
    extract_lets on t
    simp (disch := decide) only [State.get_put_element, State.get_put_elementHeld]
    rfl

/-- A primary that has room takes the next entry, and raises PRIMARY. -/
theorem State.recordFault_room {s : State} {page code : Nat} (hn : s.get Reg.FLT_STAT_ENTRIES < 8) :
    s.recordFault page code false =
      (((s.entryWritten (s.get Reg.FLT_STAT_ENTRIES) page code).put Reg.FLT_STAT_ENTRIES (s.get Reg.FLT_STAT_ENTRIES + 1)).fltSet
        (fun f => { f with lastRec := some s.now })).raise Reg.FLT_IRQ_PRIMARY := by
  unfold State.recordFault
  exact (if_pos hn).trans (if_neg Bool.false_ne_true)

/-- What such a primary shows in the record. -/
theorem State.recordFault_shows {s : State} {page code : Nat} (hn : s.get Reg.FLT_STAT_ENTRIES < 8) :
    let t := s.recordFault page code false
    t.get Reg.FLT_FIRST_W0_CODE 0 (s.get Reg.FLT_STAT_ENTRIES) = code % 65536 ∧
      t.get Reg.FLT_FIRST_W0_PAGE 0 (s.get Reg.FLT_STAT_ENTRIES) = page % 4096 ∧
      t.get Reg.FLT_FIRST_W0_VALID 0 (s.get Reg.FLT_STAT_ENTRIES) = 1 ∧
      t.get Reg.FLT_STAT_ENTRIES = s.get Reg.FLT_STAT_ENTRIES + 1 ∧ t.get Reg.FLT_IRQ_PRIMARY = 1 ∧
      t.flt.codes = s.flt.codes := by
  intro t
  have heq : t = _ := State.recordFault_room hn
  obtain ⟨k, hk⟩ : ∃ k : Fin 8, s.get Reg.FLT_STAT_ENTRIES = k.val := ⟨⟨_, hn⟩, rfl⟩
  rw [hk] at heq ⊢
  obtain ⟨hcode, hpage, hvalid⟩ := s.entryWritten_shows k page code
  have hout {g : Fld} (hi : ∀ j : Fin 8, g.keep ≠ Reg.FLT_IRQ_PRIMARY.keep ∨ g.key 0 j 0 ≠ Reg.FLT_IRQ_PRIMARY.key 0 0 0)
      (he : ∀ j : Fin 8, g.keep ≠ Reg.FLT_STAT_ENTRIES.keep ∨ g.key 0 j 0 ≠ Reg.FLT_STAT_ENTRIES.key 0 0 0) :
      t.get g 0 k = (s.entryWritten k page code).get g 0 k := by
    rw [heq]
    exact (State.get_put_beside hi).trans (State.get_put_beside (s := s.entryWritten k page code) he)
  refine ⟨(hout (by decide) (by decide)).trans hcode, (hout (by decide) (by decide)).trans hpage,
    (hout (by decide) (by decide)).trans hvalid, ?_, ?_, ?_⟩
  · rw [heq]
    refine (State.get_raise_apart (by decide)).trans ?_
    refine (State.get_put_held (s := s.entryWritten k page code) (by decide)).trans (Nat.mod_eq_of_lt ?_)
    show _ < 16
    omega
  · rw [heq]
    exact State.get_raise_bit (.inr (.inr rfl)) rfl
  · rw [heq]
    rfl

/-- What a report leaves that is recorded: its entry, its count, and the rest of the device. -/
theorem State.fault_recorded {s : State} {page code : Nat} (hp : faultPrimary code = true) (hs : s.flag Reg.FLT_STAT_STORM = false)
    (hr : s.flt.recent = []) (hn : s.get Reg.FLT_STAT_ENTRIES < 8) :
    let t := s.fault page code
    t.get Reg.FLT_FIRST_W0_CODE 0 (s.get Reg.FLT_STAT_ENTRIES) = code % 65536 ∧
      t.get Reg.FLT_FIRST_W0_PAGE 0 (s.get Reg.FLT_STAT_ENTRIES) = page % 4096 ∧
      t.get Reg.FLT_FIRST_W0_VALID 0 (s.get Reg.FLT_STAT_ENTRIES) = 1 ∧
      t.get Reg.FLT_STAT_ENTRIES = s.get Reg.FLT_STAT_ENTRIES + 1 ∧ t.get Reg.FLT_IRQ_PRIMARY = 1 ∧
      AMap.get cellDflt t.flt.codes code = min 65535 (AMap.get cellDflt s.flt.codes code + 1) := by
  intro t
  obtain ⟨hcode, hpage, hvalid, hentries, hirq, hcodes⟩ := State.recordFault_shows (s := s.faultCounted code) (page := page)
    (code := code) hn
  have heq : t = _ := State.fault_calm hp hs hr
  obtain ⟨r, hframe⟩ := (((s.faultCounted code).recordFault page code false).primarySeen page s.now).faultCautious_frame page
  have hcell {f : Fld} (hf : f.page = 0x018 ∧ f.off < 0x200 ∧ f.stride = 16 ∧ f.lo < 128 ∧ f.perMaster = false) :
      cellPage (f.key 0 (s.get Reg.FLT_STAT_ENTRIES) 0) = 0x018 := by
    obtain ⟨hp, ho, hs, hl, hm⟩ := hf
    rw [cellPage_key ⟨by rw [hs]; omega, hl, hm⟩, hp]
  have hget {g : Fld} {j : Nat} (h : cellPage (g.key 0 j 0) = 0x018) :
      t.get g 0 j = ((s.faultCounted code).recordFault page code false).get g 0 j := by
    rw [heq]
    exact State.faultCautious_get h
  refine ⟨(hget (hcell (by decide))).trans hcode, (hget (hcell (by decide))).trans hpage, (hget (hcell (by decide))).trans hvalid,
    (hget (by decide)).trans hentries, (hget (by decide)).trans hirq, ?_⟩
  rw [heq, hframe]
  show AMap.get cellDflt ((s.faultCounted code).recordFault page code false).flt.codes code = _
  rw [hcodes]
  exact AMap.get_set_same _ _ _ _

/-! ### FLT_CLEAR (R324) -/

/-- A field that is empty at reset and of Keep class T, as those of the record are. -/
def Fld.plain (f : Fld) : Prop := f.keep = .T ∧ f.resets = [] ∧ f.reset = 0

theorem dflt_of_plain {f : Fld} (h : Fld.plain f) (j : Nat) : f.dflt j = 0 := by
  obtain ⟨_, hr, h0⟩ := h
  simp [Fld.dflt, hr, h0]

/-- A write of 0 keeps a cell that reads 0. -/
theorem State.put_zero_keeps {s : State} {f g : Fld} {i j k n : Nat} (hf : Fld.plain f) (hg : Fld.plain g) (h : s.get g k n = 0) :
    (s.put f 0 i j).get g k n = 0 := by
  by_cases e : g.key k n 0 = f.key i j 0
  · have hsame : (s.put f 0 i j).get g k n = (s.put f 0 i j).get f i j := by
      simp only [State.get, hg.1, hf.1, dflt_of_plain hg, dflt_of_plain hf, e]
    exact hsame.trans ((State.get_put _ _ _ _ _ _ (.inr (.inl hf.1))).trans (Nat.zero_mod _))
  · exact (State.get_put_other _ _ _ _ _ _ _ _ _ _ (.inr e)).trans h

/-- Zeros in element n of several fields: what read 0 still does, and so does each of them. -/
theorem foldl_putZero {l : List Fld} {g : Fld} {j n : Nat} (hl : ∀ f ∈ l, Fld.plain f) (hg : Fld.plain g) {s : State}
    (h : s.get g 0 j = 0 ∨ (j = n ∧ g ∈ l)) : (l.foldl (fun s f => s.put f 0 0 n) s).get g 0 j = 0 := by
  induction l generalizing s with
  | nil => exact h.resolve_right (fun e => absurd e.2 List.not_mem_nil)
  | cons f r ih =>
    have hf := hl f List.mem_cons_self
    refine ih (fun x hx => hl x (List.mem_cons_of_mem _ hx)) ?_
    obtain h | ⟨rfl, hm⟩ := h
    · exact .inl (State.put_zero_keeps hf hg h)
    · obtain rfl | hm := List.mem_cons.mp hm
      · exact .inl ((State.get_put _ _ _ _ _ _ (.inr (.inl hg.1))).trans (Nat.zero_mod _))
      · exact .inr ⟨rfl, hm⟩

/-- The fields of an entry of the record. -/
def entryFields : List Fld :=
  [Reg.FLT_FIRST_W0_CODE, Reg.FLT_FIRST_W0_PAGE, Reg.FLT_FIRST_W0_STORM, Reg.FLT_FIRST_W0_NO_TIME, Reg.FLT_FIRST_W0_VALID,
   Reg.FLT_FIRST_NS_NS, Reg.FLT_FIRST_SEC_SEC]

theorem entryFields_plain : ∀ f ∈ entryFields, Fld.plain f := by
  unfold Fld.plain
  decide

/-- The eight entries are emptied, before the counts are. -/
def State.entriesCleared (s : State) : State :=
  (List.range 8).foldl (fun s n => entryFields.foldl (fun s f => s.put f 0 0 n) s) s

theorem State.entriesCleared_zero {s : State} {g : Fld} {n : Nat} (hg : g ∈ entryFields) (hn : n < 8) :
    s.entriesCleared.get g 0 n = 0 := by
  have hplain := entryFields_plain g hg
  refine foldl_establishes (Q := fun u : State => u.get g 0 n = 0) s (List.mem_range.mpr hn) (fun u => ?_) (fun u x hu => ?_)
  · exact foldl_putZero entryFields_plain hplain (.inr ⟨rfl, hg⟩)
  · exact foldl_putZero entryFields_plain hplain (.inl hu)

theorem State.entriesCleared_flt (s : State) : s.entriesCleared.flt = s.flt :=
  keeps_foldl (P := fun u : State => u.flt = s.flt)
    (fun _ _ hu => keeps_foldl (P := fun u : State => u.flt = s.flt) (fun _ _ hv => hv) hu) rfl

theorem State.fltClear_eq (s : State) : s.fltClear = (s.entriesCleared.put Reg.FLT_STAT_ENTRIES 0).put Reg.FLT_STAT_LOST 0 := by
  unfold State.fltClear State.entriesCleared entryFields
  rfl

/-- The counts of the record emptied after its entries. -/
theorem State.countsCleared_shows {s : State} :
    ((s.put Reg.FLT_STAT_ENTRIES 0).put Reg.FLT_STAT_LOST 0).get Reg.FLT_STAT_ENTRIES = 0 ∧
    ((s.put Reg.FLT_STAT_ENTRIES 0).put Reg.FLT_STAT_LOST 0).get Reg.FLT_STAT_LOST = 0 :=
  ⟨(State.get_put_apart (s := s.put Reg.FLT_STAT_ENTRIES 0) (by decide)).trans
      ((State.get_put_held (by decide)).trans (Nat.zero_mod _)),
    (State.get_put_held (s := s.put Reg.FLT_STAT_ENTRIES 0) (by decide)).trans (Nat.zero_mod _)⟩

theorem State.countsCleared_keeps {s : State} {g : Fld} {j n : Nat} (hg : Fld.plain g) (h : s.get g j n = 0) :
    ((s.put Reg.FLT_STAT_ENTRIES 0).put Reg.FLT_STAT_LOST 0).get g j n = 0 := by
  have hentries : Fld.plain Reg.FLT_STAT_ENTRIES := ⟨rfl, rfl, rfl⟩
  have hlost : Fld.plain Reg.FLT_STAT_LOST := ⟨rfl, rfl, rfl⟩
  exact State.put_zero_keeps (s := s.put Reg.FLT_STAT_ENTRIES 0) hlost hg (State.put_zero_keeps hentries hg h)

/-- What FLT_CLEAR leaves. -/
theorem State.fltClear_shows (s : State) : s.fltClear.get Reg.FLT_STAT_ENTRIES = 0 ∧ s.fltClear.get Reg.FLT_STAT_LOST = 0 ∧
    (∀ n, n < 8 → s.fltClear.get Reg.FLT_FIRST_W0_VALID 0 n = 0 ∧ s.fltClear.get Reg.FLT_FIRST_W0_CODE 0 n = 0) ∧
    s.fltClear.flt = s.flt := by
  rw [s.fltClear_eq]
  have hflt : ((s.entriesCleared.put Reg.FLT_STAT_ENTRIES 0).put Reg.FLT_STAT_LOST 0).flt = s.entriesCleared.flt :=
    (State.put_flt ..).trans (State.put_flt ..)
  rw [hflt, s.entriesCleared_flt]
  have hentry {g : Fld} {n : Nat} (hg : g ∈ entryFields) (hn : n < 8) : s.entriesCleared.get g 0 n = 0 :=
    State.entriesCleared_zero hg hn
  generalize s.entriesCleared = u at hentry ⊢
  obtain ⟨hentries, hlost⟩ := State.countsCleared_shows (s := u)
  refine ⟨hentries, hlost, fun n hn => ⟨?_, ?_⟩, rfl⟩
  all_goals exact State.countsCleared_keeps ⟨rfl, rfl, rfl⟩ (hentry (by simp [entryFields]) hn)

/-! ### The counts of a code (R118, R324) -/

section count
variable {s : State} {m : Master} {code : Nat}

/-- A master's own copy of the count reads what was last written to it. -/
theorem State.put_count (v : Nat) : (s.put Reg.FLT_CNT_COUNT v 0 0 m.code).get Reg.FLT_CNT_COUNT 0 0 m.code = v % 65536 :=
  State.get_put _ _ _ _ _ _ (.inr (.inl rfl))

theorem State.fltCntSel_count (h : faultCodes.contains code = true) : s.fltCntSel m code false =
    (s.put Reg.FLT_CNT_SEL_CODE code 0 0 m.code).put Reg.FLT_CNT_COUNT (AMap.get cellDflt s.flt.codes code) 0 0 m.code := by
  refine (if_neg ?_ : s.fltCntSel m code false = _).trans (if_neg Bool.false_ne_true)
  rw [h]
  decide

theorem State.fltCntSel_clear (h : faultCodes.contains code = true) :
    (s.fltCntSel m code true).get Reg.FLT_CNT_COUNT 0 0 m.code = AMap.get cellDflt s.flt.codes code % 65536 ∧
    (s.fltCntSel m code true).flt = { s.flt with codes := AMap.del s.flt.codes code } := by
  have heq : s.fltCntSel m code true = ((s.put Reg.FLT_CNT_SEL_CODE code 0 0 m.code).put Reg.FLT_CNT_COUNT
      (AMap.get cellDflt s.flt.codes code) 0 0 m.code).fltSet (fun f => { f with codes := AMap.del f.codes code }) := by
    refine (if_neg ?_ : s.fltCntSel m code true = _).trans (if_pos rfl)
    rw [h]
    decide
  rw [heq]
  exact ⟨State.put_count (s := s.put Reg.FLT_CNT_SEL_CODE code 0 0 m.code) _, rfl⟩

/-- An error that is counted on a page shows its code there. -/
theorem State.err_code {page off ec : Nat} (h : ec < 256) : (s.err page off ec m).get Reg.PG_ERR_CAPT1_CODE page = ec := by
  unfold State.err
  extract_lets count offset shown master write
  refine (State.get_put_apart (by decide)).trans ((State.get_put_apart (by decide)).trans ((State.get_put_apart (by decide)).trans ?_))
  exact (State.get_put_held (by decide)).trans (Nat.mod_eq_of_lt h)

theorem State.fltCntSel_invalid (h : faultCodes.contains code = false) :
    (s.fltCntSel m code false).get Reg.FLT_CNT_COUNT 0 0 m.code = 0 ∧
    (s.fltCntSel m code false).get Reg.PG_ERR_CAPT1_CODE pgFLT = ecINVALID ∧ (s.fltCntSel m code false).flt = s.flt := by
  have heq : s.fltCntSel m code false =
      (((s.put Reg.FLT_CNT_SEL_CODE code 0 0 m.code).err pgFLT 0x0A0 ecINVALID m).put Reg.FLT_CNT_COUNT 0 0 0 m.code) := by
    refine if_pos ?_
    rw [h]
    rfl
  rw [heq]
  refine ⟨State.put_count 0, ?_, (State.put_flt ..).trans ((State.err_flt ..).trans (State.put_flt ..))⟩
  exact (State.get_put_other _ _ _ _ _ _ _ _ _ _ (.inl (by decide))).trans (State.err_code (by decide))

end count

end Sys2Proof.Machine

namespace Sys2Proof
open Machine

/-- Settles O36: a report that counts goes through `State.fault`, of which a calm concentrator records the entry and a full one in a
storm counts the loss. -/
theorem faultsAreRecorded : Obligations.FaultsAreRecorded := by
  unfold Obligations.FaultsAreRecorded
  have hreport {p : Fin 4096} {k : Fin 65536} {s : State} (hr : s.heelStands = false) (h : s.reportsFault p.val k.val) :
      exec (.faultReport p k) s = .next (s.fault p.val k.val) :=
    congrArg Host.Outcome.next ((State.heel_runs hr).trans (faultReport_reaches h))
  refine ⟨?_, ?_, ?_, ?_, ?_, ?_, ?_, ?_, ?_, ?_, ?_, ?_⟩
  case refine_1 =>
    intro p k s hr hl hc hp ht
    exact hreport hr ⟨hl, hc, hp, ht⟩
  case refine_2 =>
    intro p k s h
    exact congrArg Host.Outcome.next (State.heel_idle fun hr => faultReport_idle (h.resolve_left (ne_true_of_eq_false hr)))
  case refine_3 =>
    intro p k s hr hl hc hp ht hprim hs hrecent hn
    obtain ⟨hcode, hpage, hvalid, hentries, hirq, hcount⟩ := State.fault_recorded (page := p.val) hprim hs hrecent hn
    obtain ⟨r, c, hframe⟩ := (s.fault_reports p.val k.val).frame
    rw [Nat.mod_eq_of_lt k.isLt] at hcode
    rw [Nat.mod_eq_of_lt p.isLt] at hpage
    refine ⟨_, hreport hr ⟨hl, hc, hp, ht⟩, hcode, hpage, hvalid, hentries, hirq, hcount, ?_⟩
    rw [hframe]
    exact ⟨rfl, rfl, rfl⟩
  case refine_4 =>
    intro s hr hs hp
    exact congrArg Host.Outcome.next ((State.heel_runs hr).trans (stormPeriodEnd_ends hs hp))
  case refine_5 =>
    intro s hr hs hp
    exact congrArg Host.Outcome.next ((State.heel_runs hr).trans (stormPeriodEnd_lasts hs hp))
  case refine_6 =>
    intro p k s hr hl hc hp ht hprim hs hn
    exact ⟨_, hreport hr ⟨hl, hc, hp, ht⟩, State.fault_stormLost hprim hs hn⟩
  case refine_7 =>
    intro s h
    exact congrArg Host.Outcome.next (State.heel_idle fun hr => stormPeriodEnd_idle (h.resolve_left (ne_true_of_eq_false hr)))
  case refine_8 =>
    rintro m z _ rfl hg
    exact ⟨_, congrArg Host.Outcome.next (z.direct_of_grants m _ _ _ hg), (z.sent m).fltClear_shows⟩
  case refine_9 =>
    rintro m k z _ rfl hs hc
    exact congrArg Host.Outcome.next ((z.directFree_of_serves m _ _ _ hs).trans (State.fltCntSel_count hc))
  case refine_10 =>
    rintro m k z _ rfl hg hc
    exact ⟨_, congrArg Host.Outcome.next (z.direct_of_grants m _ _ _ hg), State.fltCntSel_clear hc⟩
  case refine_11 =>
    rintro m k z _ rfl hs hc
    exact ⟨_, congrArg Host.Outcome.next (z.directFree_of_serves m _ _ _ hs), State.fltCntSel_invalid hc⟩
  case refine_12 =>
    rintro m b z _ rfl hg
    refine congrArg Host.Outcome.next ((z.direct_of_grants m _ _ _ hg).trans ?_)
    rw [Nat.mod_eq_of_lt b.isLt]

end Sys2Proof

/-! The mailbox (R320, R335): one equation per case of its commands, and what an answer leaves in the response buffer. -/

namespace Sys2Proof.Machine

/-! ### The bytes of a buffer -/

/-- The bytes of a list, written to a map from index n on. -/
theorem AMap.get_foldl_zipIdx {V : Type} [DecidableEq V] {d : Nat → V} (bs : List V) (a : AMap V) (n k : Nat) :
    AMap.get d ((bs.zipIdx n).foldl (fun m c => AMap.set d m c.2 c.1) a) k =
      if n ≤ k ∧ k < n + bs.length then (bs[k - n]?).getD (AMap.get d a k) else AMap.get d a k := by
  induction bs generalizing a n with
  | nil => exact (if_neg (by simp only [List.length_nil]; omega)).symm
  | cons b r ih =>
    rw [List.zipIdx_cons, List.foldl_cons, ih]
    obtain hlt | rfl | hgt := Nat.lt_trichotomy k n
    · rw [if_neg (by omega), if_neg (by omega), AMap.get_set_other _ _ _ _ _ (by omega)]
    · rw [if_neg (by omega), if_pos (by simp only [List.length_cons]; omega), AMap.get_set_same, Nat.sub_self]
      rfl
    · have hidx : k - n = k - (n + 1) + 1 := by omega
      rw [AMap.get_set_other _ _ _ _ _ (by omega), hidx, List.getElem?_cons_succ]
      by_cases hk : k < n + 1 + r.length
      · rw [if_pos (by omega), if_pos (by simp only [List.length_cons]; omega)]
      · rw [if_neg (by omega), if_neg (by simp only [List.length_cons]; omega)]

theorem beBytes_two_length (v : Nat) : (beBytes 2 v).length = 2 := by simp [beBytes, leBytes]

section mailbox
variable {m : Master} {n : Nat} {s : State}

/-! ### MBX_GO -/

theorem State.mbxCmd_taken (hf : s.firmwareRuns = true) (hb : s.flag Reg.MBX_STAT_BUSY = false) (h8 : 8 ≤ n) (hn : n ≤ 1024) :
    s.mbxCmd m n true = (s.put Reg.MBX_CMD_LEN n).put Reg.MBX_STAT_BUSY 1 :=
  (if_neg (by simp [hf])).trans ((if_neg (ne_true_of_eq_false hb)).trans (if_neg (by simp only [Bool.or_eq_true, decide_eq_true_eq]; omega)))

theorem State.mbxCmd_busy (hf : s.firmwareRuns = true) (hb : s.flag Reg.MBX_STAT_BUSY = true) :
    s.mbxCmd m n true = s.err pgMBX 0x080 ecBUSY m :=
  (if_neg (by simp [hf])).trans (if_pos hb)

theorem State.mbxCmd_invalid (hf : s.firmwareRuns = true) (hb : s.flag Reg.MBX_STAT_BUSY = false) (hn : n < 8 ∨ 1024 < n) :
    s.mbxCmd m n true = s.err pgMBX 0x080 ecINVALID m :=
  (if_neg (by simp [hf])).trans ((if_neg (ne_true_of_eq_false hb)).trans (if_pos (by simpa using hn)))

theorem State.mbxCmd_lost (hf : s.firmwareRuns = false) : s.mbxCmd m n true = s := if_pos (by simp [hf])

/-! ### The answer -/

/-- The bytes of a response: the header with the request's SERVICE and SEQUENCE, and the body. -/
def State.mbxFrame (s : State) (result : Nat) (body : List Byte) : List Byte :=
  s.mbxReq 0 4 ++ beBytes 2 body.length ++ beBytes 2 result ++ body

variable {result : Nat} {body : List Byte}

theorem State.mbxFrame_length : (s.mbxFrame result body).length = 8 + body.length := by
  simp only [State.mbxFrame, State.mbxReq, List.length_append, List.length_map, List.length_range, beBytes_two_length]

theorem State.mbxFrame_body {k : Nat} : (s.mbxFrame result body)[8 + k]? = body[k]? := by
  have hhead : (s.mbxReq 0 4 ++ beBytes 2 body.length ++ beBytes 2 result).length = 8 := by
    simp only [State.mbxReq, List.length_append, List.length_map, List.length_range, beBytes_two_length]
  rw [State.mbxFrame, List.getElem?_append_right (by omega), hhead, Nat.add_sub_cancel_left]

theorem State.mbxFrame_request {k : Nat} (hk : k < 4) :
    (s.mbxFrame result body)[k]? = some (AMap.get (fun _ => 0) s.mbx.req k) := by
  have hreq : (s.mbxReq 0 4).length = 4 := by simp only [State.mbxReq, List.length_map, List.length_range]
  rw [State.mbxFrame, List.append_assoc, List.append_assoc, List.getElem?_append_left (by omega), State.mbxReq, List.getElem?_map,
    List.getElem?_range hk, Option.map_some, Nat.zero_add]

/-- The response buffer filled with these bytes, and the registers that announce them. -/
def State.mbxAnnounced (s : State) (result : Nat) (bs : List Byte) : State :=
  ((((s.mbxSet (fun x => { x with rsp := bs.zipIdx.foldl (fun m c => AMap.set (fun _ => 0) m c.2 c.1) [] })).put
    Reg.MBX_STAT_RLEN bs.length).put Reg.MBX_STAT_RESULT result).put Reg.MBX_STAT_BUSY 0).raise Reg.MBX_IRQ_DONE

theorem State.mbxAnswer_announces (hb : s.flag Reg.MBX_STAT_BUSY = true) (hlen : body.length ≤ 1016) :
    s.mbxAnswer result body = s.mbxAnnounced result (s.mbxFrame result body) := by
  unfold State.mbxAnswer
  rw [if_neg (by simp [hb]), List.take_of_length_le hlen]
  rfl

theorem State.mbxAnnounced_shows {bs : List Byte} :
    (s.mbxAnnounced result bs).get Reg.MBX_STAT_BUSY = 0 ∧ (s.mbxAnnounced result bs).get Reg.MBX_STAT_RESULT = result % 256 ∧
    (s.mbxAnnounced result bs).get Reg.MBX_STAT_RLEN = bs.length % 2048 ∧ (s.mbxAnnounced result bs).get Reg.MBX_IRQ_DONE = 1 := by
  refine ⟨?_, ?_, ?_, State.get_raise_bit (.inr (.inr rfl)) rfl⟩
  all_goals
    refine (State.get_raise_apart (by decide)).trans ?_
    simp (disch := decide) only [State.get_put_apart, State.get_put_held]
    rfl

theorem State.mbxAnnounced_rsp {bs : List Byte} {k : Nat} {x : Byte} (h : bs[k]? = some x) :
    AMap.get (fun _ => 0) (s.mbxAnnounced result bs).mbx.rsp k = x := by
  have hk : k < bs.length := (List.getElem?_eq_some_iff.mp h).1
  refine (AMap.get_foldl_zipIdx bs [] 0 k).trans ?_
  rw [if_pos (by omega), Nat.sub_zero, h]
  rfl

theorem mbxResponse_answers (h1 : bit s.pwr.powered 1 = true) (hf : s.firmwareRuns = true) :
    mbxResponse result body s = s.mbxAnswer result body := if_pos (by rw [h1, hf]; rfl)

theorem mbxResponse_idle (h : s.flag Reg.MBX_STAT_BUSY = false ∨ s.firmwareRuns = false) : mbxResponse result body s = s := by
  refine ite_eq_right_iff.mpr fun hrun => if_pos ?_
  obtain hb | hf := h
  · rw [hb]; rfl
  · simp [hf] at hrun

/-! ### LOOPBACK_TEST (R335) -/

/-- A loopback request waits for the firmware, which runs. -/
def State.loopWaits (s : State) : Prop :=
  bit s.pwr.powered 1 = true ∧ s.firmwareRuns = true ∧ s.flag Reg.MBX_STAT_BUSY = true ∧ beNat (s.mbxReq 0 2) = 0x0D01

variable {good bad : Nat}

theorem loopbackTest_unformed (h : s.loopWaits) (hlen : beNat (s.mbxReq 4 2) ≠ 4 ∨ s.get Reg.MBX_CMD_LEN ≠ 12) :
    loopbackTest good bad s = s.mbxAnswer 2 [] := by
  obtain ⟨h1, hf, hb, hs⟩ := h
  refine (if_neg (by simp [h1, hf, hb, hs])).trans (if_pos ?_)
  simpa only [Bool.or_eq_true, bne_iff_ne] using hlen

theorem loopbackTest_runs {p k : Nat} (h : s.loopWaits) (h4 : beNat (s.mbxReq 4 2) = 4) (h12 : s.get Reg.MBX_CMD_LEN = 12)
    (hp : leNat (sub (s.mbxReq 8 4) 0 1) = p) (h24 : p < 24) (hmode : s.portMode p ≠ 0)
    (hloop : leNat (sub (s.mbxReq 8 4) 1 1) = 1) (hn : beNat (sub (s.mbxReq 8 4) 2 2) = k) (hk : k ≠ 0) :
    loopbackTest good bad s = ((((s.put Reg.MAC_TEST_LOOP 1 p).testSync p).put Reg.MAC_TEST_LOOP 0 p).testSync p).mbxAnswer 0
      (beBytes 4 k ++ beBytes 4 (min good k) ++ beBytes 4 (min bad (k - min good k))) := by
  obtain ⟨h1, hf, hb, hs⟩ := h
  unfold loopbackTest
  rw [if_neg (by simp [h1, hf, hb, hs])]
  extract_lets b port mode count on off
  have hport : port = p := hp
  have hmode1 : mode = 1 := hloop
  have hcount : count = k := hn
  rw [if_neg (by simp [h4, h12]), if_neg (by simp [hport, hmode1, hcount, hmode, hk, h24])]
  simp only [off, on, hport, hmode1, hcount]

theorem loopbackTest_other (h : beNat (s.mbxReq 0 2) ≠ 0x0D01) : loopbackTest good bad s = s := if_pos (by simp [h])

end mailbox

end Sys2Proof.Machine

namespace Sys2Proof
open Machine

/-- Settles O35: each command is a case of `State.mbxCmd` or `State.mbxAnswer`, and an answer is `State.mbxAnnounced` of its bytes. -/
theorem theMailboxAnswers : Obligations.TheMailboxAnswers := by
  unfold Obligations.TheMailboxAnswers
  refine ⟨?_, ?_, ?_, ?_, ?_, ?_, ?_, ?_, ?_⟩
  case refine_1 =>
    rintro m n z _ rfl hg hf hb h8 hn
    exact congrArg Host.Outcome.next ((z.direct_of_grants m _ _ _ hg).trans (State.mbxCmd_taken hf hb h8 hn))
  case refine_2 =>
    rintro m n z _ rfl hg hf hb
    exact congrArg Host.Outcome.next ((z.direct_of_grants m _ _ _ hg).trans (State.mbxCmd_busy hf hb))
  case refine_3 =>
    rintro m n z _ rfl hg hf hb hn
    exact congrArg Host.Outcome.next ((z.direct_of_grants m _ _ _ hg).trans (State.mbxCmd_invalid hf hb hn))
  case refine_4 =>
    intro r b s h1 hf hb hlen
    obtain ⟨hbusy, hresult, hrlen, hdone⟩ := State.mbxAnnounced_shows (s := s) (result := r.val) (bs := s.mbxFrame r.val b)
    rw [Nat.mod_eq_of_lt r.isLt] at hresult
    rw [State.mbxFrame_length, Nat.mod_eq_of_lt (by omega)] at hrlen
    exact ⟨_, congrArg Host.Outcome.next ((mbxResponse_answers h1 hf).trans (State.mbxAnswer_announces hb hlen)), hbusy, hresult, hrlen,
      hdone, rfl, fun k x hx => State.mbxAnnounced_rsp (State.mbxFrame_body.trans hx),
      fun k hk => State.mbxAnnounced_rsp (State.mbxFrame_request hk)⟩
  case refine_5 =>
    rintro m n z _ rfl hg hf
    exact congrArg Host.Outcome.next ((z.direct_of_grants m _ _ _ hg).trans (State.mbxCmd_lost hf))
  case refine_6 =>
    intro r b s h
    exact congrArg Host.Outcome.next (mbxResponse_idle h)
  case refine_7 =>
    intro g b s h1 hf hb hs hlen
    exact congrArg Host.Outcome.next (loopbackTest_unformed ⟨h1, hf, hb, hs⟩ hlen)
  case refine_8 =>
    rintro g b p n s _ h1 hf hb hs h4 h12 hp h24 hmode hloop hn hk rfl
    exact congrArg Host.Outcome.next (loopbackTest_runs ⟨h1, hf, hb, hs⟩ h4 h12 hp.symm h24 hmode hloop hn.symm hk)
  case refine_9 =>
    intro g b s h
    exact congrArg Host.Outcome.next (loopbackTest_other h)

end Sys2Proof

/-! The Welt's requests (R298–R302): how they are accepted and withheld, and one equation per case of their ends. -/

namespace Sys2Proof.Machine

section welt
variable {s : State} {q : HostReq}

/-! ### Acceptance (R298, R300) -/

/-- While a confirmed write is outstanding nothing is accepted. -/
theorem State.weltAccept_withheld (h : s.wlt.flight.any HostReq.isConfirmed = true) : s.weltAccept q = none := if_pos h

theorem State.weltAccept_read {x a n t : Nat} (h : s.wlt.flight.any HostReq.isConfirmed = false) (ht : s.freeTag = some t) :
    s.weltAccept (.read x a n) = some (s.wltSet (fun w => { w with flight := w.flight ++ [.read t a n] })) := by
  unfold State.weltAccept
  rw [if_neg (ne_true_of_eq_false h), ht]
  rfl

theorem State.weltAccept_write {w : HostWrite} (h : s.wlt.flight.any HostReq.isConfirmed = false) :
    s.weltAccept (.write w) =
      let seq := (s.get Reg.WLT_WR_SEQ_SEQ + 1) % 2 ^ 32
      some ((s.put Reg.WLT_WR_SEQ_SEQ seq).wltSet (fun x =>
        { x with flight := x.flight ++ [.write { w with seq := seq, confirmed := s.confirmed w.addr }] })) :=
  if_neg (ne_true_of_eq_false h)

theorem State.weltDrain_withheld {l : List HostReq} (h : s.weltAccept q = none) :
    s.weltDrain (q :: l) = s.wltSet (fun w => { w with held := q :: l }) := by
  rw [State.weltDrain, h]

theorem State.weltDrain_accepted {t : State} (h : s.weltAccept q = some t) :
    s.weltDrain [q] = t.wltSet (fun w => { w with held := [] }) := by
  simp only [State.weltDrain, h]

theorem State.hostIssue_down (h : s.flag Reg.WLT_STAT_LINK_UP = false) : s.hostIssue q = s := if_neg (ne_true_of_eq_false h)

/-- A request joins those withheld. -/
theorem State.hostIssue_withheld (hl : s.flag Reg.WLT_STAT_LINK_UP = true) (h : s.wlt.flight.any HostReq.isConfirmed = true) :
    s.hostIssue q = s.wltSet (fun w => { w with held := w.held ++ [q] }) := by
  refine (if_pos hl : s.hostIssue q = _).trans ?_
  cases hh : s.wlt.held with
  | nil =>
    rw [List.nil_append, State.weltDrain_withheld (State.weltAccept_withheld h), State.wltSet, State.wltSet, hh, List.nil_append]
  | cons x r =>
    rw [List.cons_append, State.weltDrain_withheld (State.weltAccept_withheld h), State.wltSet, State.wltSet, hh, List.cons_append]

/-- A request with none before it goes on. -/
theorem State.hostIssue_accepted {t : State} (hl : s.flag Reg.WLT_STAT_LINK_UP = true) (hh : s.wlt.held = [])
    (h : s.weltAccept q = some t) : s.hostIssue q = t.wltSet (fun w => { w with held := [] }) := by
  refine (if_pos hl : s.hostIssue q = _).trans ?_
  rw [hh, List.nil_append, State.weltDrain_accepted h]

/-! ### Reads end (R298, R299) -/

section read
variable {tag x a n : Nat} {t : State} {bs : List Byte} {e : AccErr}

theorem readAnswer_data (h : s.weltTurn (HostReq.hasTag tag) = some (.read x a n)) (hr : s.busRead .host a n = (none, bs, t)) :
    readAnswer tag false s = (t.complete tag bs 0).weltEnd (HostReq.hasTag tag) := by
  unfold readAnswer
  rw [h]
  simp only [hr, Bool.false_eq_true, if_false]

theorem readAnswer_fails (h : s.weltTurn (HostReq.hasTag tag) = some (.read x a n)) (hr : s.busRead .host a n = (some e, bs, t)) :
    readAnswer tag false s = ((t.complete tag [] e.code).readFail a e.code).weltEnd (HostReq.hasTag tag) := by
  unfold readAnswer
  rw [h]
  simp only [hr, Bool.false_eq_true, if_false]

theorem readAnswer_target (h : s.weltTurn (HostReq.hasTag tag) = some (.read x a n)) :
    readAnswer tag true s = ((s.complete tag [] 8).readFail a 8).weltEnd (HostReq.hasTag tag) := by
  unfold readAnswer
  rw [h]
  simp only [if_true]

theorem readAnswer_idle {b : Bool} (h : s.weltTurn (HostReq.hasTag tag) = none) : readAnswer tag b s = s := by
  rw [readAnswer, h]

theorem readTimeout_ends (h : s.weltTurn (HostReq.hasTag tag) = some (.read x a n)) : ∃ u : State,
    (u = (s.draw 2).2 ∨ u = ((s.draw 2).2.busRead .host a n).2.2) ∧ readTimeout tag s =
      ((((u.complete tag [] 7).readFail a 7).inc Reg.WLT_RD_TIMEOUTS_COUNT).raise Reg.WLT_IRQ_RD_TIMEOUT).weltEnd
        (HostReq.hasTag tag) := by
  unfold readTimeout
  rw [h]
  refine ⟨_, ?_, rfl⟩
  split
  · exact .inr rfl
  · exact .inl rfl

theorem readTimeout_idle (h : s.weltTurn (HostReq.hasTag tag) = none) : readTimeout tag s = s := by
  rw [readTimeout, h]

end read

/-! ### Writes end (R301, R302) -/

section write
variable {n : Nat} {w : HostWrite}

theorem writeAck_target (h : s.weltTurn (HostReq.hasSeq n) = some (.write w)) :
    writeAck n true s = ((s.perr w 8).weltEnd (HostReq.hasSeq n)).dueReset := by
  unfold writeAck
  rw [h]
  rfl

theorem writeAck_performed (h : s.weltTurn (HostReq.hasSeq n) = some (.write w)) (hw : (s.busWrite .host w.addr w.data).1 = none) :
    writeAck n false s = ((s.busWrite .host w.addr w.data).2.weltEnd (HostReq.hasSeq n)).dueReset := by
  unfold writeAck
  simp only [h, Bool.false_eq_true, if_false]
  generalize s.busWrite .host w.addr w.data = r at hw ⊢
  obtain ⟨_, t⟩ := r
  subst hw
  rfl

theorem writeAck_fails {e : AccErr} (h : s.weltTurn (HostReq.hasSeq n) = some (.write w))
    (hw : (s.busWrite .host w.addr w.data).1 = some e) :
    writeAck n false s = (((s.busWrite .host w.addr w.data).2.perr w e.code).weltEnd (HostReq.hasSeq n)).dueReset := by
  unfold writeAck
  simp only [h, Bool.false_eq_true, if_false]
  generalize s.busWrite .host w.addr w.data = r at hw ⊢
  obtain ⟨_, t⟩ := r
  subst hw
  rfl

theorem writeAck_idle {b : Bool} (h : s.weltTurn (HostReq.hasSeq n) = none) : writeAck n b s = s := by
  rw [writeAck, h]

theorem writeTimeout_ends (h : s.weltTurn (HostReq.hasSeq n) = some (.write w)) : ∃ u : State,
    (u = (s.draw 2).2 ∨ u = ((s.draw 2).2.busWrite .host w.addr w.data).2) ∧
      writeTimeout n s = ((u.perr w 7).weltEnd (HostReq.hasSeq n)).dueReset := by
  unfold writeTimeout
  rw [h]
  refine ⟨_, ?_, rfl⟩
  split
  · exact .inr rfl
  · exact .inl rfl

theorem writeTimeout_idle (h : s.weltTurn (HostReq.hasSeq n) = none) : writeTimeout n s = s := by
  rw [writeTimeout, h]

end write

end welt

end Sys2Proof.Machine

namespace Sys2Proof
open Machine

/-- Settles O31: a request goes through `State.hostIssue`, and each of the four ends is a case of the request whose turn has come. -/
theorem theWeltAcceptsAndAnswers : Obligations.TheWeltAcceptsAndAnswers := by
  unfold Obligations.TheWeltAcceptsAndAnswers
  refine ⟨?_, ?_, ?_, ?_, ?_, ?_, ?_, ?_, ?_, ?_, ?_, ?_⟩
  case refine_1 =>
    intro a n t s hl hh hc ht
    exact congrArg Host.Outcome.next (State.hostIssue_accepted hl hh (State.weltAccept_read hc ht))
  case refine_2 =>
    intro a n s hl hc
    exact congrArg Host.Outcome.next (State.hostIssue_withheld hl hc)
  case refine_3 =>
    intro a n bs s hl
    refine ⟨congrArg Host.Outcome.next (State.hostIssue_down hl), congrArg Host.Outcome.next ?_, congrArg Host.Outcome.next ?_⟩
    · exact ite_eq_left_iff.mpr fun _ => State.hostIssue_down hl
    · exact ite_eq_right_iff.mpr fun _ => State.hostIssue_down hl
  case refine_4 =>
    rintro a bs s _ hl hh hc rfl
    have hissue {w : HostWrite} := State.hostIssue_accepted hl hh (State.weltAccept_write (w := w) hc)
    cases hk : s.confirmed a with
    | true =>
      refine ⟨congrArg Host.Outcome.next ((if_pos hk : pcieWriteConfirmed a bs s = _).trans (hissue.trans ?_)),
        congrArg Host.Outcome.next (if_pos hk)⟩
      simp only [hk]
      rfl
    | false =>
      refine ⟨congrArg Host.Outcome.next ((if_neg (ne_true_of_eq_false hk) : pcieWritePosted a bs s = _).trans (hissue.trans ?_)),
        congrArg Host.Outcome.next (if_neg (ne_true_of_eq_false hk))⟩
      simp only [hk]
      rfl
  case refine_5 =>
    intro tag x a n s t bs ht hr
    exact congrArg Host.Outcome.next (readAnswer_data ht hr)
  case refine_6 =>
    intro tag x a n s t e bs ht hr
    exact ⟨congrArg Host.Outcome.next (readAnswer_fails ht hr), congrArg Host.Outcome.next (readAnswer_target ht)⟩
  case refine_7 =>
    intro tag x a n s ht
    obtain ⟨u, hu, hends⟩ := readTimeout_ends ht
    exact ⟨u, hu, congrArg Host.Outcome.next hends⟩
  case refine_8 =>
    intro n s w ht
    exact ⟨congrArg Host.Outcome.next (writeAck_target ht), fun hw => congrArg Host.Outcome.next (writeAck_performed ht hw),
      fun e hw => congrArg Host.Outcome.next (writeAck_fails ht hw)⟩
  case refine_9 =>
    intro n s w ht
    obtain ⟨u, hu, hends⟩ := writeTimeout_ends ht
    exact ⟨u, hu, congrArg Host.Outcome.next hends⟩
  case refine_10 =>
    intro s h
    exact if_neg (ne_true_of_eq_false h)
  case refine_11 =>
    intro s h
    exact if_pos h
  case refine_12 =>
    intro tag b n s ht hn
    exact ⟨congrArg Host.Outcome.next (readAnswer_idle ht), congrArg Host.Outcome.next (readTimeout_idle ht),
      congrArg Host.Outcome.next (writeAck_idle hn), congrArg Host.Outcome.next (writeTimeout_idle hn)⟩

end Sys2Proof

/-! The host's link, the log of failed writes and the ownership table (R294, R302, R304): DEV_OWNER is sixteen fields of two bits, which
a write joins from the old value and the new one. -/

namespace Sys2Proof.Machine

/-! ### The link (R294) -/

section link
variable {s : State} {width speed : Nat} {bme : Bool}

theorem pcieLinkUp_trains (hp : bit s.pwr.powered 2 = true) (ht : bit s.pwr.tested 2 = true) (hl : linkFits width speed = true) :
    pcieLinkUp width speed bme s = ((((s.put Reg.WLT_STAT_LINK_UP 1).put Reg.WLT_STAT_WIDTH width).put Reg.WLT_STAT_SPEED speed).put
      Reg.WLT_STAT_BME (b2n bme)).portSync 32 := if_neg (by simp [hp, ht, hl])

theorem pcieLinkUp_idle (h : bit s.pwr.powered 2 = false ∨ bit s.pwr.tested 2 = false ∨ linkFits width speed = false) :
    pcieLinkUp width speed bme s = s := by
  refine if_pos ?_
  obtain h | h | h := h <;> simp [h]

theorem linkFits_of (hw : width = 1 ∨ width = 2 ∨ width = 4) (h1 : 1 ≤ speed) (h4 : speed ≤ 4) : linkFits width speed = true := by
  obtain rfl | rfl | rfl := hw <;> simp [linkFits, h1, h4]

theorem pcieLinkDown_falls (hp : bit s.pwr.powered 2 = true) (hl : s.flag Reg.WLT_STAT_LINK_UP = true) :
    pcieLinkDown s = (s.hostLost.raise Reg.WLT_IRQ_LINK_DOWN).portSync 32 :=
  (if_neg (by simp [hp]) : pcieLinkDown s = _).trans (congrArg (fun u : State => u.portSync 32) (if_pos hl))

theorem pcieLinkDown_again (hp : bit s.pwr.powered 2 = true) (hl : s.flag Reg.WLT_STAT_LINK_UP = false) :
    pcieLinkDown s = s.hostLost.portSync 32 :=
  (if_neg (by simp [hp]) : pcieLinkDown s = _).trans (congrArg (fun u : State => u.portSync 32) (if_neg (ne_true_of_eq_false hl)))

theorem pcieLinkDown_idle (hp : bit s.pwr.powered 2 = false) : pcieLinkDown s = s := if_pos (by simp [hp])

/-- Of the requests in flight, those that the loss of the link leaves are the writes. -/
theorem State.mem_hostLost_flight {q : HostReq} : q ∈ s.hostLost.wlt.flight ↔ q ∈ s.wlt.flight ∧ q.isWrite = true := by
  refine List.mem_filter.trans (and_congr_right fun _ => ?_)
  cases q <;> rfl

end link

/-! ### The log of failed writes (R302) -/

theorem State.perrAck_shows (s : State) (n : Nat) : (s.perrAck n).perrs = s.perrs.drop n ∧
    (s.perrAck n).get Reg.WLT_PERR_STAT_COUNT = (s.perrs.length - n) % 32 ∧ (s.perrAck n).wlt = s.wlt := by
  have hdrop : s.perrs.drop (min n s.perrs.length) = s.perrs.drop n := by
    by_cases h : n ≤ s.perrs.length
    · rw [Nat.min_eq_left h]
    · rw [Nat.min_eq_right (by omega), List.drop_length, List.drop_of_length_le (by omega)]
  unfold State.perrAck
  extract_lets k u
  have hperrs : u.perrs = s.perrs.drop n := hdrop
  refine ⟨hperrs, ?_, rfl⟩
  refine (State.get_put_apart (by decide)).trans ((State.get_put_held (by decide)).trans ?_)
  rw [hperrs, List.length_drop]
  rfl

/-! ### Fields of two bits -/

/-- The number whose first n fields of two bits are these. -/
def pairs (c : Nat → Nat) (n : Nat) : Nat := (List.range n).foldl (fun a g => a + c g * 2 ^ (2 * g)) 0

theorem pairs_succ (c : Nat → Nat) (n : Nat) : pairs c (n + 1) = pairs c n + c n * 4 ^ n := by
  simp only [pairs, List.range_succ, List.foldl_append, List.foldl_cons, List.foldl_nil, Nat.pow_mul, Nat.reducePow]

theorem bits_pair (v g : Nat) : bits v (2 * g) 2 = v / 4 ^ g % 4 := by
  simp only [bits, Nat.pow_mul, Nat.reducePow]

theorem pairs_lt {c : Nat → Nat} (hc : ∀ g, c g < 4) (n : Nat) : pairs c n < 4 ^ n := by
  induction n with
  | zero => exact Nat.one_pos
  | succ n ih =>
    have hle : c n * 4 ^ n ≤ 3 * 4 ^ n := Nat.mul_le_mul_right _ (Nat.le_of_lt_succ (hc n))
    rw [pairs_succ, Nat.pow_succ]
    omega

/-- A field reads what it was joined from. -/
theorem bits_pairs {c : Nat → Nat} (hc : ∀ g, c g < 4) {n g : Nat} (hg : g < n) : bits (pairs c n) (2 * g) 2 = c g := by
  rw [bits_pair]
  induction n with
  | zero => exact absurd hg (Nat.not_lt_zero _)
  | succ n ih =>
    rw [pairs_succ]
    obtain hlt | rfl := Nat.lt_succ_iff_lt_or_eq.mp hg
    · obtain ⟨d, rfl⟩ := Nat.exists_eq_add_of_lt hlt
      have hpow : c (g + d + 1) * 4 ^ (g + d + 1) = 4 ^ g * (4 * (c (g + d + 1) * 4 ^ d)) := by ring
      rw [hpow, Nat.add_mul_div_left _ _ (Nat.pow_pos (by decide)), Nat.add_mul_mod_self_left]
      exact ih hlt
    · rw [Nat.add_mul_div_right _ _ (Nat.pow_pos (by decide)), Nat.div_eq_of_lt (pairs_lt hc g), Nat.zero_add,
        Nat.mod_eq_of_lt (hc g)]

/-- A number is joined from its own fields. -/
theorem pairs_bits (v n : Nat) : pairs (fun g => bits v (2 * g) 2) n = v % 4 ^ n := by
  induction n with
  | zero => exact (Nat.mod_one v).symm
  | succ n ih =>
    rw [pairs_succ, ih, bits_pair, Nat.pow_succ, Nat.mod_mul, Nat.mul_comm (4 ^ n)]

theorem pairs_congr {c d : Nat → Nat} {n : Nat} (h : ∀ g ∈ List.range n, c g = d g) : pairs c n = pairs d n := by
  induction n with
  | zero => rfl
  | succ n ih =>
    rw [pairs_succ, pairs_succ, ih fun g hg => h g (List.mem_range.mpr (Nat.lt_succ_of_lt (List.mem_range.mp hg))),
      h n (List.mem_range.mpr n.lt_succ_self)]

/-! ### OWNER_WRITE (R304) -/

section owner
variable {s : State} {m : Master} {v : Nat}

/-- Master m may write this value to field g, which is its own or to change. -/
def State.mayWrite (s : State) (m : Master) (v g : Nat) : Prop :=
  bits (s.get Reg.DEV_OWNER_OWNER) (2 * g) 2 = bits v (2 * g) 2 ∨
    s.mayOwn m (bits (s.get Reg.DEV_OWNER_OWNER) (2 * g) 2) (bits v (2 * g) 2) = true

/-- What a write leaves in field g. -/
def State.ownerField (s : State) (m : Master) (v g : Nat) : Nat :=
  if bits (s.get Reg.DEV_OWNER_OWNER) (2 * g) 2 == bits v (2 * g) 2 ||
      s.mayOwn m (bits (s.get Reg.DEV_OWNER_OWNER) (2 * g) 2) (bits v (2 * g) 2) then bits v (2 * g) 2
  else bits (s.get Reg.DEV_OWNER_OWNER) (2 * g) 2

theorem State.ownerField_lt (g : Nat) : s.ownerField m v g < 4 := by
  have hbits (x : Nat) : bits x (2 * g) 2 < 4 := Nat.mod_lt _ (by decide)
  unfold State.ownerField
  split
  · exact hbits v
  · exact hbits _

theorem State.ownerField_written {g : Nat} (h : s.mayWrite m v g) : s.ownerField m v g = bits v (2 * g) 2 :=
  if_pos (by rwa [Bool.or_eq_true, beq_iff_eq])

/-- A write that every field lets. -/
theorem State.ownerWrite_all (hv : v < 2 ^ 32) (h : ∀ g ∈ List.range 16, s.mayWrite m v g) :
    s.ownerWrite m v = (none, s.put Reg.DEV_OWNER_OWNER v) := by
  have hnew : pairs (s.ownerField m v) 16 = v :=
    (pairs_congr fun g hg => State.ownerField_written (h g hg)).trans ((pairs_bits v 16).trans (Nat.mod_eq_of_lt hv))
  refine (if_pos (List.all_eq_true.mpr fun g hg => ?_)).trans (congrArg (fun n => (none, s.put Reg.DEV_OWNER_OWNER n)) hnew)
  rw [Bool.or_eq_true, beq_iff_eq]
  exact h g hg

/-- A write that some field does not let is an ownership error, and writes the others. -/
theorem State.ownerWrite_some (h : ∃ g ∈ List.range 16, ¬ s.mayWrite m v g) :
    s.ownerWrite m v = (some .ownership, (s.put Reg.DEV_OWNER_OWNER (pairs (s.ownerField m v) 16)).ownErr m) := by
  refine if_neg fun hall => ?_
  obtain ⟨g, hg, hno⟩ := h
  have hok := List.all_eq_true.mp hall g hg
  rw [Bool.or_eq_true, beq_iff_eq] at hok
  exact hno hok

theorem State.ownErr_owner : (s.ownErr m).get Reg.DEV_OWNER_OWNER = s.get Reg.DEV_OWNER_OWNER := by
  cases m with
  | host => exact State.get_put_apart (by decide)
  | sideband => exact State.get_put_apart (by decide)
  | firmware => rfl

theorem State.ownerWrite_field (h : ∃ g ∈ List.range 16, ¬ s.mayWrite m v g) {g : Nat} (hg : g ∈ List.range 16) :
    bits ((s.ownerWrite m v).2.get Reg.DEV_OWNER_OWNER) (2 * g) 2 = s.ownerField m v g := by
  have hlt : pairs (s.ownerField m v) 16 < 2 ^ 32 := pairs_lt State.ownerField_lt 16
  rw [State.ownerWrite_some h]
  refine (congrArg (fun n => bits n (2 * g) 2) (State.ownErr_owner.trans (State.get_put_held (by decide)))).trans ?_
  exact (congrArg (fun n => bits n (2 * g) 2) (Nat.mod_eq_of_lt hlt)).trans (bits_pairs State.ownerField_lt (List.mem_range.mp hg))

theorem State.mayWrite_firmware (g : Nat) : s.mayWrite .firmware v g := .inr rfl

theorem State.ownerAcc_writes (hr : s.heelStands = false) (hl : s.flag Reg.PG_LOCK_LOCK 0 = false ∨ m = .firmware) :
    s.ownerAcc m v = s.ownerWrite m v := by
  refine (if_neg (ne_true_of_eq_false hr)).trans (if_neg ?_)
  obtain hl | rfl := hl
  · simp [hl]
  · simp

theorem State.ownerAcc_locked (hr : s.heelStands = false) (hl : s.flag Reg.PG_LOCK_LOCK 0 = true) (hm : m ≠ .firmware) :
    s.ownerAcc m v = (none, s.err 0 0x0D0 ecLOCKED m) :=
  (if_neg (ne_true_of_eq_false hr)).trans (if_pos (by simp [hl, hm]))

/-- A write by a master whose target is present ends as the access does, failed or not. -/
theorem State.command_answers {z : State} {page off : Nat} {k : State → Acc} (h : m = .sideband → (z.sent m).sbOn = true) :
    z.command m page off k = (z.sent m).answer m page off (k (z.sent m)) := by
  cases m with
  | host => rfl
  | sideband => exact if_pos (h rfl)
  | firmware => rfl

end owner

end Sys2Proof.Machine

namespace Sys2Proof
open Machine

/-- Settles O32: the ownership table judges field by field, so the value written is joined of fields each of which is the old or the
new one. -/
theorem theLinkTheLogAndOwnership : Obligations.TheLinkTheLogAndOwnership := by
  unfold Obligations.TheLinkTheLogAndOwnership
  refine ⟨?_, ?_, ?_, ?_, ?_, ?_, ?_, ?_, ?_, ?_⟩
  case refine_1 =>
    intro w v b s hp ht hw h1 h4
    exact ⟨_, rfl, congrArg Host.Outcome.next (pcieLinkUp_trains hp ht (linkFits_of hw h1 h4))⟩
  case refine_2 =>
    intro w v b s h
    exact congrArg Host.Outcome.next (pcieLinkUp_idle h)
  case refine_3 =>
    intro s hp hl
    exact ⟨congrArg Host.Outcome.next (pcieLinkDown_falls hp hl), rfl, rfl, fun q hq => (State.mem_hostLost_flight.mp hq).2,
      fun q hq hw => State.mem_hostLost_flight.mpr ⟨hq, hw⟩, rfl⟩
  case refine_4 =>
    intro s hp hl
    exact congrArg Host.Outcome.next (pcieLinkDown_again hp hl)
  case refine_5 =>
    intro s hp
    exact congrArg Host.Outcome.next (pcieLinkDown_idle hp)
  case refine_6 =>
    rintro m n z _ rfl hg
    exact ⟨_, congrArg Host.Outcome.next (z.direct_of_grants m _ _ _ hg), State.perrAck_shows _ _⟩
  case refine_7 =>
    intro v s hr
    refine congrArg Host.Outcome.next (State.command_of_serves s _ .firmware _ _ _ nofun ?_)
    exact (State.ownerAcc_writes hr (.inr rfl)).trans (State.ownerWrite_all v.isLt fun g _ => State.mayWrite_firmware g)
  case refine_8 =>
    rintro m v z _ rfl hb hr hl hm
    exact congrArg Host.Outcome.next (State.command_of_serves z _ m _ _ _ hb (State.ownerAcc_locked hr hl hm))
  case refine_9 =>
    rintro m v z _ _ rfl hb hr hl rfl hall
    refine congrArg Host.Outcome.next (State.command_of_serves z _ m _ _ _ hb ?_)
    exact (State.ownerAcc_writes hr hl).trans (State.ownerWrite_all v.isLt hall)
  case refine_10 =>
    rintro m v z _ _ rfl hb hr hl rfl ⟨g, hg, hne, hown⟩
    have hsome : ∃ g ∈ List.range 16, ¬ (z.sent m).mayWrite m v.toNat g :=
      ⟨g, hg, not_or.mpr ⟨hne, ne_true_of_eq_false hown⟩⟩
    refine ⟨congrArg Host.Outcome.next ((State.command_answers hb).trans ?_), fun g hg => ?_⟩
    · rw [State.ownerAcc_writes hr hl, State.ownerWrite_some hsome]
    · rw [State.ownerWrite_field hsome hg, State.ownerField]
      simp only [Bool.or_eq_true, beq_iff_eq]

end Sys2Proof

/-! The sideband's requests (R315–R319): one equation per case of each. -/

namespace Sys2Proof.Machine

section sideband
variable {s t : State} {a n k e d : Nat} {ws : List Nat} {g : List Nat} {peek : Bool}

/-! ### WRITE -/

theorem sbWrite_unheard {bad : Option Nat} (ho : s.sbOn = false) : sbWrite a ws bad s = s := if_pos (by simp [ho])

theorem sbWrite_malformed {bad : Option Nat} (ho : s.sbOn = true) (hc : sbCheck a ws.length false = some e) :
    sbWrite a ws bad s = s.sbAnswer e 0 [] := by
  refine (if_neg (by simp [ho])).trans ?_
  rw [hc]

theorem sbWrite_ends (ho : s.sbOn = true) (hc : sbCheck a ws.length false = none) (hw : s.sbCount.sbWords a ws 0 = (e, d, t)) :
    sbWrite a ws none s = (t.sbAnswer e d []).dueReset := by
  refine (if_neg (by simp [ho])).trans ?_
  simp only [hc, Option.getD_none, List.take_length, hw, Nat.lt_irrefl, decide_false, Bool.and_false, Bool.false_eq_true, if_false]

/-- The word at which the target fails ends the request, with those before it done. -/
theorem sbWrite_target (ho : s.sbOn = true) (hc : sbCheck a ws.length false = none) (hk : k < ws.length)
    (hw : s.sbCount.sbWords a (ws.take k) 0 = (0x80, d, t)) : sbWrite a ws (some k) s = (t.sbAnswer 0x8B k []).dueReset := by
  refine (if_neg (by simp [ho])).trans ?_
  simp only [hc, Option.getD_some, hw, hk, decide_true, Bool.and_self, if_true]

/-! ### READ and PEEK -/

theorem State.sbGet_unheard {bad : Option Nat} (ho : s.sbOn = false) : s.sbGet peek a n bad = s := if_pos (by simp [ho])

theorem State.sbGet_ends (ho : s.sbOn = true) (hc : sbCheck a n peek = none) (hf : s.sbCount.sbFetch peek a n [] = (e, g, t)) :
    s.sbGet peek a n none = t.sbAnswer e g.length (g ++ List.replicate (n - g.length) 0) := by
  refine (if_neg (by simp [ho])).trans ?_
  simp only [hc, Option.getD_none, Nat.min_self, hf, Nat.lt_irrefl, decide_false, Bool.and_false, Bool.false_eq_true, if_false]

theorem State.sbGet_target (ho : s.sbOn = true) (hc : sbCheck a n peek = none) (hk : k < n)
    (hf : s.sbCount.sbFetch peek a k [] = (0x80, g, t)) :
    s.sbGet peek a n (some k) = t.sbAnswer 0x8B g.length (g ++ List.replicate (n - g.length) 0) := by
  refine (if_neg (by simp [ho])).trans ?_
  simp only [hc, Option.getD_some, Nat.min_eq_right (Nat.le_of_lt hk), hf, hk, decide_true, Bool.and_self, if_true]

/-! ### STATUS, IDENT and POWER -/

section fixed
variable {want : Nat} {f : State → State}

theorem State.sbFixed_unheard (ho : s.sbOn = false) : s.sbFixed a n want f = s := if_pos (by simp [ho])

theorem State.sbFixed_length (ho : s.sbOn = true) (hn : n ≠ want) : s.sbFixed a n want f = s.sbAnswer 0x83 0 [] :=
  (if_neg (by simp [ho])).trans (if_pos hn)

theorem State.sbFixed_runs (ho : s.sbOn = true) : s.sbFixed 0 want want f = f s.sbCount :=
  (if_neg (by simp [ho])).trans ((if_neg fun h => h rfl).trans (if_neg fun h => h rfl))

end fixed

theorem State.sbCount_stands : s.sbCount.heelStands = s.heelStands := by
  have hhold : s.sbCount.get Reg.SBP_ALERT_STAT_CLOCK_HOLD = s.get Reg.SBP_ALERT_STAT_CLOCK_HOLD := State.get_put_apart (by decide)
  have hlrc : s.sbCount.get Reg.CGU_STAT_LRC = s.get Reg.CGU_STAT_LRC := State.get_put_apart (by decide)
  simp only [State.heelStands, State.flag, hhold, hlrc]

section power
variable {w : Nat}

theorem sbPower_stands (ho : s.sbOn = true) (hs : s.heelStands = true) : sbPower 0 1 w s = s.sbCount.sbAnswer 0x87 0 [] :=
  (State.sbFixed_runs ho).trans (if_pos (State.sbCount_stands.trans hs))

/-- A domain that there is not. -/
theorem sbPower_none (ho : s.sbOn = true) (hs : s.heelStands = false) (hw : s.sbCount.ownedByOther .sideband 10 = false)
    (hd : bits w 0 5 = 0 ∨ 18 < bits w 0 5) : sbPower 0 1 w s = (s.sbCount.domainErr (bits w 0 5) 3 true).sbAnswer 0x89 0 [] :=
  (State.sbFixed_runs ho).trans <| (if_neg (ne_true_of_eq_false (State.sbCount_stands.trans hs))).trans <|
    (if_neg (ne_true_of_eq_false hw)).trans (if_pos (by simpa using hd))

theorem sbPower_raises (ho : s.sbOn = true) (hs : s.heelStands = false) (hw : s.sbCount.ownedByOther .sideband 10 = false)
    (h1 : 1 ≤ bits w 0 5) (h18 : bits w 0 5 ≤ 18) (hup : bit w 8 = true) :
    sbPower 0 1 w s = (s.sbCount.domainAsk .sideband (bits w 0 5) true).sbAnswer 0x80 1 [] := by
  have hdomain : ¬ ((decide (bits w 0 5 = 0) || decide (18 < bits w 0 5)) = true) := by
    simp only [Bool.or_eq_true, decide_eq_true_eq]
    omega
  refine (State.sbFixed_runs ho).trans <| (if_neg (ne_true_of_eq_false (State.sbCount_stands.trans hs))).trans <|
    (if_neg (ne_true_of_eq_false hw)).trans <| (if_neg hdomain).trans <| (if_neg (by simp [hup])).trans ?_
  rw [hup]

end power

/-! ### Requests that are not whole (R319) -/

section crc
variable {l : List Byte}

theorem sbCrcErr_unheard (ho : s.sbOn = false) : sbCrcErr l s = s := if_pos (by simp [ho])

theorem sbJudge_whole {w : Nat} (hw : w = 7 + 4 * sbDataWords (leNat (l.take 1)) (beNat (sub l 5 2))) (hl : w < l.length) :
    sbJudge l = if crc8 (l.take w) != leNat (sub l w 1) then .crcErr
      else if sbOpcodes.contains (leNat (l.take 1)) then .good else .badOpcode := by
  subst hw
  refine if_neg ?_
  simp only [Bool.or_eq_true, decide_eq_true_eq]
  omega

theorem sbCrcErr_wrong (ho : s.sbOn = true) (hj : sbJudge l = .crcErr) :
    sbCrcErr l s = ((s.inc Reg.SBP_CRC_ERRS_COUNT).raise Reg.SBP_IRQ_CRC_ERR).sbAnswer 0x81 0 [] := by
  refine (if_neg (by simp [ho])).trans ?_
  rw [hj]

theorem sbCrcErr_opcode (ho : s.sbOn = true) (hj : sbJudge l = .badOpcode) : sbCrcErr l s = s.sbAnswer 0x82 0 [] := by
  refine (if_neg (by simp [ho])).trans ?_
  rw [hj]

end crc

/-! ### SB_RESPONSE_TIMEOUT -/

theorem sbResponseTimeout_unheard {q : SbReq} (ho : s.sbOn = false) : sbResponseTimeout q k s = s := if_pos (by simp [ho])

/-- The word without an answer ends the request, with those before it done. -/
theorem sbResponseTimeout_read (ho : s.sbOn = true) (hc : sbCheck a n peek = none) (hk : k < n)
    (hf : s.sbCount.sbFetch peek a k [] = (0x80, g, t)) :
    (sbResponseTimeout (.read peek a n) k s).sbResp = ⟨0x87, k, g ++ List.replicate (n - g.length) 0⟩ := by
  refine (congrArg State.sbResp (if_neg (by simp [ho]))).trans ?_
  simp only [hc, Nat.min_eq_left (Nat.le_of_lt hk), hf, Nat.not_le.mpr hk, ne_eq, not_true_eq_false, decide_false, Bool.or_self,
    Bool.false_eq_true, if_false]
  rfl

end sideband

end Sys2Proof.Machine

namespace Sys2Proof
open Machine

/-- Settles O34: a request is heard, well formed or not, and its words are done up to the first that fails. -/
theorem theSidebandAnswers : Obligations.TheSidebandAnswers := by
  unfold Obligations.TheSidebandAnswers
  have hwords (ws : List Word) : (ws.map BitVec.toNat).length = ws.length := List.length_map _
  refine ⟨?_, ?_, ?_, ?_, ?_, ?_, ?_, ?_, ?_, ?_, ?_, ?_, ?_, ?_, ?_⟩
  case refine_1 =>
    intro a w ws n q k x l s ho
    exact ⟨congrArg Host.Outcome.next (sbWrite_unheard ho), congrArg Host.Outcome.next (State.sbGet_unheard ho),
      congrArg Host.Outcome.next (State.sbGet_unheard ho), congrArg Host.Outcome.next (State.sbFixed_unheard ho),
      congrArg Host.Outcome.next (State.sbFixed_unheard ho), congrArg Host.Outcome.next (State.sbFixed_unheard ho),
      congrArg Host.Outcome.next (sbCrcErr_unheard ho), congrArg Host.Outcome.next (if_neg (ne_true_of_eq_false ho)),
      congrArg Host.Outcome.next (sbResponseTimeout_unheard ho)⟩
  case refine_2 =>
    intro a ws x s e ho hc
    rw [← hwords] at hc
    exact congrArg Host.Outcome.next (sbWrite_malformed ho hc)
  case refine_3 =>
    intro a ws s u e d ho hc hw
    rw [← hwords] at hc
    exact congrArg Host.Outcome.next (sbWrite_ends ho hc hw)
  case refine_4 =>
    intro a ws k s u d ho hc hk hw
    rw [← hwords] at hc hk
    exact congrArg Host.Outcome.next (sbWrite_target ho hc hk hw)
  case refine_5 =>
    intro a n s u e g ho hc hf
    exact congrArg Host.Outcome.next (State.sbGet_ends ho hc hf)
  case refine_6 =>
    intro a n s u e g ho hc hf
    exact congrArg Host.Outcome.next (State.sbGet_ends ho hc hf)
  case refine_7 =>
    intro a n k s u g ho hc hk hf
    exact congrArg Host.Outcome.next (State.sbGet_target ho hc hk hf)
  case refine_8 =>
    intro s ho
    exact ⟨congrArg Host.Outcome.next (State.sbFixed_runs ho), congrArg Host.Outcome.next (State.sbFixed_runs ho)⟩
  case refine_9 =>
    intro a w n s ho hn
    exact ⟨congrArg Host.Outcome.next (State.sbFixed_length ho hn), congrArg Host.Outcome.next (State.sbFixed_length ho hn),
      fun h1 => congrArg Host.Outcome.next (State.sbFixed_length ho h1)⟩
  case refine_10 =>
    rintro w s _ ho hs rfl hw h1 h18 hup
    exact congrArg Host.Outcome.next (sbPower_raises ho hs hw h1 h18 hup)
  case refine_11 =>
    rintro w s _ ho hs rfl hw hd
    exact congrArg Host.Outcome.next (sbPower_none ho hs hw hd)
  case refine_12 =>
    intro w s ho hs
    exact congrArg Host.Outcome.next (sbPower_stands ho hs)
  case refine_13 =>
    intro l w s ho hw hl
    refine ⟨fun hcrc => congrArg Host.Outcome.next (sbCrcErr_wrong ho ?_),
      fun hcrc hop => congrArg Host.Outcome.next (sbCrcErr_opcode ho ?_)⟩
    · exact (sbJudge_whole hw hl).trans (if_pos (bne_iff_ne.mpr hcrc))
    · exact (sbJudge_whole hw hl).trans ((if_neg (by simp [hcrc])).trans (if_neg (by simpa using hop)))
  case refine_14 =>
    intro s ho
    exact congrArg Host.Outcome.next (if_pos ho)
  case refine_15 =>
    intro b a n k s u g ho hc hk hf
    exact ⟨_, rfl, sbResponseTimeout_read ho hc hk hf⟩

end Sys2Proof

/-! The host's rings (R308–R314): what a write of CFG leaves, and one equation per case of the frames that HDM moves. -/

namespace Sys2Proof.Machine

section rings
variable {s : State} {m : Master} {tx : Bool}

/-! ### A ring is set up, and stopped (R308, R313) -/

/-- A ring enabled from the start. -/
def State.ringFresh (s : State) (tx kind : Bool) (r size buf : Nat) : State :=
  ((((((s.put (rKIND tx) (b2n (tx && kind)) 0 r).put (rSIZE tx) (clampNat 6 16 (size % 32)) 0 r).put (rBUF tx)
    (clampNat 1 64 (buf % 128)) 0 r).put (rEN tx) 1 0 r).put (rERR tx) 0 0 r).put (rHEAD tx) 0 0 r).put (rTAIL tx) 0 0 r

theorem State.ringCfg_fresh {kind : Bool} {r size buf : Nat} (he : s.flag (rEN tx) 0 r = false) :
    s.ringCfg m tx r true kind size buf = (s.ringFresh tx kind r size buf).portSync 32 := by
  unfold State.ringCfg
  simp only [he, Bool.false_eq_true, if_false, if_true, Bool.not_false, Bool.and_self]
  rfl

/-- A ring that runs keeps its settings: the write is counted, and its EN is written. -/
theorem State.ringCfg_running {en kind : Bool} {r size buf : Nat} (he : s.flag (rEN tx) 0 r = true) :
    s.ringCfg m tx r en kind size buf =
      (if en = true then ((s.err pgHDM (ringOff tx r + 8) ecSTATE m).put (rEN tx) 1 0 r).put (rERR tx) 0 0 r
        else (s.err pgHDM (ringOff tx r + 8) ecSTATE m).put (rEN tx) 0 0 r).portSync 32 := by
  unfold State.ringCfg
  cases en
  · simp only [he, Bool.false_eq_true, if_false, if_true, Bool.false_and]
    rfl
  · simp only [he, Bool.false_eq_true, if_false, if_true, Bool.not_true, Bool.and_false]
    rfl

theorem State.ringFresh_starts {kind : Bool} {size buf : Nat} (r : Fin 8) :
    (s.ringFresh tx kind r size buf).get (rEN tx) 0 r = 1 ∧ (s.ringFresh tx kind r size buf).get (rERR tx) 0 r = 0 ∧
    (s.ringFresh tx kind r size buf).get (rHEAD tx) 0 r = 0 ∧ (s.ringFresh tx kind r size buf).get (rTAIL tx) 0 r = 0 := by
  unfold State.ringFresh
  cases tx
  all_goals
    simp only [rEN, rERR, rHEAD, rTAIL, Bool.false_eq_true, if_false, if_true]
    refine ⟨?_, ?_, ?_, ?_⟩
  all_goals
    simp (disch := decide) only [State.get_put_element, State.get_put_elementHeld]
    rfl

theorem State.ringFresh_settings {kind : Bool} {size buf : Nat} (r : Fin 8) :
    (s.ringFresh tx kind r size buf).get (rSIZE tx) 0 r = clampNat 6 16 (size % 32) % 32 ∧
    (s.ringFresh tx kind r size buf).get (rBUF tx) 0 r = clampNat 1 64 (buf % 128) % 128 ∧
    (s.ringFresh tx kind r size buf).get (rKIND tx) 0 r = b2n (tx && kind) % 2 := by
  unfold State.ringFresh
  cases tx
  all_goals
    simp only [rEN, rERR, rHEAD, rTAIL, rKIND, rSIZE, rBUF, Bool.false_eq_true, if_false, if_true]
    refine ⟨?_, ?_, ?_⟩
  all_goals
    simp (disch := decide) only [State.get_put_element, State.get_put_elementHeld]
    rfl

theorem clampNat_mod {lo hi v w : Nat} (hl : lo < w) (hh : hi < w) (hv : v < w) : clampNat lo hi (v % w) % w = clampNat lo hi v := by
  rw [Nat.mod_eq_of_lt hv]
  refine Nat.mod_eq_of_lt ?_
  unfold clampNat
  omega

/-- What a ring leaves in progress when it stops, with its error: a transmit frame is written back, a receive frame is dropped. -/
def State.ringBroken (s : State) (tx : Bool) (r n : Nat) : State :=
  if tx then s.txWriteBack r (min n (s.posted true r)) 5
  else match s.clr.copies.find? (fun c => c.port == 32 && c.st == .sending && c.svc % 8 == r) with
    | some c => ((s.rxNoDesc r).rmCopy c.id).reap
    | none => s

theorem dmaError_stops {r n : Nat} (he : s.flag (rEN tx) 0 r = true) :
    dmaError tx r n s =
      ((((s.ringBroken tx r n).put (rERR tx) 1 0 r).put (rEN tx) 0 0 r).raise Reg.HDM_IRQ_DMA_ERR).portSync 32 := by
  refine (if_neg (by simp [he])).trans ?_
  unfold State.ringBroken
  rfl

theorem State.ringStopped_shows (r : Fin 8) : ((s.put (rERR tx) 1 0 r).put (rEN tx) 0 0 r).get (rEN tx) 0 r = 0 ∧
    ((s.put (rERR tx) 1 0 r).put (rEN tx) 0 0 r).get (rERR tx) 0 r = 1 := by
  cases tx
  all_goals
    simp only [rEN, rERR, Bool.false_eq_true, if_false, if_true]
    refine ⟨?_, ?_⟩
  all_goals
    simp (disch := decide) only [State.get_put_element, State.get_put_elementHeld]
    rfl

/-! ### TAIL (R308) -/

section tail
variable {r t : Nat}

theorem State.ringTail_moves (ht : t < s.ringSize tx r)
    (hd : ((t : Int) - s.get (rTAIL tx) 0 r) % s.ringSize tx r ≤
      ((s.get (rHEAD tx) 0 r : Int) - 1 - s.get (rTAIL tx) 0 r) % s.ringSize tx r) :
    s.ringTail m tx r t = s.put (rTAIL tx) t 0 r := by
  refine if_pos ?_
  rw [Bool.and_eq_true, decide_eq_true_eq, decide_eq_true_eq]
  exact ⟨ht, hd⟩

theorem State.ringTail_invalid (h : s.ringSize tx r ≤ t ∨
    ((s.get (rHEAD tx) 0 r : Int) - 1 - s.get (rTAIL tx) 0 r) % s.ringSize tx r <
      ((t : Int) - s.get (rTAIL tx) 0 r) % s.ringSize tx r) :
    s.ringTail m tx r t = s.err pgHDM (ringOff tx r + 0xC) ecINVALID m := by
  refine if_neg ?_
  rw [Bool.and_eq_true, decide_eq_true_eq, decide_eq_true_eq, not_and_or, Nat.not_lt, Int.not_le]
  exact h

end tail

/-! ### Receive (R309, R313, R281) -/

section receive
variable {b : List Nat} {z : State} {c : Copy} {f : Frame}

/-- The copy that HP sends of a frame. -/
def State.delivers (s : State) (c : Copy) (f : Frame) : Prop :=
  s.clr.copies.find? (fun c => c.port == 32 && c.st == .sending) = some c ∧ s.frame c.frame = some f

/-- HDM_RX_DELIVER after the slices have been brought to the present, of a copy that HP sends. -/
theorem hdmRxDeliver_copy (h : z.fabNow.delivers c f) :
    hdmRxDeliver b z =
      if !f.whole || z.fabNow.readsWait c.id != 0 then z.fabNow
      else
        let r := c.svc % 8
        let n := ceilDiv (z.fabNow.hpBytes c f).length (z.fabNow.ringBuf false r)
        if !z.fabNow.flag (rEN false) 0 r || decide (z.fabNow.posted false r < n) then ((z.fabNow.rxNoDesc r).rmCopy c.id).reap
        else if !z.fabNow.flag Reg.WLT_STAT_BME then z.fabNow
        else
          let u := z.fabNow.rxWrite r c f b
          let v := if c.tagFail && !f.poisoned then (u.tcCount f.port tcReleasedFail).raise Reg.TCA_IRQ_RELEASED_FAIL else u
          (((v.inc (rFRAMES false) 1 0 r).wroteBack false r n).rmCopy c.id).reap := by
  obtain ⟨hc, hf⟩ := h
  unfold hdmRxDeliver
  simp only [hc, hf]

theorem hdmRxDeliver_idle (hc : z.fabNow.clr.copies.find? (fun c => c.port == 32 && c.st == .sending) = none) :
    hdmRxDeliver b z = z.fabNow := by
  unfold hdmRxDeliver
  simp only [hc]

theorem hdmRxDeliver_waits (h : z.fabNow.delivers c f) (hw : f.whole = false ∨ z.fabNow.readsWait c.id ≠ 0) :
    hdmRxDeliver b z = z.fabNow := by
  refine (hdmRxDeliver_copy h).trans (if_pos ?_)
  obtain hw | hw := hw <;> simp [hw]

theorem hdmRxDeliver_drops (h : z.fabNow.delivers c f) (hf : f.whole = true) (hw : z.fabNow.readsWait c.id = 0)
    (hn : z.fabNow.flag (rEN false) 0 (c.svc % 8) = false ∨ z.fabNow.posted false (c.svc % 8) <
      ceilDiv (z.fabNow.hpBytes c f).length (z.fabNow.ringBuf false (c.svc % 8))) :
    hdmRxDeliver b z = ((z.fabNow.rxNoDesc (c.svc % 8)).rmCopy c.id).reap := by
  refine (hdmRxDeliver_copy h).trans ((if_neg (by simp [hf, hw])).trans (if_pos ?_))
  obtain hn | hn := hn <;> simp [hn]

theorem hdmRxDeliver_writes {n : Nat} {v : State} (h : z.fabNow.delivers c f) (hf : f.whole = true)
    (hw : z.fabNow.readsWait c.id = 0)
    (hn : n = ceilDiv (z.fabNow.hpBytes c f).length (z.fabNow.ringBuf false (c.svc % 8)))
    (he : z.fabNow.flag (rEN false) 0 (c.svc % 8) = true) (hp : n ≤ z.fabNow.posted false (c.svc % 8))
    (hb : z.fabNow.flag Reg.WLT_STAT_BME = true)
    (hv : v = if c.tagFail = true ∧ f.poisoned = false then
      ((z.fabNow.rxWrite (c.svc % 8) c f b).tcCount f.port tcReleasedFail).raise Reg.TCA_IRQ_RELEASED_FAIL
      else z.fabNow.rxWrite (c.svc % 8) c f b) :
    hdmRxDeliver b z = (((v.inc (rFRAMES false) 1 0 (c.svc % 8)).wroteBack false (c.svc % 8) n).rmCopy c.id).reap := by
  subst hn hv
  have hroom : ¬ z.fabNow.posted false (c.svc % 8) < ceilDiv (z.fabNow.hpBytes c f).length (z.fabNow.ringBuf false (c.svc % 8)) :=
    Nat.not_lt.mpr hp
  rw [hdmRxDeliver_copy h, if_neg (by simp [hf, hw])]
  simp only [he, hb, hroom, decide_false, Bool.not_true, Bool.or_self, Bool.false_eq_true, if_false, Bool.and_eq_true,
    Bool.not_eq_true']

end receive

/-! ### Transmit (R311, R312) -/

section transmit
variable {x : TxDesc} {r : List TxDesc} {ds : List TxDesc} {k : Nat} {d : List Byte}

theorem hdmTxFrame_idle (h : s.flag Reg.WLT_STAT_BME = false ∨ s.txTurn = none ∨ ds = []) : hdmTxFrame ds d s = s := by
  refine ite_eq_left_iff.mpr fun hb => ?_
  obtain h | h | rfl := h
  · simp [h] at hb
  · rw [h]
  · cases s.txTurn <;> rfl

/-- The transmit rings' turn after ring k. -/
def State.turnAfter (s : State) (k : Nat) : State := s.hdmSet (fun h => { h with turn := (k + 1) % 8 })

theorem hdmTxFrame_bad (hb : s.flag Reg.WLT_STAT_BME = true) (ht : s.txTurn = some k) (hp : (x :: r).length ≤ s.posted true k)
    (hd : (s.turnAfter k).descsOk k (x :: r) = false) :
    hdmTxFrame (x :: r) d s =
      (((s.turnAfter k).inc (rDROPS true) 1 0 k).raise Reg.HDM_IRQ_TX_BAD).txWriteBack k (x :: r).length 3 := by
  refine (if_neg (by simp [hb])).trans ?_
  rw [ht]
  refine (if_neg (Nat.not_lt.mpr hp)).trans (if_pos ?_)
  rw [Bool.not_eq_true']
  exact hd

theorem hdmTxFrame_sends {n : Nat} (hb : s.flag Reg.WLT_STAT_BME = true) (ht : s.txTurn = some k)
    (hp : (x :: r).length ≤ s.posted true k) (hd : (s.turnAfter k).descsOk k (x :: r) = true)
    (hn : n = (x :: r).foldl (fun a y => a + y.len) 0) (hlen : n ≤ 9212) (hs : (s.turnAfter k).inService 32 = true)
    (hx : x.directed = false ∨ (s.turnAfter k).hostPolicy x = true) :
    hdmTxFrame (x :: r) d s = ((((s.turnAfter k).txHand x (padTo (max 60 n) (padTo n d))).inc (rFRAMES true) 1 0 k).txWriteBack k
      (x :: r).length 0) := by
  subst hn
  refine (if_neg (by simp [hb])).trans ?_
  rw [ht]
  refine (if_neg (Nat.not_lt.mpr hp)).trans ?_
  refine (if_neg (ne_true_of_eq_false ((Bool.not_eq_false' ..).mpr hd))).trans ((if_neg (Nat.not_lt.mpr hlen)).trans ?_)
  refine (if_neg (ne_true_of_eq_false ((Bool.not_eq_false' ..).mpr hs))).trans (if_neg ?_)
  show ¬ (x.directed && !(s.turnAfter k).hostPolicy x) = true
  obtain hx | hx := hx <;> simp [hx]

end transmit

end rings

end Sys2Proof.Machine

namespace Sys2Proof
open Machine

/-- Settles O33: a write of CFG is `State.ringFresh` or only counted, and each frame that HDM moves is a case of its commands. -/
theorem ringsMoveFrames : Obligations.RingsMoveFrames := by
  unfold Obligations.RingsMoveFrames
  refine ⟨?_, ?_, ?_, ?_, ?_, ?_, ?_, ?_, ?_, ?_, ?_, ?_, ?_, ?_, ?_⟩
  case refine_1 =>
    rintro m tx kd r sz b z _ rfl hg he
    obtain ⟨hen, herr, hhead, htail⟩ := State.ringFresh_starts (s := z.sent m) (tx := tx) (kind := kd) (size := sz.val) (buf := b.val) r
    obtain ⟨hsize, hbuf, hkind⟩ := State.ringFresh_settings (s := z.sent m) (tx := tx) (kind := kd) (size := sz.val) (buf := b.val) r
    refine ⟨(z.sent m).ringFresh tx kd r sz.val b.val,
      congrArg Host.Outcome.next ((z.direct_of_grants m _ _ _ hg).trans (State.ringCfg_fresh he)), hen, herr, hhead, htail,
      hsize.trans (clampNat_mod (by decide) (by decide) sz.isLt), hbuf.trans (clampNat_mod (by decide) (by decide) b.isLt),
      hkind.trans (b2n_mod_two _), rfl, rfl⟩
  case refine_2 =>
    rintro m tx en kd r sz b z _ _ rfl hg he rfl
    exact congrArg Host.Outcome.next ((z.direct_of_grants m _ _ _ hg).trans (State.ringCfg_running he))
  case refine_3 =>
    rintro m tx r t z _ rfl hg ht hd
    exact congrArg Host.Outcome.next ((z.direct_of_grants m _ _ _ hg).trans (State.ringTail_moves ht hd))
  case refine_4 =>
    rintro m tx r t z _ rfl hg h
    exact congrArg Host.Outcome.next ((z.direct_of_grants m _ _ _ hg).trans (State.ringTail_invalid h))
  case refine_5 =>
    rintro b z _ c f rfl hc hf hwhole hw hn
    exact congrArg Host.Outcome.next (hdmRxDeliver_drops ⟨hc, hf⟩ hwhole hw hn)
  case refine_6 =>
    rintro b z _ _ v c f n rfl hc hf hwhole hw hn he hp hb rfl hv
    exact congrArg Host.Outcome.next (hdmRxDeliver_writes ⟨hc, hf⟩ hwhole hw hn he hp hb hv)
  case refine_7 =>
    rintro b z _ rfl hc
    exact congrArg Host.Outcome.next (hdmRxDeliver_idle hc)
  case refine_8 =>
    rintro b z _ c f rfl hc hf hw
    exact congrArg Host.Outcome.next (hdmRxDeliver_waits ⟨hc, hf⟩ hw)
  case refine_9 =>
    intro ds d s h
    exact congrArg Host.Outcome.next (hdmTxFrame_idle h)
  case refine_10 =>
    rintro x r k d s _ hb ht hp rfl hd
    exact congrArg Host.Outcome.next (hdmTxFrame_bad hb ht hp hd)
  case refine_11 =>
    rintro x r k n d s _ _ hb ht hp rfl hd hn hlen hs hx rfl
    exact congrArg Host.Outcome.next (hdmTxFrame_sends hb ht hp hd hn hlen hs hx)
  case refine_12 =>
    intro tx r n s he
    exact ⟨_, congrArg Host.Outcome.next (dmaError_stops he), State.ringStopped_shows r⟩
  case refine_13 =>
    intro tx r n s he
    exact congrArg Host.Outcome.next (if_pos (by simp [he]))
  case refine_14 =>
    intro tx r s hw
    exact congrArg Host.Outcome.next (if_neg hw)
  case refine_15 =>
    intro tx r s hw
    exact congrArg Host.Outcome.next (if_pos hw)

end Sys2Proof

/-! The switched domains and the supplies (R353–R356, R362): one equation per case of each event, and what a dip of a supply shows. -/

namespace Sys2Proof.Machine

/-! ### Bits of a mask -/

/-- To a number without bit n, 2 ^ n adds that bit and no other. -/
theorem bit_add_two_pow {v n k : Nat} (h : bit v n = false) : bit (v + 2 ^ n) k = if k = n then true else bit v k := by
  have heven : v / 2 ^ n % 2 = 0 := by
    simp only [bit, beq_eq_false_iff_ne] at h
    omega
  have hsum : (v + 2 ^ n) / 2 ^ n = v / 2 ^ n + 1 := Nat.add_div_right _ (Nat.two_pow_pos n)
  obtain hlt | rfl | hgt := Nat.lt_trichotomy k n
  · obtain ⟨d, rfl⟩ := Nat.exists_eq_add_of_lt hlt
    have hpow : 2 ^ (k + d + 1) = 2 ^ k * (2 * 2 ^ d) := by ring
    rw [if_neg (by omega), bit, hpow, Nat.add_mul_div_left _ _ (Nat.two_pow_pos k), Nat.add_mul_mod_self_left]
    rfl
  · rw [if_pos rfl, bit, hsum, Nat.add_mod, heven]
    rfl
  · obtain ⟨d, rfl⟩ := Nat.exists_eq_add_of_lt hgt
    have hhalf : (v / 2 ^ n + 1) / 2 = v / 2 ^ n / 2 := by omega
    have hpow : 2 ^ (n + d + 1) = 2 ^ n * (2 * 2 ^ d) := by ring
    rw [if_neg (by omega), bit, bit, hpow, ← Nat.div_div_eq_div_mul, ← Nat.div_div_eq_div_mul, hsum, hhalf,
      ← Nat.div_div_eq_div_mul, ← Nat.div_div_eq_div_mul]

/-- A mask with bit n set or cleared. -/
theorem bit_setBit (v n k : Nat) (b : Bool) : bit (setBit v n b) k = if k = n then b else bit v k := by
  unfold setBit
  split
  case isTrue h =>
    subst h
    split
    · subst k
      rfl
    · rfl
  case isFalse h =>
    cases b with
    | true => exact bit_add_two_pow (by simpa using h)
    | false =>
      have hset : bit v n = true := by simpa using h
      have hle : 2 ^ n ≤ v := by
        by_contra hlt
        rw [bit, Nat.div_eq_of_lt (Nat.not_le.mp hlt)] at hset
        exact absurd hset (by decide)
      obtain ⟨u, rfl⟩ := Nat.exists_eq_add_of_le' hle
      have hclear : bit u n = false := by
        simp only [bit, Nat.add_div_right _ (Nat.two_pow_pos n), beq_iff_eq] at hset
        simp only [bit, beq_eq_false_iff_ne]
        omega
      rw [if_neg Bool.false_ne_true, Nat.add_sub_cancel, bit_add_two_pow hclear]
      split
      · subst k
        exact hclear
      · rfl

section domains
variable {s : State} {m : Master} {d : Nat}

/-! ### Requests (R353, R354) -/

theorem State.domainAsk_idle {on : Bool} (h : d = 0 ∨ bit (s.domReq m) d = on) : s.domainAsk m d on = s := by
  refine if_pos ?_
  obtain h | h := h <;> simp [h]

theorem State.domainAsk_takes (h0 : d ≠ 0) (h18 : d ≤ 18) (hb : bit (s.domReq m) d = false) (hm : m ≠ .sideband) :
    s.domainAsk m d true =
      ((s.put Reg.PWR_DOM_REQ_REQ (setBit (s.domReq m) d true / 2) 0 0 m.code).abortDescent wkHOST 0).domSync := by
  unfold State.domainAsk
  rw [if_neg (by simp [h0, hb]; omega), if_neg (by simp)]
  simp only [Bool.not_true, Bool.false_eq_true, if_false, hm, decide_false, Bool.false_and]

theorem State.domainAsk_gives (h0 : d ≠ 0) (h18 : d ≤ 18) (hb : bit (s.domReq m) d = true) (hm : m = .host → d ≠ 2) :
    s.domainAsk m d false = (s.put Reg.PWR_DOM_REQ_REQ (setBit (s.domReq m) d false / 2) 0 0 m.code).domSync :=
  (if_neg (by simp [h0, hb]; omega)).trans (if_neg (by simpa using hm))

/-- The host may not take its request for PD2 back. -/
theorem State.domainAsk_refused (hb : bit (s.domReq .host) 2 = true) :
    s.domainAsk .host 2 false = (s.domainErr 2 2 false).err pgPWR 0x08C ecSTATE .host :=
  (if_neg (by simp [hb])).trans (if_pos rfl)

/-! ### What a request leads to (R353, R356, R333) -/

theorem domainPowerGood_powers (hr : bit s.pwr.rising d = true) (h8 : d ≠ 8) : domainPowerGood d s =
    ((s.pwrSet (fun w => { w with
      powered := setBit w.powered d true,
      rising := setBit w.rising d false,
      cut := setBit w.cut d false,
      bist := w.bist.filter (fun b => pageDomain b != d) })).put Reg.FLT_BIST_FAIL_DOMAIN
        (setBit (2 * s.get Reg.FLT_BIST_FAIL_DOMAIN) d false / 2)).portSyncAll.domSync := by
  refine (if_neg (by simp [hr])).trans ?_
  exact congrArg (fun u : State => u.portSyncAll.domSync) (if_neg h8)

theorem pd8Drained_ends (hd : s.pwr.drain = true) (hf : ∀ c ∈ s.sole.taken, c.1 < 65536) : pd8Drained s = (s.domainDown 8).domSync := by
  refine if_neg ?_
  simpa [hd] using hf

theorem pd8Drained_waits (hf : s.pwr.drain = false ∨ ∃ c ∈ s.sole.taken, 65536 ≤ c.1) : pd8Drained s = s := by
  refine if_pos ?_
  obtain hd | ⟨c, hc, hle⟩ := hf
  · simp [hd]
  · rw [Bool.or_eq_true, List.any_eq_true]
    exact .inr ⟨c, hc, decide_eq_true hle⟩

/-- A self-test in which no block failed, with the pages of PD10 as they were. -/
theorem selfTestDone_passes {r : Nat} (hp : bit s.pwr.powered d = true) (ht : bit s.pwr.tested d = false) (h0 : d ≠ 0) (h18 : d ≤ 18) :
    selfTestDone d r [] true s =
      ((s.inc Reg.FLT_BIST_REPAIRS_COUNT r).pwrSet (fun w =>
        { w with tested := setBit w.tested d true, bist := w.bist ++ [] })).domainServes d := by
  have hdue : ¬ ((!bit s.pwr.powered d || bit s.pwr.tested d || decide (d = 0) || decide (18 < d)) = true) := by
    simp [hp, ht, h0]
    omega
  refine (if_neg hdue).trans ((if_neg ?_).trans rfl)
  simp

end domains

/-! ### A dip of a supply (R362) -/

section supply
variable {s : State}

/-- Supply n as it falls below its warning level, before the report of the dip. -/
def State.supplyFallen (s : State) (n : Nat) : State :=
  ((((s.pwrSet (fun w => { w with low := setBit w.low n true, dipAt := AMap.ins w.dipAt n s.now })).raise
    Reg.PWR_IRQ_SUPPLY_WARN).devCause Reg.DEV_CAUTIOUS_SUPPLY true).fabSet (fun f => { f with warnAt := some s.now })).updSet
    (fun u => { u with op := u.op.map (fun o => (o.1, o.2.1, o.2.2.1, o.1 == 3 || o.2.2.2)) })

theorem supplyWarning_falls {n : Nat} (hn : n ≤ 1) (hl : bit s.pwr.low n = false) (hs : s.mode ≠ mdSLEEP) (ho : s.mode ≠ mdOFF)
    (hd : s.pwr.down = false) : supplyWarning n s = (s.supplyFallen n).fault pgPWR 0x0401 := by
  refine if_neg ?_
  simp [hl, hs, ho, hd]
  omega

theorem supplyWarning_idle {n : Nat}
    (h : bit s.pwr.low n = true ∨ s.mode = mdSLEEP ∨ s.mode = mdOFF ∨ s.pwr.down = true) : supplyWarning n s = s := by
  refine if_pos ?_
  obtain h | h | h | h := h <;> simp [h]

theorem State.supplyFallen_shows (s : State) (n : Nat) :
    bit (s.supplyFallen n).pwr.low n = true ∧ AMap.find (s.supplyFallen n).pwr.dipAt n = some s.now ∧
    (s.supplyFallen n).get Reg.PWR_IRQ_SUPPLY_WARN = 1 ∧ (s.supplyFallen n).get Reg.DEV_CAUTIOUS_SUPPLY = 1 ∧
    (s.supplyFallen n).fab.warnAt = some s.now ∧ (s.supplyFallen n).clr = s.clr ∧ (s.supplyFallen n).lst = s.lst := by
  have hwarn (u : State) : ((u.raise Reg.PWR_IRQ_SUPPLY_WARN).devCause Reg.DEV_CAUTIOUS_SUPPLY true).get Reg.PWR_IRQ_SUPPLY_WARN = 1 :=
    (State.devCause_get (by decide) (by decide) (by decide)).trans (State.get_raise_bit (.inl rfl) rfl)
  have hcautious (u : State) : (u.devCause Reg.DEV_CAUTIOUS_SUPPLY true).get Reg.DEV_CAUTIOUS_SUPPLY = 1 :=
    State.devCause_shows rfl rfl
  refine ⟨?_, ?_, hwarn _, hcautious _, rfl, ?_, ?_⟩
  all_goals
    unfold State.supplyFallen
    obtain ⟨r, hr⟩ := ((s.pwrSet (fun w => { w with low := setBit w.low n true, dipAt := AMap.ins w.dipAt n s.now })).raise
      Reg.PWR_IRQ_SUPPLY_WARN).devCause_frame Reg.DEV_CAUTIOUS_SUPPLY true
    rw [hr]
  · exact (bit_setBit ..).trans (if_pos rfl)
  · exact AMap.find_ins_same _ _ _
  · rfl
  · rfl

/-- Supply n above its warning level again, with the minimum sampled and the length of the dip. -/
def State.supplyBack (s : State) (n mv : Nat) : State :=
  (((((s.pwrSet (fun w => { w with low := setBit w.low n false, dipAt := AMap.del w.dipAt n })).fabSet
    (fun f => { f with warnAt := some s.now })).put Reg.PWR_DIP_MIN_MIN_MV mv).put Reg.PWR_DIP_MIN_SUPPLY n).put Reg.PWR_DIP_DUR_US
    (min 4294967295 ((s.now - AMap.get (fun _ => s.now) s.pwr.dipAt n) / 1000))).inc Reg.PWR_DIPS_COUNT

theorem supplyRecover_ends {n mv : Nat} (hl : bit s.pwr.low n = true) : supplyRecover n mv s = s.supplyBack n mv :=
  if_neg (by simp [hl])

theorem State.supplyBack_component (s : State) (n mv : Nat) : bit (s.supplyBack n mv).pwr.low n = false ∧
    AMap.find (s.supplyBack n mv).pwr.dipAt n = none ∧ (s.supplyBack n mv).clr = s.clr :=
  ⟨(bit_setBit s.pwr.low n n false).trans (if_pos rfl), AMap.find_del_same s.pwr.dipAt n, rfl⟩

theorem State.supplyBack_shows (s : State) (n mv : Nat) :
    (s.supplyBack n mv).get Reg.PWR_DIP_MIN_MIN_MV = mv % 8192 ∧ (s.supplyBack n mv).get Reg.PWR_DIP_MIN_SUPPLY = n % 2 ∧
    (s.supplyBack n mv).get Reg.PWR_DIPS_COUNT = min (2 ^ Reg.PWR_DIPS_COUNT.width - 1) (s.get Reg.PWR_DIPS_COUNT + 1) ∧
    (s.supplyBack n mv).get Reg.PWR_DIP_DUR_US = min 4294967295 ((s.now - AMap.get (fun _ => s.now) s.pwr.dipAt n) / 1000) := by
  refine ⟨?_, ?_, ?_, ?_⟩
  all_goals unfold State.supplyBack
  · simp (disch := decide) only [State.inc, State.get_put_apart, State.get_put_held]
    rfl
  · simp (disch := decide) only [State.inc, State.get_put_apart, State.get_put_held]
    rfl
  · rw [State.get_inc_held (by decide)]
    simp (disch := decide) only [State.get_put_apart]
    rfl
  · simp (disch := decide) only [State.inc, State.get_put_apart, State.get_put_held]
    exact Nat.mod_eq_of_lt (Nat.lt_of_le_of_lt (Nat.min_le_left _ _) (by decide))

end supply

end Sys2Proof.Machine

namespace Sys2Proof
open Machine

/-- Settles O41: each event is a case of the domain or the supply it names; a dip begins as `State.supplyFallen` and ends as
`State.supplyBack`. -/
theorem domainsAndSuppliesFollow : Obligations.DomainsAndSuppliesFollow := by
  unfold Obligations.DomainsAndSuppliesFollow
  refine ⟨?_, ?_, ?_, ?_, ?_, ?_, ?_, ?_, ?_, ?_, ?_, ?_, ?_, ?_, ?_⟩
  case refine_1 =>
    rintro m d z _ rfl hg h0 hb hm
    exact congrArg Host.Outcome.next ((z.direct_of_grants m _ _ _ hg).trans
      (State.domainAsk_takes h0 (Nat.le_of_lt_succ d.isLt) hb hm))
  case refine_2 =>
    rintro m d on z _ rfl hg h
    exact congrArg Host.Outcome.next ((z.direct_of_grants m _ _ _ hg).trans (State.domainAsk_idle h))
  case refine_3 =>
    rintro m d z _ rfl hs ho h0 hb hm
    exact congrArg Host.Outcome.next ((State.command_gate0 hs ho).trans
      (State.domainAsk_gives h0 (Nat.le_of_lt_succ d.isLt) hb hm))
  case refine_4 =>
    rintro z _ rfl hg hb
    exact congrArg Host.Outcome.next ((z.direct_of_grants .host _ _ _ hg).trans (State.domainAsk_refused hb))
  case refine_5 =>
    intro d s hr h8
    exact congrArg Host.Outcome.next (domainPowerGood_powers hr h8)
  case refine_6 =>
    intro d s hr
    exact congrArg Host.Outcome.next (if_neg (by simp [hr]))
  case refine_7 =>
    intro d s hr
    exact ⟨congrArg Host.Outcome.next (if_pos (by simp [hr])), congrArg Host.Outcome.next (if_pos (by simp [hr]))⟩
  case refine_8 =>
    intro s hd hf
    exact congrArg Host.Outcome.next (pd8Drained_ends hd hf)
  case refine_9 =>
    intro s _ hf
    exact congrArg Host.Outcome.next (pd8Drained_waits (.inr hf))
  case refine_10 =>
    intro s hd
    exact congrArg Host.Outcome.next (if_neg (by simp [hd]))
  case refine_11 =>
    intro s hd
    exact ⟨congrArg Host.Outcome.next (pd8Drained_waits (.inl hd)), congrArg Host.Outcome.next (if_pos (by simp [hd]))⟩
  case refine_12 =>
    intro d r s hp ht h0
    exact congrArg Host.Outcome.next (selfTestDone_passes hp ht h0 (Nat.le_of_lt_succ d.isLt))
  case refine_13 =>
    intro n s hr hl hs ho hd
    exact ⟨s.supplyFallen n.val, congrArg Host.Outcome.next ((State.heel_runs hr).trans
      (supplyWarning_falls (Nat.le_of_lt_succ n.isLt) hl hs ho hd)), s.supplyFallen_shows n.val⟩
  case refine_14 =>
    intro n s h
    exact congrArg Host.Outcome.next (State.heel_idle fun hr =>
      supplyWarning_idle (h.resolve_left (ne_true_of_eq_false hr)))
  case refine_15 =>
    intro n v s hr hl
    obtain ⟨hlow, hdip, hclr⟩ := s.supplyBack_component n.val v.val
    obtain ⟨hmin, hsupply, hcount, hdur⟩ := s.supplyBack_shows n.val v.val
    exact ⟨_, congrArg Host.Outcome.next ((State.heel_runs hr).trans (supplyRecover_ends hl)), hlow, hdip, hmin,
      hsupply.trans (Nat.mod_eq_of_lt n.isLt), hcount, hdur, hclr⟩

end Sys2Proof

/-! What a switched domain loses as it is switched off (R353, R356, R359): register cells outside class H, and components other than the
power unit's.  One lemma per function, each citing those of the functions that it calls. -/

namespace Sys2Proof.Machine

/-- A property that survives any change but of the power unit's component and of the cells of class H, and a fault report. -/
structure PowerKeeps (P : State → Prop) : Prop where
  upd : ∀ {s t : State}, P s → t.regs.h = s.regs.h → t.pwr = s.pwr → P t
  fault : ∀ {s : State} {page code : Nat}, P s → P (s.fault page code)

theorem State.put_cellsH {s : State} {f : Fld} {v i j m : Nat} (hf : f.keep ≠ .H) : (s.put f v i j m).regs.h = s.regs.h := by
  unfold State.put RegFile.upd
  cases hk : f.keep
  case H => exact absurd hk hf
  all_goals rfl

/-- The power unit is so, and so is where a descent would end. -/
def PowerIs (w : Pwr) (b : Bool) (t : State) : Prop := t.pwr = w ∧ t.toStandby = b

/-- The cells that say where a descent ends are of class H, and no report is about them. -/
theorem powerIs_keeps (w : Pwr) (b : Bool) : PowerKeeps (PowerIs w b) where
  upd {s t} h hh hw := by
    have hget {g : Fld} (hg : g.keep = .H) : t.get g = s.get g := by simp only [State.get, hg, RegFile.sel, hh]
    obtain ⟨hp, hs⟩ := h
    refine ⟨hw.trans hp, Eq.trans ?_ hs⟩
    simp only [State.toStandby, State.flag, hget (g := Reg.PWR_CFG_DESCEND) rfl, hget (g := Reg.CGU_STAT_LRC) rfl]
  fault {s page code} h := by
    obtain ⟨hp, hs⟩ := h
    obtain ⟨r, c, hframe⟩ := (s.fault_reports page code).frame
    refine ⟨Eq.trans ?_ hp, Eq.trans ?_ hs⟩
    · rw [hframe]
    · have hcfg : (s.fault page code).get Reg.PWR_CFG_DESCEND = s.get Reg.PWR_CFG_DESCEND := State.get_fault (by decide)
      have hlrc : (s.fault page code).get Reg.CGU_STAT_LRC = s.get Reg.CGU_STAT_LRC := State.get_fault (by decide)
      simp only [State.toStandby, State.flag, hcfg, hlrc]

section powerKeeps
variable {P : State → Prop} {s : State} (hP : PowerKeeps P)
include hP

/-! ### Writes, and the fabric's slices -/

theorem PowerKeeps.put {f : Fld} {v i j m : Nat} (h : P s) (hf : f.keep ≠ .H) : P (s.put f v i j m) :=
  hP.upd h (State.put_cellsH hf) rfl

theorem PowerKeeps.sliceServed (h : P s) (n : Nat) : P (s.sliceServed n) :=
  keeps_ite h (hP.upd (hP.put h (by decide)) rfl rfl)

theorem PowerKeeps.fabNow (h : P s) : P s.fabNow := keeps_foldl (fun _ n hu => hP.sliceServed hu n) h

theorem PowerKeeps.xferDrop (h : P s) (p : XferOf → Bool) : P (s.xferDrop p) := keeps_ite h (hP.upd (hP.fabNow h) rfl rfl)

theorem PowerKeeps.dealOne (h : P s) (c : XferClass) (x : Xfer) : P (s.dealOne c x) := by
  unfold State.dealOne
  split <;> exact hP.upd h rfl rfl

theorem PowerKeeps.deal (h : P s) (c : XferClass) (xs : List Xfer) : P (s.deal c xs) :=
  keeps_ite h (keeps_foldl (fun _ x hu => hP.dealOne hu c x) (hP.fabNow h))

theorem PowerKeeps.dealWaiting (h : P s) : P s.dealWaiting :=
  keeps_ite h (keeps_foldl (fun _ x hu => hP.dealOne hu x.1 x.2) (hP.upd h rfl rfl))

theorem PowerKeeps.sliceServe (h : P s) (n : Nat) (on : Bool) : P (s.sliceServe n on) := by
  unfold State.sliceServe
  extract_lets served x shown left
  have hserved : P served := keeps_ite (hP.sliceServed h n) h
  have hshown : P shown := hP.put (hP.put (hP.upd hserved rfl rfl) (by decide)) (by decide)
  have hleft : P left := hP.put (hP.put hshown (by decide)) (by decide)
  exact keeps_ite (hP.dealWaiting hleft) (hP.deal (hP.deal (hP.deal hleft _ _) _ _) _ _)

/-! ### Copies and frames -/

theorem PowerKeeps.freeCells (h : P s) (cs : List Nat) : P (s.freeCells cs) := hP.upd h rfl rfl

theorem PowerKeeps.modFrame (h : P s) (id : Nat) (g : Frame → Frame) : P (s.modFrame id g) := hP.upd h rfl rfl

theorem PowerKeeps.macSet (h : P s) (p : Nat) (m : Mac) : P (s.macSet p m) := hP.upd h rfl rfl

theorem PowerKeeps.rmCopy (h : P s) (id : Nat) : P (s.rmCopy id) := by
  unfold State.rmCopy
  split
  · exact h
  · extract_lets freed gone turned
    have hfreed : P freed := hP.xferDrop (hP.freeCells h _) _
    have hturned : P turned := keeps_ite (hP.upd hfreed rfl rfl) (hP.upd hfreed rfl rfl)
    split
    · exact hturned
    · exact keeps_ite hturned (hP.upd hturned rfl rfl)

theorem PowerKeeps.macCnt (h : P s) (p k n : Nat) : P (s.macCnt p k n) := keeps_ite h (keeps_ite h (hP.put h (by decide)))

theorem PowerKeeps.svcDrop (h : P s) (i kind : Nat) : P (s.svcDrop i kind) := by
  unfold State.svcDrop
  extract_lets n _ counted
  have hcounted : P counted := hP.upd h rfl rfl
  exact keeps_ite (hP.put hcounted (by decide)) (keeps_ite (hP.put hcounted (by decide)) hcounted)

theorem PowerKeeps.creditSync (h : P s) (p : Nat) : P (s.creditSync p) :=
  keeps_foldl (fun _ _ hu => keeps_ite (hP.upd hu rfl rfl) hu) h

theorem PowerKeeps.joinTags (h : P s) (i u : Nat) (excess : Bool) : P (s.joinTags i u excess) := by
  unfold State.joinTags
  extract_lets tagged
  have htagged : P tagged := keeps_foldl (fun _ _ hu => hP.upd hu rfl rfl) h
  exact keeps_ite (keeps_foldl (fun _ _ hu => hP.upd hu rfl rfl) htagged) htagged

theorem PowerKeeps.chargeBytes (h : P s) (q i : Nat) (excess first : Bool) (n : Nat) : P (s.chargeBytes q i excess first n) := by
  unfold State.chargeBytes
  extract_lets p v cb
  split
  · exact h
  · extract_lets cfg joined x f qt lead subs queues y charged tagged took led turned b lo low credited
    have hjoined : P joined := keeps_ite (hP.joinTags h i _ excess) h
    have htagged : P tagged := hP.upd (s := joined) hjoined rfl rfl
    have htook : P took := keeps_ite (hP.upd htagged rfl rfl) htagged
    have hled : P led := keeps_ite (hP.upd htook rfl rfl) htook
    have hturned : P turned := keeps_ite (hP.upd hled rfl rfl) hled
    have hcredited : P credited := keeps_ite (hP.upd hturned rfl rfl) hturned
    exact keeps_ite hcredited (hP.upd hcredited rfl rfl)

theorem PowerKeeps.refundBytes (h : P s) (q i : Nat) (excess : Bool) (n : Nat) : P (s.refundBytes q i excess n) := by
  unfold State.refundBytes
  extract_lets p cb up qt
  split
  · exact h
  · extract_lets cfg x y tagged b hi level credited
    have htagged : P tagged := hP.upd h rfl rfl
    have hcredited : P credited := keeps_ite (hP.upd htagged rfl rfl) htagged
    exact keeps_ite hcredited (hP.upd hcredited rfl rfl)

theorem PowerKeeps.chargeTo (h : P s) (c : Copy) (n : Nat) : P (s.chargeTo c n) := by
  unfold State.chargeTo
  extract_lets charged
  have hcharged : P charged := keeps_ite (hP.chargeBytes h ..) (keeps_ite (hP.refundBytes h ..) h)
  exact hP.upd hcharged rfl rfl

theorem PowerKeeps.wasSent (h : P s) (p : Nat) (b : List Byte) : P (s.wasSent p b) := keeps_ite h (hP.macSet h _ _)

theorem PowerKeeps.poisonCopy (h : P s) (c : Copy) (cause : Nat) (fault : Bool) : P (s.poisonCopy c cause fault) := by
  unfold State.poisonCopy
  split
  · exact hP.rmCopy h _
  · extract_lets synced me mi came r out counted raised sent poisoned marked charged left
    have hsynced : P synced := hP.creditSync h _
    have hr : P r.2 := keeps_ite_snd hsynced (keeps_ite_snd hsynced (hP.upd hsynced rfl rfl))
    have hsent : P sent := hP.macCnt (hP.put (hP.put hr (by decide)) (by decide)) _ _ _
    have hpoisoned : P poisoned := keeps_ite hsent (hP.macCnt hsent _ _ _)
    have hcharged : P charged := hP.chargeTo (hP.modFrame hpoisoned _ _) _ _
    have hleft : P left := hP.wasSent (hP.rmCopy hcharged _) _ _
    exact keeps_ite (hP.fault hleft) (keeps_ite (hP.fault hleft) hleft)

theorem PowerKeeps.mirrorDrop (h : P s) (n : Nat) (bad : Bool) : P (s.mirrorDrop n bad) := by
  have hdropped : P (s.inc Reg.MIR_DROPPED_COUNT 1 0 (n - 1)) := hP.put h (by decide)
  exact hP.put (keeps_ite (hP.put hdropped (by decide)) hdropped) (by decide)

theorem PowerKeeps.mirrorLost (h : P s) (fid : Nat) : P (s.mirrorLost fid) := by
  unfold State.mirrorLost
  extract_lets due dropped
  have hdropped : P dropped := keeps_foldl (fun _ _ hu => hP.mirrorDrop hu _ _) h
  exact hP.modFrame hdropped _ _

theorem PowerKeeps.spoil (h : P s) (fid cause : Nat) (fault : Bool) : P (s.spoil fid cause fault) := by
  refine hP.mirrorLost (keeps_foldl (fun u c hu => ?_) h) fid
  refine keeps_ite (hP.rmCopy (hP.mirrorDrop (hP.creditSync hu _) _ _) _) ?_
  have hdropped : P (if cause = 9 then u.svcDrop c.svc dkFull else u) := keeps_ite (hP.svcDrop hu _ _) hu
  exact keeps_ite (hP.poisonCopy hdropped _ _ _) (hP.rmCopy (hP.creditSync hdropped _) _)

theorem PowerKeeps.reap (h : P s) : P s.reap := hP.upd h rfl rfl

theorem PowerKeeps.emptyFrame (h : P s) (fid : Nat) : P (s.emptyFrame fid) :=
  hP.modFrame (hP.xferDrop (hP.freeCells h _) _) _ _

theorem PowerKeeps.killFrame (h : P s) (fid : Nat) : P (s.killFrame fid) :=
  hP.reap (hP.modFrame (hP.emptyFrame h fid) _ _)

theorem PowerKeeps.dropFrame (h : P s) (fid : Nat) (counted : Bool) : P (s.dropFrame fid counted) :=
  keeps_ite (hP.killFrame h fid) (hP.modFrame (hP.emptyFrame h fid) _ _)

theorem PowerKeeps.dropCopy (h : P s) (c : Copy) (kind : Nat) : P (s.dropCopy c kind) :=
  hP.rmCopy (hP.svcDrop (hP.creditSync h _) _ _) _

/-! ### Ports -/

theorem PowerKeeps.budget (h : P s) : P s.budget := by
  unfold State.budget
  extract_lets n r was demand counted rotation
  have hr : P r.2 := keeps_ite_snd (hP.upd h rfl rfl) h
  have hrotation : P rotation := hP.put (hP.put (hP.put hr (by decide)) (by decide)) (by decide)
  exact keeps_ite (hP.put hrotation (by decide)) hrotation

theorem PowerKeeps.attemptsClear (h : P s) (p : Nat) : P (s.attemptsClear p) := keeps_ite h (hP.macSet h _ _)

theorem PowerKeeps.portCauseSet (h : P s) {f : Fld} (hf : f.keep ≠ .H) (p : Nat) (on : Bool) : P (s.portCauseSet f p on) := by
  have hput : P (s.put f (b2n on) p) := hP.put h hf
  exact keeps_ite (hP.put hput (by decide)) hput

theorem PowerKeeps.flushStart (h : P s) (p : Nat) (fault : Bool) : P (s.flushStart p fault) := by
  unfold State.flushStart
  extract_lets synced flushing n counted _ released cleared _ quiet returned copies frames
  have hcounted : P counted := hP.put (hP.put (hP.creditSync h p) (by decide)) (by decide)
  have hcleared : P cleared := hP.attemptsClear (s := released) (hP.upd hcounted rfl rfl) p
  have hquiet : P quiet := keeps_ite (hP.macSet hcleared _ _) hcleared
  have hreturned : P returned := keeps_ite (hP.portCauseSet hquiet (by decide) _ _) hquiet
  have hcopies : P copies := by
    refine keeps_foldl (fun u c hu => ?_) hreturned
    extract_lets begun dropped
    have hdropped : P dropped := hP.dropCopy (keeps_ite (hP.macCnt hu _ _ _) hu) _ _
    split
    · exact keeps_ite (hP.fault hdropped) hdropped
    · exact hdropped
  have hframes : P frames := by
    refine keeps_foldl (fun u f hu => ?_) hcopies
    have hspoiled : P ((u.spoil f.id 8 fault).rxFlush p) := hP.upd (hP.spoil hu _ _ _) rfl rfl
    exact keeps_ite (hP.dropFrame hspoiled _ _) (hP.killFrame hspoiled _)
  exact hP.budget (hP.reap hframes)

theorem PowerKeeps.portSync (h : P s) (p : Nat) (fault : Bool) : P (s.portSync p fault) := by
  unfold State.portSync
  extract_lets up st held _ counted returning cautious
  refine keeps_ite (keeps_ite (hP.flushStart h p fault) (keeps_ite (hP.put h (by decide)) h)) (keeps_ite ?_ (keeps_ite ?_ h))
  · have hheld : P held := hP.put h (by decide)
    exact keeps_ite hheld (hP.put (hP.upd hheld rfl rfl) (by decide))
  · have hreturning : P returning := hP.put h (by decide)
    exact hP.budget (keeps_ite (hP.portCauseSet hreturning (by decide) _ _) hreturning)

theorem PowerKeeps.portSyncAll (h : P s) : P s.portSyncAll := keeps_foldl (fun _ p hu => hP.portSync hu p false) h

theorem PowerKeeps.heldSync (h : P s) (p : Nat) : P (s.heldSync p) := by
  unfold State.heldSync
  split
  · exact h
  · extract_lets now d
    exact hP.macSet (hP.macCnt h _ _ _) _ _

theorem PowerKeeps.pauseTrack (h : P s) (p : Nat) : P (s.pauseTrack p) := by
  unfold State.pauseTrack
  extract_lets held t _ synced _
  have hsynced : P synced := hP.heldSync h p
  exact keeps_ite (keeps_ite (hP.macSet h _ _) h) (keeps_ite h (hP.macSet hsynced _ _))

theorem PowerKeeps.linkLost (h : P s) (p : Nat) (fault : Bool) : P (s.linkLost p fault) := by
  unfold State.linkLost
  extract_lets down counted raised ended _ resumed synced killed rate
  refine keeps_ite h ?_
  have hraised : P raised := hP.put (hP.put (hP.put h (by decide)) (by decide)) (by decide)
  have hended : P ended := hP.pauseTrack (hP.put (hP.put hraised (by decide)) (by decide)) p
  have hsynced : P synced := hP.portSync (hP.macSet hended _ _) p fault
  have hkilled : P killed := keeps_foldl (fun _ f hu => hP.killFrame hu f.id) hsynced
  exact hP.put (hP.put (hP.put hkilled (by decide)) (by decide)) (by decide)

/-! ### What a domain holds -/

theorem PowerKeeps.cryptoLost (h : P s) : P s.cryptoLost := by
  unfold State.cryptoLost
  extract_lets poisoned
  have hpoisoned : P poisoned := keeps_foldl (fun _ _ hu => hP.poisonCopy hu _ _ _) h
  refine keeps_foldl (fun u f hu => ?_) hpoisoned
  exact hP.modFrame (hP.emptyFrame (hP.spoil hu _ _ _) _) _ _

theorem PowerKeeps.clearEngine (h : P s) (e : Nat) : P (s.clearEngine e) := hP.upd h rfl rfl

theorem PowerKeeps.clearTxm (h : P s) : P s.clearTxm := hP.upd h rfl rfl

theorem PowerKeeps.clearDomain (h : P s) (d : Nat) : P (s.clearDomain d) := by
  unfold State.clearDomain
  split
  case h_6 => exact hP.clearTxm (keeps_foldl (fun _ e hu => hP.clearEngine hu e) h)
  case h_7 => exact keeps_foldl (fun _ e hu => hP.clearEngine hu (8 + e)) h
  case h_9 =>
    refine keeps_ite (keeps_foldl (fun _ _ hu => keeps_ite (hP.upd hu rfl rfl) hu) h) (keeps_ite ?_ h)
    extract_lets n
    exact hP.upd (hP.sliceServe h n false) rfl rfl
  all_goals exact hP.upd h rfl rfl

theorem PowerKeeps.policyCheck (h : P s) : P s.policyCheck := by
  unfold State.policyCheck
  extract_lets n bad _ checked
  have hchecked : P checked := hP.upd h rfl rfl
  exact keeps_ite (hP.put hchecked (by decide)) hchecked

end powerKeeps

/-! ### The domains of a mask -/

/-- The power unit as domain d is switched off. -/
def Pwr.without (w : Pwr) (d : Nat) : Pwr :=
  { w with powered := setBit w.powered d false, tested := setBit w.tested d false, rising := setBit w.rising d false,
           drain := w.drain && d != 8 }

theorem State.domainDown_power {s : State} {w : Pwr} {b : Bool} (h : PowerIs w b s) (d : Nat) :
    PowerIs (w.without d) b (s.domainDown d) := by
  unfold State.domainDown
  extract_lets lost off links synced cleared budgeted
  have hlost : PowerIs w b lost := keeps_ite ((powerIs_keeps w b).cryptoLost h) h
  have hoff : PowerIs (w.without d) b off := ⟨congrArg (Pwr.without · d) hlost.1, hlost.2⟩
  have hP := powerIs_keeps (w.without d) b
  have hlinks : PowerIs (w.without d) b links := keeps_foldl (fun u p hu => keeps_ite (hP.linkLost hu p false) hu) hoff
  have hcleared : PowerIs (w.without d) b cleared := hP.upd (hP.clearDomain (hP.portSyncAll hlinks) d) rfl rfl
  have hbudgeted : PowerIs (w.without d) b budgeted := keeps_ite (hP.budget hcleared) hcleared
  exact keeps_ite (hP.policyCheck hbudgeted) hbudgeted

end Sys2Proof.Machine

/-! The descent, the wakes and the converter (R358–R373): what the domains that a descent switches off leave, and one equation per case
of each event. -/

namespace Sys2Proof.Machine

/-! ### Domains switched off together (R371) -/

/-- Domain d is switched off where the mask has it; the bits of the others stand, and so does where the descent ends. -/
theorem State.domainDown_masked (s : State) (mask d k : Nat) :
    let t := if bit mask d then s.domainDown d else s
    bit t.pwr.powered k = (bit s.pwr.powered k && !(k == d && bit mask d)) ∧ t.toStandby = s.toStandby := by
  by_cases hd : bit mask d = true
  · obtain ⟨hpwr, hends⟩ := State.domainDown_power (s := s) ⟨rfl, rfl⟩ d
    simp only [if_pos hd]
    refine ⟨?_, hends⟩
    rw [hpwr, hd, Bool.and_true]
    refine (bit_setBit s.pwr.powered d k false).trans ?_
    by_cases hk : k = d
    · rw [if_pos hk, beq_iff_eq.mpr hk, Bool.not_true, Bool.and_false]
    · rw [if_neg hk, beq_eq_false_iff_ne.mpr hk, Bool.not_false, Bool.and_true]
  · simp only [eq_false_of_ne_true hd, Bool.false_eq_true, if_false, Bool.and_false, Bool.not_false, Bool.and_true, and_self]

/-- Of the domains of a list, those of a mask are switched off. -/
theorem foldl_domainDown {l : List Nat} {mask k : Nat} {s : State} :
    let t := l.foldl (fun s d => if bit mask d then s.domainDown d else s) s
    bit t.pwr.powered k = (bit s.pwr.powered k && !(l.contains k && bit mask k)) ∧ t.toStandby = s.toStandby := by
  induction l generalizing s with
  | nil => exact ⟨(Bool.and_true _).symm, rfl⟩
  | cons d r ih =>
    intro t
    obtain ⟨hfirst, hends⟩ := s.domainDown_masked mask d k
    obtain ⟨hpowered, hstandby⟩ := ih (s := if bit mask d then s.domainDown d else s)
    refine ⟨hpowered.trans ?_, hstandby.trans hends⟩
    rw [hfirst, List.contains_cons, Bool.and_assoc, ← Bool.not_or]
    by_cases hk : k = d
    · subst hk
      rw [beq_self_eq_true, Bool.true_and, Bool.true_or, Bool.true_and]
      cases bit mask k <;> simp
    · rw [beq_eq_false_iff_ne.mpr hk, Bool.false_and, Bool.false_or, Bool.false_or]

theorem State.domainsDown_power (s : State) (mask : Nat) {k : Nat} (hk : k < 19) :
    bit (s.domainsDown mask).pwr.powered k = (bit s.pwr.powered k && !bit mask k) ∧
    (s.domainsDown mask).toStandby = s.toStandby := by
  obtain ⟨hpowered, hstandby⟩ := foldl_domainDown (l := (List.range 19).reverse) (mask := mask) (k := k) (s := s)
  have hin : (List.range 19).reverse.contains k = true := by simp [hk]
  rw [hin, Bool.true_and] at hpowered
  exact ⟨hpowered, hstandby⟩

/-- The domains that step 3 of a descent switches off: those on or rising, but for the Heel's, PD1 and PD10. -/
def State.descentCut (s : State) : Nat :=
  Nat.land (Nat.lor s.pwr.powered s.pwr.rising) (2 ^ 19 - 1 - (1 + 2 ^ 1 + 2 ^ 10))

theorem bit_eq_testBit (v n : Nat) : bit v n = v.testBit n := by
  rw [Nat.testBit_eq_decide_div_mod_eq]
  rfl

theorem State.bit_descentCut (s : State) (d : Nat) :
    bit s.descentCut d = ((bit s.pwr.powered d || bit s.pwr.rising d) && bit (2 ^ 19 - 1 - (1 + 2 ^ 1 + 2 ^ 10)) d) := by
  simp only [bit_eq_testBit]
  exact (Nat.testBit_land ..).trans (congrArg (· && _) (Nat.testBit_lor ..))

/-- What step 3 leaves powered. -/
def State.descentOff (s : State) : State :=
  (s.pwrSet (fun w => { w with cut := s.descentCut, drain := false })).domainsDown s.descentCut

theorem State.descentOff_power (s : State) {d : Nat} (hd : d < 19) :
    bit s.descentOff.pwr.powered d = (bit s.pwr.powered d && !bit s.descentCut d) ∧ s.descentOff.toStandby = s.toStandby :=
  State.domainsDown_power (s.pwrSet (fun w => { w with cut := s.descentCut, drain := false })) s.descentCut hd

theorem State.descentOff_switched (s : State) :
    ∀ d, d < 19 → d ≠ 0 → d ≠ 1 → d ≠ 10 → bit s.descentOff.pwr.powered d = false := by
  intro d hd h0 h1 h10
  have hmask : ∀ k : Fin 19, k.val ≠ 0 → k.val ≠ 1 → k.val ≠ 10 → bit (2 ^ 19 - 1 - (1 + 2 ^ 1 + 2 ^ 10)) k.val = true := by decide
  rw [(s.descentOff_power hd).1, s.bit_descentCut, hmask ⟨d, hd⟩ h0 h1 h10]
  cases bit s.pwr.powered d <;> rfl

theorem State.descentOff_kept (s : State) {d : Nat} (hd : d < 19) (hm : bit (2 ^ 19 - 1 - (1 + 2 ^ 1 + 2 ^ 10)) d = false) :
    bit s.descentOff.pwr.powered d = bit s.pwr.powered d := by
  rw [(s.descentOff_power hd).1, s.bit_descentCut, hm, Bool.and_false, Bool.not_false, Bool.and_true]

/-! ### The steps of a descent (R371) -/

section descent
variable {s : State}

/-- A descent whose detectors are armed, and which remembers the mode. -/
def State.descentArmed (s : State) : State :=
  ((s.put Reg.WAK_STAT_DESCENT 1).wakSet (fun w => { w with armed := s.armList })).pwrSet (fun w => { w with before := s.mode, cut := 0 })

theorem descentStart_arms (h : s.mayDescend = true) (hl : s.descentArmed.wak.latched.find? s.descentArmed.latchNamed = none) :
    descentStart s = s.descentArmed := by
  refine (if_neg (by simp [h])).trans ?_
  show (match s.descentArmed.wak.latched.find? s.descentArmed.latchNamed with
    | some c => (((s.descentArmed.abortDescent c.1 c.2).latchWakes c.1 c.2).pinRequests).requestsChanged
    | none => s.descentArmed) = _
  rw [hl]

theorem descentStart_late {k n : Nat} (h : s.mayDescend = true)
    (hl : s.descentArmed.wak.latched.find? s.descentArmed.latchNamed = some (k, n)) :
    descentStart s = (((s.descentArmed.abortDescent k n).latchWakes k n).pinRequests).requestsChanged := by
  refine (if_neg (by simp [h])).trans ?_
  show (match s.descentArmed.wak.latched.find? s.descentArmed.latchNamed with
    | some c => (((s.descentArmed.abortDescent c.1 c.2).latchWakes c.1 c.2).pinRequests).requestsChanged
    | none => s.descentArmed) = _
  rw [hl]

theorem descentCommit_commits (h : s.get Reg.WAK_STAT_DESCENT = 1) (h15 : bit s.pwr.powered 15 = false)
    (h16 : bit s.pwr.powered 16 = false) : descentCommit s = s.put Reg.WAK_STAT_DESCENT 2 := by
  have h15' : ¬ bit (s.put Reg.WAK_STAT_DESCENT 2).pwr.powered 15 = true := ne_true_of_eq_false h15
  have h16' : ¬ bit (s.put Reg.WAK_STAT_DESCENT 2).pwr.powered 16 = true := ne_true_of_eq_false h16
  unfold descentCommit
  simp only [h, bne_self_eq_false, Bool.false_eq_true, if_false, if_neg h15', if_neg h16']

/-- The end of a descent in STANDBY. -/
def State.standbyEntered (s : State) : State :=
  let u := ((s.pwrSet (fun w => { w with tested := setBit w.tested 10 false, cut := 0 })).modeSet mdSTANDBY).put Reg.WAK_STAT_DESCENT 0
  u.wakSet (fun w => { w with timing := u.get Reg.WAK_TIMER_SECONDS != 0 })

theorem descentStandby_enters (h : s.get Reg.WAK_STAT_DESCENT = 2) (ha : s.awake = true) (hs : s.toStandby = true) :
    descentStandby s = s.descentOff.standbyEntered := by
  have hoff : s.descentOff.toStandby = true := ((s.descentOff_power (d := 0) (by decide)).2).trans hs
  exact (if_neg (by simp [h, ha])).trans (if_pos hoff)

theorem descent_idle (h : s.get Reg.WAK_STAT_DESCENT ≠ 2 ∨ s.awake = false) : descentStandby s = s ∧ descentSleep s = s := by
  constructor
  all_goals
    refine if_pos ?_
    obtain h | h := h <;> simp [h]

theorem State.modeSet_mode (s : State) (m : Nat) (hm : m < 8) : (s.modeSet m).mode = m := by
  unfold State.modeSet
  split
  case isTrue h => exact h
  case isFalse =>
    exact (State.get_raise_apart (s := s.put Reg.PWR_MODE_MODE m) (by decide)).trans
      ((State.get_put_held (by decide)).trans (Nat.mod_eq_of_lt hm))

theorem State.modeSet_pwr (s : State) (m : Nat) : (s.modeSet m).pwr = s.pwr := by
  unfold State.modeSet
  split <;> rfl

theorem State.standbyEntered_shows (s : State) : s.standbyEntered.pwr.powered = s.pwr.powered ∧
    s.standbyEntered.get Reg.WAK_STAT_DESCENT = 0 ∧
    s.standbyEntered.wak.timing = (s.standbyEntered.get Reg.WAK_TIMER_SECONDS != 0) ∧ s.standbyEntered.mode = mdSTANDBY := by
  unfold State.standbyEntered
  extract_lets u
  refine ⟨?_, State.get_put_held (by decide), rfl, ?_⟩
  · show (State.modeSet _ mdSTANDBY).pwr.powered = _
    rw [State.modeSet_pwr]
    rfl
  · exact (State.get_put_apart (by decide)).trans (State.modeSet_mode _ _ (by decide))

/-- The sleep in which a descent ends, with the detectors armed in it. -/
def State.sleepEntered (s : State) (armed : List (Nat × Nat)) : State :=
  let u := (s.dropV false).dropT.put Reg.PWR_MODE_MODE mdSLEEP
  u.wakSet (fun w => { w with armed := armed, timing := u.get Reg.WAK_TIMER_SECONDS != 0 })

theorem descentSleep_enters (h : s.get Reg.WAK_STAT_DESCENT = 2) (ha : s.awake = true) (hs : s.toStandby = false)
    (hp : Nat.land s.pwr.powered (2 ^ 19 - 1 - (2 ^ 1 + 2 ^ 10)) = 0) :
    descentSleep s = ({ s with cgu := { s.cgu with starting := false, amp := false } } : State).sleepEntered s.wak.armed := by
  refine if_neg ?_
  rw [h, ha, hs, hp]
  decide

theorem State.sleepEntered_shows (s : State) (armed : List (Nat × Nat)) : (s.sleepEntered armed).mode = mdSLEEP ∧
    (s.sleepEntered armed).pwr.powered = 0 ∧ (s.sleepEntered armed).regs.t = [] ∧ (s.sleepEntered armed).tca.keys = [] ∧
    (s.sleepEntered armed).tca.kept = [] ∧ (s.sleepEntered armed).wak.armed = armed ∧ (s.sleepEntered armed).clr.frames = [] ∧
    (s.sleepEntered armed).lst = Lst.init := by
  obtain ⟨hlst, hframes, _, hkeys⟩ := s.dropV_lost
  have hpwr : (s.dropV false).pwr.powered = 0 := rfl
  have hmode (u : State) : (u.put Reg.PWR_MODE_MODE mdSLEEP).mode = mdSLEEP := State.get_put_held (by decide)
  have hwak (u : State) (f : Wak → Wak) : (u.wakSet f).mode = u.mode := rfl
  have hlast (u : State) (f : Wak → Wak) : (u.wakSet f).lst = u.lst := rfl
  unfold State.sleepEntered
  extract_lets u
  exact ⟨(hwak u _).trans (hmode _), hpwr, rfl, hkeys, rfl, rfl, hframes,
    (hlast u _).trans ((State.put_lst ..).trans ((State.dropT_lst _).trans hlst))⟩

end descent

/-! ### Latches and the timer (R370, R373) -/

section wake
variable {s : State} {k n : Nat}

/-- A latch is set. -/
def State.latchSet (s : State) (k n : Nat) : State := s.wakSet (fun w => { w with latched := w.latched ++ [(k, n)] })

theorem wakeLatch_idle (h : s.latchArmed k n = false) : wakeLatch k n s = s := if_pos (by simp [h])

theorem wakeLatch_sleep (h : s.latchArmed k n = true) (hm : s.mode = mdSLEEP) (hk : k ≠ wkWAKE_IN) :
    wakeLatch k n s = (s.latchSet k n).deviceWakes k n := by
  have hmode : ((s.latchSet k n).mode == mdSLEEP) = true := beq_iff_eq.mpr hm
  unfold wakeLatch
  simp only [h, Bool.not_true, Bool.false_eq_true, if_false, if_neg hk]
  exact if_pos hmode

/-- Outside SLEEP the latch's clusters wake too, and a latch that no cluster has is spent. -/
theorem wakeLatch_awake {v : State} (h : s.latchArmed k n = true) (hm : s.mode ≠ mdSLEEP) (hk : k ≠ wkWAKE_IN)
    (hv : v = ((((if s.mode = mdSTANDBY then (s.latchSet k n).deviceWakes k n
      else (s.latchSet k n).abortDescent k n).latchWakes k n).pinRequests).requestsChanged)) :
    wakeLatch k n s = if v.wak.setup = 2 then v else v.wakSet (fun w => { w with latched := w.latched.filter v.latchNamed }) := by
  have hmode : ¬ ((s.latchSet k n).mode == mdSLEEP) = true := fun e => hm (beq_iff_eq.mp e)
  subst hv
  unfold wakeLatch
  simp only [h, Bool.not_true, Bool.false_eq_true, if_false, if_neg hk]
  refine (if_neg hmode).trans ?_
  simp only [beq_iff_eq]
  rfl

theorem wakTimerExpiry_wakes (ht : s.wak.timing = true) (hm : s.mode = mdSLEEP) :
    wakTimerExpiry s = ((s.put Reg.WAK_TIMER_SECONDS 0).wakSet (fun w => { w with timing := false })).deviceWakes wkTIMER 0 := by
  have hmode : ((s.put Reg.WAK_TIMER_SECONDS 0).wakSet (fun w => { w with timing := false })).mode = mdSLEEP :=
    (State.get_put_apart (s := s) (by decide)).trans hm
  refine (if_neg (by simp [ht])).trans (if_pos ?_)
  rw [hmode]
  rfl

theorem wakTimerExpiry_idle (ht : s.wak.timing = false) : wakTimerExpiry s = s := if_pos (by simp [ht])

end wake

/-! ### The converter (R363) -/

/-- What the converter shows of channel c.2: a battery above full scale reads full scale. -/
def measured (c : Nat × Nat) : Nat := if c.2 = 4 then min vbatFullScale c.1 else c.1

theorem measured_lt {x k : Nat} (hx : x < 65536) : measured (x, k) < 65536 := by
  unfold measured
  split
  · exact Nat.lt_of_le_of_lt (Nat.min_le_right _ _) hx
  · exact hx

/-- A channel keeps its value as another's is written. -/
theorem State.putMeasured_other {s : State} {j k v : Nat} (hk : k < 6) (hj : j < 6) (hne : k ≠ j) :
    (s.put Reg.PWR_MEAS_VALUE v 0 j).get Reg.PWR_MEAS_VALUE 0 k = s.get Reg.PWR_MEAS_VALUE 0 k := by
  have hkeys : ∀ a b : Fin 6, a ≠ b → Reg.PWR_MEAS_VALUE.key 0 a 0 ≠ Reg.PWR_MEAS_VALUE.key 0 b 0 := by decide
  exact State.get_put_other _ _ _ _ _ _ _ _ _ _ (.inr (hkeys ⟨k, hk⟩ ⟨j, hj⟩ (Fin.ne_of_val_ne hne)))

/-- Values written to the channels from n on: each channel reads its own. -/
theorem foldl_putMeasured {l : List Nat} {n k : Nat} {s : State} (hl : n + l.length ≤ 6) (hk : k < 6) :
    ((l.zipIdx n).foldl (fun s c => s.put Reg.PWR_MEAS_VALUE (measured c) 0 c.2) s).get Reg.PWR_MEAS_VALUE 0 k =
      if h : n ≤ k ∧ k - n < l.length then measured (l[k - n]'h.2, k) % 65536 else s.get Reg.PWR_MEAS_VALUE 0 k := by
  induction l generalizing n s with
  | nil =>
    rw [dif_neg (fun h => absurd h.2 (Nat.not_lt_zero _))]
    rfl
  | cons x r ih =>
    rw [List.length_cons] at hl
    rw [List.zipIdx_cons, List.foldl_cons, ih (by omega)]
    obtain hlt | rfl | hgt := Nat.lt_trichotomy k n
    · rw [dif_neg (by omega), dif_neg (by omega)]
      exact State.putMeasured_other hk (by omega) (by omega)
    · rw [dif_neg (by omega), dif_pos ⟨Nat.le_refl _, by simp⟩]
      simp only [Nat.sub_self, List.getElem_cons_zero]
      exact State.get_put_elementHeld (by decide)
    · obtain ⟨d, rfl⟩ := Nat.exists_eq_add_of_lt hgt
      have hidx : n + d + 1 - n = n + d + 1 - (n + 1) + 1 := by omega
      by_cases hd : n + d + 1 - (n + 1) < r.length
      · rw [dif_pos ⟨by omega, hd⟩, dif_pos ⟨by omega, by simp only [List.length_cons]; omega⟩]
        simp only [hidx, List.getElem_cons_succ]
      · rw [dif_neg (by omega), dif_neg (by simp only [List.length_cons]; omega)]
        exact State.putMeasured_other hk (by omega) (by omega)

/-- The channels as the converter updates them. -/
def State.measuresShown (s : State) (vs : List Nat) : State :=
  (vs.take 6).zipIdx.foldl (fun s c => s.put Reg.PWR_MEAS_VALUE (measured c) 0 c.2) s

theorem converterUpdate_shows {s : State} {vs : List Nat} (hs : s.mode ≠ mdSLEEP) (ho : s.mode ≠ mdOFF) :
    converterUpdate vs s = s.measuresShown vs := if_neg (by simp [hs, ho])

theorem State.measuresShown_get {s : State} {vs : List Nat} {k x : Nat} (hk : k < 6) (hx : vs[k]? = some x) (hlt : x < 65536) :
    (s.measuresShown vs).get Reg.PWR_MEAS_VALUE 0 k = measured (x, k) := by
  obtain ⟨hlen, rfl⟩ := List.getElem?_eq_some_iff.mp hx
  have htake : k < (vs.take 6).length := by
    rw [List.length_take]
    omega
  have hbound : 0 + (vs.take 6).length ≤ 6 := by
    rw [List.length_take]
    omega
  refine (foldl_putMeasured hbound hk).trans ?_
  rw [dif_pos ⟨Nat.zero_le _, htake⟩]
  simp only [Nat.sub_zero, List.getElem_take]
  exact Nat.mod_eq_of_lt (measured_lt hlt)

theorem State.measuresShown_frame (s : State) (vs : List Nat) : (s.measuresShown vs).wak = s.wak ∧
    (s.measuresShown vs).pwr = s.pwr ∧ (s.measuresShown vs).clr = s.clr :=
  keeps_foldl (P := fun u => u.wak = s.wak ∧ u.pwr = s.pwr ∧ u.clr = s.clr) (fun _ _ hu => hu) ⟨rfl, rfl, rfl⟩

end Sys2Proof.Machine

namespace Sys2Proof
open Machine

/-- Settles O49: a descent that ends in STANDBY switches its domains off one by one, each changing nothing of the power unit but its own
bits (`State.domainDown_power`); the other events are cases of their commands. -/
theorem theDeviceSleepsAndWakes : Obligations.TheDeviceSleepsAndWakes := by
  unfold Obligations.TheDeviceSleepsAndWakes
  refine ⟨?_, ?_, ?_, ?_, ?_, ?_, ?_, ?_, ?_, ?_, ?_, ?_, ?_, ?_⟩
  case refine_1 =>
    rintro s _ h rfl
    exact ⟨fun hl => congrArg Host.Outcome.next (descentStart_arms h hl),
      fun k n hl => congrArg Host.Outcome.next (descentStart_late h hl)⟩
  case refine_2 =>
    intro s h
    exact congrArg Host.Outcome.next (if_pos (by simp [h]))
  case refine_3 =>
    intro s h h15 h16
    exact congrArg Host.Outcome.next (descentCommit_commits h h15 h16)
  case refine_4 =>
    intro s h
    exact congrArg Host.Outcome.next (if_pos (bne_iff_ne.mpr h))
  case refine_5 =>
    intro s h ha hs
    obtain ⟨hpowered, hdescent, htiming, hmode⟩ := s.descentOff.standbyEntered_shows
    refine ⟨_, congrArg Host.Outcome.next (descentStandby_enters h ha hs), ?_, ?_, ?_, hdescent, htiming, hmode⟩
    · rw [hpowered]
      exact s.descentOff_switched
    · rw [hpowered]
      exact s.descentOff_kept (by decide) (by decide)
    · rw [hpowered]
      exact s.descentOff_kept (by decide) (by decide)
  case refine_6 =>
    intro s h
    obtain ⟨hstandby, hsleep⟩ := descent_idle h
    exact ⟨congrArg Host.Outcome.next hstandby, congrArg Host.Outcome.next hsleep⟩
  case refine_7 =>
    intro s h ha hs hp
    exact ⟨_, congrArg Host.Outcome.next (descentSleep_enters h ha hs hp), State.sleepEntered_shows _ _⟩
  case refine_8 =>
    rintro k n s _ h hm hk rfl
    exact congrArg Host.Outcome.next (wakeLatch_sleep h hm hk)
  case refine_9 =>
    rintro k n s _ v h hm hk rfl hv
    exact congrArg Host.Outcome.next (wakeLatch_awake h hm hk hv)
  case refine_10 =>
    intro k n s h
    exact congrArg Host.Outcome.next (wakeLatch_idle h)
  case refine_11 =>
    intro s hr ht hm
    exact congrArg Host.Outcome.next ((State.heel_runs hr).trans (wakTimerExpiry_wakes ht hm))
  case refine_12 =>
    intro s ht
    exact congrArg Host.Outcome.next (State.heel_idle fun _ => wakTimerExpiry_idle ht)
  case refine_13 =>
    intro vs s hs ho
    refine ⟨_, congrArg Host.Outcome.next (converterUpdate_shows hs ho), fun k x hk hx => ?_, s.measuresShown_frame _⟩
    exact State.measuresShown_get hk (by rw [List.getElem?_map, hx]; rfl) x.isLt
  case refine_14 =>
    intro vs s hs
    exact congrArg Host.Outcome.next (if_pos (by simp [hs]))

end Sys2Proof

/-! Change sets and commits (R51, R55–R58, R60): one equation per case of each command, and what a discarded set shows. -/

namespace Sys2Proof.Machine

/-! ### An error of a page (R410) -/

/-- The fields that capture an error. -/
def errFields : List Fld := [Reg.PG_ERR_COUNT_COUNT, Reg.WLT_ERR_CAPT0_ADDR, Reg.TCA_ERR_CAPT0_WORD, Reg.PG_ERR_CAPT0_OFFSET,
  Reg.PG_ERR_CAPT1_CODE, Reg.PG_ERR_CAPT2_MASTER, Reg.PG_ERR_CAPT2_WRITE, Reg.PG_ERR_CAPT3_TIME]

section err
variable {s : State} {page off code : Nat} {m : Master} {w : Bool}

/-- An error leaves the fields that are apart from those that capture it. -/
theorem State.err_get {g : Fld} {i : Nat} (h : errFields.all (fun f => f.apart g) = true) :
    (s.err page off code m w).get g i = s.get g i := by
  simp only [errFields, List.all_cons, List.all_nil, Bool.and_true, Bool.and_eq_true] at h
  obtain ⟨hcount, hwelt, htoecap, hoffset, hcode, hmaster, hwrite, htime⟩ := h
  unfold State.err
  extract_lets counted shown coded sender written
  have hcounted : counted.get g i = s.get g i := State.get_put_apart hcount
  have hshown : shown.get g i = s.get g i := keeps_ite (P := fun u : State => u.get g i = s.get g i)
    ((State.get_put_apart hwelt).trans hcounted)
    (keeps_ite (P := fun u : State => u.get g i = s.get g i) ((State.get_put_apart htoecap).trans hcounted)
      ((State.get_put_apart hoffset).trans hcounted))
  calc (written.put Reg.PG_ERR_CAPT3_TIME written.time32 page).get g i
      = written.get g i := State.get_put_apart htime
    _ = sender.get g i := State.get_put_apart hwrite
    _ = coded.get g i := State.get_put_apart hmaster
    _ = shown.get g i := State.get_put_apart hcode
    _ = s.get g i := hshown

/-- An error is counted on its page, up to the largest count. -/
theorem State.err_count : (s.err page off code m w).get Reg.PG_ERR_COUNT_COUNT page =
    min 0xFFFF (s.get Reg.PG_ERR_COUNT_COUNT page + 1) := by
  unfold State.err
  extract_lets counted shown coded sender written
  have hcounted : counted.get Reg.PG_ERR_COUNT_COUNT page = min 0xFFFF (s.get Reg.PG_ERR_COUNT_COUNT page + 1) :=
    (State.get_inc_held (by decide)).trans rfl
  have hshown : shown.get Reg.PG_ERR_COUNT_COUNT page = counted.get Reg.PG_ERR_COUNT_COUNT page :=
    keeps_ite (P := fun u : State => u.get Reg.PG_ERR_COUNT_COUNT page = counted.get Reg.PG_ERR_COUNT_COUNT page)
      (State.get_put_apart (by decide))
      (keeps_ite (P := fun u : State => u.get Reg.PG_ERR_COUNT_COUNT page = counted.get Reg.PG_ERR_COUNT_COUNT page)
        (State.get_put_apart (by decide)) (State.get_put_apart (by decide)))
  calc (written.put Reg.PG_ERR_CAPT3_TIME written.time32 page).get Reg.PG_ERR_COUNT_COUNT page
      = written.get Reg.PG_ERR_COUNT_COUNT page := State.get_put_apart (by decide)
    _ = sender.get Reg.PG_ERR_COUNT_COUNT page := State.get_put_apart (by decide)
    _ = coded.get Reg.PG_ERR_COUNT_COUNT page := State.get_put_apart (by decide)
    _ = shown.get Reg.PG_ERR_COUNT_COUNT page := State.get_put_apart (by decide)
    _ = _ := hshown.trans hcounted

end err

/-! ### CS_OPEN and CS_ABORT (R55, R58) -/

section changeSet
variable {m : Master} {z s : State}

theorem csOpen_granted (hg : (z.sent m).grants m pgLST) : csOpen m z = (z.sent m).csOpen m := z.direct_of_grants m _ _ _ hg

theorem csAbort_granted (hg : (z.sent m).grants m pgLST) : csAbort m z = (z.sent m).csAbort m := z.direct_of_grants m _ _ _ hg

theorem State.csOpen_opens (hi : s.lsState = lsIDLE) (hl : s.flag Reg.LST_STAT_LOADED = true) :
    s.csOpen m = (s.put Reg.LST_STAT_STATE 1).put Reg.LST_STAT_NO_SPARE 0 := if_pos (by simp [hi, hl])

theorem State.csOpen_refused (h : s.lsState ≠ lsIDLE ∨ s.flag Reg.LST_STAT_LOADED = false) :
    s.csOpen m = s.err pgLST 0x090 ecSTATE m :=
  if_neg (by obtain h | h := h <;> simp [h])

theorem State.csAbort_drops (h : s.setHeld = true) : s.csAbort m = s.setDrop := if_pos h

theorem State.csAbort_refused (h : s.setHeld = false) : s.csAbort m = s.err pgLST 0x090 ecSTATE m :=
  if_neg (ne_true_of_eq_false h)

/-- What a discarded set shows, but for the interrupt of a commit that was pending. -/
def State.dropShown (s : State) : State :=
  ((s.put Reg.LST_STAT_STATE 0).put Reg.LST_STAT_PENDING 0).put Reg.LST_STAT_ERR 0x10

/-- A discarded set shows itself in registers, and gives its pages back. -/
theorem State.setDrop_eq (s : State) : s.setDrop =
    { (if s.flag Reg.LST_STAT_PENDING = true then s.dropShown.raise Reg.LST_IRQ_REFUSED else s.dropShown) with
      lst := s.lst.dropSet } := by
  by_cases h : s.flag Reg.LST_STAT_PENDING = true
  · rw [if_pos h]
    exact if_pos h
  · rw [if_neg h]
    exact if_neg h

theorem State.setDrop_lst (s : State) : s.setDrop.lst = s.lst.dropSet := by rw [s.setDrop_eq]

/-- A discarded set reads what `dropShown` writes, wherever REFUSED is not the field. -/
theorem State.setDrop_get (s : State) {g : Fld} (hg : Reg.LST_IRQ_REFUSED.apart g = true) : s.setDrop.get g = s.dropShown.get g := by
  rw [s.setDrop_eq]
  exact keeps_ite (P := fun u : State => u.get g = s.dropShown.get g) (State.get_raise_apart hg) rfl

theorem State.setDrop_state (s : State) : s.setDrop.get Reg.LST_STAT_STATE = 0 := by
  rw [s.setDrop_get (by decide)]
  exact (State.get_put_apart (by decide)).trans ((State.get_put_apart (by decide)).trans (State.get_put_held (by decide)))

theorem State.setDrop_pending (s : State) : s.setDrop.get Reg.LST_STAT_PENDING = 0 := by
  rw [s.setDrop_get (by decide)]
  exact (State.get_put_apart (by decide)).trans (State.get_put_held (by decide))

theorem State.setDrop_err (s : State) : s.setDrop.get Reg.LST_STAT_ERR = 0x10 := by
  rw [s.setDrop_get (by decide)]
  exact State.get_put_held (by decide)

/-- A commit that was pending is refused. -/
theorem State.setDrop_refuses (h : s.flag Reg.LST_STAT_PENDING = true) : s.setDrop.get Reg.LST_IRQ_REFUSED = 1 := by
  rw [s.setDrop_eq, if_pos h]
  exact State.get_raise_bit (s := s.dropShown) (.inr (.inr rfl)) rfl

/-- A discarded set gives its staged pages back. -/
theorem Lst.dropSet_spares (l : Lst) : l.dropSet.spares = l.spares := by
  simp only [Lst.spares, Lst.free, Lst.dropSet, List.length_append, List.length_map, List.length_nil]
  omega

end changeSet

/-! ### COMMIT_GO and COMMIT_VALIDATED (R56–R58, R60) -/

section commit
variable {m : Master} {z s : State}

theorem commitGo_granted (hg : (z.sent m).grants m pgLST) : commitGo m z = (z.sent m).commitGo m := z.direct_of_grants m _ _ _ hg

theorem State.commitGo_validates (h : s.lsState = lsOPEN) :
    s.commitGo m = (s.put Reg.LST_STAT_STATE 2).put Reg.LST_STAT_PENDING 1 := if_pos h

theorem State.commitGo_refused (h : s.lsState ≠ lsOPEN) : s.commitGo m = s.err pgLST 0x0A0 ecSTATE m := if_neg h

theorem commitValidated_passes (h : s.lsState = lsVALIDATING) (hc : s.commitCheck = none) :
    commitValidated s = s.put Reg.LST_STAT_STATE 3 := by
  simp only [commitValidated, h, hc, bne_self_eq_false, Bool.false_eq_true, if_false]
  rfl

theorem commitValidated_fails {code page : Nat} (h : s.lsState = lsVALIDATING) (hc : s.commitCheck = some (code, page)) :
    commitValidated s = s.commitRefused code page := by
  simp only [commitValidated, h, hc, bne_self_eq_false, Bool.false_eq_true, if_false]

/-- Only the code of a page's CRC names a page. -/
theorem State.commitRefused_unpaged {code page : Nat} (h : code ≠ 7) : s.commitRefused code page =
    (((s.put Reg.LST_STAT_STATE 1).put Reg.LST_STAT_PENDING 0).put Reg.LST_STAT_ERR code).raise Reg.LST_IRQ_REFUSED :=
  congrArg (fun u : State => u.raise Reg.LST_IRQ_REFUSED) (if_neg h)

theorem State.commitRefused_page (s : State) (page : Nat) : s.commitRefused 7 page =
    ((((s.put Reg.LST_STAT_STATE 1).put Reg.LST_STAT_PENDING 0).put Reg.LST_STAT_ERR 7).put
      Reg.LST_ERR_PAGE_LPAGE page).raise Reg.LST_IRQ_REFUSED := rfl

end commit

/-! ### UPD_CMD.OPEN in a trial (R396) -/

theorem State.opRefusal_trial {s : State} {a : Nat} (hl : s.ownerLocked = false) (ht : s.inTrial = true) :
    s.opRefusal 1 a = urTRIAL := by
  simp [State.opRefusal, hl, ht]

/-- A result other than 0 raises CMD_ERR. -/
theorem State.updResult_raises {s : State} {source code : Nat} (h : code ≠ 0) :
    (s.updResult source code).flag Reg.UPD_IRQ_CMD_ERR = true := by
  unfold State.updResult
  rw [if_neg h]
  exact beq_iff_eq.mpr (State.get_raise_bit (.inr (.inr rfl)) rfl)

theorem State.updResult_source {s : State} {source code : Nat} (h : source < 16) :
    (s.updResult source code).get Reg.UPD_RESULT_SOURCE = source := by
  have hput : ((s.put Reg.UPD_RESULT_CODE code).put Reg.UPD_RESULT_SOURCE source).get Reg.UPD_RESULT_SOURCE = source :=
    (State.get_put_held (by decide)).trans (Nat.mod_eq_of_lt h)
  unfold State.updResult
  exact keeps_ite (P := fun u : State => u.get Reg.UPD_RESULT_SOURCE = source) hput ((State.get_raise_apart (by decide)).trans hput)

end Sys2Proof.Machine

namespace Sys2Proof
open Machine

/-- Settles O1: each command is granted, and then is one of its equations; what an abort leaves is read off `State.setDrop_eq`. -/
theorem changeSetsOpenAndAbort : Obligations.ChangeSetsOpenAndAbort := by
  unfold Obligations.ChangeSetsOpenAndAbort
  refine ⟨?_, ?_, ?_, ?_⟩
  case refine_1 =>
    rintro m z _ rfl hg hi hl
    exact congrArg Host.Outcome.next ((csOpen_granted hg).trans (State.csOpen_opens hi hl))
  case refine_2 =>
    rintro m z _ rfl hg h
    exact congrArg Host.Outcome.next ((csOpen_granted hg).trans (State.csOpen_refused h))
  case refine_3 =>
    rintro m z _ rfl hg h
    refine ⟨(z.sent m).setDrop, (z.sent m).dropShown,
      congrArg Host.Outcome.next ((csAbort_granted hg).trans (State.csAbort_drops h)), ?_⟩
    have hspares : (z.sent m).setDrop.lst.spares = (z.sent m).lst.spares := by rw [State.setDrop_lst, Lst.dropSet_spares]
    have heq := (z.sent m).setDrop_eq
    rw [← (z.sent m).setDrop_lst] at heq
    have hlst := (z.sent m).setDrop_lst
    refine ⟨?_, ?_, hspares, ?_, ?_, ?_, ?_, State.setDrop_state _, State.setDrop_pending _, State.setDrop_err _,
      State.setDrop_refuses, rfl, heq⟩
    all_goals rw [hlst, Lst.dropSet]
  case refine_4 =>
    rintro m z _ rfl hg h
    exact congrArg Host.Outcome.next ((csAbort_granted hg).trans (State.csAbort_refused h))

/-- Settles O3: each event in the state that admits it; a check that fails is refused under its code. -/
theorem commitsAreValidatedOrRefused : Obligations.CommitsAreValidatedOrRefused := by
  unfold Obligations.CommitsAreValidatedOrRefused
  refine ⟨?_, ?_, ?_, ?_, ?_⟩
  case refine_1 =>
    rintro m z _ rfl hg h
    exact congrArg Host.Outcome.next ((commitGo_granted hg).trans (State.commitGo_validates h))
  case refine_2 =>
    rintro m z _ rfl hg h
    exact congrArg Host.Outcome.next ((commitGo_granted hg).trans (State.commitGo_refused h))
  case refine_3 =>
    intro s h hc
    exact congrArg Host.Outcome.next (commitValidated_passes h hc)
  case refine_4 =>
    intro s code page h hc hcode
    exact congrArg Host.Outcome.next ((commitValidated_fails h hc).trans (State.commitRefused_unpaged hcode))
  case refine_5 =>
    intro s page h hc
    exact congrArg Host.Outcome.next ((commitValidated_fails h hc).trans (s.commitRefused_page page))

/-- Settles O60: a COMMIT_GO that finds no open set is an error of the page alone, and UPD_CMD.OPEN in a trial is its result alone. -/
theorem commitAndOpenAreRefused : Obligations.CommitAndOpenAreRefused := by
  unfold Obligations.CommitAndOpenAreRefused
  refine ⟨?_, ?_⟩
  case refine_1 =>
    rintro m z _ rfl hg h
    exact ⟨_, congrArg Host.Outcome.next ((commitGo_granted hg).trans (State.commitGo_refused h)), rfl, State.err_count,
      State.err_lst .., State.err_get (by decide), State.err_get (by decide), State.err_get (by decide), State.err_clr ..⟩
  case refine_2 =>
    rintro m z _ rfl hg ht hb hl
    have hr : (z.sent m).opRefusal 1 ((z.sent m).get Reg.UPD_ADDR_ADDR) = urTRIAL := State.opRefusal_trial hl ht
    have hcmd : (z.sent m).updCmd m 1 = (z.sent m).updResult 1 urTRIAL := by
      have hrefused := State.updCmd_refused (m := m) (op := 1) (by decide) hb (State.loadBarred_staging (by decide) (by decide))
        (by rw [hr]; decide)
      rwa [hr] at hrefused
    exact ⟨_, congrArg Host.Outcome.next ((State.updOp_granted hg).trans hcmd), rfl, State.updResult_code _ _ _ (by decide),
      State.updResult_source (by decide), State.updResult_raises (by decide), State.updResult_get _ _ _ (by decide),
      State.updResult_upd ..⟩

end Sys2Proof

/-! The staging window (R43, R50–R54, R302): the bytes that a write changes, the spare pages that it takes, and how a write ends. -/

namespace Sys2Proof.Machine

/-! ### Bytes of Last memory and of the list region -/

/-- A byte written to Last memory moves it, and what of it the host has written, alone. -/
theorem Lst.setByte_frame (l : Lst) (a : Nat) (b : Byte) :
    ∃ w, l.setByte a b = { l with mem := AMap.set zeroByte l.mem a b, written := w } := by
  cases h : l.undef with
  | none => exact ⟨l.written, by simp only [Lst.setByte, h]⟩
  | some d => exact ⟨_, by simp only [Lst.setByte, h]; rfl⟩

/-- Bytes written to Last memory move it, and what of it the host has written, alone. -/
theorem Lst.setBytes_frame (l : Lst) (a : Nat) (bs : List Byte) :
    ∃ m w, l.setBytes a bs = { l with mem := m, written := w } := by
  induction bs generalizing l a with
  | nil => exact ⟨l.mem, l.written, rfl⟩
  | cons b r ih =>
    obtain ⟨m, w, h⟩ := ih (l.setByte a b) (a + 1)
    obtain ⟨v, hb⟩ := l.setByte_frame a b
    refine ⟨m, w, h.trans ?_⟩
    rw [hb]

theorem Lst.byte_of_defined {l : Lst} (h : l.undef = none) (a : Nat) : l.byte a = AMap.get zeroByte l.mem a := by
  simp only [Lst.byte, h]

theorem Lst.byte_setByte {l : Lst} (h : l.undef = none) (a k : Nat) (b : Byte) :
    (l.setByte a b).byte k = if k = a then b else l.byte k := by
  obtain ⟨w, hb⟩ := l.setByte_frame a b
  have hu : (l.setByte a b).undef = none := by rw [hb, h]
  rw [Lst.byte_of_defined h, Lst.byte_of_defined hu, hb]
  split
  case isTrue hk =>
    subst hk
    exact AMap.get_set_same _ _ _ _
  case isFalse hk => exact AMap.get_set_other _ _ _ _ _ hk

/-- Where the bytes are defined, those written read as written and every other one as before. -/
theorem Lst.byte_setBytes {l : Lst} (h : l.undef = none) (a k : Nat) (bs : List Byte) :
    (l.setBytes a bs).byte k = if a ≤ k ∧ k < a + bs.length then bs.getD (k - a) 0 else l.byte k := by
  induction bs generalizing l a with
  | nil => exact (if_neg (by simp only [List.length_nil]; omega)).symm
  | cons b r ih =>
    have hu : (l.setByte a b).undef = none := by
      obtain ⟨w, hb⟩ := l.setByte_frame a b
      rw [hb, h]
    rw [Lst.setBytes, ih hu, Lst.byte_setByte h, List.length_cons]
    obtain hlt | rfl | hgt := Nat.lt_trichotomy k a
    · rw [if_neg (by omega), if_neg (by omega), if_neg (by omega)]
    · rw [if_neg (by omega), if_pos rfl, if_pos (by omega), Nat.sub_self, List.getD_cons_zero]
    · have hidx : k - a = k - (a + 1) + 1 := by omega
      rw [if_neg (Nat.ne_of_gt hgt), hidx, List.getD_cons_succ]
      by_cases hk : k < a + 1 + r.length
      · rw [if_pos (by omega), if_pos (by omega)]
      · rw [if_neg (by omega), if_neg (by omega)]

theorem Lst.page_length (l : Lst) (p : Nat) : (l.page p).length = 256 := by simp [Lst.page]

theorem Lst.page_getD (l : Lst) (p k : Nat) (h : k < 256) : (l.page p).getD k 0 = l.byte (p * 256 + k) := by
  simp [Lst.page, List.getD, h]

/-- The list region with bytes written from an offset on. -/
def listWritten (l : AMap Byte) (off : Nat) (bs : List Byte) : AMap Byte :=
  bs.zipIdx.foldl (fun m c => AMap.set zeroByte m (off + c.2) c.1) l

theorem get_listWritten (l : AMap Byte) (off k : Nat) (bs : List Byte) : AMap.get zeroByte (listWritten l off bs) k =
    if off ≤ k ∧ k < off + bs.length then bs.getD (k - off) 0 else AMap.get zeroByte l k := by
  have hshift : listWritten l off bs = (bs.zipIdx off).foldl (fun m c => AMap.set zeroByte m c.2 c.1) l := by
    rw [List.zipIdx_eq_map_add (i := off), List.foldl_map]
    rfl
  rw [hshift, AMap.get_foldl_zipIdx]
  split
  case isTrue h => rw [List.getD_eq_getElem _ _ (by omega), List.getElem?_eq_getElem (by omega), Option.getD_some]
  case isFalse => rfl

/-! ### Spare pages (R43, R51) -/

/-- A spare page is taken from those given back, else from those not used yet. -/
theorem Lst.alloc_cases {l k : Lst} {x : Nat} (h : l.alloc = some (x, k)) :
    (l.freed = x :: k.freed ∧ k = { l with freed := k.freed }) ∨
    (l.freed = [] ∧ l.fresh < physicalPages ∧ k = { l with fresh := l.fresh + 1 }) := by
  unfold Lst.alloc at h
  split at h
  case h_1 p r hf =>
    obtain ⟨rfl, rfl⟩ := Prod.mk.inj (Option.some.inj h)
    exact .inl ⟨hf, rfl⟩
  case h_2 hf =>
    split at h
    case isTrue hl =>
      obtain ⟨rfl, rfl⟩ := Prod.mk.inj (Option.some.inj h)
      exact .inr ⟨hf, hl, rfl⟩
    case isFalse => cases h

theorem Lst.alloc_frame {l k : Lst} {x : Nat} (h : l.alloc = some (x, k)) : k = { l with freed := k.freed, fresh := k.fresh } := by
  obtain ⟨_, hk⟩ | ⟨_, _, hk⟩ := Lst.alloc_cases h <;> rw [hk]

/-- A page taken is one free page fewer. -/
theorem Lst.alloc_free {l k : Lst} {x : Nat} (h : l.alloc = some (x, k)) : k.free + 1 = l.free := by
  obtain ⟨hf, hk⟩ | ⟨_, hl, hk⟩ := Lst.alloc_cases h
  · have hfresh : k.fresh = l.fresh := by rw [hk]
    simp only [Lst.free, hf, hfresh, List.length_cons]
    omega
  · rw [hk]
    simp only [Lst.free]
    omega

theorem Lst.alloc_of_free {l : Lst} (h : l.free ≠ 0) : ∃ x k, l.alloc = some (x, k) := by
  unfold Lst.alloc
  split
  case h_1 p r _ => exact ⟨p, _, rfl⟩
  case h_2 hf =>
    have hl : l.fresh < physicalPages := by
      simp only [Lst.free, hf, List.length_nil] at h
      omega
    exact ⟨l.fresh, _, if_pos hl⟩

theorem AMap.length_ins_new {V : Type} {m : AMap V} {k : Nat} {v : V} (h : AMap.find m k = none) :
    (AMap.ins m k v).length = m.length + 1 := by
  induction m with
  | nil => rfl
  | cons c r ih =>
    simp only [AMap.find] at h
    split at h
    case isTrue => cases h
    case isFalse hne =>
      simp only [AMap.ins, if_neg hne]
      split
      · rfl
      · simp only [List.length_cons, ih h]

/-- There are n spare pages, within the physical ones, and the staged pages are listed in rising order. -/
structure Lst.SpareOk (n : Nat) (l : Lst) : Prop where
  spares : l.spares = n
  fresh : l.fresh ≤ physicalPages
  staged : AMap.Sorted l.staged

theorem Lst.SpareOk.setBytes {n : Nat} {l : Lst} (h : l.SpareOk n) (a : Nat) (bs : List Byte) : (l.setBytes a bs).SpareOk n := by
  obtain ⟨m, w, heq⟩ := l.setBytes_frame a bs
  rw [heq]
  exact ⟨h.spares, h.fresh, h.staged⟩

/-- Logical page p is staged in physical page x. -/
def Lst.stageTo (l : Lst) (p x : Nat) : Lst := { l with staged := AMap.ins l.staged p x }

/-- Staging a page and writing bytes are apart. -/
theorem Lst.stageTo_setBytes (l : Lst) (p x a : Nat) (bs : List Byte) :
    (l.setBytes a bs).stageTo p x = (l.stageTo p x).setBytes a bs := by
  induction bs generalizing l a with
  | nil => rfl
  | cons b r ih =>
    have hb : (l.setByte a b).stageTo p x = (l.stageTo p x).setByte a b := by
      cases h : l.undef <;> simp only [Lst.setByte, Lst.stageTo, h]
    rw [Lst.setBytes, Lst.setBytes, ih, hb]

/-- A page that a set did not hold is staged in a spare page. -/
theorem Lst.SpareOk.take {n x p : Nat} {l k : Lst} (h : l.SpareOk n) (ha : l.alloc = some (x, k)) (hp : AMap.find l.staged p = none) :
    (k.stageTo p x).SpareOk n := by
  have hk := Lst.alloc_frame ha
  have hheld : k.held = l.held := by rw [hk]
  have hstaged : k.staged = l.staged := by rw [hk]
  have hfree := Lst.alloc_free ha
  refine ⟨?_, ?_, ?_⟩
  · have hn := h.spares
    have hlen : (AMap.ins l.staged p x).length = l.staged.length + 1 := AMap.length_ins_new hp
    simp only [Lst.spares, Lst.free, Lst.stageTo, hheld, hstaged, hlen] at hfree hn ⊢
    omega
  · unfold Lst.stageTo
    obtain ⟨_, hk⟩ | ⟨_, hl, hk⟩ := Lst.alloc_cases ha
    · rw [hk]
      exact h.fresh
    · rw [hk]
      exact hl
  · unfold Lst.stageTo
    rw [hstaged]
    exact AMap.sorted_ins h.staged

/-! ### A write through the window (R50–R54) -/

@[simp] theorem State.perr_lst (s : State) (w : HostWrite) (code : Nat) : (s.perr w code).lst = s.lst := by
  unfold State.perr
  extract_lets
  split <;> rfl

@[simp] theorem State.numbered_lst (s : State) : s.numbered.lst = s.lst := by
  unfold State.numbered
  split <;> rfl

@[simp] theorem State.ownErr_lst (s : State) (m : Master) : (s.ownErr m).lst = s.lst := by cases m <;> rfl

section window
variable {m : Master} {s : State} {off p o x : Nat} {bs : List Byte}

theorem State.stagePage_staged (h : AMap.find s.lst.staged p = some x) :
    s.stagePage p o bs = (none, s.lstSet (fun l => l.setBytes (x * 256 + o) bs)) := by
  simp only [State.stagePage, h]

/-- The Last memory after the first write of page p, to the spare page x, which has been taken from l. -/
def Lst.firstWrite (l k : Lst) (p o x : Nat) (bs : List Byte) : Lst :=
  ((k.stageTo p x).setBytes (x * 256) (l.page (l.phys p))).setBytes (x * 256 + o) bs

theorem State.stagePage_first {k : Lst} (h : AMap.find s.lst.staged p = none) (ha : s.lst.alloc = some (x, k)) :
    s.stagePage p o bs = (none, s.lstSet (fun _ => s.lst.firstWrite k p o x bs)) := by
  rw [Lst.firstWrite, ← Lst.stageTo_setBytes]
  simp only [State.stagePage, h, ha]
  rfl

theorem State.stagePage_full (h : AMap.find s.lst.staged p = none) (ha : s.lst.alloc = none) :
    s.stagePage p o bs = (some .staging, s.put Reg.LST_STAT_NO_SPARE 1) := by
  simp only [State.stagePage, h, ha]

theorem Lst.SpareOk.firstWrite {n : Nat} {l k : Lst} (h : l.SpareOk n) (ha : l.alloc = some (x, k)) (hp : AMap.find l.staged p = none) :
    (l.firstWrite k p o x bs).SpareOk n := ((h.take ha hp).setBytes _ _).setBytes _ _

theorem State.stagePage_spareOk {n : Nat} (h : s.lst.SpareOk n) : (s.stagePage p o bs).2.lst.SpareOk n := by
  cases hf : AMap.find s.lst.staged p with
  | some x =>
    rw [State.stagePage_staged hf]
    exact h.setBytes _ _
  | none =>
    cases ha : s.lst.alloc with
    | some r =>
      rw [State.stagePage_first hf ha]
      exact h.firstWrite ha hf
    | none =>
      rw [State.stagePage_full hf ha]
      exact h

/-- A write through the window, however it ends, keeps the spare pages. -/
theorem State.stagingWrite_spareOk {n : Nat} (h : s.lst.SpareOk n) : (s.stagingWrite m off bs).2.lst.SpareOk n := by
  have hkeep {c : Prop} [Decidable c] {a b : Acc} (ha : a.2.lst.SpareOk n) (hb : b.2.lst.SpareOk n) :
      (if c then a else b).2.lst.SpareOk n := keeps_ite_snd (P := fun u : State => u.lst.SpareOk n) ha hb
  have hown : (s.ownErr m).lst.SpareOk n := by rwa [State.ownErr_lst]
  have herr : (s.err pgLST (off % 4096) ecLOCKED m).lst.SpareOk n := by rwa [State.err_lst]
  unfold State.stagingWrite
  extract_lets page list
  refine hkeep h (hkeep h (hkeep h (hkeep h (hkeep hown (hkeep herr (hkeep ?_ (hkeep ?_ h)))))))
  · exact hkeep (h.setBytes _ _) (hkeep (State.stagePage_spareOk h) h)
  · exact ⟨h.spares, h.fresh, h.staged⟩

theorem State.stagingReport_spareOk {n : Nat} (h : s.lst.SpareOk n) : (s.stagingReport m off bs).lst.SpareOk n := by
  have hw := State.stagingWrite_spareOk (m := m) (off := off) (bs := bs) h
  unfold State.stagingReport
  split
  case h_1 t heq => rwa [heq] at hw
  case h_2 e t heq =>
    rw [heq] at hw
    cases m
    case host => simpa only [State.perr_lst] using hw
    case sideband => exact hw
    case firmware => exact hw

theorem stagingWrite_spareOk {n : Nat} (h : s.lst.SpareOk n) : (stagingWrite m off bs s).lst.SpareOk n := by
  cases m
  case host => exact State.stagingReport_spareOk (by rwa [State.numbered_lst])
  case sideband =>
    change (if s.sbOn then s.stagingReport .sideband off bs else s).lst.SpareOk n
    split
    · exact State.stagingReport_spareOk h
    · exact h
  case firmware => exact State.stagingReport_spareOk h

variable (hg : s.grants m pgLST) (hz : stagingSize off bs.length = true)
include hg hz

/-- A write of an allowed size that the LST page takes goes on to the part of the window that it names. -/
theorem State.stagingWrite_granted : s.stagingWrite m off bs =
    if off < 0xE00000 then
      if s.lsState = lsHOST_LOAD then (none, s.lstSet (fun l => l.setBytes off bs))
      else if s.lsState = lsOPEN && s.livePage (off / 256) then s.stagePage (off / 256) (off % 256) bs
      else (some .staging, s)
    else if off < 0xE10000 && s.lsState = lsOPEN then
      (none, s.lstSet (fun l => { l with list := listWritten s.lst.list (off - 0xE00000) bs }))
    else (some .staging, s) := by
  obtain ⟨⟨_, hh, _, hp, hr⟩, ho, hl⟩ := hg
  have hlock : (s.flag Reg.PG_LOCK_LOCK pgLST && decide (m ≠ .firmware)) = false := by
    obtain hl | hl := hl <;> simp [hl]
  simp only [State.stagingWrite, hh, hz, hp, hr, ho, hlock, Bool.not_true, Bool.false_eq_true, if_false, listWritten]

theorem State.stagingWrite_page (ho : s.lsState = lsOPEN) (hoff : off < 0xE00000) (hl : s.livePage (off / 256) = true) :
    s.stagingWrite m off bs = s.stagePage (off / 256) (off % 256) bs := by
  rw [State.stagingWrite_granted hg hz, if_pos hoff, if_neg (by rw [ho]; decide), if_pos (by simp [ho, hl])]

theorem State.stagingWrite_list (ho : s.lsState = lsOPEN) (hl : 0xE00000 ≤ off) (hh : off < 0xE10000) : s.stagingWrite m off bs =
    (none, s.lstSet (fun l => { l with list := listWritten s.lst.list (off - 0xE00000) bs })) := by
  rw [State.stagingWrite_granted hg hz, if_neg (by omega), if_pos (by simp [ho, hh])]

theorem State.stagingWrite_refused (ho : s.lsState ≠ lsOPEN) (hh : s.lsState ≠ lsHOST_LOAD) :
    s.stagingWrite m off bs = (some .staging, s) := by
  have hpage : ¬ (s.lsState = lsOPEN && s.livePage (off / 256)) = true := by simp [ho]
  have hlist : ¬ (off < 0xE10000 && s.lsState = lsOPEN) = true := by simp [ho]
  rw [State.stagingWrite_granted hg hz, if_neg hh, if_neg hpage, if_neg hlist, ite_self]

end window

/-! ### The commands (R52–R54, R302) -/

section commands
variable {m : Master} {z t : State} {off : Nat} {bs : List Byte}

/-- A write that is taken leaves what it wrote. -/
theorem State.stagingAnswer_taken (hg : (z.sent m).grants m pgLST) (h : (z.sent m).stagingWrite m off bs = (none, t)) :
    z.stagingAnswer m off bs = t := by
  obtain ⟨⟨hb, _⟩, _⟩ := hg
  have hreport : (z.sent m).stagingReport m off bs = t := by simp only [State.stagingReport, h]
  cases m
  case host => exact hreport
  case sideband => exact (if_pos (hb rfl)).trans hreport
  case firmware => exact hreport

/-- A write of the host that finds no open set is one entry of the posted-error log. -/
theorem State.stagingAnswer_refused {s : State} (hs : s = z.sent .host) (hg : s.grants .host pgLST) (hz : stagingSize off bs.length = true)
    (ho : s.lsState ≠ lsOPEN) (hh : s.lsState ≠ lsHOST_LOAD) : z.stagingAnswer .host off bs =
      s.perr ⟨0x1000000 + off, 0xF, bs, s.get Reg.WLT_WR_SEQ_SEQ, s.confirmed (0x1000000 + off)⟩ 6 := by
  subst hs
  change (z.sent .host).stagingReport .host off bs = _
  simp only [State.stagingReport, State.stagingWrite_refused hg hz ho hh]
  rfl

end commands

/-- The bytes after the first write of a page: those written, then the page as it was committed, then memory as it was. -/
theorem Lst.firstWrite_byte {l k : Lst} {p o x a : Nat} {bs : List Byte} (hu : l.undef = none) (ha : l.alloc = some (x, k)) :
    (l.firstWrite k p o x bs).byte a = if x * 256 + o ≤ a ∧ a < x * 256 + o + bs.length then bs.getD (a - (x * 256 + o)) 0
      else if x * 256 ≤ a ∧ a < x * 256 + 256 then l.byte (l.phys p * 256 + (a - x * 256)) else l.byte a := by
  have hk := Lst.alloc_frame ha
  have hku : (k.stageTo p x).undef = none := by rw [hk]; exact hu
  have hkb : (k.stageTo p x).byte a = l.byte a := by rw [hk]; rfl
  have hcu : ((k.stageTo p x).setBytes (x * 256) (l.page (l.phys p))).undef = none := by
    obtain ⟨m, w, heq⟩ := (k.stageTo p x).setBytes_frame (x * 256) (l.page (l.phys p))
    rw [heq, hku]
  rw [Lst.firstWrite, Lst.byte_setBytes hcu, Lst.byte_setBytes hku, Lst.page_length, hkb]
  refine ite_congr rfl (fun _ => rfl) fun _ => ite_congr rfl (fun h => ?_) fun _ => rfl
  exact Lst.page_getD _ _ _ (by omega)

/-- The first write of a page stages it, and leaves the mapping. -/
theorem Lst.firstWrite_staged {l k : Lst} {p o x : Nat} {bs : List Byte} (ha : l.alloc = some (x, k)) :
    AMap.find (l.firstWrite k p o x bs).staged p = some x ∧ (l.firstWrite k p o x bs).ind = l.ind := by
  have hk := Lst.alloc_frame ha
  have hind : (k.stageTo p x).ind = l.ind := by rw [hk]; rfl
  unfold Lst.firstWrite
  obtain ⟨m, w, hcopy⟩ := (k.stageTo p x).setBytes_frame (x * 256) (l.page (l.phys p))
  obtain ⟨m', w', hwrite⟩ := ((k.stageTo p x).setBytes (x * 256) (l.page (l.phys p))).setBytes_frame (x * 256 + o) bs
  rw [hwrite, hcopy]
  exact ⟨AMap.find_ins_same _ _ _, hind⟩

/-! ### The spare pages of the other events (R58, R64) -/

theorem Lst.dropHeld_spares (l : Lst) : l.dropHeld.spares = l.spares := by
  simp only [Lst.spares, Lst.free, Lst.dropHeld, List.length_append, List.length_map, List.length_nil]
  omega

/-- A flip holds a page for each one that it takes. -/
theorem Lst.flip_spares {l : Lst} (h : l.held = []) : l.flip.spares = l.spares := by
  simp only [Lst.spares, Lst.free, Lst.flip, h, List.length_map, List.length_nil, Nat.add_zero]

theorem epochDrainEnd_spares (s : State) : (epochDrainEnd s).lst.spares = s.lst.spares := by
  unfold epochDrainEnd
  split
  · rfl
  · exact s.lst.dropHeld_spares

/-- What the gate and its reports leave of Last memory is what the write left. -/
theorem State.direct_lst {P : Lst → Prop} {s : State} {m : Master} {page off : Nat} {k : State → State} (h : P s.lst)
    (hk : ∀ u : State, u.lst = s.lst → P (k u).lst) : P (s.direct m page off k).lst := by
  have hgate (u : State) (hu : u.lst = s.lst) : P (u.gate m page off k).2.lst := by
    have hP : P u.lst := hu ▸ h
    have hkeep {c : Prop} [Decidable c] {a b : Acc} (ha : P a.2.lst) (hb : P b.2.lst) : P (if c then a else b).2.lst :=
      keeps_ite_snd (P := fun u : State => P u.lst) ha hb
    have hown : P (u.ownErr m).lst := by rwa [State.ownErr_lst]
    have herr : P (u.err page off ecLOCKED m).lst := by rwa [State.err_lst]
    exact hkeep hP (hkeep hP (hkeep hP (hkeep hP (hkeep hown (keeps_ite (P := fun u : State => P u.lst) herr (hk u hu))))))
  have hanswer (u : State) (r : Acc) (hr : P r.2.lst) : P (u.answer m page off r).lst := by
    unfold State.answer
    split
    case h_1 => exact hr
    case h_2 e t =>
      cases m
      case host => simpa only [State.perr_lst] using hr
      case sideband => exact hr
      case firmware => exact hr
  unfold State.direct State.command
  cases m
  case host => exact hanswer _ _ (hgate _ s.numbered_lst)
  case sideband =>
    change P (if s.sbOn then s.answer .sideband page off (s.gate .sideband page off k) else s).lst
    split
    · exact hanswer _ _ (hgate _ rfl)
    · exact h
  case firmware => exact hanswer _ _ (hgate _ rfl)

end Sys2Proof.Machine

namespace Sys2Proof
open Machine

/-- Settles O2: a write that is taken is one of the window's equations, and one that is not is an entry of the posted-error log. -/
theorem stagingWritesChangeOnlyTheirBytes : Obligations.StagingWritesChangeOnlyTheirBytes := by
  unfold Obligations.StagingWritesChangeOnlyTheirBytes
  refine ⟨?_, ?_, ?_, ?_, ?_⟩
  case refine_1 =>
    rintro m z _ off bs x rfl hg ho hu hz hoff hl hx
    have hwrite := (State.stagingWrite_page hg hz ho hoff hl).trans (State.stagePage_staged hx)
    obtain ⟨c, w, heq⟩ := (z.sent m).lst.setBytes_frame (x * 256 + off % 256) bs
    have hstaged := congrArg Lst.staged heq
    have hind := congrArg Lst.ind heq
    exact ⟨_, congrArg Host.Outcome.next (State.stagingAnswer_taken hg hwrite), rfl, hstaged, hind, fun a => Lst.byte_setBytes hu _ _ _⟩
  case refine_2 =>
    rintro m z _ off bs rfl hg ho hu hz hoff hl hx hf
    obtain ⟨x, k, ha⟩ := Lst.alloc_of_free hf
    have hwrite := (State.stagingWrite_page hg hz ho hoff hl).trans (State.stagePage_first hx ha)
    obtain ⟨hstaged, hind⟩ := Lst.firstWrite_staged (p := off / 256) (o := off % 256) (bs := bs) ha
    exact ⟨_, x, congrArg Host.Outcome.next (State.stagingAnswer_taken hg hwrite), by rw [ha]; rfl, rfl, hstaged, hind,
      fun a => Lst.firstWrite_byte hu ha⟩
  case refine_3 =>
    rintro m z _ off bs rfl hg ho hz hoff
    have hwrite := State.stagingWrite_list hg hz ho (by omega) (by omega)
    rw [Nat.add_sub_cancel_left] at hwrite
    exact ⟨_, congrArg Host.Outcome.next (State.stagingAnswer_taken hg hwrite), rfl, rfl, rfl, fun a => get_listWritten _ _ _ _⟩
  case refine_4 =>
    intro z s off bs hs hg ho hh hz _
    exact congrArg Host.Outcome.next (State.stagingAnswer_refused hs hg hz ho hh)
  case refine_5 =>
    intro z s off bs hs hg ho hh hz _
    have haddr : 0x1000000 + (0xE00000 + off) = 0x1E00000 + off := by omega
    have hrefused := State.stagingAnswer_refused hs hg hz ho hh
    rw [haddr] at hrefused
    exact congrArg Host.Outcome.next hrefused

/-- Settles O5: a write keeps `Lst.SpareOk`; the other events move pages between the free, the staged and the held. -/
theorem sparePagesAreConserved : Obligations.SparePagesAreConserved := by
  unfold Obligations.SparePagesAreConserved
  refine ⟨?_, ?_, ?_, ?_, ?_⟩
  case refine_1 =>
    intro m off bs s t hf hs h
    obtain rfl := Host.Outcome.next.inj h
    obtain ⟨hspares, hfresh, hstaged⟩ := stagingWrite_spareOk (m := m) (off := off) (bs := bs) ⟨rfl, hf, hs⟩
    exact ⟨hspares, hfresh, hstaged⟩
  case refine_2 =>
    intro m s t h
    obtain rfl := Host.Outcome.next.inj h
    refine State.direct_lst (P := fun l => l.spares = s.lst.spares) rfl fun u hu => ?_
    change (u.csAbort m).lst.spares = s.lst.spares
    rw [← hu]
    cases hset : u.setHeld with
    | true => rw [State.csAbort_drops hset, State.setDrop_lst, Lst.dropSet_spares]
    | false => rw [State.csAbort_refused hset, State.err_lst]
  case refine_3 =>
    intro s t h
    obtain rfl := Host.Outcome.next.inj h
    exact epochDrainEnd_spares s
  case refine_4 => exact fun l h => Lst.flip_spares h
  case refine_5 => rfl

end Sys2Proof

/-! The drain limit (R65): what the discarding of an epoch's work leaves of the Last, of its interrupt, and of the copies. -/

namespace Sys2Proof.Machine

/-- A write of a field whose pages all come after a field's cell leaves that cell. -/
theorem State.get_put_later {s : State} {f g : Fld} {v i j m page : Nat} (hg : g.key 0 0 0 < page * 4096 * 128 * 4) (hf : page ≤ f.page) :
    (s.put f v i j m).get g = s.get g := by
  refine State.get_put_other _ _ _ _ _ _ _ _ _ _ (.inr fun e => ?_)
  have := page_le_key f i j m
  omega

/-! ### What discarding leaves (R65, R160) -/

/-- From s to t, frames and copies are discarded: the Last and its interrupt of the drain limit stand, and no copy is added. -/
structure State.Sheds (s t : State) : Prop where
  lst : t.lst = s.lst
  limit : t.get Reg.LST_IRQ_DRAIN_LIMIT = s.get Reg.LST_IRQ_DRAIN_LIMIT
  copies : t.clr.copies ⊆ s.clr.copies

section Sheds
variable {s t u : State}

theorem State.Sheds.refl (s : State) : s.Sheds s := ⟨rfl, rfl, List.Subset.refl _⟩

/-- Other components may change. -/
theorem State.Sheds.upd (h : s.Sheds t) (hr : u.regs = t.regs) (hl : u.lst = t.lst) (hc : u.clr.copies = t.clr.copies) : s.Sheds u where
  lst := hl.trans h.lst
  limit := by
    simp only [State.get, hr]
    exact h.limit
  copies := hc ▸ h.copies

theorem State.Sheds.put (h : s.Sheds t) {f : Fld} {v i j m : Nat} (hf : 0x031 ≤ f.page) : s.Sheds (t.put f v i j m) where
  lst := h.lst
  limit := (State.get_put_later (by decide) hf).trans h.limit
  copies := h.copies

theorem State.Sheds.drained (h : s.Sheds t) (n : Nat) : s.Sheds (t.drained n) where
  lst := h.lst
  limit := (State.get_put_apart (by decide)).trans h.limit
  copies := h.copies

theorem State.Sheds.sliceServed (h : s.Sheds t) (n : Nat) : s.Sheds (t.sliceServed n) := by
  unfold State.sliceServed
  extract_lets x y
  have hcounted : s.Sheds (t.incWrap Reg.FAB_XFER_FULL (y.shakes - x.shakes) n) := h.put (by decide)
  exact keeps_ite h (hcounted.upd rfl rfl rfl)

theorem State.Sheds.xferDrop (h : s.Sheds t) (p : XferOf → Bool) : s.Sheds (t.xferDrop p) := by
  have hnow : s.Sheds t.fabNow := keeps_foldl (fun _ n hu => hu.sliceServed n) h
  exact keeps_ite h (hnow.upd rfl rfl rfl)

theorem State.Sheds.freeCells (h : s.Sheds t) (cs : List Nat) : s.Sheds (t.freeCells cs) := h.upd rfl rfl rfl

theorem State.Sheds.modFrame (h : s.Sheds t) (id : Nat) (g : Frame → Frame) : s.Sheds (t.modFrame id g) := h.upd rfl rfl rfl

theorem State.Sheds.reap (h : s.Sheds t) : s.Sheds t.reap := h.upd rfl rfl rfl

theorem State.Sheds.creditSync (h : s.Sheds t) (p : Nat) : s.Sheds (t.creditSync p) :=
  keeps_foldl (fun _ _ hu => keeps_ite (hu.upd rfl rfl rfl) hu) h

theorem State.Sheds.svcDrop (h : s.Sheds t) (i kind : Nat) : s.Sheds (t.svcDrop i kind) := by
  unfold State.svcDrop
  extract_lets n _ counted
  have hcounted : s.Sheds counted := h.upd rfl rfl rfl
  exact keeps_ite (hcounted.put (by decide)) (keeps_ite (hcounted.drained 1) hcounted)

theorem State.Sheds.rmCopy (h : s.Sheds t) (id : Nat) : s.Sheds (t.rmCopy id) := by
  unfold State.rmCopy
  split
  · exact h
  · extract_lets freed gone turned
    have hfreed : s.Sheds freed := (h.freeCells _).xferDrop _
    have hgone : s.Sheds gone := ⟨hfreed.lst, hfreed.limit, fun c hc => hfreed.copies (List.mem_filter.mp hc).1⟩
    have hturned : s.Sheds turned := keeps_ite hgone (hgone.upd rfl rfl rfl)
    split
    · exact hturned
    · exact keeps_ite hturned (hturned.upd rfl rfl rfl)

theorem State.Sheds.dropCopy (h : s.Sheds t) (c : Copy) (kind : Nat) : s.Sheds (t.dropCopy c kind) :=
  ((h.creditSync _).svcDrop _ _).rmCopy _

theorem State.Sheds.mirrorLost (h : s.Sheds t) (fid : Nat) : s.Sheds (t.mirrorLost fid) := by
  unfold State.mirrorLost
  extract_lets due dropped
  have hdropped : s.Sheds dropped := keeps_foldl (fun u n hu => by
    have hcount : s.Sheds (u.inc Reg.MIR_DROPPED_COUNT 1 0 (n - 1)) := hu.put (by decide)
    exact State.Sheds.put (keeps_ite (hcount.put (by decide)) hcount) (by decide)) h
  exact hdropped.modFrame _ _

theorem State.Sheds.emptyFrame (h : s.Sheds t) (fid : Nat) : s.Sheds (t.emptyFrame fid) :=
  ((h.freeCells _).xferDrop _).modFrame _ _

theorem State.Sheds.dropFrame (h : s.Sheds t) (fid : Nat) (counted : Bool) : s.Sheds (t.dropFrame fid counted) :=
  keeps_ite (((h.emptyFrame fid).modFrame _ _).reap) ((h.emptyFrame fid).modFrame _ _)

theorem State.Sheds.purgeAwl (h : s.Sheds t) (ep : Nat) : s.Sheds (t.purgeAwl ep) := by
  unfold State.purgeAwl
  extract_lets _ _ _ _ _ _ _ _ drawn purged
  have hpurged : s.Sheds purged := h.upd rfl rfl rfl
  exact hpurged.drained _

end Sheds

/-! ### Copies discarded together -/

/-- No copy has the number any more. -/
def State.CopyGone (id : Nat) (s : State) : Prop := ∀ c ∈ s.clr.copies, c.id ≠ id

theorem State.CopyGone.sheds {id : Nat} {s t : State} (h : s.CopyGone id) (hs : s.Sheds t) : t.CopyGone id :=
  fun c hc => h c (hs.copies hc)

theorem State.rmCopy_gone (s : State) (id : Nat) : (s.rmCopy id).CopyGone id := by
  unfold State.rmCopy
  split
  case h_1 h =>
    intro c hc he
    exact List.find?_eq_none.mp h c hc (beq_iff_eq.mpr he)
  case h_2 =>
    extract_lets freed gone turned
    have hgone : gone.CopyGone id := fun c hc => bne_iff_ne.mp (List.mem_filter.mp hc).2
    have hturned : turned.CopyGone id := keeps_ite (P := State.CopyGone id) hgone hgone
    split
    · exact hturned
    · exact keeps_ite (P := State.CopyGone id) hturned hturned

theorem foldl_dropCopy_gone {cs : List Copy} {c : Copy} {kind : Nat} (s : State) (h : c ∈ cs) :
    (cs.foldl (fun s c => s.dropCopy c kind) s).CopyGone c.id :=
  foldl_establishes (Q := State.CopyGone c.id) s h (fun _ => State.rmCopy_gone _ _)
    fun u x hu => hu.sheds ((State.Sheds.refl u).dropCopy x kind)

theorem foldl_dropCopy_sheds (s : State) (cs : List Copy) (kind : Nat) : s.Sheds (cs.foldl (fun s c => s.dropCopy c kind) s) :=
  keeps_foldl (fun _ c hu => hu.dropCopy c kind) (.refl s)

/-! ### DRAIN_LIMIT_EXPIRY -/

/-- No frame of a purged epoch is left in an AP input queue. -/
theorem State.purgeAwl_ap {s : State} {ep e : Nat} {q : List ApFrame} {f : ApFrame} (h : (e, q) ∈ (s.purgeAwl ep).awl.ap) (hf : f ∈ q) :
    f.epoch ≠ ep := by
  obtain ⟨r, _, hr⟩ := List.mem_map.mp (show (e, q) ∈ s.awl.ap.map (fun q => (q.1, q.2.filter (fun f => f.epoch != ep))) from h)
  obtain ⟨_, rfl⟩ := Prod.mk.inj hr
  exact bne_iff_ne.mp (List.mem_filter.mp hf).2

/-- The limit is marked and shown. -/
def State.limitShown (s : State) : State := (s.lstSet (fun l => { l with purged := true })).raise Reg.LST_IRQ_DRAIN_LIMIT

/-- The copies of an epoch that have not begun are discarded. -/
def State.shedCopies (s : State) (ep : Nat) : State :=
  (s.clr.copies.filter (fun c => c.epoch == ep && !c.begun)).foldl (fun s c => s.dropCopy c dkEpoch) s

/-- The frames of an epoch that are inside the device are discarded. -/
def State.shedFrames (s : State) (ep : Nat) : State :=
  (s.clr.frames.filter (fun f => f.epoch == ep && f.stage != .out && f.lost.isNone &&
    !(decide (f.port < 33) && f.stage == .waiting))).foldl (fun s f => ((s.drained 1).mirrorLost f.id).dropFrame f.id) s

theorem drainLimitExpiry_purges {s : State} (hd : s.flag Reg.LST_STAT_DRAINING = true) (hp : s.lst.purged = false) :
    drainLimitExpiry s = (((s.limitShown.shedCopies (s.get Reg.LST_EPOCH_PREV)).shedFrames (s.get Reg.LST_EPOCH_PREV)).purgeAwl
      (s.get Reg.LST_EPOCH_PREV)).reap := if_neg (by simp [hd, hp])

theorem drainLimitExpiry_idle {s : State} (h : s.flag Reg.LST_STAT_DRAINING = false ∨ s.lst.purged = true) : drainLimitExpiry s = s :=
  if_pos (by obtain h | h := h <;> simp [h])

theorem State.shedFrames_sheds (s : State) (ep : Nat) : s.Sheds (s.shedFrames ep) :=
  keeps_foldl (fun _ f hu => ((hu.drained 1).mirrorLost f.id).dropFrame f.id false) (.refl s)

/-- A copy that is left was there, and has begun if it is of the epoch. -/
theorem State.shedCopies_left {s : State} {ep : Nat} {c : Copy} (hc : c ∈ (s.shedCopies ep).clr.copies) :
    c ∈ s.clr.copies ∧ (c.epoch = ep → c.begun = true) := by
  have hin : c ∈ s.clr.copies := (foldl_dropCopy_sheds s _ dkEpoch).copies hc
  refine ⟨hin, fun he => ?_⟩
  by_contra hb
  have hshed : c ∈ s.clr.copies.filter (fun c => c.epoch == ep && !c.begun) :=
    List.mem_filter.mpr ⟨hin, by simp [he, hb]⟩
  exact foldl_dropCopy_gone (kind := dkEpoch) s hshed c hc rfl

end Sys2Proof.Machine

namespace Sys2Proof
open Machine

/-- Settles O6: every copy of the epoch that has not begun is discarded, and what follows adds none. -/
theorem drainLimitPurgesThePreviousEpoch : Obligations.DrainLimitPurgesThePreviousEpoch := by
  unfold Obligations.DrainLimitPurgesThePreviousEpoch
  refine ⟨?_, ?_⟩
  case refine_1 =>
    intro s hd hp
    have hcopies : s.limitShown.Sheds (s.limitShown.shedCopies (s.get Reg.LST_EPOCH_PREV)) := foldl_dropCopy_sheds _ _ _
    have hrest := (((State.shedFrames_sheds (s.limitShown.shedCopies (s.get Reg.LST_EPOCH_PREV)) (s.get Reg.LST_EPOCH_PREV)).purgeAwl
      (s.get Reg.LST_EPOCH_PREV)).reap)
    refine ⟨_, congrArg Host.Outcome.next (drainLimitExpiry_purges hd hp), ?_, ?_, fun c hc => ?_, fun e q f hq hf => ?_⟩
    · rw [hrest.limit, hcopies.limit]
      exact State.get_raise_bit (.inr (.inr rfl)) rfl
    · rw [hrest.lst, hcopies.lst]
      rfl
    · exact State.shedCopies_left (s := s.limitShown) (hrest.copies hc)
    · exact State.purgeAwl_ap hq hf
  case refine_2 =>
    intro s h
    exact congrArg Host.Outcome.next (drainLimitExpiry_idle h)

end Sys2Proof

/-! The full reload (R69, R70): one equation per case of each command. -/

namespace Sys2Proof.Machine

/-! ### LST_RELOAD (R69) -/

section reload
variable {m : Master} {z s : State}

theorem State.reloadWrite_starts {flash host : Bool} (h : flash ≠ host) (hr : s.reloading = false) (hb : s.booting = false) :
    s.reloadWrite m flash host false = s.reloadStart host := by
  have hboth : (flash && host) = false := by cases flash <;> cases host <;> simp_all
  have hone : (flash || host) = true := by cases flash <;> cases host <;> simp_all
  simp [State.reloadWrite, hboth, hone, hr, hb]

theorem State.reloadWrite_goes (h : s.lsState = lsHOST_LOAD) : s.reloadWrite m false false true =
    (s.put Reg.LST_STAT_STATE 4).lstSet (fun l => { l with fromHost := true }) := by
  simp only [State.reloadWrite, h, beq_self_eq_true, Bool.and_self, if_true, Bool.or_self, Bool.false_eq_true, if_false]
  rfl

theorem reloadFlash_granted (hg : (z.sent m).grants m pgLST) : reloadFlash m z = (z.sent m).reloadWrite m true false false :=
  z.direct_of_grants m _ _ _ hg

theorem reloadHost_granted (hg : (z.sent m).grants m pgLST) : reloadHost m z = (z.sent m).reloadWrite m false true false :=
  z.direct_of_grants m _ _ _ hg

theorem reloadGo_granted (hg : (z.sent m).grants m pgLST) : reloadGo m z = (z.sent m).reloadWrite m false false true :=
  z.direct_of_grants m _ _ _ hg

theorem hostLoadTimeout_goes (h : s.lsState = lsHOST_LOAD) : hostLoadTimeout s = s.put Reg.LST_STAT_STATE 4 := if_pos h

/-! ### RELOAD_IMAGE_READ_DONE (R47, R70) -/

variable {ok : Bool} {img : Image}

theorem Upd.lastImage_eq {u : Upd} {k : Nat} {e : ManEntry} (h : manPart (u.manifest k) 5 = some e) :
    u.lastImage k = some (fun a => u.byte (slotBase k + e.offset + a)) := by
  rw [Upd.lastImage, h]
  rfl

section reads
variable (hs : s.lsState = lsRELOADING) (ha : s.lst.applying = false)
include hs ha

theorem reloadImageReadDone_host (hh : s.lst.fromHost = true) : reloadImageReadDone ok s =
    if imageOk s.lst.byte then (s.imageTable s.lst.byte).lstSet (fun l => { l with applying := true })
    else ((s.put Reg.LST_STAT_ERR 0x11).raise Reg.LST_IRQ_RELOAD_FAIL).lstSet (fun l => { l with fromHost := false }) := by
  simp only [reloadImageReadDone, hs, ha, hh, bne_self_eq_false, Bool.or_self, Bool.false_eq_true, if_false, if_true]

theorem reloadImageReadDone_flash (hh : s.lst.fromHost = false) (hm : s.upd.lastImage s.activeSlot = some img) :
    reloadImageReadDone ok s =
      if ok && imageOk img then ((s.imageStore img).imageTable img).lstSet (fun l => { l with applying := true }) else s.lastLost := by
  simp only [reloadImageReadDone, hs, ha, hh, hm, bne_self_eq_false, Bool.or_self, Bool.false_eq_true, if_false]

theorem reloadImageReadDone_noSlot (hh : s.lst.fromHost = false) (hm : s.upd.lastImage s.activeSlot = none) :
    reloadImageReadDone ok s = s.lastLost := by
  simp only [reloadImageReadDone, hs, ha, hh, hm, bne_self_eq_false, Bool.or_self, Bool.false_eq_true, if_false]

theorem reloadImageReadDone_noAnswer (hh : s.lst.fromHost = false) : reloadImageReadDone false s = s.lastLost := by
  cases hm : s.upd.lastImage s.activeSlot with
  | none => exact reloadImageReadDone_noSlot hs ha hh hm
  | some img => exact (reloadImageReadDone_flash hs ha hh hm).trans (if_neg Bool.false_ne_true)

theorem reloadImageReadDone_flashBad (hh : s.lst.fromHost = false) (hm : s.upd.lastImage s.activeSlot = some img)
    (hi : ok = false ∨ imageOk img = false) : reloadImageReadDone ok s = s.lastLost :=
  (reloadImageReadDone_flash hs ha hh hm).trans (if_neg (by obtain hi | hi := hi <;> simp [hi]))

theorem reloadImageReadDone_flashGood (hh : s.lst.fromHost = false) (hm : s.upd.lastImage s.activeSlot = some img)
    (hi : imageOk img = true) :
    reloadImageReadDone true s = ((s.imageStore img).imageTable img).lstSet (fun l => { l with applying := true }) :=
  (reloadImageReadDone_flash hs ha hh hm).trans (if_pos (by rw [Bool.true_and, hi]))

end reads

/-! ### RELOAD_DONE (R69 step 4) -/

theorem reloadDone_applies (hs : s.lsState = lsRELOADING) (ha : s.lst.applying = true) : reloadDone s =
    ((((s.put Reg.LST_STAT_LOADED 1).lstSet (fun l => { l with apart := none })).modesChanged
      ((((s.incWrap Reg.LST_GEN_GEN).incWrap Reg.LST_EPOCH_CUR).put Reg.LST_STAT_DRAINING 0).put Reg.LST_STAT_LIVE
        (b2n s.lst.fromHost))).lastApply (fun _ => true)).raise Reg.LST_IRQ_RELOAD_DONE :=
  if_neg (by simp [hs, ha])

end reload

end Sys2Proof.Machine

namespace Sys2Proof
open Machine

/-- Settles O7: each command in the state that admits it, and the image's source and its checks decide how a reload goes on. -/
theorem reloadsTakeTheirImage : Obligations.ReloadsTakeTheirImage := by
  unfold Obligations.ReloadsTakeTheirImage
  refine ⟨?_, ?_, ?_, ?_, ?_, ?_, ?_, ?_, ?_, ?_⟩
  case refine_1 =>
    rintro m z _ rfl hg hr hb
    exact ⟨congrArg Host.Outcome.next ((reloadFlash_granted hg).trans (State.reloadWrite_starts (by decide) hr hb)),
      congrArg Host.Outcome.next ((reloadHost_granted hg).trans (State.reloadWrite_starts (by decide) hr hb))⟩
  case refine_2 =>
    rintro m z _ rfl hg h
    exact congrArg Host.Outcome.next ((reloadGo_granted hg).trans (State.reloadWrite_goes h))
  case refine_3 =>
    intro s h
    exact congrArg Host.Outcome.next (hostLoadTimeout_goes h)
  case refine_4 =>
    intro ok s hs ha hh hi
    exact congrArg Host.Outcome.next ((reloadImageReadDone_host hs ha hh).trans (if_pos hi))
  case refine_5 =>
    intro ok s hs ha hh hi
    exact congrArg Host.Outcome.next ((reloadImageReadDone_host hs ha hh).trans (if_neg (ne_true_of_eq_false hi)))
  case refine_6 =>
    intro s hs ha hh
    exact congrArg Host.Outcome.next (reloadImageReadDone_noAnswer hs ha hh)
  case refine_7 =>
    rintro ok s e _ hs ha hh hm rfl hi
    exact congrArg Host.Outcome.next (reloadImageReadDone_flashBad hs ha hh (Upd.lastImage_eq hm) hi)
  case refine_8 =>
    rintro s e _ hs ha hh hm rfl hi
    exact congrArg Host.Outcome.next (reloadImageReadDone_flashGood hs ha hh (Upd.lastImage_eq hm) hi)
  case refine_9 => exact fun s => rfl
  case refine_10 =>
    intro s hs ha
    exact congrArg Host.Outcome.next (reloadDone_applies hs ha)

end Sys2Proof

/-! FLIP and EPOCH_DRAIN_END (R56, R64): what a flip of no staged page leaves of LST_EPOCH.PREV, which is a field of two bits. -/

namespace Sys2Proof.Machine

/-! ### LST_EPOCH.PREV as the channels begin to run (R242, R260, R377)

`ChannelsKeep` is for the pages before 0x012; the page of the Last is after it. -/

/-- LST_EPOCH.PREV reads v. -/
def State.PrevIs (v : Nat) (s : State) : Prop := s.get Reg.LST_EPOCH_PREV = v

section PrevIs
variable {v : Nat} {s t : State}

theorem State.PrevIs.of_regs (h : s.PrevIs v) (hr : t.regs = s.regs) : t.PrevIs v := by
  unfold State.PrevIs State.get
  rw [hr]
  exact h

theorem State.PrevIs.put (h : s.PrevIs v) {f : Fld} {w i j m : Nat} (hf : 0x031 ≤ f.page) : (s.put f w i j m).PrevIs v :=
  (State.get_put_later (by decide) hf).trans h

theorem State.PrevIs.txFailed (h : s.PrevIs v) (c : Nat) : (s.txFailed c).PrevIs v := by
  unfold State.txFailed
  extract_lets x
  split
  · rename_i n m _
    have hidle : (s.canSet c { x with sending := .idle }).PrevIs v := h
    have hmissed : ((s.canSet c { x with sending := .idle }).slotMissed c).PrevIs v :=
      State.PrevIs.put (State.PrevIs.put hidle (by decide)) (by decide)
    exact keeps_ite (P := State.PrevIs v) hmissed (keeps_ite (P := State.PrevIs v) (hidle.put (by decide)) h)
  · exact h

theorem State.PrevIs.canFit (h : s.PrevIs v) (c : Nat) : (s.canFit c).PrevIs v := by
  unfold State.canFit
  extract_lets st hold on st' shown failed
  have hshown : shown.PrevIs v := h.put (by decide)
  exact keeps_ite (P := State.PrevIs v) (hshown.txFailed c) (keeps_ite (P := State.PrevIs v) (hshown.txFailed c) hshown)

theorem State.PrevIs.canTake (h : s.PrevIs v) (c : Nat) : (s.canTake c).PrevIs v := by
  unfold State.canTake
  split
  · exact h
  · extract_lets taken _ due same fit st
    have hdue : due.PrevIs v := h
    have hfit : fit.PrevIs v := hdue.canFit c
    exact keeps_ite (P := State.PrevIs v) (hfit.put (by decide)) hfit

theorem State.PrevIs.canSync (h : s.PrevIs v) (c : Nat) : (s.canSync c).PrevIs v :=
  keeps_ite (P := State.PrevIs v) ((h.canFit c).canTake c) (h.canFit c)

theorem State.PrevIs.txmNext (h : s.PrevIs v) (k : Nat) : (s.txmNext k).PrevIs v := by
  unfold State.txmNext
  extract_lets waits
  split
  · exact h
  · split <;> exact h

theorem State.PrevIs.canHold (h : s.PrevIs v) (c n : Nat) : (s.canHold c n).PrevIs v :=
  State.PrevIs.canSync (s := s.canSet c { s.can c with hold := n }) h c

theorem State.PrevIs.txmRequest (h : s.PrevIs v) (c st : Nat) (setup cmd : Bool) : (s.txmRequest c st setup cmd).PrevIs v := by
  unfold State.txmRequest
  extract_lets x y asked followed done
  have hasked : asked.PrevIs v := h
  have hfollowed : followed.PrevIs v := h
  have hdone : done.PrevIs v := keeps_ite (P := State.PrevIs v) ((State.get_raise_apart (by decide)).trans hfollowed) hfollowed
  exact keeps_ite (P := State.PrevIs v) h (keeps_ite (P := State.PrevIs v) ((hasked.txmNext _).canHold c 1)
    ((hdone.txmNext _).canHold c _))

theorem State.PrevIs.txmSync (h : s.PrevIs v) : s.txmSync.PrevIs v :=
  keeps_ite (P := State.PrevIs v) h
    (keeps_foldl (P := State.PrevIs v) (fun _ c hu => keeps_ite (P := State.PrevIs v) hu (hu.txmRequest c _ _ _)) h)

theorem State.PrevIs.linSync (h : s.PrevIs v) (l : Nat) : (s.linSync l).PrevIs v := by
  unfold State.linSync
  extract_lets on asleep st old shown role fresh table
  have hold : old.PrevIs v := keeps_ite (P := State.PrevIs v) h h
  have hrole : role.PrevIs v := State.PrevIs.put (hold.put (by decide)) (by decide)
  have hfresh : fresh.PrevIs v := hrole
  have htable : table.PrevIs v := State.PrevIs.put (hfresh.put (by decide)) (by decide)
  exact keeps_ite (P := State.PrevIs v) (State.PrevIs.put (htable.put (by decide)) (by decide)) hrole

theorem State.PrevIs.channelSync (h : s.PrevIs v) : s.channelSync.PrevIs v :=
  keeps_foldl (P := State.PrevIs v) (fun _ l hu => hu.linSync l)
    (keeps_foldl (P := State.PrevIs v) (fun _ c hu => hu.canSync c) h.txmSync)

end PrevIs

/-! ### Streams, and the domains under a held reset -/

theorem State.apRefused_regs (s : State) (p : Nat) : (s.apRefused p).regs = s.regs ∧ (s.apRefused p).pwr = s.pwr :=
  keeps_ite (P := fun u : State => u.regs = s.regs ∧ u.pwr = s.pwr) ⟨rfl, rfl⟩ ⟨rfl, rfl⟩

/-- An open stream that is sent moves no register, and nothing of the power unit. -/
theorem State.streamSend_regs (s : State) (k : Nat) : (s.streamSend k).regs = s.regs ∧ (s.streamSend k).pwr = s.pwr := by
  unfold State.streamSend
  extract_lets x
  split
  · exact ⟨rfl, rfl⟩
  · split
    · exact ⟨rfl, rfl⟩
    · extract_lets kind sent
      exact keeps_ite (P := fun u : State => u.regs = s.regs ∧ u.pwr = s.pwr) ⟨rfl, rfl⟩ (sent.apRefused_regs _)

theorem channelsKeep_pwr (w : Pwr) : ChannelsKeep (fun t => t.pwr = w) where
  put ht _ := ht
  awl _ ht := ht
  wak _ ht := ht

/-- Whether a supply reset is held is not for the domains to change. -/
theorem State.domSync_down (s : State) : s.domSync.pwr.down = s.pwr.down := by
  unfold State.domSync
  refine keeps_ite (P := fun u : State => u.pwr.down = s.pwr.down) rfl ?_
  extract_lets held used all moded want keep8 marked lowered
  have hmode (u : State) (n : Nat) : (u.modeSet n).pwr = u.pwr := keeps_ite (P := fun t : State => t.pwr = u.pwr) rfl rfl
  have hmoded : moded.pwr.down = s.pwr.down := keeps_ite (P := fun u : State => u.pwr.down = s.pwr.down)
    (congrArg Pwr.down (hmode s _)) (keeps_ite (P := fun u : State => u.pwr.down = s.pwr.down) (congrArg Pwr.down (hmode s _)) rfl)
  have hlowered : lowered.pwr.down = s.pwr.down := by
    refine keeps_foldl (P := fun u : State => u.pwr.down = s.pwr.down) (fun u d hu => ?_) hmoded
    have hoff : (u.domainDown d).pwr = u.pwr.without d := (State.domainDown_power (s := u) ⟨rfl, rfl⟩ d).1
    refine keeps_ite (P := fun u : State => u.pwr.down = s.pwr.down) hu (keeps_ite (P := fun u : State => u.pwr.down = s.pwr.down)
      (keeps_ite (P := fun u : State => u.pwr.down = s.pwr.down) hu hu) ?_)
    rw [hoff]
    exact hu
  exact keeps_foldl (P := fun u : State => u.pwr.down = s.pwr.down)
    (fun u d hu => keeps_ite (P := fun u : State => u.pwr.down = s.pwr.down) hu hu) hlowered

theorem State.domSync_held {s : State} (h : s.pwr.down = true) : s.domSync = s := by
  have hlive : s.domainsLive = false := by simp [State.domainsLive, h]
  exact if_pos (by rw [hlive, Bool.not_false])

/-! ### A flip of no staged page -/

section noneStaged
variable {old s : State} (h : old.lst.staged = [])
include h

theorem State.flipPages_none (k : Nat) : old.flipPages k = [] := by simp [State.flipPages, h]

theorem State.flipMeters_none : old.flipMeters s = s := by simp [State.flipMeters, State.flipPages_none h]

theorem State.flipSched_none : old.flipSched s = s := by simp [State.flipSched, State.flipPages_none h, sortedNub]

theorem State.flipPolicy_none : old.flipPolicy s = s := by simp [State.flipPolicy, State.flipPages_none h]

theorem State.flipChannels_none : old.flipChannels s = s := by simp [State.flipChannels, State.flipPages_none h, sortedNub]

theorem State.flipLace_none : old.flipLace s = s := by
  have hlist (p : Nat) : listChanged [] p = false := by simp [listChanged]
  simp [State.flipLace, State.flipPages_none h, hlist]

/-- Without a staged page, a flip has the streams, the channels and the domains follow alone. -/
theorem State.flipBlocks_none :
    old.flipBlocks s = (((s.awl.streams.map (fun x => x.1)).foldl (fun s k => s.streamSend k) s).channelSync.usesNow).domSync := by
  simp only [State.flipBlocks, State.flipMeters_none h, State.flipSched_none h, State.flipPolicy_none h, State.flipChannels_none h,
    State.flipPages_none h, List.isEmpty_nil, if_true, State.flipLace_none h]

/-- It leaves whether a supply reset is held, and under a held one LST_EPOCH.PREV. -/
theorem State.flipBlocks_none_keeps : (old.flipBlocks s).pwr.down = s.pwr.down ∧
    (s.pwr.down = true → (old.flipBlocks s).get Reg.LST_EPOCH_PREV = s.get Reg.LST_EPOCH_PREV) := by
  obtain ⟨hregs, hpwr⟩ : ((s.awl.streams.map (fun x => x.1)).foldl (fun s k => s.streamSend k) s).regs = s.regs ∧
      ((s.awl.streams.map (fun x => x.1)).foldl (fun s k => s.streamSend k) s).pwr = s.pwr :=
    keeps_foldl (P := fun u : State => u.regs = s.regs ∧ u.pwr = s.pwr)
      (fun u k hu => ⟨(u.streamSend_regs k).1.trans hu.1, (u.streamSend_regs k).2.trans hu.2⟩) ⟨rfl, rfl⟩
  rw [State.flipBlocks_none h]
  generalize (s.awl.streams.map (fun x => x.1)).foldl (fun s k => s.streamSend k) s = sent at hregs hpwr ⊢
  have hchannels : sent.channelSync.pwr = s.pwr := (channelsKeep_pwr s.pwr).channelSync hpwr
  have hused : sent.channelSync.usesNow.pwr.down = sent.channelSync.pwr.down := rfl
  have hdown : sent.channelSync.usesNow.pwr.down = s.pwr.down := hused.trans (congrArg Pwr.down hchannels)
  have hsent : sent.PrevIs (s.get Reg.LST_EPOCH_PREV) := State.PrevIs.of_regs (s := s) rfl hregs
  refine ⟨(State.domSync_down _).trans hdown, fun hs => ?_⟩
  rw [State.domSync_held (hdown.trans hs)]
  exact hsent.channelSync

end noneStaged

/-- The state in which a flip's effects on the other blocks begin: R56 steps 4 and 5 upon the Last's own fields. -/
def State.flipped (s : State) : State :=
  let cur := s.get Reg.LST_EPOCH_CUR
  let t := ((s.lstSet (fun l => { l.flip with flipAt := s.now })).put Reg.LST_EPOCH_PREV cur).put Reg.LST_EPOCH_CUR (cur + 1)
  let t := ((t.put Reg.LST_STAT_STATE 0).put Reg.LST_STAT_PENDING 0).put Reg.LST_STAT_DRAINING 1
  let t := (t.incWrap Reg.LST_GEN_GEN).put Reg.LST_FLIP_TIME_NS t.time32
  (t.put Reg.LST_STAT_LIVE 1).raise Reg.LST_IRQ_FLIPPED

theorem flip_due {s : State} (hp : s.lsState = lsPENDING) (hd : s.flag Reg.LST_STAT_DRAINING = false) :
    flip s = ((List.range 37).foldl State.creditSync s).flipBlocks ((List.range 37).foldl State.creditSync s).flipped :=
  if_neg (by simp [hp, hd])

/-- The old epoch is PREV, cut to the two bits of the field. -/
theorem State.flipped_prev (s : State) : s.flipped.get Reg.LST_EPOCH_PREV = s.get Reg.LST_EPOCH_CUR % 4 := by
  unfold State.flipped
  extract_lets cur epochs states timed
  have hepochs : epochs.get Reg.LST_EPOCH_PREV = cur % 4 := (State.get_put_apart (by decide)).trans (State.get_put_held (by decide))
  have hstates : states.get Reg.LST_EPOCH_PREV = epochs.get Reg.LST_EPOCH_PREV :=
    (State.get_put_apart (by decide)).trans ((State.get_put_apart (by decide)).trans (State.get_put_apart (by decide)))
  have htimed : timed.get Reg.LST_EPOCH_PREV = states.get Reg.LST_EPOCH_PREV :=
    (State.get_put_apart (by decide)).trans (State.get_put_apart (by decide))
  calc ((timed.put Reg.LST_STAT_LIVE 1).raise Reg.LST_IRQ_FLIPPED).get Reg.LST_EPOCH_PREV
      = timed.get Reg.LST_EPOCH_PREV := (State.get_raise_apart (by decide)).trans (State.get_put_apart (by decide))
    _ = cur % 4 := htimed.trans (hstates.trans hepochs)

theorem State.creditSyncs_frame (s : State) (ps : List Nat) : (ps.foldl State.creditSync s).regs = s.regs ∧
    (ps.foldl State.creditSync s).lst = s.lst ∧ (ps.foldl State.creditSync s).pwr = s.pwr := by
  have hsync (u : State) (p : Nat) (hu : u.lst = s.lst ∧ u.pwr = s.pwr) : (u.creditSync p).lst = s.lst ∧ (u.creditSync p).pwr = s.pwr :=
    keeps_foldl (P := fun t : State => t.lst = s.lst ∧ t.pwr = s.pwr)
      (fun _ _ ht => keeps_ite (P := fun t : State => t.lst = s.lst ∧ t.pwr = s.pwr) ht ht) hu
  exact keeps_foldl (P := fun u : State => u.regs = s.regs ∧ u.lst = s.lst ∧ u.pwr = s.pwr)
    (fun u p hu => ⟨(u.creditSync_regs p).trans hu.1, hsync u p hu.2⟩) ⟨rfl, rfl, rfl⟩

/-- Under a held supply reset, a flip of no staged page begins its effects on the other blocks, wherever that may be said to be, with
the old epoch cut to two bits in PREV. -/
theorem flip_prev_cut {s old u : State} (hp : s.lsState = lsPENDING) (hd : s.flag Reg.LST_STAT_DRAINING = false)
    (hs : s.lst.staged = []) (hr : s.pwr.down = true) (ho : old = (List.range 37).foldl State.creditSync s)
    (hu : flip s = old.flipBlocks u) : u.get Reg.LST_EPOCH_PREV = s.get Reg.LST_EPOCH_CUR % 4 := by
  obtain ⟨hregs, hlst, hpwr⟩ := s.creditSyncs_frame (List.range 37)
  rw [← ho] at hregs hlst hpwr
  have hstaged : old.lst.staged = [] := hlst ▸ hs
  have hheld : old.flipped.pwr.down = true := (congrArg Pwr.down hpwr).trans hr
  have hcur : old.get Reg.LST_EPOCH_CUR = s.get Reg.LST_EPOCH_CUR := by rw [State.get, hregs, State.get]
  have heq : old.flipBlocks old.flipped = old.flipBlocks u := by
    rw [← hu, flip_due hp hd, ← ho]
  obtain ⟨hdown, hkept⟩ := State.flipBlocks_none_keeps (s := old.flipped) hstaged
  obtain ⟨hdown', hkept'⟩ := State.flipBlocks_none_keeps (s := u) hstaged
  have hheld' : u.pwr.down = true := by rw [← hdown', ← heq, hdown, hheld]
  calc u.get Reg.LST_EPOCH_PREV
      = (old.flipBlocks u).get Reg.LST_EPOCH_PREV := (hkept' hheld').symm
    _ = (old.flipBlocks old.flipped).get Reg.LST_EPOCH_PREV := by rw [heq]
    _ = old.flipped.get Reg.LST_EPOCH_PREV := hkept hheld
    _ = old.get Reg.LST_EPOCH_CUR % 4 := old.flipped_prev
    _ = s.get Reg.LST_EPOCH_CUR % 4 := by rw [hcur]

/-- A commit is pending, a supply reset is held, and the cell of LST_EPOCH.CUR holds 4, which its two bits do not. -/
def wideEpoch : State :=
  { State.reset with
    regs := { State.reset.regs with v := [(Reg.LST_STAT_STATE.key 0 0 0, 5), (Reg.LST_EPOCH_CUR.key 0 0 0, 4)] }
    pwr := { Pwr.init with down := true } }

end Sys2Proof.Machine

namespace Sys2Proof
open Machine

/-- Refutes O4: a flip writes the epoch that ends to LST_EPOCH.PREV, a field of two bits, and the statement speaks of every state, also
of one whose cell of LST_EPOCH.CUR holds more than the field.  In `wideEpoch` CUR reads 4 and PREV reads 0 after the flip's own
writes; no page is staged, so the effects on the other blocks leave PREV, and no other u fits. -/
theorem not_flipsTakeStagedPagesAndDrainsFreeThem : ¬ Obligations.FlipsTakeStagedPagesAndDrainsFreeThem := by
  unfold Obligations.FlipsTakeStagedPagesAndDrainsFreeThem
  rintro ⟨hflip, -⟩
  obtain ⟨u, hexec, -, hprev, -⟩ := hflip wideEpoch (by decide) (by decide)
  have hcut := flip_prev_cut (s := wideEpoch) (by decide) (by decide) rfl rfl rfl (Host.Outcome.next.inj hexec)
  have hcur : ((List.range 37).foldl State.creditSync wideEpoch).get Reg.LST_EPOCH_CUR = wideEpoch.get Reg.LST_EPOCH_CUR := by
    rw [State.get, (wideEpoch.creditSyncs_frame (List.range 37)).1, State.get]
  exact absurd (hcut.symm.trans (hprev.trans hcur)) (by decide)

end Sys2Proof
